-- ==== Sys2Proof/Word.lean ====
section
/-! DEFINITION. Words, bytes, register fields and keyed tables: the plain data every other file is written in. -/

namespace Sys2Proof

/-- A 32-bit word: a register, a memory word, a binary32 value (R10, R154). -/
abbrev W := BitVec 32
/-- A byte of memory or of a frame. -/
abbrev Byte := BitVec 8
/-- An instant of STIME, in fine ticks of 62.5 ps (chapter 02). -/
abbrev Time := BitVec 64

/-- A field of a register: its least significant bit and its width. -/
structure Fld where
  lo : Nat
  wd : Nat
deriving DecidableEq, Repr

/-- The number in bits `lo + wd - 1 : lo` of `x`. -/
def bitsOf (x lo wd : Nat) : Nat := (x >>> lo) % 2 ^ wd

/-- `x` with bits `lo + wd - 1 : lo` replaced by `v` (taken modulo `2 ^ wd`). -/
def withBits (x lo wd v : Nat) : Nat :=
  x - (bitsOf x lo wd) * 2 ^ lo + (v % 2 ^ wd) * 2 ^ lo

/-- Field `f` of word `w`. -/
def W.fld (w : W) (f : Fld) : Nat := bitsOf w.toNat f.lo f.wd

/-- Word `w` with field `f` set to `v`. -/
def W.setFld (w : W) (f : Fld) (v : Nat) : W := BitVec.ofNat 32 (withBits w.toNat f.lo f.wd v)

/-- Bit `i` of `w`. -/
def W.bit (w : W) (i : Nat) : Bool := w.toNat.testBit i

/-- Word `w` with bit `i` set or cleared. -/
def W.setBit (w : W) (i : Nat) (b : Bool) : W := W.setFld w ⟨i, 1⟩ b.toNat

/-- The number 1 for true and 0 for false. -/
def b2n (b : Bool) : Nat := b.toNat

/-- A two's complement number of `wd` bits. -/
def signedOf (wd v : Nat) : Int :=
  if v % 2 ^ wd < 2 ^ (wd - 1) then (v % 2 ^ wd : Nat) else ((v % 2 ^ wd : Nat) : Int) - (2 ^ wd : Nat)

/-- The `wd`-bit two's complement code of an integer. -/
def unsignedOf (wd : Nat) (i : Int) : Nat := (i % ((2 ^ wd : Nat) : Int)).toNat

/-- An integer clamped to a range. -/
def clampI (lo hi x : Int) : Int := if x < lo then lo else if hi < x then hi else x

/-- A count that saturates at the largest value of `wd` bits. -/
def satInc (wd v : Nat) : Nat := if v + 1 < 2 ^ wd then v + 1 else 2 ^ wd - 1

/-- A saturating sum in `wd` bits. -/
def satAdd (wd v k : Nat) : Nat := if v + k < 2 ^ wd then v + k else 2 ^ wd - 1

/-- A table keyed by number: a list of pairs, keys strictly rising.
An instance that is not listed holds its reset value. -/
abbrev Tab (α : Type) := List (Nat × α)

/-- The entry of key `k`, or `d` where none is listed. -/
def Tab.getD {α : Type} (d : α) : Tab α → Nat → α
  | [], _ => d
  | (k', v) :: r, k => if k' = k then v else Tab.getD d r k

/-- The table with `v` at key `k`. -/
def Tab.set {α : Type} (k : Nat) (v : α) : Tab α → Tab α
  | [] => [(k, v)]
  | (k', v') :: r =>
    if k < k' then (k, v) :: (k', v') :: r
    else if k' = k then (k, v) :: r
    else (k', v') :: Tab.set k v r

/-- The table without key `k`. -/
def Tab.erase {α : Type} (k : Nat) : Tab α → Tab α
  | [] => []
  | (k', v') :: r => if k' = k then Tab.erase k r else (k', v') :: Tab.erase k r

/-- Is a key listed? -/
def Tab.has {α : Type} (t : Tab α) (k : Nat) : Bool := t.any (fun p => p.1 == k)

/-- Keys strictly rising. -/
def Tab.wf {α : Type} (t : Tab α) : Bool := (t.zip t.tail).all (fun p => decide (p.1.1 < p.2.1))

/-- The numbers of the one bits of `x` among the lowest `n`, rising. -/
def oneBits (n x : Nat) : List Nat := (List.range n).filter (fun i => x.testBit i)

/-- The bytes of a number, least significant first (R10). -/
def leBytes (n v : Nat) : List Byte := (List.range n).map (fun i => BitVec.ofNat 8 (v >>> (8 * i)))

/-- The bytes of a number, most significant first. -/
def beBytes (n v : Nat) : List Byte := (leBytes n v).reverse

/-- The number spelled by bytes, least significant first (R10). -/
def leNat (bs : List Byte) : Nat := bs.foldr (fun b acc => b.toNat + 256 * acc) 0

/-- The number spelled by bytes, most significant first. -/
def beNat (bs : List Byte) : Nat := leNat bs.reverse

/-- `n` bytes of a list from offset `o`, zero where the list ends. -/
def sliceB (bs : List Byte) (o n : Nat) : List Byte :=
  let x := (bs.drop o).take n
  x ++ List.replicate (n - x.length) 0

end Sys2Proof
end

