-- ==== Sys2Proof/Machine/Crypto.lean ====
section
/-! DEFINITION. The checks and the cryptography that the rules name: CRC-32 (R173), CRC-8 (R90), the SENT CRC-4 (R231),
SHA-256, HMAC-SHA-256 and ECDSA over P-256 (R53, R408). -/

namespace Sys2Proof.Machine

/-! ## Cyclic redundancy checks -/

/-- One byte into the reflected CRC-32 register. -/
def crc32Byte (c : W) (b : Byte) : W :=
  (List.range 8).foldl (fun c _ => if c.toNat.testBit 0 then (c >>> 1) ^^^ 0xEDB88320#32 else c >>> 1)
    (c ^^^ b.setWidth 32)

/-- CRC-32 of R173: polynomial 0x04C11DB7, initial value and final XOR 0xFFFFFFFF, reflected. -/
def crc32 (bs : List Byte) : W := bs.foldl crc32Byte 0xFFFFFFFF#32 ^^^ 0xFFFFFFFF#32

/-- CRC-8 of R90: polynomial 0x2F, initial value and final XOR 0xFF, not reflected. -/
def crc8 (bs : List Byte) : Byte :=
  (bs.foldl (fun c b =>
    (List.range 8).foldl (fun (c : Byte) _ => if c.toNat.testBit 7 then (c <<< 1) ^^^ 0x2F#8 else c <<< 1) (c ^^^ b))
    0xFF#8) ^^^ 0xFF#8

/-- The CRC-4 of J2716: polynomial x^4 + x^3 + x^2 + 1, seed 0b0101; `extra` adds the zero nibble of the recommended
method. -/
def crc4 (extra : Bool) (ns : List Nat) : Nat :=
  let step (c n : Nat) : Nat :=
    (List.range 4).foldl (fun c _ => if c.testBit 3 then ((c * 2) ^^^ 13) % 16 else c * 2 % 16) (c % 16) ^^^ n
  let r := ns.foldl step 5
  if extra then step r 0 else r

/-- The CRC-6 of the enhanced serial message: polynomial x^6 + x^4 + x^3 + 1, seed 0b010101, over the message bits with
six zero bits after them. -/
def crc6 (bits : List Bool) : Nat :=
  (bits ++ List.replicate 6 false).foldl (fun c b =>
    let c2 := c * 2 + b2n b
    if c2.testBit 6 then (c2 ^^^ 0x59) % 64 else c2) 0x15

/-! ## SHA-256 and HMAC -/

def shaK : List W :=
  [0x428a2f98, 0x71374491, 0xb5c0fbcf, 0xe9b5dba5, 0x3956c25b, 0x59f111f1, 0x923f82a4, 0xab1c5ed5,
   0xd807aa98, 0x12835b01, 0x243185be, 0x550c7dc3, 0x72be5d74, 0x80deb1fe, 0x9bdc06a7, 0xc19bf174,
   0xe49b69c1, 0xefbe4786, 0x0fc19dc6, 0x240ca1cc, 0x2de92c6f, 0x4a7484aa, 0x5cb0a9dc, 0x76f988da,
   0x983e5152, 0xa831c66d, 0xb00327c8, 0xbf597fc7, 0xc6e00bf3, 0xd5a79147, 0x06ca6351, 0x14292967] ++
  [0x27b70a85, 0x2e1b2138, 0x4d2c6dfc, 0x53380d13, 0x650a7354, 0x766a0abb, 0x81c2c92e, 0x92722c85,
   0xa2bfe8a1, 0xa81a664b, 0xc24b8b70, 0xc76c51a3, 0xd192e819, 0xd6990624, 0xf40e3585, 0x106aa070,
   0x19a4c116, 0x1e376c08, 0x2748774c, 0x34b0bcb5, 0x391c0cb3, 0x4ed8aa4a, 0x5b9cca4f, 0x682e6ff3,
   0x748f82ee, 0x78a5636f, 0x84c87814, 0x8cc70208, 0x90befffa, 0xa4506ceb, 0xbef9a3f7, 0xc67178f2]

def shaInit : List W :=
  [0x6a09e667, 0xbb67ae85, 0x3c6ef372, 0xa54ff53a, 0x510e527f, 0x9b05688c, 0x1f83d9ab, 0x5be0cd19]

/-- The message schedule, newest word first. -/
def shaSchedule (block : List W) : List W :=
  ((List.range 48).foldl (fun (ws : List W) _ =>
    let g := fun i => ws.getD i 0
    let w15 := g 14
    let w2 := g 1
    let s0 := w15.rotateRight 7 ^^^ w15.rotateRight 18 ^^^ (w15 >>> 3)
    let s1 := w2.rotateRight 17 ^^^ w2.rotateRight 19 ^^^ (w2 >>> 10)
    (g 15 + s0 + g 6 + s1) :: ws) block.reverse).reverse

/-- One block into the hash. -/
def shaBlock (h : List W) (block : List W) : List W :=
  let r := ((shaSchedule block).zip shaK).foldl (fun (v : List W) wk =>
    let g := fun i => v.getD i 0
    let a := g 0
    let e := g 4
    let s1 := e.rotateRight 6 ^^^ e.rotateRight 11 ^^^ e.rotateRight 25
    let ch := (e &&& g 5) ^^^ (~~~e &&& g 6)
    let t1 := g 7 + s1 + ch + wk.2 + wk.1
    let s0 := a.rotateRight 2 ^^^ a.rotateRight 13 ^^^ a.rotateRight 22
    let mj := (a &&& g 1) ^^^ (a &&& g 2) ^^^ (g 1 &&& g 2)
    [t1 + s0 + mj, a, g 1, g 2, g 3 + t1, e, g 5, g 6]) h
  (h.zip r).map (fun p => p.1 + p.2)

/-- Big-endian words of bytes. -/
def beWords : List Byte → List W
  | a :: b :: c :: d :: r => BitVec.ofNat 32 (beNat [a, b, c, d]) :: beWords r
  | _ => []

def shaBlocks : Nat → List W → List W → List W
  | 0, h, _ => h
  | n + 1, h, ws => shaBlocks n (shaBlock h (ws.take 16)) (ws.drop 16)

/-- SHA-256 of a message. -/
def sha256 (m : List Byte) : List Byte :=
  let k := (119 - m.length % 64) % 64
  let padded := m ++ [0x80#8] ++ List.replicate k 0 ++ beBytes 8 (8 * m.length)
  (shaBlocks (padded.length / 64) shaInit (beWords padded)).flatMap (fun w => beBytes 4 w.toNat)

/-- HMAC-SHA-256 under a key of at most 64 bytes. -/
def hmac256 (key m : List Byte) : List Byte :=
  let k := key ++ List.replicate (64 - key.length) 0
  sha256 (k.map (· ^^^ 0x5C#8) ++ sha256 (k.map (· ^^^ 0x36#8) ++ m))

/-! ## ECDSA over P-256 (FIPS 186) -/

def p256P : Nat := 0xffffffff00000001000000000000000000000000ffffffffffffffffffffffff
def p256N : Nat := 0xffffffff00000000ffffffffffffffffbce6faada7179e84f3b9cac2fc632551
def p256B : Nat := 0x5ac635d8aa3a93e7b3ebbd55769886bc651d06b0cc53b0f63bce3c3e27d2604b
def p256G : Nat × Nat :=
  (0x6b17d1f2e12c4247f8bce6e563a440f277037d812deb33a0f4a13945d898c296,
   0x4fe342e2fe1a7f9b8ee7eb4a7c0f9e162bce33576b315ececbb6406837bf51f5)

/-- The inverse modulo a prime, by Fermat: square and multiply from the top bit. -/
def invMod (m x : Nat) : Nat :=
  (List.range 256).foldl (fun r i =>
    let r := r * r % m
    if (m - 2).testBit (255 - i) then r * x % m else r) 1

/-- A point in Jacobian coordinates: x = X / Z², y = Y / Z³; Z = 0 is the point at infinity. -/
structure JPoint where
  x : Nat
  y : Nat
  z : Nat
deriving DecidableEq, Repr

/-- Difference modulo the field's prime of two numbers below it. -/
def subP (a b : Nat) : Nat := (a + (p256P - b)) % p256P
def mulP (a b : Nat) : Nat := a * b % p256P

/-- Twice a point. -/
def jDouble (p : JPoint) : JPoint :=
  let d := mulP p.z p.z
  let g := mulP p.y p.y
  let b := mulP p.x g
  let a := mulP (3 * subP p.x d) ((p.x + d) % p256P)
  let x := subP (mulP a a) (8 * b % p256P)
  ⟨x, subP (mulP a (subP (4 * b % p256P) x)) (8 * mulP g g % p256P), mulP (2 * p.y) p.z⟩

/-- The sum of two points. -/
def jAdd (p q : JPoint) : JPoint :=
  if p.z = 0 then q
  else if q.z = 0 then p
  else
    let zp := mulP p.z p.z
    let zq := mulP q.z q.z
    let u := mulP p.x zq
    let s := mulP p.y (mulP q.z zq)
    let h := subP (mulP q.x zp) u
    let r := subP (mulP q.y (mulP p.z zp)) s
    if h = 0 then (if r = 0 then jDouble p else ⟨1, 1, 0⟩)
    else
      let hh := mulP h h
      let hhh := mulP h hh
      let v := mulP u hh
      let x := subP (subP (mulP r r) hhh) (2 * v % p256P)
      ⟨x, subP (mulP r (subP v x)) (mulP s hhh), mulP h (mulP p.z q.z)⟩

/-- `k` times a point, from the top bit. -/
def jMul (k : Nat) (p : JPoint) : JPoint :=
  (List.range 256).foldl (fun r i => if k.testBit (255 - i) then jAdd (jDouble r) p else jDouble r) ⟨1, 1, 0⟩

/-- Verification of a signature r then s over the SHA-256 of a message by a public key X then Y. -/
def ecdsaVerify (pub msg sig : List Byte) : Bool :=
  let x := beNat (sliceB pub 0 32)
  let y := beNat (sliceB pub 32 32)
  let r := beNat (sliceB sig 0 32)
  let s := beNat (sliceB sig 32 32)
  let n := p256N
  let m := p256P
  let onCurve := x < m && y < m && y * y % m = (x * x * x + (m - 3) * x + p256B) % m
  if !onCurve || r = 0 || n ≤ r || s = 0 || n ≤ s then false
  else
    let w := invMod n s
    let e := beNat (sha256 msg)
    let q := jAdd (jMul (e * w % n) ⟨p256G.1, p256G.2, 1⟩) (jMul (r * w % n) ⟨x, y, 1⟩)
    q.z ≠ 0 && mulP q.x (invMod m (mulP q.z q.z)) % n = r

end Sys2Proof.Machine
end

