-- ==== Sys2Proof/Machine/Regs.lean ====
section
/-! DEFINITION. The register map (chapter 22) and the fields of every register, as the owning chapters give them:
an address for each register, a place for each field, and one descriptor per register for its access and reset value. -/

namespace Sys2Proof.Machine

/-- TKP_STAT: time-keeper status (02, RO). -/
abbrev TKP_STAT : Nat := 0x40030000

/-- TKP_STIME_LO: STIME bits 31:0 (02, RO). -/
abbrev TKP_STIME_LO : Nat := 0x40030008

/-- TKP_STIME_HI: STIME bits 63:32 (02, RO). -/
abbrev TKP_STIME_HI : Nat := 0x4003000C

/-- TKP_FSTAMP: frame-stamp counter (02, RO). -/
abbrev TKP_FSTAMP : Nat := 0x40030010

/-- TKP_EPOCH_LO: slot epoch (02, RO). -/
abbrev TKP_EPOCH_LO : Nat := 0x40030018

/-- TKP_EPOCH_HI: slot epoch (02, RO). -/
abbrev TKP_EPOCH_HI : Nat := 0x4003001C

/-- TKP_SLOTEN0: slot enables (02, RW (T0 only)). -/
abbrev TKP_SLOTEN0 : Nat := 0x40030020

/-- TKP_SLOTEN1: slot enables (02, RW (T0 only)). -/
abbrev TKP_SLOTEN1 : Nat := 0x40030024

/-- TKP_COINC0: coincidence flags (02, W1C). -/
abbrev TKP_COINC0 : Nat := 0x40030028

/-- TKP_COINC1: coincidence flags (02, W1C). -/
abbrev TKP_COINC1 : Nat := 0x4003002C

/-- TKP_REFMON: REF deviation (02, RO). -/
abbrev TKP_REFMON : Nat := 0x40030030

/-- TKP_SLOT_PER: slot period (02, CL). -/
abbrev TKP_SLOT_PER (n : Nat) : Nat := 0x40030100 + 0x10 * n

/-- TKP_SLOT_PHS: slot phase (02, CL). -/
abbrev TKP_SLOT_PHS (n : Nat) : Nat := 0x40030104 + 0x10 * n

/-- TKP_SLOT_TGT: slot targets (02, CL). -/
abbrev TKP_SLOT_TGT (n : Nat) : Nat := 0x40030108 + 0x10 * n

/-- TKP_SLOT_CNT: firing count (02, RO). -/
abbrev TKP_SLOT_CNT (n : Nat) : Nat := 0x4003010C + 0x10 * n

/-- RTC_SEC: calendar seconds (02, RO). -/
abbrev RTC_SEC : Nat := 0x40040000

/-- RTC_SUB: sub-seconds (02, RO). -/
abbrev RTC_SUB : Nat := 0x40040004

/-- RTC_STAT: calendar status (02, RO). -/
abbrev RTC_STAT : Nat := 0x40040008

/-- RTC_SETSEC: calendar load value (02, CL). -/
abbrev RTC_SETSEC : Nat := 0x4004000C

/-- RTC_TRIM: crystal trim (02, CL). -/
abbrev RTC_TRIM : Nat := 0x40040010

/-- RTC_CAP: capture control (02, WO/RO). -/
abbrev RTC_CAP : Nat := 0x40040014

/-- RTC_CAPSEC: capture results (02, RO). -/
abbrev RTC_CAPSEC : Nat := 0x40040018

/-- RTC_CAPSUB: capture results (02, RO). -/
abbrev RTC_CAPSUB : Nat := 0x4004001C

/-- RTC_CAPST_LO: capture results (02, RO). -/
abbrev RTC_CAPST_LO : Nat := 0x40040020

/-- RTC_CAPST_HI: capture results (02, RO). -/
abbrev RTC_CAPST_HI : Nat := 0x40040024

/-- RTC_BKP: backup registers (02, RW). -/
abbrev RTC_BKP (k : Nat) : Nat := 0x40040100 + 0x4 * k

/-- SYS_ID: device identity (03, RO). -/
abbrev SYS_ID : Nat := 0x40010000

/-- SYS_STEP: stepping (03, RO). -/
abbrev SYS_STEP : Nat := 0x40010004

/-- SYS_STATE: operating state (03, RO). -/
abbrev SYS_STATE : Nat := 0x40010008

/-- SYS_CTRL: state control (03, WO). -/
abbrev SYS_CTRL : Nat := 0x4001000C

/-- SYS_BOOT: start-up outcome (03, RO). -/
abbrev SYS_BOOT : Nat := 0x40010010

/-- SYS_RSTCAUSE: reset cause (03, W1C). -/
abbrev SYS_RSTCAUSE : Nat := 0x40010014

/-- SYS_CFGDIG0: configuration digest (03, RO). -/
abbrev SYS_CFGDIG0 : Nat := 0x40010018

/-- SYS_CFGDIG1: configuration digest (03, RO). -/
abbrev SYS_CFGDIG1 : Nat := 0x4001001C

/-- SYS_CFGGEN: generation and epoch (03, RO). -/
abbrev SYS_CFGGEN : Nat := 0x40010020

/-- SYS_CFGEPOCH: generation and epoch (03, RO). -/
abbrev SYS_CFGEPOCH : Nat := 0x40010024

/-- SYS_REJECT: last rejection (03, RO). -/
abbrev SYS_REJECT : Nat := 0x40010028

/-- SYS_EVT_HEAD: event log head (03, RO). -/
abbrev SYS_EVT_HEAD : Nat := 0x40010030

/-- SYS_EVT_CNT: events recorded (03, RO). -/
abbrev SYS_EVT_CNT : Nat := 0x40010034

/-- LEG_CFG: leg configuration (04, CL). -/
abbrev LEG_CFG (n : Nat) : Nat := 0x40100000 + 0x200 * n

/-- LEG_STAT: leg status (04, RO). -/
abbrev LEG_STAT (n : Nat) : Nat := 0x40100004 + 0x200 * n

/-- LEG_PER: period (04, CL). -/
abbrev LEG_PER (n : Nat) : Nat := 0x40100008 + 0x200 * n

/-- LEG_MINPW: minimum pulse (04, CL). -/
abbrev LEG_MINPW (n : Nat) : Nat := 0x4010000C + 0x200 * n

/-- LEG_TRIP: trip response (04, CL). -/
abbrev LEG_TRIP (n : Nat) : Nat := 0x40100010 + 0x200 * n

/-- LEG_DT: dead time (04, CL). -/
abbrev LEG_DT (n : Nat) : Nat := 0x40100014 + 0x200 * n

/-- LEG_SHA: committed compare values (04, RW). -/
abbrev LEG_SHA (n : Nat) : Nat := 0x40100018 + 0x200 * n

/-- LEG_SHB: committed compare values (04, RW). -/
abbrev LEG_SHB (n : Nat) : Nat := 0x4010001C + 0x200 * n

/-- LEG_SHIFT: committed edge shifts (04, RW). -/
abbrev LEG_SHIFT (n : Nat) : Nat := 0x40100020 + 0x200 * n

/-- LEG_ACTA: values in use (04, RO). -/
abbrev LEG_ACTA (n : Nat) : Nat := 0x40100024 + 0x200 * n

/-- LEG_ACTB: values in use (04, RO). -/
abbrev LEG_ACTB (n : Nat) : Nat := 0x40100028 + 0x200 * n

/-- LEG_ACTSHIFT: values in use (04, RO). -/
abbrev LEG_ACTSHIFT (n : Nat) : Nat := 0x4010002C + 0x200 * n

/-- LEG_CAL: last pad error (04, RO). -/
abbrev LEG_CAL (n : Nat) : Nat := 0x40100030 + 0x200 * n

/-- LEG_CALAGE: active-line age (04, RO). -/
abbrev LEG_CALAGE (n : Nat) : Nat := 0x40100034 + 0x200 * n

/-- LEG_GLCFG: gate-link configuration (04, CL). -/
abbrev LEG_GLCFG (n : Nat) : Nat := 0x40100038 + 0x200 * n

/-- LEG_GLWL: driver write run (04, CL). -/
abbrev LEG_GLWL (n : Nat) : Nat := 0x4010003C + 0x200 * n

/-- LEG_GLSTAT: last driver status (04, RO). -/
abbrev LEG_GLSTAT (n : Nat) : Nat := 0x40100040 + 0x200 * n

/-- LEG_GLREQ: T0 transaction (04, RW (T0 only)). -/
abbrev LEG_GLREQ (n : Nat) : Nat := 0x40100044 + 0x200 * n

/-- LEG_GLRSP: T0 transaction result (04, RO). -/
abbrev LEG_GLRSP (n : Nat) : Nat := 0x40100048 + 0x200 * n

/-- LEG_FLT: leg faults (04, W1C). -/
abbrev LEG_FLT (n : Nat) : Nat := 0x4010004C + 0x200 * n

/-- LEG_CNT: leg counters (04, RO). -/
abbrev LEG_CNT (n : Nat) : Nat := 0x40100050 + 0x200 * n

/-- LEG_RETLO: retired legs (04, RO). -/
abbrev LEG_RETLO : Nat := 0x40107000

/-- LEG_RETHI: retired legs (04, RO). -/
abbrev LEG_RETHI : Nat := 0x40107004

/-- LEG_GLTAB: gate-driver write table (04, CL). -/
abbrev LEG_GLTAB (i : Nat) : Nat := 0x40108000 + 0x4 * i

/-- ADC_STAT: converter status (05, RO). -/
abbrev ADC_STAT : Nat := 0x40130000

/-- ADC_SLOTMAP: slot assignment (05, RO). -/
abbrev ADC_SLOTMAP : Nat := 0x40130004

/-- ADC_PDCFG: power-down (05, CL). -/
abbrev ADC_PDCFG : Nat := 0x40130008

/-- ADC_FLT: faults (05, W1C). -/
abbrev ADC_FLT : Nat := 0x4013000C

/-- ADC_CALOFS: converter n factors (05, RO). -/
abbrev ADC_CALOFS (n : Nat) : Nat := 0x40130100 + 0x10 * n

/-- ADC_CALGAIN: converter n factors (05, RO). -/
abbrev ADC_CALGAIN (n : Nat) : Nat := 0x40130104 + 0x10 * n

/-- ADC_CALAGE: converter n factors (05, RO). -/
abbrev ADC_CALAGE (n : Nat) : Nat := 0x40130108 + 0x10 * n

/-- ADC_SEQCFG: sequence s (05, CL). -/
abbrev ADC_SEQCFG (s : Nat) : Nat := 0x40130200 + 0x10 * s

/-- ADC_SEQSTAT: sequence s status (05, RO). -/
abbrev ADC_SEQSTAT (s : Nat) : Nat := 0x40130204 + 0x10 * s

/-- ADC_SEQSTAMP_LO: group 0 hold (05, RO). -/
abbrev ADC_SEQSTAMP_LO (s : Nat) : Nat := 0x40130208 + 0x10 * s

/-- ADC_SEQSTAMP_HI: group 0 hold (05, RO). -/
abbrev ADC_SEQSTAMP_HI (s : Nat) : Nat := 0x4013020C + 0x10 * s

/-- ADC_URGREQ: urgent request, slot k, per triad (05, RW). -/
abbrev ADC_URGREQ (k : Nat) : Nat := 0x40130400 + 0x10 * k

/-- ADC_URGRES: urgent result, slot k, per triad (05, RO). -/
abbrev ADC_URGRES (k : Nat) : Nat := 0x40130404 + 0x10 * k

/-- ADC_SEQGO: software triggers (05, WO). -/
abbrev ADC_SEQGO : Nat := 0x40130480

/-- ADC_STEP: step i of sequence s (05, CL). -/
abbrev ADC_STEP (s : Nat) (i : Nat) : Nat := 0x40131000 + 0x80 * s + 0x4 * i

/-- ADC_RES: result of step i of sequence s (05, RO). -/
abbrev ADC_RES (s : Nat) (i : Nat) : Nat := 0x40132000 + 0x80 * s + 0x4 * i

/-- DSM_CFG: channel configuration (05, CL). -/
abbrev DSM_CFG (n : Nat) : Nat := 0x40140000 + 0x100 * n

/-- DSM_OCCFG: fast path (05, CL). -/
abbrev DSM_OCCFG (n : Nat) : Nat := 0x40140004 + 0x100 * n

/-- DSM_SATLIM: saturation level (05, CL). -/
abbrev DSM_SATLIM (n : Nat) : Nat := 0x40140008 + 0x100 * n

/-- DSM_RES: latest output (05, RO). -/
abbrev DSM_RES (n : Nat) : Nat := 0x4014000C + 0x100 * n

/-- DSM_STAMP_LO: window centre (05, RO). -/
abbrev DSM_STAMP_LO (n : Nat) : Nat := 0x40140010 + 0x100 * n

/-- DSM_STAMP_HI: window centre (05, RO). -/
abbrev DSM_STAMP_HI (n : Nat) : Nat := 0x40140014 + 0x100 * n

/-- DSM_STAT: channel status (05, RO). -/
abbrev DSM_STAT (n : Nat) : Nat := 0x40140018 + 0x100 * n

/-- DSM_FLT: channel faults (05, W1C). -/
abbrev DSM_FLT (n : Nat) : Nat := 0x4014001C + 0x100 * n

/-- DSM_CKCFG: clock outputs (05, CL). -/
abbrev DSM_CKCFG : Nat := 0x40142000

/-- CMP_CFG: window configuration (06, CL). -/
abbrev CMP_CFG (n : Nat) : Nat := 0x40150000 + 0x40 * n

/-- CMP_THR: thresholds (06, CL). -/
abbrev CMP_THR (n : Nat) : Nat := 0x40150004 + 0x40 * n

/-- CMP_STAT: window status (06, RO). -/
abbrev CMP_STAT (n : Nat) : Nat := 0x40150008 + 0x40 * n

/-- CMP_RDBK: last DAC readback error (06, RO). -/
abbrev CMP_RDBK (n : Nat) : Nat := 0x4015000C + 0x40 * n

/-- CMP_CNT: window counters (06, RO). -/
abbrev CMP_CNT (n : Nat) : Nat := 0x40150010 + 0x40 * n

/-- CMP_FLT: window faults (06, W1C). -/
abbrev CMP_FLT (n : Nat) : Nat := 0x40150014 + 0x40 * n

/-- CMP_RETLO: retired windows (06, RO). -/
abbrev CMP_RETLO : Nat := 0x40151000

/-- CMP_RETHI: retired windows (06, RO). -/
abbrev CMP_RETHI : Nat := 0x40151004

/-- CMP_STATE0: filtered states (06, RO). -/
abbrev CMP_STATE0 : Nat := 0x40151008

/-- CMP_STATE1: filtered states (06, RO). -/
abbrev CMP_STATE1 : Nat := 0x4015100C

/-- TRP_STAT: trip status (06, RO). -/
abbrev TRP_STAT : Nat := 0x40160000

/-- TRP_REL: release (06, WO (T0 only)). -/
abbrev TRP_REL : Nat := 0x40160004

/-- TRP_SWTRIP: software source (06, RW (T0 only)). -/
abbrev TRP_SWTRIP : Nat := 0x40160008

/-- TRP_EXTCFG: TRIP_IN configuration (06, CL). -/
abbrev TRP_EXTCFG : Nat := 0x4016000C

/-- TRP_SRCCMP0: live source levels (06, RO). -/
abbrev TRP_SRCCMP0 : Nat := 0x40160010

/-- TRP_SRCCMP1: live source levels (06, RO). -/
abbrev TRP_SRCCMP1 : Nat := 0x40160014

/-- TRP_SRCDSM: live source levels (06, RO). -/
abbrev TRP_SRCDSM : Nat := 0x40160018

/-- TRP_SRCPULL0: live source levels (06, RO). -/
abbrev TRP_SRCPULL0 : Nat := 0x4016001C

/-- TRP_SRCPULL1: live source levels (06, RO). -/
abbrev TRP_SRCPULL1 : Nat := 0x40160020

/-- TRP_GCFG: group configuration (06, CL). -/
abbrev TRP_GCFG (g : Nat) : Nat := 0x40160100 + 0x40 * g

/-- TRP_GCMP0: source masks (06, CL). -/
abbrev TRP_GCMP0 (g : Nat) : Nat := 0x40160104 + 0x40 * g

/-- TRP_GCMP1: source masks (06, CL). -/
abbrev TRP_GCMP1 (g : Nat) : Nat := 0x40160108 + 0x40 * g

/-- TRP_GDSM: source masks (06, CL). -/
abbrev TRP_GDSM (g : Nat) : Nat := 0x4016010C + 0x40 * g

/-- TRP_GPULL0: source masks (06, CL). -/
abbrev TRP_GPULL0 (g : Nat) : Nat := 0x40160110 + 0x40 * g

/-- TRP_GPULL1: source masks (06, CL). -/
abbrev TRP_GPULL1 (g : Nat) : Nat := 0x40160114 + 0x40 * g

/-- TRP_GEXT: source masks (06, CL). -/
abbrev TRP_GEXT (g : Nat) : Nat := 0x40160118 + 0x40 * g

/-- TRP_GFIRST: first source (06, RO). -/
abbrev TRP_GFIRST (g : Nat) : Nat := 0x4016011C + 0x40 * g

/-- TRP_GSTAMP_LO: assertion time (06, RO). -/
abbrev TRP_GSTAMP_LO (g : Nat) : Nat := 0x40160120 + 0x40 * g

/-- TRP_GSTAMP_HI: assertion time (06, RO). -/
abbrev TRP_GSTAMP_HI (g : Nat) : Nat := 0x40160124 + 0x40 * g

/-- TRP_GCNT: group counters (06, RO). -/
abbrev TRP_GCNT (g : Nat) : Nat := 0x40160128 + 0x40 * g

/-- CEN_CFG: pair configuration (07, CL). -/
abbrev CEN_CFG (p : Nat) : Nat := 0x40120000 + 0x400 * p

/-- CEN_STAT: pair status (07, RO). -/
abbrev CEN_STAT (p : Nat) : Nat := 0x40120004 + 0x400 * p

/-- CEN_FLT: pair faults (07, W1C). -/
abbrev CEN_FLT (p : Nat) : Nat := 0x40120008 + 0x400 * p

/-- CEN_CNT: pair counters (07, RO). -/
abbrev CEN_CNT (p : Nat) : Nat := 0x4012000C + 0x400 * p

/-- CEN_GO: core triggers (07, WO). -/
abbrev CEN_GO (p : Nat) : Nat := 0x40120010 + 0x400 * p

/-- CEN_CDESC: cascade descriptor (07, CL). -/
abbrev CEN_CDESC (p : Nat) (c : Nat) : Nat := 0x40120100 + 0x400 * p + 0x40 * c

/-- CEN_CTRIG: trigger (07, CL). -/
abbrev CEN_CTRIG (p : Nat) (c : Nat) : Nat := 0x40120104 + 0x400 * p + 0x40 * c

/-- CEN_CSTAT: cascade status (07, RO). -/
abbrev CEN_CSTAT (p : Nat) (c : Nat) : Nat := 0x40120108 + 0x400 * p + 0x40 * c

/-- CEN_CMISS: cascade counters (07, RO). -/
abbrev CEN_CMISS (p : Nat) (c : Nat) : Nat := 0x4012010C + 0x400 * p + 0x40 * c

/-- CEN_CDL: deadline (07, RO). -/
abbrev CEN_CDL (p : Nat) (c : Nat) : Nat := 0x40120110 + 0x400 * p + 0x40 * c

/-- CEN_CSLACK: slack (07, RO). -/
abbrev CEN_CSLACK (p : Nat) (c : Nat) : Nat := 0x40120114 + 0x400 * p + 0x40 * c

/-- CEN_CSTAMP_LO: last agreement (07, RO). -/
abbrev CEN_CSTAMP_LO (p : Nat) (c : Nat) : Nat := 0x40120118 + 0x400 * p + 0x40 * c

/-- CEN_CSTAMP_HI: last agreement (07, RO). -/
abbrev CEN_CSTAMP_HI (p : Nat) (c : Nat) : Nat := 0x4012011C + 0x400 * p + 0x40 * c

/-- CEN_CCNT: activations (07, RO). -/
abbrev CEN_CCNT (p : Nat) (c : Nat) : Nat := 0x40120120 + 0x400 * p + 0x40 * c

/-- CEN_OBS: agreed outputs (07, RO). -/
abbrev CEN_OBS (p : Nat) (c : Nat) (o : Nat) : Nat := 0x40120200 + 0x400 * p + 0x20 * c + 0x4 * o

/-- CEN_RETIRED: retired engines (07, RO). -/
abbrev CEN_RETIRED : Nat := 0x40124000

/-- AXU_CFG: unit configuration (08, CL). -/
abbrev AXU_CFG (u : Nat) : Nat := 0x40110000 + 0x400 * u

/-- AXU_STAT: unit status (08, RO). -/
abbrev AXU_STAT (u : Nat) : Nat := 0x40110004 + 0x400 * u

/-- AXU_FLT: unit faults (08, W1C). -/
abbrev AXU_FLT (u : Nat) : Nat := 0x40110008 + 0x400 * u

/-- AXU_CNT: unit counters (08, RO). -/
abbrev AXU_CNT (u : Nat) : Nat := 0x4011000C + 0x400 * u

/-- AXU_IN: feedback inputs (08, CL). -/
abbrev AXU_IN (u : Nat) (k : Nat) : Nat := 0x40110010 + 0x400 * u + 0x4 * k

/-- AXU_OFS: scaling of input k (08, CL). -/
abbrev AXU_OFS (u : Nat) (k : Nat) : Nat := 0x40110040 + 0x400 * u + 0x8 * k

/-- AXU_GAIN: scaling of input k (08, CL). -/
abbrev AXU_GAIN (u : Nat) (k : Nat) : Nat := 0x40110044 + 0x400 * u + 0x8 * k

/-- AXU_IREF: reference sources (08, CL). -/
abbrev AXU_IREF (u : Nat) : Nat := 0x40110080 + 0x400 * u

/-- AXU_REFSIG: reference signals (08, CL). -/
abbrev AXU_REFSIG (u : Nat) : Nat := 0x40110084 + 0x400 * u

/-- AXU_IMAX: current limits (08, CL). -/
abbrev AXU_IMAX (u : Nat) : Nat := 0x40110088 + 0x400 * u

/-- AXU_ZSLIM: current limits (08, CL). -/
abbrev AXU_ZSLIM (u : Nat) : Nat := 0x4011008C + 0x400 * u

/-- AXU_MOD: modulation (08, CL). -/
abbrev AXU_MOD (u : Nat) : Nat := 0x40110090 + 0x400 * u

/-- AXU_MLIM: modulation limit (08, CL). -/
abbrev AXU_MLIM (u : Nat) : Nat := 0x40110094 + 0x400 * u

/-- AXU_DTCT: compensation time (08, CL). -/
abbrev AXU_DTCT (u : Nat) : Nat := 0x40110098 + 0x400 * u

/-- AXU_DTCI: compensation current (08, CL). -/
abbrev AXU_DTCI (u : Nat) : Nat := 0x4011009C + 0x400 * u

/-- AXU_WIN: sampling window (08, CL). -/
abbrev AXU_WIN (u : Nat) : Nat := 0x401100A0 + 0x400 * u

/-- AXU_CMAX: carry limit (08, CL). -/
abbrev AXU_CMAX (u : Nat) : Nat := 0x401100A4 + 0x400 * u

/-- AXU_ADV: angle advance trim (08, CL). -/
abbrev AXU_ADV (u : Nat) : Nat := 0x401100A8 + 0x400 * u

/-- AXU_IU: observed values (08, RO). -/
abbrev AXU_IU (u : Nat) : Nat := 0x40110100 + 0x400 * u

/-- AXU_IV: observed values (08, RO). -/
abbrev AXU_IV (u : Nat) : Nat := 0x40110104 + 0x400 * u

/-- AXU_IW: observed values (08, RO). -/
abbrev AXU_IW (u : Nat) : Nat := 0x40110108 + 0x400 * u

/-- AXU_ID: observed values (08, RO). -/
abbrev AXU_ID (u : Nat) : Nat := 0x4011010C + 0x400 * u

/-- AXU_IQ: observed values (08, RO). -/
abbrev AXU_IQ (u : Nat) : Nat := 0x40110110 + 0x400 * u

/-- AXU_IX: observed values (08, RO). -/
abbrev AXU_IX (u : Nat) : Nat := 0x40110114 + 0x400 * u

/-- AXU_IY: observed values (08, RO). -/
abbrev AXU_IY (u : Nat) : Nat := 0x40110118 + 0x400 * u

/-- AXU_VDC: observed values (08, RO). -/
abbrev AXU_VDC (u : Nat) : Nat := 0x4011011C + 0x400 * u

/-- AXU_IDREF: observed values (08, RO). -/
abbrev AXU_IDREF (u : Nat) : Nat := 0x40110120 + 0x400 * u

/-- AXU_IQREF: observed values (08, RO). -/
abbrev AXU_IQREF (u : Nat) : Nat := 0x40110124 + 0x400 * u

/-- AXU_VD: observed values (08, RO). -/
abbrev AXU_VD (u : Nat) : Nat := 0x40110128 + 0x400 * u

/-- AXU_VQ: observed values (08, RO). -/
abbrev AXU_VQ (u : Nat) : Nat := 0x4011012C + 0x400 * u

/-- AXU_MIDX: observed values (08, RO). -/
abbrev AXU_MIDX (u : Nat) : Nat := 0x40110130 + 0x400 * u

/-- AXU_THS: angles (08, RO). -/
abbrev AXU_THS (u : Nat) : Nat := 0x40110134 + 0x400 * u

/-- AXU_THM: angles (08, RO). -/
abbrev AXU_THM (u : Nat) : Nat := 0x40110138 + 0x400 * u

/-- AXU_STAMP_LO: sample instant (08, RO). -/
abbrev AXU_STAMP_LO (u : Nat) : Nat := 0x4011013C + 0x400 * u

/-- AXU_STAMP_HI: sample instant (08, RO). -/
abbrev AXU_STAMP_HI (u : Nat) : Nat := 0x40110140 + 0x400 * u

/-- AXU_CARRY: carries (08, RO). -/
abbrev AXU_CARRY (u : Nat) (k : Nat) : Nat := 0x40110144 + 0x400 * u + 0x4 * k

/-- AXU_POSCFG: position configuration (09, CL). -/
abbrev AXU_POSCFG (u : Nat) : Nat := 0x40110200 + 0x400 * u

/-- AXU_POSSTAT: position status (09, RO). -/
abbrev AXU_POSSTAT (u : Nat) : Nat := 0x40110204 + 0x400 * u

/-- AXU_POSFLT: position faults (09, W1C). -/
abbrev AXU_POSFLT (u : Nat) : Nat := 0x40110208 + 0x400 * u

/-- AXU_POSCNT: position counters (09, RO). -/
abbrev AXU_POSCNT (u : Nat) : Nat := 0x4011020C + 0x400 * u

/-- AXU_LD: machine parameters (09, CL). -/
abbrev AXU_LD (u : Nat) : Nat := 0x40110210 + 0x400 * u

/-- AXU_LQ: machine parameters (09, CL). -/
abbrev AXU_LQ (u : Nat) : Nat := 0x40110214 + 0x400 * u

/-- AXU_RS: machine parameters (09, CL). -/
abbrev AXU_RS (u : Nat) : Nat := 0x40110218 + 0x400 * u

/-- AXU_PSI: machine parameters (09, CL). -/
abbrev AXU_PSI (u : Nat) : Nat := 0x4011021C + 0x400 * u

/-- AXU_INJCFG: carrier configuration (09, CL). -/
abbrev AXU_INJCFG (u : Nat) : Nat := 0x40110220 + 0x400 * u

/-- AXU_INJV: carrier amplitude and demodulation trim (09, CL). -/
abbrev AXU_INJV (u : Nat) : Nat := 0x40110224 + 0x400 * u

/-- AXU_INJDPH: carrier amplitude and demodulation trim (09, CL). -/
abbrev AXU_INJDPH (u : Nat) : Nat := 0x40110228 + 0x400 * u

/-- AXU_POLCFG: polarity test (09, CL). -/
abbrev AXU_POLCFG (u : Nat) : Nat := 0x4011022C + 0x400 * u

/-- AXU_POLV: position parameters (09, CL). -/
abbrev AXU_POLV (u : Nat) : Nat := 0x40110230 + 0x400 * u

/-- AXU_HOSPD: position parameters (09, CL). -/
abbrev AXU_HOSPD (u : Nat) : Nat := 0x40110234 + 0x400 * u

/-- AXU_HOBAND: position parameters (09, CL). -/
abbrev AXU_HOBAND (u : Nat) : Nat := 0x40110238 + 0x400 * u

/-- AXU_OBSBW: position parameters (09, CL). -/
abbrev AXU_OBSBW (u : Nat) : Nat := 0x4011023C + 0x400 * u

/-- AXU_PLLKP0: position parameters (09, CL). -/
abbrev AXU_PLLKP0 (u : Nat) : Nat := 0x40110240 + 0x400 * u

/-- AXU_PLLKI0: position parameters (09, CL). -/
abbrev AXU_PLLKI0 (u : Nat) : Nat := 0x40110244 + 0x400 * u

/-- AXU_PLLKP1: position parameters (09, CL). -/
abbrev AXU_PLLKP1 (u : Nat) : Nat := 0x40110248 + 0x400 * u

/-- AXU_PLLKI1: position parameters (09, CL). -/
abbrev AXU_PLLKI1 (u : Nat) : Nat := 0x4011024C + 0x400 * u

/-- AXU_RESTH: position parameters (09, CL). -/
abbrev AXU_RESTH (u : Nat) : Nat := 0x40110250 + 0x400 * u

/-- AXU_ASCSPD: position parameters (09, CL). -/
abbrev AXU_ASCSPD (u : Nat) : Nat := 0x40110254 + 0x400 * u

/-- AXU_FSCATCH: position parameters (09, CL). -/
abbrev AXU_FSCATCH (u : Nat) : Nat := 0x40110258 + 0x400 * u

/-- AXU_FSCFG: flying start (09, CL). -/
abbrev AXU_FSCFG (u : Nat) : Nat := 0x4011025C + 0x400 * u

/-- AXU_SENSCFG: sensor inputs (09, CL). -/
abbrev AXU_SENSCFG (u : Nat) : Nat := 0x40110260 + 0x400 * u

/-- AXU_HALLMAP: Hall sectors (09, CL). -/
abbrev AXU_HALLMAP (u : Nat) : Nat := 0x40110264 + 0x400 * u

/-- AXU_SENSOFS: sensor offset and latency (09, CL). -/
abbrev AXU_SENSOFS (u : Nat) : Nat := 0x40110268 + 0x400 * u

/-- AXU_SENSLAT: sensor offset and latency (09, CL). -/
abbrev AXU_SENSLAT (u : Nat) : Nat := 0x4011026C + 0x400 * u

/-- AXU_RAMPCFG: ramp (09, CL). -/
abbrev AXU_RAMPCFG (u : Nat) : Nat := 0x40110270 + 0x400 * u

/-- AXU_RAMPSIG: ramp target (09, CL). -/
abbrev AXU_RAMPSIG (u : Nat) : Nat := 0x40110274 + 0x400 * u

/-- AXU_ACC: ramp limits (09, CL). -/
abbrev AXU_ACC (u : Nat) : Nat := 0x40110278 + 0x400 * u

/-- AXU_DEC: ramp limits (09, CL). -/
abbrev AXU_DEC (u : Nat) : Nat := 0x4011027C + 0x400 * u

/-- AXU_JERK: ramp limits (09, CL). -/
abbrev AXU_JERK (u : Nat) : Nat := 0x40110280 + 0x400 * u

/-- AXU_WMAX: ramp limits (09, CL). -/
abbrev AXU_WMAX (u : Nat) : Nat := 0x40110284 + 0x400 * u

/-- AXU_THEST: estimated angle (09, RO). -/
abbrev AXU_THEST (u : Nat) : Nat := 0x40110300 + 0x400 * u

/-- AXU_WEST: observed values (09, RO). -/
abbrev AXU_WEST (u : Nat) : Nat := 0x40110304 + 0x400 * u

/-- AXU_ETH: observed values (09, RO). -/
abbrev AXU_ETH (u : Nat) : Nat := 0x40110308 + 0x400 * u

/-- AXU_RHO: observed values (09, RO). -/
abbrev AXU_RHO (u : Nat) : Nat := 0x4011030C + 0x400 * u

/-- AXU_WBL: observed values (09, RO). -/
abbrev AXU_WBL (u : Nat) : Nat := 0x40110310 + 0x400 * u

/-- AXU_EPS: observed values (09, RO). -/
abbrev AXU_EPS (u : Nat) : Nat := 0x40110314 + 0x400 * u

/-- AXU_EMFD: observed values (09, RO). -/
abbrev AXU_EMFD (u : Nat) : Nat := 0x40110318 + 0x400 * u

/-- AXU_EMFQ: observed values (09, RO). -/
abbrev AXU_EMFQ (u : Nat) : Nat := 0x4011031C + 0x400 * u

/-- AXU_RVAL: observed values (09, RO). -/
abbrev AXU_RVAL (u : Nat) : Nat := 0x40110320 + 0x400 * u

/-- AXU_RRATE: observed values (09, RO). -/
abbrev AXU_RRATE (u : Nat) : Nat := 0x40110324 + 0x400 * u

/-- AXU_RTGT: observed values (09, RO). -/
abbrev AXU_RTGT (u : Nat) : Nat := 0x40110328 + 0x400 * u

/-- AXU_POLIP: observed values (09, RO). -/
abbrev AXU_POLIP (u : Nat) : Nat := 0x4011032C + 0x400 * u

/-- AXU_POLIN: observed values (09, RO). -/
abbrev AXU_POLIN (u : Nat) : Nat := 0x40110330 + 0x400 * u

/-- GIO_CFG: pin configuration (09, CL). -/
abbrev GIO_CFG (k : Nat) : Nat := 0x40180000 + 0x4 * k

/-- GIO_IN: levels (09, RO). -/
abbrev GIO_IN : Nat := 0x40180060

/-- GIO_OUT: levels (09, RW). -/
abbrev GIO_OUT : Nat := 0x40180064

/-- GIO_EDGE: levels (09, W1C). -/
abbrev GIO_EDGE : Nat := 0x40180068

/-- GIO_STAMP_LO: last edge (09, RO). -/
abbrev GIO_STAMP_LO (n : Nat) : Nat := 0x40180080 + 0x8 * n

/-- GIO_STAMP_HI: last edge (09, RO). -/
abbrev GIO_STAMP_HI (n : Nat) : Nat := 0x40180084 + 0x8 * n

/-- GIO_SENTCFG: SENT configuration (09, CL). -/
abbrev GIO_SENTCFG (m : Nat) : Nat := 0x40180200 + 0x20 * m

/-- GIO_SENTFAST: fast channel (09, RO). -/
abbrev GIO_SENTFAST (m : Nat) : Nat := 0x40180204 + 0x20 * m

/-- GIO_SENTSTAMP_LO: frame stamp (09, RO). -/
abbrev GIO_SENTSTAMP_LO (m : Nat) : Nat := 0x40180208 + 0x20 * m

/-- GIO_SENTSTAMP_HI: frame stamp (09, RO). -/
abbrev GIO_SENTSTAMP_HI (m : Nat) : Nat := 0x4018020C + 0x20 * m

/-- GIO_SENTSLOW: slow channel (09, RO). -/
abbrev GIO_SENTSLOW (m : Nat) : Nat := 0x40180210 + 0x20 * m

/-- GIO_SENTERR: SENT counters (09, RO). -/
abbrev GIO_SENTERR (m : Nat) : Nat := 0x40180214 + 0x20 * m

/-- CVU_CFG: unit configuration (10, CL). -/
abbrev CVU_CFG (u : Nat) : Nat := 0x40190000 + 0x400 * u

/-- CVU_STAT: unit status (10, RO). -/
abbrev CVU_STAT (u : Nat) : Nat := 0x40190004 + 0x400 * u

/-- CVU_FLT: unit faults (10, W1C). -/
abbrev CVU_FLT (u : Nat) : Nat := 0x40190008 + 0x400 * u

/-- CVU_CNT: unit counters (10, RO). -/
abbrev CVU_CNT (u : Nat) : Nat := 0x4019000C + 0x400 * u

/-- CVU_IN: inputs (10, CL). -/
abbrev CVU_IN (u : Nat) (k : Nat) : Nat := 0x40190010 + 0x400 * u + 0x4 * k

/-- CVU_OFS: scaling of input k (10, CL). -/
abbrev CVU_OFS (u : Nat) (k : Nat) : Nat := 0x40190080 + 0x400 * u + 0x8 * k

/-- CVU_GAIN: scaling of input k (10, CL). -/
abbrev CVU_GAIN (u : Nat) (k : Nat) : Nat := 0x40190084 + 0x400 * u + 0x8 * k

/-- CVU_PHTRIM: phase trims (10, CL). -/
abbrev CVU_PHTRIM (u : Nat) (k : Nat) : Nat := 0x40190100 + 0x400 * u + 0x4 * k

/-- CVU_CMCFG: current mode (10, CL). -/
abbrev CVU_CMCFG (u : Nat) : Nat := 0x40190120 + 0x400 * u

/-- CVU_SENSE0: sense windows (10, CL). -/
abbrev CVU_SENSE0 (u : Nat) : Nat := 0x40190124 + 0x400 * u

/-- CVU_SENSE1: sense windows (10, CL). -/
abbrev CVU_SENSE1 (u : Nat) : Nat := 0x40190128 + 0x400 * u

/-- CVU_PHM: phase management (10, CL). -/
abbrev CVU_PHM (u : Nat) : Nat := 0x4019012C + 0x400 * u

/-- CVU_DMIN: parameters (10, CL). -/
abbrev CVU_DMIN (u : Nat) : Nat := 0x40190130 + 0x400 * u

/-- CVU_DMAX: parameters (10, CL). -/
abbrev CVU_DMAX (u : Nat) : Nat := 0x40190134 + 0x400 * u

/-- CVU_ILIM: parameters (10, CL). -/
abbrev CVU_ILIM (u : Nat) : Nat := 0x40190138 + 0x400 * u

/-- CVU_PHUP: parameters (10, CL). -/
abbrev CVU_PHUP (u : Nat) : Nat := 0x4019013C + 0x400 * u

/-- CVU_PHDN: parameters (10, CL). -/
abbrev CVU_PHDN (u : Nat) : Nat := 0x40190140 + 0x400 * u

/-- CVU_SOFS: parameters (10, CL). -/
abbrev CVU_SOFS (u : Nat) : Nat := 0x40190144 + 0x400 * u

/-- CVU_SGAIN: parameters (10, CL). -/
abbrev CVU_SGAIN (u : Nat) : Nat := 0x40190148 + 0x400 * u

/-- CVU_DABMAX: parameters (10, CL). -/
abbrev CVU_DABMAX (u : Nat) : Nat := 0x4019014C + 0x400 * u

/-- CVU_MLIM: parameters (10, CL). -/
abbrev CVU_MLIM (u : Nat) : Nat := 0x40190150 + 0x400 * u

/-- CVU_GKP: parameters (10, CL). -/
abbrev CVU_GKP (u : Nat) : Nat := 0x40190154 + 0x400 * u

/-- CVU_GKI: parameters (10, CL). -/
abbrev CVU_GKI (u : Nat) : Nat := 0x40190158 + 0x400 * u

/-- CVU_FNOM: parameters (10, CL). -/
abbrev CVU_FNOM (u : Nat) : Nat := 0x4019015C + 0x400 * u

/-- CVU_SETSIG: reference signals (10, CL). -/
abbrev CVU_SETSIG (u : Nat) : Nat := 0x40190160 + 0x400 * u

/-- CVU_VIN: observed values (10, RO). -/
abbrev CVU_VIN (u : Nat) : Nat := 0x40190180 + 0x400 * u

/-- CVU_VOUT: observed values (10, RO). -/
abbrev CVU_VOUT (u : Nat) : Nat := 0x40190184 + 0x400 * u

/-- CVU_IOUT: observed values (10, RO). -/
abbrev CVU_IOUT (u : Nat) : Nat := 0x40190188 + 0x400 * u

/-- CVU_VBAT: observed values (10, RO). -/
abbrev CVU_VBAT (u : Nat) : Nat := 0x4019018C + 0x400 * u

/-- CVU_IBAT: observed values (10, RO). -/
abbrev CVU_IBAT (u : Nat) : Nat := 0x40190190 + 0x400 * u

/-- CVU_VSET: observed values (10, RO). -/
abbrev CVU_VSET (u : Nat) : Nat := 0x40190194 + 0x400 * u

/-- CVU_ISET: observed values (10, RO). -/
abbrev CVU_ISET (u : Nat) : Nat := 0x40190198 + 0x400 * u

/-- CVU_ILIMV: observed values (10, RO). -/
abbrev CVU_ILIMV (u : Nat) : Nat := 0x4019019C + 0x400 * u

/-- CVU_CMD0: observed values (10, RO). -/
abbrev CVU_CMD0 (u : Nat) : Nat := 0x401901A0 + 0x400 * u

/-- CVU_CMD1: observed values (10, RO). -/
abbrev CVU_CMD1 (u : Nat) : Nat := 0x401901A4 + 0x400 * u

/-- CVU_GTH: observed values (10, RO). -/
abbrev CVU_GTH (u : Nat) : Nat := 0x401901A8 + 0x400 * u

/-- CVU_GW: observed values (10, RO). -/
abbrev CVU_GW (u : Nat) : Nat := 0x401901AC + 0x400 * u

/-- CVU_IL: leg currents (10, RO). -/
abbrev CVU_IL (u : Nat) (k : Nat) : Nat := 0x401901C0 + 0x400 * u + 0x4 * k

/-- CVU_STAMP_LO: sample instant (10, RO). -/
abbrev CVU_STAMP_LO (u : Nat) : Nat := 0x401901E0 + 0x400 * u

/-- CVU_STAMP_HI: sample instant (10, RO). -/
abbrev CVU_STAMP_HI (u : Nat) : Nat := 0x401901E4 + 0x400 * u

/-- CHG_CFG: channel configuration (10, CL). -/
abbrev CHG_CFG (c : Nat) : Nat := 0x40170000 + 0x800 * c

/-- CHG_STAT: channel status (10, RO). -/
abbrev CHG_STAT (c : Nat) : Nat := 0x40170004 + 0x800 * c

/-- CHG_FLT: channel faults (10, W1C). -/
abbrev CHG_FLT (c : Nat) : Nat := 0x40170008 + 0x800 * c

/-- CHG_CTRL: commands (10, WO). -/
abbrev CHG_CTRL (c : Nat) : Nat := 0x4017000C + 0x800 * c

/-- CHG_ACK: fault acknowledgement (10, CL). -/
abbrev CHG_ACK (c : Nat) : Nat := 0x40170010 + 0x800 * c

/-- CHG_TIMES: times (10, CL). -/
abbrev CHG_TIMES (c : Nat) : Nat := 0x40170014 + 0x800 * c

/-- CHG_IPRE: charge parameters (10, CL). -/
abbrev CHG_IPRE (c : Nat) : Nat := 0x40170040 + 0x800 * c

/-- CHG_ICC: charge parameters (10, CL). -/
abbrev CHG_ICC (c : Nat) : Nat := 0x40170044 + 0x800 * c

/-- CHG_VCV: charge parameters (10, CL). -/
abbrev CHG_VCV (c : Nat) : Nat := 0x40170048 + 0x800 * c

/-- CHG_ITERM: charge parameters (10, CL). -/
abbrev CHG_ITERM (c : Nat) : Nat := 0x4017004C + 0x800 * c

/-- CHG_VRECHG: charge parameters (10, CL). -/
abbrev CHG_VRECHG (c : Nat) : Nat := 0x40170050 + 0x800 * c

/-- CHG_VMISS: charge parameters (10, CL). -/
abbrev CHG_VMISS (c : Nat) : Nat := 0x40170054 + 0x800 * c

/-- CHG_VSHORT: charge parameters (10, CL). -/
abbrev CHG_VSHORT (c : Nat) : Nat := 0x40170058 + 0x800 * c

/-- CHG_TTOPOFF: charge parameters (10, CL). -/
abbrev CHG_TTOPOFF (c : Nat) : Nat := 0x4017005C + 0x800 * c

/-- CHG_TSAFETY: charge parameters (10, CL). -/
abbrev CHG_TSAFETY (c : Nat) : Nat := 0x40170060 + 0x800 * c

/-- CHG_MPPTSTEP: charge parameters (10, CL). -/
abbrev CHG_MPPTSTEP (c : Nat) : Nat := 0x40170064 + 0x800 * c

/-- CHG_MPPTPER: charge parameters (10, CL). -/
abbrev CHG_MPPTPER (c : Nat) : Nat := 0x40170068 + 0x800 * c

/-- CHG_PMAX: charge parameters (10, CL). -/
abbrev CHG_PMAX (c : Nat) : Nat := 0x4017006C + 0x800 * c

/-- CHG_TCELL: cell window (10, CL). -/
abbrev CHG_TCELL (c : Nat) : Nat := 0x40170070 + 0x800 * c

/-- CHG_DEB: debounce (10, CL). -/
abbrev CHG_DEB (c : Nat) : Nat := 0x40170074 + 0x800 * c

/-- CHG_SRCMIN: source limits (10, CL). -/
abbrev CHG_SRCMIN (c : Nat) : Nat := 0x40170078 + 0x800 * c

/-- CHG_SRCMAX: source limits (10, CL). -/
abbrev CHG_SRCMAX (c : Nat) : Nat := 0x4017007C + 0x800 * c

/-- CHG_PVMIN: source limits (10, CL). -/
abbrev CHG_PVMIN (c : Nat) : Nat := 0x40170080 + 0x800 * c

/-- CHG_PVMAX: source limits (10, CL). -/
abbrev CHG_PVMAX (c : Nat) : Nat := 0x40170084 + 0x800 * c

/-- CHG_VBAT: observed values (10, RO). -/
abbrev CHG_VBAT (c : Nat) : Nat := 0x40170100 + 0x800 * c

/-- CHG_IBAT: observed values (10, RO). -/
abbrev CHG_IBAT (c : Nat) : Nat := 0x40170104 + 0x800 * c

/-- CHG_TC: observed values (10, RO). -/
abbrev CHG_TC (c : Nat) : Nat := 0x40170108 + 0x800 * c

/-- CHG_ISET: observed values (10, RO). -/
abbrev CHG_ISET (c : Nat) : Nat := 0x4017010C + 0x800 * c

/-- CHG_VSET: observed values (10, RO). -/
abbrev CHG_VSET (c : Nat) : Nat := 0x40170110 + 0x800 * c

/-- CHG_VPV: observed values (10, RO). -/
abbrev CHG_VPV (c : Nat) : Nat := 0x40170114 + 0x800 * c

/-- CHG_PIN: observed values (10, RO). -/
abbrev CHG_PIN (c : Nat) : Nat := 0x40170118 + 0x800 * c

/-- CHG_RATE: observed values (10, RO). -/
abbrev CHG_RATE (c : Nat) : Nat := 0x4017011C + 0x800 * c

/-- CHG_TEQ: safety timer (10, RO). -/
abbrev CHG_TEQ (c : Nat) : Nat := 0x40170120 + 0x800 * c

/-- CHG_TWALL: safety timer (10, RO). -/
abbrev CHG_TWALL (c : Nat) : Nat := 0x40170124 + 0x800 * c

/-- CHG_EBAT: energy counters (10, RO). -/
abbrev CHG_EBAT (c : Nat) : Nat := 0x40170128 + 0x800 * c

/-- CHG_ESOL: energy counters (10, RO). -/
abbrev CHG_ESOL (c : Nat) : Nat := 0x4017012C + 0x800 * c

/-- CHG_LAMP: lamp control (10, RW (T0 only)). -/
abbrev CHG_LAMP (c : Nat) : Nat := 0x40170140 + 0x800 * c

/-- RED_CFG: redundancy configuration (12, CL). -/
abbrev RED_CFG : Nat := 0x40250000

/-- RED_STAT: redundancy status (12, RO). -/
abbrev RED_STAT : Nat := 0x40250004

/-- RED_FLT: redundancy faults (12, W1C). -/
abbrev RED_FLT : Nat := 0x40250008

/-- RED_GUSTCLR: clear Gust history (12, CL (installer session)). -/
abbrev RED_GUSTCLR : Nat := 0x4025000C

/-- RED_CULLCLR: clear cullet list (12, CL (maker session)). -/
abbrev RED_CULLCLR : Nat := 0x40250010

/-- RED_T0KICK: T0 kick (12, WO (T0 only)). -/
abbrev RED_T0KICK : Nat := 0x40250014

/-- RED_FNCMD: function command (12, WO (T0 only)). -/
abbrev RED_FNCMD : Nat := 0x40250018

/-- RED_FNREQ: function request (12, WO). -/
abbrev RED_FNREQ : Nat := 0x4025001C

/-- RED_TSTAT: triad status (12, RO). -/
abbrev RED_TSTAT (t : Nat) : Nat := 0x40250100 + 0x20 * t

/-- RED_TCNT: triad counters (12, RO). -/
abbrev RED_TCNT (t : Nat) : Nat := 0x40250104 + 0x20 * t

/-- RED_TCKPT_LO: last checkpoint (12, RO). -/
abbrev RED_TCKPT_LO (t : Nat) : Nat := 0x40250108 + 0x20 * t

/-- RED_TCKPT_HI: last checkpoint (12, RO). -/
abbrev RED_TCKPT_HI (t : Nat) : Nat := 0x4025010C + 0x20 * t

/-- RED_WDGCFG: watchdog configuration (12, CL). -/
abbrev RED_WDGCFG (n : Nat) : Nat := 0x40250200 + 0x10 * n

/-- RED_WDGFN: watchdog functions (12, CL). -/
abbrev RED_WDGFN (n : Nat) : Nat := 0x40250204 + 0x10 * n

/-- RED_WDGKICK: kick (12, WO). -/
abbrev RED_WDGKICK (n : Nat) : Nat := 0x40250208 + 0x10 * n

/-- RED_WDGSTAT: watchdog status (12, RO). -/
abbrev RED_WDGSTAT (n : Nat) : Nat := 0x4025020C + 0x10 * n

/-- RED_FNSAFE: safe-state options of FNf (12, CL). -/
abbrev RED_FNSAFE (f : Nat) : Nat := 0x40250400 + 0x4 * f

/-- RED_FNSTATE: state of FNf (12, RO). -/
abbrev RED_FNSTATE (f : Nat) : Nat := 0x40250480 + 0x4 * f

/-- RED_GUST: Gust record (12, RO). -/
abbrev RED_GUST (kind : Nat) (i : Nat) : Nat := 0x40251000 + 0x200 * kind + 0x4 * i

/-- RED_CULL: cullet entry i (12, RO). -/
abbrev RED_CULL (i : Nat) (w : Nat) : Nat := 0x40252000 + 0x10 * i + 0x4 * w

/-- LNK_CFG: link configuration (13, CL). -/
abbrev LNK_CFG : Nat := 0x40230000

/-- LNK_STAT: link status (13, RO). -/
abbrev LNK_STAT : Nat := 0x40230004

/-- LNK_CTRL: link commands (13, WO (T0 only)). -/
abbrev LNK_CTRL : Nat := 0x40230008

/-- LNK_FLT: link faults (13, W1C). -/
abbrev LNK_FLT : Nat := 0x4023000C

/-- LNK_CNT: link counters (13, RO). -/
abbrev LNK_CNT : Nat := 0x40230010

/-- LNK_PEERDIG0: partner configuration (13, RO). -/
abbrev LNK_PEERDIG0 : Nat := 0x40230014

/-- LNK_PEERDIG1: partner configuration (13, RO). -/
abbrev LNK_PEERDIG1 : Nat := 0x40230018

/-- LNK_PEEREPOCH: partner configuration (13, RO). -/
abbrev LNK_PEEREPOCH : Nat := 0x4023001C

/-- LNK_JEPOCH: journal epochs (13, RO). -/
abbrev LNK_JEPOCH : Nat := 0x40230020

/-- LNK_PJEPOCH: journal epochs (13, RO). -/
abbrev LNK_PJEPOCH : Nat := 0x40230024

/-- LNK_JPOS_LO: journal positions (13, RO). -/
abbrev LNK_JPOS_LO : Nat := 0x40230028

/-- LNK_JPOS_HI: journal positions (13, RO). -/
abbrev LNK_JPOS_HI : Nat := 0x4023002C

/-- LNK_PJPOS_LO: journal positions (13, RO). -/
abbrev LNK_PJPOS_LO : Nat := 0x40230030

/-- LNK_PJPOS_HI: journal positions (13, RO). -/
abbrev LNK_PJPOS_HI : Nat := 0x40230034

/-- LNK_OFS_LO: partner offset (13, RO). -/
abbrev LNK_OFS_LO : Nat := 0x40230038

/-- LNK_OFS_HI: partner offset (13, RO). -/
abbrev LNK_OFS_HI : Nat := 0x4023003C

/-- LNK_MIRSTAT: copy status (13, RO). -/
abbrev LNK_MIRSTAT : Nat := 0x40230040

/-- LNK_TKO: last takeover (13, RO). -/
abbrev LNK_TKO : Nat := 0x40230044

/-- LNK_TKOSTAMP_LO: takeover time (13, RO). -/
abbrev LNK_TKOSTAMP_LO : Nat := 0x40230048

/-- LNK_TKOSTAMP_HI: takeover time (13, RO). -/
abbrev LNK_TKOSTAMP_HI : Nat := 0x4023004C

/-- LNK_LANE: lane status (13, RO). -/
abbrev LNK_LANE : Nat := 0x40230050

/-- BUS_CFG: port configuration (14, CL). -/
abbrev BUS_CFG (n : Nat) : Nat := 0x40200000 + 0x1000 * n

/-- BUS_CTRL: port commands (14, WO). -/
abbrev BUS_CTRL (n : Nat) : Nat := 0x40200004 + 0x1000 * n

/-- BUS_STAT: port status (14, RO). -/
abbrev BUS_STAT (n : Nat) : Nat := 0x40200008 + 0x1000 * n

/-- BUS_FLT: port faults (14, W1C). -/
abbrev BUS_FLT (n : Nat) : Nat := 0x4020000C + 0x1000 * n

/-- BUS_NBT: nominal timing (14, CL). -/
abbrev BUS_NBT (n : Nat) : Nat := 0x40200010 + 0x1000 * n

/-- BUS_DBT: data timing (14, CL). -/
abbrev BUS_DBT (n : Nat) : Nat := 0x40200014 + 0x1000 * n

/-- BUS_TDC: delay compensation (14, CL). -/
abbrev BUS_TDC (n : Nat) : Nat := 0x40200018 + 0x1000 * n

/-- BUS_TDCR: measured delay (14, RO). -/
abbrev BUS_TDCR (n : Nat) : Nat := 0x4020001C + 0x1000 * n

/-- BUS_ECNT: error counters (14, RO). -/
abbrev BUS_ECNT (n : Nat) : Nat := 0x40200020 + 0x1000 * n

/-- BUS_LASTERR: last protocol error (14, RO). -/
abbrev BUS_LASTERR (n : Nat) : Nat := 0x40200024 + 0x1000 * n

/-- BUS_TXCNT: frame counts (14, RO). -/
abbrev BUS_TXCNT (n : Nat) : Nat := 0x40200028 + 0x1000 * n

/-- BUS_RXCNT: frame counts (14, RO). -/
abbrev BUS_RXCNT (n : Nat) : Nat := 0x4020002C + 0x1000 * n

/-- BUS_DROP: discarded frames (14, RO). -/
abbrev BUS_DROP (n : Nat) : Nat := 0x40200030 + 0x1000 * n

/-- BUS_RECCNT: recoveries (14, RO). -/
abbrev BUS_RECCNT (n : Nat) : Nat := 0x40200034 + 0x1000 * n

/-- BUS_ABDCFG: rate detection (14, CL). -/
abbrev BUS_ABDCFG (n : Nat) : Nat := 0x40200038 + 0x1000 * n

/-- BUS_ABDSTAT: detection result (14, RO). -/
abbrev BUS_ABDSTAT (n : Nat) : Nat := 0x4020003C + 0x1000 * n

/-- BUS_ADDR: own addresses (14, RW). -/
abbrev BUS_ADDR (n : Nat) : Nat := 0x40200040 + 0x1000 * n

/-- BUS_FID: filter identifier (14, CL). -/
abbrev BUS_FID (n : Nat) (f : Nat) : Nat := 0x40200800 + 0x1000 * n + 0x10 * f

/-- BUS_FMASK: filter mask (14, CL). -/
abbrev BUS_FMASK (n : Nat) (f : Nat) : Nat := 0x40200804 + 0x1000 * n + 0x10 * f

/-- BUS_FCTL: filter action (14, CL). -/
abbrev BUS_FCTL (n : Nat) (f : Nat) : Nat := 0x40200808 + 0x1000 * n + 0x10 * f

/-- BUS_FHIT: filter hits (14, RO). -/
abbrev BUS_FHIT (n : Nat) (f : Nat) : Nat := 0x4020080C + 0x1000 * n + 0x10 * f

/-- QUE_CFG: queue configuration (14, CL). -/
abbrev QUE_CFG (q : Nat) : Nat := 0x40210000 + 0x80 * q

/-- QUE_RING: ring base (14, CL). -/
abbrev QUE_RING (q : Nat) : Nat := 0x40210004 + 0x80 * q

/-- QUE_SIZE: ring size (14, CL). -/
abbrev QUE_SIZE (q : Nat) : Nat := 0x40210008 + 0x80 * q

/-- QUE_LIFE: lifetime (14, CL). -/
abbrev QUE_LIFE (q : Nat) : Nat := 0x4021000C + 0x80 * q

/-- QUE_WR: ring indices (14, RW). -/
abbrev QUE_WR (q : Nat) : Nat := 0x40210010 + 0x80 * q

/-- QUE_RD: ring indices (14, RW). -/
abbrev QUE_RD (q : Nat) : Nat := 0x40210014 + 0x80 * q

/-- QUE_STAT: queue status (14, RO). -/
abbrev QUE_STAT (q : Nat) : Nat := 0x40210018 + 0x80 * q

/-- QUE_FLT: queue faults (14, W1C). -/
abbrev QUE_FLT (q : Nat) : Nat := 0x4021001C + 0x80 * q

/-- QUE_OK: completed entries (14, RO). -/
abbrev QUE_OK (q : Nat) : Nat := 0x40210020 + 0x80 * q

/-- QUE_LOSS: lost entries (14, RO). -/
abbrev QUE_LOSS (q : Nat) : Nat := 0x40210024 + 0x80 * q

/-- QUE_CANCEL: cancellation (14, WO). -/
abbrev QUE_CANCEL (q : Nat) : Nat := 0x40210028 + 0x80 * q

/-- QUE_CANRES: cancellation result (14, RO). -/
abbrev QUE_CANRES (q : Nat) : Nat := 0x4021002C + 0x80 * q

/-- QUE_SEQ_LO: next sequence number (14, RO). -/
abbrev QUE_SEQ_LO (q : Nat) : Nat := 0x40210030 + 0x80 * q

/-- QUE_SEQ_HI: next sequence number (14, RO). -/
abbrev QUE_SEQ_HI (q : Nat) : Nat := 0x40210034 + 0x80 * q

/-- SIG_CFG: domain configuration (15, CL). -/
abbrev SIG_CFG : Nat := 0x40220000

/-- SIG_DOM: domain identity (15, CL). -/
abbrev SIG_DOM : Nat := 0x40220004

/-- SIG_DQMASK: queue roles (15, CL). -/
abbrev SIG_DQMASK : Nat := 0x40220008

/-- SIG_AUTOQ: queue roles (15, CL). -/
abbrev SIG_AUTOQ : Nat := 0x4022000C

/-- SIG_BCAST: broadcast egress (15, CL). -/
abbrev SIG_BCAST : Nat := 0x40220010

/-- SIG_FWDQ0: forwarding queues (15, CL). -/
abbrev SIG_FWDQ0 : Nat := 0x40220014

/-- SIG_FWDQ1: forwarding queues (15, CL). -/
abbrev SIG_FWDQ1 : Nat := 0x40220018

/-- SIG_STAT: domain status (15, RO). -/
abbrev SIG_STAT : Nat := 0x4022001C

/-- SIG_FLT: domain faults (15, W1C). -/
abbrev SIG_FLT : Nat := 0x40220020

/-- SIG_DEPOCH: domain epoch (15, RO). -/
abbrev SIG_DEPOCH : Nat := 0x40220024

/-- SIG_AGREE: agreement counts (15, RO). -/
abbrev SIG_AGREE : Nat := 0x40220028

/-- SIG_CNT: forwarding counters (15, RO). -/
abbrev SIG_CNT : Nat := 0x4022002C

/-- SIG_MAPTX: send a map (15, WO). -/
abbrev SIG_MAPTX : Nat := 0x40220030

/-- SIG_MAPRES: map result (15, RO). -/
abbrev SIG_MAPRES : Nat := 0x40220034

/-- SIG_DISS: dissent list (15, RO). -/
abbrev SIG_DISS (k : Nat) : Nat := 0x40220100 + 0x4 * k

/-- SIG_MAPSTAT: map m counters (15, RO). -/
abbrev SIG_MAPSTAT (m : Nat) : Nat := 0x40220400 + 0x4 * m

/-- JRN_CFG: journal configuration (15, CL). -/
abbrev JRN_CFG : Nat := 0x40240000

/-- JRN_STAT: journal status (15, RO). -/
abbrev JRN_STAT : Nat := 0x40240004

/-- JRN_FLT: journal faults (15, W1C). -/
abbrev JRN_FLT : Nat := 0x40240008

/-- JRN_HEAD: ring pointers (15, RO). -/
abbrev JRN_HEAD : Nat := 0x4024000C

/-- JRN_TAIL: ring pointers (15, RO). -/
abbrev JRN_TAIL : Nat := 0x40240010

/-- JRN_PASS: ring passes (15, RO). -/
abbrev JRN_PASS : Nat := 0x40240014

/-- JRN_PASS_HI: ring passes (15, RO). -/
abbrev JRN_PASS_HI : Nat := 0x4024002C

/-- JRN_PEND: pending entries (15, RO). -/
abbrev JRN_PEND : Nat := 0x40240018

/-- JRN_LOCAL: LOCAL entries (15, RO). -/
abbrev JRN_LOCAL : Nat := 0x4024001C

/-- JRN_STREAMS: deduplication table (15, RO). -/
abbrev JRN_STREAMS : Nat := 0x40240020

/-- JRN_REFUSE: refusals (15, RO). -/
abbrev JRN_REFUSE : Nat := 0x40240024

/-- JRN_REPLAY: last replay (15, RO). -/
abbrev JRN_REPLAY : Nat := 0x40240028

/-- COR_STAT: triad status (16, RO). -/
abbrev COR_STAT (t : Nat) : Nat := 0x40300000 + 0x1000 * t

/-- COR_VBASE: vector base (16, CL). -/
abbrev COR_VBASE (t : Nat) : Nat := 0x40300004 + 0x1000 * t

/-- COR_EVEN0: line enables (16, RW). -/
abbrev COR_EVEN0 (t : Nat) : Nat := 0x40300008 + 0x1000 * t

/-- COR_EVEN1: line enables (16, RW). -/
abbrev COR_EVEN1 (t : Nat) : Nat := 0x4030000C + 0x1000 * t

/-- COR_EVPEND0: pending lines (16, W1C). -/
abbrev COR_EVPEND0 (t : Nat) : Nat := 0x40300010 + 0x1000 * t

/-- COR_EVPEND1: pending lines (16, W1C). -/
abbrev COR_EVPEND1 (t : Nat) : Nat := 0x40300014 + 0x1000 * t

/-- COR_SWEV: software event (16, WO). -/
abbrev COR_SWEV (t : Nat) : Nat := 0x40300018 + 0x1000 * t

/-- COR_FAULT: fault counters (16, RO). -/
abbrev COR_FAULT (t : Nat) : Nat := 0x4030001C + 0x1000 * t

/-- COR_FADDR: last fault address (16, RO). -/
abbrev COR_FADDR (t : Nat) : Nat := 0x40300020 + 0x1000 * t

/-- COR_SAFEQ: safety queue, T0 window only (16, RO). -/
abbrev COR_SAFEQ (t : Nat) : Nat := 0x40300024 + 0x1000 * t

/-- COR_TPER: timers (16, RW). -/
abbrev COR_TPER (t : Nat) (k : Nat) : Nat := 0x40300040 + 0x1000 * t + 0x4 * k

/-- COR_TPHS: timers (16, RW). -/
abbrev COR_TPHS (t : Nat) (k : Nat) : Nat := 0x40300050 + 0x1000 * t + 0x4 * k

/-- COR_EVSRC: line sources (16, CL). -/
abbrev COR_EVSRC (t : Nat) (l : Nat) : Nat := 0x40300100 + 0x1000 * t + 0x4 * l

/-- COR_MPU_BASE: region bounds (16, CL). -/
abbrev COR_MPU_BASE (t : Nat) (r : Nat) : Nat := 0x40300400 + 0x1000 * t + 0x10 * r

/-- COR_MPU_LIMIT: region bounds (16, CL). -/
abbrev COR_MPU_LIMIT (t : Nat) (r : Nat) : Nat := 0x40300404 + 0x1000 * t + 0x10 * r

/-- COR_MPU_ATTR: region permissions (16, CL). -/
abbrev COR_MPU_ATTR (t : Nat) (r : Nat) : Nat := 0x40300408 + 0x1000 * t + 0x10 * r

/-- THM_CFG: thermal configuration (17, CL). -/
abbrev THM_CFG : Nat := 0x40260000

/-- THM_STAT: thermal status (17, RO). -/
abbrev THM_STAT : Nat := 0x40260004

/-- THM_FLT: thermal faults (17, W1C). -/
abbrev THM_FLT : Nat := 0x40260008

/-- THM_DIE: die sensor s of region r, index 2r + s (17, RO). -/
abbrev THM_DIE (k : Nat) : Nat := 0x40260040 + 0x4 * k

/-- THM_REG: region temperature (17, RO). -/
abbrev THM_REG (k : Nat) : Nat := 0x402600A0 + 0x4 * k

/-- THM_NTCCFG: NTC configuration (17, CL). -/
abbrev THM_NTCCFG (n : Nat) : Nat := 0x40260100 + 0x20 * n

/-- THM_NTCR0: NTC parameters (17, CL). -/
abbrev THM_NTCR0 (n : Nat) : Nat := 0x40260104 + 0x20 * n

/-- THM_NTCB: NTC parameters (17, CL). -/
abbrev THM_NTCB (n : Nat) : Nat := 0x40260108 + 0x20 * n

/-- THM_NTCRP: NTC parameters (17, CL). -/
abbrev THM_NTCRP (n : Nat) : Nat := 0x4026010C + 0x20 * n

/-- THM_NTCDER: NTC parameters (17, CL). -/
abbrev THM_NTCDER (n : Nat) : Nat := 0x40260110 + 0x20 * n

/-- THM_NTCSTOP: NTC parameters (17, CL). -/
abbrev THM_NTCSTOP (n : Nat) : Nat := 0x40260114 + 0x20 * n

/-- THM_NTCFN: guarded functions (17, CL). -/
abbrev THM_NTCFN (n : Nat) : Nat := 0x40260118 + 0x20 * n

/-- THM_NTCT: NTC reading (17, RO). -/
abbrev THM_NTCT (n : Nat) : Nat := 0x4026011C + 0x20 * n

/-- THM_K: current-limit factor of FNf (17, RO). -/
abbrev THM_K (k : Nat) : Nat := 0x40260400 + 0x4 * k

/-- BKG_CFG: background configuration (18, CL). -/
abbrev BKG_CFG : Nat := 0x40270000

/-- BKG_TELCFG: telemetry (18, CL). -/
abbrev BKG_TELCFG : Nat := 0x40270004

/-- BKG_STAT: status (18, RO). -/
abbrev BKG_STAT : Nat := 0x40270008

/-- BKG_FLT: faults (18, W1C). -/
abbrev BKG_FLT : Nat := 0x4027000C

/-- BKG_MARV: rounds (18, RO). -/
abbrev BKG_MARV : Nat := 0x40270010

/-- BKG_TELCNT: telemetry counts (18, RO). -/
abbrev BKG_TELCNT : Nat := 0x40270014

/-- BKG_MEMCNT: memory m errors (18, RO). -/
abbrev BKG_MEMCNT (k : Nat) : Nat := 0x40270020 + 0x4 * k

/-- BKG_SCRUB: memory m passes (18, RO). -/
abbrev BKG_SCRUB (k : Nat) : Nat := 0x40270040 + 0x4 * k

/-- BKG_REQ: request, per triad (18, RW). -/
abbrev BKG_REQ : Nat := 0x40270080

/-- BKG_RES: result, per triad (18, RO). -/
abbrev BKG_RES : Nat := 0x40270084

/-- SEC_CFG: session configuration (19, CL). -/
abbrev SEC_CFG : Nat := 0x40050000

/-- SEC_STAT: session status (19, RO). -/
abbrev SEC_STAT : Nat := 0x40050004

/-- SEC_KEYS: key counts (19, RO). -/
abbrev SEC_KEYS : Nat := 0x40050008

/-- SEC_FLT: session faults (19, W1C). -/
abbrev SEC_FLT : Nat := 0x4005000C

/-- SEC_AUDHEAD: audit head (19, RO). -/
abbrev SEC_AUDHEAD : Nat := 0x40050010

/-- SEC_AUDSEL: audit selection, per triad (19, RW). -/
abbrev SEC_AUDSEL : Nat := 0x40050014

/-- SEC_AUDANCHOR: chain anchor (19, RO). -/
abbrev SEC_AUDANCHOR (k : Nat) : Nat := 0x40050020 + 0x4 * k

/-- SEC_AUDDATA: selected record (19, RO). -/
abbrev SEC_AUDDATA (k : Nat) : Nat := 0x40050040 + 0x4 * k

/-- SUP_CFG: supply configuration (20, CL). -/
abbrev SUP_CFG : Nat := 0x40020000

/-- SUP_STAT: supply status (20, RO). -/
abbrev SUP_STAT : Nat := 0x40020004

/-- SUP_FLT: supply faults (20, W1C). -/
abbrev SUP_FLT : Nat := 0x40020008

/-- SUP_VCORE: core voltage (20, RO). -/
abbrev SUP_VCORE : Nat := 0x4002000C

/-- SUP_FEED: feed voltages (20, RO). -/
abbrev SUP_FEED : Nat := 0x40020010

/-- SUP_DIPS: dip counts (20, RO). -/
abbrev SUP_DIPS : Nat := 0x40020014

/-- SUP_PORCAUSE: last reset cause (20, RO). -/
abbrev SUP_PORCAUSE : Nat := 0x40020018

/-- SUP_WARNSTAMP_LO: last warning (20, RO). -/
abbrev SUP_WARNSTAMP_LO : Nat := 0x40020020

/-- SUP_WARNSTAMP_HI: last warning (20, RO). -/
abbrev SUP_WARNSTAMP_HI : Nat := 0x40020024

/-! Register fields: `REGISTER_FIELD` is the place of FIELD in REGISTER (fields of the whole word have no name). -/

abbrev TKP_STAT_RC_MODE : Fld := ⟨2, 1⟩
abbrev TKP_STAT_REF_FAIL : Fld := ⟨1, 1⟩
abbrev TKP_STAT_REF_OK : Fld := ⟨0, 1⟩
abbrev TKP_REFMON_DEV : Fld := ⟨0, 16⟩
abbrev TKP_SLOT_TGT_TGTB_KIND : Fld := ⟨28, 4⟩
abbrev TKP_SLOT_TGT_TGTB_IDX : Fld := ⟨16, 8⟩
abbrev TKP_SLOT_TGT_TGTA_KIND : Fld := ⟨12, 4⟩
abbrev TKP_SLOT_TGT_TGTA_IDX : Fld := ⟨0, 8⟩
abbrev RTC_SUB_SUB : Fld := ⟨0, 15⟩
abbrev RTC_STAT_VBKUP_LOW : Fld := ⟨2, 1⟩
abbrev RTC_STAT_OSCF : Fld := ⟨1, 1⟩
abbrev RTC_STAT_LOST : Fld := ⟨0, 1⟩
abbrev RTC_TRIM_TRIM : Fld := ⟨0, 8⟩
abbrev RTC_CAP_DONE : Fld := ⟨1, 1⟩
abbrev RTC_CAP_GO : Fld := ⟨0, 1⟩
abbrev SYS_STEP_LETTER : Fld := ⟨8, 8⟩
abbrev SYS_STEP_NUMBER : Fld := ⟨0, 8⟩
abbrev SYS_STATE_STATE : Fld := ⟨0, 4⟩
abbrev SYS_CTRL_KEY : Fld := ⟨8, 8⟩
abbrev SYS_CTRL_RESTART : Fld := ⟨1, 1⟩
abbrev SYS_CTRL_RUN : Fld := ⟨0, 1⟩
abbrev SYS_BOOT_T_READY : Fld := ⟨16, 16⟩
abbrev SYS_BOOT_SPLIT : Fld := ⟨6, 1⟩
abbrev SYS_BOOT_S1_VALID : Fld := ⟨5, 1⟩
abbrev SYS_BOOT_S0_VALID : Fld := ⟨4, 1⟩
abbrev SYS_BOOT_LOCKED : Fld := ⟨3, 1⟩
abbrev SYS_BOOT_QUAD : Fld := ⟨2, 1⟩
abbrev SYS_BOOT_FALLBACK : Fld := ⟨1, 1⟩
abbrev SYS_BOOT_SLOT : Fld := ⟨0, 1⟩
abbrev SYS_RSTCAUSE_T0_FATAL : Fld := ⟨2, 1⟩
abbrev SYS_RSTCAUSE_RESTART : Fld := ⟨1, 1⟩
abbrev SYS_RSTCAUSE_POR : Fld := ⟨0, 1⟩
abbrev SYS_REJECT_RECORD : Fld := ⟨16, 16⟩
abbrev SYS_REJECT_SLOTNUM : Fld := ⟨8, 1⟩
abbrev SYS_REJECT_REASON : Fld := ⟨0, 8⟩
abbrev SYS_EVT_HEAD_HEAD : Fld := ⟨0, 10⟩
abbrev LEG_CFG_BOUND : Fld := ⟨13, 1⟩
abbrev LEG_CFG_FN : Fld := ⟨8, 5⟩
abbrev LEG_CFG_CMODE : Fld := ⟨4, 1⟩
abbrev LEG_CFG_SRC : Fld := ⟨2, 2⟩
abbrev LEG_CFG_MODE : Fld := ⟨0, 2⟩
abbrev LEG_STAT_TXEN : Fld := ⟨8, 1⟩
abbrev LEG_STAT_CAL_AGED : Fld := ⟨7, 1⟩
abbrev LEG_STAT_SWALLOW : Fld := ⟨6, 1⟩
abbrev LEG_STAT_STALE : Fld := ⟨5, 1⟩
abbrev LEG_STAT_CLAMP : Fld := ⟨4, 1⟩
abbrev LEG_STAT_RETIRED : Fld := ⟨3, 1⟩
abbrev LEG_STAT_FORCED_OFF : Fld := ⟨2, 1⟩
abbrev LEG_STAT_TRIPPED : Fld := ⟨1, 1⟩
abbrev LEG_STAT_ENABLED : Fld := ⟨0, 1⟩
abbrev LEG_PER_PER : Fld := ⟨0, 24⟩
abbrev LEG_MINPW_MINPW : Fld := ⟨0, 16⟩
abbrev LEG_TRIP_RESP : Fld := ⟨0, 2⟩
abbrev LEG_DT_DT : Fld := ⟨0, 16⟩
abbrev LEG_SHA_VALUE : Fld := ⟨0, 24⟩
abbrev LEG_SHB_VALUE : Fld := ⟨0, 24⟩
abbrev LEG_SHIFT_SH_FALL : Fld := ⟨16, 16⟩
abbrev LEG_SHIFT_SH_RISE : Fld := ⟨0, 16⟩
abbrev LEG_CAL_PADERR_GL : Fld := ⟨16, 16⟩
abbrev LEG_CAL_PADERR_GH : Fld := ⟨0, 16⟩
abbrev LEG_CALAGE_AGE_GL : Fld := ⟨16, 16⟩
abbrev LEG_CALAGE_AGE_GH : Fld := ⟨0, 16⟩
abbrev LEG_GLCFG_ERRLIM : Fld := ⟨16, 4⟩
abbrev LEG_GLCFG_POLL : Fld := ⟨8, 8⟩
abbrev LEG_GLCFG_NDRV : Fld := ⟨0, 2⟩
abbrev LEG_GLWL_FIRST : Fld := ⟨16, 12⟩
abbrev LEG_GLWL_COUNT : Fld := ⟨0, 7⟩
abbrev LEG_GLSTAT_TEMP1 : Fld := ⟨24, 8⟩
abbrev LEG_GLSTAT_TEMP0 : Fld := ⟨16, 8⟩
abbrev LEG_GLSTAT_STAT1 : Fld := ⟨8, 8⟩
abbrev LEG_GLSTAT_STAT0 : Fld := ⟨0, 8⟩
abbrev LEG_GLREQ_GO : Fld := ⟨31, 1⟩
abbrev LEG_GLREQ_ADDR : Fld := ⟨28, 2⟩
abbrev LEG_GLREQ_OP : Fld := ⟨26, 2⟩
abbrev LEG_GLREQ_REG : Fld := ⟨16, 8⟩
abbrev LEG_GLREQ_DATA : Fld := ⟨0, 16⟩
abbrev LEG_GLRSP_DONE : Fld := ⟨31, 1⟩
abbrev LEG_GLRSP_ERR : Fld := ⟨30, 1⟩
abbrev LEG_GLRSP_NOACK : Fld := ⟨29, 1⟩
abbrev LEG_GLRSP_STATUS : Fld := ⟨16, 8⟩
abbrev LEG_GLRSP_DATA : Fld := ⟨0, 16⟩
abbrev LEG_FLT_DRVRST : Fld := ⟨9, 1⟩
abbrev LEG_FLT_CFGERR : Fld := ⟨8, 1⟩
abbrev LEG_FLT_CAL : Fld := ⟨7, 1⟩
abbrev LEG_FLT_PARITY : Fld := ⟨6, 1⟩
abbrev LEG_FLT_CONTENTION : Fld := ⟨5, 1⟩
abbrev LEG_FLT_CRC : Fld := ⟨4, 1⟩
abbrev LEG_FLT_NOACK : Fld := ⟨3, 1⟩
abbrev LEG_FLT_PULL : Fld := ⟨2, 1⟩
abbrev LEG_FLT_UVLO : Fld := ⟨1, 1⟩
abbrev LEG_FLT_DESAT : Fld := ⟨0, 1⟩
abbrev LEG_CNT_CALF : Fld := ⟨24, 8⟩
abbrev LEG_CNT_MISM : Fld := ⟨16, 8⟩
abbrev LEG_CNT_LINKERR : Fld := ⟨0, 16⟩
abbrev LEG_GLTAB_ADDR : Fld := ⟨30, 2⟩
abbrev LEG_GLTAB_REG : Fld := ⟨16, 8⟩
abbrev LEG_GLTAB_DATA : Fld := ⟨0, 16⟩
abbrev ADC_STAT_RETIRED : Fld := ⟨16, 9⟩
abbrev ADC_STAT_SWAPPING : Fld := ⟨6, 1⟩
abbrev ADC_STAT_CALBUSY : Fld := ⟨5, 1⟩
abbrev ADC_STAT_NOSPARE : Fld := ⟨4, 1⟩
abbrev ADC_STAT_SPARE : Fld := ⟨0, 4⟩
abbrev ADC_PDCFG_PDEN : Fld := ⟨31, 1⟩
abbrev ADC_PDCFG_IDLE : Fld := ⟨0, 8⟩
abbrev ADC_FLT_SLOTDEAD : Fld := ⟨6, 1⟩
abbrev ADC_FLT_NOSPARE : Fld := ⟨5, 1⟩
abbrev ADC_FLT_URGREF : Fld := ⟨4, 1⟩
abbrev ADC_FLT_SWAPDEF : Fld := ⟨3, 1⟩
abbrev ADC_FLT_SWAPMIS : Fld := ⟨2, 1⟩
abbrev ADC_FLT_CALFAIL : Fld := ⟨1, 1⟩
abbrev ADC_FLT_OVR : Fld := ⟨0, 1⟩
abbrev ADC_CALOFS_OFS : Fld := ⟨0, 16⟩
abbrev ADC_CALGAIN_GAIN : Fld := ⟨0, 16⟩
abbrev ADC_CALAGE_FAILED : Fld := ⟨17, 1⟩
abbrev ADC_CALAGE_AGED : Fld := ⟨16, 1⟩
abbrev ADC_CALAGE_AGE : Fld := ⟨0, 16⟩
abbrev ADC_SEQCFG_EN : Fld := ⟨31, 1⟩
abbrev ADC_SEQCFG_POLICY : Fld := ⟨29, 2⟩
abbrev ADC_SEQCFG_PRIO : Fld := ⟨27, 2⟩
abbrev ADC_SEQCFG_REFSEL : Fld := ⟨26, 1⟩
abbrev ADC_SEQCFG_DKIND : Fld := ⟨24, 2⟩
abbrev ADC_SEQCFG_DIDX : Fld := ⟨20, 4⟩
abbrev ADC_SEQCFG_GIOEN : Fld := ⟨19, 1⟩
abbrev ADC_SEQCFG_GIO : Fld := ⟨14, 5⟩
abbrev ADC_SEQCFG_CHAINEN : Fld := ⟨13, 1⟩
abbrev ADC_SEQCFG_CHAIN : Fld := ⟨8, 5⟩
abbrev ADC_SEQCFG_LAST : Fld := ⟨0, 5⟩
abbrev ADC_SEQSTAT_RUN : Fld := ⟨31, 1⟩
abbrev ADC_SEQSTAT_PENDING : Fld := ⟨30, 1⟩
abbrev ADC_SEQSTAT_STEP : Fld := ⟨16, 5⟩
abbrev ADC_SEQSTAT_OVR : Fld := ⟨0, 16⟩
abbrev ADC_URGREQ_GO : Fld := ⟨31, 1⟩
abbrev ADC_URGREQ_ACQ : Fld := ⟨16, 8⟩
abbrev ADC_URGREQ_REFSEL : Fld := ⟨10, 1⟩
abbrev ADC_URGREQ_GAIN : Fld := ⟨8, 2⟩
abbrev ADC_URGREQ_DIFF : Fld := ⟨7, 1⟩
abbrev ADC_URGREQ_INPUT : Fld := ⟨0, 7⟩
abbrev ADC_URGRES_DONE : Fld := ⟨31, 1⟩
abbrev ADC_URGRES_RESULT : Fld := ⟨0, 31⟩
abbrev ADC_STEP_ACQ : Fld := ⟨16, 8⟩
abbrev ADC_STEP_FWD : Fld := ⟨14, 1⟩
abbrev ADC_STEP_WITHNEXT : Fld := ⟨13, 1⟩
abbrev ADC_STEP_SLOT : Fld := ⟨10, 3⟩
abbrev ADC_STEP_GAIN : Fld := ⟨8, 2⟩
abbrev ADC_STEP_DIFF : Fld := ⟨7, 1⟩
abbrev ADC_STEP_INPUT : Fld := ⟨0, 7⟩
abbrev DSM_CFG_EN : Fld := ⟨31, 1⟩
abbrev DSM_CFG_MODE : Fld := ⟨30, 1⟩
abbrev DSM_CFG_ORDER : Fld := ⟨28, 2⟩
abbrev DSM_CFG_DEC : Fld := ⟨16, 9⟩
abbrev DSM_CFG_DKIND : Fld := ⟨12, 2⟩
abbrev DSM_CFG_DIDX : Fld := ⟨8, 4⟩
abbrev DSM_CFG_CAPDLY : Fld := ⟨0, 6⟩
abbrev DSM_OCCFG_OCEN : Fld := ⟨31, 1⟩
abbrev DSM_OCCFG_OCCNT : Fld := ⟨24, 2⟩
abbrev DSM_OCCFG_OCHI : Fld := ⟨8, 8⟩
abbrev DSM_OCCFG_OCLO : Fld := ⟨0, 8⟩
abbrev DSM_SATLIM_SATLIM : Fld := ⟨0, 15⟩
abbrev DSM_STAT_SETTLE : Fld := ⟨16, 4⟩
abbrev DSM_STAT_WINOVR : Fld := ⟨8, 8⟩
abbrev DSM_STAT_RUN : Fld := ⟨2, 1⟩
abbrev DSM_STAT_STUCK : Fld := ⟨1, 1⟩
abbrev DSM_STAT_OC : Fld := ⟨0, 1⟩
abbrev DSM_FLT_OCTRIP : Fld := ⟨2, 1⟩
abbrev DSM_FLT_WINOVR : Fld := ⟨1, 1⟩
abbrev DSM_FLT_STUCK : Fld := ⟨0, 1⟩
abbrev DSM_CKCFG_RATE : Fld := ⟨8, 8⟩
abbrev DSM_CKCFG_EN : Fld := ⟨0, 8⟩
abbrev CMP_CFG_EN : Fld := ⟨31, 1⟩
abbrev CMP_CFG_SAMP : Fld := ⟨30, 1⟩
abbrev CMP_CFG_MODE : Fld := ⟨28, 2⟩
abbrev CMP_CFG_FILT : Fld := ⟨26, 2⟩
abbrev CMP_CFG_INIT_NORMAL : Fld := ⟨25, 1⟩
abbrev CMP_CFG_HYST : Fld := ⟨20, 4⟩
abbrev CMP_CFG_TICK : Fld := ⟨0, 12⟩
abbrev CMP_THR_HI : Fld := ⟨16, 10⟩
abbrev CMP_THR_LO : Fld := ⟨0, 10⟩
abbrev CMP_STAT_SUSPECT : Fld := ⟨8, 1⟩
abbrev CMP_STAT_SUBST : Fld := ⟨7, 1⟩
abbrev CMP_STAT_DEGRADED : Fld := ⟨6, 1⟩
abbrev CMP_STAT_RETIRED : Fld := ⟨5, 1⟩
abbrev CMP_STAT_RAW_LO : Fld := ⟨4, 1⟩
abbrev CMP_STAT_RAW_HI : Fld := ⟨3, 1⟩
abbrev CMP_STAT_SIDE_LO : Fld := ⟨2, 1⟩
abbrev CMP_STAT_SIDE_HI : Fld := ⟨1, 1⟩
abbrev CMP_STAT_TRIPPED : Fld := ⟨0, 1⟩
abbrev CMP_RDBK_ERR_HI : Fld := ⟨16, 16⟩
abbrev CMP_RDBK_ERR_LO : Fld := ⟨0, 16⟩
abbrev CMP_CNT_TRIPS : Fld := ⟨16, 16⟩
abbrev CMP_CNT_TESTF : Fld := ⟨8, 8⟩
abbrev CMP_CNT_RDBKF : Fld := ⟨0, 8⟩
abbrev CMP_FLT_RETIRED : Fld := ⟨3, 1⟩
abbrev CMP_FLT_TESTFAIL : Fld := ⟨2, 1⟩
abbrev CMP_FLT_DACMIS : Fld := ⟨1, 1⟩
abbrev CMP_FLT_TRIP : Fld := ⟨0, 1⟩
abbrev TRP_STAT_EXT : Fld := ⟨16, 4⟩
abbrev TRP_STAT_ASSERTED : Fld := ⟨0, 16⟩
abbrev TRP_REL_REL : Fld := ⟨0, 16⟩
abbrev TRP_SWTRIP_SW : Fld := ⟨0, 16⟩
abbrev TRP_EXTCFG_EN : Fld := ⟨16, 4⟩
abbrev TRP_EXTCFG_FILT : Fld := ⟨0, 16⟩
abbrev TRP_GCFG_EN : Fld := ⟨31, 1⟩
abbrev TRP_GCFG_AUTOREL : Fld := ⟨30, 1⟩
abbrev TRP_GCFG_AUTOMAX : Fld := ⟨24, 3⟩
abbrev TRP_GCFG_RELDLY : Fld := ⟨0, 16⟩
abbrev TRP_GFIRST_VALID : Fld := ⟨31, 1⟩
abbrev TRP_GFIRST_SOURCE : Fld := ⟨0, 8⟩
abbrev TRP_GCNT_TRIPS : Fld := ⟨16, 16⟩
abbrev TRP_GCNT_AUTOREL : Fld := ⟨0, 16⟩
abbrev CEN_CFG_SPLIT : Fld := ⟨31, 1⟩
abbrev CEN_CFG_STEN : Fld := ⟨8, 1⟩
abbrev CEN_CFG_STPER : Fld := ⟨0, 8⟩
abbrev CEN_STAT_RETIRED : Fld := ⟨27, 1⟩
abbrev CEN_STAT_RESTARTING : Fld := ⟨26, 1⟩
abbrev CEN_STAT_TESTING : Fld := ⟨25, 1⟩
abbrev CEN_STAT_PEND : Fld := ⟨20, 4⟩
abbrev CEN_STAT_RUN : Fld := ⟨16, 4⟩
abbrev CEN_STAT_MISS : Fld := ⟨0, 4⟩
abbrev CEN_FLT_DEFERRED : Fld := ⟨6, 1⟩
abbrev CEN_FLT_STFAIL : Fld := ⟨5, 1⟩
abbrev CEN_FLT_OVERRUN : Fld := ⟨4, 1⟩
abbrev CEN_FLT_SCHEDNAN : Fld := ⟨3, 1⟩
abbrev CEN_FLT_NONFINITE : Fld := ⟨2, 1⟩
abbrev CEN_FLT_LATENT : Fld := ⟨1, 1⟩
abbrev CEN_FLT_MISMATCH : Fld := ⟨0, 1⟩
abbrev CEN_CNT_RESTARTS : Fld := ⟨24, 8⟩
abbrev CEN_CNT_LATENT : Fld := ⟨16, 8⟩
abbrev CEN_CNT_STFAIL : Fld := ⟨8, 8⟩
abbrev CEN_CNT_DEFER : Fld := ⟨0, 8⟩
abbrev CEN_GO_GO : Fld := ⟨0, 4⟩
abbrev CEN_CDESC_REG16 : Fld := ⟨27, 1⟩
abbrev CEN_CDESC_NSEC : Fld := ⟨17, 7⟩
abbrev CEN_CDESC_HDR : Fld := ⟨0, 17⟩
abbrev CEN_CTRIG_SRCC : Fld := ⟨4, 2⟩
abbrev CEN_CTRIG_TRIG : Fld := ⟨0, 2⟩
abbrev CEN_CSTAT_BOUND : Fld := ⟨31, 1⟩
abbrev CEN_CSTAT_ACTIVE : Fld := ⟨30, 1⟩
abbrev CEN_CSTAT_REGION : Fld := ⟨16, 4⟩
abbrev CEN_CSTAT_CMISS : Fld := ⟨0, 4⟩
abbrev CEN_CMISS_MISSES : Fld := ⟨16, 16⟩
abbrev CEN_CMISS_OVERRUNS : Fld := ⟨0, 16⟩
abbrev CEN_CSLACK_MIN : Fld := ⟨16, 16⟩
abbrev CEN_CSLACK_LAST : Fld := ⟨0, 16⟩
abbrev AXU_CFG_BOUND : Fld := ⟨31, 1⟩
abbrev AXU_CFG_COUPLED : Fld := ⟨30, 1⟩
abbrev AXU_CFG_GAMMA : Fld := ⟨29, 1⟩
abbrev AXU_CFG_FN : Fld := ⟨24, 5⟩
abbrev AXU_CFG_SUBMAX : Fld := ⟨16, 4⟩
abbrev AXU_CFG_SETUSE : Fld := ⟨15, 1⟩
abbrev AXU_CFG_HOLDV : Fld := ⟨14, 1⟩
abbrev AXU_CFG_SENSE : Fld := ⟨12, 2⟩
abbrev AXU_CFG_ZSCNT : Fld := ⟨8, 4⟩
abbrev AXU_STAT_SUBCNT : Fld := ⟨28, 4⟩
abbrev AXU_STAT_LATE : Fld := ⟨11, 1⟩
abbrev AXU_STAT_NONFIN : Fld := ⟨10, 1⟩
abbrev AXU_STAT_HELD : Fld := ⟨9, 1⟩
abbrev AXU_STAT_SUBST : Fld := ⟨8, 1⟩
abbrev AXU_STAT_SHIFTED : Fld := ⟨7, 1⟩
abbrev AXU_STAT_WINLIM : Fld := ⟨6, 1⟩
abbrev AXU_STAT_VLIM : Fld := ⟨5, 1⟩
abbrev AXU_STAT_SAT : Fld := ⟨4, 1⟩
abbrev AXU_STAT_INV_BUSY : Fld := ⟨3, 1⟩
abbrev AXU_STAT_FWD_BUSY : Fld := ⟨2, 1⟩
abbrev AXU_STAT_SETB : Fld := ⟨1, 1⟩
abbrev AXU_STAT_ENABLED : Fld := ⟨0, 1⟩
abbrev AXU_FLT_LATE : Fld := ⟨7, 1⟩
abbrev AXU_FLT_NONFIN : Fld := ⟨6, 1⟩
abbrev AXU_FLT_VSLOSS : Fld := ⟨5, 1⟩
abbrev AXU_FLT_HELD : Fld := ⟨4, 1⟩
abbrev AXU_FLT_ZSUM : Fld := ⟨3, 1⟩
abbrev AXU_FLT_FBLOST : Fld := ⟨2, 1⟩
abbrev AXU_FLT_SUBST : Fld := ⟨1, 1⟩
abbrev AXU_FLT_SAT : Fld := ⟨0, 1⟩
abbrev AXU_CNT_SUBS : Fld := ⟨24, 8⟩
abbrev AXU_CNT_HOLDS : Fld := ⟨16, 8⟩
abbrev AXU_CNT_LATES : Fld := ⟨8, 8⟩
abbrev AXU_CNT_VSLOSS : Fld := ⟨0, 8⟩
abbrev AXU_IN_EN : Fld := ⟨31, 1⟩
abbrev AXU_IN_ROLE : Fld := ⟨28, 3⟩
abbrev AXU_IN_KIND : Fld := ⟨27, 1⟩
abbrev AXU_IN_SRC : Fld := ⟨16, 5⟩
abbrev AXU_IN_STEP : Fld := ⟨8, 5⟩
abbrev AXU_IREF_QSRC : Fld := ⟨1, 1⟩
abbrev AXU_IREF_DSRC : Fld := ⟨0, 1⟩
abbrev AXU_REFSIG_QSIG : Fld := ⟨16, 16⟩
abbrev AXU_REFSIG_DSIG : Fld := ⟨0, 16⟩
abbrev AXU_MOD_DTCEN : Fld := ⟨4, 1⟩
abbrev AXU_MOD_OVM : Fld := ⟨2, 2⟩
abbrev AXU_MOD_MODE : Fld := ⟨0, 2⟩
abbrev AXU_DTCT_DTC : Fld := ⟨0, 16⟩
abbrev AXU_WIN_WEN : Fld := ⟨31, 1⟩
abbrev AXU_WIN_WPRE : Fld := ⟨12, 12⟩
abbrev AXU_WIN_WPOST : Fld := ⟨0, 12⟩
abbrev AXU_CMAX_CMAX : Fld := ⟨0, 24⟩
abbrev AXU_CARRY_CARRY : Fld := ⟨0, 24⟩
abbrev AXU_POSCFG_FSEN : Fld := ⟨31, 1⟩
abbrev AXU_POSCFG_LOSSN : Fld := ⟨16, 4⟩
abbrev AXU_POSCFG_PP : Fld := ⟨8, 8⟩
abbrev AXU_POSCFG_SRC : Fld := ⟨0, 3⟩
abbrev AXU_POSSTAT_DIR : Fld := ⟨31, 1⟩
abbrev AXU_POSSTAT_TRIES : Fld := ⟨28, 3⟩
abbrev AXU_POSSTAT_LATCHED : Fld := ⟨27, 1⟩
abbrev AXU_POSSTAT_LOSSCNT : Fld := ⟨4, 4⟩
abbrev AXU_POSSTAT_PHASE : Fld := ⟨0, 4⟩
abbrev AXU_POSFLT_FAULT : Fld := ⟨6, 1⟩
abbrev AXU_POSFLT_RAMPNAN : Fld := ⟨5, 1⟩
abbrev AXU_POSFLT_SENTSTALE : Fld := ⟨4, 1⟩
abbrev AXU_POSFLT_HALLINV : Fld := ⟨3, 1⟩
abbrev AXU_POSFLT_POLFAIL : Fld := ⟨2, 1⟩
abbrev AXU_POSFLT_CONVFAIL : Fld := ⟨1, 1⟩
abbrev AXU_POSFLT_LOST : Fld := ⟨0, 1⟩
abbrev AXU_POSCNT_LOSSES : Fld := ⟨24, 8⟩
abbrev AXU_POSCNT_CATCHES : Fld := ⟨16, 8⟩
abbrev AXU_POSCNT_POLRETRY : Fld := ⟨8, 8⟩
abbrev AXU_POSCNT_SENSERR : Fld := ⟨0, 8⟩
abbrev AXU_INJCFG_SYNC : Fld := ⟨31, 1⟩
abbrev AXU_INJCFG_AMPSRC : Fld := ⟨30, 1⟩
abbrev AXU_INJCFG_CONVMAX : Fld := ⟨16, 8⟩
abbrev AXU_INJCFG_CONVN : Fld := ⟨8, 4⟩
abbrev AXU_INJCFG_K : Fld := ⟨0, 6⟩
abbrev AXU_POLCFG_MRG : Fld := ⟨16, 8⟩
abbrev AXU_POLCFG_POLN : Fld := ⟨0, 4⟩
abbrev AXU_FSCFG_RETRYDLY : Fld := ⟨16, 8⟩
abbrev AXU_FSCFG_MEASN : Fld := ⟨0, 7⟩
abbrev AXU_SENSCFG_SENTSIG : Fld := ⟨27, 1⟩
abbrev AXU_SENSCFG_SENTCH : Fld := ⟨24, 3⟩
abbrev AXU_SENSCFG_HW : Fld := ⟨16, 5⟩
abbrev AXU_SENSCFG_HV : Fld := ⟨8, 5⟩
abbrev AXU_SENSCFG_HU : Fld := ⟨0, 5⟩
abbrev AXU_HALLMAP_MAP : Fld := ⟨3, 18⟩
abbrev AXU_RAMPCFG_STEP : Fld := ⟨31, 1⟩
abbrev AXU_RAMPCFG_DWELL : Fld := ⟨0, 9⟩
abbrev AXU_RAMPSIG_SIG : Fld := ⟨0, 16⟩
abbrev GIO_CFG_PULL : Fld := ⟨12, 2⟩
abbrev GIO_CFG_FILT : Fld := ⟨4, 8⟩
abbrev GIO_CFG_INV : Fld := ⟨3, 1⟩
abbrev GIO_CFG_MODE : Fld := ⟨0, 3⟩
abbrev GIO_IN_PIN : Fld := ⟨0, 24⟩
abbrev GIO_OUT_PIN : Fld := ⟨0, 24⟩
abbrev GIO_EDGE_PIN : Fld := ⟨0, 24⟩
abbrev GIO_SENTCFG_NIBS : Fld := ⟨16, 4⟩
abbrev GIO_SENTCFG_SLOW : Fld := ⟨14, 2⟩
abbrev GIO_SENTCFG_PAUSE : Fld := ⟨13, 1⟩
abbrev GIO_SENTCFG_LEGACY : Fld := ⟨12, 1⟩
abbrev GIO_SENTCFG_REV2 : Fld := ⟨11, 1⟩
abbrev GIO_SENTCFG_TICK : Fld := ⟨0, 11⟩
abbrev GIO_SENTFAST_VALID : Fld := ⟨31, 1⟩
abbrev GIO_SENTFAST_STATUS : Fld := ⟨24, 4⟩
abbrev GIO_SENTFAST_D1 : Fld := ⟨12, 12⟩
abbrev GIO_SENTFAST_D2 : Fld := ⟨0, 12⟩
abbrev GIO_SENTSLOW_VALID : Fld := ⟨31, 1⟩
abbrev GIO_SENTSLOW_ENH : Fld := ⟨30, 1⟩
abbrev GIO_SENTSLOW_ID : Fld := ⟨20, 8⟩
abbrev GIO_SENTSLOW_DATA : Fld := ⟨0, 16⟩
abbrev GIO_SENTERR_SYNCERR : Fld := ⟨24, 8⟩
abbrev GIO_SENTERR_CRCERR : Fld := ⟨16, 8⟩
abbrev GIO_SENTERR_SLOWERR : Fld := ⟨8, 8⟩
abbrev CVU_CFG_BOUND : Fld := ⟨31, 1⟩
abbrev CVU_CFG_FN : Fld := ⟨24, 5⟩
abbrev CVU_CFG_KIND : Fld := ⟨20, 4⟩
abbrev CVU_CFG_SUBMAX : Fld := ⟨16, 4⟩
abbrev CVU_CFG_CM : Fld := ⟨14, 2⟩
abbrev CVU_CFG_PHMEN : Fld := ⟨13, 1⟩
abbrev CVU_CFG_SETUSE : Fld := ⟨12, 1⟩
abbrev CVU_CFG_NLEG : Fld := ⟨0, 4⟩
abbrev CVU_STAT_SUBCNT : Fld := ⟨28, 4⟩
abbrev CVU_STAT_NACT : Fld := ⟨24, 4⟩
abbrev CVU_STAT_PLLOCK : Fld := ⟨7, 1⟩
abbrev CVU_STAT_PARKED : Fld := ⟨6, 1⟩
abbrev CVU_STAT_CMLIM : Fld := ⟨5, 1⟩
abbrev CVU_STAT_HELD : Fld := ⟨4, 1⟩
abbrev CVU_STAT_LATE : Fld := ⟨3, 1⟩
abbrev CVU_STAT_SUBST : Fld := ⟨2, 1⟩
abbrev CVU_STAT_ILIM : Fld := ⟨1, 1⟩
abbrev CVU_STAT_ENABLED : Fld := ⟨0, 1⟩
abbrev CVU_FLT_SENSE : Fld := ⟨7, 1⟩
abbrev CVU_FLT_NONFIN : Fld := ⟨6, 1⟩
abbrev CVU_FLT_LATE : Fld := ⟨5, 1⟩
abbrev CVU_FLT_HELD : Fld := ⟨4, 1⟩
abbrev CVU_FLT_FBLOST : Fld := ⟨3, 1⟩
abbrev CVU_FLT_SUBST : Fld := ⟨2, 1⟩
abbrev CVU_FLT_PLLLOSS : Fld := ⟨1, 1⟩
abbrev CVU_FLT_SAT : Fld := ⟨0, 1⟩
abbrev CVU_CNT_SUBS : Fld := ⟨24, 8⟩
abbrev CVU_CNT_HOLDS : Fld := ⟨16, 8⟩
abbrev CVU_CNT_LATES : Fld := ⟨8, 8⟩
abbrev CVU_CNT_PHCHG : Fld := ⟨0, 8⟩
abbrev CVU_IN_EN : Fld := ⟨31, 1⟩
abbrev CVU_IN_ROLE : Fld := ⟨27, 4⟩
abbrev CVU_IN_KIND : Fld := ⟨26, 1⟩
abbrev CVU_IN_SRC : Fld := ⟨16, 5⟩
abbrev CVU_IN_STEP : Fld := ⟨8, 5⟩
abbrev CVU_CMCFG_BLANK : Fld := ⟨16, 8⟩
abbrev CVU_CMCFG_SLOPE : Fld := ⟨8, 4⟩
abbrev CVU_CMCFG_SLPSTEP : Fld := ⟨0, 8⟩
abbrev CVU_PHM_PHDLY : Fld := ⟨8, 8⟩
abbrev CVU_PHM_NMIN : Fld := ⟨0, 4⟩
abbrev CVU_SETSIG_ISIG : Fld := ⟨16, 16⟩
abbrev CVU_SETSIG_VSIG : Fld := ⟨0, 16⟩
abbrev CHG_CFG_EN : Fld := ⟨31, 1⟩
abbrev CHG_CFG_AUTOSTART : Fld := ⟨30, 1⟩
abbrev CHG_CFG_FN : Fld := ⟨24, 5⟩
abbrev CHG_CFG_ACFN : Fld := ⟨16, 5⟩
abbrev CHG_CFG_SOLFN : Fld := ⟨8, 5⟩
abbrev CHG_CFG_PATH : Fld := ⟨3, 1⟩
abbrev CHG_CFG_SRC : Fld := ⟨0, 2⟩
abbrev CHG_STAT_PHASE : Fld := ⟨16, 4⟩
abbrev CHG_STAT_PAT : Fld := ⟨12, 3⟩
abbrev CHG_STAT_REASON : Fld := ⟨8, 4⟩
abbrev CHG_STAT_TIMERRUN : Fld := ⟨7, 1⟩
abbrev CHG_STAT_DERATED : Fld := ⟨6, 1⟩
abbrev CHG_STAT_CUTBACK : Fld := ⟨5, 1⟩
abbrev CHG_STAT_TEMPOK : Fld := ⟨4, 1⟩
abbrev CHG_STAT_SOLQ : Fld := ⟨3, 1⟩
abbrev CHG_STAT_SRCQ : Fld := ⟨2, 1⟩
abbrev CHG_FLT_LAMPOPEN : Fld := ⟨7, 1⟩
abbrev CHG_FLT_LAMPSHORT : Fld := ⟨6, 1⟩
abbrev CHG_FLT_STAGE : Fld := ⟨5, 1⟩
abbrev CHG_FLT_SHORTED : Fld := ⟨4, 1⟩
abbrev CHG_FLT_MISSING : Fld := ⟨3, 1⟩
abbrev CHG_FLT_TIMER : Fld := ⟨2, 1⟩
abbrev CHG_FLT_HANDOVER : Fld := ⟨1, 1⟩
abbrev CHG_FLT_SUSPEND : Fld := ⟨0, 1⟩
abbrev CHG_CTRL_STOP : Fld := ⟨1, 1⟩
abbrev CHG_CTRL_START : Fld := ⟨0, 1⟩
abbrev CHG_ACK_ACK : Fld := ⟨0, 1⟩
abbrev CHG_TIMES_PRECHK : Fld := ⟨16, 8⟩
abbrev CHG_TIMES_HOTIME : Fld := ⟨0, 5⟩
abbrev CHG_TCELL_NTC : Fld := ⟨16, 5⟩
abbrev CHG_TCELL_TMAX : Fld := ⟨8, 8⟩
abbrev CHG_TCELL_TMIN : Fld := ⟨0, 8⟩
abbrev CHG_DEB_DEB_SOL : Fld := ⟨16, 16⟩
abbrev CHG_DEB_DEB_AC : Fld := ⟨0, 16⟩
abbrev CHG_LAMP_FORCE : Fld := ⟨31, 1⟩
abbrev CHG_LAMP_PAT : Fld := ⟨0, 3⟩
abbrev RED_CFG_CKPER : Fld := ⟨16, 12⟩
abbrev RED_CFG_GUST_WINDOW : Fld := ⟨8, 8⟩
abbrev RED_CFG_GALE_LIMIT : Fld := ⟨0, 4⟩
abbrev RED_STAT_CULLFULL : Fld := ⟨31, 1⟩
abbrev RED_STAT_DEPUTY : Fld := ⟨30, 1⟩
abbrev RED_STAT_CULLCNT : Fld := ⟨8, 9⟩
abbrev RED_STAT_MODE : Fld := ⟨0, 8⟩
abbrev RED_FLT_CULLFULL : Fld := ⟨6, 1⟩
abbrev RED_FLT_WDGMISS : Fld := ⟨5, 1⟩
abbrev RED_FLT_T0KICK : Fld := ⟨4, 1⟩
abbrev RED_FLT_GALE : Fld := ⟨3, 1⟩
abbrev RED_FLT_LATENT : Fld := ⟨2, 1⟩
abbrev RED_FLT_RESTART : Fld := ⟨1, 1⟩
abbrev RED_FLT_MINORITY : Fld := ⟨0, 1⟩
abbrev RED_GUSTCLR_RES : Fld := ⟨16, 16⟩
abbrev RED_GUSTCLR_GO : Fld := ⟨0, 1⟩
abbrev RED_CULLCLR_RES : Fld := ⟨16, 16⟩
abbrev RED_CULLCLR_KEY : Fld := ⟨8, 8⟩
abbrev RED_CULLCLR_GO : Fld := ⟨0, 1⟩
abbrev RED_T0KICK_KICK : Fld := ⟨0, 8⟩
abbrev RED_FNCMD_CAUSE : Fld := ⟨16, 16⟩
abbrev RED_FNCMD_ALL : Fld := ⟨15, 1⟩
abbrev RED_FNCMD_OP : Fld := ⟨12, 3⟩
abbrev RED_FNCMD_STATE : Fld := ⟨8, 3⟩
abbrev RED_FNCMD_FN : Fld := ⟨0, 5⟩
abbrev RED_FNREQ_STATE : Fld := ⟨12, 3⟩
abbrev RED_FNREQ_REQ : Fld := ⟨8, 2⟩
abbrev RED_FNREQ_FN : Fld := ⟨0, 5⟩
abbrev RED_TSTAT_MODE : Fld := ⟨30, 2⟩
abbrev RED_TSTAT_RESTARTING : Fld := ⟨29, 1⟩
abbrev RED_TSTAT_DEGRADED : Fld := ⟨28, 1⟩
abbrev RED_TSTAT_RETIRED : Fld := ⟨8, 3⟩
abbrev RED_TSTAT_REBUILD : Fld := ⟨4, 3⟩
abbrev RED_TCNT_RESYNCS : Fld := ⟨24, 8⟩
abbrev RED_TCNT_RESTARTS : Fld := ⟨16, 8⟩
abbrev RED_TCNT_LATENT : Fld := ⟨8, 8⟩
abbrev RED_TCNT_REPLAYDIV : Fld := ⟨0, 8⟩
abbrev RED_WDGCFG_EN : Fld := ⟨31, 1⟩
abbrev RED_WDGCFG_TRIAD : Fld := ⟨28, 2⟩
abbrev RED_WDGCFG_OPEN : Fld := ⟨16, 12⟩
abbrev RED_WDGCFG_CLOSE : Fld := ⟨0, 12⟩
abbrev RED_WDGKICK_KICK : Fld := ⟨0, 1⟩
abbrev RED_WDGSTAT_LATE : Fld := ⟨17, 1⟩
abbrev RED_WDGSTAT_EARLY : Fld := ⟨16, 1⟩
abbrev RED_WDGSTAT_MISSES : Fld := ⟨0, 16⟩
abbrev RED_FNSAFE_LATCHALL : Fld := ⟨31, 1⟩
abbrev RED_FNSAFE_BRKTIME : Fld := ⟨0, 14⟩
abbrev RED_FNSTATE_ENABLED : Fld := ⟨31, 1⟩
abbrev RED_FNSTATE_SAFE : Fld := ⟨30, 1⟩
abbrev RED_FNSTATE_LATCHED : Fld := ⟨29, 1⟩
abbrev RED_FNSTATE_RESUNAV : Fld := ⟨28, 1⟩
abbrev RED_FNSTATE_BRKOFF : Fld := ⟨27, 1⟩
abbrev RED_FNSTATE_STATE : Fld := ⟨24, 3⟩
abbrev RED_FNSTATE_CAUSE : Fld := ⟨0, 16⟩
abbrev RED_GUST_RETIRED : Fld := ⟨31, 1⟩
abbrev RED_GUST_RECENT : Fld := ⟨24, 4⟩
abbrev RED_GUST_TOTAL : Fld := ⟨8, 8⟩
abbrev RED_GUST_COUNT : Fld := ⟨0, 8⟩
abbrev LNK_CFG_PAIRED : Fld := ⟨31, 1⟩
abbrev LNK_CFG_HBLOSS : Fld := ⟨16, 4⟩
abbrev LNK_CFG_SOLOWAIT : Fld := ⟨8, 8⟩
abbrev LNK_CFG_JTO : Fld := ⟨0, 8⟩
abbrev LNK_STAT_LANES : Fld := ⟨8, 4⟩
abbrev LNK_STAT_HALF : Fld := ⟨7, 1⟩
abbrev LNK_STAT_LINKUP : Fld := ⟨6, 1⟩
abbrev LNK_STAT_PEERTOK : Fld := ⟨5, 1⟩
abbrev LNK_STAT_TOKEN : Fld := ⟨4, 1⟩
abbrev LNK_STAT_SIDE : Fld := ⟨3, 1⟩
abbrev LNK_STAT_ROLE : Fld := ⟨0, 3⟩
abbrev LNK_CTRL_RETRAIN : Fld := ⟨1, 1⟩
abbrev LNK_CTRL_YIELD : Fld := ⟨0, 1⟩
abbrev LNK_FLT_CFGMIS : Fld := ⟨6, 1⟩
abbrev LNK_FLT_TOKRACE : Fld := ⟨5, 1⟩
abbrev LNK_FLT_TOKWIRE : Fld := ⟨4, 1⟩
abbrev LNK_FLT_JRNFAIL : Fld := ⟨3, 1⟩
abbrev LNK_FLT_MIRSKIP : Fld := ⟨2, 1⟩
abbrev LNK_FLT_LANE : Fld := ⟨1, 1⟩
abbrev LNK_FLT_DOWN : Fld := ⟨0, 1⟩
abbrev LNK_CNT_TAKEOVERS : Fld := ⟨24, 8⟩
abbrev LNK_CNT_SKIPS : Fld := ⟨16, 8⟩
abbrev LNK_CNT_RESENDS : Fld := ⟨8, 8⟩
abbrev LNK_CNT_DROPST : Fld := ⟨0, 8⟩
abbrev LNK_MIRSTAT_AGE : Fld := ⟨24, 8⟩
abbrev LNK_MIRSTAT_SCNUM : Fld := ⟨0, 24⟩
abbrev LNK_TKO_CAUSE : Fld := ⟨28, 4⟩
abbrev LNK_TKO_GAP : Fld := ⟨0, 16⟩
abbrev BUS_CFG_EN : Fld := ⟨31, 1⟩
abbrev BUS_CFG_FDEN : Fld := ⟨30, 1⟩
abbrev BUS_CFG_PXDIS : Fld := ⟨29, 1⟩
abbrev BUS_CFG_LOM : Fld := ⟨28, 1⟩
abbrev BUS_CFG_ABD : Fld := ⟨27, 1⟩
abbrev BUS_CFG_ABDJOIN : Fld := ⟨26, 1⟩
abbrev BUS_CFG_SELFRX : Fld := ⟨25, 1⟩
abbrev BUS_CFG_RECMAX : Fld := ⟨16, 4⟩
abbrev BUS_CFG_RECWIN : Fld := ⟨8, 8⟩
abbrev BUS_CTRL_RECOVER : Fld := ⟨0, 1⟩
abbrev BUS_STAT_SELV : Fld := ⟨21, 1⟩
abbrev BUS_STAT_SELQ : Fld := ⟨16, 5⟩
abbrev BUS_STAT_STATE : Fld := ⟨8, 3⟩
abbrev BUS_STAT_RECLIM : Fld := ⟨3, 1⟩
abbrev BUS_STAT_LISTEN : Fld := ⟨2, 1⟩
abbrev BUS_STAT_TXBUSY : Fld := ⟨1, 1⟩
abbrev BUS_STAT_RXBUSY : Fld := ⟨0, 1⟩
abbrev BUS_FLT_PEX : Fld := ⟨6, 1⟩
abbrev BUS_FLT_TDCRANGE : Fld := ⟨5, 1⟩
abbrev BUS_FLT_RXOVF : Fld := ⟨4, 1⟩
abbrev BUS_FLT_RECLIM : Fld := ⟨3, 1⟩
abbrev BUS_FLT_BUSOFF : Fld := ⟨2, 1⟩
abbrev BUS_FLT_PASSIVE : Fld := ⟨1, 1⟩
abbrev BUS_FLT_ERR : Fld := ⟨0, 1⟩
abbrev BUS_NBT_NSJW : Fld := ⟨25, 7⟩
abbrev BUS_NBT_NTSEG1 : Fld := ⟨17, 8⟩
abbrev BUS_NBT_NTSEG2 : Fld := ⟨10, 7⟩
abbrev BUS_NBT_NBRP : Fld := ⟨0, 8⟩
abbrev BUS_DBT_DSJW : Fld := ⟨24, 4⟩
abbrev BUS_DBT_DTSEG1 : Fld := ⟨16, 5⟩
abbrev BUS_DBT_DTSEG2 : Fld := ⟨8, 4⟩
abbrev BUS_DBT_DBRP : Fld := ⟨0, 5⟩
abbrev BUS_TDC_TDCEN : Fld := ⟨31, 1⟩
abbrev BUS_TDC_TDCO : Fld := ⟨0, 7⟩
abbrev BUS_TDCR_VALID : Fld := ⟨31, 1⟩
abbrev BUS_TDCR_TDCV : Fld := ⟨0, 7⟩
abbrev BUS_ECNT_RP : Fld := ⟨24, 1⟩
abbrev BUS_ECNT_REC : Fld := ⟨16, 8⟩
abbrev BUS_ECNT_TEC : Fld := ⟨0, 9⟩
abbrev BUS_LASTERR_ERRS : Fld := ⟨16, 16⟩
abbrev BUS_LASTERR_DATAPH : Fld := ⟨3, 1⟩
abbrev BUS_LASTERR_CODE : Fld := ⟨0, 3⟩
abbrev BUS_DROP_NOMATCH : Fld := ⟨16, 16⟩
abbrev BUS_DROP_OVF : Fld := ⟨0, 16⟩
abbrev BUS_RECCNT_WINCNT : Fld := ⟨8, 8⟩
abbrev BUS_RECCNT_TOTAL : Fld := ⟨0, 8⟩
abbrev BUS_ABDCFG_TMO : Fld := ⟨16, 8⟩
abbrev BUS_ABDCFG_DWELL : Fld := ⟨8, 8⟩
abbrev BUS_ABDCFG_RATES : Fld := ⟨0, 4⟩
abbrev BUS_ABDSTAT_FOUND : Fld := ⟨31, 1⟩
abbrev BUS_ABDSTAT_TIMEOUT : Fld := ⟨30, 1⟩
abbrev BUS_ABDSTAT_TRIES : Fld := ⟨8, 16⟩
abbrev BUS_ABDSTAT_RATE : Fld := ⟨0, 4⟩
abbrev BUS_FID_IDE : Fld := ⟨31, 1⟩
abbrev BUS_FID_FDF : Fld := ⟨30, 1⟩
abbrev BUS_FID_ID : Fld := ⟨0, 29⟩
abbrev BUS_FMASK_IDEM : Fld := ⟨31, 1⟩
abbrev BUS_FMASK_FDFM : Fld := ⟨30, 1⟩
abbrev BUS_FMASK_MASK : Fld := ⟨0, 29⟩
abbrev BUS_FCTL_EN : Fld := ⟨31, 1⟩
abbrev BUS_FCTL_KIND : Fld := ⟨28, 2⟩
abbrev BUS_FCTL_DAM : Fld := ⟨27, 1⟩
abbrev BUS_FCTL_QUE : Fld := ⟨0, 5⟩
abbrev QUE_CFG_EN : Fld := ⟨31, 1⟩
abbrev QUE_CFG_CLASS : Fld := ⟨30, 1⟩
abbrev QUE_CFG_DIR : Fld := ⟨29, 1⟩
abbrev QUE_CFG_BIND : Fld := ⟨16, 8⟩
abbrev QUE_CFG_RETRY : Fld := ⟨8, 8⟩
abbrev QUE_SIZE_ENTRIES : Fld := ⟨0, 11⟩
abbrev QUE_WR_INDEX : Fld := ⟨0, 10⟩
abbrev QUE_RD_INDEX : Fld := ⟨0, 10⟩
abbrev QUE_STAT_HEADSEL : Fld := ⟨31, 1⟩
abbrev QUE_STAT_INFLIGHT : Fld := ⟨30, 1⟩
abbrev QUE_STAT_WAITING : Fld := ⟨29, 1⟩
abbrev QUE_STAT_BLOCKED : Fld := ⟨28, 1⟩
abbrev QUE_STAT_FILL : Fld := ⟨0, 11⟩
abbrev QUE_FLT_CANREF : Fld := ⟨5, 1⟩
abbrev QUE_FLT_BADIDX : Fld := ⟨4, 1⟩
abbrev QUE_FLT_EXPIRED : Fld := ⟨3, 1⟩
abbrev QUE_FLT_FAILED : Fld := ⟨2, 1⟩
abbrev QUE_FLT_OVF : Fld := ⟨1, 1⟩
abbrev QUE_FLT_FULL : Fld := ⟨0, 1⟩
abbrev QUE_LOSS_EXPIRED : Fld := ⟨24, 8⟩
abbrev QUE_LOSS_FAILED : Fld := ⟨16, 8⟩
abbrev QUE_LOSS_CANCELLED : Fld := ⟨8, 8⟩
abbrev QUE_LOSS_OVF : Fld := ⟨0, 8⟩
abbrev QUE_CANCEL_GO : Fld := ⟨31, 1⟩
abbrev QUE_CANCEL_INDEX : Fld := ⟨0, 10⟩
abbrev QUE_CANRES_DONE : Fld := ⟨31, 1⟩
abbrev QUE_CANRES_RESULT : Fld := ⟨0, 2⟩
abbrev SIG_CFG_DOMEN : Fld := ⟨31, 1⟩
abbrev SIG_CFG_ROOT : Fld := ⟨30, 1⟩
abbrev SIG_CFG_GW : Fld := ⟨29, 1⟩
abbrev SIG_CFG_DISSENT : Fld := ⟨28, 1⟩
abbrev SIG_CFG_PRIO : Fld := ⟨24, 3⟩
abbrev SIG_CFG_REPLYTO : Fld := ⟨16, 8⟩
abbrev SIG_CFG_DEVID : Fld := ⟨0, 14⟩
abbrev SIG_DOM_ROOTID : Fld := ⟨16, 14⟩
abbrev SIG_DOM_DMARK : Fld := ⟨10, 6⟩
abbrev SIG_DOM_PUBPER : Fld := ⟨0, 8⟩
abbrev SIG_BCAST_EGRESS : Fld := ⟨0, 7⟩
abbrev SIG_STAT_AGREE : Fld := ⟨30, 2⟩
abbrev SIG_FLT_ROOTSILENT : Fld := ⟨6, 1⟩
abbrev SIG_FLT_DISSENT : Fld := ⟨5, 1⟩
abbrev SIG_FLT_MAPFULL : Fld := ⟨4, 1⟩
abbrev SIG_FLT_FWDDROP : Fld := ⟨3, 1⟩
abbrev SIG_FLT_HOPLIM : Fld := ⟨2, 1⟩
abbrev SIG_FLT_NOROUTE : Fld := ⟨1, 1⟩
abbrev SIG_FLT_SHORT : Fld := ⟨0, 1⟩
abbrev SIG_AGREE_DISSENT : Fld := ⟨16, 16⟩
abbrev SIG_AGREE_AGREE : Fld := ⟨0, 16⟩
abbrev SIG_CNT_FWD : Fld := ⟨16, 16⟩
abbrev SIG_CNT_NOROUTE : Fld := ⟨8, 8⟩
abbrev SIG_CNT_HOPLIM : Fld := ⟨0, 8⟩
abbrev SIG_MAPTX_GO : Fld := ⟨31, 1⟩
abbrev SIG_MAPTX_MAP : Fld := ⟨0, 8⟩
abbrev SIG_MAPRES_DONE : Fld := ⟨31, 1⟩
abbrev SIG_MAPRES_RESULT : Fld := ⟨0, 2⟩
abbrev SIG_DISS_DEVB : Fld := ⟨16, 16⟩
abbrev SIG_DISS_DEVA : Fld := ⟨0, 16⟩
abbrev SIG_MAPSTAT_APPLY : Fld := ⟨16, 16⟩
abbrev SIG_MAPSTAT_SHORT : Fld := ⟨0, 16⟩
abbrev JRN_CFG_WARNPCT : Fld := ⟨0, 8⟩
abbrev JRN_STAT_FULL : Fld := ⟨31, 1⟩
abbrev JRN_STAT_RECOVERED : Fld := ⟨30, 1⟩
abbrev JRN_STAT_LOCALMODE : Fld := ⟨29, 1⟩
abbrev JRN_STAT_COMMITTING : Fld := ⟨28, 1⟩
abbrev JRN_STAT_FILL : Fld := ⟨0, 10⟩
abbrev JRN_FLT_BADWRITE : Fld := ⟨5, 1⟩
abbrev JRN_FLT_EVICT : Fld := ⟨4, 1⟩
abbrev JRN_FLT_CORRUPT : Fld := ⟨3, 1⟩
abbrev JRN_FLT_TORN : Fld := ⟨2, 1⟩
abbrev JRN_FLT_FULL : Fld := ⟨1, 1⟩
abbrev JRN_FLT_WARN : Fld := ⟨0, 1⟩
abbrev JRN_HEAD_OFFSET : Fld := ⟨0, 25⟩
abbrev JRN_TAIL_OFFSET : Fld := ⟨0, 25⟩
abbrev JRN_PEND_RX : Fld := ⟨16, 16⟩
abbrev JRN_PEND_TX : Fld := ⟨0, 16⟩
abbrev JRN_STREAMS_EVICT : Fld := ⟨16, 16⟩
abbrev JRN_STREAMS_USED : Fld := ⟨0, 13⟩
abbrev JRN_REFUSE_FULL : Fld := ⟨16, 16⟩
abbrev JRN_REFUSE_DISSENT : Fld := ⟨8, 8⟩
abbrev JRN_REFUSE_NOQUEUE : Fld := ⟨0, 8⟩
abbrev JRN_REPLAY_TX : Fld := ⟨16, 16⟩
abbrev JRN_REPLAY_RX : Fld := ⟨0, 16⟩
abbrev COR_STAT_STATE : Fld := ⟨30, 2⟩
abbrev COR_STAT_SUP : Fld := ⟨29, 1⟩
abbrev COR_STAT_IE : Fld := ⟨28, 1⟩
abbrev COR_STAT_FH : Fld := ⟨27, 1⟩
abbrev COR_STAT_LINE : Fld := ⟨16, 6⟩
abbrev COR_VBASE_BASE : Fld := ⟨10, 9⟩
abbrev COR_SWEV_GO : Fld := ⟨31, 1⟩
abbrev COR_SWEV_LINE : Fld := ⟨0, 6⟩
abbrev COR_FAULT_ACCESS : Fld := ⟨24, 8⟩
abbrev COR_FAULT_ILLEGAL : Fld := ⟨16, 8⟩
abbrev COR_FAULT_OPERAND : Fld := ⟨8, 8⟩
abbrev COR_FAULT_CAUSE : Fld := ⟨0, 4⟩
abbrev COR_SAFEQ_VALID : Fld := ⟨31, 1⟩
abbrev COR_SAFEQ_FILL : Fld := ⟨16, 9⟩
abbrev COR_SAFEQ_CODE : Fld := ⟨0, 16⟩
abbrev COR_EVSRC_KIND : Fld := ⟨28, 4⟩
abbrev COR_EVSRC_ARG1 : Fld := ⟨16, 8⟩
abbrev COR_EVSRC_ARG0 : Fld := ⟨0, 16⟩
abbrev COR_MPU_BASE_ADDR : Fld := ⟨8, 24⟩
abbrev COR_MPU_LIMIT_ADDR : Fld := ⟨8, 24⟩
abbrev COR_MPU_ATTR_EN : Fld := ⟨31, 1⟩
abbrev COR_MPU_ATTR_TX : Fld := ⟨5, 1⟩
abbrev COR_MPU_ATTR_TW : Fld := ⟨4, 1⟩
abbrev COR_MPU_ATTR_TR : Fld := ⟨3, 1⟩
abbrev COR_MPU_ATTR_SX : Fld := ⟨2, 1⟩
abbrev COR_MPU_ATTR_SW : Fld := ⟨1, 1⟩
abbrev COR_MPU_ATTR_SR : Fld := ⟨0, 1⟩
abbrev THM_CFG_DMAX : Fld := ⟨20, 4⟩
abbrev THM_CFG_SLOT : Fld := ⟨0, 3⟩
abbrev THM_STAT_SHUT : Fld := ⟨31, 1⟩
abbrev THM_STAT_HOTREG : Fld := ⟨12, 4⟩
abbrev THM_STAT_D : Fld := ⟨8, 4⟩
abbrev THM_STAT_CAD : Fld := ⟨4, 2⟩
abbrev THM_STAT_LEVEL : Fld := ⟨0, 3⟩
abbrev THM_FLT_NTCSTOP : Fld := ⟨4, 1⟩
abbrev THM_FLT_BROKEN : Fld := ⟨3, 1⟩
abbrev THM_FLT_DERATE : Fld := ⟨2, 1⟩
abbrev THM_FLT_THROTTLE : Fld := ⟨1, 1⟩
abbrev THM_FLT_WARN : Fld := ⟨0, 1⟩
abbrev THM_DIE_BROKEN : Fld := ⟨31, 1⟩
abbrev THM_DIE_TEMP : Fld := ⟨0, 16⟩
abbrev THM_REG_TEMP : Fld := ⟨0, 16⟩
abbrev THM_NTCCFG_EN : Fld := ⟨31, 1⟩
abbrev THM_NTCCFG_PAIR : Fld := ⟨8, 5⟩
abbrev THM_NTCCFG_AIN : Fld := ⟨0, 7⟩
abbrev THM_NTCT_BROKEN : Fld := ⟨31, 1⟩
abbrev THM_NTCT_TEMP : Fld := ⟨0, 16⟩
abbrev BKG_CFG_CORPER : Fld := ⟨16, 8⟩
abbrev BKG_CFG_MARVPER : Fld := ⟨8, 8⟩
abbrev BKG_CFG_SHARE : Fld := ⟨0, 4⟩
abbrev BKG_TELCFG_EN : Fld := ⟨31, 1⟩
abbrev BKG_TELCFG_QUE : Fld := ⟨16, 5⟩
abbrev BKG_TELCFG_TELDIV : Fld := ⟨8, 8⟩
abbrev BKG_STAT_CORETEST : Fld := ⟨3, 1⟩
abbrev BKG_STAT_SCRUB : Fld := ⟨2, 1⟩
abbrev BKG_STAT_MARVER : Fld := ⟨1, 1⟩
abbrev BKG_STAT_PAUSED : Fld := ⟨0, 1⟩
abbrev BKG_FLT_TELDROP : Fld := ⟨5, 1⟩
abbrev BKG_FLT_WEAR : Fld := ⟨4, 1⟩
abbrev BKG_FLT_DEFER : Fld := ⟨3, 1⟩
abbrev BKG_FLT_MARVLATE : Fld := ⟨2, 1⟩
abbrev BKG_FLT_UNCORR : Fld := ⟨1, 1⟩
abbrev BKG_FLT_CORR : Fld := ⟨0, 1⟩
abbrev BKG_MARV_ROUNDS : Fld := ⟨16, 16⟩
abbrev BKG_MARV_LAST : Fld := ⟨0, 16⟩
abbrev BKG_TELCNT_DROPS : Fld := ⟨16, 16⟩
abbrev BKG_TELCNT_POSTED : Fld := ⟨0, 16⟩
abbrev BKG_MEMCNT_UNCORR : Fld := ⟨16, 16⟩
abbrev BKG_MEMCNT_CORR : Fld := ⟨0, 16⟩
abbrev BKG_SCRUB_PASSES : Fld := ⟨16, 16⟩
abbrev BKG_SCRUB_LAST : Fld := ⟨0, 16⟩
abbrev BKG_REQ_GO : Fld := ⟨31, 1⟩
abbrev BKG_REQ_KIND : Fld := ⟨16, 4⟩
abbrev BKG_REQ_TARGET : Fld := ⟨0, 16⟩
abbrev BKG_RES_DONE : Fld := ⟨31, 1⟩
abbrev BKG_RES_RESULT : Fld := ⟨0, 3⟩
abbrev SEC_CFG_SMARK : Fld := ⟨0, 6⟩
abbrev SEC_STAT_FACTEST : Fld := ⟨31, 1⟩
abbrev SEC_STAT_NOMAKER : Fld := ⟨30, 1⟩
abbrev SEC_STAT_MLOCK : Fld := ⟨29, 1⟩
abbrev SEC_STAT_ILOCK : Fld := ⟨28, 1⟩
abbrev SEC_STAT_OLOCK : Fld := ⟨27, 1⟩
abbrev SEC_STAT_LIMITS : Fld := ⟨3, 9⟩
abbrev SEC_STAT_SESSIONS : Fld := ⟨0, 3⟩
abbrev SEC_KEYS_OPERATOR : Fld := ⟨16, 8⟩
abbrev SEC_KEYS_INSTALLER : Fld := ⟨8, 8⟩
abbrev SEC_KEYS_MAKER : Fld := ⟨0, 8⟩
abbrev SEC_FLT_KEYSTORE : Fld := ⟨4, 1⟩
abbrev SEC_FLT_AUDBROKEN : Fld := ⟨3, 1⟩
abbrev SEC_FLT_LIMDROP : Fld := ⟨2, 1⟩
abbrev SEC_FLT_LOCKOUT : Fld := ⟨1, 1⟩
abbrev SEC_FLT_AUTHFAIL : Fld := ⟨0, 1⟩
abbrev SUP_CFG_BKCHG : Fld := ⟨11, 1⟩
abbrev SUP_CFG_FEEDS : Fld := ⟨8, 2⟩
abbrev SUP_CFG_SLACK_MARGIN : Fld := ⟨0, 6⟩
abbrev SUP_STAT_SRC : Fld := ⟨8, 2⟩
abbrev SUP_STAT_BKCHGON : Fld := ⟨6, 1⟩
abbrev SUP_STAT_STORM : Fld := ⟨5, 1⟩
abbrev SUP_STAT_OV : Fld := ⟨4, 1⟩
abbrev SUP_STAT_FBOK : Fld := ⟨3, 1⟩
abbrev SUP_STAT_FAOK : Fld := ⟨2, 1⟩
abbrev SUP_STAT_RECOVERING : Fld := ⟨1, 1⟩
abbrev SUP_STAT_WARN : Fld := ⟨0, 1⟩
abbrev SUP_FLT_MISSING : Fld := ⟨4, 1⟩
abbrev SUP_FLT_STORM : Fld := ⟨3, 1⟩
abbrev SUP_FLT_OV : Fld := ⟨2, 1⟩
abbrev SUP_FLT_FEEDLOST : Fld := ⟨1, 1⟩
abbrev SUP_FLT_WARN : Fld := ⟨0, 1⟩
abbrev SUP_VCORE_MINSLACK : Fld := ⟨16, 16⟩
abbrev SUP_VCORE_VCORE : Fld := ⟨0, 10⟩
abbrev SUP_FEED_FEEDB : Fld := ⟨16, 16⟩
abbrev SUP_FEED_FEEDA : Fld := ⟨0, 16⟩
abbrev SUP_DIPS_TOTAL : Fld := ⟨16, 16⟩
abbrev SUP_DIPS_MIN60 : Fld := ⟨0, 8⟩
abbrev SUP_PORCAUSE_RAILID : Fld := ⟨4, 3⟩
abbrev SUP_PORCAUSE_COLD : Fld := ⟨3, 1⟩
abbrev SUP_PORCAUSE_RAIL : Fld := ⟨1, 1⟩
abbrev SUP_PORCAUSE_FEED : Fld := ⟨0, 1⟩

/-- Access codes of Table SCOPE-4. -/
inductive Access where
  | rw | ro | w1c | wo | cl
deriving DecidableEq, Repr, Inhabited

/-- One row of the register map: the offset in its block, up to three strides with their counts, the reset value,
the access code, the bits that are not reserved, the write-one-to-clear bits, whether T0 alone writes it (R362),
and whether each triad has its own copy. -/
structure RegDesc where
  off : Nat
  st1 : Nat
  n1 : Nat
  st2 : Nat
  n2 : Nat
  st3 : Nat
  n3 : Nat
  reset : Nat
  acc : Access
  mask : Nat
  w1c : Nat
  t0 : Bool
  perTriad : Bool
deriving DecidableEq, Repr, Inhabited

/-- Does the row describe offset `o` of its block? -/
def RegDesc.covers (d : RegDesc) (o : Nat) : Bool :=
  d.off ≤ o &&
    (let x := o - d.off
     let i := x / d.st1
     let x1 := if d.n1 = 1 then x else x % d.st1
     let j := x1 / d.st2
     let x2 := if d.n2 = 1 then x1 else x1 % d.st2
     let k := x2 / d.st3
     let x3 := if d.n3 = 1 then x2 else x2 % d.st3
     (d.n1 = 1 || i < d.n1) && (d.n2 = 1 || j < d.n2) && (d.n3 = 1 || k < d.n3) && x3 = 0)

/-- Registers of block 0x1. -/
def regRows1 : List RegDesc :=
  [⟨0x0, 0x1, 1, 0x1, 1, 0x1, 1, 0x48580048, .ro, 0xFFFFFFFF, 0x0, false, false⟩,
   ⟨0x4, 0x1, 1, 0x1, 1, 0x1, 1, 0x4201, .ro, 0xFFFF, 0x0, false, false⟩,
   ⟨0x8, 0x1, 1, 0x1, 1, 0x1, 1, 0x0, .ro, 0xF, 0x0, false, false⟩,
   ⟨0xC, 0x1, 1, 0x1, 1, 0x1, 1, 0x0, .wo, 0xFF03, 0x0, false, false⟩,
   ⟨0x10, 0x1, 1, 0x1, 1, 0x1, 1, 0x0, .ro, 0xFFFF007F, 0x0, false, false⟩,
   ⟨0x14, 0x1, 1, 0x1, 1, 0x1, 1, 0x1, .w1c, 0x7, 0x7, false, false⟩,
   ⟨0x18, 0x1, 1, 0x1, 1, 0x1, 1, 0x0, .ro, 0xFFFFFFFF, 0x0, false, false⟩,
   ⟨0x1C, 0x1, 1, 0x1, 1, 0x1, 1, 0x0, .ro, 0xFFFFFFFF, 0x0, false, false⟩,
   ⟨0x20, 0x1, 1, 0x1, 1, 0x1, 1, 0x0, .ro, 0xFFFFFFFF, 0x0, false, false⟩,
   ⟨0x24, 0x1, 1, 0x1, 1, 0x1, 1, 0x0, .ro, 0xFFFFFFFF, 0x0, false, false⟩,
   ⟨0x28, 0x1, 1, 0x1, 1, 0x1, 1, 0x0, .ro, 0xFFFF01FF, 0x0, false, false⟩,
   ⟨0x30, 0x1, 1, 0x1, 1, 0x1, 1, 0x0, .ro, 0x3FF, 0x0, false, false⟩,
   ⟨0x34, 0x1, 1, 0x1, 1, 0x1, 1, 0x0, .ro, 0xFFFFFFFF, 0x0, false, false⟩]

/-- Registers of block 0x2. -/
def regRows2 : List RegDesc :=
  [⟨0x0, 0x1, 1, 0x1, 1, 0x1, 1, 0x319, .cl, 0xB3F, 0x0, false, false⟩,
   ⟨0x4, 0x1, 1, 0x1, 1, 0x1, 1, 0x0, .ro, 0x37F, 0x0, false, false⟩,
   ⟨0x8, 0x1, 1, 0x1, 1, 0x1, 1, 0x0, .w1c, 0x1F, 0x1F, false, false⟩,
   ⟨0xC, 0x1, 1, 0x1, 1, 0x1, 1, 0x320, .ro, 0xFFFF03FF, 0x0, false, false⟩,
   ⟨0x10, 0x1, 1, 0x1, 1, 0x1, 1, 0x0, .ro, 0xFFFFFFFF, 0x0, false, false⟩,
   ⟨0x14, 0x1, 1, 0x1, 1, 0x1, 1, 0x0, .ro, 0xFFFF00FF, 0x0, false, false⟩,
   ⟨0x18, 0x1, 1, 0x1, 1, 0x1, 1, 0x8, .ro, 0x7B, 0x0, false, false⟩,
   ⟨0x20, 0x1, 1, 0x1, 1, 0x1, 1, 0x0, .ro, 0xFFFFFFFF, 0x0, false, false⟩,
   ⟨0x24, 0x1, 1, 0x1, 1, 0x1, 1, 0x0, .ro, 0xFFFFFFFF, 0x0, false, false⟩]

/-- Registers of block 0x3. -/
def regRows3 : List RegDesc :=
  [⟨0x0, 0x1, 1, 0x1, 1, 0x1, 1, 0x0, .ro, 0x7, 0x0, false, false⟩,
   ⟨0x8, 0x1, 1, 0x1, 1, 0x1, 1, 0x0, .ro, 0xFFFFFFFF, 0x0, false, false⟩,
   ⟨0xC, 0x1, 1, 0x1, 1, 0x1, 1, 0x0, .ro, 0xFFFFFFFF, 0x0, false, false⟩,
   ⟨0x10, 0x1, 1, 0x1, 1, 0x1, 1, 0x0, .ro, 0xFFFFFFFF, 0x0, false, false⟩,
   ⟨0x18, 0x1, 1, 0x1, 1, 0x1, 1, 0x0, .ro, 0xFFFFFFFF, 0x0, false, false⟩,
   ⟨0x1C, 0x1, 1, 0x1, 1, 0x1, 1, 0x0, .ro, 0xFFFFFFFF, 0x0, false, false⟩,
   ⟨0x20, 0x1, 1, 0x1, 1, 0x1, 1, 0x0, .rw, 0xFFFFFFFF, 0x0, true, false⟩,
   ⟨0x24, 0x1, 1, 0x1, 1, 0x1, 1, 0x0, .rw, 0xFFFFFFFF, 0x0, true, false⟩,
   ⟨0x28, 0x1, 1, 0x1, 1, 0x1, 1, 0x0, .w1c, 0xFFFFFFFF, 0xFFFFFFFF, false, false⟩,
   ⟨0x2C, 0x1, 1, 0x1, 1, 0x1, 1, 0x0, .w1c, 0xFFFFFFFF, 0xFFFFFFFF, false, false⟩,
   ⟨0x30, 0x1, 1, 0x1, 1, 0x1, 1, 0x0, .ro, 0xFFFF, 0x0, false, false⟩,
   ⟨0x100, 0x10, 64, 0x1, 1, 0x1, 1, 0x0, .cl, 0xFFFFFFFF, 0x0, false, false⟩,
   ⟨0x104, 0x10, 64, 0x1, 1, 0x1, 1, 0x0, .cl, 0xFFFFFFFF, 0x0, false, false⟩,
   ⟨0x108, 0x10, 64, 0x1, 1, 0x1, 1, 0x0, .cl, 0xF0FFF0FF, 0x0, false, false⟩,
   ⟨0x10C, 0x10, 64, 0x1, 1, 0x1, 1, 0x0, .ro, 0xFFFFFFFF, 0x0, false, false⟩]

/-- Registers of block 0x4. -/
def regRows4 : List RegDesc :=
  [⟨0x0, 0x1, 1, 0x1, 1, 0x1, 1, 0x0, .ro, 0xFFFFFFFF, 0x0, false, false⟩,
   ⟨0x4, 0x1, 1, 0x1, 1, 0x1, 1, 0x0, .ro, 0x7FFF, 0x0, false, false⟩,
   ⟨0x8, 0x1, 1, 0x1, 1, 0x1, 1, 0x1, .ro, 0x7, 0x0, false, false⟩,
   ⟨0xC, 0x1, 1, 0x1, 1, 0x1, 1, 0x0, .cl, 0xFFFFFFFF, 0x0, false, false⟩,
   ⟨0x10, 0x1, 1, 0x1, 1, 0x1, 1, 0x0, .cl, 0xFF, 0x0, false, false⟩,
   ⟨0x14, 0x1, 1, 0x1, 1, 0x1, 1, 0x0, .wo, 0x1, 0x0, false, false⟩,
   ⟨0x18, 0x1, 1, 0x1, 1, 0x1, 1, 0x0, .ro, 0xFFFFFFFF, 0x0, false, false⟩,
   ⟨0x1C, 0x1, 1, 0x1, 1, 0x1, 1, 0x0, .ro, 0xFFFFFFFF, 0x0, false, false⟩,
   ⟨0x20, 0x1, 1, 0x1, 1, 0x1, 1, 0x0, .ro, 0xFFFFFFFF, 0x0, false, false⟩,
   ⟨0x24, 0x1, 1, 0x1, 1, 0x1, 1, 0x0, .ro, 0xFFFFFFFF, 0x0, false, false⟩,
   ⟨0x100, 0x4, 64, 0x1, 1, 0x1, 1, 0x0, .rw, 0xFFFFFFFF, 0x0, false, false⟩]

/-- Registers of block 0x5. -/
def regRows5 : List RegDesc :=
  [⟨0x0, 0x1, 1, 0x1, 1, 0x1, 1, 0x3D, .cl, 0x3F, 0x0, false, false⟩,
   ⟨0x4, 0x1, 1, 0x1, 1, 0x1, 1, 0x0, .ro, 0xF8000FFF, 0x0, false, false⟩,
   ⟨0x8, 0x1, 1, 0x1, 1, 0x1, 1, 0x0, .ro, 0xFFFFFF, 0x0, false, false⟩,
   ⟨0xC, 0x1, 1, 0x1, 1, 0x1, 1, 0x0, .w1c, 0x1F, 0x1F, false, false⟩,
   ⟨0x10, 0x1, 1, 0x1, 1, 0x1, 1, 0x0, .ro, 0xFFFFFFFF, 0x0, false, false⟩,
   ⟨0x14, 0x1, 1, 0x1, 1, 0x1, 1, 0x0, .rw, 0xFFFFFFFF, 0x0, false, true⟩,
   ⟨0x20, 0x4, 3, 0x1, 1, 0x1, 1, 0x0, .ro, 0xFFFFFFFF, 0x0, false, false⟩,
   ⟨0x40, 0x4, 16, 0x1, 1, 0x1, 1, 0x0, .ro, 0xFFFFFFFF, 0x0, false, true⟩]

/-- Registers of block 0x10. -/
def regRows10 : List RegDesc :=
  [⟨0x0, 0x200, 48, 0x1, 1, 0x1, 1, 0x0, .cl, 0x3F1F, 0x0, false, false⟩,
   ⟨0x4, 0x200, 48, 0x1, 1, 0x1, 1, 0x0, .ro, 0x1FF, 0x0, false, false⟩,
   ⟨0x8, 0x200, 48, 0x1, 1, 0x1, 1, 0x0, .cl, 0xFFFFFF, 0x0, false, false⟩,
   ⟨0xC, 0x200, 48, 0x1, 1, 0x1, 1, 0x0, .cl, 0xFFFF, 0x0, false, false⟩,
   ⟨0x10, 0x200, 48, 0x1, 1, 0x1, 1, 0x0, .cl, 0x3, 0x0, false, false⟩,
   ⟨0x14, 0x200, 48, 0x1, 1, 0x1, 1, 0x0, .cl, 0xFFFF, 0x0, false, false⟩,
   ⟨0x18, 0x200, 48, 0x1, 1, 0x1, 1, 0x0, .rw, 0xFFFFFF, 0x0, false, false⟩,
   ⟨0x1C, 0x200, 48, 0x1, 1, 0x1, 1, 0x0, .rw, 0xFFFFFF, 0x0, false, false⟩,
   ⟨0x20, 0x200, 48, 0x1, 1, 0x1, 1, 0x0, .rw, 0xFFFFFFFF, 0x0, false, false⟩,
   ⟨0x24, 0x200, 48, 0x1, 1, 0x1, 1, 0x0, .ro, 0xFFFFFFFF, 0x0, false, false⟩,
   ⟨0x28, 0x200, 48, 0x1, 1, 0x1, 1, 0x0, .ro, 0xFFFFFFFF, 0x0, false, false⟩,
   ⟨0x2C, 0x200, 48, 0x1, 1, 0x1, 1, 0x0, .ro, 0xFFFFFFFF, 0x0, false, false⟩,
   ⟨0x30, 0x200, 48, 0x1, 1, 0x1, 1, 0x0, .ro, 0xFFFFFFFF, 0x0, false, false⟩,
   ⟨0x34, 0x200, 48, 0x1, 1, 0x1, 1, 0x0, .ro, 0xFFFFFFFF, 0x0, false, false⟩,
   ⟨0x38, 0x200, 48, 0x1, 1, 0x1, 1, 0x30A01, .cl, 0xFFF03, 0x0, false, false⟩,
   ⟨0x3C, 0x200, 48, 0x1, 1, 0x1, 1, 0x0, .cl, 0xFFF007F, 0x0, false, false⟩,
   ⟨0x40, 0x200, 48, 0x1, 1, 0x1, 1, 0x0, .ro, 0xFFFFFFFF, 0x0, false, false⟩,
   ⟨0x44, 0x200, 48, 0x1, 1, 0x1, 1, 0x0, .rw, 0xBCFFFFFF, 0x0, true, false⟩,
   ⟨0x48, 0x200, 48, 0x1, 1, 0x1, 1, 0x0, .ro, 0xE0FFFFFF, 0x0, false, false⟩,
   ⟨0x4C, 0x200, 48, 0x1, 1, 0x1, 1, 0x0, .w1c, 0x3FF, 0x3FF, false, false⟩,
   ⟨0x50, 0x200, 48, 0x1, 1, 0x1, 1, 0x0, .ro, 0xFFFFFFFF, 0x0, false, false⟩,
   ⟨0x7000, 0x1, 1, 0x1, 1, 0x1, 1, 0x0, .ro, 0xFFFFFFFF, 0x0, false, false⟩,
   ⟨0x7004, 0x1, 1, 0x1, 1, 0x1, 1, 0x0, .ro, 0xFFFFFFFF, 0x0, false, false⟩,
   ⟨0x8000, 0x4, 4096, 0x1, 1, 0x1, 1, 0x0, .cl, 0xC0FFFFFF, 0x0, false, false⟩]

/-- Registers of block 0x11. -/
def regRows11 : List RegDesc :=
  [⟨0x0, 0x400, 16, 0x1, 1, 0x1, 1, 0x34400, .cl, 0xFF0FFF00, 0x0, false, false⟩,
   ⟨0x4, 0x400, 16, 0x1, 1, 0x1, 1, 0x0, .ro, 0xF0000FFF, 0x0, false, false⟩,
   ⟨0x8, 0x400, 16, 0x1, 1, 0x1, 1, 0x0, .w1c, 0xFF, 0xFF, false, false⟩,
   ⟨0xC, 0x400, 16, 0x1, 1, 0x1, 1, 0x0, .ro, 0xFFFFFFFF, 0x0, false, false⟩,
   ⟨0x10, 0x400, 16, 0x4, 8, 0x1, 1, 0x0, .cl, 0xF81F1F00, 0x0, false, false⟩,
   ⟨0x40, 0x400, 16, 0x8, 8, 0x1, 1, 0x0, .cl, 0xFFFFFFFF, 0x0, false, false⟩,
   ⟨0x44, 0x400, 16, 0x8, 8, 0x1, 1, 0x0, .cl, 0xFFFFFFFF, 0x0, false, false⟩,
   ⟨0x80, 0x400, 16, 0x1, 1, 0x1, 1, 0x0, .cl, 0x3, 0x0, false, false⟩,
   ⟨0x84, 0x400, 16, 0x1, 1, 0x1, 1, 0x0, .cl, 0xFFFFFFFF, 0x0, false, false⟩,
   ⟨0x88, 0x400, 16, 0x1, 1, 0x1, 1, 0x0, .cl, 0xFFFFFFFF, 0x0, false, false⟩,
   ⟨0x8C, 0x400, 16, 0x1, 1, 0x1, 1, 0x0, .cl, 0xFFFFFFFF, 0x0, false, false⟩,
   ⟨0x90, 0x400, 16, 0x1, 1, 0x1, 1, 0x2, .cl, 0x1F, 0x0, false, false⟩,
   ⟨0x94, 0x400, 16, 0x1, 1, 0x1, 1, 0x3F733333, .cl, 0xFFFFFFFF, 0x0, false, false⟩,
   ⟨0x98, 0x400, 16, 0x1, 1, 0x1, 1, 0x0, .cl, 0xFFFF, 0x0, false, false⟩,
   ⟨0x9C, 0x400, 16, 0x1, 1, 0x1, 1, 0x0, .cl, 0xFFFFFFFF, 0x0, false, false⟩,
   ⟨0xA0, 0x400, 16, 0x1, 1, 0x1, 1, 0x0, .cl, 0x80FFFFFF, 0x0, false, false⟩,
   ⟨0xA4, 0x400, 16, 0x1, 1, 0x1, 1, 0x0, .cl, 0xFFFFFF, 0x0, false, false⟩,
   ⟨0xA8, 0x400, 16, 0x1, 1, 0x1, 1, 0x0, .cl, 0xFFFFFFFF, 0x0, false, false⟩,
   ⟨0x100, 0x400, 16, 0x1, 1, 0x1, 1, 0x0, .ro, 0xFFFFFFFF, 0x0, false, false⟩,
   ⟨0x104, 0x400, 16, 0x1, 1, 0x1, 1, 0x0, .ro, 0xFFFFFFFF, 0x0, false, false⟩,
   ⟨0x108, 0x400, 16, 0x1, 1, 0x1, 1, 0x0, .ro, 0xFFFFFFFF, 0x0, false, false⟩,
   ⟨0x10C, 0x400, 16, 0x1, 1, 0x1, 1, 0x0, .ro, 0xFFFFFFFF, 0x0, false, false⟩,
   ⟨0x110, 0x400, 16, 0x1, 1, 0x1, 1, 0x0, .ro, 0xFFFFFFFF, 0x0, false, false⟩,
   ⟨0x114, 0x400, 16, 0x1, 1, 0x1, 1, 0x0, .ro, 0xFFFFFFFF, 0x0, false, false⟩,
   ⟨0x118, 0x400, 16, 0x1, 1, 0x1, 1, 0x0, .ro, 0xFFFFFFFF, 0x0, false, false⟩,
   ⟨0x11C, 0x400, 16, 0x1, 1, 0x1, 1, 0x0, .ro, 0xFFFFFFFF, 0x0, false, false⟩,
   ⟨0x120, 0x400, 16, 0x1, 1, 0x1, 1, 0x0, .ro, 0xFFFFFFFF, 0x0, false, false⟩,
   ⟨0x124, 0x400, 16, 0x1, 1, 0x1, 1, 0x0, .ro, 0xFFFFFFFF, 0x0, false, false⟩,
   ⟨0x128, 0x400, 16, 0x1, 1, 0x1, 1, 0x0, .ro, 0xFFFFFFFF, 0x0, false, false⟩,
   ⟨0x12C, 0x400, 16, 0x1, 1, 0x1, 1, 0x0, .ro, 0xFFFFFFFF, 0x0, false, false⟩,
   ⟨0x130, 0x400, 16, 0x1, 1, 0x1, 1, 0x0, .ro, 0xFFFFFFFF, 0x0, false, false⟩,
   ⟨0x134, 0x400, 16, 0x1, 1, 0x1, 1, 0x0, .ro, 0xFFFFFFFF, 0x0, false, false⟩,
   ⟨0x138, 0x400, 16, 0x1, 1, 0x1, 1, 0x0, .ro, 0xFFFFFFFF, 0x0, false, false⟩,
   ⟨0x13C, 0x400, 16, 0x1, 1, 0x1, 1, 0x0, .ro, 0xFFFFFFFF, 0x0, false, false⟩,
   ⟨0x140, 0x400, 16, 0x1, 1, 0x1, 1, 0x0, .ro, 0xFFFFFFFF, 0x0, false, false⟩,
   ⟨0x144, 0x400, 16, 0x4, 3, 0x1, 1, 0x0, .ro, 0xFFFFFF, 0x0, false, false⟩,
   ⟨0x200, 0x400, 16, 0x1, 1, 0x1, 1, 0x40000, .cl, 0x800FFF07, 0x0, false, false⟩,
   ⟨0x204, 0x400, 16, 0x1, 1, 0x1, 1, 0x0, .ro, 0xF80000FF, 0x0, false, false⟩,
   ⟨0x208, 0x400, 16, 0x1, 1, 0x1, 1, 0x0, .w1c, 0x7F, 0x7F, false, false⟩,
   ⟨0x20C, 0x400, 16, 0x1, 1, 0x1, 1, 0x0, .ro, 0xFFFFFFFF, 0x0, false, false⟩,
   ⟨0x210, 0x400, 16, 0x1, 1, 0x1, 1, 0x0, .cl, 0xFFFFFFFF, 0x0, false, false⟩,
   ⟨0x214, 0x400, 16, 0x1, 1, 0x1, 1, 0x0, .cl, 0xFFFFFFFF, 0x0, false, false⟩,
   ⟨0x218, 0x400, 16, 0x1, 1, 0x1, 1, 0x0, .cl, 0xFFFFFFFF, 0x0, false, false⟩,
   ⟨0x21C, 0x400, 16, 0x1, 1, 0x1, 1, 0x0, .cl, 0xFFFFFFFF, 0x0, false, false⟩,
   ⟨0x220, 0x400, 16, 0x1, 1, 0x1, 1, 0x32030A, .cl, 0xC0FF0F3F, 0x0, false, false⟩,
   ⟨0x224, 0x400, 16, 0x1, 1, 0x1, 1, 0x0, .cl, 0xFFFFFFFF, 0x0, false, false⟩,
   ⟨0x228, 0x400, 16, 0x1, 1, 0x1, 1, 0x0, .cl, 0xFFFFFFFF, 0x0, false, false⟩,
   ⟨0x22C, 0x400, 16, 0x1, 1, 0x1, 1, 0x50004, .cl, 0xFF000F, 0x0, false, false⟩,
   ⟨0x230, 0x400, 16, 0x1, 1, 0x1, 1, 0x0, .cl, 0xFFFFFFFF, 0x0, false, false⟩,
   ⟨0x234, 0x400, 16, 0x1, 1, 0x1, 1, 0x0, .cl, 0xFFFFFFFF, 0x0, false, false⟩,
   ⟨0x238, 0x400, 16, 0x1, 1, 0x1, 1, 0x0, .cl, 0xFFFFFFFF, 0x0, false, false⟩,
   ⟨0x23C, 0x400, 16, 0x1, 1, 0x1, 1, 0x0, .cl, 0xFFFFFFFF, 0x0, false, false⟩,
   ⟨0x240, 0x400, 16, 0x1, 1, 0x1, 1, 0x0, .cl, 0xFFFFFFFF, 0x0, false, false⟩,
   ⟨0x244, 0x400, 16, 0x1, 1, 0x1, 1, 0x0, .cl, 0xFFFFFFFF, 0x0, false, false⟩,
   ⟨0x248, 0x400, 16, 0x1, 1, 0x1, 1, 0x0, .cl, 0xFFFFFFFF, 0x0, false, false⟩,
   ⟨0x24C, 0x400, 16, 0x1, 1, 0x1, 1, 0x0, .cl, 0xFFFFFFFF, 0x0, false, false⟩,
   ⟨0x250, 0x400, 16, 0x1, 1, 0x1, 1, 0x3F000000, .cl, 0xFFFFFFFF, 0x0, false, false⟩,
   ⟨0x254, 0x400, 16, 0x1, 1, 0x1, 1, 0x0, .cl, 0xFFFFFFFF, 0x0, false, false⟩,
   ⟨0x258, 0x400, 16, 0x1, 1, 0x1, 1, 0x0, .cl, 0xFFFFFFFF, 0x0, false, false⟩,
   ⟨0x25C, 0x400, 16, 0x1, 1, 0x1, 1, 0x140008, .cl, 0xFF007F, 0x0, false, false⟩,
   ⟨0x260, 0x400, 16, 0x1, 1, 0x1, 1, 0x0, .cl, 0xF1F1F1F, 0x0, false, false⟩,
   ⟨0x264, 0x400, 16, 0x1, 1, 0x1, 1, 0x0, .cl, 0x1FFFF8, 0x0, false, false⟩,
   ⟨0x268, 0x400, 16, 0x1, 1, 0x1, 1, 0x0, .cl, 0xFFFFFFFF, 0x0, false, false⟩,
   ⟨0x26C, 0x400, 16, 0x1, 1, 0x1, 1, 0x0, .cl, 0xFFFFFFFF, 0x0, false, false⟩,
   ⟨0x270, 0x400, 16, 0x1, 1, 0x1, 1, 0x0, .cl, 0x800001FF, 0x0, false, false⟩,
   ⟨0x274, 0x400, 16, 0x1, 1, 0x1, 1, 0x0, .cl, 0xFFFF, 0x0, false, false⟩,
   ⟨0x278, 0x400, 16, 0x1, 1, 0x1, 1, 0x0, .cl, 0xFFFFFFFF, 0x0, false, false⟩,
   ⟨0x27C, 0x400, 16, 0x1, 1, 0x1, 1, 0x0, .cl, 0xFFFFFFFF, 0x0, false, false⟩,
   ⟨0x280, 0x400, 16, 0x1, 1, 0x1, 1, 0x0, .cl, 0xFFFFFFFF, 0x0, false, false⟩,
   ⟨0x284, 0x400, 16, 0x1, 1, 0x1, 1, 0x0, .cl, 0xFFFFFFFF, 0x0, false, false⟩,
   ⟨0x300, 0x400, 16, 0x1, 1, 0x1, 1, 0x0, .ro, 0xFFFFFFFF, 0x0, false, false⟩,
   ⟨0x304, 0x400, 16, 0x1, 1, 0x1, 1, 0x0, .ro, 0xFFFFFFFF, 0x0, false, false⟩,
   ⟨0x308, 0x400, 16, 0x1, 1, 0x1, 1, 0x0, .ro, 0xFFFFFFFF, 0x0, false, false⟩,
   ⟨0x30C, 0x400, 16, 0x1, 1, 0x1, 1, 0x0, .ro, 0xFFFFFFFF, 0x0, false, false⟩,
   ⟨0x310, 0x400, 16, 0x1, 1, 0x1, 1, 0x0, .ro, 0xFFFFFFFF, 0x0, false, false⟩,
   ⟨0x314, 0x400, 16, 0x1, 1, 0x1, 1, 0x0, .ro, 0xFFFFFFFF, 0x0, false, false⟩,
   ⟨0x318, 0x400, 16, 0x1, 1, 0x1, 1, 0x0, .ro, 0xFFFFFFFF, 0x0, false, false⟩,
   ⟨0x31C, 0x400, 16, 0x1, 1, 0x1, 1, 0x0, .ro, 0xFFFFFFFF, 0x0, false, false⟩,
   ⟨0x320, 0x400, 16, 0x1, 1, 0x1, 1, 0x0, .ro, 0xFFFFFFFF, 0x0, false, false⟩,
   ⟨0x324, 0x400, 16, 0x1, 1, 0x1, 1, 0x0, .ro, 0xFFFFFFFF, 0x0, false, false⟩,
   ⟨0x328, 0x400, 16, 0x1, 1, 0x1, 1, 0x0, .ro, 0xFFFFFFFF, 0x0, false, false⟩,
   ⟨0x32C, 0x400, 16, 0x1, 1, 0x1, 1, 0x0, .ro, 0xFFFFFFFF, 0x0, false, false⟩,
   ⟨0x330, 0x400, 16, 0x1, 1, 0x1, 1, 0x0, .ro, 0xFFFFFFFF, 0x0, false, false⟩]

/-- Registers of block 0x12. -/
def regRows12 : List RegDesc :=
  [⟨0x0, 0x400, 16, 0x1, 1, 0x1, 1, 0x10A, .cl, 0x1FF, 0x0, false, false⟩,
   ⟨0x4, 0x400, 16, 0x1, 1, 0x1, 1, 0x0, .ro, 0xEFF000F, 0xF, false, false⟩,
   ⟨0x8, 0x400, 16, 0x1, 1, 0x1, 1, 0x0, .w1c, 0x7F, 0x7F, false, false⟩,
   ⟨0xC, 0x400, 16, 0x1, 1, 0x1, 1, 0x0, .ro, 0xFFFFFFFF, 0x0, false, false⟩,
   ⟨0x10, 0x400, 16, 0x1, 1, 0x1, 1, 0x0, .wo, 0xF, 0x0, false, false⟩,
   ⟨0x100, 0x400, 16, 0x40, 4, 0x1, 1, 0x0, .cl, 0x8FFFFFF, 0x0, false, false⟩,
   ⟨0x104, 0x400, 16, 0x40, 4, 0x1, 1, 0x0, .cl, 0x33, 0x0, false, false⟩,
   ⟨0x108, 0x400, 16, 0x40, 4, 0x1, 1, 0x0, .ro, 0xC00F000F, 0x0, false, false⟩,
   ⟨0x10C, 0x400, 16, 0x40, 4, 0x1, 1, 0x0, .ro, 0xFFFFFFFF, 0x0, false, false⟩,
   ⟨0x110, 0x400, 16, 0x40, 4, 0x1, 1, 0x0, .ro, 0xFFFFFFFF, 0x0, false, false⟩,
   ⟨0x114, 0x400, 16, 0x40, 4, 0x1, 1, 0x0, .ro, 0xFFFFFFFF, 0x0, false, false⟩,
   ⟨0x118, 0x400, 16, 0x40, 4, 0x1, 1, 0x0, .ro, 0xFFFFFFFF, 0x0, false, false⟩,
   ⟨0x11C, 0x400, 16, 0x40, 4, 0x1, 1, 0x0, .ro, 0xFFFFFFFF, 0x0, false, false⟩,
   ⟨0x120, 0x400, 16, 0x40, 4, 0x1, 1, 0x0, .ro, 0xFFFFFFFF, 0x0, false, false⟩,
   ⟨0x200, 0x400, 16, 0x20, 4, 0x4, 8, 0x0, .ro, 0xFFFFFFFF, 0x0, false, false⟩,
   ⟨0x4000, 0x1, 1, 0x1, 1, 0x1, 1, 0x0, .ro, 0xFFFFFFFF, 0x0, false, false⟩]

/-- Registers of block 0x13. -/
def regRows13 : List RegDesc :=
  [⟨0x0, 0x1, 1, 0x1, 1, 0x1, 1, 0x8, .ro, 0x1FF007F, 0x0, false, false⟩,
   ⟨0x4, 0x1, 1, 0x1, 1, 0x1, 1, 0x76543210, .ro, 0xFFFFFFFF, 0x0, false, false⟩,
   ⟨0x8, 0x1, 1, 0x1, 1, 0x1, 1, 0x80000010, .cl, 0x800000FF, 0x0, false, false⟩,
   ⟨0xC, 0x1, 1, 0x1, 1, 0x1, 1, 0x0, .w1c, 0x7F, 0x7F, false, false⟩,
   ⟨0x100, 0x10, 9, 0x1, 1, 0x1, 1, 0x0, .ro, 0x3FFFF, 0x0, false, false⟩,
   ⟨0x104, 0x10, 9, 0x1, 1, 0x1, 1, 0x0, .ro, 0x3FFFF, 0x0, false, false⟩,
   ⟨0x108, 0x10, 9, 0x1, 1, 0x1, 1, 0x0, .ro, 0x3FFFF, 0x0, false, false⟩,
   ⟨0x200, 0x10, 32, 0x1, 1, 0x1, 1, 0x0, .cl, 0xFFFFFF1F, 0x0, false, false⟩,
   ⟨0x204, 0x10, 32, 0x1, 1, 0x1, 1, 0x0, .ro, 0xC01FFFFF, 0x0, false, false⟩,
   ⟨0x208, 0x10, 32, 0x1, 1, 0x1, 1, 0x0, .ro, 0xFFFFFFFF, 0x0, false, false⟩,
   ⟨0x20C, 0x10, 32, 0x1, 1, 0x1, 1, 0x0, .ro, 0xFFFFFFFF, 0x0, false, false⟩,
   ⟨0x400, 0x10, 32, 0x1, 1, 0x1, 1, 0x0, .rw, 0x80FF07FF, 0x0, false, true⟩,
   ⟨0x404, 0x10, 32, 0x1, 1, 0x1, 1, 0x0, .ro, 0xFFFFFFFF, 0x0, false, true⟩,
   ⟨0x480, 0x1, 1, 0x1, 1, 0x1, 1, 0x0, .wo, 0xFFFFFFFF, 0x0, false, false⟩,
   ⟨0x1000, 0x80, 32, 0x4, 32, 0x1, 1, 0x0, .cl, 0xFF7FFF, 0x0, false, false⟩,
   ⟨0x2000, 0x80, 32, 0x4, 32, 0x1, 1, 0x0, .ro, 0xFFFFFFFF, 0x0, false, false⟩]

/-- Registers of block 0x14. -/
def regRows14 : List RegDesc :=
  [⟨0x0, 0x100, 32, 0x1, 1, 0x1, 1, 0x0, .cl, 0xF1FF3F3F, 0x0, false, false⟩,
   ⟨0x4, 0x100, 32, 0x1, 1, 0x1, 1, 0x0, .cl, 0x8300FFFF, 0x0, false, false⟩,
   ⟨0x8, 0x100, 32, 0x1, 1, 0x1, 1, 0x7333, .cl, 0x7FFF, 0x0, false, false⟩,
   ⟨0xC, 0x100, 32, 0x1, 1, 0x1, 1, 0x0, .ro, 0xFFFFFFFF, 0x0, false, false⟩,
   ⟨0x10, 0x100, 32, 0x1, 1, 0x1, 1, 0x0, .ro, 0xFFFFFFFF, 0x0, false, false⟩,
   ⟨0x14, 0x100, 32, 0x1, 1, 0x1, 1, 0x0, .ro, 0xFFFFFFFF, 0x0, false, false⟩,
   ⟨0x18, 0x100, 32, 0x1, 1, 0x1, 1, 0x0, .ro, 0xFFF07, 0x0, false, false⟩,
   ⟨0x1C, 0x100, 32, 0x1, 1, 0x1, 1, 0x0, .w1c, 0x7, 0x7, false, false⟩,
   ⟨0x2000, 0x1, 1, 0x1, 1, 0x1, 1, 0x0, .cl, 0xFFFF, 0x0, false, false⟩]

/-- Registers of block 0x15. -/
def regRows15 : List RegDesc :=
  [⟨0x0, 0x40, 64, 0x1, 1, 0x1, 1, 0x0, .cl, 0xFEF00FFF, 0x0, false, false⟩,
   ⟨0x4, 0x40, 64, 0x1, 1, 0x1, 1, 0x0, .cl, 0x3FF03FF, 0x0, false, false⟩,
   ⟨0x8, 0x40, 64, 0x1, 1, 0x1, 1, 0x0, .ro, 0x1FF, 0x0, false, false⟩,
   ⟨0xC, 0x40, 64, 0x1, 1, 0x1, 1, 0x0, .ro, 0xFFFFFFFF, 0x0, false, false⟩,
   ⟨0x10, 0x40, 64, 0x1, 1, 0x1, 1, 0x0, .ro, 0xFFFFFFFF, 0x0, false, false⟩,
   ⟨0x14, 0x40, 64, 0x1, 1, 0x1, 1, 0x0, .w1c, 0xF, 0xF, false, false⟩,
   ⟨0x1000, 0x1, 1, 0x1, 1, 0x1, 1, 0x0, .ro, 0xFFFFFFFF, 0x0, false, false⟩,
   ⟨0x1004, 0x1, 1, 0x1, 1, 0x1, 1, 0x0, .ro, 0xFFFFFFFF, 0x0, false, false⟩,
   ⟨0x1008, 0x1, 1, 0x1, 1, 0x1, 1, 0x0, .ro, 0xFFFFFFFF, 0x0, false, false⟩,
   ⟨0x100C, 0x1, 1, 0x1, 1, 0x1, 1, 0x0, .ro, 0xFFFFFFFF, 0x0, false, false⟩]

/-- Registers of block 0x16. -/
def regRows16 : List RegDesc :=
  [⟨0x0, 0x1, 1, 0x1, 1, 0x1, 1, 0x0, .ro, 0xFFFFF, 0x0, false, false⟩,
   ⟨0x4, 0x1, 1, 0x1, 1, 0x1, 1, 0x0, .wo, 0xFFFF, 0x0, true, false⟩,
   ⟨0x8, 0x1, 1, 0x1, 1, 0x1, 1, 0x0, .rw, 0xFFFF, 0x0, true, false⟩,
   ⟨0xC, 0x1, 1, 0x1, 1, 0x1, 1, 0x0, .cl, 0xFFFFF, 0x0, false, false⟩,
   ⟨0x10, 0x1, 1, 0x1, 1, 0x1, 1, 0x0, .ro, 0xFFFFFFFF, 0x0, false, false⟩,
   ⟨0x14, 0x1, 1, 0x1, 1, 0x1, 1, 0x0, .ro, 0xFFFFFFFF, 0x0, false, false⟩,
   ⟨0x18, 0x1, 1, 0x1, 1, 0x1, 1, 0x0, .ro, 0xFFFFFFFF, 0x0, false, false⟩,
   ⟨0x1C, 0x1, 1, 0x1, 1, 0x1, 1, 0x0, .ro, 0xFFFFFFFF, 0x0, false, false⟩,
   ⟨0x20, 0x1, 1, 0x1, 1, 0x1, 1, 0x0, .ro, 0xFFFFFFFF, 0x0, false, false⟩,
   ⟨0x100, 0x40, 16, 0x1, 1, 0x1, 1, 0x0, .cl, 0xC700FFFF, 0x0, false, false⟩,
   ⟨0x104, 0x40, 16, 0x1, 1, 0x1, 1, 0x0, .cl, 0xFFFFFFFF, 0x0, false, false⟩,
   ⟨0x108, 0x40, 16, 0x1, 1, 0x1, 1, 0x0, .cl, 0xFFFFFFFF, 0x0, false, false⟩,
   ⟨0x10C, 0x40, 16, 0x1, 1, 0x1, 1, 0x0, .cl, 0xFFFFFFFF, 0x0, false, false⟩,
   ⟨0x110, 0x40, 16, 0x1, 1, 0x1, 1, 0x0, .cl, 0xFFFFFFFF, 0x0, false, false⟩,
   ⟨0x114, 0x40, 16, 0x1, 1, 0x1, 1, 0x0, .cl, 0xFFFF, 0x0, false, false⟩,
   ⟨0x118, 0x40, 16, 0x1, 1, 0x1, 1, 0x0, .cl, 0x1F, 0x0, false, false⟩,
   ⟨0x11C, 0x40, 16, 0x1, 1, 0x1, 1, 0x0, .ro, 0x800000FF, 0x0, false, false⟩,
   ⟨0x120, 0x40, 16, 0x1, 1, 0x1, 1, 0x0, .ro, 0xFFFFFFFF, 0x0, false, false⟩,
   ⟨0x124, 0x40, 16, 0x1, 1, 0x1, 1, 0x0, .ro, 0xFFFFFFFF, 0x0, false, false⟩,
   ⟨0x128, 0x40, 16, 0x1, 1, 0x1, 1, 0x0, .ro, 0xFFFFFFFF, 0x0, false, false⟩]

/-- Registers of block 0x17. -/
def regRows17 : List RegDesc :=
  [⟨0x0, 0x800, 2, 0x1, 1, 0x1, 1, 0x0, .cl, 0xDF1F1F0B, 0x0, false, false⟩,
   ⟨0x4, 0x800, 2, 0x1, 1, 0x1, 1, 0x0, .ro, 0xF7FFC, 0x0, false, false⟩,
   ⟨0x8, 0x800, 2, 0x1, 1, 0x1, 1, 0x0, .w1c, 0xFF, 0xFF, false, false⟩,
   ⟨0xC, 0x800, 2, 0x1, 1, 0x1, 1, 0x0, .wo, 0x3, 0x0, false, false⟩,
   ⟨0x10, 0x800, 2, 0x1, 1, 0x1, 1, 0x0, .cl, 0x1, 0x0, false, false⟩,
   ⟨0x14, 0x800, 2, 0x1, 1, 0x1, 1, 0x3C000A, .cl, 0xFF001F, 0x0, false, false⟩,
   ⟨0x40, 0x800, 2, 0x1, 1, 0x1, 1, 0x0, .cl, 0xFFFFFFFF, 0x0, false, false⟩,
   ⟨0x44, 0x800, 2, 0x1, 1, 0x1, 1, 0x0, .cl, 0xFFFFFFFF, 0x0, false, false⟩,
   ⟨0x48, 0x800, 2, 0x1, 1, 0x1, 1, 0x0, .cl, 0xFFFFFFFF, 0x0, false, false⟩,
   ⟨0x4C, 0x800, 2, 0x1, 1, 0x1, 1, 0x0, .cl, 0xFFFFFFFF, 0x0, false, false⟩,
   ⟨0x50, 0x800, 2, 0x1, 1, 0x1, 1, 0x0, .cl, 0xFFFFFFFF, 0x0, false, false⟩,
   ⟨0x54, 0x800, 2, 0x1, 1, 0x1, 1, 0x0, .cl, 0xFFFFFFFF, 0x0, false, false⟩,
   ⟨0x58, 0x800, 2, 0x1, 1, 0x1, 1, 0x0, .cl, 0xFFFFFFFF, 0x0, false, false⟩,
   ⟨0x5C, 0x800, 2, 0x1, 1, 0x1, 1, 0x0, .cl, 0xFFFFFFFF, 0x0, false, false⟩,
   ⟨0x60, 0x800, 2, 0x1, 1, 0x1, 1, 0x0, .cl, 0xFFFFFFFF, 0x0, false, false⟩,
   ⟨0x64, 0x800, 2, 0x1, 1, 0x1, 1, 0x0, .cl, 0xFFFFFFFF, 0x0, false, false⟩,
   ⟨0x68, 0x800, 2, 0x1, 1, 0x1, 1, 0x0, .cl, 0xFFFFFFFF, 0x0, false, false⟩,
   ⟨0x6C, 0x800, 2, 0x1, 1, 0x1, 1, 0x0, .cl, 0xFFFFFFFF, 0x0, false, false⟩,
   ⟨0x70, 0x800, 2, 0x1, 1, 0x1, 1, 0x2D00, .cl, 0x1FFFFF, 0x0, false, false⟩,
   ⟨0x74, 0x800, 2, 0x1, 1, 0x1, 1, 0x1F407D0, .cl, 0xFFFFFFFF, 0x0, false, false⟩,
   ⟨0x78, 0x800, 2, 0x1, 1, 0x1, 1, 0x0, .cl, 0xFFFFFFFF, 0x0, false, false⟩,
   ⟨0x7C, 0x800, 2, 0x1, 1, 0x1, 1, 0x0, .cl, 0xFFFFFFFF, 0x0, false, false⟩,
   ⟨0x80, 0x800, 2, 0x1, 1, 0x1, 1, 0x0, .cl, 0xFFFFFFFF, 0x0, false, false⟩,
   ⟨0x84, 0x800, 2, 0x1, 1, 0x1, 1, 0x0, .cl, 0xFFFFFFFF, 0x0, false, false⟩,
   ⟨0x100, 0x800, 2, 0x1, 1, 0x1, 1, 0x0, .ro, 0xFFFFFFFF, 0x0, false, false⟩,
   ⟨0x104, 0x800, 2, 0x1, 1, 0x1, 1, 0x0, .ro, 0xFFFFFFFF, 0x0, false, false⟩,
   ⟨0x108, 0x800, 2, 0x1, 1, 0x1, 1, 0x0, .ro, 0xFFFFFFFF, 0x0, false, false⟩,
   ⟨0x10C, 0x800, 2, 0x1, 1, 0x1, 1, 0x0, .ro, 0xFFFFFFFF, 0x0, false, false⟩,
   ⟨0x110, 0x800, 2, 0x1, 1, 0x1, 1, 0x0, .ro, 0xFFFFFFFF, 0x0, false, false⟩,
   ⟨0x114, 0x800, 2, 0x1, 1, 0x1, 1, 0x0, .ro, 0xFFFFFFFF, 0x0, false, false⟩,
   ⟨0x118, 0x800, 2, 0x1, 1, 0x1, 1, 0x0, .ro, 0xFFFFFFFF, 0x0, false, false⟩,
   ⟨0x11C, 0x800, 2, 0x1, 1, 0x1, 1, 0x0, .ro, 0xFFFFFFFF, 0x0, false, false⟩,
   ⟨0x120, 0x800, 2, 0x1, 1, 0x1, 1, 0x0, .ro, 0xFFFFFFFF, 0x0, false, false⟩,
   ⟨0x124, 0x800, 2, 0x1, 1, 0x1, 1, 0x0, .ro, 0xFFFFFFFF, 0x0, false, false⟩,
   ⟨0x128, 0x800, 2, 0x1, 1, 0x1, 1, 0x0, .ro, 0xFFFFFFFF, 0x0, false, false⟩,
   ⟨0x12C, 0x800, 2, 0x1, 1, 0x1, 1, 0x0, .ro, 0xFFFFFFFF, 0x0, false, false⟩,
   ⟨0x140, 0x800, 2, 0x1, 1, 0x1, 1, 0x0, .rw, 0x80000007, 0x0, true, false⟩]

/-- Registers of block 0x18. -/
def regRows18 : List RegDesc :=
  [⟨0x0, 0x4, 24, 0x1, 1, 0x1, 1, 0x0, .cl, 0x3FFF, 0x0, false, false⟩,
   ⟨0x60, 0x1, 1, 0x1, 1, 0x1, 1, 0x0, .ro, 0xFFFFFF, 0x0, false, false⟩,
   ⟨0x64, 0x1, 1, 0x1, 1, 0x1, 1, 0x0, .rw, 0xFFFFFF, 0x0, false, false⟩,
   ⟨0x68, 0x1, 1, 0x1, 1, 0x1, 1, 0x0, .w1c, 0xFFFFFF, 0xFFFFFF, false, false⟩,
   ⟨0x80, 0x8, 24, 0x1, 1, 0x1, 1, 0x0, .ro, 0xFFFFFFFF, 0x0, false, false⟩,
   ⟨0x84, 0x8, 24, 0x1, 1, 0x1, 1, 0x0, .ro, 0xFFFFFFFF, 0x0, false, false⟩,
   ⟨0x200, 0x20, 8, 0x1, 1, 0x1, 1, 0x6003C, .cl, 0xFFFFF, 0x0, false, false⟩,
   ⟨0x204, 0x20, 8, 0x1, 1, 0x1, 1, 0x0, .ro, 0x8FFFFFFF, 0x0, false, false⟩,
   ⟨0x208, 0x20, 8, 0x1, 1, 0x1, 1, 0x0, .ro, 0xFFFFFFFF, 0x0, false, false⟩,
   ⟨0x20C, 0x20, 8, 0x1, 1, 0x1, 1, 0x0, .ro, 0xFFFFFFFF, 0x0, false, false⟩,
   ⟨0x210, 0x20, 8, 0x1, 1, 0x1, 1, 0x0, .ro, 0xCFF0FFFF, 0x0, false, false⟩,
   ⟨0x214, 0x20, 8, 0x1, 1, 0x1, 1, 0x0, .ro, 0xFFFFFF00, 0x0, false, false⟩]

/-- Registers of block 0x19. -/
def regRows19 : List RegDesc :=
  [⟨0x0, 0x400, 8, 0x1, 1, 0x1, 1, 0x30000, .cl, 0x9FFFF00F, 0x0, false, false⟩,
   ⟨0x4, 0x400, 8, 0x1, 1, 0x1, 1, 0x0, .ro, 0xFF0000FF, 0x0, false, false⟩,
   ⟨0x8, 0x400, 8, 0x1, 1, 0x1, 1, 0x0, .w1c, 0xFF, 0xFF, false, false⟩,
   ⟨0xC, 0x400, 8, 0x1, 1, 0x1, 1, 0x0, .ro, 0xFFFFFFFF, 0x0, false, false⟩,
   ⟨0x10, 0x400, 8, 0x4, 16, 0x1, 1, 0x0, .cl, 0xFC1F1F00, 0x0, false, false⟩,
   ⟨0x80, 0x400, 8, 0x8, 16, 0x1, 1, 0x0, .cl, 0xFFFFFFFF, 0x0, false, false⟩,
   ⟨0x84, 0x400, 8, 0x8, 16, 0x1, 1, 0x0, .cl, 0xFFFFFFFF, 0x0, false, false⟩,
   ⟨0x100, 0x400, 8, 0x4, 8, 0x1, 1, 0x0, .cl, 0xFFFFFFFF, 0x0, false, false⟩,
   ⟨0x120, 0x400, 8, 0x1, 1, 0x1, 1, 0x0, .cl, 0xFF0FFF, 0x0, false, false⟩,
   ⟨0x124, 0x400, 8, 0x1, 1, 0x1, 1, 0x0, .cl, 0xFFFFFFFF, 0x0, false, false⟩,
   ⟨0x128, 0x400, 8, 0x1, 1, 0x1, 1, 0x0, .cl, 0xFFFFFFFF, 0x0, false, false⟩,
   ⟨0x12C, 0x400, 8, 0x1, 1, 0x1, 1, 0xA01, .cl, 0xFF0F, 0x0, false, false⟩,
   ⟨0x130, 0x400, 8, 0x1, 1, 0x1, 1, 0x0, .cl, 0xFFFFFFFF, 0x0, false, false⟩,
   ⟨0x134, 0x400, 8, 0x1, 1, 0x1, 1, 0x3F666666, .cl, 0xFFFFFFFF, 0x0, false, false⟩,
   ⟨0x138, 0x400, 8, 0x1, 1, 0x1, 1, 0x0, .cl, 0xFFFFFFFF, 0x0, false, false⟩,
   ⟨0x13C, 0x400, 8, 0x1, 1, 0x1, 1, 0x0, .cl, 0xFFFFFFFF, 0x0, false, false⟩,
   ⟨0x140, 0x400, 8, 0x1, 1, 0x1, 1, 0x0, .cl, 0xFFFFFFFF, 0x0, false, false⟩,
   ⟨0x144, 0x400, 8, 0x1, 1, 0x1, 1, 0x0, .cl, 0xFFFFFFFF, 0x0, false, false⟩,
   ⟨0x148, 0x400, 8, 0x1, 1, 0x1, 1, 0x0, .cl, 0xFFFFFFFF, 0x0, false, false⟩,
   ⟨0x14C, 0x400, 8, 0x1, 1, 0x1, 1, 0x3F000000, .cl, 0xFFFFFFFF, 0x0, false, false⟩,
   ⟨0x150, 0x400, 8, 0x1, 1, 0x1, 1, 0x3F733333, .cl, 0xFFFFFFFF, 0x0, false, false⟩,
   ⟨0x154, 0x400, 8, 0x1, 1, 0x1, 1, 0x0, .cl, 0xFFFFFFFF, 0x0, false, false⟩,
   ⟨0x158, 0x400, 8, 0x1, 1, 0x1, 1, 0x0, .cl, 0xFFFFFFFF, 0x0, false, false⟩,
   ⟨0x15C, 0x400, 8, 0x1, 1, 0x1, 1, 0x0, .cl, 0xFFFFFFFF, 0x0, false, false⟩,
   ⟨0x160, 0x400, 8, 0x1, 1, 0x1, 1, 0x0, .cl, 0xFFFFFFFF, 0x0, false, false⟩,
   ⟨0x180, 0x400, 8, 0x1, 1, 0x1, 1, 0x0, .ro, 0xFFFFFFFF, 0x0, false, false⟩,
   ⟨0x184, 0x400, 8, 0x1, 1, 0x1, 1, 0x0, .ro, 0xFFFFFFFF, 0x0, false, false⟩,
   ⟨0x188, 0x400, 8, 0x1, 1, 0x1, 1, 0x0, .ro, 0xFFFFFFFF, 0x0, false, false⟩,
   ⟨0x18C, 0x400, 8, 0x1, 1, 0x1, 1, 0x0, .ro, 0xFFFFFFFF, 0x0, false, false⟩,
   ⟨0x190, 0x400, 8, 0x1, 1, 0x1, 1, 0x0, .ro, 0xFFFFFFFF, 0x0, false, false⟩,
   ⟨0x194, 0x400, 8, 0x1, 1, 0x1, 1, 0x0, .ro, 0xFFFFFFFF, 0x0, false, false⟩,
   ⟨0x198, 0x400, 8, 0x1, 1, 0x1, 1, 0x0, .ro, 0xFFFFFFFF, 0x0, false, false⟩,
   ⟨0x19C, 0x400, 8, 0x1, 1, 0x1, 1, 0x0, .ro, 0xFFFFFFFF, 0x0, false, false⟩,
   ⟨0x1A0, 0x400, 8, 0x1, 1, 0x1, 1, 0x0, .ro, 0xFFFFFFFF, 0x0, false, false⟩,
   ⟨0x1A4, 0x400, 8, 0x1, 1, 0x1, 1, 0x0, .ro, 0xFFFFFFFF, 0x0, false, false⟩,
   ⟨0x1A8, 0x400, 8, 0x1, 1, 0x1, 1, 0x0, .ro, 0xFFFFFFFF, 0x0, false, false⟩,
   ⟨0x1AC, 0x400, 8, 0x1, 1, 0x1, 1, 0x0, .ro, 0xFFFFFFFF, 0x0, false, false⟩,
   ⟨0x1C0, 0x400, 8, 0x4, 8, 0x1, 1, 0x0, .ro, 0xFFFFFFFF, 0x0, false, false⟩,
   ⟨0x1E0, 0x400, 8, 0x1, 1, 0x1, 1, 0x0, .ro, 0xFFFFFFFF, 0x0, false, false⟩,
   ⟨0x1E4, 0x400, 8, 0x1, 1, 0x1, 1, 0x0, .ro, 0xFFFFFFFF, 0x0, false, false⟩]

/-- Registers of block 0x20. -/
def regRows20 : List RegDesc :=
  [⟨0x0, 0x1000, 6, 0x1, 1, 0x1, 1, 0x80A00, .cl, 0xFE0FFF00, 0x0, false, false⟩,
   ⟨0x4, 0x1000, 6, 0x1, 1, 0x1, 1, 0x0, .wo, 0x1, 0x0, false, false⟩,
   ⟨0x8, 0x1000, 6, 0x1, 1, 0x1, 1, 0x0, .ro, 0x3F070F, 0x0, false, false⟩,
   ⟨0xC, 0x1000, 6, 0x1, 1, 0x1, 1, 0x0, .w1c, 0x7F, 0x7F, false, false⟩,
   ⟨0x10, 0x1000, 6, 0x1, 1, 0x1, 1, 0x0, .cl, 0xFFFFFCFF, 0x0, false, false⟩,
   ⟨0x14, 0x1000, 6, 0x1, 1, 0x1, 1, 0x0, .cl, 0xF1F0F1F, 0x0, false, false⟩,
   ⟨0x18, 0x1000, 6, 0x1, 1, 0x1, 1, 0x0, .cl, 0x8000007F, 0x0, false, false⟩,
   ⟨0x1C, 0x1000, 6, 0x1, 1, 0x1, 1, 0x0, .ro, 0x8000007F, 0x0, false, false⟩,
   ⟨0x20, 0x1000, 6, 0x1, 1, 0x1, 1, 0x0, .ro, 0x1FF01FF, 0x0, false, false⟩,
   ⟨0x24, 0x1000, 6, 0x1, 1, 0x1, 1, 0x0, .ro, 0xFFFF000F, 0x0, false, false⟩,
   ⟨0x28, 0x1000, 6, 0x1, 1, 0x1, 1, 0x0, .ro, 0xFFFFFFFF, 0x0, false, false⟩,
   ⟨0x2C, 0x1000, 6, 0x1, 1, 0x1, 1, 0x0, .ro, 0xFFFFFFFF, 0x0, false, false⟩,
   ⟨0x30, 0x1000, 6, 0x1, 1, 0x1, 1, 0x0, .ro, 0xFFFFFFFF, 0x0, false, false⟩,
   ⟨0x34, 0x1000, 6, 0x1, 1, 0x1, 1, 0x0, .ro, 0xFFFF, 0x0, false, false⟩,
   ⟨0x38, 0x1000, 6, 0x1, 1, 0x1, 1, 0x0, .cl, 0xFFFF0F, 0x0, false, false⟩,
   ⟨0x3C, 0x1000, 6, 0x1, 1, 0x1, 1, 0x0, .ro, 0xC0FFFF0F, 0x0, false, false⟩,
   ⟨0x40, 0x1000, 6, 0x1, 1, 0x1, 1, 0xFEFEFEFE, .rw, 0xFFFFFFFF, 0x0, false, false⟩,
   ⟨0x800, 0x1000, 6, 0x10, 64, 0x1, 1, 0x0, .cl, 0xDFFFFFFF, 0x0, false, false⟩,
   ⟨0x804, 0x1000, 6, 0x10, 64, 0x1, 1, 0x0, .cl, 0xDFFFFFFF, 0x0, false, false⟩,
   ⟨0x808, 0x1000, 6, 0x10, 64, 0x1, 1, 0x0, .cl, 0xB800001F, 0x0, false, false⟩,
   ⟨0x80C, 0x1000, 6, 0x10, 64, 0x1, 1, 0x0, .ro, 0xFFFFFFFF, 0x0, false, false⟩]

/-- Registers of block 0x21. -/
def regRows21 : List RegDesc :=
  [⟨0x0, 0x80, 32, 0x1, 1, 0x1, 1, 0x0, .cl, 0xE0FFFF00, 0x0, false, false⟩,
   ⟨0x4, 0x80, 32, 0x1, 1, 0x1, 1, 0x0, .cl, 0xFFFFFFFF, 0x0, false, false⟩,
   ⟨0x8, 0x80, 32, 0x1, 1, 0x1, 1, 0x0, .cl, 0x7FF, 0x0, false, false⟩,
   ⟨0xC, 0x80, 32, 0x1, 1, 0x1, 1, 0x0, .cl, 0xFFFFFFFF, 0x0, false, false⟩,
   ⟨0x10, 0x80, 32, 0x1, 1, 0x1, 1, 0x0, .rw, 0x3FF, 0x0, false, false⟩,
   ⟨0x14, 0x80, 32, 0x1, 1, 0x1, 1, 0x0, .rw, 0x3FF, 0x0, false, false⟩,
   ⟨0x18, 0x80, 32, 0x1, 1, 0x1, 1, 0x0, .ro, 0xF00007FF, 0x0, false, false⟩,
   ⟨0x1C, 0x80, 32, 0x1, 1, 0x1, 1, 0x0, .w1c, 0x3F, 0x3F, false, false⟩,
   ⟨0x20, 0x80, 32, 0x1, 1, 0x1, 1, 0x0, .ro, 0xFFFFFFFF, 0x0, false, false⟩,
   ⟨0x24, 0x80, 32, 0x1, 1, 0x1, 1, 0x0, .ro, 0xFFFFFFFF, 0x0, false, false⟩,
   ⟨0x28, 0x80, 32, 0x1, 1, 0x1, 1, 0x0, .wo, 0x800003FF, 0x0, false, false⟩,
   ⟨0x2C, 0x80, 32, 0x1, 1, 0x1, 1, 0x0, .ro, 0x80000003, 0x0, false, false⟩,
   ⟨0x30, 0x80, 32, 0x1, 1, 0x1, 1, 0x0, .ro, 0xFFFFFFFF, 0x0, false, false⟩,
   ⟨0x34, 0x80, 32, 0x1, 1, 0x1, 1, 0x0, .ro, 0xFFFFFFFF, 0x0, false, false⟩]

/-- Registers of block 0x22. -/
def regRows22 : List RegDesc :=
  [⟨0x0, 0x1, 1, 0x1, 1, 0x1, 1, 0xA3FFF, .cl, 0xF7FF3FFF, 0x0, false, false⟩,
   ⟨0x4, 0x1, 1, 0x1, 1, 0x1, 1, 0xA, .cl, 0x3FFFFCFF, 0x0, false, false⟩,
   ⟨0x8, 0x1, 1, 0x1, 1, 0x1, 1, 0x0, .cl, 0xFFFFFFFF, 0x0, false, false⟩,
   ⟨0xC, 0x1, 1, 0x1, 1, 0x1, 1, 0x0, .cl, 0xFFFFFFFF, 0x0, false, false⟩,
   ⟨0x10, 0x1, 1, 0x1, 1, 0x1, 1, 0x0, .cl, 0x7F, 0x0, false, false⟩,
   ⟨0x14, 0x1, 1, 0x1, 1, 0x1, 1, 0x0, .cl, 0xFFFFFFFF, 0x0, false, false⟩,
   ⟨0x18, 0x1, 1, 0x1, 1, 0x1, 1, 0x0, .cl, 0xFFFFFFFF, 0x0, false, false⟩,
   ⟨0x1C, 0x1, 1, 0x1, 1, 0x1, 1, 0x0, .ro, 0xC0000000, 0x0, false, false⟩,
   ⟨0x20, 0x1, 1, 0x1, 1, 0x1, 1, 0x0, .w1c, 0x7F, 0x7F, false, false⟩,
   ⟨0x24, 0x1, 1, 0x1, 1, 0x1, 1, 0x0, .ro, 0xFFFFFFFF, 0x0, false, false⟩,
   ⟨0x28, 0x1, 1, 0x1, 1, 0x1, 1, 0x0, .ro, 0xFFFFFFFF, 0x0, false, false⟩,
   ⟨0x2C, 0x1, 1, 0x1, 1, 0x1, 1, 0x0, .ro, 0xFFFFFFFF, 0x0, false, false⟩,
   ⟨0x30, 0x1, 1, 0x1, 1, 0x1, 1, 0x0, .wo, 0x800000FF, 0x0, false, false⟩,
   ⟨0x34, 0x1, 1, 0x1, 1, 0x1, 1, 0x0, .ro, 0x80000003, 0x0, false, false⟩,
   ⟨0x100, 0x4, 32, 0x1, 1, 0x1, 1, 0xFFFFFFFF, .ro, 0xFFFFFFFF, 0x0, false, false⟩,
   ⟨0x400, 0x4, 256, 0x1, 1, 0x1, 1, 0x0, .ro, 0xFFFFFFFF, 0x0, false, false⟩]

/-- Registers of block 0x23. -/
def regRows23 : List RegDesc :=
  [⟨0x0, 0x1, 1, 0x1, 1, 0x1, 1, 0x30A14, .cl, 0x800FFFFF, 0x0, false, false⟩,
   ⟨0x4, 0x1, 1, 0x1, 1, 0x1, 1, 0x0, .ro, 0xFFF, 0x0, false, false⟩,
   ⟨0x8, 0x1, 1, 0x1, 1, 0x1, 1, 0x0, .wo, 0x3, 0x0, true, false⟩,
   ⟨0xC, 0x1, 1, 0x1, 1, 0x1, 1, 0x0, .w1c, 0x7F, 0x7F, false, false⟩,
   ⟨0x10, 0x1, 1, 0x1, 1, 0x1, 1, 0x0, .ro, 0xFFFFFFFF, 0x0, false, false⟩,
   ⟨0x14, 0x1, 1, 0x1, 1, 0x1, 1, 0x0, .ro, 0xFFFFFFFF, 0x0, false, false⟩,
   ⟨0x18, 0x1, 1, 0x1, 1, 0x1, 1, 0x0, .ro, 0xFFFFFFFF, 0x0, false, false⟩,
   ⟨0x1C, 0x1, 1, 0x1, 1, 0x1, 1, 0x0, .ro, 0xFFFFFFFF, 0x0, false, false⟩,
   ⟨0x20, 0x1, 1, 0x1, 1, 0x1, 1, 0x0, .ro, 0xFFFFFFFF, 0x0, false, false⟩,
   ⟨0x24, 0x1, 1, 0x1, 1, 0x1, 1, 0x0, .ro, 0xFFFFFFFF, 0x0, false, false⟩,
   ⟨0x28, 0x1, 1, 0x1, 1, 0x1, 1, 0x0, .ro, 0xFFFFFFFF, 0x0, false, false⟩,
   ⟨0x2C, 0x1, 1, 0x1, 1, 0x1, 1, 0x0, .ro, 0xFFFFFFFF, 0x0, false, false⟩,
   ⟨0x30, 0x1, 1, 0x1, 1, 0x1, 1, 0x0, .ro, 0xFFFFFFFF, 0x0, false, false⟩,
   ⟨0x34, 0x1, 1, 0x1, 1, 0x1, 1, 0x0, .ro, 0xFFFFFFFF, 0x0, false, false⟩,
   ⟨0x38, 0x1, 1, 0x1, 1, 0x1, 1, 0x0, .ro, 0xFFFFFFFF, 0x0, false, false⟩,
   ⟨0x3C, 0x1, 1, 0x1, 1, 0x1, 1, 0x0, .ro, 0xFFFFFFFF, 0x0, false, false⟩,
   ⟨0x40, 0x1, 1, 0x1, 1, 0x1, 1, 0x0, .ro, 0xFFFFFFFF, 0x0, false, false⟩,
   ⟨0x44, 0x1, 1, 0x1, 1, 0x1, 1, 0x0, .ro, 0xF000FFFF, 0x0, false, false⟩,
   ⟨0x48, 0x1, 1, 0x1, 1, 0x1, 1, 0x0, .ro, 0xFFFFFFFF, 0x0, false, false⟩,
   ⟨0x4C, 0x1, 1, 0x1, 1, 0x1, 1, 0x0, .ro, 0xFFFFFFFF, 0x0, false, false⟩,
   ⟨0x50, 0x1, 1, 0x1, 1, 0x1, 1, 0x0, .ro, 0xFFFFFFFF, 0x0, false, false⟩]

/-- Registers of block 0x24. -/
def regRows24 : List RegDesc :=
  [⟨0x0, 0x1, 1, 0x1, 1, 0x1, 1, 0x4B, .cl, 0xFF, 0x0, false, false⟩,
   ⟨0x4, 0x1, 1, 0x1, 1, 0x1, 1, 0x0, .ro, 0xF00003FF, 0x0, false, false⟩,
   ⟨0x8, 0x1, 1, 0x1, 1, 0x1, 1, 0x0, .w1c, 0x3F, 0x3F, false, false⟩,
   ⟨0xC, 0x1, 1, 0x1, 1, 0x1, 1, 0x0, .ro, 0x1FFFFFF, 0x0, false, false⟩,
   ⟨0x10, 0x1, 1, 0x1, 1, 0x1, 1, 0x0, .ro, 0x1FFFFFF, 0x0, false, false⟩,
   ⟨0x14, 0x1, 1, 0x1, 1, 0x1, 1, 0x0, .ro, 0xFFFFFFFF, 0x0, false, false⟩,
   ⟨0x2C, 0x1, 1, 0x1, 1, 0x1, 1, 0x0, .ro, 0xFFFFFFFF, 0x0, false, false⟩,
   ⟨0x18, 0x1, 1, 0x1, 1, 0x1, 1, 0x0, .ro, 0xFFFFFFFF, 0x0, false, false⟩,
   ⟨0x1C, 0x1, 1, 0x1, 1, 0x1, 1, 0x0, .ro, 0xFFFFFFFF, 0x0, false, false⟩,
   ⟨0x20, 0x1, 1, 0x1, 1, 0x1, 1, 0x0, .ro, 0xFFFF1FFF, 0x0, false, false⟩,
   ⟨0x24, 0x1, 1, 0x1, 1, 0x1, 1, 0x0, .ro, 0xFFFFFFFF, 0x0, false, false⟩,
   ⟨0x28, 0x1, 1, 0x1, 1, 0x1, 1, 0x0, .ro, 0xFFFFFFFF, 0x0, false, false⟩]

/-- Registers of block 0x25. -/
def regRows25 : List RegDesc :=
  [⟨0x0, 0x1, 1, 0x1, 1, 0x1, 1, 0x1F43C03, .cl, 0xFFFFF0F, 0x0, false, false⟩,
   ⟨0x4, 0x1, 1, 0x1, 1, 0x1, 1, 0x0, .ro, 0xC001FFFF, 0x0, false, false⟩,
   ⟨0x8, 0x1, 1, 0x1, 1, 0x1, 1, 0x0, .w1c, 0x7F, 0x7F, false, false⟩,
   ⟨0xC, 0x1, 1, 0x1, 1, 0x1, 1, 0x0, .cl, 0xFFFF0001, 0x0, false, false⟩,
   ⟨0x10, 0x1, 1, 0x1, 1, 0x1, 1, 0x0, .cl, 0xFFFFFF01, 0x0, false, false⟩,
   ⟨0x14, 0x1, 1, 0x1, 1, 0x1, 1, 0x0, .wo, 0xFF, 0x0, true, false⟩,
   ⟨0x18, 0x1, 1, 0x1, 1, 0x1, 1, 0x0, .wo, 0xFFFFF71F, 0x0, true, false⟩,
   ⟨0x1C, 0x1, 1, 0x1, 1, 0x1, 1, 0x0, .wo, 0x731F, 0x0, false, false⟩,
   ⟨0x100, 0x20, 4, 0x1, 1, 0x1, 1, 0x0, .ro, 0xF0000770, 0x0, false, false⟩,
   ⟨0x104, 0x20, 4, 0x1, 1, 0x1, 1, 0x0, .ro, 0xFFFFFFFF, 0x0, false, false⟩,
   ⟨0x108, 0x20, 4, 0x1, 1, 0x1, 1, 0x0, .ro, 0xFFFFFFFF, 0x0, false, false⟩,
   ⟨0x10C, 0x20, 4, 0x1, 1, 0x1, 1, 0x0, .ro, 0xFFFFFFFF, 0x0, false, false⟩,
   ⟨0x200, 0x10, 16, 0x1, 1, 0x1, 1, 0x0, .cl, 0xBFFF0FFF, 0x0, false, false⟩,
   ⟨0x204, 0x10, 16, 0x1, 1, 0x1, 1, 0x0, .cl, 0xFFFFFFFF, 0x0, false, false⟩,
   ⟨0x208, 0x10, 16, 0x1, 1, 0x1, 1, 0x0, .wo, 0x1, 0x0, false, false⟩,
   ⟨0x20C, 0x10, 16, 0x1, 1, 0x1, 1, 0x0, .ro, 0x3FFFF, 0x0, false, false⟩,
   ⟨0x400, 0x4, 32, 0x1, 1, 0x1, 1, 0x0, .cl, 0x80003FFF, 0x0, false, false⟩,
   ⟨0x480, 0x4, 32, 0x1, 1, 0x1, 1, 0x0, .ro, 0xFF00FFFF, 0x0, false, false⟩,
   ⟨0x1200, 0x4, 12, 0x1, 1, 0x1, 1, 0x0, .ro, 0x8F00FFFF, 0x0, false, false⟩,
   ⟨0x1400, 0x4, 32, 0x1, 1, 0x1, 1, 0x0, .ro, 0x8F00FFFF, 0x0, false, false⟩,
   ⟨0x1600, 0x4, 48, 0x1, 1, 0x1, 1, 0x0, .ro, 0x8F00FFFF, 0x0, false, false⟩,
   ⟨0x1800, 0x4, 9, 0x1, 1, 0x1, 1, 0x0, .ro, 0x8F00FFFF, 0x0, false, false⟩,
   ⟨0x1A00, 0x4, 64, 0x1, 1, 0x1, 1, 0x0, .ro, 0x8F00FFFF, 0x0, false, false⟩,
   ⟨0x1C00, 0x4, 32, 0x1, 1, 0x1, 1, 0x0, .ro, 0x8F00FFFF, 0x0, false, false⟩,
   ⟨0x1E00, 0x4, 96, 0x1, 1, 0x1, 1, 0x0, .ro, 0x8F00FFFF, 0x0, false, false⟩,
   ⟨0x2000, 0x10, 256, 0x4, 4, 0x1, 1, 0x0, .ro, 0xFFFFFFFF, 0x0, false, false⟩]

/-- Registers of block 0x26. -/
def regRows26 : List RegDesc :=
  [⟨0x0, 0x1, 1, 0x1, 1, 0x1, 1, 0xC00007, .cl, 0xF00007, 0x0, false, false⟩,
   ⟨0x4, 0x1, 1, 0x1, 1, 0x1, 1, 0x0, .ro, 0x8000FF37, 0x0, false, false⟩,
   ⟨0x8, 0x1, 1, 0x1, 1, 0x1, 1, 0x0, .w1c, 0x1F, 0x1F, false, false⟩,
   ⟨0x40, 0x4, 18, 0x1, 1, 0x1, 1, 0x0, .ro, 0x8000FFFF, 0x0, false, false⟩,
   ⟨0xA0, 0x4, 9, 0x1, 1, 0x1, 1, 0x0, .ro, 0xFFFF, 0x0, false, false⟩,
   ⟨0x100, 0x20, 24, 0x1, 1, 0x1, 1, 0x1F00, .cl, 0x80001F7F, 0x0, false, false⟩,
   ⟨0x104, 0x20, 24, 0x1, 1, 0x1, 1, 0x0, .cl, 0xFFFFFFFF, 0x0, false, false⟩,
   ⟨0x108, 0x20, 24, 0x1, 1, 0x1, 1, 0x0, .cl, 0xFFFFFFFF, 0x0, false, false⟩,
   ⟨0x10C, 0x20, 24, 0x1, 1, 0x1, 1, 0x0, .cl, 0xFFFFFFFF, 0x0, false, false⟩,
   ⟨0x110, 0x20, 24, 0x1, 1, 0x1, 1, 0x0, .cl, 0xFFFFFFFF, 0x0, false, false⟩,
   ⟨0x114, 0x20, 24, 0x1, 1, 0x1, 1, 0x0, .cl, 0xFFFFFFFF, 0x0, false, false⟩,
   ⟨0x118, 0x20, 24, 0x1, 1, 0x1, 1, 0x0, .cl, 0xFFFFFFFF, 0x0, false, false⟩,
   ⟨0x11C, 0x20, 24, 0x1, 1, 0x1, 1, 0x0, .ro, 0x8000FFFF, 0x0, false, false⟩,
   ⟨0x400, 0x4, 32, 0x1, 1, 0x1, 1, 0x3F800000, .ro, 0xFFFFFFFF, 0x0, false, false⟩]

/-- Registers of block 0x27. -/
def regRows27 : List RegDesc :=
  [⟨0x0, 0x1, 1, 0x1, 1, 0x1, 1, 0xA5A02, .cl, 0xFFFF0F, 0x0, false, false⟩,
   ⟨0x4, 0x1, 1, 0x1, 1, 0x1, 1, 0x6400, .cl, 0x801FFF00, 0x0, false, false⟩,
   ⟨0x8, 0x1, 1, 0x1, 1, 0x1, 1, 0x0, .ro, 0xF, 0x0, false, false⟩,
   ⟨0xC, 0x1, 1, 0x1, 1, 0x1, 1, 0x0, .w1c, 0x3F, 0x3F, false, false⟩,
   ⟨0x10, 0x1, 1, 0x1, 1, 0x1, 1, 0x0, .ro, 0xFFFFFFFF, 0x0, false, false⟩,
   ⟨0x14, 0x1, 1, 0x1, 1, 0x1, 1, 0x0, .ro, 0xFFFFFFFF, 0x0, false, false⟩,
   ⟨0x20, 0x4, 5, 0x1, 1, 0x1, 1, 0x0, .ro, 0xFFFFFFFF, 0x0, false, false⟩,
   ⟨0x40, 0x4, 5, 0x1, 1, 0x1, 1, 0x0, .ro, 0xFFFFFFFF, 0x0, false, false⟩,
   ⟨0x80, 0x1, 1, 0x1, 1, 0x1, 1, 0x0, .rw, 0x800FFFFF, 0x0, false, true⟩,
   ⟨0x84, 0x1, 1, 0x1, 1, 0x1, 1, 0x0, .ro, 0x80000007, 0x0, false, true⟩]

/-- Registers of block 0x30. -/
def regRows30 : List RegDesc :=
  [⟨0x0, 0x1000, 4, 0x1, 1, 0x1, 1, 0x0, .ro, 0xF83F0000, 0x0, false, false⟩,
   ⟨0x4, 0x1000, 4, 0x1, 1, 0x1, 1, 0x0, .cl, 0x7FC00, 0x0, false, false⟩,
   ⟨0x8, 0x1000, 4, 0x1, 1, 0x1, 1, 0x1F, .rw, 0xFFFFFFFF, 0x0, false, false⟩,
   ⟨0xC, 0x1000, 4, 0x1, 1, 0x1, 1, 0x0, .rw, 0xFFFFFFFF, 0x0, false, false⟩,
   ⟨0x10, 0x1000, 4, 0x1, 1, 0x1, 1, 0x0, .w1c, 0xFFFFFFFF, 0xFFFFFFFF, false, false⟩,
   ⟨0x14, 0x1000, 4, 0x1, 1, 0x1, 1, 0x0, .w1c, 0xFFFFFFFF, 0xFFFFFFFF, false, false⟩,
   ⟨0x18, 0x1000, 4, 0x1, 1, 0x1, 1, 0x0, .wo, 0x8000003F, 0x0, false, false⟩,
   ⟨0x1C, 0x1000, 4, 0x1, 1, 0x1, 1, 0x0, .ro, 0xFFFFFF0F, 0x0, false, false⟩,
   ⟨0x20, 0x1000, 4, 0x1, 1, 0x1, 1, 0x0, .ro, 0xFFFFFFFF, 0x0, false, false⟩,
   ⟨0x24, 0x1, 1, 0x1, 1, 0x1, 1, 0x0, .ro, 0x81FFFFFF, 0x0, false, false⟩,
   ⟨0x40, 0x1000, 4, 0x4, 4, 0x1, 1, 0x0, .rw, 0xFFFFFFFF, 0x0, false, false⟩,
   ⟨0x50, 0x1000, 4, 0x4, 4, 0x1, 1, 0x0, .rw, 0xFFFFFFFF, 0x0, false, false⟩,
   ⟨0x140, 0x1000, 4, 0x4, 48, 0x1, 1, 0x0, .cl, 0xF0FFFFFF, 0x0, false, false⟩,
   ⟨0x400, 0x1000, 4, 0x10, 16, 0x1, 1, 0x0, .cl, 0xFFFFFF00, 0x0, false, false⟩,
   ⟨0x404, 0x1000, 4, 0x10, 16, 0x1, 1, 0x0, .cl, 0xFFFFFF00, 0x0, false, false⟩,
   ⟨0x408, 0x1000, 4, 0x10, 16, 0x1, 1, 0x0, .cl, 0x8000003F, 0x0, false, false⟩]

/-- The registers of each block ID (Tables MAP-1 to MAP-24). -/
def regRows : Nat → List RegDesc
  | 1 => regRows1
  | 2 => regRows2
  | 3 => regRows3
  | 4 => regRows4
  | 5 => regRows5
  | 16 => regRows10
  | 17 => regRows11
  | 18 => regRows12
  | 19 => regRows13
  | 20 => regRows14
  | 21 => regRows15
  | 22 => regRows16
  | 23 => regRows17
  | 24 => regRows18
  | 25 => regRows19
  | 32 => regRows20
  | 33 => regRows21
  | 34 => regRows22
  | 35 => regRows23
  | 36 => regRows24
  | 37 => regRows25
  | 38 => regRows26
  | 39 => regRows27
  | 48 => regRows30
  | _ => []

/-- The peripheral range (R13). -/
def inPeriph (a : Nat) : Bool := 0x40000000 ≤ a && a < 0x41000000

/-- The row of the register map for an address; none where the address is unassigned (R453). -/
def regDesc (a : Nat) : Option RegDesc :=
  if inPeriph a then (regRows ((a - 0x40000000) / 0x10000)).find? (fun d => d.covers (a % 0x10000)) else none

/-- The reset value of a register. -/
def regReset (a : Nat) : W :=
  match regDesc a with
  | some d => BitVec.ofNat 32 d.reset
  | none => 0

end Sys2Proof.Machine
end

