-- ==== Sys2Proof/Machine/Events.lean ====
section
/-! DEFINITION. Event codes and their classes, from the event tables of every chapter. -/

namespace Sys2Proof.Machine

abbrev EV_TKP_REF_FAIL : Nat := 0x0301
abbrev EV_TKP_SLOT_COINC : Nat := 0x0302
abbrev EV_RTC_LOST : Nat := 0x0401
abbrev EV_RTC_OSC_FAIL : Nat := 0x0402
abbrev EV_RTC_SET : Nat := 0x0403
abbrev EV_SYS_SLOT_INVALID : Nat := 0x0102
abbrev EV_SYS_FALLBACK : Nat := 0x0104
abbrev EV_SYS_NOCFG : Nat := 0x0105
abbrev EV_SYS_READY : Nat := 0x0106
abbrev EV_SYS_LOCKED_WRITE : Nat := 0x0108
abbrev EV_SYS_UNMAPPED_ACCESS : Nat := 0x0109
abbrev EV_SYS_QUAD_MODE : Nat := 0x010A
abbrev EV_SYS_START_PAUSED : Nat := 0x010B
abbrev EV_SYS_RESTART_REFUSED : Nat := 0x010C
abbrev EV_SYS_SLOT_WRITTEN : Nat := 0x010D
abbrev EV_SYS_GEN_TIE : Nat := 0x010E
abbrev EV_LEG_CAL_FAIL : Nat := 0x1001
abbrev EV_LEG_CAL_AGED : Nat := 0x1002
abbrev EV_LEG_PAD_ERR : Nat := 0x1003
abbrev EV_LEG_DELAY_MISMATCH : Nat := 0x1004
abbrev EV_LEG_RETIRED : Nat := 0x1005
abbrev EV_LEG_GL_FAULT_PULL : Nat := 0x1006
abbrev EV_LEG_GL_NOLINK : Nat := 0x1007
abbrev EV_LEG_GL_CONTENTION : Nat := 0x1008
abbrev EV_LEG_GL_CFG_MISMATCH : Nat := 0x1009
abbrev EV_LEG_DRV_RESET : Nat := 0x100A
abbrev EV_LEG_STALE_SET : Nat := 0x100B
abbrev EV_LEG_SHADOW_WRITE_IGNORED : Nat := 0x100C
abbrev EV_ADC_OVERRUN : Nat := 0x1301
abbrev EV_ADC_CAL_FAIL : Nat := 0x1302
abbrev EV_ADC_RETIRED : Nat := 0x1303
abbrev EV_ADC_SWAP_MISMATCH : Nat := 0x1304
abbrev EV_ADC_SWAP_DEFERRED : Nat := 0x1305
abbrev EV_ADC_URG_REFUSED : Nat := 0x1306
abbrev EV_ADC_NOSPARE : Nat := 0x1307
abbrev EV_DSM_STUCK : Nat := 0x1402
abbrev EV_DSM_OVERCURRENT : Nat := 0x1403
abbrev EV_DSM_WINDOW_OVERRUN : Nat := 0x1404
abbrev EV_CMP_TRIP : Nat := 0x1501
abbrev EV_CMP_DAC_MISMATCH : Nat := 0x1502
abbrev EV_CMP_TEST_FAIL : Nat := 0x1503
abbrev EV_CMP_RETIRED : Nat := 0x1504
abbrev EV_CMP_SUBSTITUTED : Nat := 0x1505
abbrev EV_CMP_DEGRADED : Nat := 0x1506
abbrev EV_TRP_GROUP_TRIP : Nat := 0x1601
abbrev EV_TRP_RELEASE : Nat := 0x1602
abbrev EV_TRP_RELEASE_REFUSED : Nat := 0x1603
abbrev EV_TRP_ENABLE_REFUSED : Nat := 0x1604
abbrev EV_CEN_MISS : Nat := 0x1201
abbrev EV_CEN_MISS_LIMIT : Nat := 0x1202
abbrev EV_CEN_OVERRUN : Nat := 0x1203
abbrev EV_CEN_PAIR_MISMATCH : Nat := 0x1204
abbrev EV_CEN_LATENT : Nat := 0x1205
abbrev EV_CEN_NONFINITE : Nat := 0x1206
abbrev EV_CEN_SELFTEST_FAIL : Nat := 0x1207
abbrev EV_CEN_RETIRED : Nat := 0x1208
abbrev EV_CEN_SCHED_NAN : Nat := 0x1209
abbrev EV_CEN_REGION : Nat := 0x120A
abbrev EV_CEN_SELFTEST_DEFERRED : Nat := 0x120B
abbrev EV_AXU_SUBSTITUTED : Nat := 0x1101
abbrev EV_AXU_FEEDBACK_LOST : Nat := 0x1102
abbrev EV_AXU_ZERO_SUM : Nat := 0x1103
abbrev EV_AXU_VS_LOSS : Nat := 0x1104
abbrev EV_AXU_HELD : Nat := 0x1105
abbrev EV_AXU_LATE_SET : Nat := 0x1106
abbrev EV_AXU_NONFINITE : Nat := 0x1107
abbrev EV_AXU_CONVERGE_FAIL : Nat := 0x1110
abbrev EV_AXU_POLARITY_FAIL : Nat := 0x1111
abbrev EV_AXU_POS_LOST : Nat := 0x1112
abbrev EV_AXU_REACQUIRED : Nat := 0x1113
abbrev EV_AXU_POS_FAULT : Nat := 0x1114
abbrev EV_AXU_HALL_INVALID : Nat := 0x1115
abbrev EV_AXU_SENS_STALE : Nat := 0x1116
abbrev EV_AXU_RAMP_NAN : Nat := 0x1117
abbrev EV_AXU_CAUGHT : Nat := 0x1118
abbrev EV_GIO_SENT_CRC : Nat := 0x1801
abbrev EV_GIO_SENT_SYNC : Nat := 0x1802
abbrev EV_CHG_PHASE : Nat := 0x1701
abbrev EV_CHG_QUALIFIED : Nat := 0x1702
abbrev EV_CHG_SOURCE_LOST : Nat := 0x1703
abbrev EV_CHG_HANDOVER : Nat := 0x1704
abbrev EV_CHG_SUSPENDED : Nat := 0x1705
abbrev EV_CHG_FAULT : Nat := 0x1706
abbrev EV_CHG_ACK : Nat := 0x1707
abbrev EV_CHG_LAMP_FAULT : Nat := 0x1708
abbrev EV_CHG_DONE : Nat := 0x1709
abbrev EV_CHG_RECHARGE : Nat := 0x170A
abbrev EV_CVU_SUBSTITUTED : Nat := 0x1901
abbrev EV_CVU_FEEDBACK_LOST : Nat := 0x1902
abbrev EV_CVU_HELD : Nat := 0x1903
abbrev EV_CVU_LATE_SET : Nat := 0x1904
abbrev EV_CVU_NONFINITE : Nat := 0x1905
abbrev EV_CVU_PHASE_CHANGE : Nat := 0x1906
abbrev EV_CVU_GRID_LOST : Nat := 0x1907
abbrev EV_CVU_SENSE_LOST : Nat := 0x1908
abbrev EV_RED_TRIAD_MINORITY : Nat := 0x2501
abbrev EV_RED_TRIAD_RESYNC : Nat := 0x2502
abbrev EV_RED_TRIAD_RESTART : Nat := 0x2503
abbrev EV_RED_TRIAD_LATENT : Nat := 0x2504
abbrev EV_RED_GALE : Nat := 0x2505
abbrev EV_RED_TRIAD_DEGRADED : Nat := 0x2506
abbrev EV_RED_TRIAD_HALTED : Nat := 0x2507
abbrev EV_RED_T0_FATAL : Nat := 0x2508
abbrev EV_RED_WDG_MISS : Nat := 0x2509
abbrev EV_RED_SAFE_ENTER : Nat := 0x250A
abbrev EV_RED_SAFE_LEAVE : Nat := 0x250B
abbrev EV_RED_CULL_CLEARED : Nat := 0x250C
abbrev EV_RED_GUST_CLEARED : Nat := 0x250D
abbrev EV_RED_SPARE_TAKEN : Nat := 0x250E
abbrev EV_RED_CULL_LOST : Nat := 0x250F
abbrev EV_RED_DEPUTY : Nat := 0x2510
abbrev EV_RED_FN_REQUEST : Nat := 0x2511
abbrev EV_LNK_LINK_UP : Nat := 0x2301
abbrev EV_LNK_LINK_DOWN : Nat := 0x2302
abbrev EV_LNK_TAKEOVER : Nat := 0x2303
abbrev EV_LNK_RELEASED : Nat := 0x2304
abbrev EV_LNK_ROLE : Nat := 0x2305
abbrev EV_LNK_SELECTED : Nat := 0x2306
abbrev EV_LNK_IN_SYNC : Nat := 0x2307
abbrev EV_LNK_MIRROR_SKIP : Nat := 0x2308
abbrev EV_LNK_JRN_MIRROR_FAIL : Nat := 0x2309
abbrev EV_LNK_TOKEN_WIRE : Nat := 0x230A
abbrev EV_LNK_TOKEN_RACE : Nat := 0x230B
abbrev EV_LNK_CFG_MISMATCH : Nat := 0x230C
abbrev EV_LNK_LANE_DEGRADED : Nat := 0x230D
abbrev EV_LNK_LOCAL_DISCARDED : Nat := 0x230E
abbrev EV_LNK_JOURNAL_AHEAD : Nat := 0x230F
abbrev EV_LNK_YIELD_REFUSED : Nat := 0x2310
abbrev EV_LNK_NO_SUCCESSOR : Nat := 0x2311
abbrev EV_BUS_ERR_PASSIVE : Nat := 0x2001
abbrev EV_BUS_BUS_OFF : Nat := 0x2002
abbrev EV_BUS_RECOVERED : Nat := 0x2003
abbrev EV_BUS_RECOVERY_LIMIT : Nat := 0x2004
abbrev EV_BUS_RX_OVERFLOW : Nat := 0x2005
abbrev EV_BUS_PROTOCOL_EXCEPTION : Nat := 0x2006
abbrev EV_BUS_RATE_FOUND : Nat := 0x2007
abbrev EV_BUS_RATE_NOT_FOUND : Nat := 0x2008
abbrev EV_BUS_TDC_RANGE : Nat := 0x2009
abbrev EV_QUE_EXPIRED : Nat := 0x2101
abbrev EV_QUE_TX_FAILED : Nat := 0x2102
abbrev EV_QUE_CANCEL_REFUSED : Nat := 0x2103
abbrev EV_QUE_FULL : Nat := 0x2104
abbrev EV_SIG_MAP_SHORT : Nat := 0x2201
abbrev EV_SIG_NO_ROUTE : Nat := 0x2202
abbrev EV_SIG_HOP_LIMIT : Nat := 0x2203
abbrev EV_SIG_DISSENT : Nat := 0x2204
abbrev EV_SIG_AGREE : Nat := 0x2205
abbrev EV_SIG_ROOT_SILENT : Nat := 0x2206
abbrev EV_SIG_CMD_REFUSED : Nat := 0x2207
abbrev EV_SIG_DEDUP_EVICT : Nat := 0x2208
abbrev EV_JRN_WARN_FILL : Nat := 0x2401
abbrev EV_JRN_FULL : Nat := 0x2402
abbrev EV_JRN_COMMIT_WARN : Nat := 0x2403
abbrev EV_JRN_TORN_TAIL : Nat := 0x2404
abbrev EV_JRN_CORRUPT : Nat := 0x2405
abbrev EV_JRN_REPLAYED : Nat := 0x2406
abbrev EV_COR_ACCESS_FAULT : Nat := 0x3001
abbrev EV_COR_ILLEGAL : Nat := 0x3002
abbrev EV_COR_DOUBLE_FAULT : Nat := 0x3003
abbrev EV_COR_SAFEQ_FULL : Nat := 0x3004
abbrev EV_THM_WARNING : Nat := 0x2601
abbrev EV_THM_THROTTLE : Nat := 0x2602
abbrev EV_THM_DERATE : Nat := 0x2603
abbrev EV_THM_SHUTDOWN : Nat := 0x2604
abbrev EV_THM_NORMAL : Nat := 0x2605
abbrev EV_THM_SENSOR_BROKEN : Nat := 0x2606
abbrev EV_THM_SENSOR_OK : Nat := 0x2607
abbrev EV_THM_NTC_STOP : Nat := 0x2608
abbrev EV_BKG_MEM_CORRECTED : Nat := 0x2701
abbrev EV_BKG_MEM_UNCORRECTABLE : Nat := 0x2702
abbrev EV_BKG_MARVER_LATE : Nat := 0x2703
abbrev EV_BKG_DEFERRED : Nat := 0x2704
abbrev EV_BKG_REFUSED : Nat := 0x2705
abbrev EV_BKG_WEAR_WARN : Nat := 0x2706
abbrev EV_BKG_TEL_DROP : Nat := 0x2707
abbrev EV_SEC_SESSION : Nat := 0x0501
abbrev EV_SEC_AUTH_FAIL : Nat := 0x0502
abbrev EV_SEC_LOCKOUT : Nat := 0x0503
abbrev EV_SEC_LIMIT_DROPPED : Nat := 0x0504
abbrev EV_SEC_AUDIT_BROKEN : Nat := 0x0505
abbrev EV_SEC_KEYSTORE_LOST : Nat := 0x0506
abbrev EV_SUP_WARNING : Nat := 0x0201
abbrev EV_SUP_RECOVERED : Nat := 0x0202
abbrev EV_SUP_FEED_LOST : Nat := 0x0203
abbrev EV_SUP_FEED_RETURN : Nat := 0x0204
abbrev EV_SUP_DIP_STORM : Nat := 0x0205
abbrev EV_SUP_OVERVOLTAGE : Nat := 0x0206
abbrev EV_SUP_POR_CAUSE : Nat := 0x0207
abbrev EV_SUP_FEED_MISSING : Nat := 0x0208

/-- Event classes (Table SYS-11). -/
abbrev clsInfo : Nat := 0
abbrev clsWarning : Nat := 1
abbrev clsGust : Nat := 2
abbrev clsGale : Nat := 3
abbrev clsSafe : Nat := 4

/-- The codes of class warning. -/
def codesWarning : List Nat :=
  [0x0401, 0x0402, 0x0102, 0x0104, 0x0105, 0x0108, 0x0109, 0x1002, 0x1006, 0x1009, 0x100A, 0x1301, 0x1307, 0x1403, 0x1404, 0x1506, 0x1601, 0x1201, 0x1203, 0x1206, 0x1209, 0x1101, 0x1105, 0x1106, 0x1110, 0x1111, 0x1115, 0x1116, 0x1117, 0x1801, 0x1802, 0x1703, 0x1705, 0x1706, 0x1708, 0x1901, 0x1903, 0x1904, 0x1907, 0x2506, 0x2509, 0x250F, 0x2510, 0x2302, 0x2303, 0x2308, 0x2309, 0x230A, 0x230B, 0x230C, 0x230D, 0x230E, 0x230F, 0x2001, 0x2002, 0x2004, 0x2005, 0x2008, 0x2009, 0x2101, 0x2102, 0x2201, 0x2202, 0x2203, 0x2204, 0x2206, 0x2207, 0x2208, 0x2401, 0x2402, 0x2405, 0x3001, 0x3002, 0x3004, 0x2601, 0x2602, 0x2603, 0x2606, 0x2608, 0x2702, 0x2703, 0x2706, 0x2707, 0x0502, 0x0503, 0x0504, 0x0505, 0x0506, 0x0201, 0x0203, 0x0205, 0x0206, 0x0208]

/-- The codes of class Gust. -/
def codesGust : List Nat :=
  [0x1001, 0x1003, 0x1004, 0x1007, 0x1302, 0x1304, 0x1402, 0x1502, 0x1503, 0x1204, 0x1205, 0x1207, 0x2501, 0x2503, 0x2504]

/-- The codes of class Gale. -/
def codesGale : List Nat :=
  [0x1005, 0x1303, 0x1504, 0x1208, 0x2505]

/-- The codes of class safe state. -/
def codesSafe : List Nat :=
  [0x0301, 0x1008, 0x1202, 0x1102, 0x1103, 0x1107, 0x1112, 0x1114, 0x1902, 0x1905, 0x1908, 0x2507, 0x2508, 0x250A, 0x2311, 0x3003, 0x2604]

/-- The class of an event code; 0x1009, 0x2204 and 0x2702 have a second class, which their own rules give. -/
def evClass (code : Nat) : Nat :=
  if codesSafe.contains code then clsSafe
  else if codesGale.contains code then clsGale
  else if codesGust.contains code then clsGust
  else if codesWarning.contains code then clsWarning
  else clsInfo

end Sys2Proof.Machine
end

