-- ==== Sys2Proof/Config.lean ====
section
/-! DEFINITION. What the specification leaves open: free values, as constants without a body. Nothing can be proved of
their values; every statement holds whatever they are (log entries 3, 4, 5 and 6). -/

namespace Sys2Proof

/-- The fraction bits of a NaN result of binary32 operation `op` on two operands (R154, R372 do not state them). -/
opaque Config.nanFrac : Nat → W → W → Nat

/-- The sign of a NaN result of binary32 operation `op`. -/
opaque Config.nanSign : Nat → W → W → Bool

/-- FMIN and FMAX of operands that include a NaN, or of zeros of both signs: the specification states no result. -/
opaque Config.minMaxOpen : Nat → W → W → W

/-- The error of a sine (0) or a cosine (1) of an angle, in units of 2^-40, taken within the bound of R185. -/
opaque Config.trigError : Nat → W → Int

/-- Functions for which the specification states no accuracy: 0 the arctangent of two arguments in radians, 1 the
exponential, 2 the natural logarithm. -/
opaque Config.mathOpen : Nat → W → W → W

/-- The correction of the carrier's demodulation references for the delay from commit to sample (R205), as an angle:
0 the sine reference, 1 the cosine reference; by the number of periods of a carrier period. -/
opaque Config.carrierPhase : Nat → Nat → W

/-- A fresh value each time it is asked for: the k-th answer to question `kind`. -/
opaque Config.freeWord : Nat → Nat → W

/-- The module's 128-bit identity, fixed at manufacture (R408). -/
opaque Config.uid : Nat

/-- SYS_ID, and the Galianen root key of the boot ROM (R405): fixed in the part, not in the specification. -/
opaque Config.rootKey : List Byte

end Sys2Proof
end

