-- ==== Sys2Proof/Machine/Float.lean ====
section
/-! DEFINITION. binary32 arithmetic as R154 and R372 state it: round to nearest, ties to even, nothing fused,
subnormal operands and results flushed to zero of the same sign. -/

namespace Sys2Proof.Machine

/-- Sign bit, biased exponent and fraction of a binary32 value. -/
def fSign (x : W) : Bool := x.toNat.testBit 31
def fExp (x : W) : Nat := bitsOf x.toNat 23 8
def fFrac (x : W) : Nat := bitsOf x.toNat 0 23

def fIsNaN (x : W) : Bool := fExp x = 255 && fFrac x ≠ 0
def fIsInf (x : W) : Bool := fExp x = 255 && fFrac x = 0
def fFinite (x : W) : Bool := fExp x ≠ 255
/-- Zero, or a subnormal that counts as zero (R154). -/
def fIsZero (x : W) : Bool := fExp x = 0

/-- The significand of a finite value, 0 for a flushed one. -/
def fMant (x : W) : Nat := if fExp x = 0 then 0 else 0x800000 + fFrac x

/-- The signed significand. -/
def fMantI (x : W) : Int := if fSign x then -(fMant x : Int) else (fMant x : Int)

def fPack (s : Bool) (e m : Nat) : W := BitVec.ofNat 32 (s.toNat * 0x80000000 + e * 0x800000 + m)

def fZero (s : Bool) : W := fPack s 0 0
def fInf (s : Bool) : W := fPack s 255 0

/-- A NaN whose bits the specification leaves open. -/
def fNaN (op : Nat) (a b : W) : W :=
  fPack (Config.nanSign op a b) 255 (Config.nanFrac op a b % 0x7FFFFF + 1)

/-- The binary32 value nearest to `m × 2 ^ e`, ties to even, subnormal results flushed. -/
def fRound (s : Bool) (m : Nat) (e : Int) : W :=
  if m = 0 then fZero s
  else
    let n := Nat.log2 m + 1
    let (q, sh) : Nat × Int :=
      if n ≤ 24 then (m <<< (24 - n), (n : Int) - 24)
      else
        let k := n - 24
        let q := m >>> k
        let r := m % 2 ^ k
        let half := 2 ^ (k - 1)
        let q' := if half < r || (r = half && q % 2 = 1) then q + 1 else q
        (q', (k : Int))
    let (q, sh) := if q = 0x1000000 then (0x800000, sh + 1) else (q, sh)
    let be := e + sh + 150
    if 255 ≤ be then fInf s
    else if be ≤ 0 then fZero s
    else fPack s be.toNat (q - 0x800000)

/-- The nearest binary32 value to an integer times `2 ^ e`; an exact zero has sign `sz`. -/
def fRoundI (sz : Bool) (m : Int) (e : Int) : W :=
  if m = 0 then fZero sz else fRound (m < 0) m.natAbs e

/-- A value with a subnormal flushed to zero of the same sign. -/
def fFlush (x : W) : W := if fExp x = 0 then fZero (fSign x) else x

def fNeg (x : W) : W := x ^^^ 0x80000000#32
def fAbs (x : W) : W := x &&& 0x7FFFFFFF#32

def fAdd (a b : W) : W :=
  if fIsNaN a || fIsNaN b then fNaN 0 a b
  else if fIsInf a then (if fIsInf b && fSign a != fSign b then fNaN 0 a b else fInf (fSign a))
  else if fIsInf b then fInf (fSign b)
  else if fIsZero a && fIsZero b then fZero (fSign a && fSign b)
  else
    let e := min (fExp a) (fExp b)
    let m := fMantI a * 2 ^ (fExp a - e) + fMantI b * 2 ^ (fExp b - e)
    fRoundI false m ((e : Int) - 150)

def fSub (a b : W) : W :=
  if fIsNaN a || fIsNaN b then fNaN 1 a b else fAdd a (fNeg b)

def fMul (a b : W) : W :=
  let s := fSign a != fSign b
  if fIsNaN a || fIsNaN b then fNaN 2 a b
  else if fIsInf a || fIsInf b then (if fIsZero a || fIsZero b then fNaN 2 a b else fInf s)
  else fRound s (fMant a * fMant b) ((fExp a : Int) + fExp b - 300)

def fDiv (a b : W) : W :=
  let s := fSign a != fSign b
  if fIsNaN a || fIsNaN b then fNaN 3 a b
  else if fIsInf a then (if fIsInf b then fNaN 3 a b else fInf s)
  else if fIsInf b then fZero s
  else if fIsZero b then (if fIsZero a then fNaN 3 a b else fInf s)
  else
    let n := fMant a * 2 ^ 30
    let q := n / fMant b
    fRound s (2 * q + (if n % fMant b = 0 then 0 else 1)) ((fExp a : Int) - fExp b - 31)

/-- The integer square root of `n`, found bit by bit from bit `k - 1` down. -/
def isqrt (n : Nat) : Nat → Nat → Nat
  | 0, acc => acc
  | k + 1, acc =>
    let t := acc + 2 ^ k
    isqrt n k (if t * t ≤ n then t else acc)

def fSqrt (a : W) : W :=
  if fIsNaN a then fNaN 4 a a
  else if fIsZero a then fZero (fSign a)
  else if fSign a then fNaN 4 a a
  else if fIsInf a then a
  else
    let odd := (fExp a + 150) % 2
    let n := fMant a * 2 ^ (30 + odd)
    let r := isqrt n 32 0
    fRound false (2 * r + (if r * r = n then 0 else 1)) (((fExp a : Int) - 150 - 30 - odd) / 2 - 1)

/-- Comparisons: false for any NaN; a subnormal counts as zero and zeros of both signs are equal (R154, R372). -/
def fKey (x : W) : Int := if fExp x = 0 then 0 else if fSign x then -((x.toNat % 0x80000000 : Nat) : Int) else ((x.toNat % 0x80000000 : Nat) : Int)
def fLt (a b : W) : Bool := !(fIsNaN a) && !(fIsNaN b) && fKey a < fKey b
def fLe (a b : W) : Bool := !(fIsNaN a) && !(fIsNaN b) && fKey a ≤ fKey b
def fEq (a b : W) : Bool := !(fIsNaN a) && !(fIsNaN b) && fKey a = fKey b
def fGt (a b : W) : Bool := fLt b a
def fGe (a b : W) : Bool := fLe b a

/-- The smaller and the larger value where both are numbers (used where the rules say min or max). -/
def fMinN (a b : W) : W := if fLt b a then b else a
def fMaxN (a b : W) : W := if fLt a b then b else a

/-- Is the minimum or maximum of these operands left open? -/
def fMinMaxOpen (a b : W) : Bool :=
  fIsNaN a || fIsNaN b || (fIsZero a && fIsZero b && fSign a != fSign b)

def fMin (a b : W) : W := if fMinMaxOpen a b then Config.minMaxOpen 0 a b else fFlush (fMinN a b)
def fMax (a b : W) : W := if fMinMaxOpen a b then Config.minMaxOpen 1 a b else fFlush (fMaxN a b)

/-- The nearest binary32 value to an integer. -/
def fOfInt (i : Int) : W := fRoundI false i 0
def fOfNat (n : Nat) : W := fRound false n 0

/-- The nearest binary32 value to the ratio of an integer and a positive number. -/
def fOfRatio (n : Int) (d : Nat) : W :=
  if n = 0 ∨ d = 0 then fZero false
  else
    let a := n.natAbs * 2 ^ (32 + Nat.log2 d)
    let q := a / d
    fRound (n < 0) (2 * q + (if a % d = 0 then 0 else 1)) (-(33 + Nat.log2 d : Nat))

/-- The value of `m × 2 ^ e` rounded down. -/
def shiftFloor (m : Int) (e : Int) : Int :=
  if 0 ≤ e then m * 2 ^ e.toNat else m / 2 ^ (-e).toNat

/-- The exact product of a finite value and an integer, rounded down; 0 where the value is not finite. -/
def fFloorMul (x : W) (k : Int) : Int :=
  if fFinite x then shiftFloor (fMantI x * k) ((fExp x : Int) - 150) else 0

/-- The nearest integer, ties to even, to the exact product of a finite value and an integer. -/
def fNearMul (x : W) (k : Int) : Int :=
  let m := fMantI x * k
  let e := (fExp x : Int) - 150
  if !(fFinite x) then 0
  else if 0 ≤ e then m * 2 ^ e.toNat
  else
    let d : Int := 2 ^ (-e).toNat
    let q := m / d
    let r := m % d
    if 2 * r < d then q else if d < 2 * r then q + 1 else if q % 2 = 0 then q else q + 1

/-- FCVTWS: to the nearest integer, ties to even, saturating; 0 for a NaN (Table COR-6). -/
def fToInt32 (x : W) : W :=
  if fIsNaN x then 0
  else if fIsInf x then (if fSign x then 0x80000000#32 else 0x7FFFFFFF#32)
  else BitVec.ofInt 32 (clampI (-(2 ^ 31)) (2 ^ 31 - 1) (fNearMul x 1))

/-- A decimal constant `n / d` as the nearest binary32 value. -/
abbrev fC (n : Int) (d : Nat) : W := fOfRatio n d

def f0 : W := 0x00000000#32
def f1 : W := 0x3F800000#32

end Sys2Proof.Machine
end

