-- ==== Sys2Proof/Syntax.lean ====
section
/-! DEFINITION. The commands of the block: one constructor per row of the table of operations and events, with the
operands each needs: the instant `t` at which it happens, the instance it concerns, and the values that come from
outside (measured inputs, received bytes, a triad's write). Log entries 1 and 2 say what the operands stand for. -/

namespace Sys2Proof

/-- A frame on a bus or on the link. -/
structure Frame where
  id : Nat
  ide : Bool
  fdf : Bool
  brs : Bool
  rtr : Bool
  esi : Bool
  dlc : Nat
  data : List Byte
deriving DecidableEq, Repr, Inhabited

/-- The block of Table LNK-5 that ends a supercycle copy, by its fields (its byte layout is not in the source). -/
structure StateBlock where
  sc : Nat
  boundary : Time
  epoch : Time
  jepoch : Nat
  jpos : Nat
  /-- RED_FNSTATE of FN00–FN31 -/
  fns : List W
  /-- per AXU: θ̂, ω̂, ramp r, a and target, position phase, TRIES, LATCHED -/
  axus : List (List W)
  /-- per CVU: N_act, V_pv*, PLLOCK -/
  cvus : List (List W)
  /-- per charge channel: phase, reason, CHG_TEQ, CHG_TWALL, CHG_EBAT, CHG_ESOL, I_cut, qualification timers -/
  chgs : List (List W)
  /-- per leg: LEG_ACTA, LEG_ACTB, LEG_ACTSHIFT -/
  legs : List (List W)
  /-- per group: asserted, TRP_GFIRST -/
  trips : List (Bool × W)
deriving DecidableEq, Repr, Inhabited

/-- A link frame's content by TYPE (Table LNK-1). -/
inductive LinkMsg where
  | ack (upTo : Nat)
  | hb (role : Nat) (token : Bool) (stime : Time) (jepoch jpos sc sys : Nat) (warn : Bool)
  | release
  | fnstate (f : Nat) (w : W)
  | jrn (jpos kind que seq : Nat) (body : List Byte)
  | jack (jpos : Nat)
  | hello (dig0 dig1 epoch : W) (side : Bool) (jepoch jpos role sys : Nat) (tkEpoch : Option Time)
  /-- a mirror segment: its address and bytes -/
  | mir (addr : Nat) (data : List Byte)
  /-- the end of a copy: its supercycle number, CRC and state block -/
  | mirend (sc : Nat) (crc : W) (blk : StateBlock)
  | applied (sc : Nat)
  | session (data : List Byte)
  | queue (q : Nat) (f : Frame)
deriving DecidableEq, Repr, Inhabited


/-- The commands. -/
inductive Instr where
  /-- REGISTER_WRITE (R12): A write to a register that has no row of its own, applied under its access code and the configuration lock. -/
  | registerWrite (t : Time) (triad : Fin 4) (a : Nat) (v : W)
  /-- UNMAPPED_ACCESS (R13): A read or write of an unassigned peripheral offset reads zero or has no effect, and records 0x0109. -/
  | unmappedAccess (t : Time) (triad : Fin 4) (a : Nat) (write : Bool)
  /-- REF_QUALIFIED (R49): After 4,096 REF cycles within ±0.5 % of the internal reference, the monitor sets TKP_STAT.REF_OK. -/
  | refQualified (t : Time) (dev : Int)
  /-- REF_QUAL_TIMEOUT (R49): If REF is not qualified 20 ms after reset release, REF_FAIL is set, 0x0301 is recorded once, and the module stays in RESET. -/
  | refQualTimeout (t : Time) (dev : Int)
  /-- REF_FAIL (R30): After qualification, a REF that shows no edge for 200 ns or deviates for 1 µs latches REF_FAIL and moves STIME to the internal oscillator (RC_MODE). -/
  | refFail (t : Time) (noEdge : Bool) (dev : Int)
  /-- STIME_LO_READ (R32): A read of TKP_STIME_LO latches the upper STIME word for the reading triad. -/
  | stimeLoRead (t : Time) (triad : Fin 4)
  /-- SLOT_FIRE (R34): An enabled schedule slot reaches EPOCH + PHS + k × PER and triggers its targets. -/
  | slotFire (t : Time) (n : Fin 64) (upset : List (Fin 48)) (pads : List (Fin 48 × Int × Int))
  /-- SLOTEN_WRITE (R37): A T0 write of TKP_SLOTEN0 or TKP_SLOTEN1 enables or disables slots; SLOT63 stays enabled. -/
  | slotenWrite (t : Time) (triad : Fin 4) (hi : Bool) (v : W)
  /-- VCORE_SCALING_START (R39): One second after READY, SUP may begin lowering VCORE from 0.80 V. -/
  | vcoreScalingStart (t : Time)
  /-- VCORE_WINDOW_END (R39): At the end of each 10 ms window with ample slack and NORMAL thermal level, VCORE is lowered by 5 mV down to 0.72 V. -/
  | vcoreWindowEnd (t : Time)
  /-- RTC_OSC_FAIL (R43): A powered calendar oscillator that stops for 2 ms sets RTC_STAT.OSCF, holds RTC_SEC and records 0x0402. -/
  | rtcOscFail (t : Time)
  /-- VBKUP_LOSS (R43): VBKUP falls below 1.8 V while both feeds are absent, so the calendar and backup registers count as lost. -/
  | vbkupLoss (t : Time)
  /-- RTC_SETSEC_WRITE (R44): An authenticated, audited write of RTC_SETSEC arms a load of the calendar. -/
  | rtcSetsecWrite (t : Time) (sid : Nat) (v : W) (audits : Bool)
  /-- RTC_LOAD (R44): At the next 1 s boundary RTC_SEC takes RTC_SETSEC, RTC_SUB and LOST are cleared, and 0x0403 is recorded. -/
  | rtcLoad (t : Time)
  /-- RTC_CAP_GO (R45): A write of RTC_CAP.GO starts a capture of RTC_SEC, RTC_SUB and STIME; a new GO before DONE is ignored. -/
  | rtcCapGo (t : Time) (v : W)
  /-- RTC_CAPTURE_DONE (R45): The capture completes and sets RTC_CAP.DONE within 62 µs. -/
  | rtcCaptureDone (t : Time) (edge : Time)
  /-- RTC_SUB_READ (R45): A read of RTC_SUB latches RTC_SEC for the reading triad. -/
  | rtcSubRead (t : Time) (triad : Fin 4)
  /-- FEED_WIRED (R429): A feed that has stood above 3.0 V for 1 ms at power-up counts as wired. -/
  | feedWired (t : Time) (f : Fin 2) (va vb : Nat)
  /-- FEEDS_VALID (R429): Every wired feed has stood above 7.4 V; the supply die starts the rails toward power-on reset release. -/
  | feedsValid (t : Time) (va vb : Nat)
  /-- FEED_MISSING (R429): A wired feed still below 7.4 V 100 ms after the first feed reached it is left out of feeds valid, and 0x0208 is recorded. -/
  | feedMissing (t : Time) (f : Fin 2) (va vb : Nat)
  /-- POR_RELEASE (R435): Power-on reset is released at feeds valid, the boot ROM starts on T0, and SUP records 0x0207 with the last reset cause. -/
  | porRelease (t : Time) (cycles va vb : Nat)
  /-- FLASH_PROBE (R51): Once REF_OK is 1, the flash is reset, SFDP is read and the 8D-8D-8D or 1S-4S-4S mode is selected and trained. -/
  | flashProbe (t : Time) (mode : Fin 3)
  /-- HEADER_CHECK (R55): Both slot headers are read and checked, and the good header with the higher generation becomes the first candidate. -/
  | headerCheck (t : Time) (okA okB : Bool)
  /-- BODY_READ_DONE (R54): The candidate body has been read into shared SRAM and its SHA-256 is compared with BODY_SHA. -/
  | bodyReadDone (t : Time)
  /-- SIGNATURE_VERIFY (R54): Verification of the image signature and of every PROG signature completes. -/
  | signatureVerify (t : Time)
  /-- FIRST_PASS (R65): The first pass checks every record against structure and binding rules and writes nothing. -/
  | firstPass (t : Time)
  /-- SECOND_PASS (R65): APPLY writes the records into the blocks in image order, with SPLIT taking effect first. -/
  | secondPass (t : Time) (side okA okB : Bool)
  /-- THIRD_PASS (R65): The applied state is read back and checked, including every APPLY_CHECK rule. -/
  | thirdPass (t : Time)
  /-- START_CALIBRATION (R48): TEST completes delay-line, converter and DAC calibration and the engine and core self-tests; failing resources become Gales. -/
  | startCalibration (t : Time) (fails : List (Nat × Nat × Nat))
  /-- JOURNAL_RECOVERY (R357): The journal is read from the tail; a torn head record is discarded, corrupt records are skipped, and pending work is re-queued. -/
  | journalRecovery (t : Time) (bad : List Nat)
  /-- CONFIG_LOCK (R68): At the lock step of TEST, SYS_BOOT.LOCKED is set and CL registers become protected. -/
  | configLock (t : Time)
  /-- START_RESUME (R50): After the feeds have stood 5 ms above warning plus 0.4 V, start-up resumes at PROBE. -/
  | startResume (t : Time)
  /-- RUN (R47): A T0 write of SYS_CTRL.RUN latches TKP_EPOCH and moves the module from READY to RUN, so slots begin firing. -/
  | run (t : Time) (triad : Fin 4)
  /-- SYS_CTRL_RESTART (R71): A write of SYS_CTRL.RESTART with KEY 0xA5 from T0 persists pending cullet entries and restarts the module at PROBE. -/
  | sysCtrlRestart (t : Time) (triad : Fin 4) (key : Nat)
  /-- SLOT_WRITE_CHECK (R70): The background first-pass check of a newly written slot completes and records 0x010D. -/
  | slotWriteCheck (t : Time)
  /-- LEG_PARITY_ERROR (R84): A parity error at the use of a protected leg setting turns GH and GL off for the rest of the period. -/
  | legParityError (t : Time) (n : Fin 48)
  /-- LEG_SHA_WRITE (R78): A core write of LEG_SHA or LEG_SHB is held for a core-sourced solenoid leg and otherwise ignored. -/
  | legShaWrite (t : Time) (triad : Fin 4) (n : Fin 48) (b : Bool) (v : W)
  /-- LEG_SHIFT_WRITE (R78): A core write of LEG_SHIFT with SRC 0x3 commits SHA, SHB and the shifts as one set for the next boundary. -/
  | legShiftWrite (t : Time) (triad : Fin 4) (n : Fin 48) (v : W)
  /-- LINE_CAL_DONE (R81): A background calibration of a delay line against REF completes. -/
  | lineCalDone (t : Time) (n : Fin 48) (gl : Bool) (resid : Int) (mono : Bool) (span : Nat)
  /-- CAL_AGED (R83): An active line older than 4 ms sets CAL_AGED and records 0x1002. -/
  | calAged (t : Time) (n : Fin 48) (gl : Bool)
  /-- LINE_AGE_LIMIT (R83): An active line that reaches 20 ms of age is a Gale that retires the leg. -/
  | lineAgeLimit (t : Time) (n : Fin 48) (gl : Bool)
  /-- GL_POLL (R92): Once per POLL period, the token holder sends STATUS_READ to each configured driver address. -/
  | glPoll (t : Time) (n : Fin 48)
  /-- GL_RESPONSE (R91): A driver response frame is received, classified as good or FRAME, and applied to LEG_GLSTAT and LEG_FLT. -/
  | glResponse (t : Time) (n : Fin 48) (bytes : List Byte) (late : Bool)
  /-- GL_NOACK (R91): No response preamble arrives by 1,280 ns, so the transaction is NOACK. -/
  | glNoack (t : Time) (n : Fin 48)
  /-- GL_FAULT_PULL (R93): A status pair held below −150 mV for 30 ns reaches the trip matrix, sets PULL, stops polling and records 0x1006. -/
  | glFaultPull (t : Time) (n : Fin 48)
  /-- ENABLE_SEQUENCE_DONE (R95): The enable sequence finishes, and the transmitters drive the first committed set at the next boundary. -/
  | enableSequenceDone (t : Time) (n : Fin 48) (errGH errGL : Int)
  /-- GL_CONTENTION (R99): A driven level that disagrees with the module's own receiver for over 20 ns releases the token and records 0x1008. -/
  | glContention (t : Time) (n : Fin 48)
  /-- GL_REQUEST (R100): A T0 write of LEG_GLREQ with GO queues one status transaction, or refuses it with ERR. -/
  | glRequest (t : Time) (triad : Fin 4) (n : Fin 48) (v : W)
  /-- ADC_SPARE_CAL_DONE (R103): The spare converter completes its self-calibration and becomes ready to swap. -/
  | adcSpareCalDone (t : Time) (ofs : Int) (gain : Nat) (inl : Int)
  /-- ADC_SWAP_CHECK (R104): In a gap of at least 400 ns, both converters convert input 125, and the spare takes the slot if the codes agree. -/
  | adcSwapCheck (t : Time) (k : Fin 8) (outgoing incoming : Int)
  /-- SWAP_DEFERRED (R105): A slot without a gap for 10 ms defers the swap and records 0x1305. -/
  | swapDeferred (t : Time) (k : Fin 8)
  /-- ADC_CAL_AGED (R105): A converter whose calibration reaches 200 ms of age sets ADC_CALAGE.AGED. -/
  | adcCalAged (t : Time) (n : Fin 9)
  /-- ADC_SEQGO_WRITE (R111): A write of ADC_SEQGO triggers the sequences whose bits are set. -/
  | adcSeqgoWrite (t : Time) (v : W)
  /-- ADC_GROUP_START (R113): A waiting group starts once every slot it names is free, in priority order. -/
  | adcGroupStart (t : Time) (q : Fin 32)
  /-- ADC_CONVERSION_DONE (R117): A conversion delivers its result word to ADC_RES and forwards it on the deadline path. -/
  | adcConversionDone (t : Time) (k : Fin 8) (nv : Int) (high : Bool)
  /-- ADC_URGREQ_WRITE (R115): A triad's write of ADC_URGREQ with GO is checked and queued as an urgent conversion. -/
  | adcUrgreqWrite (t : Time) (triad : Fin 4) (k : Fin 8) (v : W)
  /-- ADC_URGENT_START (R114): A queued urgent conversion starts once the slot is free and it fits before the next scheduled acquisition. -/
  | adcUrgentStart (t : Time) (k : Fin 8)
  /-- ADC_POWER_DOWN (R116): A converter without a conversion for IDLE µs powers down. -/
  | adcPowerDown (t : Time) (n : Fin 9)
  /-- ADC_WAKE (R116): A powered-down converter wakes 400 ns before an announced scheduled acquisition. -/
  | adcWake (t : Time) (n : Fin 9)
  /-- DSM_WINDOW_RESULT (R124): After N bits the window's filter result is delivered with the stamp of the window centre. -/
  | dsmWindowResult (t : Time) (n : Fin 32) (y : Int)
  /-- DSM_CONT_OUTPUT (R125): In CONT mode, an output is delivered every R clock periods. -/
  | dsmContOutput (t : Time) (n : Fin 32) (y : Int)
  /-- DSM_FAST_OUTPUT (R126): Every 8 clock periods the fast sinc2 path produces an output, which is checked against OCHI and OCLO. -/
  | dsmFastOutput (t : Time) (n : Fin 32) (y : Int)
  /-- DSM_STUCK (R127): 128 equal bits in a row set STUCK and record the Gust 0x1402. -/
  | dsmStuck (t : Time) (n : Fin 32) (stuck : Bool)
  /-- CMP_TRIP (R132): M of the last N window samples are beyond, so a NORMAL window becomes TRIPPED. -/
  | cmpTrip (t : Time) (n : Fin 64) (news : List (Bool × Bool))
  /-- CMP_NORMAL (R132): M samples not beyond the release thresholds return a TRIPPED window to NORMAL. -/
  | cmpNormal (t : Time) (n : Fin 64) (news : List (Bool × Bool))
  /-- CMP_TEST_TICK (R136): Every 1,024th sample, the window tests one side against a level 30 mV beyond or inside its reference. -/
  | cmpTestTick (t : Time) (n : Fin 64) (failed : Bool)
  /-- CMP_DAC_REREAD (R138): A mismatched DAC is reread as soon as a converter can convert input 96, at the latest 1 ms later. -/
  | cmpDacReread (t : Time) (n : Fin 64) (err : Int)
  /-- CMP_DEGRADED_READ (R140): Each millisecond the Gaffer reads the degraded window's AIN by urgent conversion and applies its thresholds and filter. -/
  | cmpDegradedRead (t : Time) (n : Fin 64) (code : Nat)
  /-- TRIP_IN_ASSERT (R147): A TRIP_IN land held low for its filter time asserts its trip source. -/
  | tripInAssert (t : Time) (i : Fin 4)
  /-- TRP_SWTRIP_WRITE (R147): A T0 write of TRP_SWTRIP sets or clears the software trip source of groups. -/
  | trpSwtripWrite (t : Time) (triad : Fin 4) (v : W)
  /-- TRP_REL_WRITE (R144): A T0 write of TRP_REL releases the named groups if their source condition is false. -/
  | trpRelWrite (t : Time) (triad : Fin 4) (v : W)
  /-- AUTO_RELEASE (R144): After RELDLY µs of false source condition, an AUTOREL group releases itself within its rate limit. -/
  | autoRelease (t : Time) (g : Fin 16)
  /-- CEN_GO_WRITE (R163): A write of CEN_GO triggers the named cascades whose TRIG is CORE. -/
  | cenGoWrite (t : Time) (p : Fin 16) (v : W)
  /-- CEN_ACTIVATION_START (R21): A pending activation starts when the engine pair is free, the earlier deadline first. -/
  | cenActivationStart (t : Time) (i : Fin 64) (differ : Bool)
  /-- CEN_AGREEMENT (R166): Final output agreement is reached; outputs are delivered, the slack is reported and the signatures are compared. -/
  | cenAgreement (t : Time) (i : Fin 64) (sigDiffer : Bool)
  /-- LATENT_REEXECUTION (R174): The re-execution ends; matching results record the latent Gust 0x1205, others restart the pair. -/
  | latentReexecution (t : Time) (p : Fin 16) (same : Bool)
  /-- CEN_RESTART_DONE (R175): The pair restart ends with a known-answer section, and the pair accepts triggers and records 0x1204. -/
  | cenRestartDone (t : Time) (p : Fin 16) (known : Bool)
  /-- CEN_DEADLINE_MISS (R167): At the deadline instant without agreement, the activation is withdrawn or ended and the previous output is held. -/
  | cenDeadlineMiss (t : Time) (i : Fin 64)
  /-- CEN_SELFTEST (R177): Every STPER ms an engine runs a known-answer test section in an idle gap. -/
  | cenSelftest (t : Time) (p : Fin 16) (fail0 fail1 : Bool)
  /-- SELFTEST_DEFERRED (R177): A self-test not completed within 10 × STPER ms sets DEFERRED and records 0x120B. -/
  | selftestDeferred (t : Time) (p : Fin 16)
  /-- AXU_FORWARD_PASS (R182): Once every current role has delivered for the period, the unit transforms, steps position and delivers producer words. -/
  | axuForwardPass (t : Time) (u : Fin 16)
  /-- AXU_INVERSE_STAGE (R189): An agreed engine delivery drives the limit, modulation, compensation and window rule to new leg values. -/
  | axuInverseStage (t : Time) (u : Fin 16)
  /-- MEASURE_DONE (R213): After MEASN periods the terminal-voltage fit gives θ and ω, and the unit catches, converges, tracks or refuses the start. -/
  | measureDone (t : Time) (u : Fin 16)
  /-- POLARITY_TEST_DONE (R216): At the end of a 4 × POLN period test, the polarity is decided, the test repeats, or the attempt fails. -/
  | polarityTestDone (t : Time) (u : Fin 16)
  /-- REACQUIRE_ATTEMPT (R220): RETRYDLY ms after a loss or failure, a reacquisition attempt begins through MEASURE_ASC or MEASURE. -/
  | reacquireAttempt (t : Time) (u : Fin 16)
  /-- TRACK_SECOND (R220): One second in TRACK clears TRIES. -/
  | trackSecond (t : Time) (u : Fin 16)
  /-- HALL_EDGE (R209): A filtered Hall edge sets the sensor angle to the sector boundary and updates the Hall speed. -/
  | hallEdge (t : Time) (u : Fin 16) (n : Fin 24)
  /-- HALL_TIMEOUT (R209): No Hall edge within twice the last interval or 100 ms sets the Hall speed to 0 and the angle to the sector centre. -/
  | hallTimeout (t : Time) (u : Fin 16)
  /-- SENT_FRAME (R231): A SENT fast-channel frame is received, its tick and CRC are checked, and D1, D2 and the stamp are updated. -/
  | sentFrame (t : Time) (m : Fin 8) (sync : Nat) (status : Fin 16) (nibs : List Nat) (crc : Nat) (tf : Time)
  /-- GIO_EDGE (R230): A filtered input edge is stamped and sets GIO_EDGE, and may trigger an ADC sequence. -/
  | gioEdge (t : Time) (n : Fin 24) (high : Bool) (stamp : Time)
  /-- CVU_FORWARD_PASS (R234): With its required inputs present, the unit scales them, runs the grid PLL and delivers producer words 0–15. -/
  | cvuForwardPass (t : Time) (u : Fin 8)
  /-- CVU_INVERSE_STAGE (R235): The engine command is turned into interleaved, DAB, PFC or current-mode instants and committed. -/
  | cvuInverseStage (t : Time) (u : Fin 8)
  /-- CVU_PHASE_DECISION (R237): At the end of each PHDLY interval, N_act rises or falls by one, and 0x1906 is recorded. -/
  | cvuPhaseDecision (t : Time) (u : Fin 8)
  /-- CVU_CM_PULSE_END (R238): The first beyond sample of a sense window after blanking ends the upper interval. -/
  | cvuCmPulseEnd (t : Time) (u : Fin 8) (p : Fin 8)
  /-- GRID_LOST (R241): A PLL error over 0.2 for 10 ms loses lock, parks the legs and records 0x1907. -/
  | gridLost (t : Time) (u : Fin 8)
  /-- CVU_UNPARK (R241): A PFC unit named by no CHARGE record unparks 100 ms after relock. -/
  | cvuUnpark (t : Time) (u : Fin 8)
  /-- CHG_STEP (R246): Each millisecond the charge channel evaluates faults, STOP, hand-over, suspension and phase exits, and writes I_set and V_set. -/
  | chgStep (t : Time) (c : Fin 2)
  /-- CHG_START (R246): A write of CHG_CTRL.START leads a channel from IDLE to QUALIFY. -/
  | chgStart (t : Time) (c : Fin 2)
  /-- CHG_STOP (R246): A write of CHG_CTRL.STOP leads the channel to IDLE, deferred during HANDOVER. -/
  | chgStop (t : Time) (c : Fin 2)
  /-- CHG_ACK (R251): A session write of CHG_ACK leaves FAULT for IDLE and records 0x1707. -/
  | chgAck (t : Time) (sid : Nat) (c : Fin 2)
  /-- HANDOVER_COMPLETE (R253): The ramp of the lost source's stages ends, they are parked, and 0x1704 is recorded. -/
  | handoverComplete (t : Time) (c : Fin 2)
  /-- MPPT_UPDATE (R254): Every MPPT_PER ms the tracker moves the panel reference by one step. -/
  | mpptUpdate (t : Time) (c : Fin 2)
  /-- LAMP_FAULT (R255): A lamp short or open is detected; a short switches the lamp off; 0x1708 is recorded. -/
  | lampFault (t : Time) (c : Fin 2) (short : Bool)
  /-- LAMP_RETRY (R255): Once per second a lamp that was turned off by a short is tried again. -/
  | lampRetry (t : Time) (c : Fin 2)
  /-- CHG_LAMP_WRITE (R255): A T0 write of CHG_LAMP forces a pattern or returns the lamp to the phase pattern. -/
  | chgLampWrite (t : Time) (triad : Fin 4) (c : Fin 2) (v : W)
  /-- TRIAD_MINORITY (R269): A third copy that differs or arrives late is halted, charged a Gust and rebuilt while two copies continue. -/
  | triadMinority (t : Time) (k : Fin 4) (c : Fin 3)
  /-- TRIAD_RESYNC (R269): The minority core's rebuild completes, the signatures agree and 0x2502 is recorded. -/
  | triadResync (t : Time) (k : Fin 4)
  /-- TRIAD_CHECKPOINT (R268): CKPER expiry or a log reaching 75 % fill takes a triad checkpoint and compares signatures. -/
  | triadCheckpoint (t : Time) (k : Fin 4) (minority : Option (Fin 3)) (split : Bool)
  /-- TRIAD_RESTART (R271): A disagreement in dual comparison withholds the effect and restarts the triad from its checkpoint. -/
  | triadRestart (t : Time) (k : Fin 4) (kat : List (Fin 3))
  /-- REPLAY_DONE (R272): Replay reaches the withheld effect and normal execution resumes. -/
  | replayDone (t : Time) (k : Fin 4)
  /-- GUST_DECAY (R274): At every 10 s tick each non-zero Gust COUNT decays by one. -/
  | gustDecay (t : Time)
  /-- CULLET_PERSIST (R277): A new cullet entry is written to both MRAM copies within 1 ms of its Gale. -/
  | culletPersist (t : Time)
  /-- FNCMD_ENTER (R287): The Gaffer's ENTER command puts a function into a safe state, subject to the first-command rule. -/
  | fncmdEnter (t : Time) (triad : Fin 4) (all : Bool) (f : Fin 32) (st : Fin 8) (cause : Fin 65536)
  /-- FNCMD_ENABLE (R288): The Gaffer's ENABLE command enables a function that meets every enable condition. -/
  | fncmdEnable (t : Time) (triad : Fin 4) (all : Bool) (f : Fin 32)
  /-- FNCMD_DISABLE (R456): The Gaffer's DISABLE command stops a function while its legs stay driven off and polled. -/
  | fncmdDisable (t : Time) (triad : Fin 4) (all : Bool) (f : Fin 32)
  /-- FNCMD_ACK (R288): The Gaffer's ACK command clears LATCHED after an authorised acknowledgement. -/
  | fncmdAck (t : Time) (triad : Fin 4) (all : Bool) (f : Fin 32)
  /-- FNREQ_ENABLE (R289): A program's enable request through RED_FNREQ records 0x2511 for the Gaffer. -/
  | fnreqEnable (t : Time) (f : Fin 32) (st : Fin 8)
  /-- FNREQ_DISABLE (R289): A program's disable request through RED_FNREQ records 0x2511 for the Gaffer. -/
  | fnreqDisable (t : Time) (f : Fin 32) (st : Fin 8)
  /-- FNREQ_SAFE (R289): A program's safe-state request with a STATE code records 0x2511 for the Gaffer to grant or refuse. -/
  | fnreqSafe (t : Time) (f : Fin 32) (st : Fin 8)
  /-- BRAKE_TIMEOUT (R285): After BRKTIME ms in BRAKE, the function passes from ASC_LOW to OFF and sets BRKOFF. -/
  | brakeTimeout (t : Time) (f : Fin 32)
  /-- T0_KICK (R290): A T0 write of 0xC3 to RED_T0KICK restarts the 2 ms kick interval. -/
  | t0Kick (t : Time) (triad : Fin 4) (v : W)
  /-- T0_KICK_MISSED (R290): No kick for 2 ms makes RED the deputy, records 0x2510 and restarts T0 from its checkpoint. -/
  | t0KickMissed (t : Time)
  /-- WDG_KICK (R291): A kick of a windowed watchdog by its owner triad, or a miss if it comes before OPEN. -/
  | wdgKick (t : Time) (triad : Fin 4) (n : Fin 16) (v : W)
  /-- WDG_MISS (R291): No kick by CLOSE records 0x2509 and brings the safe state of the functions in RED_WDGFN. -/
  | wdgMiss (t : Time) (n : Fin 16)
  /-- SAFEQ_READ (R371): A read of COR_SAFEQ returns and removes the oldest safety-queue entry. -/
  | safeqRead (t : Time)
  /-- TOKEN_WIRE (R295): A holder that reads no edge on its own DRV_TOKEN_OUT for 2 µs releases the token and records 0x230A. -/
  | tokenWire (t : Time)
  /-- PEER_TOKEN_LOST (R295): DRV_TOKEN_IN shows no edge for 2 µs, so the partner no longer holds the token. -/
  | peerTokenLost (t : Time)
  /-- TOKEN_RACE (R296): A holder that sees partner edges releases the token if it is side 1, and both record 0x230B. -/
  | tokenRace (t : Time)
  /-- HB_SEND (R297): Every 10 µs the module sends a heartbeat frame over the Ciwin link. -/
  | hbSend (t : Time)
  /-- HB_RECEIVED (R299): A received heartbeat renews the partner STIME offset and the partner's state. -/
  | hbReceived (t : Time) (seq role : Nat) (tok : Bool) (stime : Time) (jepoch jpos sys : Nat) (warn : Bool)
  /-- LINK_ACK (R297): A cumulative link acknowledgement frees the acknowledged frames. -/
  | linkAck (t : Time) (upTo : Nat)
  /-- LINK_RESEND (R297): A frame not acknowledged in 5 µs is resent; the eighth send declares the link down. -/
  | linkResend (t : Time)
  /-- LINK_TRAINED (R298): Link training completes on four lanes or a good pair, and 0x2301 is recorded. -/
  | linkTrained (t : Time) (lanes latency : Nat)
  /-- LINK_RETRAIN (R298): Every 100 ms a down link retries training. -/
  | linkRetrain (t : Time)
  /-- LANE_DEGRADED (R298): A lane with more than 16 code errors in 1 ms is dropped, the link runs on half its lanes and 0x230D is recorded. -/
  | laneDegraded (t : Time) (lane : Fin 4) (errs : Nat)
  /-- RETRAIN (R298): A T0 write of LNK_CTRL.RETRAIN retrains the link now. -/
  | retrain (t : Time) (triad : Fin 4) (v : W)
  /-- HELLO_RECEIVED (R301): The partner's HELLO is received and each module decides its role. -/
  | helloReceived (t : Time) (seq : Nat) (dig0 dig1 epoch : W) (side : Bool) (jepoch jpos role sys : Nat) (tkEpoch : Option Time)
  /-- SOLO_CLAIM (R302): A paired module without a link claims the token after SOLOWAIT without partner edges and enters ALONE. -/
  | soloClaim (t : Time)
  /-- FNSTATE_RECEIVED (R304): A partner's FNSTATE frame updates the mirrored state of one function. -/
  | fnstateReceived (t : Time) (seq : Nat) (f : Fin 32) (v : W)
  /-- JRN_RECEIVED (R305): The partner commits a mirrored journal record to its MRAM and answers JACK. -/
  | jrnReceived (t : Time) (seq jpos kind que eseq : Nat) (body : List Byte)
  /-- JACK_RECEIVED (R305): JACK completes the mirrored acceptance of a journal record. -/
  | jackReceived (t : Time) (seq jp : Nat)
  /-- JACK_TIMEOUT (R305): No JACK within JTO marks the record LOCAL, enters ALONE and records 0x2309. -/
  | jackTimeout (t : Time)
  /-- MIR_RECEIVED (R308): A mirror segment is staged in the partner's staging buffer. -/
  | mirReceived (t : Time) (seq addr : Nat) (bytes : List Byte)
  /-- MIREND_RECEIVED (R308): MIREND's CRC is checked, and a whole copy starts being written to its addresses; a bad copy is discarded. -/
  | mirendReceived (t : Time) (seq sc : Nat) (good : Bool) (blk : StateBlock)
  /-- MIRROR_APPLIED (R308): The staged copy is written to its addresses and APPLIED is sent. -/
  | mirrorApplied (t : Time)
  /-- APPLIED_RECEIVED (R311): During a planned yield, APPLIED lets the active module release the token, send RELEASE and enter SYNCING. -/
  | appliedReceived (t : Time) (seq sc : Nat)
  /-- RELEASE_RECEIVED (R309): A STANDBY module that receives RELEASE takes over without waiting for the heartbeat. -/
  | releaseReceived (t : Time) (seq : Nat)
  /-- HB_LOSS (R309): No heartbeat for HBLOSS × 10 µs while the partner's token is also absent. -/
  | hbLoss (t : Time)
  /-- YIELD (R311): A T0 write of LNK_CTRL.YIELD begins a planned hand-over, or is refused with 0x2310. -/
  | yield (t : Time) (triad : Fin 4) (v : W)
  /-- LINK_QUEUE_FRAME (R297): A QUEUE frame of a queue or route bound to the link is received and taken into its queue. -/
  | linkQueueFrame (t : Time) (seq : Nat) (q : Fin 32) (fr : Frame)
  /-- BUS_FRAME_RECEIVED (R322): A frame received without error is stamped, offered to the filters, and stored in its queue or discarded. -/
  | busFrameReceived (t : Time) (n : Fin 6) (fr : Frame) (sof : Time)
  /-- BUS_TX_START (R328): The port chooses the winning queue head and drives start-of-frame. -/
  | busTxStart (t : Time) (n : Fin 6) (sof : Time)
  /-- ARBITRATION_LOST (R328): A frame that loses arbitration stays at its queue head without consuming a retry. -/
  | arbitrationLost (t : Time) (n : Fin 6)
  /-- BUS_TX_COMPLETE (R327): A transmitted frame completes SENT, its descriptor is written and QUE_RD advances. -/
  | busTxComplete (t : Time) (n : Fin 6) (tdc : Nat)
  /-- BUS_TX_ERROR (R329): An attempt ending in an error frame or without acknowledgement increments ATTEMPTS and updates the error counters. -/
  | busTxError (t : Time) (n : Fin 6) (code : Fin 8) (dataPhase exempt : Bool)
  /-- BUS_RECOVERED (R334): 128 sequences of 11 recessive bits clear the counters, return the port to error-active and record 0x2003. -/
  | busRecovered (t : Time) (n : Fin 6)
  /-- BUS_RECOVER (R334): A write of BUS_CTRL.RECOVER starts bus-off recovery even at the limit. -/
  | busRecover (t : Time) (n : Fin 6) (v : W)
  /-- ABD_DWELL (R321): The end of a DWELL interval moves rate detection to the next candidate rate. -/
  | abdDwell (t : Time) (n : Fin 6)
  /-- QUE_EXPIRED (R331): A plain head entry past its lifetime is completed EXPIRED and removed. -/
  | queExpired (t : Time) (q : Fin 32)
  /-- QUE_CANCEL (R335): A write of QUE_CANCEL removes, late-cancels or refuses a pending transmit entry and sets QUE_CANRES. -/
  | queCancel (t : Time) (q : Fin 32) (v : W)
  /-- QUE_INDEX_WRITE (R326): A direct core write of QUE_WR or QUE_RD moves an owned index, or is refused with BADIDX. -/
  | queIndexWrite (t : Time) (triad : Fin 4) (q : Fin 32) (rdIx : Bool) (v : W)
  /-- SIG_MAPTX (R344): A write of SIG_MAPTX builds a frame from the map's signals and posts it to its queue. -/
  | sigMaptx (t : Time) (v : W)
  /-- PUBLISH_ROUND (R347): Every PUBPER ms, SIG broadcasts PUBLISH frames of the PUB entries written since the last round. -/
  | publishRound (t : Time)
  /-- PUBLISH_RECEIVED (R347): Received publication items are written to local SUB entries as one group. -/
  | publishReceived (t : Time) (q : Fin 32)
  /-- COMMAND_RECEIVED (R351): A domain COMMAND is checked, deduplicated, journalled, stored and answered with a REPLY. -/
  | commandReceived (t : Time) (q : Fin 32)
  /-- REPLY_RECEIVED (R350): A REPLY moves an awaiting assured COMMAND to DONE, INVALID or back to contention. -/
  | replyReceived (t : Time) (q : Fin 32)
  /-- REPLYTO_EXPIRED (R350): No REPLY within REPLYTO returns the COMMAND to ACCEPTED to contend again. -/
  | replytoExpired (t : Time) (q : Fin 32)
  /-- DOMAIN_HEARTBEAT (R358): At its 1 s offset, the module sends HEARTBEAT to the root. -/
  | domainHeartbeat (t : Time)
  /-- HEARTBEAT_RECEIVED (R358): A root or gateway counts a device's HEARTBEAT for agreement. -/
  | heartbeatReceived (t : Time) (q : Fin 32)
  /-- AGGREGATE_SEND (R358): At the end of each 1 s window a gateway sends one AGGREGATE to the root. -/
  | aggregateSend (t : Time)
  /-- AGGREGATE_RECEIVED (R358): The root adds an AGGREGATE's counts and dissenters to its window. -/
  | aggregateReceived (t : Time) (q : Fin 32)
  /-- ANNOUNCE_SEND (R358): At each 1 s step, the root broadcasts ANNOUNCE with the domain epoch. -/
  | announceSend (t : Time)
  /-- ANNOUNCE_RECEIVED (R359): Comparing its epoch with ANNOUNCE puts the module in AGREE or DISSENT and applies the DISSENT policy. -/
  | announceReceived (t : Time) (q : Fin 32)
  /-- ROOT_SILENT (R359): Without ANNOUNCE for 5 s the agreement state becomes UNKNOWN, and 0x2206 is recorded. -/
  | rootSilent (t : Time)
  /-- JOURNAL_COMMIT (R348): A journal record becomes durable in MRAM, making the work accepted. -/
  | journalCommit (t : Time)
  /-- EVENT_TAKEN (R368): A pending, enabled event line is taken: EPC and ESTAT are saved and the core vectors. -/
  | eventTaken (t : Time) (k : Fin 4)
  /-- COR_TIMER_FIRE (R367): A triad timer reaches EPOCH + TPHS + j × TPER and fires its line. -/
  | corTimerFire (t : Time) (k : Fin 4) (n : Fin 4)
  /-- COR_SWEV (R380): A write of COR_SWEV raises a software event line of the window's triad. -/
  | corSwev (t : Time) (w : Fin 4) (v : W)
  /-- AWAIT_WAKE (R375): A waiting AWAIT returns when a line in its masks becomes pending. -/
  | awaitWake (t : Time) (k : Fin 4)
  /-- ASSURED_QUEUE_COMPLETE (R373): An assured QPOST or QTAKE completes once its journal record is committed and mirrored. -/
  | assuredQueueComplete (t : Time) (k : Fin 4)
  /-- SYNC_COMPLETE (R376): SYNC completes when every earlier effect has acted and every copy has reached it. -/
  | syncComplete (t : Time) (k : Fin 4)
  /-- ADD (R365): Integer add of two registers. -/
  | add (k : Fin 4) (rd ra rb : Fin 32)
  /-- SUB (R365): Integer subtract of two registers. -/
  | sub (k : Fin 4) (rd ra rb : Fin 32)
  /-- AND (R365): Bitwise AND of two registers. -/
  | and_ (k : Fin 4) (rd ra rb : Fin 32)
  /-- OR (R365): Bitwise OR of two registers. -/
  | or_ (k : Fin 4) (rd ra rb : Fin 32)
  /-- XOR (R365): Bitwise XOR of two registers. -/
  | xor_ (k : Fin 4) (rd ra rb : Fin 32)
  /-- SHL (R365): Shift left by rb bits 4:0. -/
  | shl (k : Fin 4) (rd ra rb : Fin 32)
  /-- SHR (R365): Logical shift right by rb bits 4:0. -/
  | shr (k : Fin 4) (rd ra rb : Fin 32)
  /-- SAR (R365): Arithmetic shift right by rb bits 4:0. -/
  | sar (k : Fin 4) (rd ra rb : Fin 32)
  /-- ROT (R365): Rotate by rb bits 4:0. -/
  | rot (k : Fin 4) (rd ra rb : Fin 32)
  /-- SLT (R365): Signed set-less-than, giving 0 or 1. -/
  | slt (k : Fin 4) (rd ra rb : Fin 32)
  /-- SLTU (R365): Unsigned set-less-than, giving 0 or 1. -/
  | sltu (k : Fin 4) (rd ra rb : Fin 32)
  /-- MUL (R365): Low word of the product. -/
  | mul (k : Fin 4) (rd ra rb : Fin 32)
  /-- MULH (R365): High word of the signed 64-bit product. -/
  | mulh (k : Fin 4) (rd ra rb : Fin 32)
  /-- MULHU (R365): High word of the unsigned 64-bit product. -/
  | mulhu (k : Fin 4) (rd ra rb : Fin 32)
  /-- DIV (R365): Signed divide rounding toward zero; a zero divisor takes line 4. -/
  | div (k : Fin 4) (rd ra rb : Fin 32)
  /-- DIVU (R365): Unsigned divide; a zero divisor takes line 4. -/
  | divu (k : Fin 4) (rd ra rb : Fin 32)
  /-- REM (R365): Signed remainder; a zero divisor takes line 4. -/
  | rem (k : Fin 4) (rd ra rb : Fin 32)
  /-- REMU (R365): Unsigned remainder; a zero divisor takes line 4. -/
  | remu (k : Fin 4) (rd ra rb : Fin 32)
  /-- ADDI (R365): Add of a sign-extended immediate. -/
  | addi (k : Fin 4) (rd ra : Fin 32) (imm : BitVec 16)
  /-- ANDI (R365): AND with a zero-extended immediate. -/
  | andi (k : Fin 4) (rd ra : Fin 32) (imm : BitVec 16)
  /-- ORI (R365): OR with a zero-extended immediate. -/
  | ori (k : Fin 4) (rd ra : Fin 32) (imm : BitVec 16)
  /-- XORI (R365): XOR with a zero-extended immediate. -/
  | xori (k : Fin 4) (rd ra : Fin 32) (imm : BitVec 16)
  /-- SHLI (R365): Shift left by an immediate. -/
  | shli (k : Fin 4) (rd ra : Fin 32) (imm : BitVec 16)
  /-- SHRI (R365): Logical shift right by an immediate. -/
  | shri (k : Fin 4) (rd ra : Fin 32) (imm : BitVec 16)
  /-- SARI (R365): Arithmetic shift right by an immediate. -/
  | sari (k : Fin 4) (rd ra : Fin 32) (imm : BitVec 16)
  /-- SLTI (R365): Signed set-less-than against an immediate. -/
  | slti (k : Fin 4) (rd ra : Fin 32) (imm : BitVec 16)
  /-- SLTIU (R365): Unsigned set-less-than against an immediate. -/
  | sltiu (k : Fin 4) (rd ra : Fin 32) (imm : BitVec 16)
  /-- LUI (R365): Sets rd to imm16 shifted left by 16. -/
  | lui (k : Fin 4) (rd : Fin 32) (imm : BitVec 16)
  /-- LDB (R364): Load of a sign-extended byte. -/
  | ldb (k : Fin 4) (rd ra : Fin 32) (disp : BitVec 16)
  /-- LDBU (R364): Load of a zero-extended byte. -/
  | ldbu (k : Fin 4) (rd ra : Fin 32) (disp : BitVec 16)
  /-- LDH (R364): Load of a sign-extended, aligned halfword. -/
  | ldh (k : Fin 4) (rd ra : Fin 32) (disp : BitVec 16)
  /-- LDHU (R364): Load of a zero-extended, aligned halfword. -/
  | ldhu (k : Fin 4) (rd ra : Fin 32) (disp : BitVec 16)
  /-- LDW (R364): Load of an aligned word, voted and logged when external. -/
  | ldw (k : Fin 4) (rd ra : Fin 32) (disp : BitVec 16)
  /-- STB (R364): Voted store of a byte. -/
  | stb (k : Fin 4) (rs ra : Fin 32) (disp : BitVec 16)
  /-- STH (R364): Voted store of an aligned halfword. -/
  | sth (k : Fin 4) (rs ra : Fin 32) (disp : BitVec 16)
  /-- STW (R364): Voted store of an aligned word, including signal-table and mirror-region words. -/
  | stw (k : Fin 4) (rs ra : Fin 32) (disp : BitVec 16)
  /-- FLW (R364): Load of a word into a floating register. -/
  | flw (k : Fin 4) (rd ra : Fin 32) (disp : BitVec 16)
  /-- FSW (R364): Store of a floating register as a word. -/
  | fsw (k : Fin 4) (rs ra : Fin 32) (disp : BitVec 16)
  /-- SWAPW (R266): Atomic swap of a memory word as one effect. -/
  | swapw (k : Fin 4) (rd ra rb : Fin 32)
  /-- ADDW (R266): Atomic add to a memory word as one effect. -/
  | addw (k : Fin 4) (rd ra rb : Fin 32)
  /-- BEQ (R363): Branch if equal. -/
  | beq (k : Fin 4) (ra rb : Fin 32) (disp : BitVec 16)
  /-- BNE (R363): Branch if not equal. -/
  | bne (k : Fin 4) (ra rb : Fin 32) (disp : BitVec 16)
  /-- BLT (R363): Branch if signed less than. -/
  | blt (k : Fin 4) (ra rb : Fin 32) (disp : BitVec 16)
  /-- BGE (R363): Branch if signed greater or equal. -/
  | bge (k : Fin 4) (ra rb : Fin 32) (disp : BitVec 16)
  /-- BLTU (R363): Branch if unsigned less than. -/
  | bltu (k : Fin 4) (ra rb : Fin 32) (disp : BitVec 16)
  /-- BGEU (R363): Branch if unsigned greater or equal. -/
  | bgeu (k : Fin 4) (ra rb : Fin 32) (disp : BitVec 16)
  /-- J (R363): Jump to pc + 4 × disp26. -/
  | j (k : Fin 4) (disp : BitVec 26)
  /-- JAL (R363): Jump and write pc + 4 to w1. -/
  | jal (k : Fin 4) (disp : BitVec 26)
  /-- JALR (R363): Jump to ra + imm16, writing pc + 4 to rd. -/
  | jalr (k : Fin 4) (rd ra : Fin 32) (imm : BitVec 16)
  /-- FADD (R372): Binary32 add under R154 rounding and flushing. -/
  | fadd (k : Fin 4) (rd ra rb : Fin 32)
  /-- FSUB (R372): Binary32 subtract. -/
  | fsub (k : Fin 4) (rd ra rb : Fin 32)
  /-- FMUL (R372): Binary32 multiply. -/
  | fmul (k : Fin 4) (rd ra rb : Fin 32)
  /-- FDIV (R372): Correctly rounded binary32 divide. -/
  | fdiv (k : Fin 4) (rd ra rb : Fin 32)
  /-- FSQRT (R372): Correctly rounded binary32 square root. -/
  | fsqrt (k : Fin 4) (rd ra : Fin 32)
  /-- FMIN (R372): Binary32 minimum. -/
  | fmin (k : Fin 4) (rd ra rb : Fin 32)
  /-- FMAX (R372): Binary32 maximum. -/
  | fmax (k : Fin 4) (rd ra rb : Fin 32)
  /-- FEQ (R372): Floating compare equal, 0 for any NaN. -/
  | feq (k : Fin 4) (rd ra rb : Fin 32)
  /-- FLT (R372): Floating compare less than, 0 for any NaN. -/
  | flt (k : Fin 4) (rd ra rb : Fin 32)
  /-- FLE (R372): Floating compare less or equal, 0 for any NaN. -/
  | fle (k : Fin 4) (rd ra rb : Fin 32)
  /-- FCVTWS (R372): Binary32 to integer, ties to even, saturating; NaN gives 0. -/
  | fcvtws (k : Fin 4) (rd ra : Fin 32)
  /-- FCVTSW (R372): Integer to binary32. -/
  | fcvtsw (k : Fin 4) (rd ra : Fin 32)
  /-- FMVWS (R372): Moves floating-register bits to a general register. -/
  | fmvws (k : Fin 4) (rd ra : Fin 32)
  /-- FMVSW (R372): Moves general-register bits to a floating register. -/
  | fmvsw (k : Fin 4) (rd ra : Fin 32)
  /-- FABS (R372): Binary32 absolute value. -/
  | fabs (k : Fin 4) (rd ra : Fin 32)
  /-- FNEG (R372): Binary32 negation. -/
  | fneg (k : Fin 4) (rd ra : Fin 32)
  /-- TRAP (R368): Takes line 3 with the 10-bit code in EADDR. -/
  | trap (k : Fin 4) (code : BitVec 10)
  /-- RETE (R368): Restores STATUS from ESTAT and continues at EPC; privileged. -/
  | rete (k : Fin 4)
  /-- MFSR (R365): Reads a special register, privileged except ICNT, ICNTH and TRIAD. -/
  | mfsr (k : Fin 4) (rd sr : Fin 32)
  /-- MTSR (R365): Writes a special register; privileged; STATUS changes IE and FH only. -/
  | mtsr (k : Fin 4) (ra sr : Fin 32)
  /-- SIGRD (R339): Reads a signal's VALUE and STAMP from one instant. -/
  | sigrd (k : Fin 4) (rd ra : Fin 32)
  /-- SIGWR (R339): Writes a signal's VALUE with the triad as WRITER. -/
  | sigwr (k : Fin 4) (rd ra : Fin 32)
  /-- QPOST (R373): Posts a descriptor image to a queue and returns ACCEPT, LOCAL, FULL or BADQ. -/
  | qpost (k : Fin 4) (rd ra rb : Fin 32)
  /-- QTAKE (R374): Copies and removes a queue's head descriptor, or returns EMPTY or BADQ. -/
  | qtake (k : Fin 4) (rd ra rb : Fin 32)
  /-- AWAIT (R375): Returns the lowest pending line in its masks, or waits for one. -/
  | await (k : Fin 4) (rd ra rb : Fin 32)
  /-- CKPT (R268): Requests a triad checkpoint. -/
  | ckpt (k : Fin 4) (minority : Option (Fin 3)) (split : Bool)
  /-- SYNC (R376): Waits until all earlier effects have acted and every copy has arrived. -/
  | sync (k : Fin 4)
  /-- THM_DIE_SAMPLE (R384): At its cadence, the Lehr samples the die sensors, updates regions, level and pause depth, and k. -/
  | thmDieSample (t : Time) (rs : List (Option (Nat × Int)))
  /-- THM_NTC_SAMPLE (R384): At its cadence, an enabled NTC input is converted and its factor for the guarded functions is updated. -/
  | thmNtcSample (t : Time) (n : Fin 24) (r : Option Int)
  /-- K_RISE (R389): Each millisecond a rising current-limit factor increases by at most 0.01. -/
  | kRise (t : Time)
  /-- MARVER_ROUND (R397): A Marver round starts every MARVPER ms or at its kind-0x8 slot, and runs TDC, pad, DAC and rotation steps. -/
  | marverRound (t : Time) (reads : List (Fin 64 × Fin 2 × Int)) (us : Nat)
  /-- MARVER_LATE (R397): A round not complete within MARVPER records 0x2703. -/
  | marverLate (t : Time)
  /-- SCRUB_CORRECTION (R396): A scrub read or load meets a correctable error, the word is rewritten and 0x2701 is recorded. -/
  | scrubCorrection (t : Time) (m : Fin 5) (addr : Nat)
  /-- MEM_UNCORRECTABLE (R396): An uncorrectable error is handled per memory, and 0x2702 is recorded. -/
  | memUncorrectable (t : Time) (m : Fin 5) (addr : Nat) (k : Fin 4)
  /-- WEAR_CHECK (R399): Once per second BKG reads the pass count and warns at 8 × 10^9 passes. -/
  | wearCheck (t : Time)
  /-- BKG_REQ_ADC_CAL (R400): A request of kind 0x1 asks for calibration of a converter. -/
  | bkgReqAdcCal (t : Time) (triad : Fin 4) (target : Fin 65536)
  /-- BKG_REQ_CMP_CHECK (R400): A request of kind 0x2 asks for the test ticks and a readback of a window. -/
  | bkgReqCmpCheck (t : Time) (triad : Fin 4) (target : Fin 65536) (read : Option (Fin 2 × Int))
  /-- BKG_REQ_PAD_CHECK (R400): A request of kind 0x3 asks for a pad check of a leg. -/
  | bkgReqPadCheck (t : Time) (triad : Fin 4) (target : Fin 65536)
  /-- BKG_REQ_CEN_SELFTEST (R400): A request of kind 0x4 asks for a self-test of both engines of a pair. -/
  | bkgReqCenSelftest (t : Time) (triad : Fin 4) (target : Fin 65536)
  /-- BKG_REQ_CORE_SELFTEST (R401): A request of kind 0x5 asks for a self-test of one core. -/
  | bkgReqCoreSelftest (t : Time) (triad : Fin 4) (target : Fin 65536)
  /-- BKG_REQ_SCRUB (R400): A request of kind 0x6 asks for a new scrub pass of a memory. -/
  | bkgReqScrub (t : Time) (triad : Fin 4) (target : Fin 65536)
  /-- BKG_REQ_MARVER (R398): A request of kind 0x7 starts a Marver round at once. -/
  | bkgReqMarver (t : Time) (triad : Fin 4) (target : Fin 65536)
  /-- BKG_REQ_DEFERRED (R400): A request without its resource after the table's wait shows DEFERRED and records 0x2704. -/
  | bkgReqDeferred (t : Time) (triad : Fin 4)
  /-- CORE_SELFTEST_PERIODIC (R401): Every CORPER seconds BKG self-tests the next eligible core. -/
  | coreSelftestPeriodic (t : Time)
  /-- CORE_SELFTEST_DONE (R401): The tested core's known-answer test ends and the core rejoins, or a Gale is declared. -/
  | coreSelftestDone (t : Time) (c : Fin 12) (pass : Bool)
  /-- TELEMETRY_POST (R402): At every TELDIV-th SLOT63 firing, BKG posts MODULE and FUNCTION telemetry records. -/
  | telemetryPost (t : Time)
  /-- OPEN (R410): A client OPEN is checked for role, port, lockout and capacity, and is answered CHALLENGE or DENIED. -/
  | open_ (t : Time) (port ctag role key : Nat) (cnonce : List Byte)
  /-- PROVE (R408): A PROVE is verified over the transcript, and is answered GRANTED or DENIED with a failed attempt. -/
  | prove (t : Time) (port ctag sid : Nat) (proof : List Byte)
  /-- PROVE_TIMEOUT (R408): No PROVE within 5 s of its CHALLENGE counts as a failed attempt. -/
  | proveTimeout (t : Time) (sid : Nat)
  /-- MAKER_FIRST (R405): In NOCFG without a maker key, a root-certified first maker key is installed and audited. -/
  | makerFirst (t : Time) (port key : Nat) (pub cert : List Byte) (audits : Bool)
  /-- READ (R412): Session READ of up to 256 bytes of any core-readable range. -/
  | read (t : Time) (port ctag sid ctr : Nat) (addr len : Nat) (auth : List Byte)
  /-- READ_AUDIT (R412): Session read of one to four audit records. -/
  | readAudit (t : Time) (port ctag sid ctr : Nat) (index count : Nat) (auth : List Byte)
  /-- SET_LIMIT (R414): A LIMIT-declared field is set within its bound after journal and audit commits. -/
  | setLimit (t : Time) (port ctag sid ctr : Nat) (addr fmask value : W) (audits : Bool) (auth : List Byte)
  /-- SET_BOUND (R415): An installer or maker bound is set for a field. -/
  | setBound (t : Time) (port ctag sid ctr : Nat) (addr fmask : W) (level : Nat) (lower upper : W) (audits : Bool) (auth : List Byte)
  /-- CAL_WRITE (R416): A permitted calibration register is written while its function is disabled. -/
  | calWrite (t : Time) (port ctag sid ctr : Nat) (addr value : W) (audits : Bool) (auth : List Byte)
  /-- RESET_LIMITS (R418): Empties the persisted limit table. -/
  | resetLimits (t : Time) (port ctag sid ctr : Nat) (audits : Bool) (auth : List Byte)
  /-- ACK (R412): A session acknowledges a function or charge-channel fault, which is journalled as kind 0x7. -/
  | ack (t : Time) (port ctag sid ctr : Nat) (target : Nat) (audits : Bool) (auth : List Byte)
  /-- SET_RTC (R44): A session writes RTC_SETSEC. -/
  | setRtc (t : Time) (port ctag sid ctr : Nat) (v : W) (audits : Bool) (auth : List Byte)
  /-- SLOT_BEGIN (R413): Names a slot, its length and SHA-256, and erases the slot. -/
  | slotBegin (t : Time) (port ctag sid ctr : Nat) (slot len : Nat) (sha : List Byte) (auth : List Byte)
  /-- SLOT_DATA (R413): Writes up to 448 image bytes at the next offset. -/
  | slotData (t : Time) (port ctag sid ctr : Nat) (off : Nat) (bs : List Byte)
  /-- SLOT_END (R413): Checks the stream hash and on a match writes MAGIC and starts the first-pass checks. -/
  | slotEnd (t : Time) (port ctag sid ctr : Nat) (audits : Bool) (auth : List Byte)
  /-- RESTART (R71): A session restarts the module through SYS_CTRL.RESTART. -/
  | restart (t : Time) (port ctag sid ctr : Nat) (audits : Bool) (auth : List Byte)
  /-- KEY_INSTALL (R406): A maker session installs a certified key. -/
  | keyInstall (t : Time) (port ctag sid ctr : Nat) (key role : Nat) (bs : List Byte) (certId : Nat) (cert : List Byte) (audits : Bool) (auth : List Byte)
  /-- KEY_REVOKE (R406): A maker session revokes a key and closes its sessions. -/
  | keyRevoke (t : Time) (port ctag sid ctr : Nat) (key : Nat) (audits : Bool) (auth : List Byte)
  /-- GUST_CLEAR (R276): Clears the Gust history of one resource or all, recording 0x250D. -/
  | gustClear (t : Time) (port ctag sid ctr : Nat) (res : Nat) (audits : Bool) (auth : List Byte)
  /-- CULL_CLEAR (R280): A maker session clears cullet entries in MRAM, effective at the next start, recording 0x250C. -/
  | cullClear (t : Time) (port ctag sid ctr : Nat) (res : Nat) (audits : Bool) (auth : List Byte)
  /-- LOCKOUT_CLEAR (R411): A maker session lifts the lockout of the operator or installer role. -/
  | lockoutClear (t : Time) (port ctag sid ctr : Nat) (role : Nat) (audits : Bool) (auth : List Byte)
  /-- FACTEST (R417): With no function enabled, enters factory test until restart and refuses every enable. -/
  | factest (t : Time) (port ctag sid ctr : Nat) (test : Option (Nat × Nat × Bool)) (audits : Bool) (auth : List Byte)
  /-- CLOSE (R410): Ends the session. -/
  | close (t : Time) (port ctag sid ctr : Nat) (auth : List Byte)
  /-- SESSION_IDLE_TIMEOUT (R410): A session without a valid request for its role's IDLE seconds closes. -/
  | sessionIdleTimeout (t : Time) (sid : Nat)
  /-- LOCKOUT_EXPIRE (R411): A role's lockout ends after LOCKOUT minutes. -/
  | lockoutExpire (t : Time) (role : Fin 4)
  /-- SUP_WARNING (R431): VIN_OR below 7.0 V sets WARN, commits the journal, suspends charging, pauses background work and restores VCORE. -/
  | supWarning (t : Time) (va vb : Nat)
  /-- SUP_RECOVERY_START (R432): VIN_OR rising above 7.4 V starts the recovery interval. -/
  | supRecoveryStart (t : Time) (va vb : Nat)
  /-- SUP_RECOVERY_ABORT (R432): A fall below 7.0 V during the interval ends it without counting a new dip. -/
  | supRecoveryAbort (t : Time) (va vb : Nat)
  /-- SUP_RECOVERED (R432): After 5 ms above 7.4 V, WARN is cleared, 0x0202 is recorded and background work and charging resume. -/
  | supRecovered (t : Time) (va vb : Nat)
  /-- FEED_LOST (R428): A feed below 7.0 V while VIN_OR stays up clears its OK bit and records 0x0203. -/
  | feedLost (t : Time) (f : Fin 2) (va vb : Nat)
  /-- FEED_RETURN (R428): A lost feed back above 7.4 V records 0x0204. -/
  | feedReturn (t : Time) (f : Fin 2) (va vb : Nat)
  /-- OVERVOLTAGE (R428): A feed above 40.0 V is disconnected and 0x0206 is recorded. -/
  | overvoltage (t : Time) (f : Fin 2) (va vb : Nat)
  /-- OV_RECONNECT (R428): A disconnected feed that falls below 39.0 V is reconnected. -/
  | ovReconnect (t : Time) (f : Fin 2) (va vb : Nat)
  /-- POR_ASSERT (R434): VIN_OR below 5.5 V asserts power-on reset and sets every transmitter to high impedance within 1 µs. -/
  | porAssert (t : Time) (va vb : Nat)
  /-- RAIL_FAULT (R430): A rail outside its window for 10 µs asserts power-on reset and records its RAILID. -/
  | railFault (t : Time) (r : Fin 7)
  /-- VBKUP_MEASURE (R437): Every 10 s with a feed present, VBKUP is converted and VBKUP_LOW is updated. -/
  | vbkupMeasure (t : Time) (mv : Nat)
  /-- FAULT_PULL_END (R93): The gate driver releases its fault pull, so the pull source deasserts to the trip matrix and polling of that pair resumes. -/
  | faultPullEnd (t : Time) (n : Fin 48)
  /-- TRIP_IN_DEASSERT (R147): A TRIP_IN land returns high and its trip source deasserts at once. -/
  | tripInDeassert (t : Time) (i : Fin 4)
  /-- BUS_RX_ERROR (R315): A protocol error detected while receiving a frame raises an error frame and increments the receive error counter, possibly entering error-passive. -/
  | busRxError (t : Time) (n : Fin 6) (code : Fin 8) (dataPhase eight : Bool)
  /-- BUS_INTEGRATION_DONE (R317): After 11 consecutive recessive bits the port completes bus integration and resumes reception as an active node. -/
  | busIntegrationDone (t : Time) (n : Fin 6)
  /-- PEER_TOKEN_SEEN (R295): An edge appears on DRV_TOKEN_IN after silence, so the partner counts as holding the token and PEERTOK is set. -/
  | peerTokenSeen (t : Time)
  /-- STORM_CLEAR (R433): The count of dips in the last 60 s falls to 10 or below, and SUP_STAT.STORM clears. -/
  | stormClear (t : Time)
  /-- UNDEFINED_ENCODING (R365): A core executes a word with an unassigned opcode, fn, SUB or register field and takes the illegal-instruction line with ECAUSE 0x4. -/
  | undefinedEncoding (k : Fin 4)
deriving DecidableEq, Repr

end Sys2Proof
end

