-- ==== Sys2Proof/Machine/State.lean ====
section
/-! DEFINITION. The state of the block as plain data, the reasons it can stop, and the state right after reset.
A register is kept once, in `regs`, under its address; everything else the specification names has a field of its own.
INVENTORY.md lists every piece with its rule and its reset value. -/

namespace Sys2Proof.Machine

/-- Memory: bytes at rising addresses, none equal to what an unlisted address reads as. -/
abbrev Mem := List Host.Cell

/-- One record of the event log (Table SYS-11). -/
structure EventRec where
  stime : Time
  rtcsec : W
  code : Nat
  source : Nat
  cls : Nat
  data : List Byte
deriving DecidableEq, Repr, Inhabited

/-- A record written at most once per interval "with the count" (R458): when it was last written, and the
occurrences since. -/
structure RateRec where
  last : Option Time
  cnt : Nat
deriving DecidableEq, Repr, Inhabited

/-- The calendar of the supply die (R42–R45) beside its registers. -/
structure Calendar where
  /-- part of a 1/32,768 s cycle already counted, in units of 1/16,000,000,000 cycle per fine tick × 32,768 -/
  frac : Nat
  /-- crystal cycles counted, modulo 2^20, for RTC_TRIM -/
  cyc : Nat
  /-- RTC_SEC latched for each triad by a read of RTC_SUB (R45) -/
  latch : Tab W
  /-- a load of RTC_SETSEC is armed for the next 1 s boundary (R44) -/
  loadArmed : Bool
  /-- a capture has been started and not completed (R45) -/
  capBusy : Bool
  /-- VBKUP was lost with both feeds absent; acted on at the next start (R43) -/
  lostPending : Bool
deriving DecidableEq, Repr, Inhabited

/-- The time keeper beside its registers (R30–R37). -/
structure TimeKeeper where
  stime : Time
  /-- the holding register of each triad (R32) -/
  hiLatch : Tab W
  /-- a slot enabled after the epoch does not fire before this instant (R33) -/
  notBefore : Tab Time
  /-- the triggers delivered at the latest firing tick: kind, index, slot (R36) -/
  tick : Time
  delivered : List (Nat × Nat × Nat)
  /-- trigger outputs driven high for 100 ns: GIO and the end of its pulse (R230) -/
  pulses : Tab Time
deriving DecidableEq, Repr, Inhabited

/-- VCORE scaling (R39) beside SUP_VCORE. -/
structure Vcore where
  readyAt : Option Time
  scaling : Bool
  /-- start of the present 10 ms window -/
  winAt : Time
  /-- every slack of the present 10 ms window was at least SLACK_MARGIN -/
  ample : Bool
  /-- the Lehr reported NORMAL throughout the present window -/
  normal : Bool
  /-- smallest slack seen in the window, in 0.01 % -/
  minSlack : Option Nat
deriving DecidableEq, Repr, Inhabited

/-- A record of the image body: its type and its payload (R57). -/
structure Rec where
  ty : Nat
  payload : List Byte
deriving DecidableEq, Repr, Inhabited

/-- A FUNC record: a function and what it binds (Table SYS-6). 0xFF in the record is `none` here. -/
structure FuncRec where
  kind : Nat
  safe : Nat
  tg : Nat
  legs : List Nat
  axuA : Option Nat
  axuB : Option Nat
  cvu : Option Nat
  slot : Nat
  /-- the named cascades with their deadlines in fine ticks -/
  casc : List (Nat × Nat)
  seqs : List Nat
  dsms : List Nat
  cmps : List Nat
  missLimit : Nat
deriving DecidableEq, Repr, Inhabited

/-- One entry of a SPARE record (Table SYS-7). -/
structure SpareEnt where
  fn : Nat
  rkind : Nat
  primary : Nat
  subst : Nat
  mode : Nat
deriving DecidableEq, Repr, Inhabited

/-- One field of a SIGMAP record. -/
structure SigField where
  sig : Nat
  bitpos : Nat
  bitlen : Nat
  enc : Nat
  order : Nat
deriving DecidableEq, Repr, Inhabited

/-- A SIGMAP record (Table SYS-7). -/
structure SigMap where
  dir : Nat
  queue : Nat
  canid : W
  idmask : W
  fields : List SigField
deriving DecidableEq, Repr, Inhabited

/-- One entry of a ROUTE record. -/
structure RouteEnt where
  first : Nat
  last : Nat
  egress : Nat
  hops : Nat
deriving DecidableEq, Repr, Inhabited

/-- A LIMIT record (Table SYS-8). -/
structure LimitRec where
  addr : Nat
  fmask : W
  min : W
  max : W
  enc : Nat
  level : Nat
deriving DecidableEq, Repr, Inhabited

/-- A ROLE record, or the values R63 gives a role without one. -/
structure RoleRec where
  ports : Nat
  idle : Nat
  tries : Nat
  lockout : Nat
deriving DecidableEq, Repr, Inhabited

/-- A key of the key store: its ID, its role (0x01 operator, 0x02 installer, 0x03 maker) and its P-256 public key. -/
structure KeyEnt where
  id : Nat
  role : Nat
  pub : List Byte
deriving DecidableEq, Repr, Inhabited

/-- One mirror region (R64). -/
structure MirRegion where
  addr : Nat
  len : Nat
  selected : Bool
deriving DecidableEq, Repr, Inhabited

/-- The configuration that APPLY has bound beside the registers it wrote. -/
structure Image where
  funcs : Tab FuncRec
  spares : List SpareEnt
  sigmaps : List SigMap
  routes : List RouteEnt
  limits : List LimitRec
  keys : List KeyEnt
  roles : Tab RoleRec
  mirror : Option (Nat × List MirRegion)
  /-- entry points of the triads that have PROG records (R60) -/
  entries : Tab W
  split : Nat
  charges : List Nat
  digest : List Byte
  role : Nat
deriving DecidableEq, Repr, Inhabited

/-- The position of the start-up sequence (Table SYS-2), finer than SYS_STATE. -/
inductive BootStep where
  | waitRef | probe | headers | body | signature | firstPass | secondPass | thirdPass
  | calibrate | journal | lock | done | paused | stopped
deriving DecidableEq, Repr, Inhabited

/-- The start-up sequence (R47–R72). -/
structure Boot where
  step : BootStep
  /-- STIME of the power-on reset release or restart from which T_READY counts -/
  relTime : Time
  candidate : Nat
  firstCand : Nat
  /-- the other slot has a good header and has not been tried -/
  otherGood : Bool
  records : List Rec
  applied : Bool
  /-- a supply warning stopped the start-up (R50) -/
  warned : Bool
  /-- SYS_STATE when the start-up paused -/
  pausedAt : Nat
  lastReason : Nat
deriving DecidableEq, Repr, Inhabited

/-- A status transaction on a leg's status pair (R90–R92, R95, R100). -/
structure GlReq where
  addr : Nat
  op : Nat
  reg : Nat
  data : Nat
  seq : Nat
  /-- 0 a poll, 1 the enable sequence, 2 a T0 request -/
  purpose : Nat
deriving DecidableEq, Repr, Inhabited

/-- The place of the enable sequence of R95 on one leg. -/
structure EnSeq where
  /-- the requests still to be answered, in order, with the value a read-back must return -/
  todo : List (GlReq × Option Nat)
  /-- a rerun on a leg whose transmitters are enabled -/
  rerun : Bool
  /-- the status check of R96 after the drive token was gained -/
  quick : Bool
  /-- consecutive FRAME or NOACK transactions of the request in progress -/
  errs : Nat
deriving DecidableEq, Repr, Inhabited

/-- A leg channel beside its registers. -/
structure Leg where
  /-- a set was committed since the last boundary (R79) -/
  fresh : Bool
  /-- a committed set has been loaded at a boundary since the function was enabled -/
  loaded : Bool
  /-- the committed set, and the set in use, has both switches off: a parked position (R236) -/
  parkSet : Bool
  parked : Bool
  /-- the upper switch interval ended the last period high, and fine ticks from its last edge to its end (R76) -/
  lastUpper : Bool
  lastEdge : Nat
  /-- on-intervals of GH and GL in the present period, fine ticks from its boundary -/
  gh : List (Nat × Nat)
  gl : List (Nat × Nat)
  /-- the working copies of CFG, PER, DT, MINPW and TRIP to restore at the next boundary (R84) -/
  restore : Bool
  lastMismatch : Option Time
  /-- STIME at which the active line of GH and of GL was calibrated -/
  calGH : Time
  calGL : Time
  /-- a line calibrated at this STIME waits for the boundary to become the active one -/
  newGH : Option Time
  newGL : Option Time
  /-- pad offsets in force, ps (R82) -/
  padGH : Int
  padGL : Int
  /-- die temperature at the last pad check, 1/8 °C as THM_DIE; a check is owed -/
  padTemp : Int
  padDue : Bool
  seq : Nat
  inflight : Option GlReq
  /-- addresses still to be polled in this POLL period -/
  pollTodo : List Nat
  /-- consecutive bad transactions with driver 0 and 1 -/
  bad0 : Nat
  bad1 : Nat
  /-- fault pull detected on the status pair, and one whose trip has not been followed by a rerun -/
  pull : Bool
  pulled : Bool
  enSeq : Option EnSeq
  /-- the sequence is over and the leg drives off until the next boundary -/
  armed : Bool
deriving DecidableEq, Repr, Inhabited

/-- What a leg's GH and GL pairs carry. -/
inductive Drive where
  | hiZ | off | low | high | computed
deriving DecidableEq, Repr, Inhabited

/-- A SAR converter beside its registers (R103, R105, R116, R118, R119). -/
structure Conv where
  /-- input, gain and reference of the previous conversion -/
  prev : Option (Nat × Nat × Nat)
  /-- samples still to be delivered with SETTLE -/
  settle : Nat
  /-- STIME of the last calibration -/
  calAt : Time
  /-- the last calibration was bad -/
  lastBad : Bool
  /-- powered down (R116) -/
  down : Bool
  /-- an unscheduled wake is in progress: the next result carries LATE -/
  lateWake : Bool
  lastConv : Time
deriving DecidableEq, Repr, Inhabited

/-- An ADC sequence beside its registers (R110–R113). -/
structure SeqRun where
  /-- the run began with a scheduled trigger -/
  sched : Bool
  /-- the group to start next waits for its slots -/
  waiting : Bool
  /-- first step of the group in progress or waiting -/
  grp : Nat
  /-- steps of the group whose conversions have not ended -/
  busy : List Nat
  /-- the instant R111 gives the next group start -/
  due : Time
  /-- the group holds late -/
  late : Bool
  hold : Time
  /-- RESTART: stored results are not forwarded and the sequence restarts at step 0 -/
  restart : Bool
  /-- the first group of the run carries LATE -/
  lateFirst : Bool
  /-- the pending trigger is a scheduled one, and its instant -/
  pendSched : Bool
  pendDue : Time
  /-- when the latest run that fed an engine delivered its words (R288) -/
  fedAt : Option Time
deriving DecidableEq, Repr, Inhabited

/-- A working slot of the ADC (R113, R114). -/
structure AdcSlot where
  /-- a group's conversion is in progress: sequence and step -/
  busy : Option (Nat × Nat)
  /-- an urgent conversion is in progress for this triad -/
  urgent : Option Nat
  /-- triads whose urgent requests wait, in arrival order -/
  queue : List Nat
  /-- STIME since which a swap has been wanted -/
  wantSince : Option Time
deriving DecidableEq, Repr, Inhabited

/-- A ΔΣ channel beside its registers (R121–R127). -/
structure Dsm where
  /-- start of the running or latest window -/
  winStart : Time
  /-- consecutive fast outputs beyond the thresholds, and within them -/
  ocRun : Nat
  okRun : Nat
  /-- the level has stood since the enable (R126) -/
  first : Bool
deriving DecidableEq, Repr, Inhabited

/-- A window comparator beside its registers (R132–R140). -/
structure Cmp where
  /-- the last N window samples, beyond or not, newest first -/
  hist : List Bool
  /-- the check whose turn it is (R136) -/
  turn : Nat
  /-- checks whose last result was a failure: 0–3 the test checks, 4 HI readback, 5 LO readback -/
  failed : List Nat
  /-- a DAC to be reread (R138) -/
  reread : Option Nat
  /-- STIME of the mismatch being reread -/
  mismatchAt : Time
  /-- degraded reading (R140): the AIN read and the filter's history -/
  degAin : Option Nat
  degHist : List Bool
  degTripped : Bool
deriving DecidableEq, Repr, Inhabited

/-- A trip group beside its registers (R141–R145). -/
structure Trp where
  /-- a source of index 96 or above has been part of the source condition since the last release -/
  hardSrc : Bool
  /-- STIME since which the source condition has been false -/
  falseSince : Option Time
  /-- STIMEs of the automatic releases of the last second -/
  autoRels : List Time
  /-- automatic release is stopped until a T0 release -/
  autoStop : Bool
deriving DecidableEq, Repr, Inhabited

/-- The state of one section of a cascade (R155, R173). -/
structure Sect where
  s1 : W
  s2 : W
  xprev : W
  y : W
deriving DecidableEq, Repr, Inhabited

/-- A cascade beside its registers (R157–R175). -/
structure Casc where
  /-- the Punty checkpoint: the state of every section, and the region -/
  bank : List Sect
  ix : Nat
  iy : Nat
  /-- no activation has run since the enable (R157, R170) -/
  first : Bool
  /-- the bank being computed and its region -/
  newBank : List Sect
  newIx : Nat
  newIy : Nat
  /-- the latched inputs IN0–IN15 (R161) -/
  snap : List W
  /-- reference instant of the pending or running activation (R163) -/
  ref : Time
  /-- STIME of the latest latch (R164) -/
  latched : Option Time
  /-- outputs agreed by the latest activation, by section -/
  outs : List W
deriving DecidableEq, Repr, Inhabited

/-- An engine pair beside its registers. -/
structure Pair where
  /-- a re-execution under R174 is running for this cascade -/
  reexec : Option Nat
  /-- cascades whose activations the present restart has discarded -/
  discarded : List Nat
  /-- consecutive self-test failures of copy 0 and copy 1 (R177) -/
  stFail0 : Nat
  stFail1 : Nat
deriving DecidableEq, Repr, Inhabited

/-- A result delivered to an input of an AXU or CVU: the result word, its stamp, and whether it came in the present
period. -/
structure InRes where
  word : W
  stamp : Time
  fresh : Bool
  /-- when it was delivered -/
  got : Time
deriving DecidableEq, Repr, Inhabited

/-- One sample of the carrier demodulator (R205, R206): the currents and the sine and cosine references. -/
structure CarSample where
  id : W
  iq : W
  vd : W
  vq : W
  sinRef : W
  cosRef : W
  /-- i_d and i_q in the frame of θ_s -/
  sd : W
  sq : W
deriving DecidableEq, Repr, Inhabited

/-- The Hall interpreter of a unit (R209). -/
structure Hall where
  sector : Option Nat
  angle : W
  /-- the boundary at which the angle stops -/
  stop : W
  speed : W
  dir : Int
  /-- stamps of the edges of the present direction, newest first, at most seven -/
  stamps : List Time
  /-- a code or transition that R211 calls bad since the last forward pass -/
  bad : Bool
deriving DecidableEq, Repr, Inhabited

/-- An axis unit beside its registers (R179–R227). -/
structure Axu where
  /-- results by input -/
  res : Tab InRes
  /-- the latest leg period boundary and the one before it -/
  bound : Time
  /-- the forward pass of the present period has run, or the period was substituted -/
  fwdDone : Bool
  /-- the present period began after the enable -/
  began : Bool
  /-- a set that targets the next boundary has been committed -/
  committed : Bool
  /-- latest usable V_dc since enable (R184) -/
  vdc : Option W
  /-- i_d, i_q, i_x, i_y of the previous period (R183), absent until a usable set since enable -/
  prev : Option (W × W × W × W)
  /-- phase currents of the period as used -/
  iph : List W
  /-- engine words 0–15 returned since enable -/
  words : Tab W
  /-- an agreed delivery with the words that start the inverse stage waits -/
  invDue : Bool
  /-- last agreed v_d, v_q, v_x, v_y -/
  agreed : List W
  /-- the voltages of the set committed last, and of the set that the legs loaded last -/
  vSet : W × W
  vLoaded : W × W
  ths : W
  thm : W
  we : W
  ts : Time
  /-- consecutive periods over AXU_ZSLIM -/
  zs : Nat
  /-- PLL state -/
  thHat : W
  wHat : W
  /-- carrier index of the next set, of the set committed last, and of the set that the legs loaded last -/
  n : Nat
  nSet : Nat
  nLoaded : Nat
  ring : List CarSample
  sampleNo : Nat
  eInj : W
  /-- carrier d-axis amplitude of the latest evaluation -/
  ad : W
  /-- id and iq of the previous observer step -/
  obsPrev : Option (W × W)
  obsD : W
  obsQ : W
  /-- |ω̂| at the first period of the counted run (R219) -/
  lossW : W
  /-- consecutive carrier periods within tolerance, and carrier periods in CONVERGE -/
  convOk : Nat
  convCnt : Nat
  /-- angles of the measurement in progress, oldest first, and the smallest |e| against V_dc -/
  meas : List W
  measStill : Bool
  measFull : Bool
  /-- POLARITY: commits made in the present test, tests made, and i_d at the segment ends -/
  polN : Nat
  polTests : Nat
  polI : List W
  /-- STIME of the entry into TRACK, and of the loss or failure that RETRYDLY runs from -/
  trackAt : Option Time
  failAt : Time
  /-- the phase was reached by a reacquisition (R220) -/
  reacq : Bool
  /-- remaining reversal dwell in fine ticks (R224) -/
  dwell : Nat
  hall : Hall
deriving DecidableEq, Repr, Inhabited

/-- A SENT channel beside its registers (R231). -/
structure Sent where
  /-- length of the previous sync pulse, fine ticks -/
  lastSync : Option Nat
  /-- status bits 3 and 2 of the frames of the slow message in assembly, newest last -/
  slow : List (Bool × Bool)
  lastValid : Option Time
deriving DecidableEq, Repr, Inhabited

/-- The quantities of one forward pass of a converter unit, kept for the charge step's means (R246, R254). -/
structure CvuSample where
  at_ : Time
  vbat : W
  ibat : W
  vin : W
  vout : W
  iout : W
  sumIl : W
  vg : W
  gid : W
deriving DecidableEq, Repr, Inhabited

/-- A converter unit beside its registers (R232–R244). -/
structure Cvu where
  /-- results by input -/
  res : Tab InRes
  bound : Time
  fwdDone : Bool
  /-- the present leg period is a loop period (R243) -/
  loopNow : Bool
  committed : Bool
  /-- latest value of each role -/
  vals : Tab W
  /-- engine words since enable -/
  words : Tab W
  invDue : Bool
  ts : Time
  /-- consecutive periods with the lock condition, and since when |e| > 0.2 -/
  lockRun : Nat
  badSince : Option Time
  relockAt : Option Time
  /-- the whole stage is parked since a grid loss (R241) -/
  parkGrid : Bool
  /-- I_tot sum and count of the present PHDLY interval, and its end -/
  itotSum : W
  itotN : Nat
  phaseEnd : Time
  /-- threshold code driven on each position's sense window, and the rise it was loaded at -/
  dac : Tab (Nat × Time)
  /-- reference current of each position in the committed set, and in the set in use (R238) -/
  iref : Tab W
  irefUsed : Tab W
  /-- pulses that their comparator ended: position and rise, newest first -/
  cmEnds : List (Nat × Time)
  /-- the position was active in the period that ends (for CMLIM) -/
  cmActive : Nat
  /-- words 13 and 14 written by a charge channel -/
  chgV : W
  chgI : W
  /-- hand-over ramp of word 15: start and length in ms (R253) -/
  ramp : Option (Time × Nat)
  samples : List CvuSample
deriving DecidableEq, Repr, Inhabited

/-- A charge channel beside its registers (R245–R255). -/
structure Chg where
  iCut : W
  phaseAt : Time
  /-- since when each timed condition has held, by its code in the charge step -/
  since : Tab Time
  startReq : Bool
  stopReq : Bool
  /-- a supply warning suspends the channel -/
  supply : Bool
  /-- milliseconds since TKP_EPOCH of the last step -/
  stepJ : Nat
  /-- FN was enabled at the last step (R251) -/
  fnOn : Bool
  /-- the channel left IDLE since the timer was last reset (R250) -/
  fromIdle : Bool
  hoAt : Time
  hoStages : List Nat
  /-- equivalent time in µs and wall time in ms (R250) -/
  teq : Nat
  twall : Nat
  /-- energy in µJ (R246) -/
  ebat : Nat
  esol : Nat
  vref : W
  mpptUp : Bool
  pPrev : W
  mpptAt : Time
  /-- panel powers since the last MPPT update: their sum and number -/
  pSum : W
  pN : Nat
  /-- the lamp switch is off after a short until this instant -/
  lampOff : Option Time
deriving DecidableEq, Repr, Inhabited

/-- A Gust record beside RED_GUST (R274). -/
structure Gust where
  /-- STIMEs of the last 15 Gusts, newest first -/
  times : List Time
deriving DecidableEq, Repr, Inhabited

/-- An entry of the cullet list (Table RED-4). -/
structure Cull where
  res : Nat
  reason : Nat
  subst : Bool
  persisted : Bool
  rtcsec : W
  stime : Time
deriving DecidableEq, Repr, Inhabited

/-- The architectural registers of a triad's logical processor (chapter 16). -/
structure Core where
  w : List W
  f : List W
  pc : W
  status : W
  epc : W
  estat : W
  ecause : W
  eaddr : W
  icnt : BitVec 64
deriving DecidableEq, Repr, Inhabited

/-- Why a core is not executing. -/
inductive CoreWait where
  /-- before its start, or without PROG records -/
  | unstarted
  /-- executing -/
  | none
  /-- AWAIT with its masks: the destination, the masks for lines 0–31 and 32–63 -/
  | await (rd : Nat) (lo hi : W)
  /-- inside an assured QPOST or QTAKE: the destination register, the result once its journal record is committed and,
  where needed, mirrored, and the SEQ word of a post -/
  | assured (rd : Nat) (code : Option W) (seqLo : Option W)
  /-- inside SYNC -/
  | sync
  /-- halted under R283, or by a shutdown -/
  | halted
deriving DecidableEq, Repr, Inhabited

/-- A logged effect of a triad (R268, R272): its kind, address and value. -/
structure Effect where
  kind : Nat
  addr : Nat
  value : Nat
deriving DecidableEq, Repr, Inhabited

/-- A triad: the logical processor, its local SRAM, its checkpoint and logs, and its event lines (R265–R272, R368). -/
structure Triad where
  core : Core
  wait : CoreWait
  /-- local SRAM (R267) -/
  lram : List (Nat × BitVec 8)
  ckpt : Core
  /-- the wait in force at the checkpoint -/
  ckptWait : CoreWait
  /-- old contents of the local-SRAM words stored to since the checkpoint, newest first -/
  undo : List (Nat × W)
  /-- values of the external loads since the checkpoint, oldest first -/
  reads : List W
  effects : List Effect
  /-- copies being rebuilt and copies retired are in RED_TSTAT; restarts from this checkpoint (R272) -/
  restarts : Nat
  /-- effects still to be replayed, and reads still to be served -/
  replay : List Effect
  replayReads : List W
  replaying : Bool
  /-- an assured instruction that was in progress at a restart, until the replay reaches it (R272, R373) -/
  held : CoreWait
deriving DecidableEq, Repr, Inhabited

/-- A windowed watchdog beside its registers (R291). -/
structure Wdg where
  started : Bool
  lastKick : Time
deriving DecidableEq, Repr, Inhabited

/-- RED beside its registers. -/
structure Red where
  gusts : Tab Gust
  cull : List Cull
  /-- the two MRAM copies of the cullet list: the entries and whether the CRC holds (R277, R278) -/
  cullA : List Cull
  cullB : List Cull
  cullAok : Bool
  cullBok : Bool
  /-- retired beyond entry 256, until the next start -/
  lastKick : Time
  lastMissed : Option Time
  wdg : Tab Wdg
  /-- enable and disable requests pending in RED_FNREQ, one bit per function, and safe states requested -/
  reqEnable : Nat
  reqDisable : Nat
  reqSafe : Tab Nat
  /-- an authorised acknowledgement waits for FNCMD ACK, one bit per function (R288) -/
  ackGiven : Nat
  /-- STIME at which a function entered BRAKE -/
  brakeAt : Tab Time
  /-- functions whose enable waits for the sequences of their legs, one bit per function -/
  enabling : Nat
  /-- every enable request is refused until the next start (R99, R283) or until power-on reset (R30) -/
  refuseAll : Bool
  /-- functions enabled at least once since the start -/
  everEnabled : Nat
deriving DecidableEq, Repr, Inhabited

/-- A queue descriptor (Table QUE-1). -/
structure Desc where
  id : W
  dlc : Nat
  flags : Nat
  status : Nat
  attempts : Nat
  stamp : W
  port : Nat
  seq : Nat
  posted : Time
  data : List Byte
deriving DecidableEq, Repr, Inhabited

/-- A bus port beside its registers (R315–R334). -/
structure Port where
  /-- the queue whose head is being transmitted, and the stamp of its start-of-frame -/
  tx : Option (Nat × W)
  /-- queue holding the waiting frame of R333 -/
  waitingQ : Option Nat
  /-- STIMEs at which recoveries began -/
  recs : List Time
  /-- recovery from bus-off is in progress -/
  recovering : Bool
  /-- waiting for bus integration (R317) -/
  integrating : Bool
  /-- rate detection: the candidate (0 = 1 Mbit/s … 3), complete cycles without a lock, and whether it runs -/
  abdRun : Bool
  abdCand : Nat
  abdCycles : Nat
  /-- detection has locked and the port stays or has left listen-only (ABDJOIN) -/
  abdFound : Option Nat
deriving DecidableEq, Repr, Inhabited

/-- A hardware queue beside its registers and its ring in shared SRAM. -/
structure Que where
  /-- a cancellation of the head came after start-of-frame (R335) -/
  cancelLate : Bool
  /-- state AWAIT of the head COMMAND: STIME at which it was SENT (R350) -/
  awaiting : Option Time
  /-- entries whose post waits for its journal record (R373) -/
  posting : Nat
deriving DecidableEq, Repr, Inhabited

/-- What a committed, and where needed mirrored, journal record completes (R348, R352, R412). -/
inductive JThen where
  /-- the post of an entry on an assured transmit queue by triad `t` (4 where SIG posts) -/
  | post (t : Nat) (desc : Desc)
  /-- a frame stored in an assured receive queue -/
  | store (desc : Desc)
  /-- a domain COMMAND: the device, queue and sequence to answer, and the queue it goes to -/
  | command (src squeue : Nat) (seq : Nat) (dqueue : Nat) (desc : Desc) (egress : Nat)
  /-- an entry DONE -/
  | done
  /-- the head of an assured receive queue TAKEN by triad `t` into `addr` (none: SIG consumed it) -/
  | taken (t : Nat) (addr : Option Nat)
  /-- a LIMIT change of a session's request -/
  | limit (sid ctr : Nat) (audits : Bool)
  /-- a fault acknowledgement of a session's request: a function, or 0x20 plus a charge channel -/
  | ack (sid ctr target : Nat) (audits : Bool)
  /-- nothing waits for it -/
  | nothing
deriving DecidableEq, Repr, Inhabited

/-- A journal record requested and not yet committed, or committed and not yet mirrored. -/
structure JReq where
  kind : Nat
  que : Nat
  seq : Nat
  body : List Byte
  next : JThen
  jpos : Nat
  sentAt : Time
deriving DecidableEq, Repr, Inhabited

/-- An accepted entry that still matters: a transmit entry not DONE, a receive entry not TAKEN, or a stream. -/
structure JLive where
  kind : Nat
  que : Nat
  seq : Nat
  jpos : Nat
  off : Nat
  len : Nat
  isLocal : Bool
  desc : Desc
deriving DecidableEq, Repr, Inhabited

/-- The journal beside its registers and the bytes of its ring (R348–R357). -/
structure Jrn where
  /-- requested and not committed, oldest first -/
  reqs : List JReq
  /-- committed and waiting for JACK, oldest first -/
  unacked : List JReq
  live : List JLive
  /-- position of the next record, kept in MRAM -/
  jpos : Nat
  /-- kept in MRAM -/
  jepoch : Nat
  passes : BitVec 64
  /-- latched for each triad by a read of JRN_PASS -/
  passLatch : Tab W
  /-- ring offsets kept in MRAM with the ring -/
  head : Nat
  tail : Nat
  /-- WARNPCT was reached and recorded -/
  warned : Bool
deriving DecidableEq, Repr, Inhabited

/-- A stream of the deduplication table (R351). -/
structure Stream where
  src : Nat
  squeue : Nat
  seq : Nat
deriving DecidableEq, Repr, Inhabited

/-- Signals and the routed domain beside their registers. -/
structure Sig where
  /-- entries with PUB written since the previous round, by index (R347) -/
  written : List Nat
  /-- the deduplication table, most recently used first -/
  streams : List Stream
  /-- devices heard in the present window: device, agrees (R358) -/
  heard : List (Nat × Bool)
  aggAgree : Nat
  aggDissent : Nat
  aggList : List Nat
  lastAnnounce : Option Time
deriving DecidableEq, Repr, Inhabited

/-- A link frame in the transmitter. -/
structure LinkTx where
  seq : Nat
  msg : LinkMsg
  sends : Nat
  sentAt : Time
deriving DecidableEq, Repr, Inhabited

/-- A supercycle copy (R27): its number, its segments and its state block. -/
structure MirCopy where
  sc : Nat
  segs : List (Nat × List Byte)
  blk : StateBlock
deriving DecidableEq, Repr, Inhabited

/-- The link and the pair beside their registers (R294–R313). -/
structure Lnk where
  txSeq : Nat
  /-- sent and not acknowledged, oldest first -/
  unacked : List LinkTx
  /-- SEQ of the next frame expected -/
  rxSeq : Nat
  /-- the latest edge seen on DRV_TOKEN_IN -/
  lastEdge : Time
  lastHb : Time
  /-- partner's state from its HB and HELLO: role, token, SYS_STATE, supply warning, TKP_EPOCH -/
  peerRole : Nat
  peerTok : Bool
  peerSys : Nat
  peerWarn : Bool
  peerEpoch : Option Time
  /-- partner's RED_FNSTATE by function, from FNSTATE frames and the state block -/
  peerFns : Tab W
  /-- one-way latency that training measured, fine ticks -/
  latency : Nat
  /-- 0x2311 has been recorded since the last heartbeat -/
  noSucc : Bool
  heardHello : Bool
  /-- position up to which the journal has gone to a partner that synchronises (R312), since the link came up -/
  jsent : Option Nat
  /-- decided from HELLO: this module is the active candidate (R301) -/
  candidate : Bool
  /-- STIME of the entry into RUN, for SOLOWAIT -/
  runAt : Time
  /-- role last persisted in MRAM -/
  saved : Nat
  /-- supercycle number -/
  sc : Nat
  /-- the copy taken and not wholly sent -/
  copy : Option MirCopy
  /-- the next boundary takes no copy (half the lanes, R307) -/
  skipNext : Bool
  /-- the 16-byte lines in the snapshot buffer of 4,096 lines (R307) -/
  snap : List Nat
  /-- segments received since the last MIREND, oldest first -/
  staging : List (Nat × List Byte)
  /-- a complete copy being written to its addresses -/
  staged : Option MirCopy
  /-- the state block applied last -/
  block : Option StateBlock
  /-- SYNCING: the journal is caught up; the selected set is applied -/
  caughtUp : Bool
  selected : Bool
  /-- consecutive supercycle copies missing -/
  missing : Nat
  /-- planned release: 0 none, 1 waits for SLOT63, 2 waits for APPLIED -/
  yield : Nat
  /-- resends since the last whole second, and that second -/
  resends : Nat
  resendSec : Nat
deriving DecidableEq, Repr, Inhabited

/-- A temperature sensor beside its registers (R382–R386): temperatures in 1/16 °C. -/
structure Sensor where
  last : Option Int
  lastAt : Time
  /-- the latest sample instant, missed or not -/
  tried : Option Time
  missed : Nat
  /-- the latest reading is usable (only a disagreement, or nothing, marks it) -/
  usable : Bool
  goodSince : Option Time
deriving DecidableEq, Repr, Inhabited

/-- The Lehr beside its registers (R382–R392). -/
structure Thm where
  die : Tab Sensor
  ntc : Tab Sensor
  /-- an NTC input's level: 0, 1 DERATE, 2 STOP -/
  ntcLvl : Tab Nat
  /-- the latest NTC temperatures as binary32 °C -/
  ntcT : Tab W
  /-- target of k of each function -/
  kTgt : Tab W
  lastRise : Time
  /-- the latest die sample -/
  lastDie : Option Time
deriving DecidableEq, Repr, Inhabited

/-- What a triad's request has reached: test ticks of a window, its readback, and whether any of them failed. -/
structure ReqProg where
  ticks : Nat
  readback : Bool
  failed : Bool
deriving DecidableEq, Repr, Inhabited

/-- Background work beside its registers (R394–R402). -/
structure Bkg where
  /-- the latest Marver round: its start and its end -/
  marvStart : Time
  marvEnd : Time
  /-- by triad: the progress of a request of kind 0x2 -/
  progress : Tab ReqProg
  /-- STIME at which each triad's request arrived -/
  reqAt : Tab Time
  lateRec : Bool
  telCount : Nat
  /-- firing of SLOT63 that telemetry reports -/
  telAt : Time
  telDue : Bool
  coreNext : Nat
  coreAt : Time
  /-- the core under test and the triad that asked (none: the periodic test) -/
  coreTest : Option (Nat × Option Nat)
  /-- the latest wear check, and 0x2706 recorded since the start -/
  wearAt : Time
  worn : Bool
  gusts : Nat
  corr : Nat
  uncorr : Nat
  deferred : Nat
  /-- misses of each function in the telemetry interval, and assertions of its group since RUN -/
  misses : Tab Nat
  assertions : Tab Nat
  /-- converters to be calibrated first -/
  calFirst : List Nat
  /-- poisoned 64-bit words of shared SRAM, by address -/
  poison : List Nat
  /-- start of the present scrub pass of each memory -/
  scrubAt : Tab Time
deriving DecidableEq, Repr, Inhabited

/-- An open session (R408–R410). -/
structure Session where
  id : Nat
  port : Nat
  ctag : Nat
  role : Nat
  key : Nat
  ctr : Nat
  /-- when its latest valid request arrived -/
  lastAt : Time
deriving DecidableEq, Repr, Inhabited

/-- A CHALLENGE that waits for its PROVE (R408). -/
structure Chal where
  id : Nat
  port : Nat
  ctag : Nat
  role : Nat
  key : Nat
  cnonce : List Byte
  mnonce : List Byte
  sentAt : Time
deriving DecidableEq, Repr, Inhabited

/-- A bound held for a field (R414, R415). -/
structure Bound where
  addr : Nat
  fmask : W
  level : Nat
  min : W
  max : W
  enc : Nat
deriving DecidableEq, Repr, Inhabited

/-- An entry of the persisted table (R418): kind 0 a value, 1 a bound, 2 a calibration. -/
structure PEnt where
  kind : Nat
  addr : Nat
  fmask : W
  value : W
  bound : Bound
  dig0 : W
  dig1 : W
deriving DecidableEq, Repr, Inhabited

/-- A slot write in progress (R413): the declared length and digest, the next offset, the four bytes held back. -/
structure SlotW where
  sid : Nat
  slot : Nat
  len : Nat
  sha : List Byte
  next : Nat
  gap : Bool
  held : List Byte
deriving DecidableEq, Repr, Inhabited

/-- A key of the store: an operator's HMAC key or a P-256 public key. -/
structure SecKey where
  id : Nat
  role : Nat
  key : List Byte
deriving DecidableEq, Repr, Inhabited

/-- SEC beside its registers (R404–R421). -/
structure Sec where
  keys : List SecKey
  /-- the two MRAM copies of the key store hold (R404) -/
  keyAok : Bool
  keyBok : Bool
  chals : List Chal
  sessions : List Session
  /-- failed attempts of each role, and when its lockout ends -/
  fails : Tab Nat
  lockEnd : Tab Time
  nextId : Nat
  chalCount : Nat
  /-- INDEX of the next audit record, and the chain of the latest record overwritten (R421); the records stand in MRAM -/
  audHead : Nat
  anchor : List Byte
  bounds : List Bound
  table : List PEnt
  slotw : Option SlotW
  /-- a slot written whole whose first-pass checks are still to run -/
  slotCheck : Option Nat
  /-- frames of the module's answers that wait for their port, oldest first (R407) -/
  out : List (Nat × Frame)
deriving DecidableEq, Repr, Inhabited

/-- The feeds and the supervision beside SUP's registers (R427–R437): voltages in mV. -/
structure Sup where
  /-- feeds (0 FEEDA, 1 FEEDB) that count as wired, and feeds valid declared (R429) -/
  wired : List Nat
  valid : Bool
  /-- a wired feed left out of feeds valid, to be recorded at the start -/
  missing : Option Nat
  /-- feeds disconnected for overvoltage -/
  ov : List Nat
  /-- STIMEs of the dips of the last 60 s (R433) -/
  dips : List Time
  recovAt : Time
  recoveredAt : Option Time
  stormAt : Option Time
  /-- VBKUP at its latest conversion -/
  vbk : Nat
deriving DecidableEq, Repr, Inhabited


/-- The device: everything but the queue of waiting commands. -/
structure Dev where
  /-- power-on reset is asserted: the rails are not up (R434, R435) -/
  por : Bool
  /-- the time keeper (R30–R37) -/
  tk : TimeKeeper
  /-- the calendar (R42–R45) -/
  cal : Calendar
  /-- VCORE scaling (R39) -/
  vcore : Vcore
  /-- the registers: the word at each address that differs from, or has left, its reset value (chapter 22); a triad's own copy stands at the address plus 2^32 times its number plus one -/
  regs : Tab W
  /-- records written at most once per interval (R458), by code and instance -/
  rates : Tab RateRec
  /-- the event log (R72), by index -/
  log : Tab EventRec
  /-- the Gale-class records in MRAM (R72), newest first -/
  gales : List EventRec
  /-- the start-up sequence (R47–R72) -/
  boot : Boot
  /-- what APPLY has bound (R58–R65) -/
  img : Image
  /-- the configuration flash (R52) -/
  flash : Mem
  /-- shared SRAM at 0x1000_0000, below the event log -/
  sram : Mem
  /-- coefficient memory at 0x1800_0000 (R158) -/
  coef : Mem
  /-- the signal table at 0x1900_0000 (Table SIG-1) -/
  sigt : Mem
  /-- MRAM seen through the journal read window at 0x2000_0000 -/
  mram : Mem
  /-- leg channels beside their registers -/
  legs : Tab Leg
  /-- SAR converters -/
  convs : Tab Conv
  /-- ADC sequences -/
  seqs : Tab SeqRun
  /-- ADC working slots -/
  slots : Tab AdcSlot
  /-- ΔΣ channels -/
  dsms : Tab Dsm
  /-- window comparators -/
  cmps : Tab Cmp
  /-- trip groups -/
  trps : Tab Trp
  /-- cascades, by index -/
  cascs : Tab Casc
  /-- engine pairs -/
  pairs : Tab Pair
  /-- the latest producer words delivered for each function (R161) -/
  words : Tab (List W)
  /-- redundancy -/
  red : Red
  /-- the triads T0–T3 -/
  triads : Tab Triad
  /-- T0's safety queue, oldest first (R371) -/
  safeq : List Nat
  /-- bus ports -/
  ports : Tab Port
  /-- queues -/
  ques : Tab Que
  /-- signals and the routed domain -/
  sig : Sig
  /-- the journal -/
  jrn : Jrn
  /-- the Ciwin link and the pair -/
  lnk : Lnk
  /-- axis units -/
  axus : Tab Axu
  /-- SENT channels -/
  sents : Tab Sent
  /-- levels at the GIO lands, one bit each -/
  gioRaw : Nat
  /-- converter units -/
  cvus : Tab Cvu
  /-- charge channels -/
  chgs : Tab Chg
  /-- the Lehr -/
  thm : Thm
  /-- background work -/
  bkg : Bkg
  /-- sessions, keys and audit -/
  sec : Sec
  /-- feeds and supervision -/
  sup : Sup
  /-- the model's own counter: free values asked for so far -/
  asked : Nat
deriving DecidableEq, Repr, Inhabited

/-- The state of the block. -/
structure State where
  /-- the commands that wait, first in, first out -/
  pending : List Instr
  dev : Dev
deriving DecidableEq, Repr

/-- A step of this block never stops with a fault: what the specification calls a fault is an effect on the state. -/
inductive Fault where
  /-- Raised by no command; kept so that the type has a value. Safe: nothing reaches it. -/
  | none
deriving DecidableEq, Repr

/-- Why a command has no meaning. -/
inductive Refusal where
  /-- The command has no meaning yet; raised by an arm of `exec` that names it. Safe: the machine stops. -/
  | notModelled (mnemonic : String)
deriving DecidableEq, Repr

/-- The device before the first power-on reset release: every register at its reset value, memory cleared,
nothing retained, no feed present (log entry 7). -/
def Dev.reset : Dev where
  por := true
  tk := default
  cal := default
  vcore := default
  regs := []
  rates := []
  log := []
  gales := []
  boot := { (default : Boot) with step := .waitRef }
  img := default
  flash := []
  sram := []
  coef := []
  sigt := []
  mram := []
  legs := []
  convs := []
  seqs := []
  slots := []
  dsms := []
  cmps := []
  trps := []
  cascs := []
  pairs := []
  words := []
  red := default
  triads := []
  safeq := []
  ports := []
  ques := []
  sig := default
  jrn := default
  lnk := default
  axus := []
  sents := []
  gioRaw := 0
  cvus := []
  chgs := []
  thm := default
  bkg := default
  sec := default
  sup := default
  asked := 0

/-- The state right after reset: no command waits. -/
def State.reset : State where
  pending := []
  dev := Dev.reset

end Sys2Proof.Machine
end

