-- ==== Sys2Proof/Machine/Ops.lean ====
section
/-! DEFINITION. The named operations over registers, memory, time and the event log that every meaning is written in. -/

namespace Sys2Proof.Machine

/-! ## Registers (Table SCOPE-4, R11, R453) -/

/-- The word in the register at address `a`. -/
def Dev.rd (d : Dev) (a : Nat) : W := Tab.getD (regReset a) d.regs a

/-- The device with `v` in the register at address `a`. -/
def Dev.wr (d : Dev) (a : Nat) (v : W) : Dev := { d with regs := Tab.set a v d.regs }

/-- The number in field `f` of the register at `a`. -/
def Dev.fld (d : Dev) (a : Nat) (f : Fld) : Nat := (d.rd a).fld f

/-- The device with field `f` of the register at `a` set to `v`. -/
def Dev.setF (d : Dev) (a : Nat) (f : Fld) (v : Nat) : Dev := d.wr a ((d.rd a).setFld f v)

/-- Is field `f` of the register at `a` non-zero? -/
def Dev.isSet (d : Dev) (a : Nat) (f : Fld) : Bool := d.fld a f ≠ 0

/-- Bit `i` of the register at `a`. -/
def Dev.bit (d : Dev) (a i : Nat) : Bool := (d.rd a).bit i

/-- The device with bit `i` of the register at `a` set to `b`. -/
def Dev.putBit (d : Dev) (a i : Nat) (b : Bool) : Dev := d.wr a ((d.rd a).setBit i b)

/-- A saturating counter field raised by `k`. -/
def Dev.addSat (d : Dev) (a : Nat) (f : Fld) (k : Nat) : Dev := d.setF a f (satAdd f.wd (d.fld a f) k)

/-- A saturating counter field raised by one. -/
def Dev.incSat (d : Dev) (a : Nat) (f : Fld) : Dev := d.addSat a f 1

/-- A wrapping 32-bit counter raised by one. -/
def Dev.inc32 (d : Dev) (a : Nat) : Dev := d.wr a (d.rd a + 1)

/-- A 64-bit value written to a LO and a HI register. -/
def Dev.wr64 (d : Dev) (lo hi : Nat) (v : BitVec 64) : Dev :=
  (d.wr lo (v.setWidth 32)).wr hi ((v >>> 32).setWidth 32)

/-- The 64-bit value of a LO and a HI register. -/
def Dev.rd64 (d : Dev) (lo hi : Nat) : BitVec 64 := BitVec.ofNat 64 ((d.rd hi).toNat * 2 ^ 32 + (d.rd lo).toNat)

/-- The key of triad `t`'s own copy of a register that each triad has for itself (chapter 22). -/
def ownCopy (t a : Nat) : Nat := a + 0x100000000 * (t + 1)

/-- The word in a triad's own copy of a register. -/
def Dev.rdOwn (d : Dev) (t a : Nat) : W := Tab.getD (regReset a) d.regs (ownCopy t a)

/-- The device with `v` in a triad's own copy of a register. -/
def Dev.wrOwn (d : Dev) (t a : Nat) (v : W) : Dev := d.wr (ownCopy t a) v

/-! ## Memory -/

/-- The byte at address `a`; an unlisted address reads `dflt`. -/
def Mem.get (dflt : Byte) (m : Mem) (a : Nat) : Byte := Tab.getD dflt m a

/-- The memory with byte `b` at `a`: writing what an unlisted address reads as removes the entry. -/
def Mem.put (dflt : Byte) (a : Nat) (b : Byte) (m : Mem) : Mem :=
  if b = dflt then Tab.erase a m else Tab.set a b m

/-- The canonical form: addresses strictly rising, no entry equal to what an unlisted address reads as. -/
def Mem.wf (dflt : Byte) (m : Mem) : Bool := Tab.wf m && m.all (fun p => p.2 != dflt)

/-- `n` bytes from address `a`, in address order. -/
def Mem.getN (dflt : Byte) (m : Mem) (a n : Nat) : List Byte := (List.range n).map (fun i => Mem.get dflt m (a + i))

/-- The memory with bytes stored from address `a`. -/
def Mem.putN (dflt : Byte) : Nat → List Byte → Mem → Mem
  | _, [], m => m
  | a, b :: r, m => Mem.putN dflt (a + 1) r (Mem.put dflt a b m)

/-- A little-endian number of `n` bytes at `a` (R10). -/
def Mem.num (m : Mem) (a n : Nat) : Nat := leNat (Mem.getN 0 m a n)

/-- A word at `a`. -/
def Mem.word (m : Mem) (a : Nat) : W := BitVec.ofNat 32 (Mem.num m a 4)

/-- The memory with a word stored at `a`. -/
def Mem.putWord (a : Nat) (v : W) (m : Mem) : Mem := Mem.putN 0 a (leBytes 4 v.toNat) m

/-! ## Time -/

/-- The present STIME. -/
def Dev.now (d : Dev) : Time := d.tk.stime

/-- Fine ticks from `t` to now; 0 where `t` lies ahead. -/
def Dev.since (d : Dev) (t : Time) : Nat := d.now.toNat - t.toNat

abbrev usTicks : Nat := 16000
abbrev msTicks : Nat := 16000000
abbrev secTicks : Nat := 16000000000

/-- The calendar over `n` fine ticks: 32,768 crystal cycles in 16 × 10^9 ticks, and RTC_TRIM every 2^20 cycles
(R42, R45). The crystal is taken at its nominal frequency (log entry 8). -/
def Dev.rtcAdvance (n : Nat) (d : Dev) : Dev :=
  if d.isSet RTC_STAT RTC_STAT_OSCF then d
  else
    let x := d.cal.frac + n * 32768
    let c := x / secTicks
    let wraps := (d.cal.cyc + c) / 0x100000
    let steps := clampI 0 (2 ^ 62) ((c : Int) + wraps * signedOf 8 (d.fld RTC_TRIM RTC_TRIM_TRIM))
    let sub := (d.rd RTC_SUB).toNat + steps.toNat
    let d := { d with cal := { d.cal with frac := x % secTicks, cyc := (d.cal.cyc + c) % 0x100000 } }
    if steps = 0 then d
    else (d.wr RTC_SUB (BitVec.ofNat 32 (sub % 32768))).wr RTC_SEC (BitVec.ofNat 32 ((d.rd RTC_SEC).toNat + sub / 32768))

/-- The device with STIME at `t`. -/
def Dev.setTime (t : Time) (d : Dev) : Dev := { d with tk := { d.tk with stime := t } }

/-- The device at the instant `t`: STIME never runs backward, and does not run while power-on reset is asserted
(R31). -/
def Dev.at (t : Time) (d : Dev) : Dev :=
  if d.por ∨ t.toNat ≤ d.now.toNat then d
  else (d.rtcAdvance (t.toNat - d.now.toNat)).setTime t

/-! ## Operating state (Table SYS-1) -/

abbrev stReset : Nat := 0
abbrev stProbe : Nat := 1
abbrev stVerify : Nat := 2
abbrev stApply : Nat := 3
abbrev stTest : Nat := 4
abbrev stReady : Nat := 5
abbrev stRun : Nat := 6
abbrev stNocfg : Nat := 7
abbrev stShutdown : Nat := 8

def Dev.sysState (d : Dev) : Nat := d.fld SYS_STATE SYS_STATE_STATE
def Dev.setSys (d : Dev) (st : Nat) : Dev := d.setF SYS_STATE SYS_STATE_STATE st
def Dev.inRun (d : Dev) : Bool := d.sysState = stRun
/-- Configuration is locked (R68). -/
def Dev.locked (d : Dev) : Bool := d.isSet SYS_BOOT SYS_BOOT_LOCKED
/-- Slots and timers run: from RUN onwards (R47). -/
def Dev.epoch (d : Dev) : Time := d.rd64 TKP_EPOCH_LO TKP_EPOCH_HI

/-! ## Events (R72, R368, R371, R458) -/

/-- The SOURCE byte of an event of a hardware block. -/
abbrev srcHw : Nat := 0x10

/-- DATA padded to 16 bytes. -/
def dat (bs : List Nat) : List Byte :=
  ((bs.map (BitVec.ofNat 8)) ++ List.replicate 16 0).take 16

/-- The two bytes and the four bytes of a number. -/
def le2 (v : Nat) : List Nat := [v % 256, v / 256 % 256]
def le4 (v : Nat) : List Nat := [v % 256, v / 256 % 256, v / 65536 % 256, v / 16777216 % 256]
def le8 (v : Nat) : List Nat := le4 (v % 2 ^ 32) ++ le4 (v / 2 ^ 32 % 2 ^ 32)

/-- Line `l` of triad `t` becomes pending (R368). -/
def Dev.raiseLine (t l : Nat) (d : Dev) : Dev :=
  if l < 32 then d.putBit (COR_EVPEND0 t) l true else d.putBit (COR_EVPEND1 t) (l - 32) true

/-- Line `l` of triad `t` is no longer pending. -/
def Dev.dropLine (t l : Nat) (d : Dev) : Dev :=
  if l < 32 then d.putBit (COR_EVPEND0 t) l false else d.putBit (COR_EVPEND1 t) (l - 32) false

/-- Does an event code raise a line whose source word is `src` (Table COR-3, KIND 0x1)? -/
def codeMatches (src : W) (code : Nat) : Bool :=
  src.fld COR_EVSRC_KIND = 1 &&
    code / 256 = src.fld COR_EVSRC_ARG0 / 256 &&
    (code % 256) &&& (src.fld COR_EVSRC_ARG1 % 256) = (src.fld COR_EVSRC_ARG0 % 256) &&& (src.fld COR_EVSRC_ARG1 % 256)

/-- The configurable lines of the four triads. -/
def configLines : List (Nat × Nat) :=
  (List.range 4).flatMap (fun t => (List.range 48).map (fun i => (t, i + 16)))

/-- Every configurable line whose source word satisfies `p` becomes pending. -/
def Dev.raiseWhere (p : Nat → W → Bool) (d : Dev) : Dev :=
  configLines.foldl (fun d tl => if p tl.1 (d.rd (COR_EVSRC tl.1 tl.2)) then d.raiseLine tl.1 tl.2 else d) d

/-- The records kept in MRAM: the last 1,024, the newest first (Table JRN-2). -/
def keepGale (r : EventRec) (rs : List EventRec) : List EventRec := (r :: rs).take 1024

/-- One record of the event log, with the lines it raises (R72, Table COR-3). A Gale record is also kept in MRAM. -/
def Dev.logEvent (cls code src : Nat) (data : List Byte) (d : Dev) : Dev :=
  let r : EventRec := ⟨d.now, d.rd RTC_SEC, code, src, cls, data⟩
  let h := d.fld SYS_EVT_HEAD SYS_EVT_HEAD_HEAD
  let d := { d with log := Tab.set h r d.log, gales := if cls = clsGale then keepGale r d.gales else d.gales }
  let d := d.setF SYS_EVT_HEAD SYS_EVT_HEAD_HEAD ((h + 1) % 1024)
  let d := d.inc32 SYS_EVT_CNT
  d.raiseWhere (fun _ w => codeMatches w code)

/-- Events that reach the Gaffer beside those of class Gale and safe state (R26, R92): the cascade deadline flag, the
group assertion, the mismatches, the Lehr's levels and the supply warning. 0x250A is the outcome of the Gaffer's own
command and does not return to it (log entry 9). -/
def toGaffer (cls code : Nat) : Bool :=
  ((cls = clsSafe || cls = clsGale) && code ≠ EV_RED_SAFE_ENTER) ||
  [EV_CEN_MISS, EV_TRP_GROUP_TRIP, EV_CEN_PAIR_MISMATCH, EV_CEN_LATENT, EV_RED_TRIAD_MINORITY,
   EV_RED_TRIAD_RESTART, EV_RED_TRIAD_LATENT, EV_THM_WARNING, EV_THM_THROTTLE, EV_THM_DERATE, EV_THM_NORMAL,
   EV_SUP_WARNING, EV_LEG_GL_NOLINK].contains code

/-- A record made at most once per `gap` fine ticks, with the count of occurrences since the last one (R458). -/
def Dev.rated (cls code inst gap : Nat) (mk : Nat → List Byte) (d : Dev) : Dev :=
  let key := code * 0x10000 + inst
  let r := Tab.getD default d.rates key
  let n := satInc 32 r.cnt
  let due := match r.last with
    | none => true
    | some t => gap ≤ d.since t
  if due then
    ({ d with rates := Tab.set key ⟨some d.now, 0⟩ d.rates }).logEvent cls code srcHw (mk n)
  else { d with rates := Tab.set key ⟨r.last, n⟩ d.rates }

/-- An event enters T0's safety queue; with the queue full, RED acts as the deputy and 0x3004 is recorded (R371). -/
def Dev.toSafeq (code : Nat) (d : Dev) : Dev :=
  if d.safeq.length < 256 then
    ({ d with safeq := d.safeq ++ [code] }).raiseLine 0 8
  else d.rated clsWarning EV_COR_SAFEQ_FULL 0 secTicks (fun n => dat ([0] ++ le4 n))

/-- An event of class `cls`: recorded, and passed to the Gaffer where R26 directs it there. While RED is the deputy it
also holds the event for T0 (R290). -/
def Dev.evtC (cls code src : Nat) (data : List Nat) (d : Dev) : Dev :=
  let d := d.logEvent cls code src (dat data)
  if toGaffer cls code then d.toSafeq code else d

/-- An event of the class its table gives. -/
def Dev.evt (code : Nat) (data : List Nat) (d : Dev) : Dev := d.evtC (evClass code) code srcHw data

/-- An event at most once a second per instance, with the count in the four bytes after the instance's (R458). -/
def Dev.evtRated (code inst : Nat) (name : List Nat) (d : Dev) : Dev :=
  let r := d.rated (evClass code) code inst secTicks (fun n => dat (name ++ le4 n))
  if toGaffer (evClass code) code && r.fld SYS_EVT_CNT ⟨0, 32⟩ ≠ d.fld SYS_EVT_CNT ⟨0, 32⟩ then r.toSafeq code else r

/-- A refused write: 0x0108 with the address and the writing triad (R12). -/
def Dev.lockedWrite (t a : Nat) (d : Dev) : Dev := d.evtC clsWarning EV_SYS_LOCKED_WRITE t (le4 a ++ [t])

/-- An access to an unassigned offset: 0x0109 (R13). -/
def Dev.unmapped (t a : Nat) (write : Bool) (d : Dev) : Dev :=
  d.evtC clsWarning EV_SYS_UNMAPPED_ACCESS t (le4 a ++ [t, b2n write])

/-! ## Functions and their bindings -/

/-- The functions that FUNC records define. -/
def Dev.fns (d : Dev) : List Nat := d.img.funcs.map (·.1)

/-- The FUNC record of function `f`. -/
def Dev.func (d : Dev) (f : Nat) : Option FuncRec :=
  (d.img.funcs.find? (fun p => p.1 = f)).map (·.2)

def Dev.funcD (d : Dev) (f : Nat) : FuncRec := Tab.getD default d.img.funcs f

/-- The function that binds a resource. -/
def Dev.ownerBy (d : Dev) (p : FuncRec → Bool) : Option Nat :=
  (d.img.funcs.find? (fun q => p q.2)).map (·.1)

def Dev.legOwner (d : Dev) (n : Nat) : Option Nat :=
  if d.isSet (LEG_CFG n) LEG_CFG_BOUND then some (d.fld (LEG_CFG n) LEG_CFG_FN) else none

def Dev.cascOwner (d : Dev) (i : Nat) : Option Nat := d.ownerBy (fun r => r.casc.any (fun c => c.1 = i))
def Dev.axuOwner (d : Dev) (u : Nat) : Option Nat := d.ownerBy (fun r => r.axuA = some u || r.axuB = some u)
def Dev.cvuOwner (d : Dev) (u : Nat) : Option Nat := d.ownerBy (fun r => r.cvu = some u)
def Dev.seqOwner (d : Dev) (s : Nat) : Option Nat := d.ownerBy (fun r => r.seqs.contains s)

def Dev.enabled (d : Dev) (f : Nat) : Bool := d.isSet (RED_FNSTATE f) RED_FNSTATE_ENABLED
def Dev.inSafe (d : Dev) (f : Nat) : Bool := d.isSet (RED_FNSTATE f) RED_FNSTATE_SAFE

/-- Apply an operation to each number of a list in turn. -/
def Dev.forEach (xs : List Nat) (op : Nat → Dev → Dev) (d : Dev) : Dev := xs.foldl (fun d x => op x d) d

/-- Apply an operation where a condition holds. -/
def Dev.when (c : Bool) (op : Dev → Dev) (d : Dev) : Dev := if c then op d else d

/-- Apply an operation to a value that may be absent. -/
def Dev.whenSome {α : Type} (o : Option α) (op : α → Dev → Dev) (d : Dev) : Dev :=
  match o with
  | some x => op x d
  | none => d

/-- The next answer to a question whose value the specification leaves open, and the device with the counter of such
answers advanced. -/
def Dev.ask (kind : Nat) (d : Dev) : W × Dev := (Config.freeWord kind d.asked, { d with asked := d.asked + 1 })

/-- A command's effect at the instant `t`: everything but the queue of waiting commands. -/
def State.onAny (t : Time) (f : Dev → Dev) (s : State) : Host.Outcome State Fault Refusal :=
  .next { s with dev := f (s.dev.at t) }

/-- Nothing runs while power-on reset is asserted (R434), and after a thermal shutdown only THM sampling, SUP and RTC do
(R391, R392). -/
def Dev.stopped (d : Dev) : Bool := d.por || d.isSet THM_STAT THM_STAT_SHUT

/-- The effect of a command of any block that a shutdown stops: none while the module is stopped. -/
def State.on (t : Time) (f : Dev → Dev) (s : State) : Host.Outcome State Fault Refusal :=
  s.onAny t (fun d => if d.stopped then d else f d)

/-- A command's effect where the operand list carries no instant. -/
def State.onNow (f : Dev → Dev) (s : State) : Host.Outcome State Fault Refusal :=
  .next { s with dev := f s.dev }

end Sys2Proof.Machine
end

