-- ==== Sys2Proof/Machine/Request.lean ====
section
/-! DEFINITION. The background requests of the triads (R400) as far as the resources that serve them need them: each triad
has its own BKG_REQ and BKG_RES. -/

namespace Sys2Proof.Machine

abbrev brPending : Nat := 0
abbrev brGranted : Nat := 1
abbrev brPass : Nat := 2
abbrev brFail : Nat := 3
abbrev brDeferred : Nat := 4
abbrev brRefused : Nat := 5

/-- Has triad `t` a request pending, of this kind and target? -/
def Dev.reqGo (d : Dev) (t : Nat) : Bool := (d.rdOwn t BKG_REQ).bit 31
def Dev.reqIs (d : Dev) (t kind target : Nat) : Bool :=
  d.reqGo t && (d.rdOwn t BKG_REQ).fld BKG_REQ_KIND = kind && (d.rdOwn t BKG_REQ).fld BKG_REQ_TARGET = target

/-- The result shown to triad `t`. -/
def Dev.reqShow (t result : Nat) (d : Dev) : Dev := d.wrOwn t BKG_RES (BitVec.ofNat 32 result)

/-- The request of triad `t` ends with a final result. -/
def Dev.reqEnd (t result : Nat) (d : Dev) : Dev :=
  (d.wrOwn t BKG_RES (BitVec.ofNat 32 (0x80000000 + result))).wrOwn t BKG_REQ ((d.rdOwn t BKG_REQ).setBit 31 false)

/-- A test of a resource has ended: requests that wait for it end with its outcome. -/
def Dev.reqServed (kind target : Nat) (pass : Bool) (d : Dev) : Dev :=
  d.forEach (List.range 4) (fun t d => d.when (d.reqIs t kind target) (fun d => d.reqEnd t (if pass then brPass else brFail)))

/-- Does any triad wait for this? -/
def Dev.reqWanted (d : Dev) (kind target : Nat) : Bool := (List.range 4).any (fun t => d.reqIs t kind target)

/-- A request that cannot get its resource shows DEFERRED (R400). -/
def Dev.reqDefer (t : Nat) (d : Dev) : Dev :=
  let d := d.wrOwn t BKG_RES (BitVec.ofNat 32 brDeferred)
  (({ d with bkg := { d.bkg with deferred := d.bkg.deferred + 1 } }).setF BKG_FLT BKG_FLT_DEFER 1).evtRated EV_BKG_DEFERRED 0 [t, 0, 0, 0]

/-- A test tick or a readback of window `n`: a request of kind 0x2 takes four ticks and one readback (Table BKG-3). -/
def Dev.reqWindow (n : Nat) (tick failed : Bool) (d : Dev) : Dev :=
  d.forEach (List.range 4) (fun t d =>
    if !d.reqIs t 2 n then d
    else
      let p : ReqProg := Tab.getD default d.bkg.progress t
      let p : ReqProg := { ticks := if tick then p.ticks + 1 else p.ticks, readback := p.readback || !tick, failed := p.failed || failed }
      let d := { d with bkg := { d.bkg with progress := Tab.set t p d.bkg.progress } }
      if 4 ≤ p.ticks && p.readback then d.reqEnd t (if p.failed then brFail else brPass) else d)

/-- Is one of the 64-bit words that hold these bytes of shared SRAM poisoned (Table BKG-1)? -/
def Dev.poisoned (d : Dev) (a n : Nat) : Bool := d.bkg.poison.any (fun w => w < a + n && a < w + 8)

/-- A write of whole words clears their poison. -/
def Dev.unpoison (a n : Nat) (d : Dev) : Dev :=
  if d.bkg.poison.isEmpty then d
  else { d with bkg := { d.bkg with poison := d.bkg.poison.filter (fun w => !(a ≤ w && w + 8 ≤ a + n)) } }

end Sys2Proof.Machine
end

