-- ==== Sys2Proof/Machine/Safe.lean ====
section
/-! DEFINITION. Safe states: what the legs, units and cascades of a function do in one (R25, R285–R288, R456), the
commands that bring one, and the link frames that report it (R304). -/

namespace Sys2Proof.Machine

/-! ## Link frames -/

abbrev roleSingle : Nat := 0
abbrev roleDeciding : Nat := 1
abbrev roleActive : Nat := 2
abbrev roleAlone : Nat := 3
abbrev roleSyncing : Nat := 4
abbrev roleStandby : Nat := 5
abbrev roleTakeover : Nat := 6
abbrev roleBarred : Nat := 7

def Dev.role (d : Dev) : Nat := d.fld LNK_STAT LNK_STAT_ROLE
def Dev.paired (d : Dev) : Bool := d.isSet LNK_CFG LNK_CFG_PAIRED
def Dev.linkUp (d : Dev) : Bool := d.isSet LNK_STAT LNK_STAT_LINKUP
def Dev.holdsToken (d : Dev) : Bool := d.isSet LNK_STAT LNK_STAT_TOKEN

/-- The roles that hold the token: the others keep their functions disabled (R303). -/
def Dev.masterRole (d : Dev) : Bool := d.role = roleSingle || d.role = roleActive || d.role = roleAlone

/-- A frame goes to the partner: it takes the next link sequence number and waits for its acknowledgement (R297). With
the link down nothing is sent. -/
def Dev.linkSend (m : LinkMsg) (d : Dev) : Dev :=
  if d.paired && d.linkUp then
    { d with lnk := { d.lnk with txSeq := (d.lnk.txSeq + 1) % 2 ^ 32
                                 unacked := d.lnk.unacked ++ [⟨d.lnk.txSeq, m, 1, d.now⟩] } }
  else d

/-- A change of a function's RED_FNSTATE is sent by the module that holds the token (Table LNK-4). -/
def Dev.sendFn (f : Nat) (d : Dev) : Dev :=
  if d.role = roleActive || d.role = roleAlone then d.linkSend (.fnstate f (d.rd (RED_FNSTATE f))) else d

/-! ## Safe-state codes -/

abbrev sfOff : Nat := 0
abbrev sfAscLow : Nat := 1
abbrev sfAscHigh : Nat := 2
abbrev sfHold : Nat := 3
abbrev sfBrake : Nat := 4

/-- The states Table ARCH-3 permits for a kind. -/
def permitted (kind st : Nat) : Bool :=
  if kind = 1 || kind = 2 then [sfOff, sfAscLow, sfAscHigh, sfBrake].contains st
  else if kind = 7 then [sfOff, sfHold].contains st
  else if kind = 8 then [sfOff, sfAscLow, sfHold].contains st
  else st = sfOff

/-- Motor-class and converter-class kinds (R19, chapter 10). -/
def isMotorKind (k : Nat) : Bool := k = 1 || k = 2 || k = 8
def isCvuKind (k : Nat) : Bool := 3 ≤ k && k ≤ 6

/-! ## Legs -/

/-- What the pairs of leg `n` carry: nothing while its transmitters are off; off under R84; the trip response; the
function's safe state; else its computed levels (R88, R286, Table RED-6). -/
def Dev.legDrive (d : Dev) (n : Nat) : Drive :=
  let lg := Tab.getD default d.legs n
  if !d.isSet (LEG_STAT n) LEG_STAT_TXEN then .hiZ
  else if d.isSet (LEG_STAT n) LEG_STAT_FORCED_OFF then .off
  else if d.isSet (LEG_STAT n) LEG_STAT_TRIPPED then
    (match d.fld (LEG_TRIP n) LEG_TRIP_RESP with | 1 => .low | 2 => .high | _ => .off)
  else match d.legOwner n with
    | none => .off
    | some f =>
      if d.inSafe f then
        (match d.fld (RED_FNSTATE f) RED_FNSTATE_STATE with
          | 1 => .low
          | 2 => .high
          | 3 => if lg.loaded then .computed else .off
          | 4 => if d.isSet (RED_FNSTATE f) RED_FNSTATE_BRKOFF then .off else .low
          | _ => .off)
      else if d.enabled f && lg.loaded && !lg.armed && !lg.parked then .computed
      else .off

/-- LEG_STAT.ENABLED follows what the leg drives. -/
def Dev.legRefresh (n : Nat) (d : Dev) : Dev :=
  d.setF (LEG_STAT n) LEG_STAT_ENABLED (b2n (d.legDrive n = .computed))

def Dev.legOf (d : Dev) (n : Nat) : Leg := Tab.getD default d.legs n
def Dev.putLeg (n : Nat) (l : Leg) (d : Dev) : Dev := { d with legs := Tab.set n l d.legs }
def Dev.modLeg (n : Nat) (g : Leg → Leg) (d : Dev) : Dev := d.putLeg n (g (d.legOf n))

/-- The legs a function binds, by leg position (R179): a substitute stands at its primary's position. -/
def Dev.fnLegs (d : Dev) (f : Nat) : List Nat := (d.funcD f).legs

/-- A leg's transmitters off for good or for now: high impedance (R46, R86, R98). -/
def Dev.legHiZ (n : Nat) (d : Dev) : Dev :=
  (d.setF (LEG_STAT n) LEG_STAT_TXEN 0).legRefresh n

/-- A T0 request ends: LEG_GLRSP holds its result (R100). -/
def Dev.glReply (n : Nat) (err noack : Bool) (status data : Nat) (d : Dev) : Dev :=
  (d.wr (LEG_GLRSP n) (BitVec.ofNat 32 (0x80000000 + b2n err * 0x40000000 + b2n noack * 0x20000000 + status % 256 * 65536 + data % 65536))).setF
    (LEG_GLREQ n) LEG_GLREQ_GO 0

/-- A leg leaves the gate link: transmitters to high impedance, its transactions dropped (R98). -/
def Dev.undrive (n : Nat) (d : Dev) : Dev :=
  let d := d.modLeg n (fun l => { l with enSeq := none, inflight := none, pollTodo := [], armed := false })
  let d := d.when (d.isSet (LEG_GLREQ n) LEG_GLREQ_GO) (fun d => d.glReply n true false 0 0)
  d.legHiZ n

/-! ## Cascades -/

abbrev pairOf (i : Nat) : Nat := i / 4
abbrev cascOf (i : Nat) : Nat := i % 4

def Dev.cascActive (d : Dev) (i : Nat) : Bool := d.isSet (CEN_CSTAT (pairOf i) (cascOf i)) CEN_CSTAT_ACTIVE
def Dev.cascPend (d : Dev) (i : Nat) : Bool := d.bit (CEN_STAT (pairOf i)) (20 + cascOf i)
def Dev.cascRun (d : Dev) (i : Nat) : Bool := d.bit (CEN_STAT (pairOf i)) (16 + cascOf i)
def Dev.setPend (i : Nat) (b : Bool) (d : Dev) : Dev := d.putBit (CEN_STAT (pairOf i)) (20 + cascOf i) b
def Dev.setRun (i : Nat) (b : Bool) (d : Dev) : Dev := d.putBit (CEN_STAT (pairOf i)) (16 + cascOf i) b
def Dev.cascade (d : Dev) (i : Nat) : Casc := Tab.getD default d.cascs i
def Dev.modCasc (i : Nat) (g : Casc → Casc) (d : Dev) : Dev := { d with cascs := Tab.set i (g (d.cascade i)) d.cascs }

/-- The cascades of a function stop: they accept no trigger, and nothing pends or runs (Table RED-6). -/
def Dev.stopCascades (f : Nat) (d : Dev) : Dev :=
  d.forEach ((d.funcD f).casc.map (·.1)) (fun i d =>
    ((d.setF (CEN_CSTAT (pairOf i) (cascOf i)) CEN_CSTAT_ACTIVE 0).setPend i false).setRun i false)

/-! ## Axis and converter units -/

def Dev.axu (d : Dev) (u : Nat) : Axu := Tab.getD default d.axus u
def Dev.modAxu (u : Nat) (g : Axu → Axu) (d : Dev) : Dev := { d with axus := Tab.set u (g (d.axu u)) d.axus }
def Dev.cvu (d : Dev) (u : Nat) : Cvu := Tab.getD default d.cvus u
def Dev.modCvu (u : Nat) (g : Cvu → Cvu) (d : Dev) : Dev := { d with cvus := Tab.set u (g (d.cvu u)) d.cvus }

/-- The axis units of a function: one, or an even and the next odd one (R19). -/
def Dev.fnAxus (d : Dev) (f : Nat) : List Nat :=
  let r := d.funcD f
  r.axuA.toList ++ r.axuB.toList

/-- A unit stops: it commits nothing and delivers no producer words (R198, R244). -/
def Dev.stopUnits (f : Nat) (d : Dev) : Dev :=
  let d := d.forEach (d.fnAxus f) (fun u d =>
    (((d.setF (AXU_STAT u) AXU_STAT_ENABLED 0).setF (AXU_STAT u) AXU_STAT_FWD_BUSY 0).setF
      (AXU_STAT u) AXU_STAT_INV_BUSY 0).modAxu u (fun a => { a with invDue := false, committed := false }))
  d.whenSome (d.funcD f).cvu (fun u d =>
    (d.setF (CVU_STAT u) CVU_STAT_ENABLED 0).modCvu u (fun c => { c with invDue := false, committed := false }))

/-- The position phase ends and the unit returns to IDLE with TRIES cleared (R222); a latched FAULT stays for its
acknowledgement (R221). -/
def Dev.posIdle (f : Nat) (d : Dev) : Dev :=
  d.forEach (d.fnAxus f) (fun u d =>
    if d.isSet (AXU_POSSTAT u) AXU_POSSTAT_LATCHED then d
    else ((d.setF (AXU_POSSTAT u) AXU_POSSTAT_PHASE 0).setF (AXU_POSSTAT u) AXU_POSSTAT_TRIES 0).modAxu u
      (fun a => { a with meas := [], trackAt := none, reacq := false }))

/-! ## Safe-state commands -/

/-- The causes that latch (R288): a Gale. -/
def latchesEntry (code : Nat) : Bool := evClass code = clsGale
/-- The events that latch by themselves (R288): 0x1114 and 0x1008. -/
def latchesItself (code : Nat) : Bool := code = EV_AXU_POS_FAULT || code = EV_LEG_GL_CONTENTION

/-- Causes that leave the position step where it is, for its next attempt (R219–R222): the loss of position and a failed
attempt to find it. -/
def keepsPhase (code : Nat) : Bool := [EV_AXU_POS_LOST, EV_AXU_CONVERGE_FAIL, EV_AXU_POLARITY_FAIL, EV_AXU_POS_FAULT].contains code

/-- The record 0x250A (R293). -/
def Dev.safeRecord (f st cause : Nat) (applied : Bool) (d : Dev) : Dev :=
  d.evt EV_RED_SAFE_ENTER (le2 f ++ [st, b2n applied] ++ le2 cause)

/-- Function `f` enters state `st` for `cause` (R285, R286, R456). -/
def Dev.enterSafe (f st cause : Nat) (d : Dev) : Dev :=
  let r := RED_FNSTATE f
  let d := d.safeRecord f st cause true
  let d := (((d.setF r RED_FNSTATE_SAFE 1).setF r RED_FNSTATE_STATE st).setF r RED_FNSTATE_CAUSE cause).setF r
    RED_FNSTATE_ENABLED 0
  let d := d.setF r RED_FNSTATE_BRKOFF 0
  let d := d.when (latchesEntry cause || latchesItself cause || d.isSet (RED_FNSAFE f) RED_FNSAFE_LATCHALL)
    (fun d => d.setF r RED_FNSTATE_LATCHED 1)
  let d := { d with red := { d.red with brakeAt := Tab.set f d.now d.red.brakeAt } }
  let d := (d.stopCascades f).stopUnits f
  let d := d.when (!keepsPhase cause) (fun d => d.posIdle f)
  let d := d.forEach (d.fnLegs f) (fun n d => (d.modLeg n (fun l => { l with enSeq := none, armed := false })).legRefresh n)
  d.sendFn f

/-- A safe-state command reaches function `f` (R287): the first decides; a later one changes the state only with the same
cause; any other is recorded as not applied. A state that the kind does not permit is not entered (R285). A command for
the state and cause already in force has no effect (log entry 10). -/
def Dev.safeCommand (f st cause : Nat) (d : Dev) : Dev :=
  let r := RED_FNSTATE f
  if !(d.func f).isSome || !permitted (d.funcD f).kind st then d
  else if !d.inSafe f then d.enterSafe f st cause
  else if d.fld r RED_FNSTATE_CAUSE = cause then
    (if d.fld r RED_FNSTATE_STATE = st then d else d.enterSafe f st cause)
  else
    let d := d.safeRecord f st cause false
    d.when (latchesItself cause) (fun d => (d.setF r RED_FNSTATE_LATCHED 1).sendFn f)

/-- The function's own safe state for `cause`, where a rule says that the Gaffer commands it. -/
def Dev.gafferSafe (f cause : Nat) (d : Dev) : Dev := d.safeCommand f (d.funcD f).safe cause

/-- The safe state of every function for `cause`. -/
def Dev.gafferAll (cause : Nat) (d : Dev) : Dev := d.forEach d.fns (fun f d => d.gafferSafe f cause)

/-- The safe state of the function that may own a resource. -/
def Dev.gafferOwner (o : Option Nat) (cause : Nat) (d : Dev) : Dev := d.whenSome o (fun f d => d.gafferSafe f cause)

end Sys2Proof.Machine
end

