-- ==== Sys2Proof/Machine/Trip.lean ====
section
/-! DEFINITION. The trip matrix: source levels, source conditions, assertion and release of groups (R141–R144), and the
trip response of the legs (R88). -/

namespace Sys2Proof.Machine

/-- The level of window `n` to the matrix (R133, R138). -/
def Dev.cmpLevel (d : Dev) (n : Nat) : Bool :=
  d.isSet (CMP_CFG n) CMP_CFG_EN && !d.isSet (CMP_STAT n) CMP_STAT_RETIRED && d.isSet (CMP_STAT n) CMP_STAT_TRIPPED

/-- The level of source `x` of Table TRP-1 to group `g`. -/
def Dev.srcLevel (d : Dev) (g x : Nat) : Bool :=
  if x < 64 then d.cmpLevel x
  else if x < 96 then d.isSet (DSM_STAT (x - 64)) DSM_STAT_OC
  else if x < 144 then (d.legOf (x - 96)).pull
  else if x < 148 then d.bit TRP_STAT (16 + (x - 144))
  else x = 148 && d.bit TRP_SWTRIP g

/-- Is source `x` enabled in the masks of group `g`? -/
def Dev.srcMask (d : Dev) (g x : Nat) : Bool :=
  if x < 32 then d.bit (TRP_GCMP0 g) x
  else if x < 64 then d.bit (TRP_GCMP1 g) (x - 32)
  else if x < 96 then d.bit (TRP_GDSM g) (x - 64)
  else if x < 128 then d.bit (TRP_GPULL0 g) (x - 96)
  else if x < 144 then d.bit (TRP_GPULL1 g) (x - 128)
  else d.bit (TRP_GEXT g) (x - 144)

/-- The sources that make the source condition of group `g` true, lowest first (R141). -/
def Dev.trueSources (d : Dev) (g : Nat) : List Nat :=
  if d.isSet (TRP_GCFG g) TRP_GCFG_EN then
    (List.range 149).filter (fun x => d.srcMask g x && d.srcLevel g x)
  else []

def Dev.asserted (d : Dev) (g : Nat) : Bool := d.bit TRP_STAT g
def Dev.trp (d : Dev) (g : Nat) : Trp := Tab.getD default d.trps g
def Dev.modTrp (g : Nat) (h : Trp → Trp) (d : Dev) : Dev := { d with trps := Tab.set g (h (d.trp g)) d.trps }

/-- The function whose FUNC record names group `g`. -/
def Dev.groupFn (d : Dev) (g : Nat) : Option Nat := d.ownerBy (fun r => r.tg = g)

/-- The group that a function names. -/
def Dev.fnGroup (d : Dev) (f : Nat) : Nat := (d.funcD f).tg

/-- Groups latch from RUN onwards in a module that holds the token (R142, R303). -/
def Dev.latching (d : Dev) : Bool := d.inRun && d.masterRole

/-- The legs of a function take their trip response (R88). -/
def Dev.tripLegs (f : Nat) (d : Dev) : Dev :=
  d.forEach (d.fnLegs f) (fun n d => (d.setF (LEG_STAT n) LEG_STAT_TRIPPED 1).legRefresh n)

/-- Group `g` becomes asserted by source `x` (R143). -/
def Dev.assertGroup (g x : Nat) (d : Dev) : Dev :=
  let d := d.putBit TRP_STAT g true
  let d := d.wr (TRP_GFIRST g) (BitVec.ofNat 32 (0x80000000 + x))
  let d := d.wr64 (TRP_GSTAMP_LO g) (TRP_GSTAMP_HI g) d.now
  let d := d.incSat (TRP_GCNT g) TRP_GCNT_TRIPS
  let d := d.whenSome (d.groupFn g) (fun f d =>
    let d := (d.tripLegs f).posIdle f
    { d with bkg := { d.bkg with assertions := Tab.set f (Tab.getD 0 d.bkg.assertions f + 1) d.bkg.assertions } })
  d.evt EV_TRP_GROUP_TRIP [g, x]

/-- The matrix looks at group `g`. -/
def Dev.evalGroup (g : Nat) (d : Dev) : Dev :=
  let xs := d.trueSources g
  if d.latching then
    let d := d.modTrp g (fun s =>
      { s with hardSrc := s.hardSrc || xs.any (fun x => 96 ≤ x)
               falseSince := if xs.isEmpty then (if s.falseSince.isSome then s.falseSince else some d.now) else none })
    match xs with
    | x :: _ => if d.asserted g then d else d.assertGroup g x
    | [] => d
  else d.putBit TRP_STAT g (!xs.isEmpty)

/-- The matrix looks at every group. -/
def Dev.evalGroups (d : Dev) : Dev := d.forEach (List.range 16) Dev.evalGroup

/-- At the entry into RUN, and at a takeover, latching starts from the present source condition (R142, R310). -/
def Dev.startLatching (d : Dev) : Dev :=
  (d.forEach (List.range 16) (fun g d => (d.putBit TRP_STAT g false).modTrp g (fun _ => default))).evalGroups

/-- Group `g` is released; its legs resume at their next period boundary (R144, R88). -/
def Dev.releaseGroup (g : Nat) (auto : Bool) (d : Dev) : Dev :=
  let d := d.putBit TRP_STAT g false
  let d := d.modTrp g (fun s =>
    { s with hardSrc := false
             autoRels := if auto then d.now :: s.autoRels else s.autoRels
             autoStop := if auto then s.autoStop else false })
  let d := d.when auto (fun d => d.incSat (TRP_GCNT g) TRP_GCNT_AUTOREL)
  d.evt EV_TRP_RELEASE [g, b2n auto]

end Sys2Proof.Machine
end

