-- ==== Sys2Proof/Machine/Journal.lean ====
section
/-! DEFINITION. The journal as it stands in MRAM (R348, R354–R357): writing a record at the head, the fill, the tail,
copying forward, and requests. What a committed record completes stands with the queues. -/

namespace Sys2Proof.Machine

abbrev jkTx : Nat := 1
abbrev jkRx : Nat := 2
abbrev jkDone : Nat := 3
abbrev jkTaken : Nat := 4
abbrev jkStream : Nat := 5
abbrev jkLimit : Nat := 6
abbrev jkAck : Nat := 7
abbrev jkEpoch : Nat := 8
abbrev jkForward : Nat := 9

/-- Bytes of the ring region (Table JRN-2). -/
abbrev ringBytes : Nat := 0x1E00000

/-- The bytes of a record (Table JRN-1). -/
def jrnRecord (kind que jepoch jpos seq : Nat) (stime : Time) (body : List Byte) : List Byte :=
  let len := (36 + body.length + 31) / 32 * 32
  let b := body ++ List.replicate (len - 36 - body.length) 0
  let r := leBytes 2 len ++ leBytes 1 kind ++ leBytes 1 que ++ leBytes 4 jepoch ++ leBytes 8 jpos ++ leBytes 8 seq ++
    leBytes 8 stime.toNat ++ b
  r ++ leBytes 4 (crc32 r).toNat

/-- Bytes stored in the ring from an offset, wrapping at its end. -/
def ringPut : Nat → List Byte → Mem → Mem
  | _, [], m => m
  | o, b :: r, m => ringPut ((o + 1) % ringBytes) r (Mem.put 0 o b m)

/-- `n` bytes of the ring from an offset. -/
def ringGet (m : Mem) (o n : Nat) : List Byte := (List.range n).map (fun i => Mem.get 0 m ((o + i) % ringBytes))

/-- Bytes between tail and head. -/
def Jrn.used (j : Jrn) : Nat := (j.head + ringBytes - j.tail) % ringBytes

/-- The fill in 0.1 % (R355). -/
def Jrn.fill (j : Jrn) : Nat := j.used * 1000 / ringBytes

/-- The tail moves past records that no longer matter: to the live record that lies first from the tail, or to the
head. -/
def Jrn.advanceTail (j : Jrn) : Jrn :=
  let dist := fun (e : JLive) => (e.off + ringBytes - j.tail) % ringBytes
  { j with tail := (j.tail + j.live.foldl (fun m e => min m (dist e)) j.used) % ringBytes }

/-- The journal after a change of its fill: its flags, WARN at WARNPCT, FULL at 90 % and its end below 85 % (R355). -/
def Dev.jrnFill (d : Dev) : Dev :=
  let f := d.jrn.fill
  let d := d.setF JRN_STAT JRN_STAT_FILL f
  let d := if d.fld JRN_CFG JRN_CFG_WARNPCT * 10 ≤ f then
      (if d.jrn.warned then d
       else ({ d with jrn := { d.jrn with warned := true } }.setF JRN_FLT JRN_FLT_WARN 1).evt EV_JRN_WARN_FILL (le2 f))
    else { d with jrn := { d.jrn with warned := false } }
  if 900 ≤ f then
    (if d.isSet JRN_STAT JRN_STAT_FULL then d
     else ((d.setF JRN_STAT JRN_STAT_FULL 1).setF JRN_FLT JRN_FLT_FULL 1).evt EV_JRN_FULL (le2 f))
  else if f < 850 then d.setF JRN_STAT JRN_STAT_FULL 0
  else d

/-- Acceptance is refused (R355). -/
def Dev.jrnFull (d : Dev) : Bool := d.isSet JRN_STAT JRN_STAT_FULL

/-- The bytes of a record at the head, with no care for what lies ahead of it. -/
def Dev.jrnPut (kind que seq : Nat) (body : List Byte) (d : Dev) : Dev :=
  let j := d.jrn
  let r := jrnRecord kind que j.jepoch j.jpos seq d.now body
  let h := j.head + r.length
  { d with mram := ringPut j.head r d.mram
           jrn := { j with head := h % ringBytes, jpos := (j.jpos + 1) % 2 ^ 64
                           passes := if ringBytes ≤ h then j.passes + 1 else j.passes } }

/-- A live record about to be overtaken by the head is copied forward. -/
def Dev.jrnForward (need : Nat) : Nat → Dev → Dev
  | 0, d => d
  | n + 1, d =>
    let j := d.jrn.advanceTail
    let d := { d with jrn := j }
    if j.used + need + 512 ≤ ringBytes then d
    else match j.live with
      | [] => d
      | e :: _ =>
        let old := j.live.foldl (fun (m : JLive) (x : JLive) =>
          if (x.off + ringBytes - j.tail) % ringBytes < (m.off + ringBytes - j.tail) % ringBytes then x else m) e
        let body := (ringGet d.mram old.off old.len).drop 32 |>.take (old.len - 36)
        let off := j.head
        let pos := j.jpos
        let d := d.jrnPut jkForward old.que old.seq ([BitVec.ofNat 8 old.kind] ++ body.take 219)
        let moved : JLive := { old with off := off, jpos := pos, len := (36 + min (body.length + 1) 220 + 31) / 32 * 32 }
        let live := d.jrn.live.map (fun x => if x.jpos = old.jpos then moved else x)
        Dev.jrnForward need n { d with jrn := { d.jrn with live := live } }

/-- A record is committed at the head (R348): written, and live where `live` says so. -/
def Dev.jrnCommit (kind que seq : Nat) (body : List Byte) (live : Option JLive) (d : Dev) : Dev :=
  let len := (36 + body.length + 31) / 32 * 32
  let d := d.jrnForward len d.jrn.live.length
  let off := d.jrn.head
  let pos := d.jrn.jpos
  let d := d.jrnPut kind que seq body
  let add := live.toList.map (fun (e : JLive) => { e with off := off, len := len, jpos := pos })
  let j : Jrn := { d.jrn with live := d.jrn.live ++ add }
  ({ d with jrn := j.advanceTail }).jrnFill

/-- Live entries that end: a DONE or TAKEN record of queue `q` and sequence number `seq`. -/
def Dev.jrnEnd (q seq : Nat) (d : Dev) : Dev :=
  { d with jrn := { d.jrn with live := d.jrn.live.filter (fun e => !(e.kind ≠ jkStream && e.que = q && e.seq = seq)) } }

/-- A record is asked for; JOURNAL_COMMIT writes it. -/
def Dev.jrnRequest (kind que seq : Nat) (body : List Byte) (next : JThen) (d : Dev) : Dev :=
  { d with jrn := { d.jrn with reqs := d.jrn.reqs ++ [JReq.mk kind que seq body next 0 d.now] } }

/-- Every record asked for is written at once, for a module that stops (R292, R391, R434): nothing is answered. -/
def Dev.jrnFlush (d : Dev) : Dev :=
  let d := d.jrn.reqs.foldl (fun d r => d.jrnCommit r.kind r.que r.seq r.body none) d
  ({ d with jrn := { d.jrn with reqs := [], unacked := [] } }).setF JRN_STAT JRN_STAT_COMMITTING 0

end Sys2Proof.Machine
end

