-- ==== Sys2Proof/Machine/Audit.lean ====
section
/-! DEFINITION. What SEC does for every block that ends or changes something of a session (chapter 19): the audit log
(R419–R421), the module's answers (R407), failed attempts (R411) and the end of a session (R410). -/

namespace Sys2Proof.Machine

abbrev rlOperator : Nat := 1
abbrev rlInstaller : Nat := 2
abbrev rlMaker : Nat := 3

/-- The port number of the Ciwin link in sessions (Table SEC-3). -/
abbrev portLink : Nat := 0x10

/-- A role's record, or what R63 gives a role without one. -/
def Dev.roleRec (d : Dev) (role : Nat) : RoleRec := Tab.getD ⟨0x7F, 300, 5, 15⟩ d.img.roles role

/-- Are sessions of a role accepted on a port (R63, R67, R407)? In NOCFG only installer and maker on BUS0. -/
def Dev.roleOn (d : Dev) (role port : Nat) : Bool :=
  if d.sysState = stNocfg then port = 0 && (role = rlInstaller || role = rlMaker)
  else (d.roleRec role).ports.testBit (if port = portLink then 6 else port) && (port < 6 || port = portLink)

/-- The lock bit of a role in SEC_STAT. -/
def lockField (role : Nat) : Fld := if role = rlMaker then SEC_STAT_MLOCK else if role = rlInstaller then SEC_STAT_ILOCK else SEC_STAT_OLOCK

/-! ## The audit log (R419–R421) -/

abbrev auditBase : Nat := 0x1E00000
abbrev auditRing : Nat := 16384

/-- The 64 bytes of the audit record of an INDEX that is still retained. -/
def Dev.auditRecord (d : Dev) (index : Nat) : List Byte := Mem.getN 0 d.mram (auditBase + 64 * (index % auditRing)) 64

/-- Is the record of this INDEX retained? -/
def Dev.auditHas (d : Dev) (index : Nat) : Bool := index < d.sec.audHead && d.sec.audHead ≤ index + auditRing

/-- A digest of a word (R420). -/
def wordDigest (w : W) : List Byte := leBytes 4 w.toNat ++ leBytes 4 0
/-- A digest of any other object (R420). -/
def objDigest (bs : List Byte) : List Byte := (sha256 bs).take 8
/-- No object. -/
def noDigest : List Byte := leBytes 8 0

/-- The 64 bytes of the next audit record: its fields, CHAIN over the previous record's CHAIN and them, and the CRC-32
(Table SEC-3). -/
def Dev.auditBytes (d : Dev) (action role port key session target : Nat) (before after : List Byte) : List Byte :=
  let i := d.sec.audHead
  let body := leBytes 4 i ++ leBytes 2 action ++ leBytes 1 role ++ leBytes 1 port ++ leBytes 4 key ++ leBytes 4 session ++
    leBytes 8 d.now.toNat ++ leBytes 4 (d.rd RTC_SEC).toNat ++ leBytes 4 target ++ sliceB before 0 8 ++ sliceB after 0 8
  let prev := if i = 0 then leBytes 12 0 else sliceB (d.auditRecord (i - 1)) 0x30 12
  let body := body ++ (sha256 (prev ++ body)).take 12
  body ++ leBytes 4 (crc32 body).toNat

/-- An audit record is committed: it takes the next place of the ring, whose overwritten record's CHAIN becomes the anchor
(R421). -/
def Dev.audit (action role port key session target : Nat) (before after : List Byte) (d : Dev) : Dev :=
  let i := d.sec.audHead
  { d with mram := Mem.putN 0 (auditBase + 64 * (i % auditRing)) (d.auditBytes action role port key session target before after) d.mram
           sec := { d.sec with audHead := (i + 1) % 2 ^ 32
                               anchor := if auditRing ≤ i then sliceB (d.auditRecord i) 0x30 12 else d.sec.anchor } }

/-- A retained record that fails its CRC is kept and reported (R421). -/
def Dev.auditCheck (index : Nat) (d : Dev) : Dev :=
  let r := d.auditRecord index
  if leBytes 4 (crc32 (r.take 60)).toNat = r.drop 60 then d
  else (d.setF SEC_FLT SEC_FLT_AUDBROKEN 1).evt EV_SEC_AUDIT_BROKEN ([0, 0, 0, 0] ++ le4 index)

/-! ## Answers (R407) -/

/-- The data length code of a frame of `n` bytes. -/
def dlcFor (fdf : Bool) (n : Nat) : Nat :=
  if n ≤ 8 || !fdf then min n 8
  else (([12, 16, 20, 24, 32, 48, 64].findIdx (fun l => n ≤ l)) + 9)

/-- The segments of a message: a header byte with FIRST, LAST and the count, then up to `k` bytes. -/
def segmentsOf (k : Nat) : Nat → Nat → List Byte → List (List Byte)
  | 0, _, _ => []
  | fuel + 1, i, bs =>
    let last := bs.length ≤ k
    let hdr := BitVec.ofNat 8 ((if i = 0 then 0x80 else 0) + (if last then 0x40 else 0) + i % 64)
    (hdr :: bs.take k) :: (if last then [] else segmentsOf k fuel (i + 1) (bs.drop k))

/-- The module's device ID as sessions use it. -/
def Dev.sessionId (d : Dev) : Nat := if d.sysState = stNocfg then 0x3FFF else d.fld SIG_CFG SIG_CFG_DEVID

/-- A message goes out on a port: frames that contend as the head of a queue ranked after QUE31, or SESSION frames on
the link. -/
def Dev.answer (port ctag : Nat) (msg : List Byte) (d : Dev) : Dev :=
  if port = portLink then (segmentsOf 63 600 0 msg).foldl (fun d s => d.linkSend (.session s)) d
  else
    let fd := d.sysState ≠ stNocfg && d.isSet (BUS_CFG port) BUS_CFG_FDEN
    let id := 6 * 2 ^ 26 + d.fld SEC_CFG SEC_CFG_SMARK * 2 ^ 20 + 2 ^ 19 + ctag % 32 * 2 ^ 14 + d.sessionId
    let frames := (segmentsOf (if fd then 63 else 7) 600 0 msg).map (fun s =>
      (port, ({ id := id, ide := true, fdf := fd, brs := fd, rtr := false, esi := false, dlc := dlcFor fd s.length, data := s } : Frame)))
    { d with sec := { d.sec with out := d.sec.out ++ frames } }

/-! ## Sessions -/

def Dev.putSessions (xs : List Session) (d : Dev) : Dev :=
  ({ d with sec := { d.sec with sessions := xs } }).setF SEC_STAT SEC_STAT_SESSIONS xs.length

/-- A session closes (R410): audited, recorded, and a slot write of its own given up (R413). -/
def Dev.closeSession (x : Session) (d : Dev) : Dev :=
  let d := d.audit 4 x.role x.port x.key x.id 0 noDigest noDigest
  let d := d.putSessions (d.sec.sessions.filter (fun s => s.id ≠ x.id))
  let d := match d.sec.slotw with
    | some w => if w.sid = x.id then { d with sec := { d.sec with slotw := none } } else d
    | none => d
  d.evt EV_SEC_SESSION ([x.role, 2, x.port, 0] ++ le4 x.key)

/-- Every session that satisfies `p` closes. -/
def Dev.closeWhere (p : Session → Bool) (d : Dev) : Dev := (d.sec.sessions.filter p).foldl (fun d x => d.closeSession x) d

/-- A failed attempt of a role (R411), with the lockout at TRIES. `shown` is the role as the audit shows it. -/
def Dev.failedAttempt (role shown port key session : Nat) (d : Dev) : Dev :=
  let d := (d.audit 2 shown port key session 0 noDigest noDigest).setF SEC_FLT SEC_FLT_AUTHFAIL 1
  let d := d.evt EV_SEC_AUTH_FAIL ([role, 0, 0, 0] ++ le4 key)
  let n := Tab.getD 0 d.sec.fails role + 1
  if (d.roleRec role).tries ≤ n then
    let d := d.audit 3 shown port key session 0 noDigest noDigest
    let d := { d with sec := { d.sec with fails := Tab.set role 0 d.sec.fails
                                          lockEnd := Tab.set role (d.now + BitVec.ofNat 64 ((d.roleRec role).lockout * 60 * secTicks)) d.sec.lockEnd } }
    ((d.setF SEC_STAT (lockField role) 1).setF SEC_FLT SEC_FLT_LOCKOUT 1).evt EV_SEC_LOCKOUT ([role, 0, 0, 0] ++ le4 key)
  else { d with sec := { d.sec with fails := Tab.set role n d.sec.fails } }

end Sys2Proof.Machine
end

