-- ==== Sys2Proof/Machine/Retire.lean ====
section
/-! DEFINITION. Gusts and Gales (R274, R275), retirement, the cullet list and substitution (R277–R284), and the restart of
the module (R71, R292). -/

namespace Sys2Proof.Machine

/-! ## Restart -/

/-- Registers that a restart leaves alone: TKP, RTC and SUP (R71). -/
def keptByRestart (k : Nat) : Bool := [0x4002, 0x4003, 0x4004].contains (k % 2 ^ 32 / 0x10000)

/-- Every block but TKP, RTC and SUP at its reset values, what lies in MRAM and flash kept (R71). The records of the event
log stand in SRAM; its index starts again at 0 (log entry 11). -/
def Dev.clearBlocks (d : Dev) : Dev :=
  { Dev.reset with
    por := d.por
    tk := d.tk
    cal := d.cal
    vcore := d.vcore
    sup := d.sup
    regs := d.regs.filter (fun p => keptByRestart p.1)
    log := d.log
    gales := d.gales
    flash := d.flash
    mram := d.mram
    sram := d.sram
    gioRaw := d.gioRaw
    asked := d.asked
    red := { (default : Red) with cullA := d.red.cullA, cullB := d.red.cullB, cullAok := d.red.cullAok, cullBok := d.red.cullBok }
    jrn := { (default : Jrn) with jpos := d.jrn.jpos, jepoch := d.jrn.jepoch, passes := d.jrn.passes, head := d.jrn.head, tail := d.jrn.tail }
    lnk := { (default : Lnk) with saved := d.lnk.saved, lastEdge := d.lnk.lastEdge, lastHb := d.lnk.lastHb }
    sec := { (default : Sec) with keys := d.sec.keys, keyAok := d.sec.keyAok, keyBok := d.sec.keyBok, audHead := d.sec.audHead, anchor := d.sec.anchor, table := d.sec.table, chalCount := d.sec.chalCount, nextId := d.sec.nextId } }

/-- The pending entries of the cullet list are persisted in both copies (R277). -/
def Dev.persistCull (d : Dev) : Dev :=
  let xs := d.red.cull.map (fun c => { c with persisted := true })
  { d with red := { d.red with cull := xs, cullA := xs, cullB := xs, cullAok := true, cullBok := true } }

/-- The module restarts at PROBE with a cause bit of SYS_RSTCAUSE (R71): pending cullet entries first, and every session
closes (R410). -/
def Dev.restart (bit : Nat) (d : Dev) : Dev :=
  let d := (d.persistCull.closeWhere (fun _ => true)).clearBlocks
  let d := (d.wr SYS_RSTCAUSE (BitVec.ofNat 32 (2 ^ bit))).setSys stProbe
  { d with boot := { d.boot with step := .probe, relTime := d.now } }

abbrev rstRestart : Nat := 1
abbrev rstFatal : Nat := 2

/-- The fatal sequence (R292): the safe state of every enabled function, held for 1 ms; the journal and the cullet list
committed; the module restarted. -/
def Dev.fatal (cause : Nat) (d : Dev) : Dev :=
  let d := d.forEach (d.fns.filter d.enabled) (fun f d => d.gafferSafe f cause)
  ((d.at (d.now + BitVec.ofNat 64 msTicks)).jrnFlush).restart rstFatal

/-! ## Triads -/

abbrev tmTriple : Nat := 0
abbrev tmResync : Nat := 1
abbrev tmDual : Nat := 2
abbrev tmHalted : Nat := 3

def Dev.tmode (d : Dev) (t : Nat) : Nat := d.fld (RED_TSTAT t) RED_TSTAT_MODE

/-- The mode of triad `t`, in RED_TSTAT and in RED_STAT. -/
def Dev.setTmode (t m : Nat) (d : Dev) : Dev :=
  (d.setF (RED_TSTAT t) RED_TSTAT_MODE m).setF RED_STAT ⟨2 * t, 2⟩ m

def Dev.triad (d : Dev) (t : Nat) : Triad := Tab.getD default d.triads t
def Dev.putTriad (t : Nat) (x : Triad) (d : Dev) : Dev := { d with triads := Tab.set t x d.triads }
def Dev.modTriad (t : Nat) (g : Triad → Triad) (d : Dev) : Dev := d.putTriad t (g (d.triad t))

/-- Serviceable cores of a triad. -/
def Dev.serviceable (d : Dev) (t : Nat) : Nat :=
  ((List.range 3).filter (fun c => !(d.fld (RED_TSTAT t) RED_TSTAT_RETIRED).testBit c)).length

/-- RED halts T1, T2 or T3 (R283): 0x2507 with class safe state, every function's safe state, no enable until the next
start. T0 takes the fatal sequence (R282). -/
def Dev.haltTriad (t : Nat) (d : Dev) : Dev :=
  if t = 0 then d.fatal EV_RED_T0_FATAL
  else
    let d := (d.setTmode t tmHalted).setF (RED_TSTAT t) RED_TSTAT_RESTARTING 0
    let d := d.modTriad t (fun x => { x with wait := .halted })
    let d := d.evt EV_RED_TRIAD_HALTED [0, 0, t]
    let d := { d with red := { d.red with refuseAll := true } }
    d.gafferAll EV_RED_TRIAD_HALTED

/-! ## Gusts and Gales -/

def resId (kind i : Nat) : Nat := kind * 256 + i

abbrev gaGust : Nat := 1
abbrev gaTest : Nat := 2
abbrev gaCal : Nat := 3
abbrev gaRepeat : Nat := 4
abbrev gaFeedback : Nat := 5

def Dev.retired (d : Dev) (kind i : Nat) : Bool := d.isSet (RED_GUST kind i) RED_GUST_RETIRED

/-- Gusts of a resource within the last GUST_WINDOW seconds (R274). -/
def Dev.recent (d : Dev) (kind i : Nat) : Nat :=
  ((Tab.getD default d.red.gusts (resId kind i)).times.filter
    (fun t => d.since t ≤ d.fld RED_CFG RED_CFG_GUST_WINDOW * secTicks)).length

/-- The SPARE entry of a resource: its primary, by RKIND (Table RED-5). -/
def Dev.spare (d : Dev) (rkind primary : Nat) : Option SpareEnt :=
  d.img.spares.find? (fun e => e.rkind = rkind && e.primary = primary)

/-- The resource stands on the cullet list and its substitute took over (R284). -/
def Dev.spareTaken (kind i : Nat) (e : SpareEnt) (d : Dev) : Dev :=
  let xs := d.red.cull.map (fun c => if c.res = resId kind i then { c with subst := true } else c)
  ({ d with red := { d.red with cull := xs } }).evt EV_RED_SPARE_TAKEN (le2 (resId kind i) ++ [e.subst, e.mode])

/-- A resource without a substitute fails: the function's safe state, and RESUNAV (R284). -/
def Dev.noSubst (o : Option Nat) (cause : Nat) (d : Dev) : Dev :=
  d.whenSome o (fun f d => ((d.gafferSafe f cause).setF (RED_FNSTATE f) RED_FNSTATE_RESUNAV 1).sendFn f)

/-- The windows, sequences, channels that a function's FUNC record names. -/
def Dev.cmpOwner (d : Dev) (n : Nat) : Option Nat := d.ownerBy (fun r => r.cmps.contains n)
def Dev.dsmOwner (d : Dev) (n : Nat) : Option Nat := d.ownerBy (fun r => r.dsms.contains n)

/-- The functions whose cascades a pair carries, or one engine of a split pair (R153). -/
def Dev.engineFns (d : Dev) (p : Nat) (copies : List Nat) : List Nat :=
  d.fns.filter (fun f => (d.funcD f).casc.any (fun c =>
    c.1 / 4 = p && (!d.isSet (CEN_CFG p) CEN_CFG_SPLIT || copies.contains (c.1 % 4 / 2))))

/-- Engines stop for good (R176): their bits of CEN_RETIRED, and no cascade of theirs active. -/
def Dev.stopEngines (p : Nat) (copies : List Nat) (d : Dev) : Dev :=
  let d := d.forEach copies (fun c d => d.putBit CEN_RETIRED (2 * p + c) true)
  let d := d.forEach (List.range 4) (fun c d =>
    if !d.isSet (CEN_CFG p) CEN_CFG_SPLIT || copies.contains (c / 2) then
      ((d.setF (CEN_CSTAT p c) CEN_CSTAT_ACTIVE 0).setPend (4 * p + c) false).setRun (4 * p + c) false
    else d)
  d.when (d.bit CEN_RETIRED (2 * p) && d.bit CEN_RETIRED (2 * p + 1)) (fun d => d.setF (CEN_STAT p) CEN_STAT_RETIRED 1)

/-- Engines are retired, with the safe state of every function that loses a cascade. -/
def Dev.retireEngines (p : Nat) (copies : List Nat) (d : Dev) : Dev :=
  let d := (d.stopEngines p copies).evt EV_CEN_RETIRED [p, 0xFF, (match copies with | [c] => c | _ => 0xFF)]
  d.forEach (d.engineFns p copies) (fun f d => d.noSubst (some f) EV_CEN_RETIRED)

/-- The retirement bits of a leg. -/
def Dev.markLeg (n : Nat) (d : Dev) : Dev :=
  (if n < 32 then d.putBit LEG_RETLO n true else d.putBit LEG_RETHI (n - 32) true).setF (LEG_STAT n) LEG_STAT_RETIRED 1

/-- A substitute leg takes the settings and the place of its primary (R87). -/
def Dev.substLeg (n s : Nat) (d : Dev) : Dev :=
  let copy := fun (reg : Nat → Nat) (d : Dev) => d.wr (reg s) (d.rd (reg n))
  let d := copy LEG_TRIP (copy LEG_MINPW (copy LEG_DT (copy LEG_PER (copy LEG_CFG d))))
  let d := d.setF (LEG_CFG n) LEG_CFG_BOUND 0
  let fs := d.img.funcs.map (fun p => (p.1, { p.2 with legs := p.2.legs.map (fun l => if l = n then s else l) }))
  { d with img := { d.img with funcs := fs } }

/-- A leg is retired (R86) and its substitute takes its settings and its place (R87). -/
def Dev.retireLeg (n : Nat) (d : Dev) : Dev :=
  let d := ((d.markLeg n).undrive n).evt EV_LEG_RETIRED [n]
  match d.spare 1 n with
  | some e => ((d.substLeg n e.subst).spareTaken 3 n e).gafferOwner (some e.fn) EV_LEG_RETIRED
  | none => d.noSubst (d.legOwner n) EV_LEG_RETIRED

/-- A converter is retired (R119, R120). -/
def Dev.retireConv (n : Nat) (d : Dev) : Dev :=
  let d := (d.putBit ADC_STAT (16 + n) true).evt EV_ADC_RETIRED [n]
  let sp := d.fld ADC_STAT ADC_STAT_SPARE
  let lost := fun (d : Dev) =>
    ((((d.setF ADC_STAT ADC_STAT_SPARE 0xF).setF ADC_STAT ADC_STAT_NOSPARE 1).setF ADC_FLT ADC_FLT_NOSPARE 1).setF
      ADC_STAT ADC_STAT_CALBUSY 0).evt EV_ADC_NOSPARE [n]
  if sp = n then lost d
  else
    match (List.range 8).find? (fun k => d.fld ADC_SLOTMAP ⟨4 * k, 4⟩ = n) with
    | none => d
    | some k =>
      if sp = 0xF then (d.setF ADC_SLOTMAP ⟨4 * k, 4⟩ 0xF).setF ADC_FLT ADC_FLT_SLOTDEAD 1
      else
        let d := d.setF ADC_SLOTMAP ⟨4 * k, 4⟩ sp
        let cv : Conv := Tab.getD default d.convs sp
        lost { d with convs := Tab.set sp { cv with settle := 1 } d.convs }

/-- The functions whose group a window feeds. -/
def Dev.cmpFeeds (d : Dev) (n : Nat) : List Nat :=
  d.fns.filter (fun f => d.srcMask (d.fnGroup f) n)

/-- The sense windows of a converter unit: position and window (R238). -/
def Dev.senseWins (d : Dev) (u : Nat) : List (Nat × Nat) :=
  (List.range 8).filterMap (fun p =>
    let w := d.rd (if p < 4 then CVU_SENSE0 u else CVU_SENSE1 u)
    let b := bitsOf w.toNat (8 * (p % 4)) 8
    if d.fld (CVU_CFG u) CVU_CFG_CM ≠ 0 && b.testBit 7 then some (p, b % 64) else none)

/-- The retirement bits of a window. -/
def Dev.markCmp (n : Nat) (d : Dev) : Dev :=
  let d := if n < 32 then d.putBit CMP_RETLO n true else d.putBit CMP_RETHI (n - 32) true
  ((d.setF (CMP_STAT n) CMP_STAT_RETIRED 1).setF (CMP_FLT n) CMP_FLT_RETIRED 1).setF (CMP_STAT n) CMP_STAT_SUSPECT 0

/-- A substitute window takes the source bit of its primary in every group that the primary fed (R139). -/
def Dev.substCmp (n s : Nat) (d : Dev) : Dev :=
  let put := fun (g x : Nat) (b : Bool) (d : Dev) => if x < 32 then d.putBit (TRP_GCMP0 g) x b else d.putBit (TRP_GCMP1 g) (x - 32) b
  let sw := fun (g : Nat) (d : Dev) => if d.srcMask g n then put g s true (put g n false d) else d
  (d.forEach (List.range 16) sw).setF (CMP_STAT s) CMP_STAT_SUBST 1

/-- The degraded reading of a retired window begins from its last filtered state (R140). -/
def Dev.degradeCmp (n ain : Nat) (tripped : Bool) (d : Dev) : Dev :=
  let d := d.setF (CMP_STAT n) CMP_STAT_DEGRADED 1
  let len := [1, 3, 5, 7].getD (d.fld (CMP_CFG n) CMP_CFG_FILT) 1
  let c : Cmp := Tab.getD default d.cmps n
  { d with cmps := Tab.set n { c with degAin := some ain, degHist := List.replicate len tripped, degTripped := tripped } d.cmps }

/-- A window is retired for cause `why` of Table TRP-3 (R138): its substitute takes its source bit (R139), or the Gaffer's
degraded reading begins (R140), or its functions take their safe state. A sense window brings 0x1908 (R239). -/
def Dev.retireCmp (n why : Nat) (d : Dev) : Dev :=
  let wasTripped := d.isSet (CMP_STAT n) CMP_STAT_TRIPPED
  let d := (d.markCmp n).evt EV_CMP_RETIRED [n, why]
  let feeds := d.cmpFeeds n
  let d := match d.spare 2 n with
    | some e =>
      if e.mode = 0 then ((d.substCmp n e.subst).evt EV_CMP_SUBSTITUTED [n, e.subst]).spareTaken 5 n e
      else
        let d := ((d.degradeCmp n e.subst wasTripped).evt EV_CMP_DEGRADED [n, e.subst]).spareTaken 5 n e
        if wasTripped then d.forEach feeds (fun f d => d.gafferSafe f EV_CMP_DEGRADED) else d
    | none =>
      let fs := (feeds ++ (d.cmpOwner n).toList).eraseDups
      d.forEach fs (fun f d => d.noSubst (some f) EV_CMP_RETIRED)
  let d := d.forEach (List.range 8) (fun u d =>
    if (d.senseWins u).any (fun p => p.2 = n) then
      let d := (d.setF (CVU_FLT u) CVU_FLT_SENSE 1).evt EV_CVU_SENSE_LOST [u]
      d.whenSome (d.cvuOwner u) (fun f d => d.safeCommand f sfOff EV_CVU_SENSE_LOST)
    else d)
  d.evalGroups

/-- A substitute channel takes the settings of its primary, and its place in inputs, masks and slot targets (Table RED-5). -/
def Dev.substDsm (n s : Nat) (d : Dev) : Dev :=
  let copy := fun (reg : Nat → Nat) (d : Dev) => d.wr (reg s) (d.rd (reg n))
  let d := copy DSM_SATLIM (copy DSM_OCCFG (copy DSM_CFG d))
  let inputs := fun (reg : Nat → Nat → Nat) (kindF srcF en : Fld) (u k : Nat) (d : Dev) =>
    if d.isSet (reg u k) en && d.fld (reg u k) kindF = 1 && d.fld (reg u k) srcF = n then d.setF (reg u k) srcF s else d
  let d := d.forEach (List.range 16) (fun u d => d.forEach (List.range 8) (fun k d => inputs AXU_IN AXU_IN_KIND AXU_IN_SRC AXU_IN_EN u k d))
  let d := d.forEach (List.range 8) (fun u d => d.forEach (List.range 16) (fun k d => inputs CVU_IN CVU_IN_KIND CVU_IN_SRC CVU_IN_EN u k d))
  let d := d.forEach (List.range 16) (fun g d =>
    if d.bit (TRP_GDSM g) n then (d.putBit (TRP_GDSM g) n false).putBit (TRP_GDSM g) s true else d)
  let tgt := fun (k i : Fld) (x : Nat) (d : Dev) =>
    if d.fld (TKP_SLOT_TGT x) k = 3 && d.fld (TKP_SLOT_TGT x) i = n then d.setF (TKP_SLOT_TGT x) i s else d
  let d := d.forEach (List.range 64) (fun x d =>
    tgt TKP_SLOT_TGT_TGTB_KIND TKP_SLOT_TGT_TGTB_IDX x (tgt TKP_SLOT_TGT_TGTA_KIND TKP_SLOT_TGT_TGTA_IDX x d))
  d.setF (DSM_STAT n) DSM_STAT_OC 0

/-- A ΔΣ channel is retired; its substitute takes its place (Table RED-5). -/
def Dev.retireDsm (n : Nat) (d : Dev) : Dev :=
  let owner := d.dsmOwner n
  match d.spare 4 n with
  | none => (d.setF (DSM_STAT n) DSM_STAT_OC 0).evalGroups.noSubst owner EV_RED_GALE
  | some e => (((d.substDsm n e.subst).spareTaken 6 n e).gafferOwner (some e.fn) EV_RED_GALE).evalGroups

/-- The steps of a function that name an input are pointed at its substitute (Table RED-5). -/
def Dev.substInput (n : Nat) (e : SpareEnt) (d : Dev) : Dev :=
  d.forEach (d.funcD e.fn).seqs (fun s d => d.forEach (List.range 32) (fun i d =>
    if d.fld (ADC_STEP s i) ADC_STEP_INPUT = n then d.setF (ADC_STEP s i) ADC_STEP_INPUT e.subst else d))

/-- An analogue input is retired (Table RED-5). -/
def Dev.retireInput (n : Nat) (d : Dev) : Dev :=
  match d.spare 3 n with
  | none => d
  | some e => ((d.substInput n e).spareTaken 7 n e).gafferOwner (some e.fn) EV_RED_GALE

/-- A core is retired: its triad goes on in dual comparison (R281), or halts (R282, R283). -/
def Dev.retireCore (i : Nat) (d : Dev) : Dev :=
  let t := i / 3
  let d := (d.putBit (RED_TSTAT t) (8 + i % 3) true).putBit (RED_TSTAT t) (4 + i % 3) false
  if 2 ≤ d.serviceable t then
    ((d.setTmode t tmDual).setF (RED_TSTAT t) RED_TSTAT_DEGRADED 1).evt EV_RED_TRIAD_DEGRADED (le2 (resId 1 i) ++ [t])
  else d.haltTriad t

/-- One resource joins the cullet list (R277) with its record 0x2505 (R275). -/
def Dev.cullAdd (kind i reason : Nat) (d : Dev) : Dev :=
  let d := (d.setF (RED_GUST kind i) RED_GUST_RETIRED 1).setF RED_FLT RED_FLT_GALE 1
  let d := if d.red.cull.any (fun c => c.res = resId kind i) then d
    else if d.red.cull.length < 256 then
      let d := { d with red := { d.red with cull := d.red.cull ++ [Cull.mk (resId kind i) reason false false (d.rd RTC_SEC) d.now] } }
      d.setF RED_STAT RED_STAT_CULLCNT d.red.cull.length
    else (d.setF RED_STAT RED_STAT_CULLFULL 1).setF RED_FLT RED_FLT_CULLFULL 1
  d.evt EV_RED_GALE (le2 (resId kind i) ++ [reason])

/-- A Gale of a resource (R275, R277): it is retired at once. `why` is the cause 0x1504 states for a window. -/
def Dev.gale (kind i reason why : Nat) (d : Dev) : Dev :=
  if d.retired kind i then d
  else if kind = 2 then
    let p := i / 2
    if d.isSet (CEN_CFG p) CEN_CFG_SPLIT then (d.cullAdd 2 i reason).retireEngines p [i % 2]
    else ((d.cullAdd 2 (2 * p) reason).cullAdd 2 (2 * p + 1) reason).retireEngines p [0, 1]
  else
    let d := d.cullAdd kind i reason
    match kind with
    | 1 => d.retireCore i
    | 3 => d.retireLeg i
    | 4 => d.retireConv i
    | 5 => d.retireCmp i why
    | 6 => d.retireDsm i
    | 7 => d.retireInput i
    | _ => d

/-- A Gust of a resource (R274): counted, its instant kept, a Gale where RECENT reaches GALE_LIMIT. -/
def Dev.gust (kind i : Nat) (d : Dev) : Dev :=
  let g : Gust := Tab.getD default d.red.gusts (resId kind i)
  let d := { d with red := { d.red with gusts := Tab.set (resId kind i) ⟨(d.now :: g.times).take 15⟩ d.red.gusts }
                    bkg := { d.bkg with gusts := d.bkg.gusts + 1 } }
  let r := RED_GUST kind i
  let d := ((d.incSat r RED_GUST_COUNT).incSat r RED_GUST_TOTAL).setF r RED_GUST_RECENT (d.recent kind i)
  if d.fld RED_CFG RED_CFG_GALE_LIMIT ≤ d.recent kind i then d.gale kind i gaGust 0xF else d

/-- A Gust of a pair, charged to both engines (R273). -/
def Dev.gustPair (p : Nat) (d : Dev) : Dev := (d.gust 2 (2 * p)).gust 2 (2 * p + 1)

end Sys2Proof.Machine
end

