-- ==== Sys2Proof/Machine/Angle.lean ====
section
/-! DEFINITION. Angles of 2^32 per turn (R185), their conversion to and from radians, sines and cosines within the accuracy
of R185, and the elementary functions whose accuracy the specification leaves open. -/

namespace Sys2Proof.Machine

/-- π × 2^48, 2^64 / 2π and 2π × 2^40, each to the nearest integer. -/
abbrev pi48 : Int := 884279719003555
abbrev turn64 : Int := 2935890503282001226
abbrev rad40 : Int := 6908435304715

/-- One quarter of a turn. -/
abbrev quarter : Nat := 0x40000000

/-- sin of `x × 2^-48` radians, in units of 2^-48, for `x` within a quarter turn. -/
def sinSeries (x : Int) : Int :=
  let x2 := x * x / 2 ^ 48
  ((List.range 12).foldl (fun (acc : Int × Int) k =>
    let t := -(acc.2 * x2 / 2 ^ 48) / ((2 * k + 2) * (2 * k + 3) : Nat)
    (acc.1 + t, t)) (x, x)).1

/-- sin of an angle, in units of 2^-48. -/
def sin48 (a : Nat) : Int :=
  let q := a / quarter % 4
  let r := a % quarter
  let s := sinSeries ((if q % 2 = 0 then r else quarter - r : Nat) * pi48 / 2 ^ 31)
  if q < 2 then s else -s

/-- A sine or a cosine as the unit has it: within 2^-20 of the exact one (R185). -/
def fTrig (kind : Nat) (a : W) : W :=
  let exact := sin48 (if kind = 0 then a.toNat else a.toNat + quarter) / 256
  fRoundI false (exact + clampI (-0xF0000) 0xF0000 (Config.trigError kind a)) (-40)

def fSin (a : W) : W := fTrig 0 a
def fCos (a : W) : W := fTrig 1 a

/-- The nearest angle to a number of radians; 0 where it is not finite. -/
def radToAngle (x : W) : W :=
  if fFinite x then BitVec.ofInt 32 ((shiftFloor (fMantI x * turn64) ((fExp x : Int) - 150 - 31) + 1) / 2) else 0

/-- An angle taken as signed, in radians. -/
def angleToRad (a : W) : W := fRoundI false (a.toInt * rad40) (-72)

/-- The angle turned in a number of fine ticks at `w` rad/s; 0 where `w` is not finite. -/
def turnIn (w : W) (ticks : Int) : W :=
  if fFinite w then
    let den : Int := 16000000000 * 512
    BitVec.ofInt 32 ((2 * shiftFloor (fMantI w * ticks * turn64) ((fExp w : Int) - 150 - 23) + den) / (2 * den))
  else 0

def fAtan2 (y x : W) : W := Config.mathOpen 0 y x
def fExpo (x : W) : W := Config.mathOpen 1 x 0

/-- The natural logarithm of a positive finite value, correctly rounded: e·ln 2 + 2·artanh((m − 1)/(m + 1)) in units of
2^-90 (R154; of any other value the specification states no result). -/
def fLn (x : W) : W :=
  if fIsZero x || fSign x || !fFinite x then Config.mathOpen 2 x x
  else
    let one : Int := 2 ^ 90
    let artanh := fun (num den : Int) =>
      let z := num * one / den
      let zz := z * z / one
      ((List.range 32).foldl (fun (acc : Int × Int) k => (acc.1 + acc.2 / (2 * k + 1 : Nat), acc.2 * zz / one)) ((0 : Int), z)).1
    let m : Int := fMant x
    let ln2 := 2 * artanh 1 3
    fRoundI false (((fExp x : Int) - 127) * ln2 + 2 * artanh (m - 0x800000) (m + 0x800000)) (-90)

/-- A number of fine ticks in seconds. -/
def ticksSec (n : Nat) : W := fOfRatio n 16000000000

/-- A number limited to a range. -/
def fClamp (lo hi x : W) : W := fMinN (fMaxN x lo) hi

def fHalf (x : W) : W := fMul x 0x3F000000#32
/-- √3 and its half as the nearest binary32 values. -/
def fSqrt3 : W := 0x3FDDB3D7#32
def fHalfSqrt3 : W := 0x3F5DB3D7#32

end Sys2Proof.Machine
end

