-- ==== Sys2Proof/Machine/Sensor.lean ====
section
/-! DEFINITION. Rotor angles from Hall and SENT sensors (R209–R211). -/

namespace Sys2Proof.Machine

abbrev srcSensorless : Nat := 0
abbrev srcEmf : Nat := 1
abbrev srcHall : Nat := 2
abbrev srcSent : Nat := 3
abbrev srcHallEmf : Nat := 4

def Dev.posSrc (d : Dev) (u : Nat) : Nat := d.fld (AXU_POSCFG u) AXU_POSCFG_SRC

/-- The Hall GIOs of a unit: U, V, W. -/
def Dev.hallPins (d : Dev) (u : Nat) : List Nat :=
  [d.fld (AXU_SENSCFG u) AXU_SENSCFG_HU, d.fld (AXU_SENSCFG u) AXU_SENSCFG_HV, d.fld (AXU_SENSCFG u) AXU_SENSCFG_HW]

/-- The Hall code (HW, HV, HU) at the pins. -/
def Dev.hallCode (d : Dev) (u : Nat) : Nat :=
  ((d.hallPins u).zipIdx).foldl (fun acc p => acc + b2n (d.bit GIO_IN p.1) * 2 ^ p.2) 0

/-- The sector of a code; none for 0 and 7. -/
def Dev.hallSector (d : Dev) (u code : Nat) : Option Nat :=
  if code = 0 ∨ 7 ≤ code then none else some (bitsOf (d.rd (AXU_HALLMAP u)).toNat (3 * code) 3)

/-- The lower boundary of sector `s`, without the offset: (60 s − 30)°. -/
def sectorLow (s : Nat) : Nat := (2 * (s % 6) + 11) % 12 * 2 ^ 32 / 12

/-- The centre of sector `s` and its lower and upper boundaries, with SENSOFS. -/
def Dev.sectorMid (d : Dev) (u s : Nat) : W := BitVec.ofNat 32 (s % 6 * 2 ^ 32 / 6) + d.rd (AXU_SENSOFS u)
def Dev.sectorEdge (d : Dev) (u s : Nat) (upper : Bool) : W :=
  BitVec.ofNat 32 (sectorLow (if upper then s + 1 else s)) + d.rd (AXU_SENSOFS u)

/-- The Hall angle at an instant: it advances at the Hall speed and stops at the next boundary (R209). -/
def Dev.hallAngle (d : Dev) (u : Nat) (ts : Time) : Option W :=
  let h := (d.axu u).hall
  match h.sector with
  | none => (d.hallSector u (d.hallCode u)).map (d.sectorMid u)
  | some _ =>
    match h.stamps with
    | [] => some h.angle
    | t :: _ =>
      let gone := turnIn h.speed ((ts.toNat : Int) - t.toNat)
      let room := (h.stop - h.angle).toInt
      some (if room.natAbs ≤ gone.toInt.natAbs then h.stop else h.angle + gone)

/-- The SENT angle at an instant (R210). -/
def Dev.sentAngle (d : Dev) (u : Nat) (ts : Time) : Option W :=
  let m := d.fld (AXU_SENSCFG u) AXU_SENSCFG_SENTCH
  match (Tab.getD default d.sents m).lastValid with
  | none => none
  | some tf =>
    let v := if d.isSet (AXU_SENSCFG u) AXU_SENSCFG_SENTSIG then d.fld (GIO_SENTFAST m) GIO_SENTFAST_D2 else d.fld (GIO_SENTFAST m) GIO_SENTFAST_D1
    let at_ := BitVec.ofNat 32 (v * 2 ^ 20 * d.fld (AXU_POSCFG u) AXU_POSCFG_PP) + d.rd (AXU_SENSOFS u)
    some (at_ + turnIn (d.axu u).wHat ((ts.toNat : Int) - ((tf.toNat : Int) - (d.rd (AXU_SENSLAT u)).toNat)))

/-- The sensor angle of a unit at an instant, if its source has one. -/
def Dev.sensorAngle (d : Dev) (u : Nat) (ts : Time) : Option W :=
  if d.posSrc u = srcSent then d.sentAngle u ts
  else if d.posSrc u = srcHall ∨ d.posSrc u = srcHallEmf then d.hallAngle u ts
  else none

/-- Is the SENT channel of a unit stale (R211)? -/
def Dev.sentStale (d : Dev) (u : Nat) : Bool :=
  let m := d.fld (AXU_SENSCFG u) AXU_SENSCFG_SENTCH
  match (Tab.getD default d.sents m).lastValid with
  | none => true
  | some t => decide (900 * d.fld (GIO_SENTCFG m) GIO_SENTCFG_TICK * 800 < d.since t)

/-- Is the Hall source of a unit bad (R211)? -/
def Dev.hallBad (d : Dev) (u : Nat) : Bool := (d.axu u).hall.bad || (d.hallSector u (d.hallCode u)).isNone

/-- The Hall interpreter of a unit takes an edge at instant `t` (R209). -/
def Dev.hallEdge (u n : Nat) (d : Dev) : Dev :=
  if !((d.posSrc u = srcHall ∨ d.posSrc u = srcHallEmf) ∧ d.isSet (AXU_CFG u) AXU_CFG_BOUND ∧ (d.hallPins u).contains n) then d
  else
    let t : Time := d.rd64 (GIO_STAMP_LO n) (GIO_STAMP_HI n)
    let h := (d.axu u).hall
    let put := fun (h : Hall) => d.modAxu u (fun a => { a with hall := h })
    match d.hallSector u (d.hallCode u) with
    | none => put { h with bad := true }
    | some s =>
      match h.sector with
      | none => put { h with sector := some s, angle := d.sectorMid u s, stop := d.sectorMid u s, speed := 0, dir := 0, stamps := [] }
      | some s0 =>
        if s = s0 then d
        else if s = (s0 + 1) % 6 ∨ s0 = (s + 1) % 6 then
          let dir : Int := if s = (s0 + 1) % 6 then 1 else -1
          let stamps := if dir = h.dir then (t :: h.stamps).take 7 else [t]
          let speed := match stamps.getLast? with
            | some t0 => if stamps.length ≤ 1 ∨ t.toNat ≤ t0.toNat then f0
                else fOfRatio (dir * (stamps.length - 1 : Nat) * rad40 * 16000000000) (6 * 2 ^ 40 * (t.toNat - t0.toNat))
            | none => f0
          put { h with sector := some s, angle := d.sectorEdge u s (dir < 0), stop := d.sectorEdge u s (0 < dir)
                       speed := speed, dir := dir, stamps := stamps }
        else put { h with sector := some s, angle := d.sectorMid u s, stop := d.sectorMid u s, speed := 0, dir := 0, stamps := [], bad := true }

/-- No Hall edge within twice the last interval, or within 100 ms (R209). -/
def Dev.hallTimeout (u : Nat) (d : Dev) : Dev :=
  let h := (d.axu u).hall
  match h.sector, h.stamps with
  | some s, t :: r =>
    let due := decide (100 * msTicks ≤ d.since t) ||
      (match r with | t1 :: _ => decide (2 * (t.toNat - t1.toNat) ≤ d.since t) | [] => false)
    if due then d.modAxu u (fun a => { a with hall := { h with speed := f0, angle := d.sectorMid u s, stop := d.sectorMid u s } }) else d
  | _, _ => d

end Sys2Proof.Machine
end

