-- ==== Sys2Proof/Machine/Enable.lean ====
section
/-! DEFINITION. Roles and the drive token as far as every block needs them (R98, R295, R303), and the enable and disable of
a function (R95, R157, R168, R198, R212, R288, R313). -/

namespace Sys2Proof.Machine

/-! ## Roles and the token -/

/-- A change of role: recorded and persisted (Table LNK-3). A module without the token holds no session (R410). -/
def Dev.setRole (r : Nat) (d : Dev) : Dev :=
  if d.role = r then d
  else
    let d := d.setF LNK_STAT LNK_STAT_ROLE r
    let d := ({ d with lnk := { d.lnk with saved := r } }).evt EV_LNK_ROLE []
    d.when (!d.masterRole) (fun d => d.closeWhere (fun _ => true))

def Dev.setToken (b : Bool) (d : Dev) : Dev := d.setF LNK_STAT LNK_STAT_TOKEN (b2n b)

/-- A function is no longer enabled: its cascades and units stop, a rising enable is given up. -/
def Dev.disableFn (f : Nat) (d : Dev) : Dev :=
  let on := d.enabled f
  let d := d.setF (RED_FNSTATE f) RED_FNSTATE_ENABLED 0
  let d := { d with red := { d.red with enabling := withBits d.red.enabling f 1 0 } }
  let d := ((d.stopCascades f).stopUnits f).posIdle f
  let d := d.forEach (d.fnLegs f) (fun n d => d.legRefresh n)
  d.when on (fun d => d.sendFn f)

/-- The token goes (R98, R295): every driven leg off and then undriven, 0x2304 with the cause. A paired module takes
SYNCING, whose functions are disabled (R303, Table LNK-3). -/
def Dev.releaseToken (cause : Nat) (d : Dev) : Dev :=
  let d := (d.forEach (List.range 48) (fun n d => d.undrive n)).setToken false
  let d := d.evt EV_LNK_RELEASED [cause]
  if d.paired then
    let d := d.setRole roleSyncing
    let d := { d with lnk := { d.lnk with caughtUp := false, selected := false, yield := 0, copy := none } }
    d.forEach d.fns (fun f d => d.disableFn f)
  else d

/-! ## Alignment at an epoch -/

/-- The filters of a ΔΣ channel restart: ORDER samples follow with SETTLE (R118, R121). -/
def Dev.dsmRestart (n : Nat) (d : Dev) : Dev :=
  let d := (d.setF (DSM_STAT n) DSM_STAT_SETTLE (d.fld (DSM_CFG n) DSM_CFG_ORDER)).setF (DSM_STAT n) DSM_STAT_RUN 0
  { d with dsms := Tab.set n { (Tab.getD default d.dsms n) with ocRun := 0, okRun := 0 } d.dsms }

/-- The alignments at entry to RUN, made again at a takeover (R121, R134, R310): the clocks of enabled outputs restart
their channels' filters; the ticks of sampled windows follow TKP_EPOCH and hold no state of their own. -/
def Dev.realign (d : Dev) : Dev :=
  d.forEach ((List.range 32).filter (fun n => (d.fld DSM_CKCFG DSM_CKCFG_EN).testBit (n / 4) && d.isSet (DSM_CFG n) DSM_CFG_EN))
    (fun n d => d.dsmRestart n)

/-! ## Enable -/

/-- The driver addresses of a leg (R89). -/
def Dev.glAddrs (d : Dev) (n : Nat) : List Nat := if d.fld (LEG_GLCFG n) LEG_GLCFG_NDRV = 2 then [0, 1] else [0]

/-- The legs of a function that are not retired. -/
def Dev.liveLegs (d : Dev) (f : Nat) : List Nat := (d.fnLegs f).filter (fun n => !d.isSet (LEG_STAT n) LEG_STAT_RETIRED)

/-- The cascades of a function start with cleared sections (R157) and no misses (R168). -/
def Dev.enableCascades (f : Nat) (d : Dev) : Dev :=
  let d := { d with words := Tab.erase f d.words }
  d.forEach ((d.funcD f).casc.map (·.1)) (fun i d =>
    let p := pairOf i
    let c := cascOf i
    let d := d.modCasc i (fun _ => { (default : Casc) with first := true })
    let d := (d.setF (CEN_CSTAT p c) CEN_CSTAT_ACTIVE 1).setF (CEN_CSTAT p c) CEN_CSTAT_CMISS 0
    let d := d.setF (CEN_CSLACK p c) CEN_CSLACK_MIN 0xFFFF
    (d.setPend i false).setRun i false)

/-- Does an axis unit map VU, VV and VW? -/
def Dev.mapsVoltages (d : Dev) (u : Nat) : Bool :=
  [4, 5, 6].all (fun role => (List.range 8).any (fun k =>
    d.isSet (AXU_IN u k) AXU_IN_EN && d.fld (AXU_IN u k) AXU_IN_ROLE = role))

abbrev phIdle : Nat := 0
abbrev phMeasure : Nat := 1
abbrev phMeasAsc : Nat := 2
abbrev phConverge : Nat := 3
abbrev phPolarity : Nat := 4
abbrev phTrack : Nat := 5
abbrev phLost : Nat := 6
abbrev phFault : Nat := 7

/-- The position step of unit `u` enters a phase, with the counts of the phase cleared. -/
def Dev.setPhase (u ph : Nat) (d : Dev) : Dev :=
  (d.setF (AXU_POSSTAT u) AXU_POSSTAT_PHASE ph).modAxu u (fun a =>
    { a with meas := [], measStill := true, measFull := false, convOk := 0, convCnt := 0, polN := 0, polTests := 0, polI := []
             trackAt := if ph = phTrack then some d.now else a.trackAt
             reacq := if ph = phIdle then false else a.reacq })

/-- Where enable enters the position phases (R212), with the flying start of R313 at the first enable after a start. -/
def Dev.enablePhase (d : Dev) (f u : Nat) : Nat :=
  let src := d.fld (AXU_POSCFG u) AXU_POSCFG_SRC
  let first := !d.red.everEnabled.testBit f && (d.funcD f).kind ≠ 8 && src ≤ 1 && d.mapsVoltages u
  if d.isSet (AXU_POSCFG u) AXU_POSCFG_FSEN || first then phMeasure
  else if src = 0 then phConverge
  else phTrack

/-- An axis unit at enable (R198, R212): its history, references and status are cleared. -/
def Dev.enableAxu (f u : Nat) (d : Dev) : Dev :=
  let d := (d.wr (AXU_STAT u) 0).setF (AXU_STAT u) AXU_STAT_ENABLED 1
  let d := d.forEach (List.range 3) (fun k d => d.setF (AXU_CARRY u k) AXU_CARRY_CARRY 0)
  let d := d.modAxu u (fun a =>
    { a with res := [], fwdDone := false, began := false, committed := false, vdc := none, prev := none, words := [], invDue := false
             agreed := [], zs := 0, trackAt := none, reacq := false, n := 0, ring := [], sampleNo := 0, obsPrev := none
             obsD := f0, obsQ := f0, eInj := f0, ad := f0, dwell := 0, wHat := f0
             thHat := (d.sensorAngle u d.now).getD a.thHat })
  let d := d.setF (AXU_POSSTAT u) AXU_POSSTAT_LOSSCNT 0
  if (d.funcD f).axuA = some u then d.setPhase u (d.enablePhase f u) else d

/-- A converter unit at enable (R237, R244): SUBCNT, held values and parking cleared, all positions active. -/
def Dev.enableCvu (u : Nat) (d : Dev) : Dev :=
  let d := (d.setF (CVU_STAT u) CVU_STAT_ENABLED 1).setF (CVU_STAT u) CVU_STAT_NACT (d.fld (CVU_CFG u) CVU_CFG_NLEG)
  let d := ((d.setF (CVU_STAT u) CVU_STAT_SUBCNT 0).setF (CVU_STAT u) CVU_STAT_HELD 0).setF (CVU_STAT u) CVU_STAT_PARKED 0
  d.modCvu u (fun c => { c with fwdDone := false, committed := false, words := [], vals := [], invDue := false, itotSum := f0, itotN := 0
                                phaseEnd := d.now + BitVec.ofNat 64 (d.fld (CVU_PHM u) CVU_PHM_PHDLY * msTicks)
                                parkGrid := false, iref := [], irefUsed := [], cmEnds := [], cmActive := 0 })

/-- The outcome of a request by RED_FNREQ (R289). -/
def Dev.fnOutcome (f st : Nat) (done : Bool) (d : Dev) : Dev :=
  d.evt EV_RED_FN_REQUEST (le2 f ++ [st, if done then 1 else 2])

/-- The outcome of an enable that a program asked for. -/
def Dev.enableOutcome (f : Nat) (done : Bool) (d : Dev) : Dev :=
  if d.red.reqEnable.testBit f then
    ({ d with red := { d.red with reqEnable := withBits d.red.reqEnable f 1 0 } }).fnOutcome f 0 done
  else d

/-- Function `f` is enabled: it leaves its safe state (R288), and its legs wait for their first committed set (R95). -/
def Dev.completeEnable (f : Nat) (d : Dev) : Dev :=
  let r := RED_FNSTATE f
  let was := d.inSafe f
  let d := ((((d.setF r RED_FNSTATE_ENABLED 1).setF r RED_FNSTATE_SAFE 0).setF r RED_FNSTATE_STATE 0).setF r RED_FNSTATE_CAUSE 0).setF
    r RED_FNSTATE_BRKOFF 0
  let d := d.enableCascades f
  let d := d.forEach (d.fnAxus f) (fun u d => d.enableAxu f u)
  let d := d.whenSome (d.funcD f).cvu (fun u d => d.enableCvu u)
  let d := { d with red := { d.red with everEnabled := withBits d.red.everEnabled f 1 1, enabling := withBits d.red.enabling f 1 0 } }
  let d := d.forEach (d.fnLegs f) (fun n d =>
    (d.modLeg n (fun l => { l with loaded := false, fresh := false, parkSet := false, parked := false })).legRefresh n)
  let d := d.when was (fun d => d.evt EV_RED_SAFE_LEAVE (le2 f))
  (d.sendFn f).enableOutcome f true

/-- Have the legs of `f` all finished, so that its pending enable completes? -/
def Dev.enableReady (d : Dev) (f : Nat) : Bool :=
  d.red.enabling.testBit f && (d.liveLegs f).all (fun n => d.isSet (LEG_STAT n) LEG_STAT_TXEN && (d.legOf n).enSeq.isNone)

/-- A pending enable completes as soon as its legs are ready. -/
def Dev.tryEnable (f : Nat) (d : Dev) : Dev := d.when (d.enableReady f) (fun d => d.completeEnable f)

end Sys2Proof.Machine
end

