-- ==== Sys2Proof/Machine/Leg.lean ====
section
/-! DEFINITION. The leg channels and the gate link (chapter 04): levels from a committed set (R73–R79), delay lines and
their calibration (R81–R83), protection (R84, R85), status transactions (R90–R93), the enable sequence (R95, R96),
contention (R99) and T0 requests (R100). -/

namespace Sys2Proof.Machine

/-! ## From a committed set to two gate levels -/

/-- A number of fine ticks clamped to a period. -/
def clampP (per : Nat) (x : Int) : Nat := (clampI 0 per x).toNat

/-- Table LEG-1 with the shifts of R75: the start and width of the upper interval, and whether a clamp changed a value.
The start lies in [0, PER); the width may carry the interval past the period's end in FREE mode only. -/
def upperInterval (mode per sha shb : Nat) (shr shf : Int) : Nat × Nat × Bool :=
  if mode = 2 then
    let b := if sha = shb then 0
      else if sha = 0 ∧ shb = per then per
      else if sha < shb then shb - sha else shb + per - sha
    let w : Int := (b : Int) + shf - shr
    let start := (((sha : Int) + shr) % (per : Int)).toNat
    (start, clampP per w, decide (clampI 0 per w ≠ w))
  else
    let rise : Nat := if mode = 1 then 0 else (per - sha) / 2
    let fall := rise + sha
    let r := clampP per ((rise : Int) + shr)
    let f := (clampI r per ((fall : Int) + shf)).toNat
    (r, f - r, decide ((r : Int) ≠ (rise : Int) + shr ∨ (f : Int) ≠ (fall : Int) + shf))

/-- The level changes of a period: pieces of [0, PER) in order, each with its end and whether the upper switch is
commanded. -/
def pieces (per start width : Nat) : List (Nat × Nat × Bool) :=
  (if width = 0 then [(0, per, false)]
   else if per ≤ width then [(0, per, true)]
   else if start + width ≤ per then [(0, start, false), (start, start + width, true), (start + width, per, false)]
   else [(0, start + width - per, true), (start + width - per, start, false), (start, per, true)]).filter (fun p => p.1 < p.2.1)

/-- The on-intervals of one switch under R76 and R77: each from its start plus the dead time that is left, parts wholly
inside the period and shorter than MINPW left out. Answers the intervals and whether any was not emitted. -/
def onIntervals (per dt minpw : Nat) (upper prevUpper : Bool) (since : Nat) (ps : List (Nat × Nat × Bool)) :
    List (Nat × Nat) × Bool :=
  ps.foldl (fun acc p =>
    if p.2.2 = upper then
      let lead := if p.1 = 0 ∧ prevUpper = upper then dt - since else dt
      let a := p.1 + lead
      let e := p.2.1
      if e ≤ a then (acc.1, acc.2 || e < per)
      else if 0 < a ∧ e < per ∧ e - a < minpw then (acc.1, true)
      else (acc.1 ++ [(a, e)], acc.2)
    else acc) ([], false)

/-- A period boundary of leg `n`: its committed set is loaded and its levels are computed (R73–R77). `was` is what the
leg carried until now. -/
def Dev.legLoad (n : Nat) (was : Drive) (d : Dev) : Dev :=
  let per := d.fld (LEG_PER n) LEG_PER_PER
  let a := d.fld (LEG_SHA n) LEG_SHA_VALUE
  let b := d.fld (LEG_SHB n) LEG_SHB_VALUE
  let sh := d.rd (LEG_SHIFT n)
  let u := upperInterval (d.fld (LEG_CFG n) LEG_CFG_MODE) per (min a per) (min b per)
    (signedOf 16 (sh.fld LEG_SHIFT_SH_RISE)) (signedOf 16 (sh.fld LEG_SHIFT_SH_FALL))
  let ps := pieces per u.1 u.2.1
  let dt := d.fld (LEG_DT n) LEG_DT_DT
  let mp := d.fld (LEG_MINPW n) LEG_MINPW_MINPW
  let l := d.legOf n
  let prevUpper := match was with | .low => false | .high => true | _ => l.lastUpper
  let since := match was with | .low | .high => per | .computed => l.lastEdge | _ => 0
  let first := match ps with | p :: _ => p.2.2 | [] => false
  let last := match ps.getLast? with | some p => (p.2.2, p.2.1 - p.1) | none => (false, per)
  let since' := if ps.length = 1 ∧ first = prevUpper then since + per else last.2
  let gh := onIntervals per dt mp true prevUpper since ps
  let gl := onIntervals per dt mp false prevUpper since ps
  let tail := was = .computed ∧ first ≠ prevUpper ∧ since ≤ dt ∧ 0 < dt
  let d := d.modLeg n (fun l => { l with gh := gh.1, gl := gl.1, lastUpper := last.1, lastEdge := since' })
  let d := ((d.wr (LEG_ACTA n) (d.rd (LEG_SHA n))).wr (LEG_ACTB n) (d.rd (LEG_SHB n))).wr (LEG_ACTSHIFT n) sh
  (d.setF (LEG_STAT n) LEG_STAT_CLAMP (b2n (per < a || per < b || u.2.2))).setF
    (LEG_STAT n) LEG_STAT_SWALLOW (b2n (gh.2 || gl.2 || tail))

/-! ## Calibration and protection -/

/-- The active lines of a leg whose fresh lines wait (R81). -/
def Dev.lineSwap (n : Nat) (d : Dev) : Dev :=
  let l := d.legOf n
  let d := d.putLeg n { l with calGH := l.newGH.getD l.calGH, calGL := l.newGL.getD l.calGL, newGH := none, newGL := none }
  let l := d.legOf n
  d.setF (LEG_STAT n) LEG_STAT_CAL_AGED (b2n (d.isSet (LEG_STAT n) LEG_STAT_CAL_AGED && (4 * msTicks < d.since l.calGH || 4 * msTicks < d.since l.calGL)))

/-- A failed line calibration or pad check (R83). -/
def Dev.calGust (n ev : Nat) (d : Dev) : Dev := ((d.setF (LEG_FLT n) LEG_FLT_CAL 1).evt ev [n]).gust 3 n

/-- A pad check of leg `n`: the errors found, before correction, in ps (R82, R83). A failed one is owed again. -/
def Dev.padCheck (n : Nat) (eh el : Int) (d : Dev) : Dev :=
  let d := d.wr (LEG_CAL n) (BitVec.ofNat 32 (unsignedOf 16 (clampI (-32768) 32767 el) * 65536 + unsignedOf 16 (clampI (-32768) 32767 eh)))
  let bad := decide (150 < eh.natAbs ∨ 150 < el.natAbs)
  let d := d.modLeg n (fun l => { l with padGH := l.padGH + eh, padGL := l.padGL + el, padDue := bad
                                         padTemp := signedOf 16 (d.fld (THM_DIE 0) ⟨0, 16⟩) })
  (d.when bad (fun d => d.calGust n EV_LEG_PAD_ERR)).reqServed 3 n (!bad)

/-- A protection mismatch of leg `n` (R84, R85): off until the next boundary restores the working copy, a Gust, and a
Gale at the second one within GUST_WINDOW. -/
def Dev.legMismatch (n : Nat) (d : Dev) : Dev :=
  let l := d.legOf n
  let again := match l.lastMismatch with
    | some t => decide (d.since t ≤ d.fld RED_CFG RED_CFG_GUST_WINDOW * secTicks)
    | none => false
  let d := d.putLeg n { l with restore := true, lastMismatch := some d.now }
  let d := (d.setF (LEG_STAT n) LEG_STAT_FORCED_OFF 1).legRefresh n
  let d := (d.setF (LEG_FLT n) LEG_FLT_PARITY 1).incSat (LEG_CNT n) LEG_CNT_MISM
  let d := (d.evt EV_LEG_DELAY_MISMATCH [n]).gust 3 n
  d.when again (fun d => d.gale 3 n gaRepeat 0xF)

/-! ## Status transactions -/

def Dev.pairPulled (d : Dev) (n : Nat) : Bool := (d.legOf n).pull

/-- The next transaction of leg `n` starts where none is in progress: the enable sequence first, then a T0 request, then
the polls (R91, R92, R95, R100). -/
def Dev.glNext (n : Nat) (d : Dev) : Dev :=
  let l := d.legOf n
  let send := fun (q : GlReq) (d : Dev) => d.modLeg n (fun l => { l with seq := (l.seq + 1) % 16, inflight := some { q with seq := l.seq } })
  if l.inflight.isSome || !d.holdsToken || d.isSet (LEG_STAT n) LEG_STAT_RETIRED then d
  else match l.enSeq with
    | some e => (match e.todo with | (q, _) :: _ => send q d | [] => d)
    | none =>
      if d.isSet (LEG_GLREQ n) LEG_GLREQ_GO then
        let w := d.rd (LEG_GLREQ n)
        send ⟨w.fld LEG_GLREQ_ADDR, w.fld LEG_GLREQ_OP, w.fld LEG_GLREQ_REG, w.fld LEG_GLREQ_DATA, 0, 2⟩ d
      else match l.pollTodo with
        | a :: r => if l.pull then d else send ⟨a, 0, 0, 0, 0, 0⟩ (d.modLeg n (fun l => { l with pollTodo := r }))
        | [] => d

/-- The requests of steps 1–4 of R95 for leg `n`, with the value each read-back must return. -/
def Dev.glSequence (d : Dev) (n : Nat) : List (GlReq × Option Nat) :=
  let addrs := d.glAddrs n
  let first := d.fld (LEG_GLWL n) LEG_GLWL_FIRST
  let ents := (List.range (d.fld (LEG_GLWL n) LEG_GLWL_COUNT)).map (fun i => d.rd (LEG_GLTAB (first + i)))
  let q := fun (a op reg data : Nat) => (⟨a, op, reg, data, 0, 1⟩ : GlReq)
  addrs.map (fun a => (q a 3 0 0, none)) ++
  ents.map (fun w => (q (w.fld LEG_GLTAB_ADDR) 1 (w.fld LEG_GLTAB_REG) (w.fld LEG_GLTAB_DATA), none)) ++
  ents.map (fun w => (q (w.fld LEG_GLTAB_ADDR) 2 (w.fld LEG_GLTAB_REG) 0, some (w.fld LEG_GLTAB_DATA))) ++
  addrs.flatMap (fun a => [(q a 1 2 1, none), (q a 2 2 0, some 1)])

/-- Leg `n` starts the sequence of R95: a rerun drives both switches off meanwhile. -/
def Dev.startSequence (n : Nat) (d : Dev) : Dev :=
  let on := d.isSet (LEG_STAT n) LEG_STAT_TXEN
  let d := d.modLeg n (fun l => { l with enSeq := some ⟨d.glSequence n, on, false, 0⟩, armed := on, pollTodo := [] })
  (d.legRefresh n).glNext n

/-- Leg `n` reads its drivers' status before its transmitters are enabled after a takeover (R96). -/
def Dev.startQuick (n : Nat) (d : Dev) : Dev :=
  let todo := (d.glAddrs n).map (fun a => ((⟨a, 0, 0, 0, 0, 1⟩ : GlReq), none))
  (d.modLeg n (fun l => { l with enSeq := some ⟨todo, false, true, 0⟩ })).glNext n

/-- Enable of function `f` begins: its undriven legs run the sequence, or it completes at once (R95, R456). -/
def Dev.startEnable (f : Nat) (d : Dev) : Dev :=
  let d := { d with red := { d.red with enabling := withBits d.red.enabling f 1 1 } }
  let d := d.forEach (d.liveLegs f) (fun n d =>
    if d.isSet (LEG_STAT n) LEG_STAT_TXEN || (d.legOf n).enSeq.isSome then d else d.startSequence n)
  d.tryEnable f

/-- The sequence of leg `n` stops (R95): 0x1009 as a warning at a first enable, as a safe state at a rerun. -/
def Dev.sequenceStop (n : Nat) (rerun : Bool) (d : Dev) : Dev :=
  let d := (d.modLeg n (fun l => { l with enSeq := none, armed := false })).setF (LEG_FLT n) LEG_FLT_CFGERR 1
  if rerun then
    let d := (d.legHiZ n).evtC clsSafe EV_LEG_GL_CFG_MISMATCH srcHw [n]
    d.gafferOwner (d.legOwner n) EV_LEG_GL_CFG_MISMATCH
  else
    let d := d.evtC clsWarning EV_LEG_GL_CFG_MISMATCH srcHw [n]
    d.whenSome (d.legOwner n) (fun f d =>
      if d.red.enabling.testBit f then
        let d := { d with red := { d.red with enabling := withBits d.red.enabling f 1 0 } }
        let d := d.forEach (d.fnLegs f) (fun m d => d.modLeg m (fun l =>
          match l.enSeq with | some e => if e.rerun then l else { l with enSeq := none } | none => l))
        d.enableOutcome f false
      else d)

/-- A STATUS byte and temperature of driver `a` (R92). -/
def Dev.pollResult (n a status data : Nat) (d : Dev) : Dev :=
  let temp := unsignedOf 8 (clampI (-128) 127 ((signedOf 16 data) / 2))
  let d := if a = 0 then (d.setF (LEG_GLSTAT n) LEG_GLSTAT_STAT0 status).setF (LEG_GLSTAT n) LEG_GLSTAT_TEMP0 temp
    else (d.setF (LEG_GLSTAT n) LEG_GLSTAT_STAT1 status).setF (LEG_GLSTAT n) LEG_GLSTAT_TEMP1 temp
  let flag := fun (bit : Nat) (f : Fld) (d : Dev) => d.when (status.testBit bit) (fun d => d.setF (LEG_FLT n) f 1)
  let d := flag 2 LEG_FLT_DESAT (flag 3 LEG_FLT_UVLO (flag 6 LEG_FLT_CFGERR (flag 7 LEG_FLT_DRVRST d)))
  let idle := (d.legOf n).enSeq.isNone
  if status.testBit 7 then
    let d := d.evt EV_LEG_DRV_RESET [n, 1]
    d.when idle (fun d => d.startSequence n)
  else if !status.testBit 1 && idle && !d.pairPulled n && (match d.legOwner n with | some f => d.enabled f | none => false) then
    ((d.setF (LEG_FLT n) LEG_FLT_DRVRST 1).evt EV_LEG_DRV_RESET [n, 2]).startSequence n
  else d

/-- A good response of the sequence: a CFG_ERR or a read-back that differs stops it; under R96 a driver that is not READY
and ARMED, or shows RST or a sticky fault, calls for the full sequence. -/
def Dev.sequenceResult (n status data : Nat) (e : EnSeq) (d : Dev) : Dev :=
  if e.quick then
    if status.testBit 0 && status.testBit 1 && !status.testBit 2 && !status.testBit 3 && !status.testBit 6 && !status.testBit 7 then
      d.modLeg n (fun l => { l with enSeq := some { e with todo := e.todo.tail, errs := 0 } })
    else d.modLeg n (fun l => { l with enSeq := some ⟨d.glSequence n, false, false, 0⟩ })
  else if status.testBit 6 then d.sequenceStop n e.rerun
  else match e.todo with
    | (_, some v) :: r =>
      if v = data then d.modLeg n (fun l => { l with enSeq := some { e with todo := r, errs := 0 } }) else d.sequenceStop n e.rerun
    | _ => d.modLeg n (fun l => { l with enSeq := some { e with todo := e.todo.tail, errs := 0 } })

/-- Transactions that went wrong in a row with driver `a`. -/
def Leg.bad (l : Leg) (a : Nat) : Nat := if a = 0 then l.bad0 else l.bad1
def Leg.setBad (l : Leg) (a k : Nat) : Leg := if a = 0 then { l with bad0 := k } else { l with bad1 := k }

/-- A transaction ends with a good response. -/
def Dev.glGood (n : Nat) (q : GlReq) (status data : Nat) (d : Dev) : Dev :=
  let d := d.modLeg n (fun l => { l.setBad q.addr 0 with inflight := none })
  let d := match q.purpose with
    | 0 => d.pollResult n q.addr status data
    | 1 => (match (d.legOf n).enSeq with | some e => d.sequenceResult n status data e | none => d)
    | _ => d.glReply n false false status data
  d.glNext n

/-- A transaction ends as FRAME or NOACK (R91, R92): counted; ERRLIM in a row with one driver lose the link. -/
def Dev.glBad (n : Nat) (q : GlReq) (noack : Bool) (d : Dev) : Dev :=
  let d := d.modLeg n (fun l => { l.setBad q.addr (l.bad q.addr + 1) with inflight := none })
  let d := d.incSat (LEG_CNT n) LEG_CNT_LINKERR
  let d := d.when (!noack) (fun d => d.setF (LEG_FLT n) LEG_FLT_CRC 1)
  let lim := d.fld (LEG_GLCFG n) LEG_GLCFG_ERRLIM
  let d := d.when ((d.legOf n).bad q.addr = lim) (fun d =>
    ((d.setF (LEG_FLT n) LEG_FLT_NOACK 1).evt EV_LEG_GL_NOLINK [n]).gust 3 n)
  let d := match q.purpose with
    | 0 => d
    | 1 => (match (d.legOf n).enSeq with
      | some e =>
        if e.quick then d.modLeg n (fun l => { l with enSeq := some ⟨d.glSequence n, false, false, 0⟩ })
        else if lim ≤ e.errs + 1 then d.sequenceStop n e.rerun
        else d.modLeg n (fun l => { l with enSeq := some { e with errs := e.errs + 1 } })
      | none => d)
    | _ => d.glReply n (!noack) noack 0 0
  d.glNext n

/-- The bytes of a good response to request `q` (Table LEG-4). -/
def goodResponse (q : GlReq) (bs : List Byte) : Bool :=
  bs.length = 6 && bs.getD 0 0 = BitVec.ofNat 8 (q.addr + 4 * q.op + 16 * q.seq) &&
    bs.getD 5 0 = crc8 (bs.take 5)

/-! ## The boundary -/

/-- What leg `n` does at a period boundary of its function (R79, R81, R84, R88). `upset` says that its protection copies
are found to differ. -/
def Dev.legBoundary (n : Nat) (upset : Bool) (d : Dev) : Dev :=
  let was := d.legDrive n
  let l := d.legOf n
  let stale := !l.fresh
  let d := d.when l.restore (fun d => (d.modLeg n (fun l => { l with restore := false })).setF (LEG_STAT n) LEG_STAT_FORCED_OFF 0)
  let d := d.lineSwap n
  let d := d.when (match d.legOwner n with | some f => !d.asserted (d.fnGroup f) | none => true)
    (fun d => d.setF (LEG_STAT n) LEG_STAT_TRIPPED 0)
  let d := d.modLeg n (fun l => { l with fresh := false, loaded := l.loaded || l.fresh, parked := l.parkSet
                                         armed := l.armed && l.enSeq.isSome })
  let d := (d.legLoad n was).setF (LEG_STAT n) LEG_STAT_STALE (b2n stale)
  let d := d.legRefresh n
  d.when upset (fun d => d.legMismatch n)

/-- Does function `f` reuse a set at a boundary without a commit (R79)? -/
def Dev.staleCounts (d : Dev) (f : Nat) : Bool :=
  d.enabled f || (d.inSafe f && d.fld (RED_FNSTATE f) RED_FNSTATE_STATE = sfHold)

/-- A leg period boundary of function `f` (R23, R79). `quiet` holds between the firings of a slower loop (R243); `pads`
holds the errors found by the pad checks repeated now (R83), by leg. -/
def Dev.fnBoundary (f : Nat) (quiet : Bool) (upset : List Nat) (pads : List (Nat × Int × Int)) (d : Dev) : Dev :=
  let legs := d.liveLegs f
  let stale := !quiet && d.staleCounts f && legs.any (fun n => !(d.legOf n).fresh)
  let d := d.forEach legs (fun n d => d.legBoundary n (upset.contains n))
  let d := pads.foldl (fun d p =>
    if legs.contains p.1 && (d.legOf p.1).padDue && d.isSet (LEG_STAT p.1) LEG_STAT_TXEN then d.padCheck p.1 p.2.1 p.2.2 else d) d
  let d := d.when (quiet || !d.staleCounts f) (fun d => d.forEach legs (fun n d => d.setF (LEG_STAT n) LEG_STAT_STALE 0))
  d.when stale (fun d => d.whenSome legs.head? (fun n d => d.evtRated EV_LEG_STALE_SET f [n]))

/-- A set is committed for every leg of a function at once (R23): position, SHA, SHB, shifts and whether the position is
parked. -/
def Dev.commitLeg (n a b : Nat) (shift : W) (park : Bool) (d : Dev) : Dev :=
  let d := ((d.wr (LEG_SHA n) (BitVec.ofNat 32 (a % 2 ^ 24))).wr (LEG_SHB n) (BitVec.ofNat 32 (b % 2 ^ 24))).wr (LEG_SHIFT n) shift
  d.modLeg n (fun l => { l with fresh := true, parkSet := park })

/-- After the release of group `g` by T0, legs that saw a fault pull run the sequence again (R95). -/
def Dev.rerunPulled (f : Nat) (d : Dev) : Dev :=
  d.forEach (d.liveLegs f) (fun n d =>
    let l := d.legOf n
    if l.pulled && !l.pull && d.isSet (LEG_STAT n) LEG_STAT_TXEN && l.enSeq.isNone then
      (d.modLeg n (fun l => { l with pulled := false })).startSequence n
    else d)

/-! ## Commands -/

/-- Effect of LEG_PARITY_ERROR (R84). -/
def Dev.parityError (n : Nat) (d : Dev) : Dev :=
  if d.isSet (LEG_STAT n) LEG_STAT_RETIRED then d else d.legMismatch n

/-- A core write to a shadow register that R78 does not allow. -/
def Dev.shadowIgnored (triad n : Nat) (d : Dev) : Dev :=
  d.evtC clsInfo EV_LEG_SHADOW_WRITE_IGNORED triad [n]

/-- May a core write the shadow registers of leg `n` (R78)? -/
def Dev.shadowOpen (d : Dev) (n : Nat) : Bool :=
  d.fld (LEG_CFG n) LEG_CFG_SRC = 3 &&
    (match d.legOwner n with | some f => d.enabled f && !d.inSafe f | none => false)

/-- A core write of LEG_SHA, or of LEG_SHB where `b` (R78). -/
def Dev.shaWrite (triad n : Nat) (b : Bool) (v : W) (d : Dev) : Dev :=
  if d.shadowOpen n then d.wr (if b then LEG_SHB n else LEG_SHA n) (v &&& 0x00FFFFFF)
  else d.shadowIgnored triad n

/-- A core write of LEG_SHIFT commits the three values as one set (R78). -/
def Dev.shiftWrite (triad n : Nat) (v : W) (d : Dev) : Dev :=
  if d.shadowOpen n then (d.wr (LEG_SHIFT n) v).modLeg n (fun l => { l with fresh := true, parkSet := false })
  else d.shadowIgnored triad n

/-- A line calibration of GH, or of GL where `gl`, ends (R81, R83): the line waits for the boundary, or swaps in at once
where the leg has no boundaries. -/
def Dev.lineCalDone (n : Nat) (gl : Bool) (resid : Int) (mono : Bool) (span : Nat) (d : Dev) : Dev :=
  if d.isSet (LEG_STAT n) LEG_STAT_RETIRED then d
  else if resid.natAbs ≤ 40 && mono && 25000 ≤ span then
    let d := d.modLeg n (fun l => if gl then { l with newGL := some d.now } else { l with newGH := some d.now })
    if d.inRun && (d.legOwner n).isSome then d else d.lineSwap n
  else (d.incSat (LEG_CNT n) LEG_CNT_CALF).calGust n EV_LEG_CAL_FAIL

/-- The age of an active line in fine ticks. -/
def Dev.lineAge (d : Dev) (n : Nat) (gl : Bool) : Nat := d.since (if gl then (d.legOf n).calGL else (d.legOf n).calGH)

/-- An active line is older than 4 ms (R83). -/
def Dev.calAged (n : Nat) (gl : Bool) (d : Dev) : Dev :=
  if 4 * msTicks < d.lineAge n gl && !d.isSet (LEG_STAT n) LEG_STAT_CAL_AGED then
    (d.setF (LEG_STAT n) LEG_STAT_CAL_AGED 1).evt EV_LEG_CAL_AGED [n]
  else d

/-- An active line reaches 20 ms (R83). -/
def Dev.lineAgeLimit (n : Nat) (gl : Bool) (d : Dev) : Dev :=
  if 20 * msTicks ≤ d.lineAge n gl then d.gale 3 n gaCal 0xF else d

/-- A POLL period of leg `n` begins (R92). -/
def Dev.glPoll (n : Nat) (d : Dev) : Dev :=
  let l := d.legOf n
  if d.holdsToken && d.isSet (LEG_STAT n) LEG_STAT_TXEN && l.enSeq.isNone && !l.pull then
    (d.modLeg n (fun l => { l with pollTodo := d.glAddrs n })).glNext n
  else d

/-- A response frame arrives; `late` says that its preamble came after the window of Table LEG-5. -/
def Dev.glResponse (n : Nat) (bs : List Byte) (late : Bool) (d : Dev) : Dev :=
  match (d.legOf n).inflight with
  | none => d
  | some q =>
    if !late && goodResponse q bs then d.glGood n q (bs.getD 1 0).toNat (leNat ((bs.drop 2).take 2))
    else d.glBad n q false

/-- No response (R91). -/
def Dev.glNoack (n : Nat) (d : Dev) : Dev :=
  match (d.legOf n).inflight with
  | none => d
  | some q => d.glBad n q true

/-- A fault pull on the status pair of leg `n` (R93). -/
def Dev.faultPull (n : Nat) (d : Dev) : Dev :=
  if d.pairPulled n then d
  else
    let d := d.modLeg n (fun l => { l with pull := true, pulled := true, pollTodo := [] })
    ((d.setF (LEG_FLT n) LEG_FLT_PULL 1).evt EV_LEG_GL_FAULT_PULL [n]).evalGroups

/-- The pull of leg `n` ends. -/
def Dev.faultPullEnd (n : Nat) (d : Dev) : Dev :=
  if d.pairPulled n then ((d.modLeg n (fun l => { l with pull := false })).evalGroups).glNext n else d

/-- Steps 5 and 6 of R95: the pad check, and the transmitters at the off level. -/
def Dev.sequenceDone (n : Nat) (eh el : Int) (d : Dev) : Dev :=
  match (d.legOf n).enSeq with
  | some e =>
    if e.todo.isEmpty && d.holdsToken then
      let d := d.padCheck n eh el
      if d.isSet (LEG_STAT n) LEG_STAT_RETIRED then d.modLeg n (fun l => { l with enSeq := none })
      else
        let d := (d.modLeg n (fun l => { l with enSeq := none })).setF (LEG_STAT n) LEG_STAT_TXEN 1
        let d := (d.legRefresh n).glNext n
        d.whenSome (d.legOwner n) (fun f d => d.tryEnable f)
    else d
  | none => d

/-- Another master drives a pair of leg `n` (R99). -/
def Dev.contention (n : Nat) (d : Dev) : Dev :=
  if d.holdsToken && d.isSet (LEG_STAT n) LEG_STAT_TXEN then
    let d := d.releaseToken 4
    let d := (d.setF (LEG_FLT n) LEG_FLT_CONTENTION 1).evt EV_LEG_GL_CONTENTION [n]
    let d := d.when (!d.paired) (fun d => { d with red := { d.red with refuseAll := true } })
    d.gafferAll EV_LEG_GL_CONTENTION
  else d

/-- A write of LEG_GLREQ (R100). -/
def Dev.glRequest (triad n : Nat) (v : W) (d : Dev) : Dev :=
  if triad ≠ 0 then d.lockedWrite triad (LEG_GLREQ n)
  else if d.isSet (LEG_GLREQ n) LEG_GLREQ_GO then d
  else
    let d := d.wr (LEG_GLREQ n) (v &&& 0xBCFFFFFF)
    if !v.bit 31 then d
    else
      let d := d.wr (LEG_GLRSP n) 0
      if !d.holdsToken || d.isSet (LEG_STAT n) LEG_STAT_RETIRED then d.glReply n true false 0 0
      else if v.fld LEG_GLREQ_OP = 1 && (match d.legOwner n with | some f => d.enabled f | none => false) then d.glReply n true false 0 0
      else d.glNext n

/-! ## Meanings -/

/-- LEG_PARITY_ERROR (R84): A parity error at the use of a protected leg setting turns GH and GL off for the rest of the period. -/
def execLegParityError (t : Time) (n : Fin 48) (s : State) : Host.Outcome State Fault Refusal :=
  s.on t (fun d => d.parityError n)

/-- LEG_SHA_WRITE (R78): A core write of LEG_SHA or LEG_SHB is held for a core-sourced solenoid leg and otherwise ignored. -/
def execLegShaWrite (t : Time) (triad : Fin 4) (n : Fin 48) (b : Bool) (v : W) (s : State) : Host.Outcome State Fault Refusal :=
  s.on t (fun d => d.shaWrite triad n b v)

/-- LEG_SHIFT_WRITE (R78): A core write of LEG_SHIFT with SRC 0x3 commits SHA, SHB and the shifts as one set for the next boundary. -/
def execLegShiftWrite (t : Time) (triad : Fin 4) (n : Fin 48) (v : W) (s : State) : Host.Outcome State Fault Refusal :=
  s.on t (fun d => d.shiftWrite triad n v)

/-- LINE_CAL_DONE (R81): A background calibration of a delay line against REF completes. -/
def execLineCalDone (t : Time) (n : Fin 48) (gl : Bool) (resid : Int) (mono : Bool) (span : Nat) (s : State) : Host.Outcome State Fault Refusal :=
  s.on t (fun d => d.lineCalDone n gl resid mono span)

/-- CAL_AGED (R83): An active line older than 4 ms sets CAL_AGED and records 0x1002. -/
def execCalAged (t : Time) (n : Fin 48) (gl : Bool) (s : State) : Host.Outcome State Fault Refusal :=
  s.on t (fun d => d.calAged n gl)

/-- LINE_AGE_LIMIT (R83): An active line that reaches 20 ms of age is a Gale that retires the leg. -/
def execLineAgeLimit (t : Time) (n : Fin 48) (gl : Bool) (s : State) : Host.Outcome State Fault Refusal :=
  s.on t (fun d => d.lineAgeLimit n gl)

/-- GL_POLL (R92): Once per POLL period, the token holder sends STATUS_READ to each configured driver address. -/
def execGlPoll (t : Time) (n : Fin 48) (s : State) : Host.Outcome State Fault Refusal :=
  s.on t (fun d => d.glPoll n)

/-- GL_RESPONSE (R91): A driver response frame is received, classified as good or FRAME, and applied to LEG_GLSTAT and LEG_FLT. -/
def execGlResponse (t : Time) (n : Fin 48) (bytes : List Byte) (late : Bool) (s : State) : Host.Outcome State Fault Refusal :=
  s.on t (fun d => d.glResponse n bytes late)

/-- GL_NOACK (R91): No response preamble arrives by 1,280 ns, so the transaction is NOACK. -/
def execGlNoack (t : Time) (n : Fin 48) (s : State) : Host.Outcome State Fault Refusal :=
  s.on t (fun d => d.glNoack n)

/-- GL_FAULT_PULL (R93): A status pair held below −150 mV for 30 ns reaches the trip matrix, sets PULL, stops polling and records 0x1006. -/
def execGlFaultPull (t : Time) (n : Fin 48) (s : State) : Host.Outcome State Fault Refusal :=
  s.on t (fun d => d.faultPull n)

/-- ENABLE_SEQUENCE_DONE (R95): The enable sequence finishes, and the transmitters drive the first committed set at the next boundary. -/
def execEnableSequenceDone (t : Time) (n : Fin 48) (errGH errGL : Int) (s : State) : Host.Outcome State Fault Refusal :=
  s.on t (fun d => d.sequenceDone n errGH errGL)

/-- GL_CONTENTION (R99): A driven level that disagrees with the module's own receiver for over 20 ns releases the token and records 0x1008. -/
def execGlContention (t : Time) (n : Fin 48) (s : State) : Host.Outcome State Fault Refusal :=
  s.on t (fun d => d.contention n)

/-- GL_REQUEST (R100): A T0 write of LEG_GLREQ with GO queues one status transaction, or refuses it with ERR. -/
def execGlRequest (t : Time) (triad : Fin 4) (n : Fin 48) (v : W) (s : State) : Host.Outcome State Fault Refusal :=
  s.on t (fun d => d.glRequest triad n v)

/-- FAULT_PULL_END (R93): The gate driver releases its fault pull, so the pull source deasserts to the trip matrix and polling of that pair resumes. -/
def execFaultPullEnd (t : Time) (n : Fin 48) (s : State) : Host.Outcome State Fault Refusal :=
  s.on t (fun d => d.faultPullEnd n)

end Sys2Proof.Machine
end

