-- ==== Sys2Proof/Machine/Cmp.lean ====
section
/-! DEFINITION. Window comparators and the trip matrix (chapter 06). -/

namespace Sys2Proof.Machine

/-! ## Windows (R130–R133) -/

def Dev.cmp (d : Dev) (n : Nat) : Cmp := Tab.getD default d.cmps n
def Dev.modCmp (n : Nat) (g : Cmp → Cmp) (d : Dev) : Dev := { d with cmps := Tab.set n (g (d.cmp n)) d.cmps }

/-- N and M of the majority filter (CMP_CFG.FILT). -/
def filtN (f : Nat) : Nat := 2 * f + 1
def filtM (f : Nat) : Nat := if f = 3 then 5 else f + 1

/-- Is a side in use (R130)? MODE bit 0 is HI, bit 1 LO. -/
def Dev.sideUsed (d : Dev) (n : Nat) (lo : Bool) : Bool := (d.fld (CMP_CFG n) CMP_CFG_MODE).testBit (b2n lo)

/-- Is a sample, given by the sides that lie beyond, beyond (R130)? -/
def Dev.sampleBeyond (d : Dev) (n : Nat) (s : Bool × Bool) : Bool :=
  (d.sideUsed n false && s.1) || (d.sideUsed n true && s.2)

/-- The filtered state of window `n`, shown in CMP_STAT and CMP_STATE; the history is refilled to agree (R132). -/
def Dev.setWindow (n : Nat) (tripped : Bool) (d : Dev) : Dev :=
  let d := d.setF (CMP_STAT n) CMP_STAT_TRIPPED (b2n tripped)
  let d := if n < 32 then d.putBit CMP_STATE0 n tripped else d.putBit CMP_STATE1 (n - 32) tripped
  d.modCmp n (fun c => { c with hist := List.replicate (filtN (d.fld (CMP_CFG n) CMP_CFG_FILT)) tripped })

/-- The initial state of an enabled window (R133). -/
def Dev.startWindow (n : Nat) (d : Dev) : Dev :=
  if d.isSet (CMP_CFG n) CMP_CFG_EN then d.setWindow n (!d.isSet (CMP_CFG n) CMP_CFG_INIT_NORMAL) else d

/-- Does window `n` take samples? -/
def Dev.windowRuns (d : Dev) (n : Nat) : Bool :=
  d.isSet (CMP_CFG n) CMP_CFG_EN && !d.isSet (CMP_STAT n) CMP_STAT_RETIRED

/-- The history after the samples `news`, newest first. -/
def Dev.windowHist (d : Dev) (n : Nat) (news : List (Bool × Bool)) : List Bool :=
  (news.map (d.sampleBeyond n) ++ (d.cmp n).hist).take (filtN (d.fld (CMP_CFG n) CMP_CFG_FILT))

/-- The raw sides of the last sample. -/
def Dev.rawSides (n : Nat) (s : Bool × Bool) (d : Dev) : Dev :=
  (d.setF (CMP_STAT n) CMP_STAT_RAW_HI (b2n s.1)).setF (CMP_STAT n) CMP_STAT_RAW_LO (b2n s.2)

/-- The samples `news` (newest first, each by the sides that lie beyond) take a NORMAL window to TRIPPED (R132). -/
def Dev.windowTrips (n : Nat) (news : List (Bool × Bool)) (d : Dev) : Dev :=
  match news with
  | [] => d
  | s :: _ =>
    let h := d.windowHist n news
    if d.windowRuns n && !d.isSet (CMP_STAT n) CMP_STAT_TRIPPED && d.sampleBeyond n s
        && filtM (d.fld (CMP_CFG n) CMP_CFG_FILT) ≤ h.countP id then
      let hi := s.1 && d.sideUsed n false
      let lo := s.2 && d.sideUsed n true
      let d := (d.setWindow n true).rawSides n s
      let d := (d.setF (CMP_STAT n) CMP_STAT_SIDE_HI (b2n hi)).setF (CMP_STAT n) CMP_STAT_SIDE_LO (b2n lo)
      let d := (d.incSat (CMP_CNT n) CMP_CNT_TRIPS).setF (CMP_FLT n) CMP_FLT_TRIP 1
      (d.evtRated EV_CMP_TRIP n [n, if hi then 1 else 2]).evalGroups
    else d

/-- The samples `news` take a TRIPPED window to NORMAL (R132). -/
def Dev.windowNormal (n : Nat) (news : List (Bool × Bool)) (d : Dev) : Dev :=
  match news with
  | [] => d
  | s :: _ =>
    let h := d.windowHist n news
    if d.windowRuns n && d.isSet (CMP_STAT n) CMP_STAT_TRIPPED && !d.sampleBeyond n s
        && filtM (d.fld (CMP_CFG n) CMP_CFG_FILT) ≤ h.countP (fun b => !b) then
      ((d.setWindow n false).rawSides n s).evalGroups
    else d

/-! ## Self-checks (R136–R138) -/

/-- The check after `c` among those of the sides in use: HI beyond, HI inside, LO beyond, LO inside. -/
def Dev.nextCheck (d : Dev) (n c : Nat) : Nat :=
  (([c + 1, c + 2, c + 3, c + 4].map (· % 4)).find? (fun k => d.sideUsed n (2 ≤ k))).getD c

/-- A check of window `n` ends: 0–3 the test checks, 4 and 5 the readbacks. A failure is a Gust, a second one in a row a
Gale (R138). `record` writes the check's own count, flag and event. -/
def Dev.checkEnds (n c : Nat) (failed : Bool) (record : Dev → Dev) (d : Dev) : Dev :=
  let before := (d.cmp n).failed.contains c
  let d := d.modCmp n (fun x => { x with failed := if failed then c :: x.failed.erase c else x.failed.erase c })
  let d := d.setF (CMP_STAT n) CMP_STAT_SUSPECT (b2n (!(d.cmp n).failed.isEmpty))
  if failed then
    let d := (record d).gust 5 n
    d.when before (fun d => d.gale 5 n gaTest c)
  else d

/-- A test tick (R136): the check whose turn it is, or the failed one again; the history does not advance. -/
def Dev.testTick (n : Nat) (failed : Bool) (d : Dev) : Dev :=
  if !d.windowRuns n then d
  else
    let turn := (d.cmp n).turn
    let c := if d.sideUsed n (2 ≤ turn) then turn else d.nextCheck n turn
    let d := d.modCmp n (fun x => { x with turn := if failed then c else d.nextCheck n c })
    d.checkEnds n c failed (fun d =>
      ((d.setF (CMP_FLT n) CMP_FLT_TESTFAIL 1).incSat (CMP_CNT n) CMP_CNT_TESTF).evt EV_CMP_TEST_FAIL [n, c]) |>.reqWindow n true failed

/-- A converter has converted an input, and its next conversion compares with it (R118). -/
def Dev.convUsed (c input : Nat) (d : Dev) : Dev :=
  if c < 9 then { d with convs := Tab.set c { (Tab.getD default d.convs c) with prev := some (input, 0, 0), lastConv := d.now } d.convs } else d

/-- The converter that reads threshold DACs back: the spare, or without one that of THM_CFG.SLOT (R137, R138). -/
def Dev.readbackConv (d : Dev) : Nat :=
  let sp := d.fld ADC_STAT ADC_STAT_SPARE
  if sp = 0xF then d.fld ADC_SLOTMAP ⟨4 * d.fld THM_CFG THM_CFG_SLOT, 4⟩ else sp

/-- The readback of a threshold DAC (side 0 HI, 1 LO), off by `err` in 0.1 mV (R137). -/
def Dev.dacReadback (n side : Nat) (err : Int) (d : Dev) : Dev :=
  if !d.windowRuns n then d
  else
    let e := unsignedOf 16 (clampI (-32768) 32767 err)
    let d := d.convUsed d.readbackConv 96
    let d := d.setF (CMP_RDBK n) (if side = 0 then CMP_RDBK_ERR_HI else CMP_RDBK_ERR_LO) e
    let bad := decide (60 < err.natAbs)
    let d := d.modCmp n (fun x => { x with reread := if bad then some side else none, mismatchAt := d.now })
    d.checkEnds n (4 + side) bad (fun d =>
      ((d.setF (CMP_FLT n) CMP_FLT_DACMIS 1).incSat (CMP_CNT n) CMP_CNT_RDBKF).evt EV_CMP_DAC_MISMATCH ([n, side] ++ le2 e)) |>.reqWindow n false bad

/-- The reread of a mismatched DAC (R138). -/
def Dev.dacReread (n : Nat) (err : Int) (d : Dev) : Dev :=
  match (d.cmp n).reread with
  | none => d
  | some side => d.dacReadback n side err

/-! ## Degraded reading (R140) -/

/-- The sides of a converter code of the degraded window's input: thresholds of R129 and R130 in units of 1/65,536 mV. -/
def Dev.degradedSides (d : Dev) (n code : Nat) : Bool × Bool :=
  let c := d.cmp n
  let v : Int := (code : Int) * 3000
  let hyst : Int := if c.degTripped then (d.fld (CMP_CFG n) CMP_CFG_HYST : Int) * 4 * 65536 else 0
  (decide ((d.fld (CMP_THR n) CMP_THR_HI : Int) * 192000 - hyst < v), decide (v < (d.fld (CMP_THR n) CMP_THR_LO : Int) * 192000 + hyst))

/-- The Gaffer's reading of a degraded window, once per millisecond (R140). -/
def Dev.degradedRead (n code : Nat) (d : Dev) : Dev :=
  if !d.isSet (CMP_STAT n) CMP_STAT_DEGRADED then d
  else
    let f := d.fld (CMP_CFG n) CMP_CFG_FILT
    let c := d.cmp n
    let h := (d.sampleBeyond n (d.degradedSides n code) :: c.degHist).take (filtN f)
    let enough := fun (b : Bool) => decide (filtM f ≤ h.countP (fun x => x == b))
    if !c.degTripped && enough true then
      let d := d.modCmp n (fun c => { c with degHist := List.replicate (filtN f) true, degTripped := true })
      d.forEach (d.cmpFeeds n) (fun f d => d.gafferSafe f EV_CMP_DEGRADED)
    else if c.degTripped && enough false then
      d.modCmp n (fun c => { c with degHist := List.replicate (filtN f) false, degTripped := false })
    else d.modCmp n (fun c => { c with degHist := h })

/-! ## The matrix (R144, R147) -/

/-- The level of a TRIP_IN source. -/
def Dev.tripIn (i : Nat) (level : Bool) (d : Dev) : Dev :=
  if (d.fld TRP_EXTCFG TRP_EXTCFG_EN).testBit i then (d.putBit TRP_STAT (16 + i) level).evalGroups else d

/-- A write of TRP_SWTRIP. -/
def Dev.swTrip (triad : Nat) (v : W) (d : Dev) : Dev :=
  if triad ≠ 0 then d.lockedWrite triad TRP_SWTRIP
  else (d.wr TRP_SWTRIP (v &&& 0xFFFF)).evalGroups

/-- T0 releases group `g` (R144): refused against a true source condition; legs that saw a fault pull run the enable
sequence again (R95). -/
def Dev.t0Release (g : Nat) (d : Dev) : Dev :=
  if !d.latching || !d.asserted g then d
  else match d.trueSources g with
    | x :: _ => d.evt EV_TRP_RELEASE_REFUSED [g, x]
    | [] => (d.releaseGroup g false).whenSome (d.groupFn g) (fun f d => d.rerunPulled f)

/-- A write of TRP_REL. -/
def Dev.relWrite (triad : Nat) (v : W) (d : Dev) : Dev :=
  if triad ≠ 0 then d.lockedWrite triad TRP_REL
  else d.forEach (oneBits 16 v.toNat) (fun g d => d.t0Release g)

/-- Automatic releases of group `g` within the last second. -/
def Dev.autoRecent (d : Dev) (g : Nat) : Nat := ((d.trp g).autoRels.filter (fun t => d.since t < secTicks)).length

/-- The automatic release of group `g` (R144); after AUTOMAX of them in a second it stops until T0 releases. -/
def Dev.autoRelease (g : Nat) (d : Dev) : Dev :=
  let s := d.trp g
  let quiet := match s.falseSince with
    | some t => decide (d.fld (TRP_GCFG g) TRP_GCFG_RELDLY * usTicks ≤ d.since t)
    | none => false
  if d.latching && d.asserted g && d.isSet (TRP_GCFG g) TRP_GCFG_AUTOREL && quiet && !s.hardSrc && !s.autoStop
      && (d.trueSources g).isEmpty then
    let d := d.releaseGroup g true
    d.modTrp g (fun s => { s with autoStop := d.fld (TRP_GCFG g) TRP_GCFG_AUTOMAX ≤ d.autoRecent g
                                  autoRels := s.autoRels.take 8 })
  else d

/-! ## Meanings -/

/-- CMP_TRIP (R132): M of the last N window samples are beyond, so a NORMAL window becomes TRIPPED. -/
def execCmpTrip (t : Time) (n : Fin 64) (news : List (Bool × Bool)) (s : State) : Host.Outcome State Fault Refusal :=
  s.on t (fun d => d.windowTrips n news)

/-- CMP_NORMAL (R132): M samples not beyond the release thresholds return a TRIPPED window to NORMAL. -/
def execCmpNormal (t : Time) (n : Fin 64) (news : List (Bool × Bool)) (s : State) : Host.Outcome State Fault Refusal :=
  s.on t (fun d => d.windowNormal n news)

/-- CMP_TEST_TICK (R136): Every 1,024th sample, the window tests one side against a level 30 mV beyond or inside its reference. -/
def execCmpTestTick (t : Time) (n : Fin 64) (failed : Bool) (s : State) : Host.Outcome State Fault Refusal :=
  s.on t (fun d => d.testTick n failed)

/-- CMP_DAC_REREAD (R138): A mismatched DAC is reread as soon as a converter can convert input 96, at the latest 1 ms later. -/
def execCmpDacReread (t : Time) (n : Fin 64) (err : Int) (s : State) : Host.Outcome State Fault Refusal :=
  s.on t (fun d => d.dacReread n err)

/-- CMP_DEGRADED_READ (R140): Each millisecond the Gaffer reads the degraded window's AIN by urgent conversion and applies its thresholds and filter. -/
def execCmpDegradedRead (t : Time) (n : Fin 64) (code : Nat) (s : State) : Host.Outcome State Fault Refusal :=
  s.on t (fun d => d.degradedRead n code)

/-- TRIP_IN_ASSERT (R147): A TRIP_IN land held low for its filter time asserts its trip source. -/
def execTripInAssert (t : Time) (i : Fin 4) (s : State) : Host.Outcome State Fault Refusal :=
  s.on t (fun d => d.tripIn i true)

/-- TRP_SWTRIP_WRITE (R147): A T0 write of TRP_SWTRIP sets or clears the software trip source of groups. -/
def execTrpSwtripWrite (t : Time) (triad : Fin 4) (v : W) (s : State) : Host.Outcome State Fault Refusal :=
  s.on t (fun d => d.swTrip triad v)

/-- TRP_REL_WRITE (R144): A T0 write of TRP_REL releases the named groups if their source condition is false. -/
def execTrpRelWrite (t : Time) (triad : Fin 4) (v : W) (s : State) : Host.Outcome State Fault Refusal :=
  s.on t (fun d => d.relWrite triad v)

/-- AUTO_RELEASE (R144): After RELDLY µs of false source condition, an AUTOREL group releases itself within its rate limit. -/
def execAutoRelease (t : Time) (g : Fin 16) (s : State) : Host.Outcome State Fault Refusal :=
  s.on t (fun d => d.autoRelease g)

/-- TRIP_IN_DEASSERT (R147): A TRIP_IN land returns high and its trip source deasserts at once. -/
def execTripInDeassert (t : Time) (i : Fin 4) (s : State) : Host.Outcome State Fault Refusal :=
  s.on t (fun d => d.tripIn i false)

end Sys2Proof.Machine
end

