-- ==== Sys2Proof/Machine/Que.lean ====
section
/-! DEFINITION. The hardware queues (R325–R331, R335) and the signal table with its maps (R338–R344): the operations that
ports, the link, SIG and the cores share. -/

namespace Sys2Proof.Machine

/-! ## Rings and descriptors (Table QUE-1) -/

def Dev.qEn (d : Dev) (q : Nat) : Bool := d.isSet (QUE_CFG q) QUE_CFG_EN
def Dev.qAssured (d : Dev) (q : Nat) : Bool := d.isSet (QUE_CFG q) QUE_CFG_CLASS
def Dev.qRx (d : Dev) (q : Nat) : Bool := d.isSet (QUE_CFG q) QUE_CFG_DIR
def Dev.qBind (d : Dev) (q : Nat) : Nat := d.fld (QUE_CFG q) QUE_CFG_BIND
def Dev.qSize (d : Dev) (q : Nat) : Nat := d.fld (QUE_SIZE q) QUE_SIZE_ENTRIES
def Dev.qFill (d : Dev) (q : Nat) : Nat := d.fld (QUE_STAT q) QUE_STAT_FILL
def Dev.qHead (d : Dev) (q : Nat) : Nat := d.fld (QUE_RD q) QUE_RD_INDEX
def Dev.que (d : Dev) (q : Nat) : Que := Tab.getD default d.ques q
def Dev.modQue (q : Nat) (g : Que → Que) (d : Dev) : Dev := { d with ques := Tab.set q (g (d.que q)) d.ques }

abbrev bindLink : Nat := 0x10
abbrev bindCores : Nat := 0x20

abbrev dsPending : Nat := 0
abbrev dsSent : Nat := 1
abbrev dsFailed : Nat := 2
abbrev dsExpired : Nat := 3
abbrev dsCancelled : Nat := 4
abbrev dsCancelledAfter : Nat := 5
abbrev dsInvalid : Nat := 6
abbrev dsReceived : Nat := 0x10

/-- The 96 bytes of a descriptor. -/
def Desc.bytes (x : Desc) : List Byte :=
  leBytes 4 x.id.toNat ++ leBytes 1 x.dlc ++ leBytes 1 x.flags ++ leBytes 1 x.status ++ leBytes 1 x.attempts ++
  leBytes 4 x.stamp.toNat ++ leBytes 1 x.port ++ leBytes 3 0 ++ leBytes 8 x.seq ++ leBytes 8 x.posted.toNat ++ sliceB x.data 0 64

/-- The descriptor that 96 bytes hold. -/
def Desc.ofBytes (bs : List Byte) : Desc :=
  let n := fun (o k : Nat) => leNat (sliceB bs o k)
  { id := BitVec.ofNat 32 (n 0 4), dlc := n 4 1, flags := n 5 1, status := n 6 1, attempts := n 7 1, stamp := BitVec.ofNat 32 (n 8 4)
    port := n 12 1, seq := n 16 8, posted := BitVec.ofNat 64 (n 24 8), data := sliceB bs 32 64 }

def Dev.descAddr (d : Dev) (q i : Nat) : Nat := (d.rd (QUE_RING q)).toNat + 96 * i
def Dev.desc (d : Dev) (q i : Nat) : Desc := Desc.ofBytes (Mem.getN 0 d.sram (d.descAddr q i) 96)
def Dev.putDesc (q i : Nat) (x : Desc) (d : Dev) : Dev :=
  ({ d with sram := Mem.putN 0 (d.descAddr q i) x.bytes d.sram }).unpoison (d.descAddr q i) 96
def Dev.headDesc (d : Dev) (q : Nat) : Desc := d.desc q (d.qHead q)

/-- Does the head of queue `q` stand in a poisoned word? -/
def Dev.headPoisoned (d : Dev) (q : Nat) : Bool := d.poisoned (d.descAddr q (d.qHead q)) 96

/-- The lines whose source is queue `q` follow its level (Table COR-3, KIND 0x2). -/
def Dev.queLines (q : Nat) (d : Dev) : Dev :=
  let on := if d.qRx q then decide (0 < d.qFill q) else decide (d.qFill q < d.qSize q)
  configLines.foldl (fun d tl =>
    let w := d.rd (COR_EVSRC tl.1 tl.2)
    if w.fld COR_EVSRC_KIND = 2 && w.fld COR_EVSRC_ARG0 % 32 = q then
      (if on then d.raiseLine tl.1 tl.2 else d.dropLine tl.1 tl.2)
    else d) d

def Dev.setFill (q n : Nat) (d : Dev) : Dev := (d.setF (QUE_STAT q) QUE_STAT_FILL n).queLines q

/-- The next sequence number of a queue, and the device after it is given out. -/
def Dev.nextSeq (q : Nat) (d : Dev) : Nat × Dev :=
  let s := (d.rd64 (QUE_SEQ_LO q) (QUE_SEQ_HI q)).toNat % 2 ^ 48
  (s, d.wr64 (QUE_SEQ_LO q) (QUE_SEQ_HI q) (BitVec.ofNat 64 ((s + 1) % 2 ^ 48)))

/-- A journal record of an entry that has ended: DONE or TAKEN. -/
def Dev.qEnded (q : Nat) (kind : Nat) (seq : Nat) (next : JThen) (d : Dev) : Dev :=
  if d.qAssured q then d.jrnRequest kind q seq [] next else d

/-- QUE_RD passes the head. -/
def Dev.qAdvance (q : Nat) (d : Dev) : Dev :=
  let d := d.wr (QUE_RD q) (BitVec.ofNat 32 ((d.qHead q + 1) % (max 1 (d.qSize q))))
  let d := (d.setF (QUE_STAT q) QUE_STAT_INFLIGHT 0).setF (QUE_STAT q) QUE_STAT_WAITING 0
  (d.modQue q (fun x => { x with cancelLate := false, awaiting := none })).setFill q (d.qFill q - 1)

/-- The link's transmitter takes the head of a link-bound transmit queue (Table LNK-1). -/
def Dev.linkHead (q : Nat) (d : Dev) : Dev :=
  if d.qEn q && !d.qRx q && d.qBind q = bindLink && 0 < d.qFill q && !d.isSet (QUE_STAT q) QUE_STAT_INFLIGHT &&
      (d.que q).awaiting.isNone && d.paired && d.linkUp then
    let x := d.headDesc q
    let f : Frame := ⟨x.id.toNat % 0x20000000, x.id.bit 31, x.id.bit 30, x.id.bit 29, x.flags.testBit 0, x.flags.testBit 1, x.dlc, x.data⟩
    (d.setF (QUE_STAT q) QUE_STAT_INFLIGHT 1).linkSend (.queue q f)
  else d

/-- Heads that are not sendable leave the ring: entries already completed, FD frames on a port without FDEN (R317), and
entries in a poisoned word (Table BKG-1). -/
def Dev.settleHead (q : Nat) : Nat → Dev → Dev
  | 0, d => d
  | n + 1, d =>
    if d.qRx q || d.qFill q = 0 then d
    else
      let x := d.headDesc q
      if x.status ≠ dsPending then Dev.settleHead q n (d.qAdvance q)
      else if (d.qBind q < 6 && x.id.bit 30 && !d.isSet (BUS_CFG (d.qBind q)) BUS_CFG_FDEN) || d.headPoisoned q then
        let d := (d.putDesc q (d.qHead q) { x with status := dsInvalid }).qAdvance q
        Dev.settleHead q n (d.qEnded q jkDone x.seq .done)
      else d.linkHead q

/-- An entry is at the tail of a ring: the whole descriptor first, then QUE_WR and FILL (R327). -/
def Dev.qPush (q : Nat) (x : Desc) (d : Dev) : Dev :=
  let w := d.fld (QUE_WR q) QUE_WR_INDEX
  let d := d.putDesc q w x
  let d := d.wr (QUE_WR q) (BitVec.ofNat 32 ((w + 1) % (max 1 (d.qSize q))))
  let d := d.setFill q (d.qFill q + 1)
  d.settleHead q 1

/-- The head of a transmit queue is completed with a status and leaves the ring (R327). An assured entry asks for its DONE
record. -/
def Dev.qComplete (q status : Nat) (late : Bool) (d : Dev) : Dev :=
  let x := d.headDesc q
  let flags := if late then withBits x.flags 2 1 1 else x.flags
  let d := (d.putDesc q (d.qHead q) { x with status := status, flags := flags }).qAdvance q
  let d := d.when (status = dsSent) (fun d => d.inc32 (QUE_OK q))
  (d.qEnded q jkDone x.seq .done).settleHead q (d.qFill q)

/-- May an entry be posted, counting those whose journal record is not committed yet? -/
def Dev.qRoom (d : Dev) (q : Nat) : Bool := d.qFill q + (d.que q).posting < d.qSize q

/-- Is a descriptor a domain COMMAND (Table SIG-2)? -/
def Dev.isDomain (d : Dev) (x : Desc) : Bool :=
  d.isSet SIG_CFG SIG_CFG_DOMEN && x.id.bit 31 && x.id.bit 30 && bitsOf x.id.toNat 20 6 = d.fld SIG_DOM SIG_DOM_DMARK
def domKind (x : Desc) : Nat := bitsOf x.id.toNat 17 3
def domDst (x : Desc) : Nat := bitsOf x.id.toNat 0 14
def Dev.isCommand (d : Dev) (x : Desc) : Bool := d.isDomain x && domKind x = 1

/-- The ROUTE entry that holds a destination (R346). -/
def Dev.route (d : Dev) (dst : Nat) : Option RouteEnt := d.img.routes.find? (fun r => r.first ≤ dst && dst ≤ r.last)

/-- A COMMAND carries its source, its hop limit and its SEQ (Table SIG-3, R346). -/
def Dev.stampCommand (x : Desc) (d : Dev) : Desc :=
  if d.isCommand x then
    let hops := match d.route (domDst x) with | some r => r.hops | none => 0
    { x with data := leBytes 2 (d.fld SIG_CFG SIG_CFG_DEVID) ++ leBytes 1 hops ++ leBytes 1 0 ++ sliceB x.data 4 4 ++
                       leBytes 8 x.seq ++ sliceB x.data 16 48 }
  else x

/-- A post on transmit queue `q` (R325, R348, R373): the result code of Table COR-8 and the SEQ given, or no code yet
where the journal record of an assured entry is asked for. `poster` is the triad, 4 for SIG. -/
def Dev.post (poster q : Nat) (x : Desc) (d : Dev) : Option Nat × Nat × Dev :=
  if !d.qRoom q then
    (some 2, 0, (d.setF (QUE_FLT q) QUE_FLT_FULL 1).evtRated EV_QUE_FULL q [q])
  else if d.qAssured q && d.jrnFull then (some 2, 0, d.incSat JRN_REFUSE JRN_REFUSE_FULL)
  else
    let (seq, d) := d.nextSeq q
    let port := if d.qBind q < 6 then d.qBind q else 0
    let x := { x with status := dsPending, attempts := 0, stamp := 0, port := port, seq := seq, posted := d.now, flags := x.flags % 2 }
    let x := d.stampCommand x
    if d.qAssured q then
      (none, seq, (d.modQue q (fun e => { e with posting := e.posting + 1 })).jrnRequest jkTx q seq x.bytes (.post poster x))
    else (some 0, seq, d.qPush q x)

/-! ## The signal table (R338, R339) -/

abbrev sigBase : Nat := 0x19000000

/-- A byte of the signal table. The WRITER nibble is kept inverted, so that an entry never written reads 0xF. -/
def Dev.sigByte (d : Dev) (a : Nat) : Byte :=
  let b := Mem.get 0 d.sigt a
  if a % 16 = 15 then b ^^^ 0x0F#8 else b
def Dev.sigNum (d : Dev) (a n : Nat) : Nat := leNat ((List.range n).map (fun i => d.sigByte (a + i)))
def Dev.sigPut (a : Nat) (bs : List Byte) (d : Dev) : Dev :=
  { d with sigt := Mem.putN 0 a ((List.range bs.length).map (fun i =>
      let b := bs.getD i 0
      if (a + i) % 16 = 15 then b ^^^ 0x0F#8 else b)) d.sigt }
def Dev.sigVal (d : Dev) (i : Nat) : Nat := d.sigNum (sigBase + 16 * i) 8
def Dev.sigStamp (d : Dev) (i : Nat) : W := BitVec.ofNat 32 (d.sigNum (sigBase + 16 * i + 8) 4)
def Dev.sigAttr (d : Dev) (i : Nat) : W := BitVec.ofNat 32 (d.sigNum (sigBase + 16 * i + 12) 4)
def Dev.sigF32 (d : Dev) (i : Nat) : Bool := (d.sigAttr i).bit 22

/-- The frame-stamp counter (R40). -/
def fstampOf (t : Time) : W := BitVec.ofNat 32 (t.toNat / 400)
def Dev.fstamp (d : Dev) : W := fstampOf d.now

/-- A completed write of signal `i`: the halves written, STAMP and WRITER, and the lines it raises (R339, Table COR-3). -/
def Dev.sigWrite (i : Nat) (lo hi : Option W) (stamp : W) (writer : Nat) (d : Dev) : Dev :=
  let a := sigBase + 16 * i
  let put := fun (o : Nat) (v : Option W) (d : Dev) => d.whenSome v (fun w d => d.sigPut (a + o) (leBytes 4 w.toNat))
  let attr := withBits (withBits (d.sigAttr i).toNat 24 4 writer) 28 1 1
  let d := ((put 4 hi (put 0 lo d)).sigPut (a + 8) (leBytes 4 stamp.toNat)).sigPut (a + 12) (leBytes 4 attr)
  let d := d.when (attr.testBit 20 && !d.sig.written.contains i) (fun d => { d with sig := { d.sig with written := d.sig.written ++ [i] } })
  d.raiseWhere (fun _ w => w.fld COR_EVSRC_KIND = 3 && w.fld COR_EVSRC_ARG0 = i)

/-! ## Signal maps (R341–R344) -/

/-- The frame bits of a field, by value bit from the least significant (R342). -/
def SigField.bits (f : SigField) : List Nat :=
  if f.order = 0 then (List.range f.bitlen).map (fun i => f.bitpos + i)
  else ((List.range (f.bitlen - 1)).foldl (fun (acc : List Nat) _ =>
    let p := acc.headD 0
    (if p % 8 = 0 then (p / 8 + 1) * 8 + 7 else p - 1) :: acc) [f.bitpos])

def frameBit (bs : List Byte) (n : Nat) : Bool := (bs.getD (n / 8) 0).toNat.testBit (n % 8)

/-- The value a field takes from a frame's bytes: bits 31:0 and 63:32 (R342). -/
def Dev.fieldIn (d : Dev) (f : SigField) (bs : List Byte) : W × W :=
  let v := (f.bits.zipIdx).foldl (fun acc p => if frameBit bs p.1 then acc + 2 ^ p.2 else acc) 0
  let i : Int := if f.enc = 1 then signedOf f.bitlen v else (v : Int)
  if f.enc = 2 then (BitVec.ofNat 32 v, 0)
  else if d.sigF32 f.sig then (fOfInt i, 0)
  else
    let u := unsignedOf 64 i
    (BitVec.ofNat 32 u, BitVec.ofNat 32 (u / 2 ^ 32))

/-- The number a field places in a frame (R342). -/
def Dev.fieldOut (d : Dev) (f : SigField) : Nat :=
  let v := d.sigVal f.sig
  if f.enc = 2 || !d.sigF32 f.sig then v % 2 ^ f.bitlen
  else
    let x := BitVec.ofNat 32 v
    let lo : Int := if f.enc = 1 then -(2 ^ (f.bitlen - 1) : Nat) else 0
    let hi : Int := if f.enc = 1 then (2 ^ (f.bitlen - 1) : Nat) - 1 else (2 ^ f.bitlen : Nat) - 1
    if fIsNaN x then 0
    else if fIsInf x then unsignedOf f.bitlen (if fSign x then lo else hi)
    else unsignedOf f.bitlen (clampI lo hi (fNearMul x 1))

/-- Data lengths of DLC 0–15. -/
def dlcLen (fdf : Bool) (dlc : Nat) : Nat :=
  if dlc ≤ 8 then dlc else if fdf then [12, 16, 20, 24, 32, 48, 64].getD (dlc - 9) 64 else 8

/-- One map applied to a stored frame: its fields as one group; a field beyond the data is counted (R343). -/
def Dev.applyMap (m : Nat) (sm : SigMap) (x : Desc) (d : Dev) : Dev :=
  let len := dlcLen (x.id.bit 30) x.dlc
  let inLen := fun (f : SigField) => f.bits.all (fun n => n < 8 * len)
  let vals := (sm.fields.filter inLen).map (fun f => (f.sig, d.fieldIn f x.data))
  let short := (sm.fields.filter (fun f => !inLen f)).length
  let d := vals.foldl (fun d p => d.sigWrite p.1 (some p.2.1) (some p.2.2) x.stamp 5) d
  let d := d.incSat (SIG_MAPSTAT m) SIG_MAPSTAT_APPLY
  if short = 0 then d
  else ((d.addSat (SIG_MAPSTAT m) SIG_MAPSTAT_SHORT short).setF SIG_FLT SIG_FLT_SHORT 1).evtRated EV_SIG_MAP_SHORT m [m]

/-- Every map of queue `q` that matches a stored frame, in map order. -/
def Dev.applyMaps (q : Nat) (x : Desc) (d : Dev) : Dev :=
  (d.img.sigmaps.zipIdx).foldl (fun d p =>
    let sm := p.1
    if sm.dir = 0 && sm.queue = q && sm.canid.bit 31 = x.id.bit 31 && sm.canid.bit 30 = x.id.bit 30 &&
        ((sm.canid ^^^ x.id) &&& sm.idmask).toNat % 0x20000000 = 0 then d.applyMap p.2 sm x
    else d) d

/-- Is a domain frame for this module: its own device, the broadcast address, or what a gateway absorbs for the root
(R345, R346, R358)? -/
def Dev.domainOwn (d : Dev) (x : Desc) : Bool :=
  d.isDomain x && domKind x < 6 &&
    (domDst x = d.fld SIG_CFG SIG_CFG_DEVID || domDst x = 0x3FFE ||
      (d.isSet SIG_CFG SIG_CFG_GW && (domKind x = 3 || domKind x = 4) && domDst x = d.fld SIG_DOM SIG_DOM_ROOTID))

/-- SIG takes the head of a queue it consumes (R326). -/
def Dev.sigTake (q : Nat) (x : Desc) (d : Dev) : Dev := (d.qAdvance q).qEnded q jkTaken x.seq (.taken 4 none)

/-- An entry stands in receive queue `q`: maps applied; SIG takes it from an AUTOQ (R343), and from a domain queue where
it is not for this module. -/
def Dev.stored (q : Nat) (x : Desc) (d : Dev) : Dev :=
  let d := (d.qPush q x).inc32 (QUE_OK q)
  let d := d.applyMaps q x
  if d.bit SIG_AUTOQ q || (d.bit SIG_DQMASK q && !d.domainOwn x) then d.sigTake q x else d

/-- A frame is stored in receive queue `q`, or dropped where it is full (R324, R355). -/
def Dev.storeFrame (q port : Nat) (f : Frame) (stamp : W) (self : Bool) (d : Dev) : Dev :=
  if !d.qRoom q || (d.qAssured q && d.jrnFull) then
    let d := d.when (port < 6) (fun d => (d.incSat (BUS_DROP port) BUS_DROP_OVF).setF (BUS_FLT port) BUS_FLT_RXOVF 1)
    let d := (d.incSat (QUE_LOSS q) QUE_LOSS_OVF).setF (QUE_FLT q) QUE_FLT_OVF 1
    d.rated clsWarning EV_BUS_RX_OVERFLOW q secTicks (fun n => dat ([q] ++ le4 n))
  else
    let (seq, d) := d.nextSeq q
    let len := dlcLen f.fdf f.dlc
    let (fw, d) := d.ask 10
    let open_ := (List.range 64).map (fun i => BitVec.ofNat 8 ((Config.freeWord fw.toNat i).toNat))
    let x : Desc :=
      { id := BitVec.ofNat 32 (f.id % 0x20000000 + b2n f.ide * 0x80000000 + b2n f.fdf * 0x40000000 + b2n f.brs * 0x20000000)
        dlc := f.dlc, flags := b2n f.rtr + 2 * b2n f.esi + 8 * b2n self, status := dsReceived, attempts := 0, stamp := stamp
        port := if port < 6 then port else 0, seq := seq, posted := d.now, data := sliceB f.data 0 len ++ open_.drop len }
    if d.qAssured q then
      (d.modQue q (fun e => { e with posting := e.posting + 1 })).jrnRequest jkRx q seq x.bytes (.store x)
    else d.stored q x

/-- A map is sent (R344): every field in one snapshot. -/
def Dev.mapFrame (d : Dev) (sm : SigMap) : Desc :=
  let bitsSet := sm.fields.flatMap (fun f =>
    let v := d.fieldOut f
    (f.bits.zipIdx).filterMap (fun p => if v.testBit p.2 then some p.1 else none))
  let top := sm.fields.foldl (fun m f => f.bits.foldl (fun m n => max m (n / 8 + 1)) m) 0
  let fd := sm.canid.bit 30
  let dlc := ((List.range 16).find? (fun k => top ≤ dlcLen fd k)).getD 15
  let data := (List.range 64).map (fun b => BitVec.ofNat 8 (bitsSet.foldl (fun acc n => if n / 8 = b then acc ||| 2 ^ (n % 8) else acc) 0))
  { id := BitVec.ofNat 32 (sm.canid.toNat % 0x20000000 + b2n (sm.canid.bit 31) * 0x80000000 + b2n fd * 0x60000000)
    dlc := dlc, flags := 0, status := 0, attempts := 0, stamp := 0, port := 0, seq := 0, posted := 0, data := data }

end Sys2Proof.Machine
end

