-- ==== Sys2Proof/Machine/Casc.lean ====
section
/-! DEFINITION. A cascade by itself: its block in coefficient memory (R158), its sections (R154–R156), its region (R170,
R171), its triggers (R151, R163–R165, R175) and VCORE's answer to slack (R39). -/

namespace Sys2Proof.Machine

/-! ## VCORE (R39) -/

/-- VCORE returns to 0.80 V. -/
def Dev.vcoreRestore (d : Dev) : Dev := d.setF SUP_VCORE SUP_VCORE_VCORE 800

/-- An agreement `left` fine ticks before the end of its deadline interval `dl` (R39, R169). -/
def Dev.vcoreSlack (left dl : Nat) (d : Dev) : Dev :=
  let margin := d.fld SUP_CFG SUP_CFG_SLACK_MARGIN
  let s := left * 10000 / dl
  let d := { d with vcore := { d.vcore with ample := d.vcore.ample && decide (margin * dl ≤ left * 100)
                                            minSlack := some (match d.vcore.minSlack with | some m => min m s | none => s) } }
  if left * 200 < margin * dl then
    d.setF SUP_VCORE SUP_VCORE_VCORE (min 800 (d.fld SUP_VCORE SUP_VCORE_VCORE + 20))
  else d

/-! ## The block of a cascade (R158) -/

def Dev.coefWord (d : Dev) (i : Nat) : W := Mem.word d.coef (0x18000000 + 4 * i)
def Dev.cascHdr (d : Dev) (i : Nat) : Nat := d.fld (CEN_CDESC (pairOf i) (cascOf i)) CEN_CDESC_HDR
/-- Words of the block of cascade `i`. -/
def Dev.cascWords (d : Dev) (i : Nat) : Nat :=
  let n := d.fld (CEN_CDESC (pairOf i) (cascOf i)) CEN_CDESC_NSEC
  32 + 4 * n + 12 * n * (if d.isSet (CEN_CDESC (pairOf i) (cascOf i)) CEN_CDESC_REG16 then 16 else 1)
def Dev.cascNsec (d : Dev) (i : Nat) : Nat := d.fld (CEN_CDESC (pairOf i) (cascOf i)) CEN_CDESC_NSEC
def Dev.cascHdrWord (d : Dev) (i k : Nat) : W := d.coefWord (d.cascHdr i + k)
/-- Word `k` of the section entry of section `j`. -/
def Dev.sectWord (d : Dev) (i j k : Nat) : W := d.coefWord (d.cascHdr i + 32 + 4 * j + k)
/-- Word `k` of the coefficient entry of section `j` in region `r`. -/
def Dev.coefEntry (d : Dev) (i r j k : Nat) : W :=
  d.coefWord (d.cascHdr i + 32 + 4 * d.cascNsec i + 12 * (r * d.cascNsec i + j) + k)

/-- The deadline interval of a cascade, fine ticks. -/
def Dev.cascDl (d : Dev) (i : Nat) : Nat := (d.rd (CEN_CDL (pairOf i) (cascOf i))).toNat
def Dev.cascDeadline (d : Dev) (i : Nat) : Nat := (d.cascade i).ref.toNat + d.cascDl i
def Dev.cascTrig (d : Dev) (i : Nat) : Nat := d.fld (CEN_CTRIG (pairOf i) (cascOf i)) CEN_CTRIG_TRIG

/-! ## Sections -/

/-- The lower and the higher of two numbers; of two zeros of opposite sign, which one is open. -/
def bound (hi : Bool) (a b : W) : W :=
  if fLt a b then (if hi then b else a)
  else if fLt b a then (if hi then a else b)
  else if a = b then a
  else fZero ((Config.minMaxOpen (b2n hi) a b).bit 31)

/-- The operand of a code (Table CEN-1): `snap` the latched inputs, `outs` the outputs of this activation so far, `prev`
the outputs of the previous one. -/
def operand (snap outs prev : List W) (code : Nat) : W :=
  if code < 16 then snap.getD code 0
  else if 0x40 ≤ code ∧ code < 0x80 then
    (if code - 0x40 < outs.length then outs.getD (code - 0x40) 0 else prev.getD (code - 0x40) 0)
  else if code = 0xFF then f1 else f0

/-- What one section computes (R154–R156): its new state, its output, and whether a value was not finite. -/
def section_ (kind : Nat) (clamp : Bool) (a b c dd l : W) (k : Nat → W) (s : Sect) : Sect × Bool :=
  let x := fAdd (fAdd (fMul (k 0) a) (fMul (k 1) b)) (fMul (k 2) c)
  let y := if kind = 1 then fMul (k 3) (fMul x dd) else fAdd (fMul (k 3) x) s.s1
  let n1 := if kind = 1 then f0 else fAdd (fSub (fMul (k 4) x) (fMul (k 6) y)) s.s2
  let n2 := if kind = 1 then f0 else fSub (fMul (k 5) x) (fMul (k 7) y)
  let p := fMul (k 8) l
  let q := fMul (k 9) l
  let lo := bound false p q
  let hi := bound true p q
  if !([x, y, n1, n2].all fFinite && (!clamp || (fFinite p && fFinite q))) then (s, true)
  else if clamp && fGt y hi then ({ s with xprev := x, y := hi }, false)
  else if clamp && fLt y lo then ({ s with xprev := x, y := lo }, false)
  else (⟨n1, n2, x, y⟩, false)

/-- The sections of an activation, in order, from the bank it starts with: the new bank and whether a value was not
finite. -/
def Dev.runSections (d : Dev) (i region : Nat) (snap : List W) (bank : List Sect) : List Sect × Bool :=
  let prev := bank.map (·.y)
  (List.range (d.cascNsec i)).foldl (fun (acc : List Sect × Bool) j =>
    let ctrl := d.sectWord i j 0
    let ops := (d.sectWord i j 1).toNat
    let o := operand snap (acc.1.map (·.y)) prev
    let r := section_ (bitsOf ctrl.toNat 0 4) (ctrl.bit 4) (o (bitsOf ops 0 8)) (o (bitsOf ops 8 8)) (o (bitsOf ops 16 8))
      (o (bitsOf ops 24 8)) (o (bitsOf (d.sectWord i j 2).toNat 0 8)) (d.coefEntry i region j) (bank.getD j default)
    (acc.1 ++ [r.1], acc.2 || r.2)) ([], false)

/-- The bumpless adjustment of a bank at a region change (R171). -/
def Dev.bumpless (d : Dev) (i region : Nat) (bank : List Sect) : List Sect :=
  (List.range (d.cascNsec i)).map (fun j =>
    let s : Sect := bank.getD j default
    let ctrl := d.sectWord i j 0
    let k := d.coefEntry i region j
    if bitsOf ctrl.toNat 0 4 = 0 ∧ ctrl.bit 5 then
      { s with s1 := fSub s.y (fMul (k 3) s.xprev), s2 := fSub (fMul (k 5) s.xprev) (fMul (k 7) s.y) }
    else s)

/-! ## Regions (R170) -/

/-- The interval index of a scheduling variable: `bp` its breakpoints, `cur` its index so far. -/
def interval (bp : Nat → W) (first : Bool) (v : W) (cur : Nat) : Nat :=
  if first then ([1, 2, 3].filter (fun k => fLe (bp k) v)).length
  else
    let up := (List.range 3).foldl (fun c _ => if c < 3 ∧ fGe v (fMul (bp (c + 1)) (fOfRatio 102 100)) then c + 1 else c) cur
    (List.range 3).foldl (fun c _ => if 0 < c ∧ fLt v (fMul (bp c) (fOfRatio 98 100)) then c - 1 else c) up

/-- The region of an activation: ix, iy, and whether a variable was a NaN. -/
def Dev.chooseRegion (d : Dev) (i : Nat) (snap : List W) : Nat × Nat × Bool :=
  if !d.isSet (CEN_CDESC (pairOf i) (cascOf i)) CEN_CDESC_REG16 then (0, 0, false)
  else
    let c := d.cascade i
    let w := (d.cascHdrWord i 24).toNat
    let prev := c.bank.map (·.y)
    let var := fun (lo absBit : Nat) =>
      let v := operand snap [] prev (bitsOf w lo 8)
      if w.testBit absBit then fAbs v else v
    let axis := fun (v : W) (base cur : Nat) => if fIsNaN v then cur else interval (fun k => d.cascHdrWord i (base + k)) c.first v cur
    let vx := var 0 16
    let vy := var 8 17
    (axis vx 24 c.ix, axis vy 27 c.iy, fIsNaN vx || fIsNaN vy)

/-! ## Inputs -/

/-- The snapshot of the sixteen inputs (R161). -/
def Dev.latchInputs (d : Dev) (i : Nat) : List W :=
  let words := match d.cascOwner i with | some f => Tab.getD [] d.words f | none => []
  (List.range 16).map (fun k =>
    let w := (d.cascHdrWord i k).toNat
    let idx := bitsOf w 0 16
    match bitsOf w 28 4 with
    | 1 => words.getD idx 0
    | 2 => d.rd (CEN_OBS (pairOf i) (bitsOf idx 4 2) (bitsOf idx 0 3))
    | 3 => BitVec.ofNat 32 (d.sigVal idx)
    | _ => f0)

/-! ## Triggers -/

/-- A cascade event with its count (R178). -/
def Dev.cenRated (code i : Nat) (d : Dev) : Dev := d.evtRated code i [pairOf i, cascOf i]

/-- A trigger that is ignored and counted (R164, R165). -/
def Dev.overrun (i : Nat) (flag : Bool) (d : Dev) : Dev :=
  let d := d.incSat (CEN_CMISS (pairOf i) (cascOf i)) CEN_CMISS_OVERRUNS
  d.when flag (fun d => (d.setF (CEN_FLT (pairOf i)) CEN_FLT_OVERRUN 1).cenRated EV_CEN_OVERRUN i)

def Dev.pairOfD (d : Dev) (p : Nat) : Pair := Tab.getD default d.pairs p
def Dev.modPair (p : Nat) (g : Pair → Pair) (d : Dev) : Dev := { d with pairs := Tab.set p (g (d.pairOfD p)) d.pairs }

/-- The counters of a miss (R167): the bit, the counts and the record; VCORE returns to 0.80 V (R39). -/
def Dev.countMiss (i : Nat) (d : Dev) : Dev :=
  let p := pairOf i
  let c := cascOf i
  let d := (d.putBit (CEN_STAT p) c true).incSat (CEN_CMISS p c) CEN_CMISS_MISSES
  let d := d.whenSome (d.cascOwner i) (fun f d =>
    { d with bkg := { d.bkg with misses := Tab.set f (Tab.getD 0 d.bkg.misses f + 1) d.bkg.misses } })
  ((d.incSat (CEN_CSTAT p c) CEN_CSTAT_CMISS).cenRated EV_CEN_MISS i).vcoreRestore

/-- The consecutive misses of a cascade reach its function's MISS_LIMIT (R168). -/
def Dev.missLimit (i : Nat) (d : Dev) : Dev :=
  match d.cascOwner i with
  | none => d
  | some f =>
    if (d.funcD f).missLimit ≤ d.fld (CEN_CSTAT (pairOf i) (cascOf i)) CEN_CSTAT_CMISS && d.cascActive i then
      ((d.evt EV_CEN_MISS_LIMIT [pairOf i, cascOf i]).gustPair (pairOf i)).gafferSafe f EV_CEN_MISS_LIMIT
    else d

/-- A trigger reaches cascade `i` with reference instant `ref` (R151, R164, R165). A trigger during a pair restart is
discarded, which `miss` counts at most once per cascade (R175). -/
def Dev.cascTriggerWith (miss : Nat → Dev → Dev) (i : Nat) (ref : Time) (d : Dev) : Dev :=
  let p := pairOf i
  if !d.cascActive i || !d.inRun then d
  else if d.isSet (CEN_STAT p) CEN_STAT_RESTARTING then
    if (d.pairOfD p).discarded.contains i then d
    else miss i (d.modPair p (fun x => { x with discarded := i :: x.discarded }))
  else if d.cascPend i || d.cascRun i then d.overrun i true
  else if (match (d.cascade i).latched with | some t => decide (d.since t < 5 * usTicks) | none => false) then d.overrun i false
  else (d.setPend i true).modCasc i (fun c => { c with ref := ref })

/-- The last boundary of a function's leg-period slot (Table CEN-5). -/
def Dev.fnFiring (d : Dev) (f : Nat) : Time :=
  let n := (d.funcD f).slot
  let per := (d.rd (TKP_SLOT_PER n)).toNat
  let t0 := d.epoch.toNat + (d.rd (TKP_SLOT_PHS n)).toNat
  if per = 0 ∨ d.now.toNat < t0 then d.epoch
  else BitVec.ofNat 64 (t0 + (d.now.toNat - t0) / per * per)

end Sys2Proof.Machine
end

