-- ==== Sys2Proof/Machine/Inverse.lean ====
section
/-! DEFINITION. The inverse stage of an axis unit: limits, carrier, modulation, compensation and the window rule (R186,
R189–R193, R204), the commit (R23, R195), non-finite values (R197), and what a unit does when its cascade misses (R196,
R244). -/

namespace Sys2Proof.Machine

def Dev.fnPer (d : Dev) (f : Nat) : Nat :=
  match d.fnLegs f with
  | n :: _ => d.fld (LEG_PER n) LEG_PER_PER
  | [] => 0

def Dev.coupled (d : Dev) (u : Nat) : Bool := d.isSet (AXU_CFG u) AXU_CFG_COUPLED
/-- The units whose sets the unit computes: itself, or both of a six-phase pair (R193). -/
def Dev.setUnits (d : Dev) (u : Nat) : List Nat := if d.coupled u then [u, u + 1] else [u]
/-- The displacement of set 2. -/
def Dev.gamma (d : Dev) (u : Nat) : W := if d.isSet (AXU_CFG u) AXU_CFG_GAMMA then BitVec.ofNat 32 357913941 else 0
def Dev.axuPhase (d : Dev) (u : Nat) : Nat := d.fld (AXU_POSSTAT u) AXU_POSSTAT_PHASE

/-- The rotation of a vector by an angle, and back. -/
def rotate (x y th : W) : W × W :=
  (fSub (fMul x (fCos th)) (fMul y (fSin th)), fAdd (fMul x (fSin th)) (fMul y (fCos th)))
def unrotate (x y th : W) : W × W :=
  (fAdd (fMul x (fCos th)) (fMul y (fSin th)), fAdd (fMul (fNeg x) (fSin th)) (fMul y (fCos th)))

/-- The length of a vector. -/
def fLen (x y : W) : W := fSqrt (fAdd (fMul x x) (fMul y y))

/-! ## The carrier (R204) -/

def Dev.injK (d : Dev) (u : Nat) : Nat := d.fld (AXU_INJCFG u) AXU_INJCFG_K
/-- V_h. -/
def Dev.carrierAmp (d : Dev) (u : Nat) : W :=
  if d.isSet (AXU_INJCFG u) AXU_INJCFG_AMPSRC then Tab.getD f0 (d.axu u).words 6 else d.rd (AXU_INJV u)
def Dev.carrierOn (d : Dev) (u : Nat) : Bool :=
  d.posSrc u = srcSensorless &&
    (d.axuPhase u = 3 || (d.axuPhase u = 5 && fLt (d.rd (AXU_WBL u)) f1))
/-- V_c. -/
def Dev.carrierVc (d : Dev) (u : Nat) : W :=
  if d.carrierOn u then fMul (d.carrierAmp u) (fSub f1 (d.rd (AXU_WBL u))) else f0
/-- Index `n` of a carrier of `k` periods, as an angle. -/
def carrierAngle (n k : Nat) : W := BitVec.ofNat 32 (n * 2 ^ 32 / k)

/-! ## Modulation (R189, R190) -/

/-- The phase voltages of a vector (R185). -/
def phases (va vb : W) : List W :=
  let h := fHalf (fNeg va)
  [va, fAdd h (fMul fHalfSqrt3 vb), fSub h (fMul fHalfSqrt3 vb)]

def fMax3 (xs : List W) : W := xs.foldl fMaxN (xs.headD f0)
def fMin3 (xs : List W) : W := xs.foldl fMinN (xs.headD f0)

/-- The zero-sequence voltage of a modulation mode. -/
def zeroSeq (mode : Nat) (va vb : W) : W :=
  if mode = 1 then
    let v2 := fAdd (fMul va va) (fMul vb vb)
    if fIsZero v2 then f0
    else fNeg (fDiv (fSub (fMul (fC 4 1) (fMul va (fMul va va))) (fMul (fC 3 1) (fMul va v2))) (fMul (fC 6 1) v2))
  else if mode = 2 then
    let x := phases va vb
    fHalf (fNeg (fAdd (fMax3 x) (fMin3 x)))
  else f0

def vlin (mode : Nat) (vdc : W) : W := if mode = 0 then fHalf vdc else fDiv vdc fSqrt3

/-- The vector limit (R190): the limited vector and whether it was limited. -/
def limitVec (ovm : Nat) (lim vd vq : W) : W × W × Bool :=
  let m := fLen vd vq
  if fGt m lim then
    if ovm = 1 then
      let vd' := fClamp (fNeg lim) lim vd
      let r := fSqrt (fMaxN f0 (fSub (fMul lim lim) (fMul vd' vd')))
      (vd', if fLt vq f0 then fNeg r else r, true)
    else (fDiv (fMul vd lim) m, fDiv (fMul vq lim) m, true)
  else (vd, vq, false)

/-- One leg's values under the window rule (R192). -/
structure PhaseSet where
  leg : Nat
  sha : Nat
  shift : Int
  carry : Nat
  cut : Bool
  lost : Bool

/-- The window rule of R192 for one phase: its on-time and carry to SHA and an equal shift. -/
def windowRule (wen : Bool) (per dt wpre wpost cmax leg : Nat) (ton carry : Nat) : PhaseSet :=
  if !wen then ⟨leg, min ton per, 0, 0, false, false⟩
  else
    let room : Int := (per : Int) - wpre - wpost - dt
    let want : Int := (ton : Int) + carry
    let tight := decide (room < want)
    let use : Int := if tight then room else want
    let c : Int := if tight then min (want - room) cmax else 0
    let rise : Int := ((per : Int) - use) / 2
    let shift : Int :=
      if rise < wpost then wpost - rise
      else if (per : Int) - wpre < rise + use + dt then ((per : Int) - wpre) - (rise + use + dt)
      else 0
    ⟨leg, use.toNat, shift, c.toNat, tight, tight && decide (c < want - room)⟩

/-! ## Records of a unit -/

/-- A non-finite value or an unusable V_dc (R197). -/
def Dev.axuNonfinite (u f : Nat) (d : Dev) : Dev :=
  let d := ((d.setF (AXU_STAT u) AXU_STAT_NONFIN 1).setF (AXU_FLT u) AXU_FLT_NONFIN 1).evt EV_AXU_NONFINITE [u]
  d.gafferSafe f EV_AXU_NONFINITE

/-- A set that came too late (R195). -/
def Dev.axuLate (u : Nat) (d : Dev) : Dev :=
  let d := ((d.setF (AXU_STAT u) AXU_STAT_LATE 1).setF (AXU_FLT u) AXU_FLT_LATE 1).incSat (AXU_CNT u) AXU_CNT_LATES
  d.evtRated EV_AXU_LATE_SET u [u]

/-- Is a DC-link voltage usable (R184)? -/
def Dev.vdcOk (d : Dev) (u : Nat) : Bool :=
  match (d.axu u).vdc with
  | some v => fFinite v && fGt v f1
  | none => false

/-! ## The stage -/

/-- The on-times of one set, by unit `w` (the even unit's settings govern both, R193). -/
def Dev.setOnTimes (d : Dev) (u w : Nat) (duties : List W) (per : Nat) : List Nat :=
  let dtc := d.isSet (AXU_MOD u) AXU_MOD_DTCEN
  (duties.zipIdx).map (fun p =>
    let t := fMul p.1 (fOfNat per)
    let i := (d.axu w).iph.getD p.2 f0
    let t := if dtc then fAdd t (fMul (fOfNat (d.fld (AXU_DTCT w) AXU_DTCT_DTC)) (fClamp (fNeg f1) f1 (fDiv i (d.rd (AXU_DTCI w))))) else t
    (fNearMul t 1).toNat)

/-- The inverse stage of unit `u` of function `f` on a voltage vector; `test` says that the polarity test gives it (R216).
A period is committed at most once (R196); a set for a boundary that has passed is discarded (R195). -/
def Dev.inverse (u f : Nat) (vd vq vx vy : W) (test : Bool) (d : Dev) : Dev :=
  let a := d.axu u
  if a.committed || !(test || d.axuPhase u = 3 || d.axuPhase u = 5) then d
  else if a.ts.toNat < a.bound.toNat then d.axuLate u
  else
    let vdc := a.vdc.getD f0
    let per := d.fnPer f
    let ahead : Int := (a.bound.toNat : Int) + per - a.ts.toNat + per / 2 + (d.rd (AXU_ADV u)).toInt
    let thm := a.ths + turnIn a.we ahead
    let mode := d.fld (AXU_MOD u) AXU_MOD_MODE
    let ovm := d.fld (AXU_MOD u) AXU_MOD_OVM
    let vl := vlin mode vdc
    let vc := if test then f0 else d.carrierVc u
    let lim := fMaxN f0 (fSub (fMul (d.rd (AXU_MLIM u)) vl) vc)
    let six := d.coupled u
    let raw : List (W × W) := if six then [(fAdd vd vx, fAdd vq vy), (fSub vd vx, fSub vq vy)] else [(vd, vq)]
    let worst := fMax3 (raw.map (fun p => fLen p.1 p.2))
    let lims : List (W × W × Bool) := raw.map (fun p =>
      if six then (if fGt worst lim then (fDiv (fMul p.1 lim) worst, fDiv (fMul p.2 lim) worst, true) else (p.1, p.2, false))
      else limitVec ovm lim p.1 p.2)
    let wave := if test then f0 else fMul vc (fCos (carrierAngle a.n (max 1 (d.injK u))))
    let vecs : List (W × W) := lims.map (fun p => (if d.carrierOn u then fAdd p.1 wave else p.1, p.2.1))
    let abs_ : List (W × W) := (vecs.zipIdx).map (fun p => rotate p.1.1 p.1.2 (if p.2 = 0 then thm else thm - d.gamma u))
    let duties : List (List W) := abs_.map (fun p =>
      let v0 := zeroSeq mode p.1 p.2
      (phases p.1 p.2).map (fun v => fAdd 0x3F000000#32 (fDiv (fAdd v v0) vdc)))
    let ok := d.vdcOk u && [vd, vq, a.we, d.rd (AXU_IDREF u), d.rd (AXU_IQREF u)].all fFinite && (!six || (fFinite vx && fFinite vy))
      && duties.all (fun xs => xs.all fFinite)
    if !ok then d.axuNonfinite u f
    else
      let legs := d.fnLegs f
      let win := d.rd (AXU_WIN u)
      let wen := d.isSet (AXU_WIN u) AXU_WIN_WEN
      let sets : List (Nat × List PhaseSet) := ((d.setUnits u).zipIdx).map (fun p =>
        let clamped := (duties.getD p.2 []).map (fClamp f0 f1)
        (p.1, ((d.setOnTimes u p.1 clamped per).zipIdx).map (fun q =>
          let leg := legs.getD (3 * p.2 + q.2) 0
          windowRule wen per (d.fld (LEG_DT leg) LEG_DT_DT) (win.fld AXU_WIN_WPRE * 400) (win.fld AXU_WIN_WPOST * 400)
            (d.fld (AXU_CMAX p.1) AXU_CMAX_CMAX) leg q.1 (d.fld (AXU_CARRY p.1 q.2) AXU_CARRY_CARRY))))
      let all := sets.flatMap (·.2)
      let d := all.foldl (fun d s =>
        let c := unsignedOf 16 s.shift
        d.commitLeg s.leg s.sha 0 (BitVec.ofNat 32 (c * 65536 + c)) false) d
      let d := sets.foldl (fun d p =>
        let d := (p.2.zipIdx).foldl (fun d q => d.setF (AXU_CARRY p.1 q.2) AXU_CARRY_CARRY q.1.carry) d
        let d := (d.setF (AXU_STAT p.1) AXU_STAT_WINLIM (b2n (p.2.any (·.cut)))).setF (AXU_STAT p.1) AXU_STAT_SHIFTED
          (b2n (p.2.any (fun s => s.shift ≠ 0)))
        d.when (p.2.any (·.lost)) (fun d =>
          ((d.setF (AXU_FLT p.1) AXU_FLT_VSLOSS 1).incSat (AXU_CNT p.1) AXU_CNT_VSLOSS).evtRated EV_AXU_VS_LOSS p.1 [p.1])) d
      let d := (((d.setUnits u).zip (vecs.zip abs_)).zip lims).foldl (fun d p =>
        let w := p.1.1
        let d := ((d.wr (AXU_VD w) p.1.2.1.1).wr (AXU_VQ w) p.1.2.1.2).wr (AXU_MIDX w) (fDiv (fLen p.1.2.2.1 p.1.2.2.2) vl)
        d.setF (AXU_STAT w) AXU_STAT_VLIM (b2n p.2.2.2)) d
      let d := (d.wr (AXU_THM u) thm).setF (AXU_STAT u) AXU_STAT_LATE 0
      let vab := rotate (fAdd vd (if d.carrierOn u then wave else f0)) vq thm
      let vab := if six then vab else abs_.headD vab
      d.modAxu u (fun a => { a with committed := true, thm := thm, vSet := vab, nSet := a.n, n := (a.n + 1) % max 1 (d.injK u) })

/-! ## A miss (R196, R244) -/

/-- Does a cascade deliver word `w` to its function's unit? -/
def Dev.delivers (d : Dev) (i w : Nat) : Bool :=
  (List.range 8).any (fun o =>
    let x := (d.cascHdrWord i (16 + o)).toNat
    bitsOf x 28 4 = 1 && bitsOf x 0 16 = w)

/-- The axis unit of a missed current cascade: the last agreed voltages at the new angle, or nothing. -/
def Dev.axuHeld (u f : Nat) (d : Dev) : Dev :=
  let d := ((d.setF (AXU_STAT u) AXU_STAT_HELD 1).setF (AXU_FLT u) AXU_FLT_HELD 1).incSat (AXU_CNT u) AXU_CNT_HOLDS
  let d := d.evtRated EV_AXU_HELD u [u]
  let a := d.axu u
  if d.isSet (AXU_CFG u) AXU_CFG_HOLDV && a.fwdDone && d.isSet (AXU_STAT u) AXU_STAT_ENABLED && d.axuPhase u ≠ 4 then
    d.inverse u f (a.agreed.getD 0 f0) (a.agreed.getD 1 f0) (a.agreed.getD 2 f0) (a.agreed.getD 3 f0) false
  else d

/-- The converter unit of a missed word-0 cascade: nothing is committed (R244). -/
def Dev.cvuHeld (u : Nat) (d : Dev) : Dev :=
  (((d.setF (CVU_STAT u) CVU_STAT_HELD 1).setF (CVU_FLT u) CVU_FLT_HELD 1).incSat (CVU_CNT u) CVU_CNT_HOLDS).evtRated EV_CVU_HELD u [u]

/-- What the unit of a cascade's function does when the cascade misses. -/
def Dev.unitHeld (i : Nat) (d : Dev) : Dev :=
  match d.cascOwner i with
  | none => d
  | some f =>
    let d := d.when (d.delivers i 1) (fun d => d.whenSome (d.funcD f).axuA (fun u d => d.axuHeld u f))
    d.when (d.delivers i 0) (fun d => d.whenSome (d.funcD f).cvu (fun u d => d.cvuHeld u))

/-- A missed or discarded activation (R167, R168, R175). -/
def Dev.cascMiss (i : Nat) (d : Dev) : Dev := ((d.countMiss i).unitHeld i).missLimit i

/-- A trigger reaches cascade `i`. -/
def Dev.cascTrigger (i : Nat) (ref : Time) (d : Dev) : Dev := d.cascTriggerWith Dev.cascMiss i ref

/-- Producer words are delivered for function `f`; its PRODUCER cascades start on the last of them (R187, Table CEN-5). -/
def Dev.deliverWords (f : Nat) (ws : List W) (d : Dev) : Dev :=
  let d := { d with words := Tab.set f ws d.words }
  let ref := d.fnFiring f
  d.forEach (((d.funcD f).casc.map (·.1)).filter (fun i => d.cascTrig i = 1)) (fun i d => d.cascTrigger i ref)

end Sys2Proof.Machine
end

