-- ==== Sys2Proof/Machine/Adc.lean ====
section
/-! DEFINITION. Analogue acquisition and in-line current inputs (chapter 05): sequences, working slots, urgent
conversions, result words, the rotating spare, and the ΔΣ channels. -/

namespace Sys2Proof.Machine

def Dev.conv (d : Dev) (n : Nat) : Conv := Tab.getD default d.convs n
def Dev.modConv (n : Nat) (g : Conv → Conv) (d : Dev) : Dev := { d with convs := Tab.set n (g (d.conv n)) d.convs }
def Dev.seqRun (d : Dev) (s : Nat) : SeqRun := Tab.getD default d.seqs s
def Dev.modSeq (s : Nat) (g : SeqRun → SeqRun) (d : Dev) : Dev := { d with seqs := Tab.set s (g (d.seqRun s)) d.seqs }
def Dev.adcSlot (d : Dev) (k : Nat) : AdcSlot := Tab.getD default d.slots k
def Dev.modSlot (k : Nat) (g : AdcSlot → AdcSlot) (d : Dev) : Dev := { d with slots := Tab.set k (g (d.adcSlot k)) d.slots }

/-- The converter that serves a working slot; 0xF none (R102). -/
def Dev.slotConv (d : Dev) (k : Nat) : Nat := d.fld ADC_SLOTMAP ⟨4 * k, 4⟩
def Dev.spareConv (d : Dev) : Nat := d.fld ADC_STAT ADC_STAT_SPARE

/-! ## Groups (R110) -/

def Dev.stepSlot (d : Dev) (s i : Nat) : Nat := d.fld (ADC_STEP s i) ADC_STEP_SLOT
def Dev.stepAcq (d : Dev) (s i : Nat) : Nat := d.fld (ADC_STEP s i) ADC_STEP_ACQ
def Dev.seqLast (d : Dev) (s : Nat) : Nat := d.fld (ADC_SEQCFG s) ADC_SEQCFG_LAST

/-- The steps of the group that begins at step `i`. -/
def Dev.groupFrom (d : Dev) (s : Nat) : Nat → Nat → List Nat
  | 0, i => [i]
  | k + 1, i => if d.isSet (ADC_STEP s i) ADC_STEP_WITHNEXT && i < d.seqLast s then i :: d.groupFrom s k (i + 1) else [i]
def Dev.group (d : Dev) (s i : Nat) : List Nat := d.groupFrom s 31 i
/-- The largest acquisition time of a group, fine ticks. -/
def Dev.groupAcq (d : Dev) (s i : Nat) : Nat := (d.group s i).foldl (fun m j => max m (d.stepAcq s j)) 0 * 80

/-- The conversion time of a converter, fine ticks (160 ns, R110). -/
abbrev convTicks : Nat := 2560

/-! ## Triggers (R111, R112) -/

/-- Group `g` of sequence `s` is to start next. -/
def Dev.awaitGroup (s g : Nat) (due : Time) (d : Dev) : Dev :=
  (d.modSeq s (fun r => { r with waiting := true, grp := g, busy := [], due := due, late := false })).setF
    (ADC_SEQSTAT s) ADC_SEQSTAT_STEP g

/-- Sequence `s` starts a run. -/
def Dev.seqStart (s : Nat) (sched : Bool) (due : Time) (d : Dev) : Dev :=
  let d := d.setF (ADC_SEQSTAT s) ADC_SEQSTAT_RUN 1
  (d.modSeq s (fun r => { r with sched := sched, restart := false, lateFirst := false })).awaitGroup s 0 due

/-- A trigger of a running sequence is counted (R112). -/
def Dev.seqOverrun (s : Nat) (d : Dev) : Dev :=
  ((d.incSat (ADC_SEQSTAT s) ADC_SEQSTAT_OVR).setF ADC_FLT ADC_FLT_OVR 1).evtRated EV_ADC_OVERRUN s [s]

/-- The run restarts at step 0, its first group LATE (R112). -/
def Dev.seqRestart (s : Nat) (d : Dev) : Dev :=
  let r := d.seqRun s
  (d.modSeq s (fun r => { r with sched := r.pendSched, restart := false, lateFirst := true })).awaitGroup s 0 r.pendDue

/-- A trigger reaches sequence `s`; a scheduled one is due at its firing tick. -/
def Dev.seqTrigger (s : Nat) (sched : Bool) (d : Dev) : Dev :=
  if !d.isSet (ADC_SEQCFG s) ADC_SEQCFG_EN then d
  else if !d.isSet (ADC_SEQSTAT s) ADC_SEQSTAT_RUN then d.seqStart s sched d.now
  else
    let note := fun (d : Dev) => d.modSeq s (fun r => { r with pendSched := sched, pendDue := d.now })
    match d.fld (ADC_SEQCFG s) ADC_SEQCFG_POLICY with
    | 0 =>
      if d.isSet (ADC_SEQSTAT s) ADC_SEQSTAT_PENDING then d.seqOverrun s
      else (note d).setF (ADC_SEQSTAT s) ADC_SEQSTAT_PENDING 1
    | 2 =>
      let d := note (d.seqOverrun s)
      if (d.seqRun s).waiting then d.seqRestart s else d.modSeq s (fun r => { r with restart := true })
    | _ => d.seqOverrun s

/-- A write of ADC_SEQGO. -/
def Dev.seqGo (v : W) (d : Dev) : Dev := d.forEach (oneBits 32 v.toNat) (fun s d => d.seqTrigger s false)

/-! ## Starting a group or an urgent conversion (R113, R114) -/

/-- The earliest scheduled acquisition on working slot `k` that the time keeper knows: the next firing of each enabled
schedule slot whose sequence takes `k` in its first group, and the next group of each scheduled run. -/
def Dev.nextSched (d : Dev) (k : Nat) : Option Nat :=
  let lead := fun (s g j : Nat) => d.groupAcq s g - d.stepAcq s j * 80
  let firing := fun (n : Nat) =>
    let per := max 1 (d.rd (TKP_SLOT_PER n)).toNat
    let t0 := d.epoch.toNat + (d.rd (TKP_SLOT_PHS n)).toNat
    if d.now.toNat ≤ t0 then t0 else t0 + (d.now.toNat - t0 + per - 1) / per * per
  let bySlot := (List.range 64).flatMap (fun n =>
    if d.bit (if n < 32 then TKP_SLOTEN0 else TKP_SLOTEN1) (n % 32) then
      ([(TKP_SLOT_TGT_TGTA_KIND, TKP_SLOT_TGT_TGTA_IDX), (TKP_SLOT_TGT_TGTB_KIND, TKP_SLOT_TGT_TGTB_IDX)].filterMap (fun q =>
        let s := d.fld (TKP_SLOT_TGT n) q.2 % 32
        if d.fld (TKP_SLOT_TGT n) q.1 = 2 && d.isSet (ADC_SEQCFG s) ADC_SEQCFG_EN && !d.isSet (ADC_SEQSTAT s) ADC_SEQSTAT_RUN then
          ((d.group s 0).find? (fun j => d.stepSlot s j = k)).map (fun j => firing n + lead s 0 j)
        else none))
    else [])
  let byRun := (List.range 32).filterMap (fun s =>
    let r := d.seqRun s
    if d.isSet (ADC_SEQSTAT s) ADC_SEQSTAT_RUN && r.sched && !r.waiting then
      let g := r.grp + (d.group s r.grp).length
      if g ≤ d.seqLast s then
        ((d.group s g).find? (fun j => d.stepSlot s j = k)).map (fun j => r.hold.toNat + convTicks + lead s g j)
      else none
    else none)
  (bySlot ++ byRun).foldl (fun m t => some (match m with | some x => min x t | none => t)) none

/-- Does a conversion on slot `k` that ends at `t` end before the next scheduled acquisition there? -/
def Dev.fits (d : Dev) (k t : Nat) : Bool := match d.nextSched k with | some x => decide (t ≤ x) | none => true

def Dev.slotFree (d : Dev) (k : Nat) : Bool := (d.adcSlot k).busy.isNone && (d.adcSlot k).urgent.isNone

/-- Sequences whose next group waits for working slot `k`. -/
def Dev.waiters (d : Dev) (k : Nat) : List Nat :=
  (List.range 32).filter (fun s => (d.seqRun s).waiting && d.isSet (ADC_SEQSTAT s) ADC_SEQSTAT_RUN &&
    (d.group s (d.seqRun s).grp).any (fun i => d.stepSlot s i = k))

/-- Does sequence `a` come before `b` on a slot both wait for: scheduled before unscheduled, then PRIO, then index? -/
def Dev.before (d : Dev) (a b : Nat) : Bool :=
  let pa := d.fld (ADC_SEQCFG a) ADC_SEQCFG_PRIO
  let pb := d.fld (ADC_SEQCFG b) ADC_SEQCFG_PRIO
  let sa := (d.seqRun a).sched
  let sb := (d.seqRun b).sched
  if sa ≠ sb then sa else pb < pa || (pa = pb && a < b)

/-- May the waiting group of sequence `s` start now (R113)? -/
def Dev.groupReady (d : Dev) (s : Nat) : Bool :=
  let r := d.seqRun s
  let slots := (d.group s r.grp).map (d.stepSlot s)
  d.isSet (ADC_SEQSTAT s) ADC_SEQSTAT_RUN && r.waiting && slots.all d.slotFree &&
    slots.all (fun k => (d.waiters k).all (fun x => x = s || !d.before x s)) &&
    (r.sched || slots.all (fun k => (d.adcSlot k).queue.isEmpty && d.fits k (d.now.toNat + d.groupAcq s r.grp + convTicks)))

/-- A converter takes a conversion: an unscheduled wake makes its result LATE (R116). -/
def Dev.wakeFor (n : Nat) (d : Dev) : Dev :=
  if n < 9 && (d.conv n).down then d.modConv n (fun c => { c with down := false, lateWake := true }) else d

/-- The waiting group of sequence `s` starts: its slots are taken, its hold set (R110). -/
def Dev.groupStart (s : Nat) (d : Dev) : Dev :=
  if !d.groupReady s then d
  else
    let r := d.seqRun s
    let steps := d.group s r.grp
    let late := r.lateFirst || (r.sched && decide (r.due.toNat < d.now.toNat))
    let woken := steps.any (fun i => d.slotConv (d.stepSlot s i) < 9 && (d.conv (d.slotConv (d.stepSlot s i))).down)
    let d := d.forEach steps (fun i d =>
      let k := d.stepSlot s i
      (d.modSlot k (fun x => { x with busy := some (s, i) })).wakeFor (d.slotConv k))
    d.modSeq s (fun x => { x with waiting := false, busy := steps, late := late, lateFirst := false
                                  hold := d.now + BitVec.ofNat 64 (d.groupAcq s r.grp + if woken then 6400 else 0) })

/-! ## Result words (R107, R108, R118, Table ADC-2) -/

/-- The code of an effective input in nanovolts. -/
def adcCode (diff : Bool) (gain : Nat) (nv : Int) : Int × Bool :=
  let k : Int := 2 ^ gain
  let c := nv * (if diff then 32768 else 65536) * k / 3000000000
  let lo : Int := if diff then -32768 else 0
  let hi : Int := if diff then 32767 else 65535
  (clampI lo hi c, decide (c ≤ lo ∨ hi ≤ c))

/-- SETTLE samples that a change from a converter's previous conversion calls for (Table ADC-3). -/
def settleFor (prev : Option (Nat × Nat × Nat)) (input gain ref acq : Nat) : Nat :=
  match prev with
  | none => 0
  | some (i, g, r) =>
    max (if i ≠ input ∧ acq < 24 then 1 else 0) (max (if g ≠ gain then 2 else 0) (if r ≠ ref then 4 else 0))

/-- The result word of a conversion on working slot `k`, and the device with the converter's history moved on. -/
def Dev.resultWord (d : Dev) (k input gain ref acq : Nat) (diff urg late : Bool) (nv : Int) (high : Bool) : W × Dev :=
  let n := d.slotConv k
  let word := fun (conv : Nat) (fail late sat settle : Bool) (data : Int) =>
    BitVec.ofNat 32 (k * 2 ^ 28 + conv * 2 ^ 24 + gain * 2 ^ 22 + b2n urg * 2 ^ 21 + b2n fail * 2 ^ 20 + b2n late * 2 ^ 19 +
      b2n diff * 2 ^ 18 + b2n sat * 2 ^ 17 + b2n settle * 2 ^ 16 + unsignedOf 16 data)
  if 9 ≤ n then (word 0xF true late false false 0, d.setF ADC_FLT ADC_FLT_SLOTDEAD 1)
  else
    let c := d.conv n
    let line := input + 128 * b2n diff
    let m := max c.settle (settleFor c.prev line gain ref acq)
    let v := adcCode diff gain nv
    (word n false (late || c.lateWake) (v.2 || high) (0 < m) v.1,
     d.modConv n (fun c => { c with prev := some (line, gain, ref), settle := m - 1, lateWake := false, lastConv := d.now }))

/-! ## Delivery (R117, R180, R259) -/

/-- A result reaches the inputs of unit `idx` that name it: kind 1 an axis unit, 2 a converter unit; source kind 0 a
sequence's step, 1 a ΔΣ channel. -/
def Dev.deliverResult (dkind idx skind src step : Nat) (word : W) (stamp : Time) (d : Dev) : Dev :=
  let names := fun (reg : Nat) (en kind sf st : Fld) => d.isSet reg en && d.fld reg kind = skind && d.fld reg sf = src && d.fld reg st = step
  if dkind = 1 then
    let ks := (List.range 8).filter (fun k => names (AXU_IN idx k) AXU_IN_EN AXU_IN_KIND AXU_IN_SRC AXU_IN_STEP)
    d.modAxu idx (fun a => { a with res := ks.foldl (fun t k => Tab.set k ⟨word, stamp, decide (a.bound.toNat ≤ stamp.toNat), d.now⟩ t) a.res })
  else if dkind = 2 && idx < 8 then
    let ks := (List.range 16).filter (fun k => names (CVU_IN idx k) CVU_IN_EN CVU_IN_KIND CVU_IN_SRC CVU_IN_STEP)
    d.modCvu idx (fun a => { a with res := ks.foldl (fun t k => Tab.set k ⟨word, stamp, decide (a.bound.toNat ≤ stamp.toNat), d.now⟩ t) a.res })
  else d

/-- The DATA of a result word (R181, R259). -/
def resultData (w : W) : Int := if w.bit 18 then signedOf 16 w.toNat else (bitsOf w.toNat 0 16 : Nat)

/-- The steps of sequence `s` that are forwarded, in order. -/
def Dev.fwdSteps (d : Dev) (s : Nat) : List Nat :=
  (List.range (d.seqLast s + 1)).filter (fun i => d.isSet (ADC_STEP s i) ADC_STEP_FWD)

/-- The end of a run that feeds an engine: its words are delivered in step order, or a FAIL makes it a miss of each
PRODUCER cascade (R259). -/
def Dev.engineRun (s : Nat) (d : Dev) : Dev :=
  match d.seqOwner s with
  | none => d
  | some f =>
    let ws := (d.fwdSteps s).map (fun i => d.rd (ADC_RES s i))
    if ws.any (fun w => w.bit 20) then
      d.forEach (((d.funcD f).casc.map (·.1)).filter (fun i => d.cascTrig i = 1 && d.cascActive i)) (fun i d => d.cascMiss i)
    else (d.modSeq s (fun r => { r with fedAt := some d.now })).deliverWords f (ws.map (fun w => fOfInt (resultData w)))

/-- Result `word` of step `i` of sequence `s` is forwarded. -/
def Dev.forwardStep (s i : Nat) (word : W) (d : Dev) : Dev :=
  let dk := d.fld (ADC_SEQCFG s) ADC_SEQCFG_DKIND
  let r := d.seqRun s
  if !d.isSet (ADC_STEP s i) ADC_STEP_FWD then d
  else if dk = 3 then
    if (d.fwdSteps s).any (fun j => r.busy.contains j || r.grp + (d.group s r.grp).length ≤ j) then d else d.engineRun s
  else d.deliverResult dk (d.fld (ADC_SEQCFG s) ADC_SEQCFG_DIDX) 0 s i word r.hold

/-- The group in flight has ended: restart, the next group, or the end of the run with its pending trigger and its chain
(R111, R112). -/
def Dev.groupEnd (s : Nat) (d : Dev) : Dev :=
  let r := d.seqRun s
  let next := r.grp + (d.group s r.grp).length
  if r.restart then d.seqRestart s
  else if next ≤ d.seqLast s then d.awaitGroup s next (r.due + BitVec.ofNat 64 (d.groupAcq s r.grp + convTicks))
  else
    let d := (d.setF (ADC_SEQSTAT s) ADC_SEQSTAT_RUN 0).modSeq s (fun x => { x with waiting := false, busy := [] })
    let d := if d.isSet (ADC_SEQSTAT s) ADC_SEQSTAT_PENDING then
        (d.setF (ADC_SEQSTAT s) ADC_SEQSTAT_PENDING 0).seqStart s r.pendSched r.pendDue
      else d
    if d.isSet (ADC_SEQCFG s) ADC_SEQCFG_CHAINEN then d.seqTrigger (d.fld (ADC_SEQCFG s) ADC_SEQCFG_CHAIN) false else d

/-- The conversion of step `i` of sequence `s` ends. -/
def Dev.stepDone (k s i : Nat) (nv : Int) (high : Bool) (d : Dev) : Dev :=
  let r := d.seqRun s
  let w := d.rd (ADC_STEP s i)
  let x := d.resultWord k (w.fld ADC_STEP_INPUT) (w.fld ADC_STEP_GAIN) (d.fld (ADC_SEQCFG s) ADC_SEQCFG_REFSEL) (w.fld ADC_STEP_ACQ)
    (w.fld ADC_STEP_DIFF = 1) false r.late nv high
  let d := x.2.wr (ADC_RES s i) x.1
  let d := d.when (r.grp = 0) (fun d => d.wr64 (ADC_SEQSTAMP_LO s) (ADC_SEQSTAMP_HI s) r.hold)
  let d := (d.modSlot k (fun x => { x with busy := none })).modSeq s (fun x => { x with busy := x.busy.erase i })
  let d := if r.restart then d else d.forwardStep s i x.1
  if (d.seqRun s).busy.isEmpty then d.groupEnd s else d

/-! ## Urgent conversions (R114, R115) -/

/-- An urgent request is refused: cause 1 while the triad's own request is pending, 2 for what it asks. -/
def Dev.urgRefused (k cause : Nat) (d : Dev) : Dev :=
  (d.setF ADC_FLT ADC_FLT_URGREF 1).evt EV_ADC_URG_REFUSED [k, cause]

/-- A triad's write of ADC_URGREQ. -/
def Dev.urgWrite (triad k : Nat) (v : W) (d : Dev) : Dev :=
  let a := ADC_URGREQ k
  let old := d.rdOwn triad a
  if old.bit 31 then (if v.bit 31 then d.urgRefused k 1 else d)
  else
    let input := v.fld ADC_URGREQ_INPUT
    let bad := v.fld ADC_URGREQ_ACQ < 8 || v.fld ADC_URGREQ_GAIN = 3 || (v.fld ADC_URGREQ_DIFF = 1 && (input % 2 = 1 || 96 ≤ input)) ||
      (96 ≤ input && v.fld ADC_URGREQ_GAIN ≠ 0)
    let d := d.wrOwn triad a (v &&& 0x80FF07FF)
    if !v.bit 31 then d
    else if bad then
      ((d.wrOwn triad a ((v &&& 0x80FF07FF).setBit 31 false)).wrOwn triad (ADC_URGRES k)
        (BitVec.ofNat 32 (0x80000000 + k * 2 ^ 28 + 0xF * 2 ^ 24 + 2 ^ 20))).urgRefused k 2
    else (d.wrOwn triad (ADC_URGRES k) 0).modSlot k (fun x => { x with queue := x.queue ++ [triad] })

/-- The oldest urgent request on working slot `k` starts: after waiting scheduled groups, and only where it ends before
the next scheduled acquisition. -/
def Dev.urgStart (k : Nat) (d : Dev) : Dev :=
  match (d.adcSlot k).queue with
  | [] => d
  | t :: r =>
    let acq := (d.rdOwn t (ADC_URGREQ k)).fld ADC_URGREQ_ACQ * 80
    if d.slotFree k && (d.waiters k).all (fun s => !(d.seqRun s).sched) && d.fits k (d.now.toNat + acq + convTicks) then
      (d.modSlot k (fun x => { x with urgent := some t, queue := r })).wakeFor (d.slotConv k)
    else d

/-- The urgent conversion on working slot `k` ends. -/
def Dev.urgDone (k t : Nat) (nv : Int) (high : Bool) (d : Dev) : Dev :=
  let w := d.rdOwn t (ADC_URGREQ k)
  let x := d.resultWord k (w.fld ADC_URGREQ_INPUT) (w.fld ADC_URGREQ_GAIN) (w.fld ADC_URGREQ_REFSEL) (w.fld ADC_URGREQ_ACQ)
    (w.fld ADC_URGREQ_DIFF = 1) true false nv high
  let d := x.2.modSlot k (fun s => { s with urgent := none })
  (d.wrOwn t (ADC_URGREQ k) (w.setBit 31 false)).wrOwn t (ADC_URGRES k) (x.1.setBit 31 true)

/-- The conversion in progress on working slot `k` ends, at the effective input `nv` nanovolts; `over` says that the
front-end detector saw an input out of range (R108). -/
def Dev.convDone (k : Nat) (nv : Int) (high : Bool) (d : Dev) : Dev :=
  match (d.adcSlot k).urgent with
  | some t => d.urgDone k t nv high
  | none =>
    match (d.adcSlot k).busy with
    | some (s, i) => d.stepDone k s i nv high
    | none => d

/-! ## The rotating spare (R103–R105, R116, R119) -/

/-- A self-calibration of converter `n` ends, with the fitted offset (1/16 LSB), gain factor (0x8000 = 1.0) and residual
(1/16 LSB): a good one counts from now, a bad one is a Gust and a second in a row a Gale (R119). -/
def Dev.calResult (n : Nat) (ofs : Int) (gain : Nat) (inl : Int) (d : Dev) : Dev :=
  let good := ofs.natAbs ≤ 1024 && ((gain : Int) - 0x8000).natAbs ≤ 655 && inl.natAbs ≤ 32
  if good then
    let d := (d.wr (ADC_CALOFS n) (BitVec.ofNat 32 (unsignedOf 16 ofs))).wr (ADC_CALGAIN n) (BitVec.ofNat 32 (gain % 65536))
    let d := d.modConv n (fun c => { c with calAt := d.now, lastBad := false, settle := max c.settle 1, lastConv := d.now })
    ((d.setF (ADC_CALAGE n) ADC_CALAGE_FAILED 0).setF (ADC_CALAGE n) ADC_CALAGE_AGED 0).reqServed 1 n true
  else
    let again := (d.conv n).lastBad
    let d := (d.modConv n (fun c => { c with lastBad := true })).setF (ADC_CALAGE n) ADC_CALAGE_FAILED 1
    let d := ((d.setF ADC_FLT ADC_FLT_CALFAIL 1).evt EV_ADC_CAL_FAIL [n]).gust 4 n
    (d.when again (fun d => d.gale 4 n gaCal 0xF)).reqServed 1 n false

/-- The slot that the spare takes next: that of a converter asked for first, or of the oldest calibration. -/
def Dev.swapSlot (d : Dev) : Option Nat :=
  let served := (List.range 8).filter (fun k => d.slotConv k < 9)
  match served.find? (fun k => d.bkg.calFirst.contains (d.slotConv k)) with
  | some k => some k
  | none => served.foldl (fun m k => match m with
      | none => some k
      | some j => if (d.conv (d.slotConv k)).calAt.toNat < (d.conv (d.slotConv j)).calAt.toNat then some k else some j) none

/-- The spare has calibrated itself: ready to swap, or it repeats at once (R103, R119). -/
def Dev.spareCalDone (ofs : Int) (gain : Nat) (inl : Int) (d : Dev) : Dev :=
  let n := d.spareConv
  if 9 ≤ n then d
  else
    let d := d.calResult n ofs gain inl
    if (d.conv n).lastBad then (if d.spareConv = n then d.setF ADC_STAT ADC_STAT_CALBUSY 1 else d)
    else
      let d := d.setF ADC_STAT ADC_STAT_CALBUSY 0
      d.whenSome d.swapSlot (fun k d => d.modSlot k (fun x => { x with wantSince := some d.now }))

/-- The swap check on working slot `k`: the codes of the outgoing and the incoming converter at input 125 (R104). -/
def Dev.swapCheck (k : Nat) (out inc : Int) (d : Dev) : Dev :=
  let n := d.slotConv k
  let sp := d.spareConv
  if 9 ≤ sp || 9 ≤ n || d.isSet ADC_STAT ADC_STAT_CALBUSY || !d.slotFree k || (d.adcSlot k).wantSince.isNone then d
  else
    let used := fun (c : Conv) => { c with prev := some (125, 0, 0), settle := c.settle - 1, lastConv := d.now }
    let d := ((d.modConv n used).modConv sp used).modSlot k (fun x => { x with wantSince := none })
    if (out - inc).natAbs ≤ 8 then
      let d := (d.setF ADC_SLOTMAP ⟨4 * k, 4⟩ sp).setF ADC_STAT ADC_STAT_SPARE n
      let d := { d with bkg := { d.bkg with calFirst := d.bkg.calFirst.filter (· ≠ n) } }
      d.setF ADC_STAT ADC_STAT_CALBUSY 1
    else
      let d := (d.setF ADC_STAT ADC_STAT_CALBUSY 1).setF ADC_FLT ADC_FLT_SWAPMIS 1
      ((d.evt EV_ADC_SWAP_MISMATCH [k]).gust 4 n).gust 4 sp

/-- Working slot `k` has offered no gap for 10 ms (R105). -/
def Dev.swapDeferred (k : Nat) (d : Dev) : Dev :=
  match (d.adcSlot k).wantSince with
  | none => d
  | some t =>
    if 10 * msTicks ≤ d.since t then
      ({ d with bkg := { d.bkg with deferred := d.bkg.deferred + 1 } }.setF ADC_FLT ADC_FLT_SWAPDEF 1).evtRated EV_ADC_SWAP_DEFERRED k [k]
    else d

/-- The calibration of converter `n` reaches 200 ms (R105). -/
def Dev.calAgedConv (n : Nat) (d : Dev) : Dev :=
  if 200 * msTicks ≤ d.since (d.conv n).calAt then d.setF (ADC_CALAGE n) ADC_CALAGE_AGED 1 else d

/-- Converter `n` has had no conversion for IDLE µs (R116). -/
def Dev.powerDown (n : Nat) (d : Dev) : Dev :=
  let spareBusy := d.spareConv = n && (d.isSet ADC_STAT ADC_STAT_CALBUSY || d.isSet ADC_STAT ADC_STAT_SWAPPING)
  if d.isSet ADC_PDCFG ADC_PDCFG_PDEN && !spareBusy && d.fld ADC_PDCFG ADC_PDCFG_IDLE * usTicks ≤ d.since (d.conv n).lastConv &&
      !((List.range 8).any (fun k => d.slotConv k = n && !d.slotFree k)) then
    d.modConv n (fun c => { c with down := true })
  else d

/-! ## ΔΣ channels (R121–R127) -/

def Dev.dsm (d : Dev) (n : Nat) : Dsm := Tab.getD default d.dsms n
def Dev.modDsm (n : Nat) (g : Dsm → Dsm) (d : Dev) : Dev := { d with dsms := Tab.set n (g (d.dsm n)) d.dsms }
/-- A clock period of channel `n`, fine ticks (R121). -/
def Dev.dsmClk (d : Dev) (n : Nat) : Nat := if (d.fld DSM_CKCFG DSM_CKCFG_RATE).testBit (n / 4) then 800 else 1600
def Dev.dsmRuns (d : Dev) (n : Nat) : Bool :=
  d.isSet (DSM_CFG n) DSM_CFG_EN && (d.fld DSM_CKCFG DSM_CKCFG_EN).testBit (n / 4) && !d.retired 6 n

/-- A window of channel `n` starts at the first clock edge at or after the firing, or is ignored (R124). -/
def Dev.dsmWindow (n : Nat) (d : Dev) : Dev :=
  if !d.dsmRuns n || d.isSet (DSM_CFG n) DSM_CFG_MODE then d
  else if d.isSet (DSM_STAT n) DSM_STAT_RUN then
    ((d.incSat (DSM_STAT n) DSM_STAT_WINOVR).setF (DSM_FLT n) DSM_FLT_WINOVR 1).evtRated EV_DSM_WINDOW_OVERRUN n [n]
  else
    let c := d.dsmClk n
    let off := d.now.toNat - d.epoch.toNat
    let start := BitVec.ofNat 64 (d.epoch.toNat + (off + c - 1) / c * c)
    (d.setF (DSM_STAT n) DSM_STAT_RUN 1).modDsm n (fun x => { x with winStart := start })

/-- DATA of a main-filter output whose kernel sum is `y` of `R ^ ORDER` (R123). -/
def dsmData (order dec : Nat) (y : Int) : Int := clampI (-32768) 32767 (32768 * y / ((max dec 1) ^ order : Nat))

/-- An output of the main filter of channel `n` with stamp `stamp`. -/
def Dev.dsmOutput (n : Nat) (y : Int) (stamp : Time) (d : Dev) : Dev :=
  let v := dsmData (d.fld (DSM_CFG n) DSM_CFG_ORDER) (d.fld (DSM_CFG n) DSM_CFG_DEC) y
  let left := d.fld (DSM_STAT n) DSM_STAT_SETTLE
  let sat := decide (d.fld (DSM_SATLIM n) DSM_SATLIM_SATLIM ≤ v.natAbs) || d.isSet (DSM_STAT n) DSM_STAT_STUCK
  let w := BitVec.ofNat 32 (0xF * 2 ^ 24 + 2 ^ 18 + b2n sat * 2 ^ 17 + b2n (0 < left) * 2 ^ 16 + unsignedOf 16 v)
  let d := (d.wr (DSM_RES n) w).wr64 (DSM_STAMP_LO n) (DSM_STAMP_HI n) stamp
  let d := d.setF (DSM_STAT n) DSM_STAT_SETTLE (left - 1)
  d.deliverResult (d.fld (DSM_CFG n) DSM_CFG_DKIND) (d.fld (DSM_CFG n) DSM_CFG_DIDX) 1 n 0 w stamp

/-- The window of channel `n` ends with kernel sum `y` (R124). -/
def Dev.windowResult (n : Nat) (y : Int) (d : Dev) : Dev :=
  if d.isSet (DSM_STAT n) DSM_STAT_RUN && d.dsmRuns n then
    let len := d.fld (DSM_CFG n) DSM_CFG_ORDER * (d.fld (DSM_CFG n) DSM_CFG_DEC - 1)
    let centre := (d.dsm n).winStart + BitVec.ofNat 64 (len * d.dsmClk n / 2)
    (d.setF (DSM_STAT n) DSM_STAT_RUN 0).dsmOutput n y centre
  else d

/-- An output of a channel in CONT mode (R125). -/
def Dev.contOutput (n : Nat) (y : Int) (d : Dev) : Dev :=
  if d.dsmRuns n && d.isSet (DSM_CFG n) DSM_CFG_MODE then d.dsmOutput n y d.now else d

/-- An output of the fast path of channel `n` (R126), −64 to 64. -/
def Dev.fastOutput (n : Nat) (y : Int) (d : Dev) : Dev :=
  if !d.dsmRuns n || !d.isSet (DSM_OCCFG n) DSM_OCCFG_OCEN then d
  else
    let beyond := decide (signedOf 8 (d.fld (DSM_OCCFG n) DSM_OCCFG_OCHI) < y ∨ y < signedOf 8 (d.fld (DSM_OCCFG n) DSM_OCCFG_OCLO))
    let need := d.fld (DSM_OCCFG n) DSM_OCCFG_OCCNT + 1
    let d := d.modDsm n (fun x => { x with ocRun := if beyond then x.ocRun + 1 else 0, okRun := if beyond then 0 else x.okRun + 1 })
    let on := d.isSet (DSM_STAT n) DSM_STAT_OC
    let x := d.dsm n
    if beyond && !on && need ≤ x.ocRun then
      let d := (d.setF (DSM_STAT n) DSM_STAT_OC 1).setF (DSM_FLT n) DSM_FLT_OCTRIP 1
      (d.evtRated EV_DSM_OVERCURRENT n [n]).evalGroups
    else if !beyond && on && (if x.first then 2 else need) ≤ x.okRun then
      ((d.setF (DSM_STAT n) DSM_STAT_OC 0).modDsm n (fun x => { x with first := false })).evalGroups
    else d

/-- 128 equal bits in a row, or their end (R127). -/
def Dev.dsmStuck (n : Nat) (stuck : Bool) (d : Dev) : Dev :=
  if !d.dsmRuns n then d
  else if stuck then
    (((d.setF (DSM_STAT n) DSM_STAT_STUCK 1).setF (DSM_FLT n) DSM_FLT_STUCK 1).evt EV_DSM_STUCK [n]).gust 6 n
  else d.setF (DSM_STAT n) DSM_STAT_STUCK 0

/-- A channel is enabled: its filters restart, and its overcurrent level stands until two outputs lie within the
thresholds (R118, R126). -/
def Dev.dsmEnable (n : Nat) (d : Dev) : Dev :=
  if !d.isSet (DSM_CFG n) DSM_CFG_EN then d
  else
    let d := d.dsmRestart n
    if d.isSet (DSM_OCCFG n) DSM_OCCFG_OCEN then (d.setF (DSM_STAT n) DSM_STAT_OC 1).modDsm n (fun x => { x with first := true }) else d

/-! ## Meanings -/

/-- ADC_SPARE_CAL_DONE (R103): The spare converter completes its self-calibration and becomes ready to swap. -/
def execAdcSpareCalDone (t : Time) (ofs : Int) (gain : Nat) (inl : Int) (s : State) : Host.Outcome State Fault Refusal :=
  s.on t (fun d => d.spareCalDone ofs gain inl)

/-- ADC_SWAP_CHECK (R104): In a gap of at least 400 ns, both converters convert input 125, and the spare takes the slot if the codes agree. -/
def execAdcSwapCheck (t : Time) (k : Fin 8) (outgoing incoming : Int) (s : State) : Host.Outcome State Fault Refusal :=
  s.on t (fun d => d.swapCheck k outgoing incoming)

/-- SWAP_DEFERRED (R105): A slot without a gap for 10 ms defers the swap and records 0x1305. -/
def execSwapDeferred (t : Time) (k : Fin 8) (s : State) : Host.Outcome State Fault Refusal :=
  s.on t (fun d => d.swapDeferred k)

/-- ADC_CAL_AGED (R105): A converter whose calibration reaches 200 ms of age sets ADC_CALAGE.AGED. -/
def execAdcCalAged (t : Time) (n : Fin 9) (s : State) : Host.Outcome State Fault Refusal :=
  s.on t (fun d => d.calAgedConv n)

/-- ADC_SEQGO_WRITE (R111): A write of ADC_SEQGO triggers the sequences whose bits are set. -/
def execAdcSeqgoWrite (t : Time) (v : W) (s : State) : Host.Outcome State Fault Refusal :=
  s.on t (fun d => d.seqGo v)

/-- ADC_GROUP_START (R113): A waiting group starts once every slot it names is free, in priority order. -/
def execAdcGroupStart (t : Time) (q : Fin 32) (s : State) : Host.Outcome State Fault Refusal :=
  s.on t (fun d => d.groupStart q)

/-- ADC_CONVERSION_DONE (R117): A conversion delivers its result word to ADC_RES and forwards it on the deadline path. -/
def execAdcConversionDone (t : Time) (k : Fin 8) (nv : Int) (high : Bool) (s : State) : Host.Outcome State Fault Refusal :=
  s.on t (fun d => d.convDone k nv high)

/-- ADC_URGREQ_WRITE (R115): A triad's write of ADC_URGREQ with GO is checked and queued as an urgent conversion. -/
def execAdcUrgreqWrite (t : Time) (triad : Fin 4) (k : Fin 8) (v : W) (s : State) : Host.Outcome State Fault Refusal :=
  s.on t (fun d => d.urgWrite triad k v)

/-- ADC_URGENT_START (R114): A queued urgent conversion starts once the slot is free and it fits before the next scheduled acquisition. -/
def execAdcUrgentStart (t : Time) (k : Fin 8) (s : State) : Host.Outcome State Fault Refusal :=
  s.on t (fun d => d.urgStart k)

/-- ADC_POWER_DOWN (R116): A converter without a conversion for IDLE µs powers down. -/
def execAdcPowerDown (t : Time) (n : Fin 9) (s : State) : Host.Outcome State Fault Refusal :=
  s.on t (fun d => d.powerDown n)

/-- ADC_WAKE (R116): A powered-down converter wakes 400 ns before an announced scheduled acquisition. -/
def execAdcWake (t : Time) (n : Fin 9) (s : State) : Host.Outcome State Fault Refusal :=
  s.on t (fun d => d.modConv n (fun c => { c with down := false }))

/-- DSM_WINDOW_RESULT (R124): After N bits the window's filter result is delivered with the stamp of the window centre. -/
def execDsmWindowResult (t : Time) (n : Fin 32) (y : Int) (s : State) : Host.Outcome State Fault Refusal :=
  s.on t (fun d => d.windowResult n y)

/-- DSM_CONT_OUTPUT (R125): In CONT mode, an output is delivered every R clock periods. -/
def execDsmContOutput (t : Time) (n : Fin 32) (y : Int) (s : State) : Host.Outcome State Fault Refusal :=
  s.on t (fun d => d.contOutput n y)

/-- DSM_FAST_OUTPUT (R126): Every 8 clock periods the fast sinc2 path produces an output, which is checked against OCHI and OCLO. -/
def execDsmFastOutput (t : Time) (n : Fin 32) (y : Int) (s : State) : Host.Outcome State Fault Refusal :=
  s.on t (fun d => d.fastOutput n y)

/-- DSM_STUCK (R127): 128 equal bits in a row set STUCK and record the Gust 0x1402. -/
def execDsmStuck (t : Time) (n : Fin 32) (stuck : Bool) (s : State) : Host.Outcome State Fault Refusal :=
  s.on t (fun d => d.dsmStuck n stuck)

end Sys2Proof.Machine
end

