-- ==== Sys2Proof/Machine/Cen.lean ====
section
/-! DEFINITION. Control engines (chapter 07): activations, agreement and delivery, re-execution, pair restart, deadline
misses and self-test. -/

namespace Sys2Proof.Machine

/-! ## Activation (R21, R161, R170, R171) -/

/-- Cascades whose activations share an engine with cascade `i`: those of the pair, or of its engine on a split pair. -/
def Dev.engineMates (d : Dev) (i : Nat) : List Nat :=
  ((List.range 4).map (fun c => 4 * pairOf i + c)).filter (fun j =>
    !d.isSet (CEN_CFG (pairOf i)) CEN_CFG_SPLIT || cascOf j / 2 = cascOf i / 2)

/-- Is the engine of cascade `i` free to start it: nothing runs on it, and no pending cascade has an earlier deadline, or
an equal one and a lower index (R21)? -/
def Dev.mayStart (d : Dev) (i : Nat) : Bool :=
  let mates := d.engineMates i
  d.cascPend i && d.now.toNat < d.cascDeadline i && !d.isSet (CEN_STAT (pairOf i)) CEN_STAT_RESTARTING &&
    (d.pairOfD (pairOf i)).reexec.isNone && mates.all (fun j => !d.cascRun j) &&
    mates.all (fun j => !d.cascPend j || d.cascDeadline i < d.cascDeadline j || (d.cascDeadline i = d.cascDeadline j && i ≤ j))

/-- The pair restarts (Table CEN-7): what is in flight or pending on it is discarded, and each discard is a miss. -/
def Dev.pairRestart (p : Nat) (d : Dev) : Dev :=
  let lost := ((List.range 4).map (fun c => 4 * p + c)).filter (fun j => d.cascPend j || d.cascRun j)
  let d := (d.setF (CEN_STAT p) CEN_STAT_RESTARTING 1).modPair p (fun x => { x with reexec := none, discarded := lost })
  let d := d.forEach ((List.range 4).map (fun c => 4 * p + c)) (fun j d =>
    ((d.setPend j false).setRun j false).modCasc j (fun c => { c with snap := [], newBank := [] }))
  d.forEach lost (fun j d => d.cascMiss j)

/-- The inputs of cascade `i` are latched, and it runs. -/
def Dev.startCascade (i : Nat) (d : Dev) : Dev :=
  let snap := d.latchInputs i
  ((d.setPend i false).setRun i true).modCasc i (fun c => { c with snap := snap, latched := some d.now })

/-- The region of cascade `i` is chosen and its sections run on the latched inputs. -/
def Dev.runCascade (i : Nat) (d : Dev) : Dev :=
  let p := pairOf i
  let c := d.cascade i
  let r := d.chooseRegion i c.snap
  let region := 4 * r.2.1 + r.1
  let moved := !c.first && (r.1 ≠ c.ix || r.2.1 ≠ c.iy)
  let bank := if moved then d.bumpless i region c.bank else c.bank
  let out := d.runSections i region c.snap bank
  let d := d.modCasc i (fun c => { c with newBank := out.1, newIx := r.1, newIy := r.2.1 })
  let d := d.when r.2.2 (fun d => (d.setF (CEN_FLT p) CEN_FLT_SCHEDNAN 1).cenRated EV_CEN_SCHED_NAN i)
  let d := d.when moved (fun d => d.cenRated EV_CEN_REGION i)
  d.when out.2 (fun d => (d.setF (CEN_FLT p) CEN_FLT_NONFINITE 1).cenRated EV_CEN_NONFINITE i)

/-- An activation of cascade `i` starts: inputs latched, region chosen, sections run on both copies. `differ` says that
the copies' outputs of a section are found to differ (R175), which a split pair does not look at (R153). -/
def Dev.activate (i : Nat) (differ : Bool) (d : Dev) : Dev :=
  if !d.mayStart i then d
  else if differ && !d.isSet (CEN_CFG (pairOf i)) CEN_CFG_SPLIT then (d.startCascade i).pairRestart (pairOf i)
  else (d.startCascade i).runCascade i

/-! ## Agreement and delivery (R162, R166, R169, R173) -/

/-- The value of output `o` of cascade `i`. -/
def Dev.cascOut (d : Dev) (i o : Nat) : W :=
  ((d.cascade i).newBank.getD (bitsOf (d.cascHdrWord i (16 + o)).toNat 16 6) default).y

/-- Output `o` goes where its OUTDST names. -/
def Dev.deliverOut (f i o : Nat) (d : Dev) : Dev :=
  let w := (d.cascHdrWord i (16 + o)).toNat
  let idx := bitsOf w 0 16
  let v := d.cascOut i o
  let d := d.wr (CEN_OBS (pairOf i) (cascOf i) o) v
  match bitsOf w 28 4 with
  | 1 =>
    let d := d.whenSome (d.funcD f).axuA (fun u d => d.modAxu u (fun a => { a with words := Tab.set idx v a.words }))
    d.whenSome (d.funcD f).cvu (fun u d => d.modCvu u (fun c => { c with words := Tab.set idx v c.words }))
  | 2 =>
    let leg := (d.fnLegs f).getD idx 0
    let per := d.fld (LEG_PER leg) LEG_PER_PER
    d.commitLeg leg (fFloorMul (fClamp f0 f1 v) per).toNat 0 0 false
  | 3 => d.sigWrite idx (some v) (some 0) d.fstamp 4
  | _ => d

/-- A delivery with the word that starts the unit's inverse stage (R189, R235). -/
def Dev.startInverse (f i : Nat) (d : Dev) : Dev :=
  let d := d.whenSome (d.funcD f).axuA (fun u d =>
    if d.isSet (AXU_STAT u) AXU_STAT_ENABLED && d.delivers i 1 && (!d.coupled u || d.delivers i 3) then
      d.modAxu u (fun a => { a with invDue := true, agreed := [0, 1, 2, 3].map (fun k => Tab.getD f0 a.words k) })
    else d)
  d.whenSome (d.funcD f).cvu (fun u d =>
    if d.isSet (CVU_STAT u) CVU_STAT_ENABLED && d.delivers i 0 then d.modCvu u (fun c => { c with invDue := true }) else d)

/-- The new bank becomes the checkpoint (R173). -/
def Dev.takeBank (i : Nat) (d : Dev) : Dev :=
  let d := d.modCasc i (fun c => { c with bank := c.newBank, ix := c.newIx, iy := c.newIy, first := false, outs := c.newBank.map (·.y) })
  let c := d.cascade i
  d.setF (CEN_CSTAT (pairOf i) (cascOf i)) CEN_CSTAT_REGION (4 * c.iy + c.ix)

/-- The outputs of an agreed activation are delivered, and its slack, stamp and count shown (R169, R173). -/
def Dev.deliverCascade (i f : Nat) (d : Dev) : Dev :=
  let p := pairOf i
  let c := cascOf i
  let dl := d.cascDl i
  let left := d.cascDeadline i - d.now.toNat
  let s := left * 10000 / dl
  let d := (d.setRun i false).forEach (List.range 8) (fun o d => d.deliverOut f i o)
  let d := d.startInverse f i
  let d := d.wr (CEN_CSLACK p c) (BitVec.ofNat 32 (min (d.fld (CEN_CSLACK p c) CEN_CSLACK_MIN) s * 65536 + s))
  let d := ((d.wr64 (CEN_CSTAMP_LO p c) (CEN_CSTAMP_HI p c) d.now).inc32 (CEN_CCNT p c)).setF (CEN_CSTAT p c) CEN_CSTAT_CMISS 0
  d.vcoreSlack left dl

/-- The cascades of the pair that cascade `i` triggers (R161). -/
def Dev.chainCascades (i : Nat) (d : Dev) : Dev :=
  let p := pairOf i
  let ref := (d.cascade i).ref
  d.forEach (((List.range 4).map (fun c => 4 * p + c)).filter (fun j => j ≠ i && d.cascTrig j = 2 &&
      d.fld (CEN_CTRIG p (cascOf j)) CEN_CTRIG_SRCC = cascOf i)) (fun j d => d.cascTrigger j ref)

/-- Final agreement of cascade `i`; `sigDiffer` says that the copies' state signatures differ (R174). -/
def Dev.agree (i : Nat) (sigDiffer : Bool) (d : Dev) : Dev :=
  let p := pairOf i
  if !d.cascRun i || d.cascDeadline i < d.now.toNat then d
  else match d.cascOwner i with
    | none => d
    | some f =>
      let d := d.deliverCascade i f
      let d := if sigDiffer && !d.isSet (CEN_CFG p) CEN_CFG_SPLIT then d.modPair p (fun x => { x with reexec := some i }) else d.takeBank i
      d.chainCascades i

/-- The re-execution of R174 ends: `same` says that outputs and signatures agree. -/
def Dev.reexecuted (p : Nat) (same : Bool) (d : Dev) : Dev :=
  match (d.pairOfD p).reexec with
  | none => d
  | some i =>
    let d := d.modPair p (fun x => { x with reexec := none })
    if same then
      let d := ((d.takeBank i).setF (CEN_FLT p) CEN_FLT_LATENT 1).incSat (CEN_CNT p) CEN_CNT_LATENT
      (d.evt EV_CEN_LATENT [p, cascOf i]).gustPair p
    else d.pairRestart p

/-- The restart of pair `p` ends; `known` says that its known-answer section passed (R175, R176). -/
def Dev.restartDone (p : Nat) (known : Bool) (d : Dev) : Dev :=
  if !d.isSet (CEN_STAT p) CEN_STAT_RESTARTING then d
  else
    let d := (d.setF (CEN_STAT p) CEN_STAT_RESTARTING 0).modPair p (fun x => { x with discarded := [] })
    let d := (d.setF (CEN_FLT p) CEN_FLT_MISMATCH 1).incSat (CEN_CNT p) CEN_CNT_RESTARTS
    let d := (d.evt EV_CEN_PAIR_MISMATCH [p, 0xFF, 0xFF]).gustPair p
    d.when (!known) (fun d => d.gale 2 (2 * p) gaTest 0xF)

/-- The deadline instant of cascade `i` without agreement (R167). -/
def Dev.deadlineMiss (i : Nat) (d : Dev) : Dev :=
  if (d.cascPend i || d.cascRun i) && d.cascDeadline i ≤ d.now.toNat then
    ((d.setPend i false).setRun i false).cascMiss i
  else d

/-- A core's triggers (R163). -/
def Dev.cenGo (p : Nat) (v : W) (d : Dev) : Dev :=
  d.forEach (oneBits 4 v.toNat) (fun c d => if d.cascTrig (4 * p + c) = 3 then d.cascTrigger (4 * p + c) d.now else d)

/-! ## Self-test (R177) -/

/-- One more failure in a row of a copy's self-test, or none; a second one is a Gale. -/
def Dev.copyTested (p c : Nat) (failed : Bool) (d : Dev) : Dev :=
  let n := if c = 0 then (d.pairOfD p).stFail0 else (d.pairOfD p).stFail1
  let n' := if failed then n + 1 else 0
  let d := d.modPair p (fun x => if c = 0 then { x with stFail0 := n' } else { x with stFail1 := n' })
  if failed then (d.gust 2 (2 * p + c)).when (2 ≤ n') (fun d => d.gale 2 (2 * p + c) gaTest 0xF) else d

/-- A self-test of pair `p` ends, with the failures of its copies. -/
def Dev.engineTest (p : Nat) (fail0 fail1 : Bool) (d : Dev) : Dev :=
  let live := fun (c : Nat) => !d.bit CEN_RETIRED (2 * p + c)
  let f0 := fail0 && live 0
  let f1 := fail1 && live 1
  let d := d.when (f0 || f1) (fun d =>
    ((d.setF (CEN_FLT p) CEN_FLT_STFAIL 1).addSat (CEN_CNT p) CEN_CNT_STFAIL (b2n f0 + b2n f1)).evt EV_CEN_SELFTEST_FAIL
      [p, 0xFF, if f0 && f1 then 0xFF else b2n f1])
  let d := d.when (live 0) (fun d => d.copyTested p 0 f0)
  (d.when (live 1) (fun d => d.copyTested p 1 f1)).reqServed 4 p (!(f0 || f1))

def Dev.engineTestDeferred (p : Nat) (d : Dev) : Dev :=
  if d.isSet (CEN_CFG p) CEN_CFG_STEN && !(d.bit CEN_RETIRED (2 * p) && d.bit CEN_RETIRED (2 * p + 1)) then
    let d := { d with bkg := { d.bkg with deferred := d.bkg.deferred + 1 } }
    ((d.setF (CEN_FLT p) CEN_FLT_DEFERRED 1).incSat (CEN_CNT p) CEN_CNT_DEFER).evt EV_CEN_SELFTEST_DEFERRED [p, 0xFF, 0xFF]
  else d

/-! ## Meanings -/

/-- CEN_GO_WRITE (R163): A write of CEN_GO triggers the named cascades whose TRIG is CORE. -/
def execCenGoWrite (t : Time) (p : Fin 16) (v : W) (s : State) : Host.Outcome State Fault Refusal :=
  s.on t (fun d => d.cenGo p v)

/-- CEN_ACTIVATION_START (R21): A pending activation starts when the engine pair is free, the earlier deadline first. -/
def execCenActivationStart (t : Time) (i : Fin 64) (differ : Bool) (s : State) : Host.Outcome State Fault Refusal :=
  s.on t (fun d => d.activate i differ)

/-- CEN_AGREEMENT (R166): Final output agreement is reached; outputs are delivered, the slack is reported and the signatures are compared. -/
def execCenAgreement (t : Time) (i : Fin 64) (sigDiffer : Bool) (s : State) : Host.Outcome State Fault Refusal :=
  s.on t (fun d => d.agree i sigDiffer)

/-- LATENT_REEXECUTION (R174): The re-execution ends; matching results record the latent Gust 0x1205, others restart the pair. -/
def execLatentReexecution (t : Time) (p : Fin 16) (same : Bool) (s : State) : Host.Outcome State Fault Refusal :=
  s.on t (fun d => d.reexecuted p same)

/-- CEN_RESTART_DONE (R175): The pair restart ends with a known-answer section, and the pair accepts triggers and records 0x1204. -/
def execCenRestartDone (t : Time) (p : Fin 16) (known : Bool) (s : State) : Host.Outcome State Fault Refusal :=
  s.on t (fun d => d.restartDone p known)

/-- CEN_DEADLINE_MISS (R167): At the deadline instant without agreement, the activation is withdrawn or ended and the previous output is held. -/
def execCenDeadlineMiss (t : Time) (i : Fin 64) (s : State) : Host.Outcome State Fault Refusal :=
  s.on t (fun d => d.deadlineMiss i)

/-- CEN_SELFTEST (R177): Every STPER ms an engine runs a known-answer test section in an idle gap. -/
def execCenSelftest (t : Time) (p : Fin 16) (fail0 fail1 : Bool) (s : State) : Host.Outcome State Fault Refusal :=
  s.on t (fun d => if d.isSet (CEN_CFG p) CEN_CFG_STEN || d.reqWanted 4 p then d.engineTest p fail0 fail1 else d)

/-- SELFTEST_DEFERRED (R177): A self-test not completed within 10 × STPER ms sets DEFERRED and records 0x120B. -/
def execSelftestDeferred (t : Time) (p : Fin 16) (s : State) : Host.Outcome State Fault Refusal :=
  s.on t (fun d => d.engineTestDeferred p)

end Sys2Proof.Machine
end

