-- ==== Sys2Proof/Machine/Axu.lean ====
section
/-! DEFINITION. Axis units: feedback and the forward pass (chapter 08), the position step, its phases, loss and
reacquisition, and the speed ramp (chapter 09). The inverse stage stands in Inverse.lean. -/

namespace Sys2Proof.Machine

/-! ## Feedback (R180–R184) -/

/-- The input of a unit that holds a role: 0–2 the currents, 3 V_dc, 4–6 the terminal voltages. -/
def Dev.roleInput (d : Dev) (u role : Nat) : Option Nat :=
  (List.range 8).find? (fun k => d.isSet (AXU_IN u k) AXU_IN_EN && d.fld (AXU_IN u k) AXU_IN_ROLE = role)

/-- The current roles that SENSE names. -/
def Dev.senseRoles (d : Dev) (u : Nat) : List Nat :=
  match d.fld (AXU_CFG u) AXU_CFG_SENSE with | 0 => [0, 1] | 1 => [1, 2] | 2 => [0, 2] | _ => [0, 1, 2]

def Dev.roleRes (d : Dev) (u role : Nat) : Option InRes :=
  match d.roleInput u role with
  | some k => if Tab.has (d.axu u).res k then some (Tab.getD default (d.axu u).res k) else none
  | none => none

/-- The value of a result at an input (R181). -/
def Dev.roleValue (d : Dev) (u role : Nat) : Option W :=
  match d.roleInput u role, d.roleRes u role with
  | some k, some r => some (fMul (fSub (fOfInt (if r.word.bit 18 || r.word.fld ⟨24, 4⟩ = 0xF then signedOf 16 r.word.toNat else resData r.word))
      (d.rd (AXU_OFS u k))) (d.rd (AXU_GAIN u k)))
  | _, _ => none
where
  /-- DATA as an unsigned number. -/
  resData (w : W) : Int := (bitsOf w.toNat 0 16 : Nat)

/-- Has every current role of the unit delivered for the present period (R182)? -/
def Dev.currentsFresh (d : Dev) (u : Nat) : Bool :=
  (d.senseRoles u).all (fun r => match d.roleRes u r with | some x => x.fresh | none => false)

/-- Does the current set of a unit call for substitution (R183)? -/
def Dev.currentsBad (d : Dev) (u : Nat) : Bool :=
  (d.senseRoles u).any (fun r => match d.roleRes u r with
    | some x => x.word.bit 20 || (x.word.bit 16 && !d.isSet (AXU_CFG u) AXU_CFG_SETUSE)
    | none => true)

/-- The phase currents of a unit's set: the third is the negative sum of two (R182). -/
def Dev.phaseCurrents (d : Dev) (u : Nat) : List W :=
  let v := fun (r : Nat) => (d.roleValue u r).getD f0
  match d.fld (AXU_CFG u) AXU_CFG_SENSE with
  | 0 => [v 0, v 1, fNeg (fAdd (v 0) (v 1))]
  | 1 => [fNeg (fAdd (v 1) (v 2)), v 1, v 2]
  | 2 => [v 0, fNeg (fAdd (v 2) (v 0)), v 2]
  | _ => [v 0, v 1, v 2]

/-- The Clarke transform (R185). -/
def clarke (i : List W) : W × W :=
  let u := i.getD 0 f0
  let v := i.getD 1 f0
  let w := i.getD 2 f0
  (fMul (fC 2 3) (fSub u (fHalf (fAdd v w))), fDiv (fSub v w) fSqrt3)

/-- i_d, i_q, i_x and i_y at angle `th` of the vectors of one or two sets (R185, R193). -/
def toDq (sets : List (W × W)) (gamma th : W) : W × W × W × W :=
  let a := sets.headD (f0, f0)
  let s1 := unrotate a.1 a.2 th
  match sets with
  | [_, b] =>
    let s2 := unrotate b.1 b.2 (th - gamma)
    (fHalf (fAdd s1.1 s2.1), fHalf (fAdd s1.2 s2.2), fHalf (fSub s1.1 s2.1), fHalf (fSub s1.2 s2.2))
  | _ => (s1.1, s1.2, f0, f0)

/-- Feedback is lost (R183): 0x1102, the safe state, and the inputs of SPARE entries whose steps delivered the failing
results are retired (R279). -/
def Dev.feedbackLost (f code : Nat) (srcs : List (Nat × Nat)) (data : List Nat) (d : Dev) : Dev :=
  let d := (d.evt code data).gafferSafe f code
  let inputs := (srcs.map (fun p => d.fld (ADC_STEP p.1 p.2) ADC_STEP_INPUT)).eraseDups
  d.forEach inputs (fun n d =>
    if d.img.spares.any (fun e => e.rkind = 3 && e.primary = n && e.fn = f) then d.gale 7 n gaFeedback 0xF else d)

/-- Sequence and step of the current inputs that failed. -/
def Dev.failedSteps (d : Dev) (u : Nat) : List (Nat × Nat) :=
  (d.senseRoles u).filterMap (fun r => match d.roleInput u r with
    | some k =>
      let w := d.rd (AXU_IN u k)
      let bad := match d.roleRes u r with
        | some x => x.word.bit 20 || (x.word.bit 16 && !d.isSet (AXU_CFG u) AXU_CFG_SETUSE) || !x.fresh
        | none => true
      if w.fld AXU_IN_KIND = 0 && bad then some (w.fld AXU_IN_SRC, w.fld AXU_IN_STEP) else none
    | none => none)

/-- A substituted period is counted (R183). -/
def Dev.substituted (u f : Nat) (d : Dev) : Dev :=
  let failing := (d.setUnits u).flatMap d.failedSteps
  let d := ((d.setF (AXU_STAT u) AXU_STAT_SUBST 1).setF (AXU_FLT u) AXU_FLT_SUBST 1).incSat (AXU_CNT u) AXU_CNT_SUBS
  let d := (d.incSat (AXU_STAT u) AXU_STAT_SUBCNT).evtRated EV_AXU_SUBSTITUTED u [u]
  if d.fld (AXU_STAT u) AXU_STAT_SUBCNT = d.fld (AXU_CFG u) AXU_CFG_SUBMAX then
    (d.setF (AXU_FLT u) AXU_FLT_FBLOST 1).feedbackLost f EV_AXU_FEEDBACK_LOST failing [u]
  else d

/-- The zero-sequence check of a unit that measures all three phases (R182). -/
def Dev.zeroSum (u f : Nat) (d : Dev) : Dev :=
  let i := d.phaseCurrents u
  if d.fld (AXU_CFG u) AXU_CFG_SENSE ≠ 3 || !i.all fFinite then d
  else
    let i0 := fDiv (fAdd (fAdd (i.getD 0 f0) (i.getD 1 f0)) (i.getD 2 f0)) (fC 3 1)
    let high := fGt (fAbs i0) (d.rd (AXU_ZSLIM u))
    let d := d.modAxu u (fun a => { a with zs := if high then a.zs + 1 else 0 })
    if (d.axu u).zs = d.fld (AXU_CFG u) AXU_CFG_ZSCNT then
      ((d.setF (AXU_FLT u) AXU_FLT_ZSUM 1).evt EV_AXU_ZERO_SUM [u]).gafferSafe f EV_AXU_ZERO_SUM
    else d

/-! ## Blend, carrier, observer (R203–R207) -/

def Dev.omegaLo (d : Dev) (u : Nat) : W := fSub (d.rd (AXU_HOSPD u)) (fHalf (d.rd (AXU_HOBAND u)))
def Dev.omegaHi (d : Dev) (u : Nat) : W := fAdd (d.rd (AXU_HOSPD u)) (fHalf (d.rd (AXU_HOBAND u)))

/-- The blend weight (R202, R203). -/
def Dev.blend (d : Dev) (u : Nat) : W :=
  match d.posSrc u with
  | 1 => f1
  | 0 | 4 => fClamp f0 f1 (fDiv (fSub (fAbs (d.axu u).wHat) (d.omegaLo u)) (fSub (d.omegaHi u) (d.omegaLo u)))
  | _ => f0

/-- h of R205: sin(π/K) / (π/K). -/
def holdGain (k : Nat) : W := fDiv (fSin (BitVec.ofNat 32 (2 ^ 31 / k))) (fRoundI false (rad40 / 2 / k) (-40))
/-- ω_h. -/
def carrierOmega (k : Nat) (per : Nat) : W := fDiv (fRoundI false rad40 (-40)) (ticksSec (k * per))

/-- I_Δ and A_exp of R205. -/
def Dev.iDelta (d : Dev) (u per : Nat) : W :=
  let k := max 1 (d.injK u)
  let ld := d.rd (AXU_LD u)
  let lq := d.rd (AXU_LQ u)
  fDiv (fMul (fMul (holdGain k) (d.carrierVc u)) (fSub lq ld)) (fMul (fMul (fMul (fC 2 1) (carrierOmega k per)) ld) lq)
def Dev.aExp (d : Dev) (u per : Nat) : W :=
  let k := max 1 (d.injK u)
  fDiv (fMul (holdGain k) (d.carrierVc u)) (fMul (carrierOmega k per) (d.rd (AXU_LD u)))

/-- A sum over samples divided by their number, and 2/K times a sum of products. -/
def mean (xs : List W) : W := fDiv (xs.foldl fAdd f0) (fOfNat (max 1 xs.length))
def demod (k : Nat) (xs : List (W × W)) : W := fMul (fOfRatio 2 k) (xs.foldl (fun s p => fAdd s (fMul p.1 p.2)) f0)

/-- A carrier sample joins the last K; once per carrier period ε, e_inj and A_d are evaluated (R205). In CONVERGE that
counts toward CONVN and CONVMAX (R215). -/
def Dev.carrierStep (u per : Nat) (id iq vd vq : W) (d : Dev) : Dev :=
  let k := max 1 (d.injK u)
  let a := d.axu u
  let ph := carrierAngle a.nLoaded k
  let trim := radToAngle (d.rd (AXU_INJDPH u))
  let s : CarSample := ⟨id, iq, vd, vq, fSin (ph + Config.carrierPhase 0 k + trim), fCos (ph + Config.carrierPhase 1 k + trim), f0, f0⟩
  let ring := (s :: a.ring).take k
  let d := d.modAxu u (fun a => { a with ring := ring, sampleNo := (a.sampleNo + 1) % k })
  if (d.axu u).sampleNo ≠ 0 || ring.length < k then d
  else
    let eps := demod k (ring.reverse.map (fun x => (x.iq, x.sinRef)))
    let ad := demod k (ring.reverse.map (fun x => (x.id, x.cosRef)))
    let q := fRoundI false (rad40 / 8) (-40)
    let e := fClamp (fNeg q) q (fDiv eps (fMul (fC 2 1) (d.iDelta u per)))
    (d.wr (AXU_EPS u) eps).modAxu u (fun a => { a with eInj := e, ad := ad, convCnt := a.convCnt + 1
                                                       convOk := if fLe (fAbs e) (fC 5 100) then a.convOk + 1 else 0 })

/-- The observer (R207): currents and voltages in the frame of θ̂. -/
def Dev.observe (u per : Nat) (id iq vd vq : W) (d : Dev) : Dev :=
  let a := d.axu u
  let t := ticksSec per
  let g := fSub f1 (fExpo (fMul (fNeg (d.rd (AXU_OBSBW u))) t))
  let rs := d.rd (AXU_RS u)
  let ld := d.rd (AXU_LD u)
  let lq := d.rd (AXU_LQ u)
  let p := a.obsPrev.getD (id, iq)
  let zd := fAdd (fSub (fSub vd (fMul rs id)) (fDiv (fMul ld (fSub id p.1)) t)) (fMul (fMul a.wHat lq) iq)
  let zq := fSub (fSub (fSub vq (fMul rs iq)) (fDiv (fMul ld (fSub iq p.2)) t)) (fMul (fMul a.wHat lq) id)
  let ed := fAdd a.obsD (fMul g (fSub zd a.obsD))
  let eq := fAdd a.obsQ (fMul g (fSub zq a.obsQ))
  ((d.wr (AXU_EMFD u) ed).wr (AXU_EMFQ u) eq).modAxu u (fun a => { a with obsD := ed, obsQ := eq, obsPrev := some (id, iq) })

/-- e_emf (R207). -/
def Dev.emfError (d : Dev) (u : Nat) : W :=
  let a := d.axu u
  let s := if fLt a.wHat f0 then fNeg f1 else f1
  fAtan2 (fMul (fNeg s) a.obsD) (fMul s a.obsQ)

/-! ## The ramp (R223–R226) -/

/-- The sign of a number: −1, 0 or 1. -/
def fSgn (x : W) : Int := if fIsZero x then 0 else if fSign x then -1 else 1

/-- One step of the pseudocode of R224 on r and a: the new r and a, and whether a dwell starts. -/
def rampStep (r a tgt acc dec jerk tr : W) : W × W × Bool :=
  let goal := if fSgn r ≠ 0 ∧ fSgn tgt ≠ fSgn r then f0 else tgt
  let e := fSub goal r
  let s := fSgn e
  let sf := if s = 0 then f0 else if s < 0 then fNeg f1 else f1
  let limS := if fSgn r = 0 ∨ fSgn r = s then acc else dec
  let des := fMul sf (fMinN limS (fDiv (fAbs e) tr))
  let des := if fGt jerk f0 then
      let x := fMul sf (fMinN (fAbs des) (fSqrt (fMul (fMul (fC 2 1) jerk) (fAbs e))))
      fClamp (fSub a (fMul jerk tr)) (fAdd a (fMul jerk tr)) x
    else des
  let limM := if fSgn r = 0 ∨ fSgn a = fSgn r then acc else dec
  let a' := fClamp (fNeg limM) limM des
  let next := fAdd r (fMul a' tr)
  let past := s ≠ 0 && fSgn (fSub goal next) = -s
  let next := if past then goal else next
  let a' := if past then f0 else a'
  (next, a', fSgn r ≠ 0 && fSgn next = 0 && fSgn tgt ≠ 0 && fSgn tgt ≠ fSgn r)

/-- A ramp step of unit `u` over `ticks` fine ticks. -/
def Dev.ramp (u ticks : Nat) (d : Dev) : Dev :=
  let v : W := BitVec.ofNat 32 (d.sigVal (d.fld (AXU_RAMPSIG u) AXU_RAMPSIG_SIG))
  let wmax := d.rd (AXU_WMAX u)
  let d := if fFinite v then d.wr (AXU_RTGT u) (fClamp (fNeg wmax) wmax v)
    else (d.setF (AXU_POSFLT u) AXU_POSFLT_RAMPNAN 1).evtRated EV_AXU_RAMP_NAN u [u]
  if 0 < (d.axu u).dwell then
    ((d.modAxu u (fun a => { a with dwell := a.dwell - ticks })).wr (AXU_RVAL u) f0).wr (AXU_RRATE u) f0
  else
    let x := rampStep (d.rd (AXU_RVAL u)) (d.rd (AXU_RRATE u)) (d.rd (AXU_RTGT u)) (d.rd (AXU_ACC u)) (d.rd (AXU_DEC u))
      (d.rd (AXU_JERK u)) (ticksSec ticks)
    let d := (d.wr (AXU_RVAL u) x.1).wr (AXU_RRATE u) x.2.1
    d.when x.2.2 (fun d => d.modAxu u (fun a => { a with dwell := d.fld (AXU_RAMPCFG u) AXU_RAMPCFG_DWELL * msTicks }))

/-- Outside TRACK the ramp follows the speed (R226). -/
def Dev.rampFollow (u : Nat) (d : Dev) : Dev := (d.wr (AXU_RVAL u) (d.axu u).wHat).wr (AXU_RRATE u) f0

/-- A slot of kind 0x5 that names the unit fires (R204, R223). -/
def Dev.axuAux (u ticks : Nat) (d : Dev) : Dev :=
  let d := d.when (d.isSet (AXU_INJCFG u) AXU_INJCFG_SYNC) (fun d => d.modAxu u (fun a => { a with n := 0 }))
  if d.isSet (AXU_RAMPCFG u) AXU_RAMPCFG_STEP && d.axuPhase u = 5 then d.ramp u ticks else d

/-! ## Phases, loss and attempts (R213–R221) -/

/-- The state R219 gives: ASC_LOW above ASCSPD, else OFF. -/
def Dev.lossState (d : Dev) (u : Nat) (w : W) : Nat := if fGt (fAbs w) (d.rd (AXU_ASCSPD u)) then sfAscLow else sfOff

/-- The third failed attempt latches FAULT (R221); the function stays in the state it has. -/
def Dev.posFault (u f : Nat) (d : Dev) : Dev :=
  let d := ((d.setPhase u phFault).setF (AXU_POSSTAT u) AXU_POSSTAT_LATCHED 1).setF (AXU_POSFLT u) AXU_POSFLT_FAULT 1
  (d.evt EV_AXU_POS_FAULT [u]).safeCommand f (d.fld (RED_FNSTATE f) RED_FNSTATE_STATE) EV_AXU_POS_FAULT

/-- An attempt fails (R220): counted; the unit waits in LOST for the next one, or latches FAULT. -/
def Dev.attemptFails (u f : Nat) (d : Dev) : Dev :=
  let d := (d.setF (AXU_POSSTAT u) AXU_POSSTAT_TRIES (d.fld (AXU_POSSTAT u) AXU_POSSTAT_TRIES + 1)).modAxu u (fun a => { a with failAt := d.now, trackAt := none })
  let d := d.setPhase u phLost
  if 3 ≤ d.fld (AXU_POSSTAT u) AXU_POSSTAT_TRIES then d.posFault u f else d

/-- A failed attempt to find the position, with its flag and its event; a function that is not in a safe state takes that of
R219. -/
def Dev.posFails (u f code : Nat) (flag : Fld) (d : Dev) : Dev :=
  let d := (d.setF (AXU_POSFLT u) flag 1).evt code [u]
  let d := if d.inSafe f then d else d.safeCommand f (d.lossState u (d.axu u).wHat) code
  d.attemptFails u f

/-- Position is lost (R218, R219). -/
def Dev.posLost (u f : Nat) (d : Dev) : Dev :=
  let a := d.axu u
  let recent := match a.trackAt with | some t => decide (d.since t < secTicks) | none => false
  let d := ((d.setPhase u phLost).setF (AXU_POSFLT u) AXU_POSFLT_LOST 1).incSat (AXU_POSCNT u) AXU_POSCNT_LOSSES
  let d := d.modAxu u (fun x => { x with failAt := d.now })
  let d := (d.evt EV_AXU_POS_LOST [u]).safeCommand f (d.lossState u a.lossW) EV_AXU_POS_LOST
  d.when recent (fun d => d.attemptFails u f)

/-- The function leaves its safe state for an attempt and its unit goes on in `ph` (R220). -/
def Dev.posResume (u f ph : Nat) (d : Dev) : Dev :=
  let a := d.axu u
  let d := if d.inSafe f then d.completeEnable f else d
  (d.setPhase u ph).modAxu u (fun x => { x with thHat := a.thHat, wHat := a.wHat, reacq := a.reacq })

/-- TRACK is reached: a reacquisition has succeeded (R220). -/
def Dev.reached (u : Nat) (d : Dev) : Dev := d.when (d.axu u).reacq (fun d => d.evt EV_AXU_REACQUIRED [u])

/-- The measured angle and speed: a catch, a start without one, or a refusal (R213, R214, R220). -/
def Dev.measured (u f : Nat) (th w : W) (asc : Bool) (d : Dev) : Dev :=
  let d := d.setF (AXU_POSSTAT u) AXU_POSSTAT_DIR (b2n (fLt w f0))
  let src := d.posSrc u
  if fGe (fAbs w) (d.rd (AXU_FSCATCH u)) then
    let d := (d.modAxu u (fun a => { a with thHat := th, wHat := w })).posResume u f phTrack
    let d := ((d.incSat (AXU_POSCNT u) AXU_POSCNT_CATCHES).evt EV_AXU_CAUGHT ([u] ++ le4 w.toNat)).rampFollow u
    d.reached u
  else if asc then (d.safeCommand f sfOff (d.fld (RED_FNSTATE f) RED_FNSTATE_CAUSE)).setPhase u phMeasure
  else if src = srcSensorless then (d.modAxu u (fun a => { a with thHat := th, wHat := w })).posResume u f phConverge
  else if src = srcEmf then d.posFails u f EV_AXU_CONVERGE_FAIL AXU_POSFLT_CONVFAIL
  else
    let d := (d.modAxu u (fun a => { a with thHat := (d.sensorAngle u d.now).getD th, wHat := w })).posResume u f phTrack
    d.reached u

/-- The least-squares line through angles one period apart: the slope per period as a ratio, and the fitted angle at the
last one. -/
def fitAngles (xs : List W) : Int × Nat × W :=
  let ys : List Int := xs.foldl (fun (acc : List Int × Option W) x =>
    match acc.2 with
    | none => ([0], some x)
    | some p => (acc.1 ++ [acc.1.getLastD 0 + (x - p).toInt], some x)) ([], none) |>.1
  let n := ys.length
  let num : Int := (ys.zipIdx).foldl (fun s p => s + p.1 * (2 * p.2 - ((n : Int) - 1))) 0
  let den := n * (n * n - 1)
  let sum : Int := ys.foldl (· + ·) 0
  let last : Int := sum / (max n 1 : Nat) + 3 * num * ((n : Int) - 1) / (max den 1 : Nat)
  (6 * num, max den 1, xs.headD 0 + BitVec.ofInt 32 last)

/-- MEASN periods have been sampled (R213, R220). -/
def Dev.measureDone (u f per : Nat) (d : Dev) : Dev :=
  let ph := d.axuPhase u
  let a := d.axu u
  if !(ph = phMeasure || ph = phMeasAsc) || a.meas.length < d.fld (AXU_FSCFG u) AXU_FSCFG_MEASN then d
  else
    let x := fitAngles a.meas
    let w := fOfRatio (x.1 * rad40 * 16000000000) (x.2.1 * per * 2 ^ 72)
    if ph = phMeasAsc then
      let back := fAtan2 (fMul (fNeg w) (d.rd (AXU_RS u))) (fMul (fNeg (fMul w w)) (d.rd (AXU_LQ u)))
      d.measured u f (x.2.2 - radToAngle back) w true
    else if a.measStill then d.measured u f 0 f0 false
    else d.measured u f (if fLt w f0 then x.2.2 + BitVec.ofNat 32 quarter else if fIsZero w then x.2.2 else x.2.2 - BitVec.ofNat 32 quarter) w false

/-- The end of a polarity test (R216). -/
def Dev.polarityDone (u f : Nat) (d : Dev) : Dev :=
  let a := d.axu u
  let n := d.fld (AXU_POLCFG u) AXU_POLCFG_POLN
  if d.axuPhase u ≠ phPolarity || a.polN < 4 * n then d
  else
    let i := fun (k : Nat) => a.polI.getD k f0
    let ip := fSub (i n) (i 0)
    let im := fNeg (fSub (i (3 * n)) (i (2 * n)))
    let m := fOfRatio (100 + d.fld (AXU_POLCFG u) AXU_POLCFG_MRG) 100
    let d := (d.wr (AXU_POLIP u) ip).wr (AXU_POLIN u) im
    if fGe ip (fMul im m) then (d.setPhase u phTrack).reached u
    else if fGe im (fMul ip m) then
      ((d.setPhase u phTrack).modAxu u (fun a => { a with thHat := a.thHat + 0x80000000#32 })).reached u
    else
      let d := (d.incSat (AXU_POSCNT u) AXU_POSCNT_POLRETRY).modAxu u (fun a => { a with polN := 0, polI := [], polTests := a.polTests + 1 })
      if 3 ≤ (d.axu u).polTests then d.posFails u f EV_AXU_POLARITY_FAIL AXU_POSFLT_POLFAIL else d

/-- RETRYDLY after a loss or a failure an attempt begins (R220). -/
def Dev.reacquire (u f : Nat) (d : Dev) : Dev :=
  if d.axuPhase u = phLost && d.inSafe f && !d.isSet (RED_FNSTATE f) RED_FNSTATE_LATCHED &&
      d.fld (AXU_FSCFG u) AXU_FSCFG_RETRYDLY * msTicks ≤ d.since (d.axu u).failAt then
    let ph := if d.fld (RED_FNSTATE f) RED_FNSTATE_STATE = sfAscLow then phMeasAsc else phMeasure
    (d.setPhase u ph).modAxu u (fun a => { a with reacq := true, res := [], fwdDone := false })
  else d

/-- One second in TRACK (R220). -/
def Dev.trackSecond (u : Nat) (d : Dev) : Dev :=
  match (d.axu u).trackAt with
  | some t =>
    if d.axuPhase u = phTrack && secTicks ≤ d.since t then
      (d.setF (AXU_POSSTAT u) AXU_POSSTAT_TRIES 0).modAxu u (fun a => { a with trackAt := none, reacq := false })
    else d
  | none => d

/-! ## The position step (R202, R208, R211, R218) -/

/-- The tracking loop with weight `w` and error `e`. -/
def Dev.pll (u per : Nat) (w e : W) (d : Dev) : Dev :=
  let t := ticksSec per
  let mix := fun (lo hi : W) => fAdd (fMul (fSub f1 w) lo) (fMul w hi)
  let kp := mix (d.rd (AXU_PLLKP0 u)) (d.rd (AXU_PLLKP1 u))
  let ki := mix (d.rd (AXU_PLLKI0 u)) (d.rd (AXU_PLLKI1 u))
  let a := d.axu u
  let wh := fAdd a.wHat (fMul (fMul ki t) e)
  let th := a.thHat + radToAngle (fMul t (fAdd wh (fMul kp e)))
  (((d.wr (AXU_THEST u) th).wr (AXU_WEST u) wh).wr (AXU_ETH u) e).modAxu u (fun a => { a with wHat := wh, thHat := th })

/-- A bad period of the sensor is recorded (R211). -/
def Dev.sensorBad (u : Nat) (d : Dev) : Dev :=
  let d := d.incSat (AXU_POSCNT u) AXU_POSCNT_SENSERR
  if d.posSrc u = srcSent then (d.setF (AXU_POSFLT u) AXU_POSFLT_SENTSTALE 1).evtRated EV_AXU_SENS_STALE u [u]
  else (d.setF (AXU_POSFLT u) AXU_POSFLT_HALLINV 1).evtRated EV_AXU_HALL_INVALID u [u]

/-- Is the present period bad by the sensor (R211)? -/
def Dev.periodBad (d : Dev) (u : Nat) : Bool :=
  if d.posSrc u = srcSent then d.sentStale u
  else (d.posSrc u = srcHall || d.posSrc u = srcHallEmf) && d.hallBad u

/-- The residual ρ (R218). -/
def Dev.residual (d : Dev) (u per : Nat) (w id : W) : W :=
  let a := d.axu u
  let src := d.posSrc u
  if src = srcHall || src = srcSent then f0
  else
    let psi := d.rd (AXU_PSI u)
    let em := fMul a.wHat (fAdd psi (fMul (fSub (d.rd (AXU_LD u)) (d.rd (AXU_LQ u))) id))
    let emf := fDiv (fLen a.obsD (fSub a.obsQ em)) (fMaxN (fAbs em) (fMul (d.omegaLo u) psi))
    let vc := d.carrierVc u
    let inj := if !d.carrierOn u || fLt vc (fMul (fC 1 10) (d.carrierAmp u)) then f0 else fAbs (fSub (fDiv a.ad (d.aExp u per)) f1)
    fAdd (fMul w emf) (fMul (fSub f1 w) inj)

/-- The residual counts toward loss (R218). -/
def Dev.countLoss (u : Nat) (high : Bool) (d : Dev) : Dev :=
  if high then
    let d := d.when (d.fld (AXU_POSSTAT u) AXU_POSSTAT_LOSSCNT = 0) (fun d => d.modAxu u (fun a => { a with lossW := a.wHat }))
    d.incSat (AXU_POSSTAT u) AXU_POSSTAT_LOSSCNT
  else d.setF (AXU_POSSTAT u) AXU_POSSTAT_LOSSCNT 0

/-- The error of TRACK (Table AXU-5). -/
def Dev.trackError (d : Dev) (u : Nat) (w : W) (ts : Time) : W :=
  let src := d.posSrc u
  let low := if src = srcSensorless then (d.axu u).eInj
    else match d.sensorAngle u ts with | some a => angleToRad (a - (d.axu u).thHat) | none => f0
  let high := if src = srcHall || src = srcSent then f0 else d.emfError u
  fAdd (fMul (fSub f1 w) low) (fMul w high)

/-- The position step of a forward pass: `sets` the current vectors, `sub` that the period is substituted. -/
def Dev.positionStep (u f per : Nat) (sets : List (W × W)) (sub : Bool) (ts : Time) (d : Dev) : Dev :=
  let ph := d.axuPhase u
  let a := d.axu u
  if ph = phMeasure then
    if sub then d
    else
      let v := fun (r : Nat) => (d.roleValue u r).getD f0
      let ea := fDiv (fSub (fSub (fMul (fC 2 1) (v 4)) (v 5)) (v 6)) (fC 3 1)
      let eb := fDiv (fSub (v 5) (v 6)) fSqrt3
      let still := fLt (fLen ea eb) (fMul (fC 1 100) (a.vdc.getD f0))
      (d.modAxu u (fun a => { a with meas := (a.meas ++ [radToAngle (fAtan2 eb ea)]).take 64, measStill := a.measStill && still })).rampFollow u
  else if ph = phMeasAsc then
    if sub then d
    else
      let i := sets.headD (f0, f0)
      (d.modAxu u (fun a => { a with meas := (a.meas ++ [radToAngle (fAtan2 i.2 i.1)]).take 64 })).rampFollow u
  else if ph = phConverge || ph = phPolarity || ph = phTrack then
    let w := d.blend u
    let d := d.wr (AXU_WBL u) w
    let bad := d.periodBad u
    let dq := toDq sets (d.gamma u) a.thHat
    let vdq := unrotate a.vLoaded.1 a.vLoaded.2 a.thHat
    let d := if sub then d
      else
        let d := if d.carrierOn u then d.carrierStep u per dq.1 dq.2.1 vdq.1 vdq.2 else d.modAxu u (fun a => { a with ring := [], sampleNo := 0 })
        let r := (d.axu u).ring
        let mean4 := if d.carrierOn u then (mean (r.map (·.id)), mean (r.map (·.iq)), mean (r.map (·.vd)), mean (r.map (·.vq)))
          else (dq.1, dq.2.1, vdq.1, vdq.2)
        if [srcSensorless, srcEmf, srcHallEmf].contains (d.posSrc u) then d.observe u per mean4.1 mean4.2.1 mean4.2.2.1 mean4.2.2.2 else d
    let e := if sub || bad || ph = phPolarity then f0
      else if ph = phConverge then (d.axu u).eInj
      else d.trackError u w ts
    let d := d.pll u per w e
    let d := d.when bad (fun d => (d.sensorBad u).modAxu u (fun a => { a with hall := { a.hall with bad := false } }))
    if ph = phTrack then
      let rho := if bad then f1 else d.residual u per w dq.1
      let d := d.wr (AXU_RHO u) rho
      let d := if bad then d.countLoss u true else if sub then d else d.countLoss u (fGt rho (d.rd (AXU_RESTH u)))
      if d.fld (AXU_POSCFG u) AXU_POSCFG_LOSSN ≤ d.fld (AXU_POSSTAT u) AXU_POSSTAT_LOSSCNT then d.posLost u f
      else if d.isSet (AXU_RAMPCFG u) AXU_RAMPCFG_STEP then d else d.ramp u per
    else
      let d := d.rampFollow u
      if ph = phConverge then
        let a := d.axu u
        if d.fld (AXU_INJCFG u) AXU_INJCFG_CONVN ≤ a.convOk then d.setPhase u phPolarity
        else if d.fld (AXU_INJCFG u) AXU_INJCFG_CONVMAX ≤ a.convCnt then d.posFails u f EV_AXU_CONVERGE_FAIL AXU_POSFLT_CONVFAIL
        else d
      else d.modAxu u (fun a => { a with polI := a.polI ++ [dq.1] })
  else d.rampFollow u

/-! ## The forward pass -/

/-- The limited references (R188, R217). -/
def Dev.references (d : Dev) (u f : Nat) : W × W :=
  let a := d.axu u
  let sig := fun (i : Nat) => (BitVec.ofNat 32 (d.sigVal i) : W)
  let rd := if d.isSet (AXU_IREF u) AXU_IREF_DSRC then sig (d.fld (AXU_REFSIG u) AXU_REFSIG_DSIG) else Tab.getD f0 a.words 4
  let rq := if d.isSet (AXU_IREF u) AXU_IREF_QSRC then sig (d.fld (AXU_REFSIG u) AXU_REFSIG_QSIG) else Tab.getD f0 a.words 5
  if d.axuPhase u ≠ phTrack then (f0, f0)
  else
    let lim := fMul (d.rd (AXU_IMAX u)) (d.rd (THM_K f))
    let id := if fFinite rd then fClamp (fNeg lim) lim rd else rd
    let q := fSqrt (fMaxN f0 (fSub (fMul lim lim) (fMul id id)))
    (id, if fFinite rq then fClamp (fNeg q) q rq else rq)

/-- The latest usable V_dc is taken (R184). -/
def Dev.takeVdc (u : Nat) (d : Dev) : Dev :=
  match d.roleRes u 3, d.roleValue u 3 with
  | some r, some v => if r.word.bit 20 || r.word.bit 16 then d else d.modAxu u (fun a => { a with vdc := some v })
  | _, _ => d

/-- The words of Table AXU-1 and R227. -/
def Dev.axuWords (d : Dev) (u : Nat) (ref : W × W) (i : W × W × W × W) : List W :=
  let a := d.axu u
  let m := if fGt (d.carrierVc u) f0 && !a.ring.isEmpty then (mean (a.ring.map (·.sd)), mean (a.ring.map (·.sq))) else (i.1, i.2.1)
  [fSub ref.1 m.1, fSub ref.2 m.2, m.1, m.2, a.wHat, a.vdc.getD f0] ++
  (if d.coupled u then [fNeg i.2.2.1, fNeg i.2.2.2, i.2.2.1, i.2.2.2] else [f0, f0, f0, f0]) ++
  [d.rd (AXU_RVAL u), d.rd (AXU_RRATE u), d.rd (AXU_ETH u), d.rd (AXU_RHO u), d.rd (AXU_WBL u), a.ad]

/-- The test voltages of the polarity test are committed in place of the current loop (R216). -/
def Dev.polarityCommit (u f : Nat) (d : Dev) : Dev :=
  let n := max 1 (d.fld (AXU_POLCFG u) AXU_POLCFG_POLN)
  let k := (d.axu u).polN
  let v := d.rd (AXU_POLV u)
  let vd := if k / n = 0 ∨ k / n = 3 then v else fNeg v
  if 4 * n ≤ k then d else (d.inverse u f vd f0 f0 f0 true).modAxu u (fun a => { a with polN := a.polN + 1 })

/-- The part of a forward pass after the position step: currents, references, observed values, delivery (R185–R188). -/
def Dev.forwardDeliver (u f : Nat) (sets : List (W × W)) (iphs : List (List W)) (sub : Bool) (prev : W × W × W × W) (d : Dev) : Dev :=
  let th := (d.axu u).thHat
  let i := if sub then prev else toDq sets (d.gamma u) th
  let back := fun (k : Nat) =>
    let s := if k = 0 then (fAdd i.1 i.2.2.1, fAdd i.2.1 i.2.2.2) else (fSub i.1 i.2.2.1, fSub i.2.1 i.2.2.2)
    let s := if d.coupled u then s else (i.1, i.2.1)
    let v := rotate s.1 s.2 (if k = 0 then th else th - d.gamma u)
    phases v.1 v.2
  let iphs := if sub then ((d.setUnits u).zipIdx).map (fun p => back p.2) else iphs
  let d := (((d.setUnits u).zip iphs)).foldl (fun d p =>
    ((((d.modAxu p.1 (fun a => { a with iph := p.2 })).wr (AXU_IU p.1) (p.2.getD 0 f0)).wr (AXU_IV p.1) (p.2.getD 1 f0)).wr (AXU_IW p.1) (p.2.getD 2 f0))) d
  let ref := d.references u f
  let d := ((((d.wr (AXU_ID u) i.1).wr (AXU_IQ u) i.2.1).wr (AXU_IX u) i.2.2.1).wr (AXU_IY u) i.2.2.2).wr (AXU_THS u) th
  let d := ((d.wr (AXU_VDC u) ((d.axu u).vdc.getD f0)).wr (AXU_IDREF u) ref.1).wr (AXU_IQREF u) ref.2
  let d := d.modAxu u (fun a => { a with ths := th, we := a.wHat
                                         ring := match a.ring with | s :: r => { s with sd := i.1, sq := i.2.1 } :: r | [] => [] })
  if !d.isSet (AXU_STAT u) AXU_STAT_ENABLED then d
  else if !d.vdcOk u || !(iphs.all (fun x => x.all fFinite)) || !([i.1, i.2.1, i.2.2.1, i.2.2.2].all fFinite) then d.axuNonfinite u f
  else
    let d := d.modAxu u (fun a => { a with prev := some i })
    if d.axuPhase u = phPolarity then d.polarityCommit u f
    else d.deliverWords f (d.axuWords u ref i)

/-- Does the position step of a function held after a loss still receive feedback (R222)? -/
def Dev.heldMeasure (d : Dev) (u : Nat) : Bool :=
  !d.isSet (AXU_STAT u) AXU_STAT_ENABLED && (d.axuPhase u = phMeasure || d.axuPhase u = phMeasAsc)

/-- A forward pass of unit `u` of function `f`: flags, stamps, currents, the position step and what is delivered. -/
def Dev.forwardRun (u f : Nat) (d : Dev) : Dev :=
  let units := d.setUnits u
  let sub := units.any d.currentsBad
  let clear := fun (x : Nat) (d : Dev) =>
    let d := ((d.setF (AXU_STAT x) AXU_STAT_SAT 0).setF (AXU_STAT x) AXU_STAT_SUBST 0).setF (AXU_STAT x) AXU_STAT_HELD 0
    (d.setF (AXU_STAT x) AXU_STAT_NONFIN 0).modAxu x (fun a => { a with fwdDone := true })
  let d := d.forEach units clear
  let ts := match (d.senseRoles u).head? with
    | some r => (match d.roleRes u r with | some x => x.stamp | none => d.now)
    | none => d.now
  let sat := fun (x : Nat) (d : Dev) =>
    if (d.senseRoles x).any (fun r => match d.roleRes x r with | some y => y.word.bit 17 | none => false) then
      (d.setF (AXU_STAT x) AXU_STAT_SAT 1).setF (AXU_FLT x) AXU_FLT_SAT 1
    else d
  let d := d.forEach units (fun x d => ((sat x d).wr64 (AXU_STAMP_LO x) (AXU_STAMP_HI x) ts).modAxu x (fun a => { a with ts := ts }))
  let d := d.takeVdc u
  let d := if sub then d.substituted u f else (d.setF (AXU_STAT u) AXU_STAT_SUBCNT 0).forEach units (fun x d => d.zeroSum x f)
  let prev := (d.axu u).prev.getD (f0, f0, f0, f0)
  let iphs := units.map d.phaseCurrents
  let sets := iphs.map clarke
  let on := d.isSet (AXU_STAT u) AXU_STAT_ENABLED
  let d := d.positionStep u f (d.fnPer f) sets sub ts
  if on && !d.isSet (AXU_STAT u) AXU_STAT_ENABLED then d
  else d.forwardDeliver u f sets iphs sub prev

/-- May the forward pass of unit `u` of function `f` run: all currents of the period have arrived, and it has not run? -/
def Dev.forwardDue (d : Dev) (u f : Nat) : Bool :=
  decide ((d.funcD f).axuA = some u) && (d.isSet (AXU_STAT u) AXU_STAT_ENABLED || d.heldMeasure u) && !(d.axu u).fwdDone &&
    (d.setUnits u).all d.currentsFresh

/-- The forward pass of unit `u` (R182). The odd unit of a six-phase pair has none of its own (R193). -/
def Dev.forwardPass (u : Nat) (d : Dev) : Dev :=
  match d.axuOwner u with
  | none => d
  | some f => d.when (d.forwardDue u f) (fun d => d.forwardRun u f)

/-- The inverse stage of unit `u` on the latest agreed delivery (R189). -/
def Dev.inverseStage (u : Nat) (d : Dev) : Dev :=
  match d.axuOwner u with
  | none => d
  | some f =>
    let a := d.axu u
    if !a.invDue || !d.isSet (AXU_STAT u) AXU_STAT_ENABLED then d
    else
      let d := d.modAxu u (fun a => { a with invDue := false })
      if d.axuPhase u = phPolarity then d
      else d.inverse u f (a.agreed.getD 0 f0) (a.agreed.getD 1 f0) (a.agreed.getD 2 f0) (a.agreed.getD 3 f0) false

/-- A leg period boundary reaches the units of function `f`: a set still due is late (R195), a period without a complete
set is substituted (R183), the loaded voltages are those of the set committed last (R207). -/
def Dev.axuBoundary (f : Nat) (d : Dev) : Dev :=
  let d := d.whenSome (d.funcD f).axuA (fun u d =>
    let a := d.axu u
    let on := d.isSet (AXU_STAT u) AXU_STAT_ENABLED
    let d := d.when (on && a.invDue && !a.committed && d.axuPhase u ≠ phPolarity) (fun d => d.axuLate u)
    d.when (on && a.began && !a.fwdDone) (fun d => d.substituted u f))
  d.forEach (d.fnAxus f) (fun u d => d.modAxu u (fun a =>
    { a with bound := d.now, began := d.isSet (AXU_STAT u) AXU_STAT_ENABLED, fwdDone := false, committed := false, invDue := false
             vLoaded := if a.committed then a.vSet else a.vLoaded, nLoaded := if a.committed then a.nSet else a.nLoaded
             res := a.res.map (fun p => (p.1, { p.2 with fresh := decide (d.now.toNat ≤ p.2.stamp.toNat) })) }))

/-- The function of a unit, where the unit is its first. -/
def Dev.withUnit (u : Nat) (op : Nat → Dev → Dev) (d : Dev) : Dev :=
  match d.axuOwner u with
  | some f => if (d.funcD f).axuA = some u then op f d else d
  | none => d

/-! ## Meanings -/

/-- AXU_FORWARD_PASS (R182): Once every current role has delivered for the period, the unit transforms, steps position and delivers producer words. -/
def execAxuForwardPass (t : Time) (u : Fin 16) (s : State) : Host.Outcome State Fault Refusal :=
  s.on t (fun d => d.forwardPass u)

/-- AXU_INVERSE_STAGE (R189): An agreed engine delivery drives the limit, modulation, compensation and window rule to new leg values. -/
def execAxuInverseStage (t : Time) (u : Fin 16) (s : State) : Host.Outcome State Fault Refusal :=
  s.on t (fun d => d.inverseStage u)

/-- MEASURE_DONE (R213): After MEASN periods the terminal-voltage fit gives θ and ω, and the unit catches, converges, tracks or refuses the start. -/
def execMeasureDone (t : Time) (u : Fin 16) (s : State) : Host.Outcome State Fault Refusal :=
  s.on t (fun d => d.withUnit u (fun f d => d.measureDone u f (d.fnPer f)))

/-- POLARITY_TEST_DONE (R216): At the end of a 4 × POLN period test, the polarity is decided, the test repeats, or the attempt fails. -/
def execPolarityTestDone (t : Time) (u : Fin 16) (s : State) : Host.Outcome State Fault Refusal :=
  s.on t (fun d => d.withUnit u (fun f d => d.polarityDone u f))

/-- REACQUIRE_ATTEMPT (R220): RETRYDLY ms after a loss or failure, a reacquisition attempt begins through MEASURE_ASC or MEASURE. -/
def execReacquireAttempt (t : Time) (u : Fin 16) (s : State) : Host.Outcome State Fault Refusal :=
  s.on t (fun d => d.withUnit u (fun f d => d.reacquire u f))

/-- TRACK_SECOND (R220): One second in TRACK clears TRIES. -/
def execTrackSecond (t : Time) (u : Fin 16) (s : State) : Host.Outcome State Fault Refusal :=
  s.on t (fun d => d.trackSecond u)

/-- HALL_EDGE (R209): A filtered Hall edge sets the sensor angle to the sector boundary and updates the Hall speed. -/
def execHallEdge (t : Time) (u : Fin 16) (n : Fin 24) (s : State) : Host.Outcome State Fault Refusal :=
  s.on t (fun d => d.hallEdge u n)

/-- HALL_TIMEOUT (R209): No Hall edge within twice the last interval or 100 ms sets the Hall speed to 0 and the angle to the sector centre. -/
def execHallTimeout (t : Time) (u : Fin 16) (s : State) : Host.Outcome State Fault Refusal :=
  s.on t (fun d => d.hallTimeout u)

end Sys2Proof.Machine
end

