-- ==== Sys2Proof/Machine/Cvu.lean ====
section
/-! DEFINITION. Converter units (chapter 10, R232–R244): inputs, the grid PLL, producer words, interleaved, DAB and PFC
sets, phase management, current mode, parking, holding. -/

namespace Sys2Proof.Machine

/-! ## Inputs (R233, R244) -/

abbrev kDcdc : Nat := 3
abbrev kPfc : Nat := 4
abbrev kDab : Nat := 5
abbrev kSolar : Nat := 6

def Dev.cvuKind (d : Dev) (u : Nat) : Nat := d.fld (CVU_CFG u) CVU_CFG_KIND
def Dev.cvuNleg (d : Dev) (u : Nat) : Nat := d.fld (CVU_CFG u) CVU_CFG_NLEG
def Dev.cvuOn (d : Dev) (u : Nat) : Bool := d.isSet (CVU_STAT u) CVU_STAT_ENABLED

/-- The current roles that a kind requires (Table CVU-1). -/
def Dev.cvuCurrentRoles (d : Dev) (u : Nat) : List Nat :=
  let k := d.cvuKind u
  if k = kPfc then [0, 1] else if k = kDab then [0] else List.range (d.cvuNleg u)

/-- The other roles that a kind requires. -/
def Dev.cvuOtherRoles (d : Dev) (u : Nat) : List Nat :=
  let k := d.cvuKind u
  (if k = kSolar ∨ k = kDab then [8] else []) ++ [9] ++ (if k = kDcdc ∨ k = kDab then [10] else []) ++
    (if k = kPfc then [11, 12, 13] else [])

/-- The input that holds a role. -/
def Dev.cvuInput (d : Dev) (u role : Nat) : Option Nat :=
  (List.range 16).find? (fun k => d.isSet (CVU_IN u k) CVU_IN_EN && d.fld (CVU_IN u k) CVU_IN_ROLE = role)

def Dev.cvuRes (d : Dev) (u role : Nat) : Option InRes :=
  match d.cvuInput u role with
  | some k => if Tab.has (d.cvu u).res k then some (Tab.getD default (d.cvu u).res k) else none
  | none => none

/-- A result that a required input does not use: FAIL, or SETTLE without SETUSE (R244). -/
def Dev.cvuUnusable (d : Dev) (u : Nat) (r : InRes) : Bool :=
  r.word.bit 20 || (r.word.bit 16 && !d.isSet (CVU_CFG u) CVU_CFG_SETUSE)

/-- The value of a result at input `k` (R181). -/
def Dev.cvuScaled (d : Dev) (u k : Nat) (r : InRes) : W :=
  let data : Int := if r.word.bit 18 || r.word.fld ⟨24, 4⟩ = 0xF then signedOf 16 r.word.toNat else resultData r.word
  fMul (fSub (fOfInt data) (d.rd (CVU_OFS u k))) (d.rd (CVU_GAIN u k))

/-- The value of a role for this pass; a required input without a usable result keeps its previous one. -/
def Dev.cvuTake (d : Dev) (u role : Nat) : W :=
  let prev := Tab.getD f0 (d.cvu u).vals role
  match d.cvuInput u role, d.cvuRes u role with
  | some k, some r =>
    if (d.cvuCurrentRoles u ++ d.cvuOtherRoles u).contains role && d.cvuUnusable u r then prev else d.cvuScaled u k r
  | _, _ => prev

/-- Are the required currents and VOUT of the present period in (R182, R242)? -/
def Dev.cvuFresh (d : Dev) (u : Nat) : Bool :=
  (d.cvuCurrentRoles u ++ [9]).all (fun r => match d.cvuRes u r with | some x => x.fresh | none => false)

/-- Required inputs whose results call for substitution. -/
def Dev.cvuFailing (d : Dev) (u : Nat) : List Nat :=
  (d.cvuCurrentRoles u ++ d.cvuOtherRoles u).filter (fun r => match d.cvuRes u r with | some x => d.cvuUnusable u x | none => false)

/-- The value of a role as used: VBAT reads as VOUT and IBAT as IOUT where they are not mapped, any other role 0.0. -/
def Dev.cvuVal (d : Dev) (u role : Nat) : W :=
  let v := fun (r : Nat) => Tab.getD f0 (d.cvu u).vals r
  match d.cvuInput u role with
  | some _ => v role
  | none => if role = 14 then v 9 else if role = 15 then v 10 else f0

/-! ## Slots, parking, charge channels -/

/-- The slot of kind 0x6 that names the unit (R243). -/
def Dev.cvuSlot (d : Dev) (u : Nat) : Option Nat :=
  (List.range 64).find? (fun n =>
    let t := d.rd (TKP_SLOT_TGT n)
    (t.fld TKP_SLOT_TGT_TGTA_KIND = 6 && t.fld TKP_SLOT_TGT_TGTA_IDX = u) || (t.fld TKP_SLOT_TGT_TGTB_KIND = 6 && t.fld TKP_SLOT_TGT_TGTB_IDX = u))

/-- The period of the unit's loop, fine ticks. -/
def Dev.cvuLoopPer (d : Dev) (u f : Nat) : Nat :=
  match d.cvuSlot u with
  | some n => (d.rd (TKP_SLOT_PER n)).toNat
  | none => d.fnPer f

/-- Does a loop period begin now (R243)? -/
def Dev.cvuLoopStarts (d : Dev) (u : Nat) : Bool :=
  match d.cvuSlot u with
  | none => true
  | some n =>
    let t0 := d.epoch.toNat + (d.rd (TKP_SLOT_PHS n)).toNat
    let per := (d.rd (TKP_SLOT_PER n)).toNat
    decide (t0 ≤ d.now.toNat ∧ 0 < per ∧ (d.now.toNat - t0) % per = 0)

def Dev.chgOn (d : Dev) (c : Nat) : Bool := d.isSet (CHG_CFG c) CHG_CFG_EN
def Dev.chgPhase (d : Dev) (c : Nat) : Nat := d.fld (CHG_STAT c) CHG_STAT_PHASE
def Dev.chg (d : Dev) (c : Nat) : Chg := Tab.getD default d.chgs c
def Dev.modChg (c : Nat) (g : Chg → Chg) (d : Dev) : Dev := { d with chgs := Tab.set c (g (d.chg c)) d.chgs }
def Dev.chgFn (d : Dev) (c : Nat) : Nat := d.fld (CHG_CFG c) CHG_CFG_FN
def Dev.chgAc (d : Dev) (c : Nat) : Nat := d.fld (CHG_CFG c) CHG_CFG_ACFN
def Dev.chgSol (d : Dev) (c : Nat) : Nat := d.fld (CHG_CFG c) CHG_CFG_SOLFN
def Dev.chgHasAc (d : Dev) (c : Nat) : Bool := (d.fld (CHG_CFG c) CHG_CFG_SRC).testBit 0
def Dev.chgHasSol (d : Dev) (c : Nat) : Bool := (d.fld (CHG_CFG c) CHG_CFG_SRC).testBit 1

/-- Does a channel name function `f`, as its stage, front end or solar stage? -/
def Dev.chgNames (d : Dev) (c f : Nat) : Bool :=
  d.chgOn c && (d.chgFn c = f || (d.chgHasAc c && d.chgAc c = f) || (d.chgHasSol c && d.chgSol c = f))

/-- Is the stage of function `f` parked by channel `c` (Table CHG-1, R252, R253)? Stages of a source that does not qualify
stay parked, but for the ramp of a hand-over. -/
def Dev.chgParksBy (d : Dev) (c f : Nat) : Bool :=
  let ph := d.chgPhase c
  let idle := [0, 1, 8, 9].contains ph || (ph = 6 && !d.isSet (CHG_CFG c) CHG_CFG_PATH)
  let ramping := (d.chg c).hoStages.contains f
  let srcq := d.isSet (CHG_STAT c) CHG_STAT_SRCQ
  let solq := d.isSet (CHG_STAT c) CHG_STAT_SOLQ
  d.chgOn c && !ramping &&
    ((d.chgFn c = f && (idle || !srcq)) || (d.chgHasAc c && d.chgAc c = f && !srcq) ||
      (d.chgHasSol c && d.chgSol c = f && (idle || !solq)))

def Dev.chgParks (d : Dev) (f : Nat) : Bool := [0, 1].any (fun c => d.chgParksBy c f)

/-- Is position `p` parked (R236, R237, R241)? -/
def Dev.cvuParked (d : Dev) (u f p : Nat) : Bool :=
  (d.cvu u).parkGrid || d.chgParks f || ((d.cvuKind u = kDcdc || d.cvuKind u = kSolar) && d.fld (CVU_STAT u) CVU_STAT_NACT ≤ p)

/-- The whole stage is parked at the next boundary. -/
def Dev.parkStage (f : Nat) (d : Dev) : Dev :=
  d.forEach (d.liveLegs f) (fun n d => if d.enabled f then d.modLeg n (fun l => { l with fresh := true, parkSet := true }) else d)

/-! ## Words 13–15 (R234, R246, R253, R254) -/

/-- The factor of a hand-over ramp: from 1 to 0 over its time. -/
def Dev.rampFactor (d : Dev) (u : Nat) : W :=
  match (d.cvu u).ramp with
  | none => f1
  | some (t, ms) => fOfRatio ((ms * msTicks : Nat) - min (ms * msTicks) (d.since t) : Nat) (max 1 (ms * msTicks))

/-- I_lim: CVU_ILIM × k, with the ramp of a hand-over. -/
def Dev.cvuLimit (d : Dev) (u f : Nat) : W :=
  let l := fMul (d.rd (CVU_ILIM u)) (d.rd (THM_K f))
  if (d.cvu u).ramp.isSome then fMul l (d.rampFactor u) else l

/-- V_set and I_set of a unit. -/
def Dev.cvuSet (d : Dev) (u f : Nat) : W × W :=
  if [0, 1].any (fun c => d.chgOn c && (d.chgFn c = f || (d.chgHasSol c && d.chgSol c = f))) then ((d.cvu u).chgV, (d.cvu u).chgI)
  else (BitVec.ofNat 32 (d.sigVal (d.fld (CVU_SETSIG u) CVU_SETSIG_VSIG)), BitVec.ofNat 32 (d.sigVal (d.fld (CVU_SETSIG u) CVU_SETSIG_ISIG)))

/-! ## The forward pass -/

/-- 2π as the nearest binary32 value. -/
def fTwoPi : W := fRoundI false rad40 (-40)

/-- v_gα and v_gβ. -/
def Dev.gridVec (d : Dev) (u : Nat) : W × W := clarke [d.cvuVal u 11, d.cvuVal u 12, d.cvuVal u 13]

/-- A period of the grid PLL and of its lock (R241). -/
def Dev.gridPll (u f : Nat) (ts : Time) (d : Dev) : Dev :=
  let g := d.gridVec u
  let th := d.rd (CVU_GTH u)
  let e := fDiv (unrotate g.1 g.2 th).2 (fMaxN (fLen g.1 g.2) f1)
  let t := ticksSec (d.cvuLoopPer u f)
  let w := fAdd (d.rd (CVU_GW u)) (fMul (fMul (d.rd (CVU_GKI u)) t) e)
  let d := (d.wr (CVU_GW u) w).wr (CVU_GTH u) (th + radToAngle (fMul t (fAdd w (fMul (d.rd (CVU_GKP u)) e))))
  let w0 := fMul fTwoPi (d.rd (CVU_FNOM u))
  let near := fLt (fAbs e) (fC 5 100) && fLt (fAbs (fSub w w0)) (fMul (fC 1 10) w0)
  let c := d.cvu u
  let d := d.modCvu u (fun c => { c with lockRun := if near then c.lockRun + 1 else 0
                                         badSince := if fGt (fAbs e) (fC 2 10) then some (c.badSince.getD ts) else none })
  if near && 20 ≤ c.lockRun + 1 && !d.isSet (CVU_STAT u) CVU_STAT_PLLOCK then
    (d.setF (CVU_STAT u) CVU_STAT_PLLOCK 1).modCvu u (fun c => { c with relockAt := some d.now })
  else d

/-- i_d and i_q in the grid frame, positive into the converter (Table CVU-2). -/
def Dev.gridCurrents (d : Dev) (u : Nat) : W × W :=
  let a := d.cvuVal u 0
  let b := d.cvuVal u 1
  let c := if (d.cvuInput u 2).isSome then d.cvuVal u 2 else fNeg (fAdd a b)
  let i := clarke [fNeg a, fNeg b, fNeg c]
  unrotate i.1 i.2 (d.rd (CVU_GTH u))

/-- The producer words (Table CVU-2). -/
def Dev.cvuWords (d : Dev) (u f : Nat) : List W :=
  let first := if d.cvuKind u = kPfc then
      let i := d.gridCurrents u
      let g := d.gridVec u
      [i.1, i.2, d.rd (CVU_GW u), fLen g.1 g.2, f0, f0, f0, f0]
    else (List.range 8).map (d.cvuVal u)
  let set := d.cvuSet u f
  first ++ [d.cvuVal u 8, d.cvuVal u 9, d.cvuVal u 10, d.cvuVal u 14, d.cvuVal u 15, set.1, set.2, d.cvuLimit u f]

/-- The observed values of a pass, and the sample it leaves for the charge step. -/
def Dev.cvuObserve (u : Nat) (ws : List W) (d : Dev) : Dev :=
  let w := fun (k : Nat) => ws.getD k f0
  let pfc := d.cvuKind u = kPfc
  let il := fun (p : Nat) => if p = 2 && pfc && (d.cvuInput u 2).isNone then fNeg (fAdd (d.cvuVal u 0) (d.cvuVal u 1)) else d.cvuVal u p
  let d := ((((d.wr (CVU_VIN u) (w 8)).wr (CVU_VOUT u) (w 9)).wr (CVU_IOUT u) (w 10)).wr (CVU_VBAT u) (w 11)).wr (CVU_IBAT u) (w 12)
  let d := ((d.wr (CVU_VSET u) (w 13)).wr (CVU_ISET u) (w 14)).wr (CVU_ILIMV u) (w 15)
  let d := d.forEach (List.range 8) (fun p d => d.wr (CVU_IL u p) (il p))
  let d := d.setF (CVU_STAT u) CVU_STAT_ILIM (b2n (fLt (w 15) (d.rd (CVU_ILIM u))))
  let sumIl := ((List.range (d.cvuNleg u)).map il).foldl fAdd f0
  let s : CvuSample := ⟨d.now, w 11, w 12, w 8, w 9, w 10, sumIl, if pfc then w 3 else f0, if pfc then w 0 else f0⟩
  let d := d.modCvu u (fun c => { c with samples := s :: c.samples.filter (fun x => decide (d.since x.at_ < msTicks)) })
  d.forEach [0, 1] (fun c d =>
    if d.chgOn c && d.chgHasSol c && (d.funcD (d.chgSol c)).cvu = some u then
      d.modChg c (fun x => { x with pSum := fAdd x.pSum (fMul s.vin sumIl), pN := x.pN + 1 })
    else d)

/-- A period with a substituted input is counted (R244). -/
def Dev.cvuSubstituted (u f : Nat) (roles : List Nat) (d : Dev) : Dev :=
  let srcs := roles.filterMap (fun r => match d.cvuInput u r with
    | some k => let w := d.rd (CVU_IN u k)
                if w.fld CVU_IN_KIND = 0 then some (w.fld CVU_IN_SRC, w.fld CVU_IN_STEP) else none
    | none => none)
  let d := ((d.setF (CVU_STAT u) CVU_STAT_SUBST 1).setF (CVU_FLT u) CVU_FLT_SUBST 1).incSat (CVU_CNT u) CVU_CNT_SUBS
  let d := (d.incSat (CVU_STAT u) CVU_STAT_SUBCNT).evtRated EV_CVU_SUBSTITUTED u [u]
  if d.fld (CVU_STAT u) CVU_STAT_SUBCNT = d.fld (CVU_CFG u) CVU_CFG_SUBMAX then
    (d.setF (CVU_FLT u) CVU_FLT_FBLOST 1).feedbackLost f EV_CVU_FEEDBACK_LOST srcs [u]
  else d

/-- A forward pass of unit `u` of function `f`: inputs taken, the grid loop, the words delivered. -/
def Dev.cvuForwardRun (u f : Nat) (d : Dev) : Dev :=
  let failing := d.cvuFailing u
  let ts := match d.cvuRes u ((d.cvuCurrentRoles u).headD 9) with | some x => x.stamp | none => d.now
  let d := ((d.setF (CVU_STAT u) CVU_STAT_SUBST 0).setF (CVU_STAT u) CVU_STAT_HELD 0).wr64 (CVU_STAMP_LO u) (CVU_STAMP_HI u) ts
  let d := d.when ((List.range 16).any (fun r => match d.cvuRes u r with | some x => x.word.bit 17 | none => false))
    (fun d => d.setF (CVU_FLT u) CVU_FLT_SAT 1)
  let vals := (List.range 16).foldl (fun t r => Tab.set r (d.cvuTake u r) t) []
  let d := d.modCvu u (fun c => { c with fwdDone := true, ts := ts, vals := vals })
  let d := if failing.isEmpty then d.setF (CVU_STAT u) CVU_STAT_SUBCNT 0 else d.cvuSubstituted u f failing
  let d := if d.cvuKind u = kPfc then d.gridPll u f ts else d
  let ws := d.cvuWords u f
  let d := d.cvuObserve u ws
  let act := (List.range (d.fld (CVU_STAT u) CVU_STAT_NACT)).map (fun p => d.rd (CVU_IL u p))
  let d := d.modCvu u (fun c => { c with itotSum := fAdd c.itotSum (act.foldl fAdd f0), itotN := c.itotN + 1 })
  if d.cvuOn u then d.deliverWords f ws else d

/-- The forward pass of a converter unit (R234, R242, R243). -/
def Dev.cvuForward (u : Nat) (d : Dev) : Dev :=
  match d.cvuOwner u with
  | none => d
  | some f =>
    if !d.cvuOn u || (d.cvu u).fwdDone || !(d.cvu u).loopNow || !d.cvuFresh u then d else d.cvuForwardRun u f

/-! ## The inverse stage -/

/-- A set that came too late (R244). -/
def Dev.cvuLate (u : Nat) (d : Dev) : Dev :=
  (((d.setF (CVU_STAT u) CVU_STAT_LATE 1).setF (CVU_FLT u) CVU_FLT_LATE 1).incSat (CVU_CNT u) CVU_CNT_LATES).evtRated EV_CVU_LATE_SET u [u]

def Dev.cvuNonfinite (u f : Nat) (d : Dev) : Dev :=
  ((d.setF (CVU_FLT u) CVU_FLT_NONFIN 1).evt EV_CVU_NONFINITE [u]).gafferSafe f EV_CVU_NONFINITE

/-- The nearest integer to a ratio, ties to even. -/
def nearRatio (n d : Nat) : Nat :=
  let q := n / d
  let r := n % d
  if 2 * r < d then q else if d < 2 * r then q + 1 else if q % 2 = 0 then q else q + 1

/-- The phase of position `p` of `n` (R235). -/
def Dev.cvuPhi (d : Dev) (u p n per : Nat) : Nat :=
  (((nearRatio (p * per) (max 1 n) : Int) + (d.rd (CVU_PHTRIM u p)).toInt) % (max 1 per : Nat)).toNat

/-- round(x × PER). -/
def roundPer (x : W) (per : Nat) : Int := fNearMul (fMul x (fOfNat per)) 1

/-- A trim and the command added to it: w0 + w(8 + p). -/
def Dev.cvuCmd (d : Dev) (u p : Nat) : W := fAdd (Tab.getD f0 (d.cvu u).words 0) (Tab.getD f0 (d.cvu u).words (8 + p))

/-- SHA and SHB of position `p` of an interleaved stage (R235). -/
def Dev.interleave (d : Dev) (u p per : Nat) : Nat × Nat :=
  let phi := d.cvuPhi u p (d.fld (CVU_STAT u) CVU_STAT_NACT) per
  let dmax := d.rd (CVU_DMAX u)
  let t := if d.fld (CVU_CFG u) CVU_CFG_CM = 0 then roundPer (fClamp (d.rd (CVU_DMIN u)) dmax (d.cvuCmd u p)) per else roundPer dmax per
  (phi, (phi + t.toNat) % max 1 per)

/-- SHA and SHB of position `p` of a dual-active bridge (R240). -/
def Dev.bridge (d : Dev) (u p per : Nat) : Nat × Nat :=
  let m := d.rd (CVU_DABMAX u)
  let dd := fClamp (fNeg m) m (Tab.getD f0 (d.cvu u).words 0)
  let d1 := fClamp f0 0x3F000000#32 (Tab.getD f0 (d.cvu u).words 1)
  let h := per / 2
  let s := roundPer dd h
  let si := roundPer d1 h
  let md := fun (x : Int) => (x % (max 1 per : Nat)).toNat
  match p with
  | 0 => (0, h)
  | 1 => (((h : Int) - si).toNat, md ((per : Int) - si))
  | 2 => (md s, md (s + h))
  | _ => (md (s + h), md s)

/-- SHA and SHB of the three phases of a PFC stage, and whether a value was not finite (R241). -/
def Dev.pfcSet (d : Dev) (u per : Nat) : List (Nat × Nat) × Bool :=
  let c := d.cvu u
  let vdc := d.cvuVal u 9
  let w := d.rd (CVU_GW u)
  let ahead : Int := (c.bound.toNat : Int) + per - c.ts.toNat + per / 2
  let thm := d.rd (CVU_GTH u) + turnIn w ahead
  let l := limitVec 0 (fMul (d.rd (CVU_MLIM u)) (vlin 2 vdc)) (Tab.getD f0 c.words 0) (Tab.getD f0 c.words 1)
  let v := rotate l.1 l.2.1 thm
  let v0 := zeroSeq 2 v.1 v.2
  let duties := (phases v.1 v.2).map (fun x => fAdd 0x3F000000#32 (fDiv (fAdd x v0) vdc))
  (duties.map (fun x =>
    let t := (roundPer (fClamp f0 f1 x) per).toNat
    ((per - t) / 2, (per - t) / 2 + t)), !(fFinite w && duties.all fFinite))

/-- The reference current of position `p` (R238). -/
def Dev.cvuRef (d : Dev) (u p : Nat) : W :=
  let l := d.rd (CVU_ILIMV u)
  fClamp (fNeg l) l (d.cvuCmd u p)

/-- The values that the inverse stage uses. -/
def Dev.cvuUses (d : Dev) (u : Nat) : List W :=
  let k := d.cvuKind u
  let w := fun (i : Nat) => Tab.getD f0 (d.cvu u).words i
  if k = kPfc ∨ k = kDab then [w 0, w 1]
  else
    let n := d.fld (CVU_STAT u) CVU_STAT_NACT
    [w 0] ++ (List.range n).map (fun p => w (8 + p)) ++ (List.range n).map (d.cvuCmd u) ++
      (if d.fld (CVU_CFG u) CVU_CFG_CM = 0 then [] else (List.range n).map (d.cvuRef u))

/-- The sets of one period are committed for every leg of function `f` of unit `u` (R235, R238, R240, R241). -/
def Dev.cvuCommit (u f : Nat) (d : Dev) : Dev :=
  let per := d.fnPer f
  let k := d.cvuKind u
  let pfc := d.pfcSet u per
  let cm := d.fld (CVU_CFG u) CVU_CFG_CM
  let d := ((d.fnLegs f).zipIdx).foldl (fun d q =>
    let p := q.2
    if d.cvuParked u f p then d.commitLeg q.1 0 0 0 true
    else
      let s := if k = kPfc then pfc.1.getD p (0, 0) else if k = kDab then d.bridge u p per else d.interleave u p per
      let d := d.when (cm ≠ 0) (fun d => d.modCvu u (fun c => { c with iref := Tab.set p (d.cvuRef u p) c.iref }))
      d.commitLeg q.1 s.1 s.2 0 false) d
  (d.setF (CVU_STAT u) CVU_STAT_LATE 0).modCvu u (fun c => { c with committed := true })

/-- Does a value that the inverse stage needs fail to be finite, or the output voltage to be above 1 V (R244)? -/
def Dev.cvuUnfit (d : Dev) (u f : Nat) : Bool :=
  let vout := d.cvuVal u 9
  !((d.cvuUses u).all fFinite) || !fFinite vout || !fGt vout f1 || (d.cvuKind u = kPfc && (d.pfcSet u (d.fnPer f)).2)

/-- The delivery of unit `u` is taken: its command words are shown. -/
def Dev.cvuTaken (u : Nat) (d : Dev) : Dev :=
  let c := d.cvu u
  let d := d.modCvu u (fun c => { c with invDue := false })
  (d.wr (CVU_CMD0 u) (Tab.getD f0 c.words 0)).wr (CVU_CMD1 u) (Tab.getD f0 c.words 1)

/-- The inverse stage of a converter unit on the latest agreed delivery (R235, R236, R238, R240, R241, R244). -/
def Dev.cvuInverse (u : Nat) (d : Dev) : Dev :=
  match d.cvuOwner u with
  | none => d
  | some f =>
    if !(d.cvu u).invDue || !d.cvuOn u then d
    else
      let d := d.cvuTaken u
      let c := d.cvu u
      if c.committed then d
      else if c.ts.toNat < c.bound.toNat then d.cvuLate u
      else if d.cvuUnfit u f then d.cvuNonfinite u f
      else d.cvuCommit u f

/-! ## Phase management (R237) -/

/-- The mean total current of the interval; with no sample in it the value is left open. -/
def Dev.phaseMean (d : Dev) (u : Nat) : W × Dev :=
  let c := d.cvu u
  if c.itotN = 0 then d.ask 24 else (fDiv c.itotSum (fOfNat c.itotN), d)

/-- The phases that are active after an interval of mean current `m`. -/
def Dev.phaseCount (d : Dev) (u : Nat) (m : W) : Nat :=
  let n := d.fld (CVU_STAT u) CVU_STAT_NACT
  let each := fDiv m (fOfNat n)
  if fLt each (d.rd (CVU_PHDN u)) && d.fld (CVU_PHM u) CVU_PHM_NMIN < n then n - 1
  else if fGt each (d.rd (CVU_PHUP u)) && n < d.cvuNleg u then n + 1 else n

/-- The next interval of unit `u` begins. -/
def Dev.phaseRestart (u : Nat) (d : Dev) : Dev :=
  d.modCvu u (fun c => { c with itotSum := f0, itotN := 0
                                phaseEnd := c.phaseEnd + BitVec.ofNat 64 (d.fld (CVU_PHM u) CVU_PHM_PHDLY * msTicks) })

/-- The end of a PHDLY interval. -/
def Dev.phaseDecision (u : Nat) (d : Dev) : Dev :=
  if !d.cvuOn u || !d.isSet (CVU_CFG u) CVU_CFG_PHMEN || d.now.toNat < (d.cvu u).phaseEnd.toNat then d
  else
    let m := d.phaseMean u
    let n := d.phaseCount u m.1
    let e := m.2.phaseRestart u
    if n = d.fld (CVU_STAT u) CVU_STAT_NACT then e
    else ((e.setF (CVU_STAT u) CVU_STAT_NACT n).incSat (CVU_CNT u) CVU_CNT_PHCHG).evt EV_CVU_PHASE_CHANGE [u]

/-! ## Current mode (R238) -/

/-- The code that a rise loads for a reference current. -/
def Dev.senseCode (d : Dev) (u : Nat) (i : W) : Nat :=
  let x := fDiv (fMul (fAdd (d.rd (CVU_SOFS u)) (fMul (d.rd (CVU_SGAIN u)) i)) (fOfNat 1024)) (fC 3 1)
  (clampI 0 1023 (fNearMul x 1)).toNat

/-- The code driven at an instant `ticks` after the rise that loaded `k`: the slope compensation. One REF cycle is 160 fine
ticks. -/
def Dev.slopedCode (d : Dev) (u k ticks : Nat) : Nat :=
  let step := d.fld (CVU_CMCFG u) CVU_CMCFG_SLPSTEP * 160
  let m : Int := if step = 0 then 0 else (ticks / step * d.fld (CVU_CMCFG u) CVU_CMCFG_SLOPE : Nat)
  (clampI 0 1023 (if d.fld (CVU_CFG u) CVU_CFG_CM = 2 then (k : Int) + m else (k : Int) - m)).toNat

/-- The rise of the pulse of leg `n` that is or was last in progress, for a unit whose present period began at `b`. -/
def Dev.cmRise (d : Dev) (n : Nat) (b per : Nat) : Nat :=
  let sha := (d.rd (LEG_ACTA n)).toNat
  if b + sha ≤ d.now.toNat then b + sha else b + sha - per

/-- A list of on-intervals cut off at `x`. -/
def cutAt (x : Nat) (xs : List (Nat × Nat)) : List (Nat × Nat) :=
  (xs.filter (fun p => p.1 < x)).map (fun p => (p.1, min p.2 x))

/-- May the comparator end the pulse of position `p`, in progress on leg `n` (R238)? -/
def Dev.cmMayEnd (d : Dev) (u p n per : Nat) : Bool :=
  let c := d.cvu u
  let rise := d.cmRise n c.bound.toNat per
  let width := upperInterval 2 per (d.rd (LEG_ACTA n)).toNat (d.rd (LEG_ACTB n)).toNat 0 0
  let blank := d.fld (CVU_CMCFG u) CVU_CMCFG_BLANK * 160
  !(d.fld (CVU_CFG u) CVU_CFG_CM = 0 || !((d.senseWins u).any (fun q => q.1 = p)) || d.legDrive n ≠ .computed ||
    d.now.toNat - rise < blank || width.2.1 ≤ d.now.toNat - rise || c.cmEnds.contains (p, BitVec.ofNat 64 rise))

/-- The pulse of leg `n` at position `p` ends now: GH is off from now on, and GL follows under R76. -/
def Dev.cmCut (u p n per : Nat) (d : Dev) : Dev :=
  let c := d.cvu u
  let b := c.bound.toNat
  let x := d.now.toNat - b
  let rise := d.cmRise n b per
  let width := upperInterval 2 per (d.rd (LEG_ACTA n)).toNat (d.rd (LEG_ACTB n)).toNat 0 0
  let l := d.legOf n
  let dt := d.fld (LEG_DT n) LEG_DT_DT
  let later := fun (xs : List (Nat × Nat)) => xs.filter (fun q => decide (x < q.1))
  -- where the pulse would have gone on past the boundary, nothing of it is left in this period
  let ends := rise + width.2.1 - b
  let gh := cutAt x l.gh ++ (if ends < per then later l.gh else [])
  let gl := (l.gl.filter (fun q => decide (q.1 < x))) ++
    (if per ≤ ends then (if x + dt < per then [(x + dt, per)] else [])
     else (later l.gl).zipIdx.map (fun q => if q.2 = 0 then (x + dt, q.1.2) else q.1))
  let d := d.modLeg n (fun l => { l with gh := gh, gl := gl, lastUpper := if per ≤ ends then false else l.lastUpper
                                         lastEdge := if per ≤ ends then per - x else l.lastEdge })
  d.modCvu u (fun c => { c with cmEnds := ((p, BitVec.ofNat 64 rise) :: c.cmEnds).take 32 })

/-- The comparator ends the pulse of position `p` (R238). -/
def Dev.cmPulseEnd (u p : Nat) (d : Dev) : Dev :=
  match d.cvuOwner u with
  | none => d
  | some f =>
    let n := (d.fnLegs f).getD p 0
    if (d.fnLegs f).length ≤ p || !d.cmMayEnd u p n (d.fnPer f) then d else d.cmCut u p n (d.fnPer f)

/-- Did a pulse of position `p` reach SHB in the period that began at `b` (R238)? -/
def Dev.cmReached (d : Dev) (u n p b per : Nat) : Bool :=
  let a := (d.rd (LEG_ACTA n)).toNat
  let e := (d.rd (LEG_ACTB n)).toNat
  let rise := if a < e then b + a else b + a - per
  (d.cvu u).cmActive.testBit p && a ≠ e && !(d.cvu u).cmEnds.contains (p, BitVec.ofNat 64 rise)

/-! ## Boundaries -/

/-- Does the boundary that comes now end a period between loop firings (R243)? -/
def Dev.cvuQuiet (d : Dev) (f : Nat) : Bool :=
  match (d.funcD f).cvu with
  | some u => (d.cvuSlot u).isSome && !(d.cvu u).loopNow
  | none => false

/-- A boundary reaches the unit of `f`, before the legs load: a set still due is late, and CMLIM tells of the period that
ends. -/
def Dev.cvuPeriodEnds (f : Nat) (d : Dev) : Dev :=
  d.whenSome (d.funcD f).cvu (fun u d =>
    let c := d.cvu u
    let d := d.when (d.cvuOn u && c.invDue && !c.committed) (fun d => d.cvuLate u)
    let d := d.modCvu u (fun c => { c with invDue := false })
    if d.fld (CVU_CFG u) CVU_CFG_CM = 0 then d
    else
      let per := d.fnPer f
      let lim := ((d.fnLegs f).zipIdx).any (fun q => d.cmReached u q.1 q.2 c.bound.toNat per)
      d.setF (CVU_STAT u) CVU_STAT_CMLIM (b2n lim))

/-- The part of a pulse that its comparator ended before the boundary is not carried into the new period. -/
def Dev.cmCarry (u p n per : Nat) (d : Dev) : Dev :=
  let a := (d.rd (LEG_ACTA n)).toNat
  let e := (d.rd (LEG_ACTB n)).toNat
  if e < a && (d.cvu u).cmEnds.contains (p, BitVec.ofNat 64 (d.now.toNat + a - per)) then
    let dt := d.fld (LEG_DT n) LEG_DT_DT
    d.modLeg n (fun l => { l with gh := l.gh.filter (fun q => decide (e < q.1)), gl := onIntervals per dt 0 false false per [(0, a, false), (a, per, true)] |>.1 })
  else d

/-- A boundary reaches the unit of `f`, after the legs have loaded: a new period begins. -/
def Dev.cvuPeriodBegins (f : Nat) (d : Dev) : Dev :=
  d.whenSome (d.funcD f).cvu (fun u d =>
    let legs := d.fnLegs f
    let per := d.fnPer f
    let cm := d.fld (CVU_CFG u) CVU_CFG_CM ≠ 0
    let active := (legs.zipIdx).foldl (fun m q => if d.legDrive q.1 = .computed then m + 2 ^ q.2 else m) 0
    let d := d.when cm (fun d => (legs.zipIdx).foldl (fun d q => d.cmCarry u q.2 q.1 per) d)
    let d := d.setF (CVU_STAT u) CVU_STAT_PARKED (b2n (d.cvuOn u && legs.any (fun n => (d.legOf n).parked)))
    let loop := d.cvuLoopStarts u
    let c := d.cvu u
    let used := if c.committed then c.iref else c.irefUsed
    let dac := if !cm then c.dac else (legs.zipIdx).foldl (fun t q =>
      if active.testBit q.2 then
        Tab.set q.2 (d.senseCode u (Tab.getD f0 used q.2), BitVec.ofNat 64 (d.now.toNat + (d.rd (LEG_ACTA q.1)).toNat)) t
      else t) c.dac
    d.modCvu u (fun c => { c with bound := d.now, fwdDone := false, committed := false, loopNow := loop, irefUsed := used, dac := dac
                                  cmActive := active
                                  res := c.res.map (fun p => (p.1, { p.2 with fresh := decide (d.now.toNat ≤ p.2.stamp.toNat) })) }))

/-! ## Grid loss (R241) -/

/-- The PLL loses lock. -/
def Dev.gridLost (u : Nat) (d : Dev) : Dev :=
  let bad := match (d.cvu u).badSince with | some t => decide (10 * msTicks ≤ d.since t) | none => false
  if d.isSet (CVU_STAT u) CVU_STAT_PLLOCK && bad then
    let d := (d.setF (CVU_STAT u) CVU_STAT_PLLOCK 0).setF (CVU_FLT u) CVU_FLT_PLLLOSS 1
    let d := (d.modCvu u (fun c => { c with lockRun := 0, relockAt := none, parkGrid := true })).evt EV_CVU_GRID_LOST [u]
    d.whenSome (d.cvuOwner u) (fun f d => d.parkStage f)
  else d

/-- A unit that no CHARGE record names unparks 100 ms after relock. -/
def Dev.gridUnpark (u : Nat) (d : Dev) : Dev :=
  match d.cvuOwner u, (d.cvu u).relockAt with
  | some f, some t =>
    if (d.cvu u).parkGrid && d.isSet (CVU_STAT u) CVU_STAT_PLLOCK && 100 * msTicks ≤ d.since t && !([0, 1].any (fun c => d.chgNames c f)) then
      d.modCvu u (fun c => { c with parkGrid := false })
    else d
  | _, _ => d

/-! ## Meanings -/

/-- CVU_FORWARD_PASS (R234): With its required inputs present, the unit scales them, runs the grid PLL and delivers producer words 0–15. -/
def execCvuForwardPass (t : Time) (u : Fin 8) (s : State) : Host.Outcome State Fault Refusal :=
  s.on t (fun d => d.cvuForward u)

/-- CVU_INVERSE_STAGE (R235): The engine command is turned into interleaved, DAB, PFC or current-mode instants and committed. -/
def execCvuInverseStage (t : Time) (u : Fin 8) (s : State) : Host.Outcome State Fault Refusal :=
  s.on t (fun d => d.cvuInverse u)

/-- CVU_PHASE_DECISION (R237): At the end of each PHDLY interval, N_act rises or falls by one, and 0x1906 is recorded. -/
def execCvuPhaseDecision (t : Time) (u : Fin 8) (s : State) : Host.Outcome State Fault Refusal :=
  s.on t (fun d => d.phaseDecision u)

/-- CVU_CM_PULSE_END (R238): The first beyond sample of a sense window after blanking ends the upper interval. -/
def execCvuCmPulseEnd (t : Time) (u : Fin 8) (p : Fin 8) (s : State) : Host.Outcome State Fault Refusal :=
  s.on t (fun d => d.cmPulseEnd u p)

/-- GRID_LOST (R241): A PLL error over 0.2 for 10 ms loses lock, parks the legs and records 0x1907. -/
def execGridLost (t : Time) (u : Fin 8) (s : State) : Host.Outcome State Fault Refusal :=
  s.on t (fun d => d.gridLost u)

/-- CVU_UNPARK (R241): A PFC unit named by no CHARGE record unparks 100 ms after relock. -/
def execCvuUnpark (t : Time) (u : Fin 8) (s : State) : Host.Outcome State Fault Refusal :=
  s.on t (fun d => d.gridUnpark u)

end Sys2Proof.Machine
end

