-- ==== Sys2Proof/Machine/Chg.lean ====
section
/-! DEFINITION. The charge channels (chapter 10, R245–R255): sources, phases, references, the safety timer, hand-over,
the maximum-power tracker and the lamps. -/

namespace Sys2Proof.Machine

abbrev cpIdle : Nat := 0
abbrev cpQualify : Nat := 1
abbrev cpPrecheck : Nat := 2
abbrev cpCc : Nat := 3
abbrev cpCv : Nat := 4
abbrev cpTopoff : Nat := 5
abbrev cpDone : Nat := 6
abbrev cpHandover : Nat := 7
abbrev cpSuspended : Nat := 8
abbrev cpFault : Nat := 9

/-! ## Measurements (R246, R252) -/

/-- The mean of a quantity of a unit over the past millisecond; between the passes of a slow loop, its latest value. -/
def Dev.msMean (d : Dev) (u : Nat) (get : CvuSample → W) : W :=
  match (d.cvu u).samples.filter (fun s => decide (d.since s.at_ < msTicks)) with
  | [] => (((d.cvu u).samples.head?).map get).getD f0
  | xs => mean (xs.reverse.map get)

/-- The unit of a function. -/
def Dev.unitOf (d : Dev) (f : Nat) : Nat := ((d.funcD f).cvu).getD 0

/-- The measurements of one step of a channel. -/
structure ChgMeas where
  vbat : W
  ibat : W
  iout : W
  vin : W
  pOwn : W
  /-- |v_g| of the front end and the AC power -/
  vg : W
  pAc : W
  /-- VIN and output current of the solar stage, and the panel power -/
  vpv : W
  iSol : W
  pSol : W

def Dev.chgMeasure (d : Dev) (c : Nat) : ChgMeas :=
  let u := d.unitOf (d.chgFn c)
  let a := d.unitOf (d.chgAc c)
  let s := d.unitOf (d.chgSol c)
  let vg := d.msMean a (·.vg)
  let vout := d.msMean u (·.vout)
  let iout := d.msMean u (·.iout)
  { vbat := d.msMean u (·.vbat), ibat := d.msMean u (·.ibat), iout := iout
    vin := d.msMean u (·.vin), pOwn := fMul vout iout, vg := vg
    pAc := fMul (fMul (fC 3 2) vg) (d.msMean a (·.gid))
    vpv := d.msMean s (·.vin), iSol := d.msMean s (·.iout)
    pSol := d.msMean s (fun x => fMul x.vin x.sumIl) }

/-! ## Timed conditions -/

/-- A condition that must hold for a time, kept under a code: since when it has held. -/
def Dev.track (c code : Nat) (b : Bool) (d : Dev) : Dev :=
  d.modChg c (fun x => { x with since := if b then (if Tab.has x.since code then x.since else Tab.set code d.now x.since) else Tab.erase code x.since })

/-- Has the condition of a code held for `ms` milliseconds? -/
def Dev.heldFor (d : Dev) (c code ms : Nat) : Bool :=
  Tab.has (d.chg c).since code && ms * msTicks ≤ d.since (Tab.getD 0 (d.chg c).since code)

abbrev tcAcIn : Nat := 0
abbrev tcAcOut : Nat := 1
abbrev tcSolIn : Nat := 2
abbrev tcSolOut : Nat := 3
abbrev tcMiss : Nat := 4
abbrev tcShort : Nat := 5
abbrev tcAbove : Nat := 6
abbrev tcTerm : Nat := 7
abbrev tcRechg : Nat := 8
abbrev tcCool : Nat := 9
abbrev tcQual : Nat := 10

/-! ## Sources (R252) -/

/-- Does the channel's AC or own source stand in its limits, and is it there at all (PLL, enable)? -/
def Dev.acInLimits (d : Dev) (c : Nat) (m : ChgMeas) : Bool :=
  let v := if d.chgHasAc c then fDiv m.vg (fSqrt (fC 2 1)) else m.vin
  fGe v (d.rd (CHG_SRCMIN c)) && fLe v (d.rd (CHG_SRCMAX c))
def Dev.acAlive (d : Dev) (c : Nat) : Bool :=
  if d.chgHasAc c then d.isSet (CVU_STAT (d.unitOf (d.chgAc c))) CVU_STAT_PLLOCK && d.enabled (d.chgAc c) else d.enabled (d.chgFn c)
/-- Has the channel an AC or own source? -/
def Dev.hasAcOrOwn (d : Dev) (c : Nat) : Bool := d.chgHasAc c || !d.chgHasSol c

/-- The stages that a source feeds: the front end and FN for AC, FN for its own input, SOLFN for solar. -/
def Dev.acStages (d : Dev) (c : Nat) : List Nat := (if d.chgHasAc c then [d.chgAc c] else []) ++ [d.chgFn c]

/-- Stages whose source is lost ramp word 15 to 0 (R253). -/
def Dev.startRamp (c : Nat) (stages : List Nat) (d : Dev) : Dev :=
  let d := d.forEach stages (fun f d => d.modCvu (d.unitOf f) (fun x => { x with ramp := some (d.now, d.fld (CHG_TIMES c) CHG_TIMES_HOTIME) }))
  (d.modChg c (fun x => { x with hoStages := (x.hoStages ++ stages).eraseDups, hoAt := d.now })).setF (CHG_FLT c) CHG_FLT_HANDOVER 1

/-- Ramps end and their stages are parked. -/
def Dev.endRamp (c : Nat) (d : Dev) : Dev :=
  let st := (d.chg c).hoStages
  let d := d.modChg c (fun x => { x with hoStages := [] })
  d.forEach st (fun f d => (d.modCvu (d.unitOf f) (fun x => { x with ramp := none })).when (d.chgParks f) (fun d => d.parkStage f))

/-- Qualification and loss of the sources of a channel in one step. Loss from PRECHECK to DONE ramps the stages that the
source fed. -/
def Dev.chgSources (c : Nat) (m : ChgMeas) (d : Dev) : Dev :=
  let ph := d.chgPhase c
  let deb := d.rd (CHG_DEB c)
  let charging := 2 ≤ ph && ph ≤ 6
  let open_ := ph ≠ cpIdle && ph ≠ cpFault && ph ≠ cpHandover
  let inAc := d.hasAcOrOwn c && d.acInLimits c m && d.acAlive c
  let inSol := d.chgHasSol c && fGe m.vpv (d.rd (CHG_PVMIN c)) && d.enabled (d.chgSol c) && !(d.chg c).hoStages.contains (d.chgSol c)
  let d := (((d.track c tcAcIn inAc).track c tcAcOut (!d.acInLimits c m)).track c tcSolIn inSol).track c tcSolOut
    (!fGe m.vpv (d.rd (CHG_PVMIN c)))
  let d := if d.isSet (CHG_STAT c) CHG_STAT_SRCQ then
      if !d.acAlive c || d.heldFor c tcAcOut 10 then
        let d := (d.setF (CHG_STAT c) CHG_STAT_SRCQ 0).evt EV_CHG_SOURCE_LOST [c]
        if charging then d.startRamp c (d.acStages c) else d.forEach (d.acStages c) (fun f d => d.parkStage f)
      else d
    else if open_ && d.heldFor c tcAcIn (deb.fld CHG_DEB_DEB_AC) && d.heldFor c tcQual (deb.fld CHG_DEB_DEB_AC) then
      let d := (d.setF (CHG_STAT c) CHG_STAT_SRCQ 1).evt EV_CHG_QUALIFIED [c]
      d.when (d.chgHasAc c) (fun d => d.modCvu (d.unitOf (d.chgAc c)) (fun x => { x with parkGrid := false }))
    else d
  if d.isSet (CHG_STAT c) CHG_STAT_SOLQ then
    if !d.enabled (d.chgSol c) || d.heldFor c tcSolOut 2 then
      let d := (d.setF (CHG_STAT c) CHG_STAT_SOLQ 0).evt EV_CHG_SOURCE_LOST [c]
      if charging then d.startRamp c [d.chgSol c] else d.parkStage (d.chgSol c)
    else d
  else if open_ && d.heldFor c tcSolIn (deb.fld CHG_DEB_DEB_SOL) && d.heldFor c tcQual (deb.fld CHG_DEB_DEB_SOL) then
    let d := (d.setF (CHG_STAT c) CHG_STAT_SOLQ 1).evt EV_CHG_QUALIFIED [c]
    let v := fMul (fC 8 10) m.vpv
    let dir := d.ask 21
    let p := dir.2.ask 22
    (p.2.wr (CHG_VPV c) v).modChg c (fun x => { x with vref := v, mpptUp := dir.1.bit 0, pPrev := p.1, mpptAt := d.now, pSum := f0, pN := 0 })
  else d

/-! ## The battery, the cell and the timer (R247–R250) -/

/-- I_phase: 0 outside the charging phases. -/
def Dev.iPhase (d : Dev) (c : Nat) : W :=
  let ph := d.chgPhase c
  if ph = cpPrecheck then d.rd (CHG_IPRE c) else if 3 ≤ ph ∧ ph ≤ 5 then d.rd (CHG_ICC c) else f0

def Dev.cellBroken (d : Dev) (c : Nat) : Bool := d.isSet (THM_NTCT (d.fld (CHG_TCELL c) CHG_TCELL_NTC)) THM_NTCT_BROKEN
/-- The cell temperature, 1/16 °C. -/
def Dev.cellTemp (d : Dev) (c : Nat) : Int := signedOf 16 (d.fld (THM_NTCT (d.fld (CHG_TCELL c) CHG_TCELL_NTC)) THM_NTCT_TEMP)
/-- Does the cell stand in its window, `margin` K inside? -/
def Dev.cellIn (d : Dev) (c : Nat) (margin : Int) : Bool :=
  decide ((signedOf 8 (d.fld (CHG_TCELL c) CHG_TCELL_TMIN) + margin) * 16 ≤ d.cellTemp c ∧
    d.cellTemp c ≤ (signedOf 8 (d.fld (CHG_TCELL c) CHG_TCELL_TMAX) - margin) * 16)

/-- The PATH 1 term: what the shared bus leaves for the battery. -/
def Dev.path1Term (d : Dev) (c : Nat) (m : ChgMeas) : W :=
  fMaxN f0 (fSub (d.rd (CVU_ILIMV (d.unitOf (d.chgFn c)))) (fSub m.iout m.ibat))

/-- P_in and the cut of the charge current (R248). -/
def Dev.chgCut (c : Nat) (m : ChgMeas) (d : Dev) : Dev :=
  let p := if d.chgHasAc c then m.pAc else if d.chgHasSol c then f0 else m.pOwn
  let ip := d.iPhase c
  let cut := (d.chg c).iCut
  let pm := d.rd (CHG_PMAX c)
  let cut := if fGt p pm then fClamp f0 ip (fDiv (fMul cut pm) p) else fMinN ip (fAdd cut (fDiv ip (fC 100 1)))
  ((d.wr (CHG_PIN c) p).modChg c (fun x => { x with iCut := cut })).setF (CHG_STAT c) CHG_STAT_CUTBACK (b2n (fLt cut ip))

/-- The safety timer over one step (R250). -/
def Dev.chgTimer (c : Nat) (m : ChgMeas) (d : Dev) : Dev :=
  let ip := d.iPhase c
  let run := 2 ≤ d.chgPhase c && d.chgPhase c ≤ 4
  let kl := fMul (d.rd (THM_K (d.chgFn c))) ip
  let lim := fMinN (d.chg c).iCut kl
  let lim := if d.isSet (CHG_CFG c) CHG_CFG_PATH then fMinN lim (d.path1Term c m) else lim
  let der := run && fLt lim ip && fGe m.ibat (fMul (fC 95 100) lim)
  let rate := if der then fMaxN (fC 1 4) (fDiv m.ibat ip) else f1
  let d := (d.setF (CHG_STAT c) CHG_STAT_TIMERRUN (b2n run)).setF (CHG_STAT c) CHG_STAT_DERATED (b2n der)
  if !run then d.wr (CHG_RATE c) f0
  else
    let d := (d.wr (CHG_RATE c) rate).modChg c (fun x => { x with teq := x.teq + (fNearMul rate 1000).toNat, twall := x.twall + 1 })
    (d.wr (CHG_TEQ c) (BitVec.ofNat 32 ((d.chg c).teq / 100000))).wr (CHG_TWALL c) (BitVec.ofNat 32 ((d.chg c).twall / 100))

/-- Energy over one step, outside IDLE (R246). -/
def Dev.chgEnergy (c : Nat) (m : ChgMeas) (d : Dev) : Dev :=
  if d.chgPhase c = cpIdle then d
  else
    let sol := if d.isSet (CHG_STAT c) CHG_STAT_SOLQ then (fNearMul m.pSol 1000).toNat else 0
    let d := d.modChg c (fun x => { x with ebat := x.ebat + (fNearMul (fMul m.vbat m.ibat) 1000).toNat, esol := x.esol + sol })
    (d.wr (CHG_EBAT c) (BitVec.ofNat 32 ((d.chg c).ebat / 3600000000))).wr (CHG_ESOL c) (BitVec.ofNat 32 ((d.chg c).esol / 3600000000))

/-! ## Phases (Table CHG-1) -/

/-- The lamp pattern of a phase (Table CHG-1), by the codes of CHG_LAMP.PAT. -/
def phasePat (ph : Nat) : Nat := [0, 2, 2, 1, 1, 1, 4, 2, 5, 3].getD ph 0

/-- The pattern driven: CHG_LAMP.PAT under FORCE, else that of the phase (R255). -/
def Dev.lampRefresh (c : Nat) (d : Dev) : Dev :=
  d.setF (CHG_STAT c) CHG_STAT_PAT (if d.isSet (CHG_LAMP c) CHG_LAMP_FORCE then d.fld (CHG_LAMP c) CHG_LAMP_PAT else phasePat (d.chgPhase c))

/-- A phase transition: recorded, its timed conditions begin anew. IDLE, QUALIFY and FAULT hold no qualified source. -/
def Dev.toPhase (c ph : Nat) (d : Dev) : Dev :=
  let old := d.chgPhase c
  let d := ((d.setF (CHG_STAT c) CHG_STAT_PHASE ph).lampRefresh c).evt EV_CHG_PHASE [c]
  let d := if ph = cpIdle ∨ ph = cpQualify ∨ ph = cpFault then
      (d.setF (CHG_STAT c) CHG_STAT_SRCQ 0).setF (CHG_STAT c) CHG_STAT_SOLQ 0
    else d
  let kept := (d.chg c).since.filter (fun p => p.1 < 4 || p.1 = tcQual)
  let d := d.modChg c (fun x => { x with phaseAt := d.now, since := if ph = cpQualify then Tab.set tcQual d.now kept else kept })
  let d := if ph = cpSuspended ∨ ph = cpFault then d else d.setF (CHG_STAT c) CHG_STAT_REASON 0
  let d := if old = cpIdle then
      ((d.wr (CHG_EBAT c) 0).wr (CHG_ESOL c) 0).modChg c (fun x => { x with ebat := 0, esol := 0, fromIdle := true })
    else d
  let d := if ph = cpPrecheck ∧ (old = cpDone ∨ (d.chg c).fromIdle) then
      ((d.wr (CHG_TEQ c) 0).wr (CHG_TWALL c) 0).modChg c (fun x => { x with teq := 0, twall := 0, fromIdle := false })
    else d
  let d := if ph = cpPrecheck ∨ ph = cpCc then d.modChg c (fun x => { x with iCut := d.iPhase c }) else d
  d.forEach ([d.chgFn c] ++ (if d.chgHasAc c then [d.chgAc c] else []) ++ (if d.chgHasSol c then [d.chgSol c] else []))
    (fun f d => d.when (d.chgParks f) (fun d => d.parkStage f))

/-- FAULT with a reason (R247, R250, R251): a hand-over in progress ends, the charge current is 0 in the same step. -/
def Dev.chgFault (c reason : Nat) (d : Dev) : Dev :=
  let d := d.setF (CHG_STAT c) CHG_STAT_REASON reason
  let d := d.setF (CHG_FLT c) (match reason with | 1 => CHG_FLT_TIMER | 2 => CHG_FLT_MISSING | 3 => CHG_FLT_SHORTED | _ => CHG_FLT_STAGE) 1
  let d := (d.toPhase c cpFault).modChg c (fun x => { x with stopReq := false, startReq := false })
  (d.endRamp c).evt EV_CHG_FAULT [c, reason]

/-- The fault of this step, if any, by its reason. -/
def Dev.chgFaultNow (d : Dev) (c : Nat) : Option Nat :=
  let ph := d.chgPhase c
  if ph = cpIdle ∨ ph = cpFault then none
  else if (d.chg c).fnOn && !d.enabled (d.chgFn c) then some 4
  else if 2 ≤ ph ∧ ph ≤ 5 ∧ d.heldFor c tcMiss 10 then some 2
  else if 3 ≤ ph ∧ ph ≤ 5 ∧ d.heldFor c tcShort 100 then some 3
  else if ph = cpPrecheck ∧ !(d.heldFor c tcAbove 1000) ∧
      (d.fld (CHG_TIMES c) CHG_TIMES_PRECHK * secTicks ≤ d.since (d.chg c).phaseAt) then some 3
  else
    let ts := d.rd (CHG_TSAFETY c)
    if 2 ≤ ph ∧ ph ≤ 5 ∧ (fNearMul ts 1000000 ≤ (d.chg c).teq ∨ fNearMul ts 4000 ≤ (d.chg c).twall) then some 1 else none

/-- The cause of suspension in force: NTC, TEMP or SUPPLY. -/
def Dev.suspendCause (d : Dev) (c : Nat) : Option Nat :=
  if d.cellBroken c then some 7 else if !d.cellIn c 0 then some 5 else if (d.chg c).supply then some 6 else none

def Dev.suspend (c reason : Nat) (d : Dev) : Dev :=
  let d := (d.setF (CHG_STAT c) CHG_STAT_REASON reason).setF (CHG_FLT c) CHG_FLT_SUSPEND 1
  (d.toPhase c cpSuspended).evt EV_CHG_SUSPENDED [c, reason]

/-- Has the cause of the present suspension ended (R249)? -/
def Dev.suspendOver (d : Dev) (c : Nat) : Bool :=
  (d.suspendCause c).isNone && (d.fld (CHG_STAT c) CHG_STAT_REASON ≠ 5 || d.heldFor c tcCool 1000)

/-- TOPOFF ends after T_TOPOFF. -/
def Dev.topoffOver (c : Nat) (d : Dev) : Dev :=
  if d.chgPhase c = cpTopoff && decide (fNearMul (d.rd (CHG_TTOPOFF c)) secTicks ≤ (d.since (d.chg c).phaseAt : Nat)) then
    (d.toPhase c cpDone).evt EV_CHG_DONE [c]
  else d

/-- The phase's own exit. -/
def Dev.chgExit (c : Nat) (m : ChgMeas) (d : Dev) : Dev :=
  let ph := d.chgPhase c
  let srcs := d.isSet (CHG_STAT c) CHG_STAT_SRCQ || d.isSet (CHG_STAT c) CHG_STAT_SOLQ
  if ph = cpIdle then
    if (d.chg c).startReq || d.isSet (CHG_CFG c) CHG_CFG_AUTOSTART then (d.modChg c (fun x => { x with startReq := false })).toPhase c cpQualify else d
  else if ph = cpQualify then (if srcs then d.toPhase c cpPrecheck else d)
  else if ph = cpPrecheck then (if d.heldFor c tcAbove 1000 then d.toPhase c cpCc else d)
  else if ph = cpCc then (if fGe m.vbat (fMul (fC 995 1000) (d.rd (CHG_VCV c))) then d.toPhase c cpCv else d)
  else if ph = cpCv then (if d.heldFor c tcTerm 1000 then (d.toPhase c cpTopoff).topoffOver c else d)
  else if ph = cpTopoff then d.topoffOver c
  else if ph = cpDone then
    (if d.heldFor c tcRechg 1000 then (d.toPhase c cpPrecheck).evt EV_CHG_RECHARGE [c] else d)
  else if ph = cpSuspended then (if d.suspendOver c then d.toPhase c cpPrecheck else d)
  else d

/-- STOP, hand-over, suspension, the phase's own exit, in this order; a fault comes before them all (R246). -/
def Dev.chgDecide (c : Nat) (m : ChgMeas) (d : Dev) : Dev :=
  let ph := d.chgPhase c
  match d.chgFaultNow c with
  | some r => d.chgFault c r
  | none =>
    if (d.chg c).stopReq && ph ≠ cpHandover then
      let d := d.modChg c (fun x => { x with stopReq := false, startReq := x.startReq && ph = cpIdle })
      if ph = cpIdle ∨ ph = cpFault then d.chgExit c m else d.toPhase c cpIdle
    else if ph = cpHandover then d
    else if 2 ≤ ph && ph ≤ 6 && !d.isSet (CHG_STAT c) CHG_STAT_SRCQ && !d.isSet (CHG_STAT c) CHG_STAT_SOLQ then
      (d.when (d.chg c).hoStages.isEmpty (fun d => d.modChg c (fun x => { x with hoAt := d.now }))).toPhase c cpHandover
    else if 1 ≤ ph && ph ≤ 6 then
      (match d.suspendCause c with | some r => d.suspend c r | none => d.chgExit c m)
    else d.chgExit c m

/-! ## References (R246, R254) -/

/-- I_set and V_set of this step, written to the words of FN and of the solar stage. -/
def Dev.chgWrite (c : Nat) (m : ChgMeas) (d : Dev) : Dev :=
  let ph := d.chgPhase c
  let ip := d.iPhase c
  let i := fMinN ip (d.chg c).iCut
  let i := if d.isSet (CHG_CFG c) CHG_CFG_PATH then fMinN i (d.path1Term c m) else i
  let i := if ph = cpHandover then d.rd (CHG_ISET c) else if 2 ≤ ph ∧ ph ≤ 5 then i else f0
  let v := if 2 ≤ ph ∧ ph ≤ 5 then d.rd (CHG_VCV c) else d.rd (CHG_VSET c)
  let d := (d.wr (CHG_ISET c) i).wr (CHG_VSET c) v
  let sol := d.isSet (CHG_STAT c) CHG_STAT_SOLQ
  let d := d.modCvu (d.unitOf (d.chgFn c)) (fun x => { x with chgV := v, chgI := if sol then fMaxN f0 (fSub i m.iSol) else i })
  d.when sol (fun d => d.modCvu (d.unitOf (d.chgSol c)) (fun x => { x with chgV := (d.chg c).vref, chgI := i }))

/-- The number of the millisecond of TKP_EPOCH that runs; 0 stands for none. -/
def Dev.msIndex (d : Dev) : Nat := (d.now.toNat - d.epoch.toNat) / msTicks + 1

/-- What a step of a channel does (R246–R254), in the order of R246. -/
def Dev.chgRun (c : Nat) (d : Dev) : Dev :=
  let j := d.msIndex
  let m := d.chgMeasure c
  let d := d.modChg c (fun x => { x with stepJ := j })
  let d := (d.wr (CHG_VBAT c) m.vbat).wr (CHG_IBAT c) m.ibat
  let d := (d.wr (CHG_TC c) (fOfRatio (d.cellTemp c) 16)).setF (CHG_STAT c) CHG_STAT_TEMPOK (b2n (!d.cellBroken c && d.cellIn c 0))
  let d := d.chgSources c m
  let ph := d.chgPhase c
  let d := ((d.track c tcMiss (fGe m.vbat (d.rd (CHG_VMISS c)))).track c tcShort (fLt m.vbat (d.rd (CHG_VSHORT c)))).track c tcAbove
    (ph = cpPrecheck && fGe m.vbat (d.rd (CHG_VSHORT c)))
  let d := ((d.track c tcTerm (ph = cpCv && fLt m.ibat (d.rd (CHG_ITERM c)))).track c tcRechg
    (ph = cpDone && fLt m.vbat (d.rd (CHG_VRECHG c)))).track c tcCool (d.cellIn c 2)
  let d := if 2 ≤ ph ∧ ph ≤ 5 then d.chgCut c m else d
  let d := ((d.chgTimer c m).chgEnergy c m).chgDecide c m
  let d := d.modChg c (fun x => { x with fnOn := d.enabled (d.chgFn c) })
  d.chgWrite c m

/-- One step of a channel, once per millisecond of TKP_EPOCH (R246). -/
def Dev.chgStep (c : Nat) (d : Dev) : Dev :=
  if !d.chgOn c || !d.inRun || (d.chg c).stepJ = d.msIndex then d else d.chgRun c

/-! ## Commands -/

/-- A write of CHG_CTRL: any triad may start a channel from IDLE or stop it. -/
def Dev.chgCtrl (c : Nat) (v : W) (d : Dev) : Dev :=
  let d := d.when (v.bit 0 && d.chgPhase c = cpIdle) (fun d => d.modChg c (fun x => { x with startReq := true }))
  d.when (v.bit 1) (fun d => d.modChg c (fun x => { x with stopReq := true }))

/-- An acknowledgement of FAULT (R251). -/
def Dev.chgAck (c : Nat) (d : Dev) : Dev :=
  if d.chgPhase c = cpFault then (d.toPhase c cpIdle).evt EV_CHG_ACK [c] else d

/-- Is a session with this number open for a role that may acknowledge: operator, installer or maker (R251)? -/
def Dev.ackSession (d : Dev) (sid : Nat) : Bool := d.sec.sessions.any (fun s => s.id = sid && s.role ≠ 0)

/-- HANDOVER over: its event, then what the order of R246 selects. -/
def Dev.handoverEnd (c : Nat) (d : Dev) : Dev :=
  let d := (d.endRamp c).evt EV_CHG_HANDOVER [c]
  if d.chgPhase c ≠ cpHandover then d
  else if (d.chg c).stopReq then (d.modChg c (fun x => { x with stopReq := false })).toPhase c cpIdle
  else match d.suspendCause c with
    | some r => d.suspend c r
    | none => d.toPhase c cpQualify

/-- The ramp of a hand-over has ended (R253). In HANDOVER the order of R246 selects what follows. -/
def Dev.handoverDone (c : Nat) (d : Dev) : Dev :=
  if ((d.chg c).hoStages.isEmpty && d.chgPhase c ≠ cpHandover) || d.since (d.chg c).hoAt < d.fld (CHG_TIMES c) CHG_TIMES_HOTIME * msTicks then d
  else d.handoverEnd c

/-- The mean power of the interval that ends, a free value where no pass fell into it. -/
def Dev.mpptPower (c : Nat) (d : Dev) : W × Dev :=
  if (d.chg c).pN = 0 then d.ask 23 else (fDiv (d.chg c).pSum (fOfNat (d.chg c).pN), d)

/-- The direction of the next step from a mean power: up at the current limit, turned round where the power fell. -/
def Dev.mpptUp (d : Dev) (c : Nat) (p : W) : Bool :=
  let u := d.unitOf (d.chgSol c)
  if fGe (d.msMean u (·.iout)) (fMul (fC 98 100) (d.cvu u).chgI) then true
  else if fLt p (d.chg c).pPrev then !(d.chg c).mpptUp else (d.chg c).mpptUp

/-- The reference moves by a step in a direction, within PVMIN and PVMAX. -/
def Dev.mpptMove (c : Nat) (p : W) (up : Bool) (d : Dev) : Dev :=
  let step := d.rd (CHG_MPPTSTEP c)
  let v := fClamp (d.rd (CHG_PVMIN c)) (d.rd (CHG_PVMAX c)) (fAdd (d.chg c).vref (if up then step else fNeg step))
  (d.wr (CHG_VPV c) v).modChg c (fun x => { x with vref := v, mpptUp := up, pPrev := p, mpptAt := d.now, pSum := f0, pN := 0 })

/-- One step of the maximum-power tracker (R254). -/
def Dev.mppt (c : Nat) (d : Dev) : Dev :=
  if !d.chgOn c || !d.isSet (CHG_STAT c) CHG_STAT_SOLQ || (d.since (d.chg c).mpptAt : Int) < fNearMul (d.rd (CHG_MPPTPER c)) msTicks then d
  else
    let m := d.mpptPower c
    m.2.mpptMove c m.1 (d.mpptUp c m.1)

/-- Is the lamp switch on at this instant by its pattern (R255)? Patterns repeat every 2 s from TKP_EPOCH. -/
def Dev.lampLit (d : Dev) (c : Nat) : Bool :=
  let t := d.since d.epoch % (2 * secTicks) / 800000
  (d.chg c).lampOff.isNone &&
    (match d.fld (CHG_STAT c) CHG_STAT_PAT with
     | 1 => true
     | 2 => t % 20000 < 10000
     | 3 => t % 5000 < 2500
     | 4 => t < 2000
     | 5 => t < 3000 || (6000 ≤ t && t < 9000)
     | _ => false)

/-- A lamp short or an open lamp (R255): recorded at most once a minute; a short switches the lamp off. -/
def Dev.lampFault (c : Nat) (short : Bool) (d : Dev) : Dev :=
  let d := d.setF (CHG_FLT c) (if short then CHG_FLT_LAMPSHORT else CHG_FLT_LAMPOPEN) 1
  let d := d.when short (fun d => d.modChg c (fun x => { x with lampOff := some d.now }))
  d.rated (evClass EV_CHG_LAMP_FAULT) EV_CHG_LAMP_FAULT c (60 * secTicks) (fun n => dat ([c] ++ le4 n))

/-- The retry of a lamp that a short turned off, once per second. -/
def Dev.lampRetry (c : Nat) (d : Dev) : Dev :=
  match (d.chg c).lampOff with
  | some t => if secTicks ≤ d.since t then d.modChg c (fun x => { x with lampOff := none }) else d
  | none => d

/-- A write of CHG_LAMP: by T0 alone (R12). -/
def Dev.lampWrite (triad c : Nat) (v : W) (d : Dev) : Dev :=
  if triad ≠ 0 then d.lockedWrite triad (CHG_LAMP c) else (d.wr (CHG_LAMP c) (v &&& 0x80000007)).lampRefresh c

/-! ## Meanings -/

/-- CHG_STEP (R246): Each millisecond the charge channel evaluates faults, STOP, hand-over, suspension and phase exits, and writes I_set and V_set. -/
def execChgStep (t : Time) (c : Fin 2) (s : State) : Host.Outcome State Fault Refusal :=
  s.on t (fun d => d.chgStep c)

/-- CHG_START (R246): A write of CHG_CTRL.START leads a channel from IDLE to QUALIFY. -/
def execChgStart (t : Time) (c : Fin 2) (s : State) : Host.Outcome State Fault Refusal :=
  s.on t (fun d => d.chgCtrl c 1)

/-- CHG_STOP (R246): A write of CHG_CTRL.STOP leads the channel to IDLE, deferred during HANDOVER. -/
def execChgStop (t : Time) (c : Fin 2) (s : State) : Host.Outcome State Fault Refusal :=
  s.on t (fun d => d.chgCtrl c 2)

/-- CHG_ACK (R251): A session write of CHG_ACK leaves FAULT for IDLE and records 0x1707. -/
def execChgAck (t : Time) (sid : Nat) (c : Fin 2) (s : State) : Host.Outcome State Fault Refusal :=
  s.on t (fun d => if d.ackSession sid then d.chgAck c else d)

/-- HANDOVER_COMPLETE (R253): The ramp of the lost source's stages ends, they are parked, and 0x1704 is recorded. -/
def execHandoverComplete (t : Time) (c : Fin 2) (s : State) : Host.Outcome State Fault Refusal :=
  s.on t (fun d => d.handoverDone c)

/-- MPPT_UPDATE (R254): Every MPPT_PER ms the tracker moves the panel reference by one step. -/
def execMpptUpdate (t : Time) (c : Fin 2) (s : State) : Host.Outcome State Fault Refusal :=
  s.on t (fun d => d.mppt c)

/-- LAMP_FAULT (R255): A lamp short or open is detected; a short switches the lamp off; 0x1708 is recorded. -/
def execLampFault (t : Time) (c : Fin 2) (short : Bool) (s : State) : Host.Outcome State Fault Refusal :=
  s.on t (fun d => d.lampFault c short)

/-- LAMP_RETRY (R255): Once per second a lamp that was turned off by a short is tried again. -/
def execLampRetry (t : Time) (c : Fin 2) (s : State) : Host.Outcome State Fault Refusal :=
  s.on t (fun d => d.lampRetry c)

/-- CHG_LAMP_WRITE (R255): A T0 write of CHG_LAMP forces a pattern or returns the lamp to the phase pattern. -/
def execChgLampWrite (t : Time) (triad : Fin 4) (c : Fin 2) (v : W) (s : State) : Host.Outcome State Fault Refusal :=
  s.on t (fun d => d.lampWrite triad c v)

end Sys2Proof.Machine
end

