-- ==== Sys2Proof/Machine/Red.lean ====
section
/-! DEFINITION. Redundant execution (chapter 12): triads, their checkpoints and restarts, Gust decay, the cullet list,
function commands and requests, the T0 kick, the watchdogs and the safety queue. -/

namespace Sys2Proof.Machine

/-! ## Triads (R265–R272) -/

abbrev coreId (t c : Nat) : Nat := 3 * t + c

def Dev.rebuilding (d : Dev) (t : Nat) : Nat := d.fld (RED_TSTAT t) RED_TSTAT_REBUILD
/-- The copies that serve: neither retired nor being rebuilt. -/
def Dev.serving (d : Dev) (t : Nat) : List Nat :=
  (List.range 3).filter (fun c => !(d.fld (RED_TSTAT t) RED_TSTAT_RETIRED).testBit c && !(d.rebuilding t).testBit c)

/-- Is the triad started and not halted? -/
def Dev.triadLive (d : Dev) (t : Nat) : Bool :=
  match (d.triad t).wait with
  | .unstarted | .halted => false
  | _ => true

/-- Inside an assured queue operation a core takes no event and no checkpoint (R373). -/
def Dev.inAssured (d : Dev) (t : Nat) : Bool := match (d.triad t).wait with | .assured _ _ _ => true | _ => false

/-- A triad checkpoint (R268): registers recorded, new logs. -/
def Dev.checkpoint (t : Nat) (d : Dev) : Dev :=
  (d.modTriad t (fun x => { x with ckpt := x.core, ckptWait := x.wait, undo := [], reads := [], effects := [], restarts := 0
                                   replay := [], replayReads := [], replaying := false })).wr64 (RED_TCKPT_LO t) (RED_TCKPT_HI t) d.now

/-- A copy is set aside for its rebuild. -/
def Dev.minority (t c : Nat) (d : Dev) : Dev :=
  ((d.putBit (RED_TSTAT t) (4 + c) true).setTmode t tmResync)

/-- TRIAD_MINORITY (R269). -/
def Dev.triadMinority (t c : Nat) (d : Dev) : Dev :=
  if !d.triadLive t || (d.serving t).length < 3 then d
  else
    let d := ((d.minority t c).setF RED_FLT RED_FLT_MINORITY 1).evt EV_RED_TRIAD_MINORITY (le2 (resId 1 (coreId t c)) ++ [t])
    d.gust 1 (coreId t c)

/-- The rebuild of a minority copy ends with a checkpoint (Table RED-1). -/
def Dev.triadResync (t : Nat) (d : Dev) : Dev :=
  match (List.range 3).find? (fun c => (d.rebuilding t).testBit c) with
  | none => d
  | some c =>
    if !d.triadLive t || d.inAssured t || d.isSet (RED_TSTAT t) RED_TSTAT_RESTARTING then d
    else
      let d := (d.checkpoint t).setF (RED_TSTAT t) RED_TSTAT_REBUILD 0
      let d := d.setTmode t (if d.isSet (RED_TSTAT t) RED_TSTAT_DEGRADED then tmDual else tmTriple)
      (d.incSat (RED_TCNT t) RED_TCNT_RESYNCS).evt EV_RED_TRIAD_RESYNC (le2 (resId 1 (coreId t c)) ++ [t])

/-- The local SRAM with the words of the undo log put back, the oldest value of a word last. -/
def undoWords (undo : List (Nat × W)) (m : Mem) : Mem := undo.foldl (fun m p => Mem.putWord p.1 p.2 m) m

/-- The triad goes back to its checkpoint and replays (R271, R272, Table RED-2). T0 leaves its work to the deputy until it
runs again (R290). -/
def Dev.goBack (t : Nat) (d : Dev) : Dev :=
  let d := (d.setF (RED_TSTAT t) RED_TSTAT_RESTARTING 1).incSat (RED_TCNT t) RED_TCNT_RESTARTS
  let d := d.modTriad t (fun x => { x with core := x.ckpt, wait := x.ckptWait, lram := undoWords x.undo x.lram, undo := []
                                           held := (match x.wait with | .assured _ _ _ => x.wait | _ => x.held)
                                           restarts := x.restarts + 1, replay := x.effects, replayReads := x.reads, replaying := true })
  if t = 0 && !d.isSet RED_STAT RED_STAT_DEPUTY then (d.setF RED_STAT RED_STAT_DEPUTY 1).evt EV_RED_DEPUTY [0, 0, 0] else d

/-- A core self-test of this triad counts as not run: a request for it stays pending (R401). -/
def Dev.testUndone (t : Nat) (d : Dev) : Dev :=
  match d.bkg.coreTest with
  | some (c, who) =>
    if c / 3 ≠ t then d
    else
      let d := ({ d with bkg := { d.bkg with coreTest := none } }).setF BKG_STAT BKG_STAT_CORETEST 0
      d.whenSome who (fun k d => d.reqShow k brPending)
  | none => d

/-- What a disagreement records and charges: a Gust to each serving copy, a Gale to each that fails its test. -/
def Dev.disagreeCharge (t : Nat) (cores katFails : List Nat) (before : Nat) (d : Dev) : Dev :=
  let d := (d.setF RED_FLT RED_FLT_RESTART 1).evt EV_RED_TRIAD_RESTART (le2 (resId 1 (coreId t (cores.headD 0))) ++ [t])
  let d := d.forEach cores (fun c d => d.when (d.triadLive t && d.sysState = before) (fun d => d.gust 1 (coreId t c)))
  d.forEach katFails (fun c d => d.when (d.triadLive t && d.sysState = before) (fun d => d.gale 1 (coreId t c) gaTest 0xF))

/-- A disagreement of the serving copies (R271): each is charged, then the triad restarts; a core that fails its
known-answer test has a Gale; after three restarts from one checkpoint the triad halts (R272). -/
def Dev.triadDisagree (t : Nat) (katFails : List Nat) (d : Dev) : Dev :=
  let third := 3 ≤ ((d.testUndone t).triad t).restarts
  let e := (d.testUndone t).disagreeCharge t (d.serving t) katFails d.sysState
  if !(e.triadLive t && e.sysState = d.sysState) then e
  else if third then e.haltTriad t
  else e.goBack t

/-- TRIAD_RESTART: a disagreement in dual comparison, or of all three copies. -/
def Dev.triadRestart (t : Nat) (katFails : List (Fin 3)) (d : Dev) : Dev :=
  if d.triadLive t then d.triadDisagree t (katFails.map Fin.val) else d

/-- TRIAD_CHECKPOINT (R268, R270): `minority` names a copy whose signature differs from two that agree; `split` says that no
two agree. -/
def Dev.triadCheckpoint (t : Nat) (minority : Option (Fin 3)) (split : Bool) (d : Dev) : Dev :=
  if !d.triadLive t || d.inAssured t || d.isSet (RED_TSTAT t) RED_TSTAT_RESTARTING then d
  else if split then d.triadDisagree t []
  else match minority with
    | some c =>
      if (d.serving t).length < 3 then d.triadDisagree t []
      else
        let d := (((d.checkpoint t).minority t c).setF RED_FLT RED_FLT_LATENT 1).incSat (RED_TCNT t) RED_TCNT_LATENT
        (d.evt EV_RED_TRIAD_LATENT (le2 (resId 1 (coreId t c)) ++ [t])).gust 1 (coreId t c)
    | none => d.checkpoint t

/-- REPLAY_DONE (R272): every logged effect has been replayed. -/
def Dev.replayDone (t : Nat) (d : Dev) : Dev :=
  if d.isSet (RED_TSTAT t) RED_TSTAT_RESTARTING && (d.triad t).replay.isEmpty then
    let d := (d.setF (RED_TSTAT t) RED_TSTAT_RESTARTING 0).modTriad t (fun x => { x with replaying := false })
    d.when (t = 0) (fun d => d.setF RED_STAT RED_STAT_DEPUTY 0)
  else d

/-! ## Gusts and the cullet list -/

/-- One step down of a resource's Gust count. -/
def Dev.gustDown (k : Nat) (d : Dev) : Dev :=
  let r := RED_GUST (k / 256) (k % 256)
  d.setF r RED_GUST_COUNT (d.fld r RED_GUST_COUNT - 1)

/-- The 10 s tick of R274. -/
def Dev.gustDecay (d : Dev) : Dev :=
  if !d.inRun || d.now.toNat % (10 * secTicks) ≠ 0 then d
  else d.forEach (d.red.gusts.map (·.1)) Dev.gustDown

/-- The Gust history of one resource, or of all, is cleared (R276). -/
def Dev.gustClear (res : Nat) (d : Dev) : Dev :=
  let keys := (d.red.gusts.map (·.1)).filter (fun k => res = 0xFFFF ∨ k = res)
  let d := d.forEach keys (fun k d =>
    let r := RED_GUST (k / 256) (k % 256)
    (d.setF r RED_GUST_COUNT 0).setF r RED_GUST_RECENT 0)
  ({ d with red := { d.red with gusts := d.red.gusts.filter (fun p => !keys.contains p.1) } }).evt EV_RED_GUST_CLEARED (le2 res)

/-- One entry of the cullet list, or all, is cleared from MRAM at once; the resource serves again at the next start
(R280). -/
def Dev.cullClear (res : Nat) (d : Dev) : Dev :=
  let keep := fun (xs : List Cull) => xs.filter (fun c => !(res = 0xFFFF || c.res = res))
  let xs := keep d.red.cull
  let d := { d with red := { d.red with cull := xs, cullA := keep d.red.cullA, cullB := keep d.red.cullB } }
  (d.setF RED_STAT RED_STAT_CULLCNT xs.length).evt EV_RED_CULL_CLEARED (le2 res)

/-- CULLET_PERSIST (R277). -/
def Dev.cullPersist (d : Dev) : Dev := if d.red.cull.any (fun c => !c.persisted) then d.persistCull else d

/-! ## Function commands (R287–R289, R456) -/

/-- A command ENTER, and the request it grants (R287, R289). -/
def Dev.cmdEnter (f st cause : Nat) (d : Dev) : Dev :=
  if !(d.func f).isSome then d
  else
    let asked := Tab.has d.red.reqSafe f && Tab.getD 0 d.red.reqSafe f = st
    let d := d.safeCommand f st cause
    if asked then ({ d with red := { d.red with reqSafe := Tab.erase f d.red.reqSafe } }).fnOutcome f st true else d

/-- The period of the slots that trigger an ADC sequence or a ΔΣ window; without one, the function's leg period. -/
def Dev.trigPeriod (d : Dev) (f kind idx : Nat) : Nat :=
  match (List.range 64).find? (fun n =>
    let w := d.rd (TKP_SLOT_TGT n)
    (w.fld TKP_SLOT_TGT_TGTA_KIND = kind && w.fld TKP_SLOT_TGT_TGTA_IDX = idx) ||
      (w.fld TKP_SLOT_TGT_TGTB_KIND = kind && w.fld TKP_SLOT_TGT_TGTB_IDX = idx)) with
  | some n => (d.rd (TKP_SLOT_PER n)).toNat
  | none => d.fnPer f

/-- Did an input deliver a result without FAIL within the last period of its sequence? -/
def Dev.inputOk (d : Dev) (f kind src : Nat) (r : Option InRes) : Bool :=
  match r with
  | some x => !x.word.bit 20 && d.since x.got ≤ d.trigPeriod f (if kind = 0 then 2 else 3) src
  | none => false

/-- Every feedback role of the function delivers (R288). -/
def Dev.feedbackOk (d : Dev) (f : Nat) : Bool :=
  let res := fun (t : Tab InRes) (k : Nat) => if Tab.has t k then some (Tab.getD default t k) else none
  let axu := (d.fnAxus f).all (fun u => (List.range 8).all (fun k =>
    let w := d.rd (AXU_IN u k)
    !w.bit 31 || d.inputOk f (w.fld AXU_IN_KIND) (w.fld AXU_IN_SRC) (res (d.axu u).res k)))
  let cvu := (d.funcD f).cvu.toList.all (fun u => (List.range 16).all (fun k =>
    let w := d.rd (CVU_IN u k)
    !w.bit 31 || d.inputOk f (w.fld CVU_IN_KIND) (w.fld CVU_IN_SRC) (res (d.cvu u).res k)))
  let eng := (d.fnAxus f).isEmpty && (d.funcD f).cvu.isNone
  let seq := !eng || (d.funcD f).seqs.all (fun s => d.fld (ADC_SEQCFG s) ADC_SEQCFG_DKIND ≠ 3 ||
    (match (d.seqRun s).fedAt with | some t => decide (d.since t ≤ d.trigPeriod f 2 s) | none => false))
  axu && cvu && seq

/-- Do the conditions of an enable hold: function, module, role, token and feedback (R288)? -/
def Dev.mayEnable (d : Dev) (f : Nat) : Bool :=
  !(d.isSet (RED_FNSTATE f) RED_FNSTATE_LATCHED || d.isSet (RED_FNSTATE f) RED_FNSTATE_RESUNAV || d.red.refuseAll || d.isSet TKP_STAT TKP_STAT_RC_MODE
    || !d.inRun || !d.masterRole || !d.holdsToken || !d.feedbackOk f)

/-- The enable that a program has requested, where R288, R145 and the token allow it. -/
def Dev.cmdEnable (f : Nat) (d : Dev) : Dev :=
  if !(d.func f).isSome || d.enabled f || d.red.enabling.testBit f || !d.red.reqEnable.testBit f then d
  else if d.asserted (d.fnGroup f) then
    (d.evt EV_TRP_ENABLE_REFUSED [d.fnGroup f, f]).enableOutcome f false
  else if d.mayEnable f then d.startEnable f
  else d.enableOutcome f false

/-- The outcome of a disable that a program asked for. -/
def Dev.disableOutcome (f : Nat) (d : Dev) : Dev :=
  if d.red.reqDisable.testBit f then
    ({ d with red := { d.red with reqDisable := withBits d.red.reqDisable f 1 0 } }).fnOutcome f 0 true
  else d

/-- A command DISABLE (R456). -/
def Dev.cmdDisable (f : Nat) (d : Dev) : Dev :=
  if !(d.func f).isSome then d
  else ((d.disableFn f).when (d.red.enabling.testBit f) (fun d => d.enableOutcome f false)).disableOutcome f

/-- A position loss latched in an axis unit is acknowledged (R221). -/
def Dev.ackAxis (u : Nat) (d : Dev) : Dev :=
  if d.isSet (AXU_POSSTAT u) AXU_POSSTAT_LATCHED then
    ((d.setF (AXU_POSSTAT u) AXU_POSSTAT_LATCHED 0).setF (AXU_POSSTAT u) AXU_POSSTAT_TRIES 0).setPhase u phIdle
  else d

/-- A command ACK carries out an acknowledgement that a role gave (R288, R221). -/
def Dev.cmdAck (f : Nat) (d : Dev) : Dev :=
  if !d.red.ackGiven.testBit f then d
  else
    let d := { d with red := { d.red with ackGiven := withBits d.red.ackGiven f 1 0 } }
    let d := d.setF (RED_FNSTATE f) RED_FNSTATE_LATCHED 0
    (d.forEach (d.fnAxus f) Dev.ackAxis).sendFn f

/-- A write of RED_FNCMD: T0 only; ALL names every function. -/
def Dev.fnCmd (triad : Nat) (all : Bool) (f : Nat) (op : Nat → Dev → Dev) (d : Dev) : Dev :=
  if triad ≠ 0 then d.lockedWrite triad RED_FNCMD else d.forEach (if all then d.fns else [f]) op

/-- A request of RED_FNREQ is recorded for the Gaffer (R289). -/
def Dev.fnRequest (f st : Nat) (d : Dev) : Dev := d.evt EV_RED_FN_REQUEST (le2 f ++ [st, 0])

def Dev.reqEnable (f st : Nat) (d : Dev) : Dev :=
  let d := d.fnRequest f st
  { d with red := { d.red with reqEnable := withBits d.red.reqEnable f 1 1 } }
def Dev.reqDisable (f st : Nat) (d : Dev) : Dev :=
  let d := d.fnRequest f st
  { d with red := { d.red with reqDisable := withBits d.red.reqDisable f 1 1 } }

/-- A safe-state request: refused at once where the kind does not permit the state, or it is 0x5 or 0x6. -/
def Dev.reqSafe (f st : Nat) (d : Dev) : Dev :=
  let d := d.fnRequest f st
  let want := if st = 7 then (d.funcD f).safe else st
  if !(d.func f).isSome || st = 5 || st = 6 || !permitted (d.funcD f).kind want then d.fnOutcome f st false
  else { d with red := { d.red with reqSafe := Tab.set f want d.red.reqSafe } }

/-- BRAKE passes to OFF (Table RED-6). -/
def Dev.brakeTimeout (f : Nat) (d : Dev) : Dev :=
  let r := RED_FNSTATE f
  if d.inSafe f && d.fld r RED_FNSTATE_STATE = sfBrake && !d.isSet r RED_FNSTATE_BRKOFF &&
      d.fld (RED_FNSAFE f) RED_FNSAFE_BRKTIME * msTicks ≤ d.since (Tab.getD 0 d.red.brakeAt f) then
    let d := d.setF r RED_FNSTATE_BRKOFF 1
    (d.forEach (d.fnLegs f) (fun n d => d.legRefresh n)).sendFn f
  else d

/-! ## The T0 kick and the watchdogs (R290, R291) -/

/-- A write of RED_T0KICK. -/
def Dev.t0Kick (triad : Nat) (v : W) (d : Dev) : Dev :=
  if triad ≠ 0 then d.lockedWrite triad RED_T0KICK
  else if v.fld RED_T0KICK_KICK = 0xC3 then { d with red := { d.red with lastKick := d.now } }
  else d

/-- Was a kick missed within the last second? -/
def Dev.missedAgain (d : Dev) : Bool := match d.red.lastMissed with | some t => decide (d.since t ≤ secTicks) | none => false

/-- No kick for 2 ms. -/
def Dev.t0Missed (d : Dev) : Dev :=
  if !d.triadLive 0 || d.since d.red.lastKick < 2 * msTicks then d
  else
    let again := d.missedAgain
    let d := (d.setF RED_FLT RED_FLT_T0KICK 1)
    let d := { d with red := { d.red with lastMissed := some d.now, lastKick := d.now } }
    if again then d.fatal EV_RED_T0_FATAL
    else d.goBack 0

/-- A miss of watchdog `n` (R291): its window restarts and its functions take their safe states. -/
def Dev.wdgMiss (n : Nat) (early : Bool) (d : Dev) : Dev :=
  let r := RED_WDGSTAT n
  let d := ((d.setF r RED_WDGSTAT_EARLY (b2n early)).setF r RED_WDGSTAT_LATE (b2n !early)).incSat r RED_WDGSTAT_MISSES
  let d := d.setF RED_FLT RED_FLT_WDGMISS 1
  let d := { d with red := { d.red with wdg := Tab.set n ⟨true, d.now⟩ d.red.wdg } }
  let d := d.evt EV_RED_WDG_MISS [n, 0, d.fld (RED_WDGCFG n) RED_WDGCFG_TRIAD]
  d.forEach (oneBits 32 (d.rd (RED_WDGFN n)).toNat) (fun f d => d.gafferSafe f EV_RED_WDG_MISS)

abbrev wdgTicks : Nat := 1600000

/-- A write of RED_WDGKICK. -/
def Dev.wdgKick (triad n : Nat) (v : W) (d : Dev) : Dev :=
  if triad ≠ d.fld (RED_WDGCFG n) RED_WDGCFG_TRIAD then d.lockedWrite triad (RED_WDGKICK n)
  else if !v.bit 0 || !d.isSet (RED_WDGCFG n) RED_WDGCFG_EN || (d.sysState ≠ stReady && !d.inRun) then d
  else
    let w : Wdg := Tab.getD default d.red.wdg n
    if w.started && d.since w.lastKick < d.fld (RED_WDGCFG n) RED_WDGCFG_OPEN * wdgTicks then d.wdgMiss n true
    else { d with red := { d.red with wdg := Tab.set n ⟨true, d.now⟩ d.red.wdg } }

/-- No kick by CLOSE. -/
def Dev.wdgLate (n : Nat) (d : Dev) : Dev :=
  let w : Wdg := Tab.getD default d.red.wdg n
  if w.started && d.isSet (RED_WDGCFG n) RED_WDGCFG_EN && d.fld (RED_WDGCFG n) RED_WDGCFG_CLOSE * wdgTicks ≤ d.since w.lastKick then
    d.wdgMiss n false
  else d

/-! ## The safety queue (R371) -/

/-- What a read of COR_SAFEQ returns, and the device without the entry it removes. -/
def Dev.safeqPop (d : Dev) : W × Dev :=
  match d.safeq with
  | [] => (0, d)
  | c :: r =>
    (BitVec.ofNat 32 (0x80000000 + r.length * 0x10000 + c % 0x10000),
     ({ d with safeq := r }).when r.isEmpty (fun d => d.dropLine 0 8))

/-! ## Meanings -/

/-- TRIAD_MINORITY (R269): A third copy that differs or arrives late is halted, charged a Gust and rebuilt while two copies continue. -/
def execTriadMinority (t : Time) (k : Fin 4) (c : Fin 3) (s : State) : Host.Outcome State Fault Refusal :=
  s.on t (fun d => d.triadMinority k c)

/-- TRIAD_RESYNC (R269): The minority core's rebuild completes, the signatures agree and 0x2502 is recorded. -/
def execTriadResync (t : Time) (k : Fin 4) (s : State) : Host.Outcome State Fault Refusal :=
  s.on t (fun d => d.triadResync k)

/-- TRIAD_CHECKPOINT (R268): CKPER expiry or a log reaching 75 % fill takes a triad checkpoint and compares signatures. -/
def execTriadCheckpoint (t : Time) (k : Fin 4) (minority : Option (Fin 3)) (split : Bool) (s : State) : Host.Outcome State Fault Refusal :=
  s.on t (fun d => d.triadCheckpoint k minority split)

/-- TRIAD_RESTART (R271): A disagreement in dual comparison withholds the effect and restarts the triad from its checkpoint. -/
def execTriadRestart (t : Time) (k : Fin 4) (kat : List (Fin 3)) (s : State) : Host.Outcome State Fault Refusal :=
  s.on t (fun d => d.triadRestart k kat)

/-- REPLAY_DONE (R272): Replay reaches the withheld effect and normal execution resumes. -/
def execReplayDone (t : Time) (k : Fin 4) (s : State) : Host.Outcome State Fault Refusal :=
  s.on t (fun d => d.replayDone k)

/-- GUST_DECAY (R274): At every 10 s tick each non-zero Gust COUNT decays by one. -/
def execGustDecay (t : Time) (s : State) : Host.Outcome State Fault Refusal :=
  s.on t (fun d => d.gustDecay)

/-- CULLET_PERSIST (R277): A new cullet entry is written to both MRAM copies within 1 ms of its Gale. -/
def execCulletPersist (t : Time) (s : State) : Host.Outcome State Fault Refusal :=
  s.on t (fun d => d.cullPersist)

/-- FNCMD_ENTER (R287): The Gaffer's ENTER command puts a function into a safe state, subject to the first-command rule. -/
def execFncmdEnter (t : Time) (triad : Fin 4) (all : Bool) (f : Fin 32) (st : Fin 8) (cause : Fin 65536) (s : State) : Host.Outcome State Fault Refusal :=
  s.on t (fun d => d.fnCmd triad all f (fun f d => d.cmdEnter f st cause))

/-- FNCMD_ENABLE (R288): The Gaffer's ENABLE command enables a function that meets every enable condition. -/
def execFncmdEnable (t : Time) (triad : Fin 4) (all : Bool) (f : Fin 32) (s : State) : Host.Outcome State Fault Refusal :=
  s.on t (fun d => d.fnCmd triad all f (fun f d => d.cmdEnable f))

/-- FNCMD_DISABLE (R456): The Gaffer's DISABLE command stops a function while its legs stay driven off and polled. -/
def execFncmdDisable (t : Time) (triad : Fin 4) (all : Bool) (f : Fin 32) (s : State) : Host.Outcome State Fault Refusal :=
  s.on t (fun d => d.fnCmd triad all f (fun f d => d.cmdDisable f))

/-- FNCMD_ACK (R288): The Gaffer's ACK command clears LATCHED after an authorised acknowledgement. -/
def execFncmdAck (t : Time) (triad : Fin 4) (all : Bool) (f : Fin 32) (s : State) : Host.Outcome State Fault Refusal :=
  s.on t (fun d => d.fnCmd triad all f (fun f d => d.cmdAck f))

/-- FNREQ_ENABLE (R289): A program's enable request through RED_FNREQ records 0x2511 for the Gaffer. -/
def execFnreqEnable (t : Time) (f : Fin 32) (st : Fin 8) (s : State) : Host.Outcome State Fault Refusal :=
  s.on t (fun d => d.reqEnable f st)

/-- FNREQ_DISABLE (R289): A program's disable request through RED_FNREQ records 0x2511 for the Gaffer. -/
def execFnreqDisable (t : Time) (f : Fin 32) (st : Fin 8) (s : State) : Host.Outcome State Fault Refusal :=
  s.on t (fun d => d.reqDisable f st)

/-- FNREQ_SAFE (R289): A program's safe-state request with a STATE code records 0x2511 for the Gaffer to grant or refuse. -/
def execFnreqSafe (t : Time) (f : Fin 32) (st : Fin 8) (s : State) : Host.Outcome State Fault Refusal :=
  s.on t (fun d => d.reqSafe f st)

/-- BRAKE_TIMEOUT (R285): After BRKTIME ms in BRAKE, the function passes from ASC_LOW to OFF and sets BRKOFF. -/
def execBrakeTimeout (t : Time) (f : Fin 32) (s : State) : Host.Outcome State Fault Refusal :=
  s.on t (fun d => d.brakeTimeout f)

/-- T0_KICK (R290): A T0 write of 0xC3 to RED_T0KICK restarts the 2 ms kick interval. -/
def execT0Kick (t : Time) (triad : Fin 4) (v : W) (s : State) : Host.Outcome State Fault Refusal :=
  s.on t (fun d => d.t0Kick triad v)

/-- T0_KICK_MISSED (R290): No kick for 2 ms makes RED the deputy, records 0x2510 and restarts T0 from its checkpoint. -/
def execT0KickMissed (t : Time) (s : State) : Host.Outcome State Fault Refusal :=
  s.on t (fun d => d.t0Missed)

/-- WDG_KICK (R291): A kick of a windowed watchdog by its owner triad, or a miss if it comes before OPEN. -/
def execWdgKick (t : Time) (triad : Fin 4) (n : Fin 16) (v : W) (s : State) : Host.Outcome State Fault Refusal :=
  s.on t (fun d => d.wdgKick triad n v)

/-- WDG_MISS (R291): No kick by CLOSE records 0x2509 and brings the safe state of the functions in RED_WDGFN. -/
def execWdgMiss (t : Time) (n : Fin 16) (s : State) : Host.Outcome State Fault Refusal :=
  s.on t (fun d => d.wdgLate n)

/-- SAFEQ_READ (R371): A read of COR_SAFEQ returns and removes the oldest safety-queue entry. -/
def execSafeqRead (t : Time) (s : State) : Host.Outcome State Fault Refusal :=
  s.on t (fun d => d.safeqPop.2)

end Sys2Proof.Machine
end

