-- ==== Sys2Proof/Machine/Sig.lean ====
section
/-! DEFINITION. The routed domain (R345–R347, R350, R351, R358, R359) and the sending of a map (R344). -/

namespace Sys2Proof.Machine

/-! ## Forwarding and sending (R346) -/

/-- The forwarding queue of egress `e`: 0–5 a port, 6 the link. -/
def Dev.fwdQueue (d : Dev) (e : Nat) : Option Nat :=
  let b := bitsOf (d.rd (if e < 4 then SIG_FWDQ0 else SIG_FWDQ1)).toNat (8 * (e % 4)) 8
  if b.testBit 7 then some (b % 32) else none

/-- The egress number of a ROUTE entry. -/
def egressNo (r : RouteEnt) : Nat := if r.egress = 0x10 then 6 else r.egress

/-- A frame is posted to an egress's forwarding queue, or dropped and counted. -/
def Dev.postEgress (e : Nat) (fwd : Bool) (x : Desc) (d : Dev) : Dev :=
  match d.fwdQueue e with
  | none => d.setF SIG_FLT SIG_FLT_FWDDROP 1
  | some q =>
    match d.post 4 q x with
    | (some 2, _, d) => (d.setF SIG_FLT SIG_FLT_FWDDROP 1).incSat (QUE_LOSS q) QUE_LOSS_OVF
    | (_, _, d) => d.when fwd (fun d => d.incSat SIG_CNT SIG_CNT_FWD)

/-- A domain frame for a destination without a ROUTE entry. -/
def Dev.noRoute (e : Nat) (d : Dev) : Dev :=
  ((d.incSat SIG_CNT SIG_CNT_NOROUTE).setF SIG_FLT SIG_FLT_NOROUTE 1).evt EV_SIG_NO_ROUTE [e]

/-- A domain frame that this module builds: kind, destination, count and payload from offset 4 (Tables SIG-2, SIG-3). -/
def Dev.domFrame (kind dst n hops : Nat) (body : List Byte) (d : Dev) : Desc :=
  let data := leBytes 2 (d.fld SIG_CFG SIG_CFG_DEVID) ++ leBytes 1 hops ++ leBytes 1 n ++ body
  let id := d.fld SIG_CFG SIG_CFG_PRIO * 2 ^ 26 + d.fld SIG_DOM SIG_DOM_DMARK * 2 ^ 20 + kind * 2 ^ 17 + dst
  let dlc := ((List.range 16).find? (fun k => data.length ≤ dlcLen true k)).getD 15
  { id := BitVec.ofNat 32 (0xE0000000 + id), dlc := dlc, flags := 0, status := 0, attempts := 0, stamp := 0, port := 0, seq := 0
    posted := 0, data := sliceB data 0 64 }

/-- A domain frame of this module's own is sent: broadcast to every egress in SIG_BCAST, else by its ROUTE entry. The
hop limit of a destination without an entry is not stated. -/
def Dev.domSend (kind dst n : Nat) (body : List Byte) (d : Dev) : Dev :=
  if dst = 0x3FFE then
    let (w, d) := match d.route dst with
      | some r => (r.hops, d)
      | none => let (w, d) := d.ask 11; (w.toNat % 16, d)
    let x := d.domFrame kind dst n w body
    d.forEach ((List.range 7).filter (fun e => d.bit SIG_BCAST e)) (fun e d => d.postEgress e false x)
  else match d.route dst with
    | some r => d.postEgress (egressNo r) false (d.domFrame kind dst n r.hops body)
    | none => d.noRoute 0xFF

/-- The REPLY to a COMMAND (Table SIG-3). -/
def Dev.reply (src dque sque code : Nat) (loc : Bool) (seq : Nat) (d : Dev) : Dev :=
  d.domSend 2 src 0 (leBytes 1 dque ++ leBytes 1 sque ++ leBytes 1 code ++ leBytes 1 (b2n loc) ++ leBytes 8 seq)

/-- A field of a domain frame's payload. -/
def Desc.num (x : Desc) (o n : Nat) : Nat := leNat (sliceB x.data o n)
def Desc.src (x : Desc) : Nat := x.num 0 2 % 2 ^ 14

/-- A domain frame that arrived at egress `e` for another device (R346). What a gateway absorbs goes no further. -/
def Dev.forward (e : Nat) (x : Desc) (d : Dev) : Dev :=
  let dst := domDst x
  if !d.isDomain x || dst = d.fld SIG_CFG SIG_CFG_DEVID || (dst ≠ 0x3FFE && d.domainOwn x) then d
  else
    let hops := x.num 2 1
    if hops = 0 then
      ((d.incSat SIG_CNT SIG_CNT_HOPLIM).setF SIG_FLT SIG_FLT_HOPLIM 1).evtRated EV_SIG_HOP_LIMIT e [e]
    else
      let y := { x with data := sliceB x.data 0 2 ++ leBytes 1 (hops - 1) ++ x.data.drop 3 }
      if dst = 0x3FFE then
        d.forEach ((List.range 7).filter (fun k => d.bit SIG_BCAST k && k ≠ e)) (fun k d => d.postEgress k true y)
      else match d.route dst with
        | some r => d.postEgress (egressNo r) true y
        | none =>
          let d := d.noRoute e
          if domKind x = 1 then d.reply x.src (x.num 4 1) (x.num 5 1) 5 false (x.num 8 8) else d

/-! ## Maps -/

/-- The result of SIG_MAPTX. -/
def Dev.mapResult (code : Nat) (d : Dev) : Dev := d.wr SIG_MAPRES (BitVec.ofNat 32 (0x80000000 + code))

/-- The result of a map's posting, once it is known. -/
def mapPosted : Option Nat × Nat × Dev → Dev
  | (some 0, _, d) => d.mapResult 0
  | (some _, _, d) => (d.setF SIG_FLT SIG_FLT_MAPFULL 1).mapResult 1
  | (none, _, d) => d

/-- A write of SIG_MAPTX (R344). -/
def Dev.mapTx (v : W) (d : Dev) : Dev :=
  if !v.bit 31 then d
  else
    let d := d.wr SIG_MAPRES 0
    let m := v.fld SIG_MAPTX_MAP
    match d.img.sigmaps[m]? with
    | some sm =>
      if sm.dir = 1 then
        let d := d.incSat (SIG_MAPSTAT m) SIG_MAPSTAT_APPLY
        mapPosted (d.post 4 sm.queue (d.mapFrame sm))
      else d.mapResult 2
    | none => d.mapResult 2

/-! ## Publication (R347) -/

/-- The entries written since the previous round that publish, in ascending order. -/
def Dev.publishing (d : Dev) : List Nat := (d.sig.written.mergeSort (· ≤ ·)).filter (fun i => (d.sigAttr i).bit 20)

/-- Five publication items at most to a frame. -/
def Dev.publish (xs : List Nat) (d : Dev) : Dev :=
  let item := fun (i : Nat) => leBytes 4 ((d.sigAttr i).toNat % 2 ^ 20) ++ leBytes 8 (d.sigVal i)
  (List.range ((xs.length + 4) / 5)).foldl (fun d k =>
    let g := (xs.drop (5 * k)).take 5
    d.domSend 0 0x3FFE g.length (g.flatMap item)) d

/-- A publication round. -/
def Dev.publishRound (d : Dev) : Dev :=
  if !d.isSet SIG_CFG SIG_CFG_DOMEN then d
  else ({ d with sig := { d.sig with written := [] } } : Dev).publish d.publishing

/-- The local entry that subscribes to a domain signal. -/
def Dev.subscriber (d : Dev) (dom : Nat) : Option Nat :=
  d.sigt.findSome? (fun c =>
    let i := (c.1 - sigBase) / 16
    if c.1 % 16 = 14 && (d.sigAttr i).bit 21 && (d.sigAttr i).toNat % 2 ^ 20 = dom then some i else none)

/-- The head of domain queue `q`, where it is a frame of kind `k` for this module. -/
def Dev.domHead (d : Dev) (q k : Nat) : Option Desc :=
  if d.qEn q && d.bit SIG_DQMASK q && 0 < d.qFill q then
    let x := d.headDesc q
    if d.domainOwn x && domKind x = k then some x else none
  else none

/-- SIG takes a domain frame and acts on it. -/
def Dev.onDomain (q k : Nat) (f : Desc → Dev → Dev) (d : Dev) : Dev :=
  match d.domHead q k with
  | some x => f x (d.sigTake q x)
  | none => d

/-- A publication frame: its items that this module subscribes to, as one group. -/
def Dev.published (x : Desc) (d : Dev) : Dev :=
  (List.range (min 5 (x.num 3 1))).foldl (fun d i =>
    let v := x.num (8 + 12 * i) 8
    d.whenSome (d.subscriber (x.num (4 + 12 * i) 4 % 2 ^ 20)) (fun j d =>
      d.sigWrite j (some (BitVec.ofNat 32 v)) (some (BitVec.ofNat 32 (v / 2 ^ 32))) d.fstamp 6)) d

/-! ## Commands and replies (R350, R351) -/

/-- The last accepted SEQ of a stream. -/
def Dev.stream (d : Dev) (src sq : Nat) : Option Stream := d.sig.streams.find? (fun s => s.src = src && s.squeue = sq)

/-- The stream becomes the most recently used one, with its SEQ; a new stream in a full table evicts the one used
longest ago. -/
def Dev.setStream (src sq seq : Nat) (d : Dev) : Dev :=
  let rest := d.sig.streams.filter (fun s => !(s.src = src && s.squeue = sq))
  let d := if rest.length < 4096 then { d with sig := { d.sig with streams := ⟨src, sq, seq⟩ :: rest } }
    else
      let d := { d with sig := { d.sig with streams := ⟨src, sq, seq⟩ :: rest.take 4095 } }
      ((d.setF JRN_FLT JRN_FLT_EVICT 1).incSat JRN_STREAMS JRN_STREAMS_EVICT).evt EV_SIG_DEDUP_EVICT []
  d.setF JRN_STREAMS JRN_STREAMS_USED d.sig.streams.length

/-- Is the same COMMAND already on its way into the journal? -/
def Dev.commandPending (d : Dev) (src sq seq : Nat) : Bool :=
  (d.jrn.reqs ++ d.jrn.unacked).any (fun r => match r.next with
    | .command s q n _ _ _ => s = src && q = sq && n = seq
    | _ => false)

/-- Does a COMMAND name an enabled assured receive queue of the cores? -/
def Dev.cmdQueue (d : Dev) (x : Desc) : Bool :=
  let dq := x.num 4 1
  dq < 32 && d.qEn dq && d.qAssured dq && d.qRx dq && d.qBind dq = bindCores

/-- Has a COMMAND's SEQ been accepted before? -/
def Dev.cmdOld (d : Dev) (x : Desc) : Bool :=
  match d.stream x.src (x.num 5 1) with | some s => decide (x.num 8 8 ≤ s.seq) | none => false

/-- Does dissent refuse commands (R359)? -/
def Dev.cmdDissent (d : Dev) : Bool := d.fld SIG_STAT SIG_STAT_AGREE = 2 && !d.isSet SIG_CFG SIG_CFG_DISSENT

/-- A new COMMAND is journalled, then delivered and answered (R351). -/
def Dev.cmdAccept (x : Desc) (d : Dev) : Dev :=
  let dq := x.num 4 1
  let (n, d) := d.nextSeq dq
  let y := { x with status := dsReceived, seq := n, posted := d.now }
  let d := d.modQue dq (fun e => { e with posting := e.posting + 1 })
  let d := d.jrnRequest jkStream 0xFF (x.num 8 8) (leBytes 2 x.src ++ leBytes 1 (x.num 5 1)) .nothing
  d.jrnRequest jkRx dq n y.bytes (.command x.src (x.num 5 1) (x.num 8 8) dq y 0)

/-- A domain COMMAND (R351). -/
def Dev.commandIn (x : Desc) (d : Dev) : Dev :=
  let src := x.src
  let dq := x.num 4 1
  let sq := x.num 5 1
  let seq := x.num 8 8
  let answer := fun (code : Nat) (d : Dev) => d.reply src dq sq code false seq
  if !d.cmdQueue x then answer 4 (d.incSat JRN_REFUSE JRN_REFUSE_NOQUEUE)
  else if d.cmdDissent then answer 3 (d.incSat JRN_REFUSE JRN_REFUSE_DISSENT)
  else if d.commandPending src sq seq then d
  else if d.cmdOld x then answer 1 (d.whenSome (d.stream src sq) (fun s d => d.setStream src sq s.seq))
  else if d.jrnFull || !d.qRoom dq then answer 2 (d.incSat JRN_REFUSE JRN_REFUSE_FULL)
  else d.cmdAccept x

/-- The head COMMAND of an assured queue contends again (Table SIG-4). -/
def Dev.contendAgain (q : Nat) (d : Dev) : Dev :=
  let x := d.headDesc q
  (d.putDesc q (d.qHead q) { x with attempts := satInc 8 x.attempts }).modQue q (fun e => { e with awaiting := none })

/-- A REPLY (R350). -/
def Dev.replyIn (x : Desc) (d : Dev) : Dev :=
  let q := x.num 5 1
  let seq := x.num 8 8
  let code := x.num 6 1
  if q < 32 && (d.que q).awaiting.isSome && (d.headDesc q).seq = seq then
    match code with
    | 0 | 1 => d.qComplete q dsSent (d.que q).cancelLate
    | 4 => (d.qComplete q dsInvalid false).evt EV_SIG_CMD_REFUSED ([q] ++ le4 seq)
    | 2 | 3 | 5 => d.contendAgain q
    | _ => d
  else d

/-- No REPLY within REPLYTO. -/
def Dev.replyTo (q : Nat) (d : Dev) : Dev :=
  match (d.que q).awaiting with
  | some t => if d.fld SIG_CFG SIG_CFG_REPLYTO * msTicks ≤ d.since t then d.contendAgain q else d
  | none => d

/-! ## Configuration agreement (R358, R359) -/

def Dev.domEn (d : Dev) : Bool := d.isSet SIG_CFG SIG_CFG_DOMEN
def Dev.isRoot (d : Dev) : Bool := d.isSet SIG_CFG SIG_CFG_ROOT
def Dev.isGw (d : Dev) : Bool := d.isSet SIG_CFG SIG_CFG_GW
/-- The epoch that devices are compared with. -/
def Dev.domEpoch (d : Dev) : W := if d.isRoot then d.rd SYS_CFGEPOCH else d.rd SIG_DEPOCH

/-- A device is counted once in the present window. -/
def Dev.hear (src : Nat) (epoch : W) (d : Dev) : Dev :=
  if d.sig.heard.any (fun p => p.1 = src) then d
  else { d with sig := { d.sig with heard := d.sig.heard ++ [(src, decide (epoch = d.domEpoch))] } }

/-- Is the present instant `EPOCH + k × 1 s + off` (R358)? -/
def Dev.secondStep (d : Dev) (off : Nat) : Bool :=
  d.inRun && d.epoch.toNat + off ≤ d.now.toNat && (d.now.toNat - d.epoch.toNat - off) % secTicks = 0

/-- The HEARTBEAT frame goes to the root. -/
def Dev.heartbeat (d : Dev) : Dev :=
  d.domSend 3 (d.fld SIG_DOM SIG_DOM_ROOTID) 0
    (leBytes 4 (d.rd SYS_CFGDIG0).toNat ++ leBytes 4 (d.rd SYS_CFGDIG1).toNat ++ leBytes 4 (d.rd SYS_CFGEPOCH).toNat ++
      leBytes 1 d.sysState ++ leBytes 1 d.role)

/-- HEARTBEAT to the root. The root counts itself. -/
def Dev.sendHeartbeat (d : Dev) : Dev :=
  let dev := d.fld SIG_CFG SIG_CFG_DEVID
  if d.domEn && d.masterRole && d.secondStep (dev % 1000 * msTicks) then
    if d.isRoot then d.hear dev (d.rd SYS_CFGEPOCH) else d.heartbeat
  else d

/-- The counts of the window that ends: agreeing, dissenting and the dissenters, AGGREGATEs included. -/
def Dev.windowCounts (d : Dev) : Nat × Nat × List Nat :=
  ((d.sig.heard.filter (·.2)).length + d.sig.aggAgree, (d.sig.heard.filter (fun p => !p.2)).length + d.sig.aggDissent,
    ((d.sig.heard.filter (fun p => !p.2)).map (·.1)) ++ d.sig.aggList)

/-- The window ends: its counts stand in SIG_AGREE, its first 64 dissenters in SIG_DISS0–SIG_DISS31. -/
def Dev.closeWindow (d : Dev) : Dev :=
  let c := d.windowCounts
  let d := d.wr SIG_AGREE (BitVec.ofNat 32 (min c.2.1 0xFFFF * 0x10000 + min c.1 0xFFFF))
  let d := d.forEach (List.range 32) (fun k d =>
    d.wr (SIG_DISS k) (BitVec.ofNat 32 (c.2.2.getD (2 * k + 1) 0xFFFF * 0x10000 + c.2.2.getD (2 * k) 0xFFFF)))
  { d with sig := { d.sig with heard := [], aggAgree := 0, aggDissent := 0, aggList := [] } }

/-- The AGGREGATE of the window that ends. -/
def Dev.aggregate (d : Dev) : Dev :=
  let c := d.windowCounts
  let xs := c.2.2.take 26
  let d := d.closeWindow
  d.domSend 4 (d.fld SIG_DOM SIG_DOM_ROOTID) xs.length
    (leBytes 4 d.domEpoch.toNat ++ leBytes 2 c.1 ++ leBytes 2 c.2.1 ++ xs.flatMap (leBytes 2))

/-- A gateway's AGGREGATE, itself counted. -/
def Dev.sendAggregate (d : Dev) : Dev :=
  if d.domEn && d.isGw && d.secondStep 0 then (d.hear (d.fld SIG_CFG SIG_CFG_DEVID) (d.rd SYS_CFGEPOCH)).aggregate
  else d

/-- The state of agreement changes (R359). -/
def Dev.setAgree (agree : Bool) (d : Dev) : Dev :=
  let old := d.fld SIG_STAT SIG_STAT_AGREE
  if agree then
    let d := d.setF SIG_STAT SIG_STAT_AGREE 1
    d.when (old = 2) (fun d => d.evt EV_SIG_AGREE [])
  else if old = 2 then d
  else
    let d := (d.setF SIG_STAT SIG_STAT_AGREE 2).setF SIG_FLT SIG_FLT_DISSENT 1
    if d.isSet SIG_CFG SIG_CFG_DISSENT then (d.evtC clsSafe EV_SIG_DISSENT srcHw []).gafferAll EV_SIG_DISSENT
    else d.evt EV_SIG_DISSENT []

/-- The root's window ends, it agrees with itself, and its ANNOUNCE goes out. -/
def Dev.announce (d : Dev) : Dev :=
  let e := d.rd SYS_CFGEPOCH
  let d := d.closeWindow
  let d := (d.wr SIG_DEPOCH e).setAgree true
  let d := { d with sig := { d.sig with lastAnnounce := some d.now } }
  d.domSend 5 0x3FFE 0 (leBytes 4 e.toNat ++ leBytes 4 (d.rd SYS_CFGDIG0).toNat ++ leBytes 4 (d.rd SYS_CFGDIG1).toNat)

/-- ANNOUNCE of the root. -/
def Dev.sendAnnounce (d : Dev) : Dev := if d.domEn && d.isRoot && d.secondStep 0 then d.announce else d

/-- An ANNOUNCE (R359). -/
def Dev.announced (x : Desc) (d : Dev) : Dev :=
  let e := BitVec.ofNat 32 (x.num 4 4)
  let d := d.wr SIG_DEPOCH e
  let d := { d with sig := { d.sig with lastAnnounce := some d.now } }
  d.setAgree (decide (e = d.rd SYS_CFGEPOCH))

/-- No ANNOUNCE for 5 s (R359). -/
def Dev.rootSilent (d : Dev) : Dev :=
  match d.sig.lastAnnounce with
  | some t =>
    if d.domEn && 5 * secTicks ≤ d.since t then
      let d := { d with sig := { d.sig with lastAnnounce := none } }
      ((d.setF SIG_STAT SIG_STAT_AGREE 0).setF SIG_FLT SIG_FLT_ROOTSILENT 1).evt EV_SIG_ROOT_SILENT []
    else d
  | none => d

/-- An AGGREGATE joins the window of the root or of a gateway nearer to it. -/
def Dev.aggregateIn (x : Desc) (d : Dev) : Dev :=
  if d.isRoot || d.isGw then
    let ids := (List.range (min 26 (x.num 3 1))).map (fun i => x.num (12 + 2 * i) 2)
    { d with sig := { d.sig with aggAgree := d.sig.aggAgree + x.num 8 2, aggDissent := d.sig.aggDissent + x.num 10 2
                                 aggList := d.sig.aggList ++ ids } }
  else d

/-! ## Meanings -/

/-- SIG_MAPTX (R344): A write of SIG_MAPTX builds a frame from the map's signals and posts it to its queue. -/
def execSigMaptx (t : Time) (v : W) (s : State) : Host.Outcome State Fault Refusal :=
  s.on t (fun d => d.mapTx v)

/-- PUBLISH_ROUND (R347): Every PUBPER ms, SIG broadcasts PUBLISH frames of the PUB entries written since the last round. -/
def execPublishRound (t : Time) (s : State) : Host.Outcome State Fault Refusal :=
  s.on t (fun d => d.publishRound)

/-- PUBLISH_RECEIVED (R347): Received publication items are written to local SUB entries as one group. -/
def execPublishReceived (t : Time) (q : Fin 32) (s : State) : Host.Outcome State Fault Refusal :=
  s.on t (fun d => d.onDomain q 0 Dev.published)

/-- COMMAND_RECEIVED (R351): A domain COMMAND is checked, deduplicated, journalled, stored and answered with a REPLY. -/
def execCommandReceived (t : Time) (q : Fin 32) (s : State) : Host.Outcome State Fault Refusal :=
  s.on t (fun d => d.onDomain q 1 Dev.commandIn)

/-- REPLY_RECEIVED (R350): A REPLY moves an awaiting assured COMMAND to DONE, INVALID or back to contention. -/
def execReplyReceived (t : Time) (q : Fin 32) (s : State) : Host.Outcome State Fault Refusal :=
  s.on t (fun d => d.onDomain q 2 Dev.replyIn)

/-- REPLYTO_EXPIRED (R350): No REPLY within REPLYTO returns the COMMAND to ACCEPTED to contend again. -/
def execReplytoExpired (t : Time) (q : Fin 32) (s : State) : Host.Outcome State Fault Refusal :=
  s.on t (fun d => d.replyTo q)

/-- DOMAIN_HEARTBEAT (R358): At its 1 s offset, the module sends HEARTBEAT to the root. -/
def execDomainHeartbeat (t : Time) (s : State) : Host.Outcome State Fault Refusal :=
  s.on t (fun d => d.sendHeartbeat)

/-- HEARTBEAT_RECEIVED (R358): A root or gateway counts a device's HEARTBEAT for agreement. -/
def execHeartbeatReceived (t : Time) (q : Fin 32) (s : State) : Host.Outcome State Fault Refusal :=
  s.on t (fun d => d.onDomain q 3 (fun x d => if d.isRoot || d.isGw then d.hear x.src (BitVec.ofNat 32 (x.num 12 4)) else d))

/-- AGGREGATE_SEND (R358): At the end of each 1 s window a gateway sends one AGGREGATE to the root. -/
def execAggregateSend (t : Time) (s : State) : Host.Outcome State Fault Refusal :=
  s.on t (fun d => d.sendAggregate)

/-- AGGREGATE_RECEIVED (R358): The root adds an AGGREGATE's counts and dissenters to its window. -/
def execAggregateReceived (t : Time) (q : Fin 32) (s : State) : Host.Outcome State Fault Refusal :=
  s.on t (fun d => d.onDomain q 4 Dev.aggregateIn)

/-- ANNOUNCE_SEND (R358): At each 1 s step, the root broadcasts ANNOUNCE with the domain epoch. -/
def execAnnounceSend (t : Time) (s : State) : Host.Outcome State Fault Refusal :=
  s.on t (fun d => d.sendAnnounce)

/-- ANNOUNCE_RECEIVED (R359): Comparing its epoch with ANNOUNCE puts the module in AGREE or DISSENT and applies the DISSENT policy. -/
def execAnnounceReceived (t : Time) (q : Fin 32) (s : State) : Host.Outcome State Fault Refusal :=
  s.on t (fun d => d.onDomain q 5 Dev.announced)

/-- ROOT_SILENT (R359): Without ANNOUNCE for 5 s the agreement state becomes UNKNOWN, and 0x2206 is recorded. -/
def execRootSilent (t : Time) (s : State) : Host.Outcome State Fault Refusal :=
  s.on t (fun d => d.rootSilent)

end Sys2Proof.Machine
end

