-- ==== Sys2Proof/Machine/Bus.lean ====
section
/-! DEFINITION. The message bus ports (R315–R336): reception and filters, the choice of the next frame, attempts, error
states, rate detection, and cancellation and index writes of the queues. -/

namespace Sys2Proof.Machine

abbrev bsOff : Nat := 0
abbrev bsIntegrating : Nat := 1
abbrev bsActive : Nat := 2
abbrev bsPassive : Nat := 3
abbrev bsBusoff : Nat := 4
abbrev bsRecovering : Nat := 5
abbrev bsDetecting : Nat := 6

def Dev.port (d : Dev) (n : Nat) : Port := Tab.getD default d.ports n
def Dev.modPort (n : Nat) (g : Port → Port) (d : Dev) : Dev := { d with ports := Tab.set n (g (d.port n)) d.ports }
def Dev.busState (d : Dev) (n : Nat) : Nat := d.fld (BUS_STAT n) BUS_STAT_STATE
def Dev.setBus (n st : Nat) (d : Dev) : Dev := d.setF (BUS_STAT n) BUS_STAT_STATE st

/-- The recovery service of NOCFG on BUS0 (R46, R67). -/
def Dev.recovery (d : Dev) (n : Nat) : Bool := d.sysState = stNocfg && n = 0

/-- A port that neither transmits nor acknowledges (R30, R318). -/
def Dev.silent (d : Dev) (n : Nat) : Bool :=
  !(d.recovery n || d.sysState = stReady || d.sysState = stRun) || d.isSet (BUS_CFG n) BUS_CFG_LOM || d.isSet TKP_STAT TKP_STAT_RC_MODE ||
    (d.isSet (BUS_CFG n) BUS_CFG_ABD && !((d.port n).abdFound.isSome && d.isSet (BUS_CFG n) BUS_CFG_ABDJOIN)) ||
    !d.masterRole

/-- The transmit queues bound to a port. -/
def Dev.txQueues (d : Dev) (n : Nat) : List Nat :=
  (List.range 32).filter (fun q => d.qEn q && !d.qRx q && d.qBind q = n)

/-! ## Error counters and states (R332–R334) -/

/-- The state that the error counters give, with 0x2001 at the entry to error-passive. -/
def Dev.errState (n : Nat) (d : Dev) : Dev :=
  let p := 128 ≤ d.fld (BUS_ECNT n) BUS_ECNT_TEC || 128 ≤ d.fld (BUS_ECNT n) BUS_ECNT_REC
  let d := d.setF (BUS_ECNT n) BUS_ECNT_RP (b2n (128 ≤ d.fld (BUS_ECNT n) BUS_ECNT_REC))
  if p && d.busState n = bsActive then
    ((d.setBus n bsPassive).setF (BUS_FLT n) BUS_FLT_PASSIVE 1).evt EV_BUS_ERR_PASSIVE [n]
  else if !p && d.busState n = bsPassive then d.setBus n bsActive
  else d

/-- A protocol error is noted (BUS_LASTERR). -/
def Dev.noteError (n code : Nat) (dataPhase : Bool) (d : Dev) : Dev :=
  let d := ((d.incSat (BUS_LASTERR n) BUS_LASTERR_ERRS).setF (BUS_LASTERR n) BUS_LASTERR_DATAPH (b2n dataPhase)).setF
    (BUS_LASTERR n) BUS_LASTERR_CODE code
  d.setF (BUS_FLT n) BUS_FLT_ERR 1

/-- Recoveries begun within the last RECWIN seconds. -/
def Dev.recent_recoveries (d : Dev) (n : Nat) : Nat :=
  ((d.port n).recs.filter (fun t => d.since t ≤ d.fld (BUS_CFG n) BUS_CFG_RECWIN * secTicks)).length

/-- A recovery begins (R334). -/
def Dev.startRecovery (n : Nat) (d : Dev) : Dev :=
  let d := d.modPort n (fun p => { p with recs := d.now :: p.recs, recovering := true })
  let d := ((d.setBus n bsRecovering).setF (BUS_STAT n) BUS_STAT_RECLIM 0).incSat (BUS_RECCNT n) BUS_RECCNT_TOTAL
  d.setF (BUS_RECCNT n) BUS_RECCNT_WINCNT (min 255 (d.recent_recoveries n))

/-- Bus-off (R333, R334): the frame whose attempt caused it waits; recovery starts by itself within its limit. -/
def Dev.busOff (n : Nat) (q : Nat) (d : Dev) : Dev :=
  let d := ((d.setBus n bsBusoff).setF (BUS_FLT n) BUS_FLT_BUSOFF 1).evt EV_BUS_BUS_OFF [n]
  let d := d.when (q < 32) (fun d => (d.modPort n (fun p => { p with waitingQ := some q })).setF (QUE_STAT q) QUE_STAT_WAITING 1)
  let lim := d.fld (BUS_CFG n) BUS_CFG_RECMAX
  if lim = 0 then d
  else if d.recent_recoveries n < lim then d.startRecovery n
  else ((d.setF (BUS_STAT n) BUS_STAT_RECLIM 1).setF (BUS_FLT n) BUS_FLT_RECLIM 1).evt EV_BUS_RECOVERY_LIMIT [n]

/-! ## Reception (R321–R324) -/

/-- Does filter element `f` of port `n` match a frame (R322, R323)? -/
def Dev.filterMatch (d : Dev) (n f : Nat) (fr : Frame) : Bool :=
  let c := d.rd (BUS_FCTL n f)
  let id := d.rd (BUS_FID n f)
  let m := d.rd (BUS_FMASK n f)
  let flags := (!m.bit 31 || id.bit 31 = fr.ide) && (!m.bit 30 || id.bit 30 = fr.fdf)
  let eq := fun (x : Nat) => ((x ^^^ id.toNat) &&& m.toNat) % 0x20000000 = 0
  if !c.bit 31 then false
  else if c.fld BUS_FCTL_KIND = 1 then
    let pdu1 := bitsOf fr.id 16 8 < 240
    let dst := bitsOf fr.id 8 8
    let own := (List.range 4).any (fun k => let a := bitsOf (d.rd (BUS_ADDR n)).toNat (8 * k) 8; a < 0xFE && a = dst)
    fr.ide && flags && eq (if pdu1 then withBits fr.id 8 8 0 else fr.id) && (!c.bit 27 || !pdu1 || dst = 0xFF || own)
  else flags && eq fr.id

/-- Does a frame pass to SEC before the acceptance filters (R407)? It then reaches no queue. -/
def Dev.secFrame (d : Dev) (n : Nat) (fr : Frame) : Bool :=
  [rlOperator, rlInstaller, rlMaker].any (fun r => d.roleOn r n) && fr.ide && bitsOf fr.id 20 6 = d.fld SEC_CFG SEC_CFG_SMARK &&
    !fr.id.testBit 19 && fr.id % 2 ^ 14 = d.sessionId

/-- A complete frame is offered to the filters; the first that matches decides (R322). -/
def Dev.offer (n : Nat) (fr : Frame) (stamp : W) (self : Bool) (d : Dev) : Dev :=
  if d.secFrame n fr then d
  else match (List.range 64).find? (fun f => d.filterMatch n f fr) with
  | none => d.incSat (BUS_DROP n) BUS_DROP_NOMATCH
  | some f =>
    let d := d.inc32 (BUS_FHIT n f)
    if d.fld (BUS_FCTL n f) BUS_FCTL_KIND = 2 then d
    else d.storeFrame (d.fld (BUS_FCTL n f) BUS_FCTL_QUE) n fr stamp self

/-- The descriptor view of a frame, for forwarding. -/
def frameDesc (fr : Frame) : Desc :=
  { (default : Desc) with id := BitVec.ofNat 32 (fr.id % 0x20000000 + b2n fr.ide * 0x80000000 + b2n fr.fdf * 0x40000000 + b2n fr.brs * 0x20000000)
                          dlc := fr.dlc, data := sliceB fr.data 0 64 }

/-- A successful reception lowers the receive error counter (ISO 11898-1, R315); from above 127 the standard leaves the
value between 119 and 127 open. -/
def Dev.rxGood (n : Nat) (d : Dev) : Dev :=
  let r := d.fld (BUS_ECNT n) BUS_ECNT_REC
  if r = 0 then d
  else if r ≤ 127 then (d.setF (BUS_ECNT n) BUS_ECNT_REC (r - 1)).errState n
  else
    let (w, d) := d.ask 12
    (d.setF (BUS_ECNT n) BUS_ECNT_REC (119 + w.toNat % 9)).errState n

/-- The rate of detection candidate `c` as RATES encodes it. -/
def rateBit (c : Nat) : Nat := 2 ^ c

/-- Detection locks on the first error-free frame (R321). -/
def Dev.rateFound (n : Nat) (d : Dev) : Dev :=
  let c := (d.port n).abdCand
  let d := d.modPort n (fun p => { p with abdRun := false, abdFound := some c })
  let d := ((d.setF (BUS_ABDSTAT n) BUS_ABDSTAT_FOUND 1).setF (BUS_ABDSTAT n) BUS_ABDSTAT_RATE (rateBit c)).evt EV_BUS_RATE_FOUND [n]
  d.setBus n bsActive

/-- Does the port take part in the bus as a receiver? -/
def Dev.receiving (d : Dev) (n : Nat) : Bool :=
  (d.isSet (BUS_CFG n) BUS_CFG_EN || d.recovery n) && (d.busState n = bsActive || d.busState n = bsPassive || d.busState n = bsDetecting)

/-- A protocol error while receiving: by the standard 1, or 8 where `eight`; in detection it is only counted (R321). -/
def Dev.rxError (n code : Nat) (dataPhase eight : Bool) (d : Dev) : Dev :=
  if !d.receiving n then d
  else if d.busState n = bsDetecting then d.incSat (BUS_ABDSTAT n) BUS_ABDSTAT_TRIES
  else
    let d := d.noteError n code dataPhase
    (d.setF (BUS_ECNT n) BUS_ECNT_REC (min 255 (d.fld (BUS_ECNT n) BUS_ECNT_REC + if eight then 8 else 1))).errState n

/-- A frame received without error, with the STIME of its start-of-frame sample point (R317, R322, R336). -/
def Dev.frameIn (n : Nat) (fr : Frame) (sof : Time) (d : Dev) : Dev :=
  if !d.receiving n then d
  else if fr.fdf && !d.isSet (BUS_CFG n) BUS_CFG_FDEN then
    if d.isSet (BUS_CFG n) BUS_CFG_PXDIS then d.rxError n 2 false false
    else
      let d := d.modPort n (fun p => { p with integrating := true })
      (((d.setBus n bsIntegrating).setF (BUS_FLT n) BUS_FLT_PEX 1)).evtRated EV_BUS_PROTOCOL_EXCEPTION n [n]
  else
    let d := if d.busState n = bsDetecting then d.rateFound n else d
    let d := (d.rxGood n).inc32 (BUS_RXCNT n)
    let d := d.offer n fr (fstampOf sof) false
    if d.secFrame n fr then d else d.forward n (frameDesc fr)

/-! ## Transmission (R328–R333) -/

/-- The bits of a frame's arbitration field as sent, dominant 0 (R328): identifier, SRR, IDE, RTR or RRS. -/
def arbitration (x : Desc) : Nat :=
  let id := x.id.toNat % 0x20000000
  let rtr := b2n (x.flags.testBit 0 && !x.id.bit 30)
  if x.id.bit 31 then (id / 0x40000) * 2 ^ 21 + 2 ^ 20 + 2 ^ 19 + (id % 0x40000) * 2 + rtr
  else (id % 0x800) * 2 ^ 21 + rtr * 2 ^ 20

/-- May the head of queue `q` be chosen now? -/
def Dev.sendable (d : Dev) (q : Nat) : Bool :=
  let x := d.headDesc q
  let l := (d.rd (QUE_LIFE q)).toNat
  0 < d.qFill q && x.status = dsPending && (d.que q).awaiting.isNone &&
    (d.qAssured q || l = 0 || d.now.toNat ≤ x.posted.toNat + l * usTicks)

/-- SEC's answers stand in a queue of their own, ranked after QUE31 (R407). -/
abbrev secQueue : Nat := 32

/-- The frame of SEC that waits for port `n`. -/
def Dev.secHead (d : Dev) (n : Nat) : Option Frame := (d.sec.out.find? (fun p => p.1 = n)).map (·.2)

/-- The queue whose head is sent next: the waiting frame of R333, else the head that would win arbitration, the lower
queue between equals (R328). -/
def Dev.chosen (d : Dev) (n : Nat) : Option Nat :=
  let qs := (d.txQueues n).filter (fun q => d.sendable q)
  match (d.port n).waitingQ with
  | some q => if qs.contains q then some q else none
  | none =>
    let best := qs.foldl (fun best q => match best with
      | none => some q
      | some b => if arbitration (d.headDesc q) < arbitration (d.headDesc b) then some q else some b) none
    match d.secHead n, best with
    | none, b => b
    | some _, none => some secQueue
    | some f, some b => if arbitration (frameDesc f) < arbitration (d.headDesc b) then some secQueue else some b

/-- The port drives start-of-frame at its sample point `sof` (R328, R336). -/
def Dev.txStart (n : Nat) (sof : Time) (d : Dev) : Dev :=
  if d.silent n || (d.port n).tx.isSome || !(d.busState n = bsActive || d.busState n = bsPassive) then d
  else match d.chosen n with
    | none => d
    | some q =>
      if q < secQueue && d.headPoisoned q then d.settleHead q (d.qFill q)
      else
      let d := (d.modPort n (fun p => { p with tx := some (q, fstampOf sof) })).setF (BUS_STAT n) BUS_STAT_TXBUSY 1
      if q = secQueue then d
      else
      let d := (d.setF (BUS_STAT n) BUS_STAT_SELV 1).setF (BUS_STAT n) BUS_STAT_SELQ q
      (d.setF (QUE_STAT q) QUE_STAT_INFLIGHT 1).setF (QUE_STAT q) QUE_STAT_HEADSEL 1

/-- The attempt of port `n` is over. -/
def Dev.txOver (n q : Nat) (d : Dev) : Dev :=
  let d := d.modPort n (fun p => { p with tx := none })
  let d := (d.setF (BUS_STAT n) BUS_STAT_TXBUSY 0).setF (BUS_STAT n) BUS_STAT_SELV 0
  if q = secQueue then d
  else
  (d.setF (QUE_STAT q) QUE_STAT_INFLIGHT 0).setF (QUE_STAT q) QUE_STAT_HEADSEL 0

/-- A frame loses arbitration (R328). -/
def Dev.arbLost (n : Nat) (d : Dev) : Dev := d.whenSome (d.port n).tx (fun p d => d.txOver n p.1)

/-- The waiting frame is no longer waited for. -/
def Dev.waitDone (n q : Nat) (d : Dev) : Dev :=
  let d := d.setF (QUE_STAT q) QUE_STAT_WAITING 0
  d.modPort n (fun p => { p with waitingQ := if p.waitingQ = some q then none else p.waitingQ })

/-- The measured delay of a transmitted data phase (R320). -/
def Dev.noteTdc (n tdcv : Nat) (d : Dev) : Dev :=
  let d := d.wr (BUS_TDCR n) (BitVec.ofNat 32 (0x80000000 + min 127 tdcv))
  if 127 < tdcv + d.fld (BUS_TDC n) BUS_TDC_TDCO then
    (d.setF (BUS_FLT n) BUS_FLT_TDCRANGE 1).evtRated EV_BUS_TDC_RANGE n [n]
  else d

/-- A frame of SEC has been transmitted. -/
def Dev.secSent (n tdc : Nat) (d : Dev) : Dev :=
  let fd := match d.secHead n with | some f => f.brs | none => false
  let out := d.sec.out.eraseIdx (d.sec.out.findIdx (fun p => p.1 = n))
  let d := (({ d with sec := { d.sec with out := out } }).txOver n secQueue).inc32 (BUS_TXCNT n)
  let d := (d.setF (BUS_ECNT n) BUS_ECNT_TEC (d.fld (BUS_ECNT n) BUS_ECNT_TEC - 1)).errState n
  d.when (fd && d.isSet (BUS_TDC n) BUS_TDC_TDCEN) (fun d => d.noteTdc n tdc)

/-- The head of queue `q`, transmitted at port `n`, is complete (R320, R327, R350). -/
def Dev.queSent (n q : Nat) (stamp : W) (tdc : Nat) (d : Dev) : Dev :=
  let x := { d.headDesc q with stamp := stamp, port := n }
  let late := (d.que q).cancelLate
  let d := ((d.putDesc q (d.qHead q) x).txOver n q).waitDone n q
  let d := d.inc32 (BUS_TXCNT n)
  let d := (d.setF (BUS_ECNT n) BUS_ECNT_TEC (d.fld (BUS_ECNT n) BUS_ECNT_TEC - 1)).errState n
  let d := d.when (x.id.bit 30 && x.id.bit 29 && d.isSet (BUS_TDC n) BUS_TDC_TDCEN) (fun d => d.noteTdc n tdc)
  let d := if d.isCommand x && d.qAssured q then d.modQue q (fun e => { e with awaiting := some d.now })
    else d.qComplete q dsSent late
  d.when (d.isSet (BUS_CFG n) BUS_CFG_SELFRX) (fun d =>
    d.offer n ⟨x.id.toNat % 0x20000000, x.id.bit 31, x.id.bit 30, x.id.bit 29, x.flags.testBit 0, false, x.dlc, x.data⟩ stamp true)

/-- A transmitted frame is complete: `tdc` is the delay measured in its data phase. -/
def Dev.txComplete (n : Nat) (tdc : Nat) (d : Dev) : Dev :=
  match (d.port n).tx with
  | none => d
  | some (q, stamp) => if q = secQueue then d.secSent n tdc else d.queSent n q stamp tdc

/-- A retry is consumed, and the last one fails the frame (R335). -/
def Dev.retry (n q : Nat) (d : Dev) : Dev :=
  let x := d.headDesc q
  let k := satInc 8 x.attempts
  let d := (d.putDesc q (d.qHead q) { x with attempts := k }).waitDone n q
  let r := d.fld (QUE_CFG q) QUE_CFG_RETRY
  if r ≠ 255 && r < k then
    let d := (d.qComplete q dsFailed false).incSat (QUE_LOSS q) QUE_LOSS_FAILED
    (d.setF (QUE_FLT q) QUE_FLT_FAILED 1).evtRated EV_QUE_TX_FAILED q [q]
  else d

/-- A frame whose cancellation was asked for after its start is cancelled with its failed attempt (R335). -/
def Dev.cancelFailed (n q : Nat) (off : Bool) (d : Dev) : Dev :=
  let d := (d.waitDone n q).qComplete q dsCancelledAfter false
  let d := d.incSat (QUE_LOSS q) QUE_LOSS_CANCELLED
  if off then
    let d := d.busOff n q
    d.waitDone n q
  else d

/-- What a failed attempt counts: the error, and the transmit error counter. -/
def Dev.txCount (n q code : Nat) (dataPhase exempt : Bool) (d : Dev) : Dev :=
  let d := (d.noteError n code dataPhase).txOver n q
  (d.setF (BUS_ECNT n) BUS_ECNT_TEC (min 511 (d.fld (BUS_ECNT n) BUS_ECNT_TEC + if exempt then 0 else 8))).errState n

/-- An attempt ends in an error frame or without acknowledgement (R329, R333, R335). `exempt` marks the cases in which
the standard leaves the transmit error counter unchanged. -/
def Dev.txError (n code : Nat) (dataPhase exempt : Bool) (d : Dev) : Dev :=
  match (d.port n).tx with
  | none => d
  | some (q, _) =>
    let off := decide (255 < ((d.noteError n code dataPhase).txOver n q).fld (BUS_ECNT n) BUS_ECNT_TEC + if exempt then 0 else 8)
    let d := d.txCount n q code dataPhase exempt
    if q = secQueue then d.when off (fun d => d.busOff n q)
    else if (d.que q).cancelLate then d.cancelFailed n q off
    else if off then d.busOff n q
    else d.retry n q

/-- Recovery is complete (R334). -/
def Dev.busRecovered (n : Nat) (d : Dev) : Dev :=
  if d.busState n = bsRecovering then
    let d := (d.wr (BUS_ECNT n) 0).modPort n (fun p => { p with recovering := false })
    (d.setBus n bsActive).evt EV_BUS_RECOVERED [n]
  else d

/-- A write of BUS_CTRL (R334). -/
def Dev.busCtrl (n : Nat) (v : W) (d : Dev) : Dev :=
  if v.bit 0 && d.busState n = bsBusoff then d.startRecovery n else d

/-- The next detection candidate after `c` among the rates enabled, and whether the cycle is complete. -/
def Dev.nextRate (d : Dev) (n c : Nat) : Nat × Bool :=
  let rs := (List.range 4).filter (fun k => (d.fld (BUS_ABDCFG n) BUS_ABDCFG_RATES).testBit k)
  match rs.find? (fun k => c < k) with
  | some k => (k, false)
  | none => (rs.headD 0, true)

/-- A DWELL interval ends (R321). -/
def Dev.abdDwell (n : Nat) (d : Dev) : Dev :=
  if d.busState n = bsDetecting && (d.port n).abdRun then
    let r := d.nextRate n (d.port n).abdCand
    let cyc := (d.port n).abdCycles + b2n r.2
    let d := d.modPort n (fun p => { p with abdCand := r.1, abdCycles := cyc })
    if r.2 && cyc = d.fld (BUS_ABDCFG n) BUS_ABDCFG_TMO then
      (d.setF (BUS_ABDSTAT n) BUS_ABDSTAT_TIMEOUT 1).evt EV_BUS_RATE_NOT_FOUND [n]
    else d
  else d

/-- At the entry into RUN detection starts (R321). -/
def Dev.startAbd (n : Nat) (d : Dev) : Dev :=
  if d.isSet (BUS_CFG n) BUS_CFG_EN && d.isSet (BUS_CFG n) BUS_CFG_ABD then
    let first := ((List.range 4).find? (fun k => (d.fld (BUS_ABDCFG n) BUS_ABDCFG_RATES).testBit k)).getD 0
    (d.modPort n (fun p => { p with abdRun := true, abdCand := first, abdCycles := 0, abdFound := none })).setBus n bsDetecting
  else d

/-- Bus integration is complete (R317). -/
def Dev.integrated (n : Nat) (d : Dev) : Dev :=
  if (d.isSet (BUS_CFG n) BUS_CFG_EN || d.recovery n) && d.busState n = bsIntegrating then
    let p := 128 ≤ d.fld (BUS_ECNT n) BUS_ECNT_TEC || 128 ≤ d.fld (BUS_ECNT n) BUS_ECNT_REC
    (d.modPort n (fun p => { p with integrating := false })).setBus n (if p then bsPassive else bsActive)
  else d

/-! ## Lifetime, cancellation and index writes (R326, R331, R335) -/

/-- The port that a queue's waiting frame belongs to lets go of it. -/
def Dev.unwait (q : Nat) (d : Dev) : Dev := d.forEach (List.range 6) (fun n d => if (d.port n).waitingQ = some q then d.waitDone n q else d)

/-- A plain head past its lifetime (R331). -/
def Dev.queExpired (q : Nat) (d : Dev) : Dev :=
  let x := d.headDesc q
  let l := (d.rd (QUE_LIFE q)).toNat
  if d.qEn q && !d.qRx q && !d.qAssured q && l ≠ 0 && 0 < d.qFill q && x.status = dsPending &&
      !d.isSet (QUE_STAT q) QUE_STAT_INFLIGHT && x.posted.toNat + l * usTicks < d.now.toNat then
    let d := ((d.unwait q).qComplete q dsExpired false).incSat (QUE_LOSS q) QUE_LOSS_EXPIRED
    (d.setF (QUE_FLT q) QUE_FLT_EXPIRED 1).evtRated EV_QUE_EXPIRED q [q]
  else d

/-- The result of QUE_CANCEL. -/
def Dev.cancelResult (q code : Nat) (d : Dev) : Dev := d.wr (QUE_CANRES q) (BitVec.ofNat 32 (0x80000000 + code))

/-- A write of QUE_CANCEL (R335). -/
def Dev.queCancel (q : Nat) (v : W) (d : Dev) : Dev :=
  if !v.bit 31 then d
  else
    let i := v.fld QUE_CANCEL_INDEX
    let size := max 1 (d.qSize q)
    let ofs := (i + size - d.qHead q) % size
    let x := d.desc q i
    if d.qAssured q then ((d.setF (QUE_FLT q) QUE_FLT_CANREF 1).evt EV_QUE_CANCEL_REFUSED [q]).cancelResult q 2
    else if d.qRx q || !d.qEn q || size ≤ i || d.qFill q ≤ ofs || x.status ≠ dsPending then
      (d.setF (QUE_FLT q) QUE_FLT_CANREF 1).cancelResult q 3
    else if ofs = 0 && d.isSet (QUE_STAT q) QUE_STAT_INFLIGHT then
      (d.modQue q (fun e => { e with cancelLate := true })).cancelResult q 1
    else
      let d := d.incSat (QUE_LOSS q) QUE_LOSS_CANCELLED
      let d := if ofs = 0 then (d.unwait q).qComplete q dsCancelled false else d.putDesc q i { x with status := dsCancelled }
      d.cancelResult q 0

/-- May a core move QUE_WR, or QUE_RD where `rdIx`, by a direct write (R326)? -/
def Dev.coreOwns (d : Dev) (q : Nat) (rdIx : Bool) : Bool :=
  let sigRd := d.bit SIG_AUTOQ q || d.bit SIG_DQMASK q
  let sigWr := (List.range 7).any (fun e => d.fwdQueue e = some q)
  let tel := d.isSet BKG_TELCFG BKG_TELCFG_EN && d.fld BKG_TELCFG BKG_TELCFG_QUE = q
  if d.qAssured q then false
  else if rdIx then (d.qRx q || d.qBind q = bindCores) && !sigRd
  else (!d.qRx q || d.qBind q = bindCores) && !sigWr && !(d.qBind q = bindCores && tel)

/-- A refused index write (R325, R326). -/
def Dev.badIndex (triad q : Nat) (rdIx : Bool) (d : Dev) : Dev :=
  (d.setF (QUE_FLT q) QUE_FLT_BADIDX 1).lockedWrite triad (if rdIx then QUE_RD q else QUE_WR q)

/-- The entries that a direct write of QUE_WR covers are posted: their SEQ and POSTED are given (R325). -/
def Dev.coverPosts (q : Nat) : Nat → Dev → Dev
  | 0, d => d
  | n + 1, d =>
    let x := d.desc q (d.fld (QUE_WR q) QUE_WR_INDEX)
    let (seq, d) := d.nextSeq q
    let x := { x with seq := seq, posted := d.now, status := if d.qRx q then dsReceived else dsPending, attempts := 0
                      port := if d.qBind q < 6 then d.qBind q else 0 }
    Dev.coverPosts q n (d.qPush q x)

/-- A direct core write of an index (R326). -/
def Dev.indexWrite (triad q : Nat) (rdIx : Bool) (v : W) (d : Dev) : Dev :=
  let i := v.fld QUE_WR_INDEX
  let size := d.qSize q
  if !d.qEn q || !d.coreOwns q rdIx || size ≤ i then d.badIndex triad q rdIx
  else if rdIx then
    let k := (i + size - d.qHead q) % size
    if d.qFill q < k then d.badIndex triad q rdIx
    else (d.wr (QUE_RD q) (BitVec.ofNat 32 i)).setFill q (d.qFill q - k)
  else
    let k := (i + size - d.fld (QUE_WR q) QUE_WR_INDEX) % size
    if size < d.qFill q + k then d.badIndex triad q rdIx else d.coverPosts q k

/-! ## Meanings -/

/-- BUS_FRAME_RECEIVED (R322): A frame received without error is stamped, offered to the filters, and stored in its queue or discarded. -/
def execBusFrameReceived (t : Time) (n : Fin 6) (fr : Frame) (sof : Time) (s : State) : Host.Outcome State Fault Refusal :=
  s.on t (fun d => d.frameIn n fr sof)

/-- BUS_TX_START (R328): The port chooses the winning queue head and drives start-of-frame. -/
def execBusTxStart (t : Time) (n : Fin 6) (sof : Time) (s : State) : Host.Outcome State Fault Refusal :=
  s.on t (fun d => d.txStart n sof)

/-- ARBITRATION_LOST (R328): A frame that loses arbitration stays at its queue head without consuming a retry. -/
def execArbitrationLost (t : Time) (n : Fin 6) (s : State) : Host.Outcome State Fault Refusal :=
  s.on t (fun d => d.arbLost n)

/-- BUS_TX_COMPLETE (R327): A transmitted frame completes SENT, its descriptor is written and QUE_RD advances. -/
def execBusTxComplete (t : Time) (n : Fin 6) (tdc : Nat) (s : State) : Host.Outcome State Fault Refusal :=
  s.on t (fun d => d.txComplete n tdc)

/-- BUS_TX_ERROR (R329): An attempt ending in an error frame or without acknowledgement increments ATTEMPTS and updates the error counters. -/
def execBusTxError (t : Time) (n : Fin 6) (code : Fin 8) (dataPhase exempt : Bool) (s : State) : Host.Outcome State Fault Refusal :=
  s.on t (fun d => d.txError n code dataPhase exempt)

/-- BUS_RECOVERED (R334): 128 sequences of 11 recessive bits clear the counters, return the port to error-active and record 0x2003. -/
def execBusRecovered (t : Time) (n : Fin 6) (s : State) : Host.Outcome State Fault Refusal :=
  s.on t (fun d => d.busRecovered n)

/-- BUS_RECOVER (R334): A write of BUS_CTRL.RECOVER starts bus-off recovery even at the limit. -/
def execBusRecover (t : Time) (n : Fin 6) (v : W) (s : State) : Host.Outcome State Fault Refusal :=
  s.on t (fun d => d.busCtrl n v)

/-- ABD_DWELL (R321): The end of a DWELL interval moves rate detection to the next candidate rate. -/
def execAbdDwell (t : Time) (n : Fin 6) (s : State) : Host.Outcome State Fault Refusal :=
  s.on t (fun d => d.abdDwell n)

/-- QUE_EXPIRED (R331): A plain head entry past its lifetime is completed EXPIRED and removed. -/
def execQueExpired (t : Time) (q : Fin 32) (s : State) : Host.Outcome State Fault Refusal :=
  s.on t (fun d => d.queExpired q)

/-- QUE_CANCEL (R335): A write of QUE_CANCEL removes, late-cancels or refuses a pending transmit entry and sets QUE_CANRES. -/
def execQueCancel (t : Time) (q : Fin 32) (v : W) (s : State) : Host.Outcome State Fault Refusal :=
  s.on t (fun d => d.queCancel q v)

/-- QUE_INDEX_WRITE (R326): A direct core write of QUE_WR or QUE_RD moves an owned index, or is refused with BADIDX. -/
def execQueIndexWrite (t : Time) (triad : Fin 4) (q : Fin 32) (rdIx : Bool) (v : W) (s : State) : Host.Outcome State Fault Refusal :=
  s.on t (fun d => d.indexWrite triad q rdIx v)

/-- BUS_RX_ERROR (R315): A protocol error detected while receiving a frame raises an error frame and increments the receive error counter, possibly entering error-passive. -/
def execBusRxError (t : Time) (n : Fin 6) (code : Fin 8) (dataPhase eight : Bool) (s : State) : Host.Outcome State Fault Refusal :=
  s.on t (fun d => d.rxError n code dataPhase eight)

/-- BUS_INTEGRATION_DONE (R317): After 11 consecutive recessive bits the port completes bus integration and resumes reception as an active node. -/
def execBusIntegrationDone (t : Time) (n : Fin 6) (s : State) : Host.Outcome State Fault Refusal :=
  s.on t (fun d => d.integrated n)

end Sys2Proof.Machine
end

