-- ==== Sys2Proof/Machine/Limit.lean ====
section
/-! DEFINITION. Limits and bounds (R414, R415) and the persisted table (R418): field values, the bound that governs a
field, and the change that a committed LIMIT record makes, here and in the partner. -/

namespace Sys2Proof.Machine

/-! ## Field values (R414) -/

/-- The lowest set bit of a mask, and the number of bits from it to the highest one. -/
def maskLow (m : W) : Nat := (oneBits 32 m.toNat).headD 0
def maskWidth (m : W) : Nat := (oneBits 32 m.toNat).getLastD 0 + 1 - maskLow m

/-- The field of a word under a mask, right-aligned. -/
def maskField (m v : W) : W := (v &&& m) >>> maskLow m

/-- A field value as a number to compare; none for a NaN. -/
def fieldKey (enc wd : Nat) (v : W) : Option Int :=
  match enc with
  | 0 => some v.toNat
  | 1 => some (signedOf wd v.toNat)
  | _ => if fIsNaN v then none else some (fKey v)

/-- Is a word a right-aligned field value of its form? -/
def fieldForm (enc wd : Nat) (v : W) : Bool :=
  match enc with
  | 0 => v.toNat < 2 ^ wd
  | 1 => signedOf 32 v.toNat = signedOf wd v.toNat
  | _ => true

/-- Is a ≤ b as field values? A NaN is in no order. -/
def fieldLe (enc wd : Nat) (a b : W) : Bool :=
  match fieldKey enc wd a, fieldKey enc wd b with
  | some x, some y => decide (x ≤ y)
  | _, _ => false

/-- Does a bound hold a field value? -/
def Bound.holds (b : Bound) (v : W) : Bool :=
  fieldLe b.enc (maskWidth b.fmask) b.min v && fieldLe b.enc (maskWidth b.fmask) v b.max

/-- The bound of a level held for a field. -/
def Dev.boundOf (d : Dev) (addr : Nat) (fmask : W) (level : Nat) : Option Bound :=
  d.sec.bounds.find? (fun b => b.addr = addr && b.fmask = fmask && b.level = level)

/-- The bound that governs SET_LIMIT: the installer's, else the maker's. -/
def Dev.boundFor (d : Dev) (addr : Nat) (fmask : W) : Option Bound :=
  (d.boundOf addr fmask 2).or (d.boundOf addr fmask 3)

/-- A bound takes the place of the one held for its field and level. -/
def Dev.holdBound (b : Bound) (d : Dev) : Dev :=
  let rest := d.sec.bounds.filter (fun x => !(x.addr = b.addr && x.fmask = b.fmask && x.level = b.level))
  { d with sec := { d.sec with bounds := rest ++ [b] } }

/-! ## Words that a session changes -/

def isSigWord (a : Nat) : Bool := 0x19000000 ≤ a && a < 0x19100000

/-- The word of a register or of the signal table. -/
def Dev.limitWord (d : Dev) (a : Nat) : W := if isSigWord a then BitVec.ofNat 32 (d.sigNum a 4) else d.rd a

/-- A write of the word at `a` of the signal table by a writer (R338): VALUE, STAMP or ATTR, whose bits 22:0 it sets; a word
on STAMP is not stored. The entry becomes valid, with the writer and the present FSTAMP. -/
def Dev.sigWord (a : Nat) (v : W) (writer : Nat) (d : Dev) : Dev :=
  let i := (a - 0x19000000) / 16
  match a % 16 / 4 with
  | 0 => d.sigWrite i (some v) none d.fstamp writer
  | 1 => d.sigWrite i none (some v) d.fstamp writer
  | 2 => d.sigWrite i none none d.fstamp writer
  | _ => (d.sigPut a (leBytes 3 (v.toNat % 0x800000))).sigWrite i none none d.fstamp writer

/-- The change itself, past the configuration lock: a register field, or a signal-table word with WRITER 0x7. -/
def Dev.limitWrite (a : Nat) (fmask value : W) (d : Dev) : Dev :=
  let v := (d.limitWord a &&& ~~~fmask) ||| (value &&& fmask)
  if isSigWord a then d.sigWord a v 7 else d.wr a v

/-! ## The persisted table (R418) -/

/-- The key of an entry: address, mask, kind (0 value, 1 bound, 2 calibration), and for a bound its level. -/
def PEnt.same (a b : PEnt) : Bool :=
  a.kind = b.kind && a.addr = b.addr && a.fmask = b.fmask && (a.kind ≠ 1 || a.bound.level = b.bound.level)

def Dev.putTable (xs : List PEnt) (d : Dev) : Dev :=
  ({ d with sec := { d.sec with table := xs } }).setF SEC_STAT SEC_STAT_LIMITS xs.length

/-- Is there no room for an entry? -/
def Dev.tableFull (d : Dev) (e : PEnt) : Bool := 256 ≤ d.sec.table.length && !d.sec.table.any (fun x => x.same e)

/-- An entry is kept, in place of the one with its key. -/
def Dev.persist (e : PEnt) (d : Dev) : Dev :=
  if d.tableFull e then d
  else if d.sec.table.any (fun x => x.same e) then d.putTable (d.sec.table.map (fun x => if x.same e then e else x))
  else d.putTable (d.sec.table ++ [e])

def Dev.valueEnt (d : Dev) (kind addr : Nat) (fmask value : W) : PEnt :=
  ⟨kind, addr, fmask, value, default, d.rd SYS_CFGDIG0, d.rd SYS_CFGDIG1⟩
def Dev.boundEnt (d : Dev) (b : Bound) : PEnt := ⟨1, b.addr, b.fmask, 0, b, d.rd SYS_CFGDIG0, d.rd SYS_CFGDIG1⟩

/-! ## A committed LIMIT record (R414) -/

/-- The body of a journal record of kind 0x6. -/
def limitBody (x : Session) (addr : Nat) (fmask value : W) : List Byte :=
  leBytes 4 addr ++ leBytes 4 fmask.toNat ++ leBytes 4 value.toNat ++ leBytes 1 x.role ++ leBytes 1 x.port ++ leBytes 2 0 ++
  leBytes 4 x.key ++ leBytes 4 x.id

/-- The audit record, the change and its entry, from the body of the record. The partner shows the link's port. -/
def Dev.applyLimit (here : Bool) (body : List Byte) (d : Dev) : Dev :=
  let n := fun (o k : Nat) => leNat (sliceB body o k)
  let addr := n 0 4
  let fmask := BitVec.ofNat 32 (n 4 4)
  let value := BitVec.ofNat 32 (n 8 4)
  let old := d.limitWord addr
  let new := (old &&& ~~~fmask) ||| (value &&& fmask)
  let d := d.audit 0x10 (n 12 1) (if here then n 13 1 else portLink) (n 16 4) (n 20 4) addr (wordDigest old) (wordDigest new)
  (d.limitWrite addr fmask value).persist (d.valueEnt 0 addr fmask value)

end Sys2Proof.Machine
end

