-- ==== Sys2Proof/Machine/Replay.lean ====
section
/-! DEFINITION. Committed journal records and the entries they keep alive (R348, R353, R357): committing, recovery from the
bytes of the ring, and replay into the queues. -/

namespace Sys2Proof.Machine

/-- A stream update's key: source and source queue. -/
def streamKey (body : List Byte) : Nat × Nat := (leNat (sliceB body 0 2), leNat (sliceB body 2 1))

/-- The live entry of a record: work that still matters, or the latest update of a stream. -/
def liveOf (kind que seq : Nat) (body : List Byte) (loc : Bool) : Option JLive :=
  if kind = jkTx || kind = jkRx then some ⟨kind, que, seq, 0, 0, 0, loc, Desc.ofBytes body⟩
  else if kind = jkStream then
    some ⟨kind, que, seq, 0, 0, 0, loc, { (default : Desc) with id := BitVec.ofNat 32 (streamKey body).1, port := (streamKey body).2 }⟩
  else none

/-- Entries that a record ends: DONE and TAKEN end theirs, a stream update the stream's earlier one. -/
def Dev.liveEnd (kind que seq : Nat) (body : List Byte) (d : Dev) : Dev :=
  if kind = jkDone || kind = jkTaken then d.jrnEnd que seq
  else if kind = jkStream then
    let k := streamKey body
    { d with jrn := { d.jrn with live := d.jrn.live.filter (fun e => !(e.kind = jkStream && e.desc.id.toNat = k.1 && e.desc.port = k.2)) } }
  else d

/-- A record is committed (R348), with what it begins and ends. -/
def Dev.commitRecord (kind que seq : Nat) (body : List Byte) (loc : Bool) (d : Dev) : Dev :=
  (d.liveEnd kind que seq body).jrnCommit kind que seq body (liveOf kind que seq body loc)

/-! ## Recovery (R357) -/

/-- One record as recovery reads it: its offset, its bytes, and whether its CRC holds. -/
structure RingRec where
  off : Nat
  bytes : List Byte
  good : Bool
deriving DecidableEq, Repr

/-- Does a record's CRC hold? -/
def recGood (bs : List Byte) : Bool := leBytes 4 (crc32 (bs.take (bs.length - 4))).toNat = bs.drop (bs.length - 4)

/-- The records from an offset over `left` bytes; `bad` lists offsets whose cells read wrongly. A length that no record
has ends the reading: what follows belongs to a bad record. -/
def ringWalk (m : Mem) (bad : List Nat) : Nat → Nat → Nat → List RingRec
  | 0, _, _ => []
  | n + 1, off, left =>
    if left = 0 then []
    else
      let len := leNat (ringGet m off 2)
      if len % 32 ≠ 0 || len < 32 || 256 < len || left < len then [⟨off, ringGet m off left, false⟩]
      else
        let bs := ringGet m off len
        ⟨off, bs, recGood bs && !bad.contains off⟩ :: ringWalk m bad n ((off + len) % ringBytes) (left - len)

/-- One good record taken into the live entries and the deduplication table. A copy-forward stands for its original. -/
def Dev.recoverRec (r : RingRec) (d : Dev) : Dev :=
  let n := fun (o k : Nat) => leNat (sliceB r.bytes o k)
  let fwd := n 2 1 = jkForward
  let kind := if fwd then n 32 1 else n 2 1
  let que := n 3 1
  let seq := n 16 8
  let body := (r.bytes.drop (if fwd then 33 else 32)).take (r.bytes.length - (if fwd then 37 else 36))
  let d := d.liveEnd kind que seq body
  let d := if fwd then d.jrnEnd que seq else d
  let d := d.whenSome (liveOf kind que seq body false) (fun e d =>
    { d with jrn := { d.jrn with live := d.jrn.live ++ [{ e with jpos := n 8 8, off := r.off, len := r.bytes.length }] } })
  if kind = jkStream then
    let k := streamKey body
    let rest := d.sig.streams.filter (fun s => !(s.src = k.1 && s.squeue = k.2))
    { d with sig := { d.sig with streams := (⟨k.1, k.2, seq⟩ :: rest).take 4096 } }
  else d

/-- The journal is read from the tail (R357): a bad record at the head is discarded, one elsewhere skipped. -/
def Dev.jrnRecover (bad : List Nat) (d : Dev) : Dev :=
  let j := d.jrn
  let rs := ringWalk d.mram bad (j.used / 32 + 1) j.tail j.used
  let d := { d with jrn := { j with live := [] }, sig := { d.sig with streams := [] } }
  let last := rs.length - 1
  let d := rs.zipIdx.foldl (fun d p =>
    if p.1.good then d.recoverRec p.1
    else if p.2 = last then
      let d := { d with jrn := { d.jrn with head := p.1.off } }
      (d.setF JRN_FLT JRN_FLT_TORN 1).evt EV_JRN_TORN_TAIL []
    else
      let n := fun (o k : Nat) => leNat (sliceB p.1.bytes o k)
      (d.setF JRN_FLT JRN_FLT_CORRUPT 1).evt EV_JRN_CORRUPT ([n 3 1] ++ le8 (n 8 8))) d
  let d := { d with jrn := d.jrn.advanceTail }
  ((d.setF JRN_STREAMS JRN_STREAMS_USED d.sig.streams.length).setF JRN_STAT JRN_STAT_RECOVERED 1).jrnFill

/-! ## Replay (R353) -/

/-- The entries that stand in a ring, oldest first. -/
def Dev.ringEntries (d : Dev) (q : Nat) : List Desc :=
  (List.range (d.qFill q)).map (fun i => d.desc q ((d.qHead q + i) % (max 1 (d.qSize q))))

/-- A ring holds exactly these entries from its QUE_RD on. -/
def Dev.setRing (q : Nat) (xs : List Desc) (d : Dev) : Dev :=
  let size := max 1 (d.qSize q)
  let xs := xs.take size
  let d := xs.zipIdx.foldl (fun d p => d.putDesc q ((d.qHead q + p.2) % size) p.1) d
  let d := d.wr (QUE_WR q) (BitVec.ofNat 32 ((d.qHead q + xs.length) % size))
  let d := d.modQue q (fun e => { e with awaiting := none, cancelLate := false, posting := 0 })
  (d.setF (QUE_STAT q) QUE_STAT_INFLIGHT 0).setFill q xs.length

/-- Pending work returns to its queues in SEQ order, ahead of any new post, and QUE_SEQ goes on above it. -/
def Dev.jrnReplay (d : Dev) : Dev :=
  let live := d.jrn.live
  let d := d.forEach ((List.range 32).filter (fun q => d.qEn q && d.qAssured q)) (fun q d =>
    let mine := (live.filter (fun e => e.que = q && e.kind ≠ jkStream)).mergeSort (fun a b => a.seq ≤ b.seq)
    let old := (d.ringEntries q).filter (fun x => !mine.any (fun e => e.seq = x.seq))
    let back := mine.map (fun e => { e.desc with status := if d.qRx q then dsReceived else dsPending })
    let top := mine.foldl (fun m e => max m (e.seq + 1)) (d.rd64 (QUE_SEQ_LO q) (QUE_SEQ_HI q)).toNat
    (d.wr64 (QUE_SEQ_LO q) (QUE_SEQ_HI q) (BitVec.ofNat 64 (top % 2 ^ 48))).setRing q (back ++ old))
  let tx := (live.filter (fun e => e.kind = jkTx)).length
  let rx := (live.filter (fun e => e.kind = jkRx)).length
  let d := d.wr JRN_REPLAY (BitVec.ofNat 32 (min tx 0xFFFF * 0x10000 + min rx 0xFFFF))
  d.evt EV_JRN_REPLAYED ([0] ++ le4 (min tx 0xFFFF * 0x10000 + min rx 0xFFFF))

end Sys2Proof.Machine
end

