-- ==== Sys2Proof/Machine/Lnk.lean ====
section
/-! DEFINITION. The standby pair, the drive token and the Ciwin link (chapter 13). -/

namespace Sys2Proof.Machine

def Dev.modLnk (g : Lnk → Lnk) (d : Dev) : Dev := { d with lnk := g d.lnk }
def Dev.peerTok (d : Dev) : Bool := d.isSet LNK_STAT LNK_STAT_PEERTOK
def Dev.side (d : Dev) : Nat := d.fld LNK_STAT LNK_STAT_SIDE

/-! ## The link (R297, R298) -/

/-- Heads of link-bound queues go out again once they can. -/
def Dev.linkHeads (d : Dev) : Dev := d.forEach (List.range 32) (fun q d => d.linkHead q)

/-- A module that follows the partner starts its synchronisation afresh. -/
def Dev.resync (d : Dev) : Dev :=
  (d.modLnk (fun l => { l with caughtUp := false, selected := false, staging := [], missing := 0 })).setRole roleSyncing

/-- The link is down (R297): what was not acknowledged is dropped, link-bound entries contend again, and the roles of
Table LNK-3 follow. -/
def Dev.linkDown (d : Dev) : Dev :=
  if !d.linkUp then d
  else
    let d := (d.setF LNK_STAT LNK_STAT_LINKUP 0).setF LNK_FLT LNK_FLT_DOWN 1
    let d := d.evt EV_LNK_LINK_DOWN []
    let d := d.modLnk (fun l => { l with unacked := [], copy := none, staging := [], jsent := none })
    let d := d.forEach ((List.range 32).filter (fun q => d.qEn q && d.qBind q = bindLink && !d.qRx q))
      (fun q d => d.setF (QUE_STAT q) QUE_STAT_INFLIGHT 0)
    if d.role = roleActive then d.setRole roleAlone
    else if d.role = roleStandby && d.peerTok then d.resync
    else d

/-- HELLO to the partner (R300). -/
def Dev.sendHello (d : Dev) : Dev :=
  d.linkSend (.hello (d.rd SYS_CFGDIG0) (d.rd SYS_CFGDIG1) (d.rd SYS_CFGEPOCH) (d.side = 1) d.jrn.jepoch d.jrn.jpos d.lnk.saved d.sysState
    (if d.inRun then some d.epoch else none))

/-- The lanes in use after training: all four, or lanes 0–1 or 2–3. -/
def usableLanes (lanes : Nat) : Nat :=
  if lanes % 16 = 0xF then 0xF else if lanes % 4 = 3 then 3 else if lanes % 16 / 4 = 3 then 0xC else 0

/-- The link comes up on lanes `l` (R298): sequence numbers begin at 0, HELLO goes out, waiting heads follow. -/
def Dev.linkStart (l latency : Nat) (d : Dev) : Dev :=
  let half := decide (l ≠ 0xF)
  let d := ((d.setF LNK_STAT LNK_STAT_LINKUP 1).setF LNK_STAT LNK_STAT_LANES l).setF LNK_STAT LNK_STAT_HALF (b2n half)
  let d := d.forEach (List.range 4) (fun k d => d.setF LNK_LANE ⟨8 * k, 8⟩ (if l.testBit k then 0x80 else 0))
  let d := d.modLnk (fun x => { x with txSeq := 0, rxSeq := 0, unacked := [], latency := latency })
  let d := d.evt EV_LNK_LINK_UP []
  let d := d.when half (fun d => (d.setF LNK_FLT LNK_FLT_LANE 1).evt EV_LNK_LANE_DEGRADED [])
  d.sendHello.linkHeads

/-- Training ends with the lanes that passed (R298). -/
def Dev.linkTrained (lanes latency : Nat) (d : Dev) : Dev :=
  if !d.paired || d.linkUp || usableLanes lanes = 0 then d else d.linkStart (usableLanes lanes) latency

/-- A lane shows too many code errors and is dropped (R298). -/
def Dev.laneDegraded (k errs : Nat) (d : Dev) : Dev :=
  let l := d.fld LNK_STAT LNK_STAT_LANES
  if !d.linkUp || !l.testBit k || errs ≤ 16 then d
  else
    let d := d.setF LNK_LANE ⟨8 * k, 8⟩ (min errs 127)
    if l = 0xF then
      let keep := if k < 2 then 0xC else 3
      let d := (d.setF LNK_STAT LNK_STAT_LANES keep).setF LNK_STAT LNK_STAT_HALF 1
      (d.setF LNK_FLT LNK_FLT_LANE 1).evt EV_LNK_LANE_DEGRADED [k]
    else (d.setF LNK_STAT LNK_STAT_LANES 0).linkDown

/-- A down link tries training again. -/
def Dev.linkRetry (d : Dev) : Dev :=
  if d.paired && !d.linkUp then (d.setF LNK_STAT LNK_STAT_LANES 0).setF LNK_STAT LNK_STAT_HALF 0 else d

/-- A received frame counts where it is the next of the link's sequence (R297). -/
def Dev.onLink (seq : Nat) (f : Dev → Dev) (d : Dev) : Dev :=
  if d.paired && d.linkUp && seq = d.lnk.rxSeq then f (d.modLnk (fun l => { l with rxSeq := (seq + 1) % 2 ^ 32 })) else d

/-- What the acknowledgement of one frame completes: an entry of a link-bound queue is then SENT. -/
def Dev.linkDone (d : Dev) (x : LinkTx) : Dev :=
  match x.msg with
  | .queue q _ =>
    let h := d.headDesc q
    if d.isCommand h && d.qAssured q then (d.setF (QUE_STAT q) QUE_STAT_INFLIGHT 0).modQue q (fun e => { e with awaiting := some d.now })
    else (d.setF (QUE_STAT q) QUE_STAT_INFLIGHT 0).qComplete q dsSent (d.que q).cancelLate
  | _ => d

/-- Does a cumulative acknowledgement free a frame? -/
def ackedBy (upTo : Nat) (x : LinkTx) : Bool := (upTo + 2 ^ 32 - x.seq) % 2 ^ 32 < 2 ^ 31

/-- Frames acknowledged leave the list; a copy whose frames have all gone is over. -/
def Dev.dropAcked (upTo : Nat) (d : Dev) : Dev :=
  let d := d.modLnk (fun l => { l with unacked := l.unacked.filter (fun x => !ackedBy upTo x) })
  d.when (!d.lnk.unacked.any (fun x => match x.msg with | .mir _ _ => true | .mirend _ _ _ => true | _ => false))
    (fun d => d.modLnk (fun l => { l with copy := none }))

/-- Frames that a cumulative acknowledgement frees. -/
def Dev.linkAcked (upTo : Nat) (d : Dev) : Dev :=
  if !(d.paired && d.linkUp) then d
  else (d.lnk.unacked.filter (ackedBy upTo)).foldl Dev.linkDone (d.dropAcked upTo)

/-- Has a frame waited 5 µs for its acknowledgement? -/
def Dev.resendDue (d : Dev) (x : LinkTx) : Bool := decide (5 * usTicks ≤ d.since x.sentAt)

/-- The frames due are sent again and counted. -/
def Dev.resendAll (d : Dev) : Dev :=
  let n := (d.lnk.unacked.filter d.resendDue).length
  let sec := d.now.toNat / secTicks
  let prev := if sec = d.lnk.resendSec then d.fld LNK_CNT LNK_CNT_RESENDS else if sec = d.lnk.resendSec + 1 then min 255 d.lnk.resends else 0
  (d.modLnk (fun l =>
    { l with unacked := l.unacked.map (fun x => if d.resendDue x then { x with sends := x.sends + 1, sentAt := d.now } else x)
             resends := if sec = l.resendSec then l.resends + n else n
             resendSec := sec })).setF LNK_CNT LNK_CNT_RESENDS prev

/-- A frame not acknowledged in 5 µs is sent again; the eighth send declares the link down (R297). -/
def Dev.linkResend (d : Dev) : Dev :=
  if !(d.paired && d.linkUp && d.lnk.unacked.any d.resendDue) then d
  else if d.resendAll.lnk.unacked.any (fun x => 8 ≤ x.sends) then d.resendAll.linkDown else d.resendAll

/-! ## Acquiring the token -/

/-- JEPOCH grows at each acquisition of the token, with its record in the journal (R300). -/
def Dev.nextJepoch (d : Dev) : Dev :=
  let d := { d with jrn := { d.jrn with jepoch := (d.jrn.jepoch + 1) % 2 ^ 32 } }
  (d.jrnRequest jkEpoch 0xFF 0 [] .nothing)

/-- The token is asserted: the module is ALONE, and its trip groups latch from now (R301, R303, R310). -/
def Dev.claimToken (d : Dev) : Dev :=
  let d := d.nextJepoch
  let d := (d.setToken true).setRole roleAlone
  d.startLatching

/-- May the token be asserted: no edge on DRV_TOKEN_IN for 10 µs (R296)? -/
def Dev.wireQuiet (d : Dev) : Bool := !d.peerTok && 10 * usTicks ≤ d.since d.lnk.lastEdge

/-- The active candidate asserts the token once it is in RUN (R301). -/
def Dev.candidateClaim (d : Dev) : Dev :=
  if d.lnk.candidate && d.inRun && d.role = roleDeciding && d.wireQuiet then d.claimToken else d

/-! ## Deciding the role (R301) -/

/-- One module is fresher than another. -/
def fresher (e1 p1 e2 p2 : Nat) : Bool := e2 < e1 || (e1 = e2 && p2 < p1)

/-- What the partner's HELLO shows. -/
def Dev.helloNote (dig0 dig1 epoch : W) (sys : Nat) (tk : Option Time) (d : Dev) : Dev :=
  let d := ((d.wr LNK_PEERDIG0 dig0).wr LNK_PEERDIG1 dig1).wr LNK_PEEREPOCH epoch
  d.modLnk (fun l => { l with heardHello := true, peerSys := sys, peerEpoch := tk })

/-- A mismatch of the pair. -/
def Dev.pairMismatch (d : Dev) : Dev := (d.setF LNK_FLT LNK_FLT_CFGMIS 1).evt EV_LNK_CFG_MISMATCH []

/-- The decision of R301 between modules of one configuration. -/
def Dev.decideRole (je jp role : Nat) (d : Dev) : Dev :=
  let tok := d.peerTok || d.lnk.peerTok
  let mine := fresher d.jrn.jepoch d.jrn.jpos je jp
  let theirs := fresher je jp d.jrn.jepoch d.jrn.jpos
  if tok || theirs then
    let d := d.when (tok && mine) (fun d => d.evt EV_LNK_JOURNAL_AHEAD [])
    d.resync
  else
    let wasOwn := d.lnk.saved = roleActive || d.lnk.saved = roleAlone
    let wasPeer := role = roleActive || role = roleAlone
    if mine || (if wasOwn = wasPeer then d.side = 0 else wasOwn) then
      (d.modLnk (fun l => { l with candidate := true })).candidateClaim
    else d.resync

/-- The partner's HELLO. -/
def Dev.hello (dig0 dig1 epoch : W) (side : Bool) (je jp role sys : Nat) (tk : Option Time) (d : Dev) : Dev :=
  let d := d.helloNote dig0 dig1 epoch sys tk
  let deciding := d.role = roleDeciding
  let own := d.rd SYS_CFGEPOCH
  if side = (d.side = 1) then (if deciding then d.pairMismatch.setRole roleBarred else d.pairMismatch)
  else if dig0 ≠ d.rd SYS_CFGDIG0 || dig1 ≠ d.rd SYS_CFGDIG1 || epoch ≠ own then
    if !deciding then d.pairMismatch
    else if own.toNat < epoch.toNat || (own = epoch && d.side = 1) then d.pairMismatch.setRole roleBarred
    else (d.pairMismatch.modLnk (fun l => { l with candidate := true })).candidateClaim
  else if !deciding then d
  else d.decideRole je jp role

/-- A module without a link claims the token after SOLOWAIT (R302). -/
def Dev.soloClaim (d : Dev) : Dev :=
  let wait := d.fld LNK_CFG LNK_CFG_SOLOWAIT * 10 * msTicks * (if d.side = 1 then 2 else 1)
  if d.paired && !d.linkUp && d.inRun && d.role = roleDeciding && d.wireQuiet && wait ≤ d.since d.lnk.runAt &&
      (wait ≤ d.since d.lnk.lastEdge) then d.claimToken
  else d

/-! ## Heartbeats (R299) -/

def Dev.sendHb (d : Dev) : Dev :=
  d.linkSend (.hb d.role d.holdsToken d.now d.jrn.jepoch d.jrn.jpos d.lnk.sc d.sysState (d.isSet SUP_STAT SUP_STAT_WARN))

/-- SYNCING goes on once the journal is caught up with the partner's. -/
def Dev.checkCaughtUp (d : Dev) : Dev :=
  let pj := (d.rd LNK_PJEPOCH).toNat
  let pp := (d.rd64 LNK_PJPOS_LO LNK_PJPOS_HI).toNat
  if d.role = roleSyncing && !d.lnk.caughtUp && pj ≤ d.jrn.jepoch && pp ≤ d.jrn.jpos then d.modLnk (fun l => { l with caughtUp := true })
  else d

/-- Records that a synchronising partner lacks go to it (R312): from its JPOS, or from the first record of a JEPOCH beyond
its own, where the journals diverge. -/
def Dev.catchUp (je jp : Nat) (d : Dev) : Dev :=
  let rs := (ringWalk d.mram [] (d.jrn.used / 32 + 1) d.jrn.tail d.jrn.used).filter RingRec.good
  let n := fun (r : RingRec) (o k : Nat) => leNat (sliceB r.bytes o k)
  let split := match rs.find? (fun r => je < n r 4 4) with | some r => n r 8 8 | none => d.jrn.jpos
  let d := (rs.filter (fun r => min jp split ≤ n r 8 8)).foldl (fun d r =>
    d.linkSend (.jrn (n r 8 8) (n r 2 1) (n r 3 1) (n r 16 8) ((r.bytes.drop 32).take (r.bytes.length - 36)))) d
  d.modLnk (fun l => { l with jsent := some d.jrn.jpos })

/-- What a heartbeat shows of the partner: Δ, its journal and its state; a synchronising partner gets what it lacks. -/
def Dev.hbNote (role : Nat) (tok : Bool) (st : Time) (je jp sys : Nat) (warn : Bool) (d : Dev) : Dev :=
  let d := d.wr64 LNK_OFS_LO LNK_OFS_HI (d.now - st - BitVec.ofNat 64 d.lnk.latency)
  let d := (d.wr LNK_PJEPOCH (BitVec.ofNat 32 je)).wr64 LNK_PJPOS_LO LNK_PJPOS_HI (BitVec.ofNat 64 jp)
  let d := d.modLnk (fun l => { l with lastHb := d.now, peerRole := role, peerTok := tok, peerSys := sys, peerWarn := warn, noSucc := false })
  d.when (d.role = roleAlone && role = roleSyncing && d.lnk.jsent.isNone) (fun d => d.catchUp je jp)

/-- The transitions of Table LNK-3 that a heartbeat brings. -/
def Dev.hbRole (role : Nat) (tok : Bool) (d : Dev) : Dev :=
  if d.role = roleAlone && role = roleStandby then d.setRole roleActive
  else if d.role = roleActive && role ≠ roleStandby then d.setRole roleAlone
  else if d.role = roleStandby && tok && !d.peerTok then
    ((d.setF LNK_FLT LNK_FLT_TOKWIRE 1).evt EV_LNK_TOKEN_WIRE []).setRole roleBarred
  else d.checkCaughtUp

/-- A heartbeat of the partner. -/
def Dev.hbIn (role : Nat) (tok : Bool) (st : Time) (je jp sys : Nat) (warn : Bool) (d : Dev) : Dev :=
  (d.hbNote role tok st je jp sys warn).hbRole role tok

/-! ## The token wires (R295, R296) -/

/-- A holder reads no edge on its own output. -/
def Dev.tokenWire (d : Dev) : Dev :=
  if d.paired && d.holdsToken then
    ((d.releaseToken 2).setF LNK_FLT LNK_FLT_TOKWIRE 1).evt EV_LNK_TOKEN_WIRE []
  else d

/-- DRV_TOKEN_IN is silent for 2 µs. -/
def Dev.peerLost (d : Dev) : Dev :=
  if d.peerTok then
    (d.setF LNK_STAT LNK_STAT_PEERTOK 0).modLnk (fun l => { l with lastEdge := d.now - BitVec.ofNat 64 (2 * usTicks) })
  else d

/-- An edge on DRV_TOKEN_IN after silence. -/
def Dev.peerSeen (d : Dev) : Dev :=
  (d.setF LNK_STAT LNK_STAT_PEERTOK 1).modLnk (fun l => { l with lastEdge := d.now })

/-- A holder sees its partner's edges. -/
def Dev.tokenRace (d : Dev) : Dev :=
  if d.paired && d.holdsToken then
    let d := d.peerSeen
    let d := d.when (d.side = 1) (fun d => d.releaseToken 3)
    (d.setF LNK_FLT LNK_FLT_TOKRACE 1).evt EV_LNK_TOKEN_RACE []
  else d

/-! ## The supercycle copy (R27, R304–R308) -/

/-- The state block of Table LNK-5. -/
def Dev.stateBlock (d : Dev) : StateBlock where
  sc := d.lnk.sc
  boundary := d.now
  epoch := d.epoch
  jepoch := d.jrn.jepoch
  jpos := d.jrn.jpos
  fns := (List.range 32).map (fun f => d.rd (RED_FNSTATE f))
  axus := (List.range 16).map (fun u =>
    [(d.axu u).thHat, (d.axu u).wHat, d.rd (AXU_RVAL u), d.rd (AXU_RRATE u), d.rd (AXU_RTGT u), d.rd (AXU_POSSTAT u)])
  cvus := (List.range 8).map (fun u => [BitVec.ofNat 32 (d.fld (CVU_STAT u) CVU_STAT_NACT), (Tab.getD default d.chgs u).vref,
    BitVec.ofNat 32 (d.fld (CVU_STAT u) CVU_STAT_PLLOCK)])
  chgs := (List.range 2).map (fun c =>
    let x : Chg := Tab.getD default d.chgs c
    [d.rd (CHG_STAT c), d.rd (CHG_TEQ c), d.rd (CHG_TWALL c), d.rd (CHG_EBAT c), d.rd (CHG_ESOL c), x.iCut] ++
      x.since.map (fun p => BitVec.ofNat 32 (p.1 * 2 ^ 24 + d.since p.2 / msTicks % 2 ^ 24)))
  legs := (List.range 48).map (fun n => [d.rd (LEG_ACTA n), d.rd (LEG_ACTB n), d.rd (LEG_ACTSHIFT n)])
  trips := (List.range 16).map (fun g => (d.asserted g, d.rd (TRP_GFIRST g)))

/-- The bytes of a region as the copy takes them. -/
def Dev.regionBytes (d : Dev) (r : MirRegion) : List Byte :=
  if 0x19000000 ≤ r.addr then Mem.getN 0 d.sigt r.addr r.len else Mem.getN 0 d.sram r.addr r.len

/-- Segments of at most 1,016 bytes, the payload of a link frame less its address. -/
def segments (addr : Nat) (bs : List Byte) : List (Nat × List Byte) :=
  (List.range ((bs.length + 1015) / 1016)).map (fun k => (addr + 1016 * k, (bs.drop (1016 * k)).take 1016))

/-- The regions of the MIRROR record, SELECTED ones first. -/
def Dev.mirRegions (d : Dev) : List MirRegion :=
  match d.img.mirror with
  | some (_, rs) => rs.filter (·.selected) ++ rs.filter (fun r => !r.selected)
  | none => []

/-- A boundary at which the copy is skipped (R307). -/
def Dev.mirrorSkip (d : Dev) : Dev :=
  let d := d.modLnk (fun l => { l with copy := none, unacked := l.unacked.filter (fun x => match x.msg with
    | .mir _ _ => false
    | .mirend _ _ _ => false
    | _ => true) })
  ((d.setF LNK_FLT LNK_FLT_MIRSKIP 1).incSat LNK_CNT LNK_CNT_SKIPS).evt EV_LNK_MIRROR_SKIP []

/-- The firing of SLOT63 (R27, R307): the module that drives takes its copy; one that follows counts the missing ones. -/
def Dev.supercycle (d : Dev) : Dev :=
  let d := d.modLnk (fun l => { l with sc := (l.sc + 1) % 2 ^ 24 })
  if !d.paired then d
  else if d.role = roleActive || d.role = roleAlone then
    if !d.linkUp then d
    else if d.lnk.skipNext then d.modLnk (fun l => { l with skipNext := false })
    else if d.lnk.copy.isSome then d.mirrorSkip
    else
      let segs := d.mirRegions.flatMap (fun r => segments r.addr (d.regionBytes r))
      let blk := d.stateBlock
      let d := segs.foldl (fun d p => d.linkSend (.mir p.1 p.2)) d
      let d := d.linkSend (.mirend d.lnk.sc (crc32 (segs.flatMap (·.2))) blk)
      let d := d.modLnk (fun l => { l with copy := some ⟨l.sc, segs, blk⟩, snap := [], skipNext := d.isSet LNK_STAT LNK_STAT_HALF
                                           yield := if l.yield = 1 then 2 else l.yield })
      d.setF LNK_MIRSTAT LNK_MIRSTAT_SCNUM d.lnk.sc
  else if d.role = roleSyncing || d.role = roleStandby then
    let d := d.modLnk (fun l => { l with missing := l.missing + 1 })
    let d := d.setF LNK_MIRSTAT LNK_MIRSTAT_AGE (min 255 d.lnk.missing)
    if d.role = roleStandby && 4 ≤ d.lnk.missing then d.resync else d
  else d

/-- A store to a region word of a copy that is still being sent keeps its old 16-byte line; a full buffer abandons the
copy (R307). -/
def Dev.snapLine (a : Nat) (d : Dev) : Dev :=
  if d.lnk.copy.isSome && (d.mirRegions.any (fun r => r.addr ≤ a && a < r.addr + r.len)) then
    if d.lnk.snap.contains (a / 16) then d
    else if 0x1000 ≤ d.lnk.snap.length then d.mirrorSkip
    else d.modLnk (fun l => { l with snap := a / 16 :: l.snap })
  else d

/-- Does this module receive copies? -/
def Dev.follows (d : Dev) : Bool := d.role = roleSyncing || d.role = roleStandby

/-- Do the staged segments hold every region whole? -/
def Dev.stagedWhole (d : Dev) : Bool :=
  d.lnk.staging = d.mirRegions.flatMap (fun r => segments r.addr ((d.lnk.staging.filter (fun p => r.addr ≤ p.1 && p.1 < r.addr + r.len)).flatMap (·.2))) &&
  d.mirRegions.all (fun r => (d.lnk.staging.filter (fun p => r.addr ≤ p.1 && p.1 < r.addr + r.len)).foldl (fun n p => n + p.2.length) 0 = r.len)

/-- The end of a copy: whole and with a good CRC it is staged, else discarded whole (R308). -/
def Dev.mirEnd (sc : Nat) (good : Bool) (blk : StateBlock) (d : Dev) : Dev :=
  if !d.follows then d
  else
    let ok := good && d.stagedWhole
    d.modLnk (fun l => { l with staged := if ok then some ⟨sc, l.staging, blk⟩ else l.staged, staging := [] })

/-- The staged copy reaches its addresses and its block is in force (R308). -/
def Dev.applyStaged (d : Dev) : Dev :=
  match d.lnk.staged with
  | none => d
  | some c =>
    let d := c.segs.foldl (fun d p =>
      if 0x19000000 ≤ p.1 then { d with sigt := Mem.putN 0 p.1 p.2 d.sigt } else ({ d with sram := Mem.putN 0 p.1 p.2 d.sram }).unpoison p.1 p.2.length) d
    let d := d.modLnk (fun l => { l with staged := none, block := some c.blk, missing := 0
                                         peerFns := c.blk.fns.zipIdx.map (fun p => (p.2, p.1)) })
    (d.setF LNK_MIRSTAT LNK_MIRSTAT_SCNUM c.sc).setF LNK_MIRSTAT LNK_MIRSTAT_AGE 0

/-- The steps of SYNCING that an applied copy brings (Table LNK-3). -/
def Dev.syncStep (d : Dev) : Dev :=
  if d.role = roleSyncing && d.lnk.caughtUp then
    if d.lnk.selected then (d.evt EV_LNK_IN_SYNC []).setRole roleStandby
    else (d.modLnk (fun l => { l with selected := true })).evt EV_LNK_SELECTED []
  else d

/-- A staged copy is applied: APPLIED, and the steps of SYNCING. -/
def Dev.mirApplied (d : Dev) : Dev :=
  match d.lnk.staged with
  | none => d
  | some c => (d.applyStaged.linkSend (.applied c.sc)).checkCaughtUp.syncStep

/-! ## Mirrored records (R305, R312) -/

/-- Own records from a position on are discarded (R312). -/
def Dev.jrnDiscard (jp : Nat) (d : Dev) : Dev :=
  let rs := ringWalk d.mram [] (d.jrn.used / 32 + 1) d.jrn.tail d.jrn.used
  let at_ := rs.find? (fun r => leNat (sliceB r.bytes 8 8) = jp)
  let n := d.jrn.jpos - jp
  let d := { d with jrn := { d.jrn with jpos := jp, head := (match at_ with | some (r : RingRec) => r.off | none => d.jrn.head), live := d.jrn.live.filter (fun e => e.jpos < jp) } }
  d.evt EV_LNK_LOCAL_DISCARDED ([0] ++ le4 n)

/-- A mirrored record in its place: committed to this module's MRAM, then JACK. -/
def Dev.jrnTake (jp kind que seq : Nat) (body : List Byte) (d : Dev) : Dev :=
  let d := d.commitRecord kind que seq body false
  let d := d.when (kind = jkLimit) (fun d => d.applyLimit false body)
  let d := d.when (kind = jkEpoch) (fun d => { d with jrn := { d.jrn with jepoch := max d.jrn.jepoch (d.rd LNK_PJEPOCH).toNat } })
  (d.linkSend (.jack jp)).checkCaughtUp

/-- A mirrored journal record. -/
def Dev.jrnMirrored (jp kind que seq : Nat) (body : List Byte) (d : Dev) : Dev :=
  if !d.follows then d
  else
    let d := d.when (jp < d.jrn.jpos && d.role = roleSyncing) (fun d => d.jrnDiscard jp)
    if jp ≠ d.jrn.jpos then (if d.role = roleStandby then d.resync else d)
    else d.jrnTake jp kind que seq body

/-! ## Takeover (R309–R311) -/

/-- What the state block restores before the token is asserted (Tables LNK-5, LNK-7). -/
def Dev.applyBlock (b : StateBlock) (d : Dev) : Dev :=
  let d := (b.axus.zipIdx).foldl (fun d p =>
    let v := fun (i : Nat) => p.1.getD i 0
    let u := p.2
    let d := d.modAxu u (fun a => { a with thHat := v 0, wHat := v 1 })
    let d := (((d.wr (AXU_RVAL u) (v 2)).wr (AXU_RRATE u) (v 3)).wr (AXU_RTGT u) (v 4)).wr (AXU_THEST u) (v 0)
    let d := d.wr (AXU_WEST u) (v 1)
    ((d.setF (AXU_POSSTAT u) AXU_POSSTAT_PHASE ((v 5).fld AXU_POSSTAT_PHASE)).setF (AXU_POSSTAT u) AXU_POSSTAT_TRIES
      ((v 5).fld AXU_POSSTAT_TRIES)).setF (AXU_POSSTAT u) AXU_POSSTAT_LATCHED ((v 5).fld AXU_POSSTAT_LATCHED)) d
  let d := (b.chgs.zipIdx).foldl (fun d p =>
    let v := fun (i : Nat) => p.1.getD i 0
    let c := p.2
    let d := ((((d.wr (CHG_STAT c) (v 0)).wr (CHG_TEQ c) (v 1)).wr (CHG_TWALL c) (v 2)).wr (CHG_EBAT c) (v 3)).wr (CHG_ESOL c) (v 4)
    let x : Chg := Tab.getD default d.chgs c
    let since := (p.1.drop 6).map (fun w => (w.toNat / 2 ^ 24, d.now - BitVec.ofNat 64 (w.toNat % 2 ^ 24 * msTicks)))
    { d with chgs := Tab.set c { x with iCut := v 5, since := since, teq := (v 1).toNat * 100000, twall := (v 2).toNat * 100, ebat := (v 3).toNat * 3600000000, esol := (v 4).toNat * 3600000000 } d.chgs }) d
  let d := (b.cvus.zipIdx).foldl (fun d p =>
    let x : Chg := Tab.getD default d.chgs p.2
    let d := (d.setF (CVU_STAT p.2) CVU_STAT_NACT (p.1.getD 0 0).toNat).setF (CVU_STAT p.2) CVU_STAT_PLLOCK (p.1.getD 2 0).toNat
    if p.2 < 2 then { d with chgs := Tab.set p.2 { x with vref := p.1.getD 1 0 } d.chgs } else d) d
  let d := (b.legs.zipIdx).foldl (fun d p =>
    let v := fun (i : Nat) => p.1.getD i 0
    let n := p.2
    let d := ((d.wr (LEG_SHA n) (v 0)).wr (LEG_SHB n) (v 1)).wr (LEG_SHIFT n) (v 2)
    (((d.wr (LEG_ACTA n) (v 0)).wr (LEG_ACTB n) (v 1)).wr (LEG_ACTSHIFT n) (v 2)).modLeg n (fun l => { l with loaded := true })) d
  (b.trips.zipIdx).foldl (fun d p => d.wr (TRP_GFIRST p.2) p.1.2) d

/-- A charge channel goes on in its mirrored phase; a charging phase resumes from PRECHECK, timers and counters kept (Table
LNK-7). -/
def Dev.chgResume (c : Nat) (d : Dev) : Dev :=
  let ph := d.chgPhase c
  let d := d.modChg c (fun x => { x with phaseAt := d.now, fromIdle := false })
  d.when (d.chgOn c && cpPrecheck < ph && ph ≤ cpTopoff) (fun d => d.toPhase c cpPrecheck)

/-- Takeover in the order of R310, for cause `cause` of LNK_TKO. -/
def Dev.takeover (cause : Nat) (d : Dev) : Dev :=
  let d := d.setRole roleTakeover
  let d := d.applyStaged
  let d := d.whenSome d.lnk.block (fun b d => d.applyBlock b)
  let ep := match d.lnk.block with | some b => b.epoch | none => d.lnk.peerEpoch.getD d.now
  let e := ep + d.rd64 LNK_OFS_LO LNK_OFS_HI
  let d := (d.wr64 TKP_EPOCH_LO TKP_EPOCH_HI e).realign
  let gap := d.since d.lnk.lastEdge / 1600
  let d := d.nextJepoch
  let d := d.setToken true
  let d := d.wr64 LNK_TKOSTAMP_LO LNK_TKOSTAMP_HI d.now
  let d := d.wr LNK_TKO (BitVec.ofNat 32 (cause * 0x10000000 + min gap 0xFFFF))
  let d := (d.incSat LNK_CNT LNK_CNT_TAKEOVERS).evt EV_LNK_TAKEOVER [cause]
  let d := d.setRole roleAlone
  let d := d.forEach d.fns (fun f d =>
    let w := Tab.getD 0 d.lnk.peerFns f
    if w.fld RED_FNSTATE_ENABLED ≠ 0 && w.fld RED_FNSTATE_SAFE = 0 then
      let d := d.wr (RED_FNSTATE f) (w.setFld RED_FNSTATE_ENABLED 0)
      let d := { d with red := { d.red with enabling := withBits d.red.enabling f 1 1 } }
      (d.forEach (d.liveLegs f) (fun n d => d.startQuick n)).tryEnable f
    else
      let d := d.wr (RED_FNSTATE f) w
      if w.fld RED_FNSTATE_SAFE ≠ 0 then d.forEach (d.liveLegs f) (fun n d => d.startQuick n) else d)
  let d := d.forEach [0, 1] (fun c d => d.chgResume c)
  d.startLatching.jrnReplay

/-- RELEASE of the partner. -/
def Dev.releaseIn (d : Dev) : Dev := if d.role = roleStandby then d.takeover 1 else d

/-- Heartbeats fail to arrive while the partner's token is absent (R309, Table LNK-3). -/
def Dev.hbLoss (d : Dev) : Dev :=
  if !d.paired || d.peerTok || d.since d.lnk.lastHb < d.fld LNK_CFG LNK_CFG_HBLOSS * 10 * usTicks then d
  else if d.role = roleStandby then d.takeover 2
  else if d.role = roleSyncing && !d.lnk.noSucc then
    (d.modLnk (fun l => { l with noSucc := true })).evt EV_LNK_NO_SUCCESSOR []
  else d

/-- A write of LNK_CTRL (R298, R311, R362). -/
def Dev.yieldWrite (triad : Nat) (v : W) (d : Dev) : Dev :=
  if triad ≠ 0 then d.lockedWrite triad LNK_CTRL
  else if !v.bit 0 then d
  else if d.role = roleActive && d.lnk.peerRole = roleStandby && d.linkUp && d.fld LNK_STAT LNK_STAT_LANES = 0xF then
    d.modLnk (fun l => { l with yield := 1 })
  else d.evt EV_LNK_YIELD_REFUSED []

def Dev.retrainWrite (triad : Nat) (v : W) (d : Dev) : Dev :=
  if triad ≠ 0 then d.lockedWrite triad LNK_CTRL
  else if v.bit 1 then d.linkDown.linkRetry else d

/-- APPLIED during a planned release (R311). -/
def Dev.appliedIn (sc : Nat) (d : Dev) : Dev :=
  if d.lnk.yield = 2 && sc = d.lnk.sc && d.role = roleActive then (d.releaseToken 1).linkSend .release else d

/-- A frame of a link-bound queue or route (Table LNK-1). -/
def Dev.linkFrame (q : Nat) (fr : Frame) (d : Dev) : Dev :=
  let d := if d.qEn q && d.qRx q && d.qBind q = bindLink then d.storeFrame q 6 fr d.fstamp false else d
  d.forward 6 (frameDesc fr)

/-! ## Meanings -/

/-- TOKEN_WIRE (R295): A holder that reads no edge on its own DRV_TOKEN_OUT for 2 µs releases the token and records 0x230A. -/
def execTokenWire (t : Time) (s : State) : Host.Outcome State Fault Refusal :=
  s.on t (fun d => d.tokenWire)

/-- PEER_TOKEN_LOST (R295): DRV_TOKEN_IN shows no edge for 2 µs, so the partner no longer holds the token. -/
def execPeerTokenLost (t : Time) (s : State) : Host.Outcome State Fault Refusal :=
  s.on t (fun d => d.peerLost)

/-- TOKEN_RACE (R296): A holder that sees partner edges releases the token if it is side 1, and both record 0x230B. -/
def execTokenRace (t : Time) (s : State) : Host.Outcome State Fault Refusal :=
  s.on t (fun d => d.tokenRace)

/-- HB_SEND (R297): Every 10 µs the module sends a heartbeat frame over the Ciwin link. -/
def execHbSend (t : Time) (s : State) : Host.Outcome State Fault Refusal :=
  s.on t (fun d => d.sendHb)

/-- HB_RECEIVED (R299): A received heartbeat renews the partner STIME offset and the partner's state. -/
def execHbReceived (t : Time) (seq role : Nat) (tok : Bool) (stime : Time) (jepoch jpos sys : Nat) (warn : Bool) (s : State) : Host.Outcome State Fault Refusal :=
  s.on t (fun d => d.onLink seq (fun d => d.hbIn role tok stime jepoch jpos sys warn))

/-- LINK_ACK (R297): A cumulative link acknowledgement frees the acknowledged frames. -/
def execLinkAck (t : Time) (upTo : Nat) (s : State) : Host.Outcome State Fault Refusal :=
  s.on t (fun d => d.linkAcked upTo)

/-- LINK_RESEND (R297): A frame not acknowledged in 5 µs is resent; the eighth send declares the link down. -/
def execLinkResend (t : Time) (s : State) : Host.Outcome State Fault Refusal :=
  s.on t (fun d => d.linkResend)

/-- LINK_TRAINED (R298): Link training completes on four lanes or a good pair, and 0x2301 is recorded. -/
def execLinkTrained (t : Time) (lanes latency : Nat) (s : State) : Host.Outcome State Fault Refusal :=
  s.on t (fun d => d.linkTrained lanes latency)

/-- LINK_RETRAIN (R298): Every 100 ms a down link retries training. -/
def execLinkRetrain (t : Time) (s : State) : Host.Outcome State Fault Refusal :=
  s.on t (fun d => d.linkRetry)

/-- LANE_DEGRADED (R298): A lane with more than 16 code errors in 1 ms is dropped, the link runs on half its lanes and 0x230D is recorded. -/
def execLaneDegraded (t : Time) (lane : Fin 4) (errs : Nat) (s : State) : Host.Outcome State Fault Refusal :=
  s.on t (fun d => d.laneDegraded lane errs)

/-- RETRAIN (R298): A T0 write of LNK_CTRL.RETRAIN retrains the link now. -/
def execRetrain (t : Time) (triad : Fin 4) (v : W) (s : State) : Host.Outcome State Fault Refusal :=
  s.on t (fun d => d.retrainWrite triad v)

/-- HELLO_RECEIVED (R301): The partner's HELLO is received and each module decides its role. -/
def execHelloReceived (t : Time) (seq : Nat) (dig0 dig1 epoch : W) (side : Bool) (jepoch jpos role sys : Nat) (tkEpoch : Option Time) (s : State) : Host.Outcome State Fault Refusal :=
  s.on t (fun d => d.onLink seq (fun d => d.hello dig0 dig1 epoch side jepoch jpos role sys tkEpoch))

/-- SOLO_CLAIM (R302): A paired module without a link claims the token after SOLOWAIT without partner edges and enters ALONE. -/
def execSoloClaim (t : Time) (s : State) : Host.Outcome State Fault Refusal :=
  s.on t (fun d => d.soloClaim)

/-- FNSTATE_RECEIVED (R304): A partner's FNSTATE frame updates the mirrored state of one function. -/
def execFnstateReceived (t : Time) (seq : Nat) (f : Fin 32) (v : W) (s : State) : Host.Outcome State Fault Refusal :=
  s.on t (fun d => d.onLink seq (fun d => if d.follows then d.modLnk (fun l => { l with peerFns := Tab.set f v l.peerFns }) else d))

/-- JRN_RECEIVED (R305): The partner commits a mirrored journal record to its MRAM and answers JACK. -/
def execJrnReceived (t : Time) (seq jpos kind que eseq : Nat) (body : List Byte) (s : State) : Host.Outcome State Fault Refusal :=
  s.on t (fun d => d.onLink seq (fun d => d.jrnMirrored jpos kind que eseq body))

/-- MIR_RECEIVED (R308): A mirror segment is staged in the partner's staging buffer. -/
def execMirReceived (t : Time) (seq addr : Nat) (bytes : List Byte) (s : State) : Host.Outcome State Fault Refusal :=
  s.on t (fun d => d.onLink seq (fun d => if d.follows then d.modLnk (fun l => { l with staging := l.staging ++ [(addr, bytes)] }) else d))

/-- MIREND_RECEIVED (R308): MIREND's CRC is checked, and a whole copy starts being written to its addresses; a bad copy is discarded. -/
def execMirendReceived (t : Time) (seq sc : Nat) (good : Bool) (blk : StateBlock) (s : State) : Host.Outcome State Fault Refusal :=
  s.on t (fun d => d.onLink seq (fun d => d.mirEnd sc good blk))

/-- MIRROR_APPLIED (R308): The staged copy is written to its addresses and APPLIED is sent. -/
def execMirrorApplied (t : Time) (s : State) : Host.Outcome State Fault Refusal :=
  s.on t (fun d => d.mirApplied)

/-- APPLIED_RECEIVED (R311): During a planned yield, APPLIED lets the active module release the token, send RELEASE and enter SYNCING. -/
def execAppliedReceived (t : Time) (seq sc : Nat) (s : State) : Host.Outcome State Fault Refusal :=
  s.on t (fun d => d.onLink seq (fun d => d.appliedIn sc))

/-- RELEASE_RECEIVED (R309): A STANDBY module that receives RELEASE takes over without waiting for the heartbeat. -/
def execReleaseReceived (t : Time) (seq : Nat) (s : State) : Host.Outcome State Fault Refusal :=
  s.on t (fun d => d.onLink seq Dev.releaseIn)

/-- HB_LOSS (R309): No heartbeat for HBLOSS × 10 µs while the partner's token is also absent. -/
def execHbLoss (t : Time) (s : State) : Host.Outcome State Fault Refusal :=
  s.on t (fun d => d.hbLoss)

/-- YIELD (R311): A T0 write of LNK_CTRL.YIELD begins a planned hand-over, or is refused with 0x2310. -/
def execYield (t : Time) (triad : Fin 4) (v : W) (s : State) : Host.Outcome State Fault Refusal :=
  s.on t (fun d => d.yieldWrite triad v)

/-- LINK_QUEUE_FRAME (R297): A QUEUE frame of a queue or route bound to the link is received and taken into its queue. -/
def execLinkQueueFrame (t : Time) (seq : Nat) (q : Fin 32) (fr : Frame) (s : State) : Host.Outcome State Fault Refusal :=
  s.on t (fun d => d.onLink seq (fun d => d.linkFrame q fr))

/-- PEER_TOKEN_SEEN (R295): An edge appears on DRV_TOKEN_IN after silence, so the partner counts as holding the token and PEERTOK is set. -/
def execPeerTokenSeen (t : Time) (s : State) : Host.Outcome State Fault Refusal :=
  s.on t (fun d => d.peerSeen)

end Sys2Proof.Machine
end

