-- ==== Sys2Proof/Machine/Thm.lean ====
section
/-! DEFINITION. The Lehr (chapter 17): sensors and their faults, region temperatures, levels, pauses, the current-limit
factor and the shutdown. Temperatures are in 1/16 °C. -/

namespace Sys2Proof.Machine

abbrev deg (n : Int) : Int := 16 * n

/-! ## Sensors (R382–R386) -/

/-- What one sample does to a sensor: `open_` says that its voltage shows an open or shorted sensor. -/
def Sensor.take (now : Time) (r : Option (Bool × Int)) (s : Sensor) : Sensor :=
  match r with
  | none => { s with tried := some now, missed := s.missed + 1, usable := s.usable && s.missed + 1 < 3 }
  | some (bad, temp) =>
    let gap := min (now.toNat - s.lastAt.toNat) (10 * msTicks)
    let jump := match s.last with
      | some old => decide (((deg 20) * gap : Int) < (temp - old).natAbs * (10 * msTicks))
      | none => false
    let implausible := decide (temp < deg (-55) ∨ deg 200 < temp) || jump
    { s with last := some temp, lastAt := now, tried := some now, missed := 0, usable := !(bad || implausible) }

/-- Do two readings of a pair differ by more than 8 K (R385)? -/
def disagree (a b : Sensor) : Bool :=
  match a.last, b.last with
  | some x, some y => a.usable && b.usable && deg 8 < ((x - y).natAbs : Int)
  | _, _ => false

/-- A sensor after a sample: broken while a condition of R385 holds, in service after 1 s of good readings. `reg` is its
register, `name` what the record's byte 0 holds. -/
def Dev.sensorState (reg name : Nat) (s : Sensor) (split : Bool) (d : Dev) : Sensor × Dev :=
  let bad := split || (s.tried.isSome && !s.usable)
  let temp := s.last.getD 0
  let body := [name, 0] ++ le2 (unsignedOf 16 temp)
  let d := d.setF reg ⟨0, 16⟩ (unsignedOf 16 temp)
  if bad then
    let was := d.bit reg 31
    let d := d.putBit reg 31 true
    ({ s with goodSince := none },
     d.when (!was) (fun d => (d.setF THM_FLT THM_FLT_BROKEN 1).evt EV_THM_SENSOR_BROKEN body))
  else if d.bit reg 31 then
    match s.goodSince with
    | none => ({ s with goodSince := some d.now }, d)
    | some t =>
      if secTicks ≤ d.since t then ({ s with goodSince := none }, (d.putBit reg 31 false).evt EV_THM_SENSOR_OK body) else (s, d)
  else (s, d)

def Dev.die (d : Dev) (i : Nat) : Sensor := Tab.getD { (default : Sensor) with usable := true } d.thm.die i
def Dev.ntc (d : Dev) (n : Nat) : Sensor := Tab.getD { (default : Sensor) with usable := true } d.thm.ntc n

/-- A region's temperature (R386). -/
def Dev.regionTemp (d : Dev) (r : Nat) : Int :=
  let a := d.die (2 * r)
  let b := d.die (2 * r + 1)
  let bad := fun (i : Nat) => d.bit (THM_DIE i) 31
  let use := fun (s : Sensor) => if s.usable then s.last.toList else []
  let top := fun (xs : List Int) => xs.foldl max (deg 145)
  match bad (2 * r), bad (2 * r + 1) with
  | false, false => max (a.last.getD 0) (b.last.getD 0)
  | true, false => top (use b)
  | false, true => top (use a)
  | true, true => top (use a ++ use b)

/-! ## Levels and pauses (R384, R387, R388) -/

/-- The entry temperatures of levels 1 to 4. -/
def levelTemps : List Int := [deg 135, deg 140, deg 145, deg 155]

/-- The sampling interval by the distance to the nearest of the levels: its code and its fine ticks (R384). -/
def cadence (levels : List Int) (temp : Int) : Nat × Nat :=
  let dist := levels.foldl (fun (m : Nat) l => min m (temp - l).natAbs) 1000000
  if dist ≤ 48 then (2, 1600000) else if dist ≤ 160 then (1, 16000000) else (0, 160000000)

/-- Table THM-1 with its 3 K hysteresis; SHUTDOWN is entered by R391. -/
def nextLevel (cur : Nat) (temp : Int) : Nat :=
  (List.range 3).foldl (fun m i =>
    let l := i + 1
    if levelTemps.getD i 0 ≤ temp || (l ≤ cur && levelTemps.getD i 0 - deg 3 ≤ temp) then l else m) 0

def Dev.thmLevel (d : Dev) : Nat := d.fld THM_STAT THM_STAT_LEVEL
def Dev.pauseDepth (d : Dev) : Nat := d.fld THM_STAT THM_STAT_D

/-- A change of level: its event, its flag, and the fall of VCORE ended (R39, R387). -/
def Dev.toLevel (l region : Nat) (temp : Int) (d : Dev) : Dev :=
  if d.thmLevel = l then d
  else
    let d := d.setF THM_STAT THM_STAT_LEVEL l
    let d := if l = 0 then d else d.putBit THM_FLT (l - 1) true
    d.evt ([EV_THM_NORMAL, EV_THM_WARNING, EV_THM_THROTTLE, EV_THM_DERATE].getD l EV_THM_SHUTDOWN) ([region, 0] ++ le2 (unsignedOf 16 temp))

/-- The pause depth after a die sample (R388). -/
def Dev.pause (temp : Int) (d : Dev) : Dev :=
  let x := d.pauseDepth
  let y := if deg 140 ≤ temp then min (x + 1) (max x (d.fld THM_CFG THM_CFG_DMAX)) else if temp < deg 137 then x - 1 else x
  (d.setF THM_STAT THM_STAT_D y).setF BKG_STAT BKG_STAT_PAUSED (b2n (decide (1 ≤ y)))

/-! ## The current-limit factor (R389, R390) -/

def fNinety : W := fC 9 10

/-- The die factor. -/
def dieFactor (level : Nat) (temp : Int) : W :=
  if level < 3 then f1 else fMaxN f0 (fMinN fNinety (fOfRatio (deg 155 - temp) 160))

/-- The temperature an NTC input reads: a broken one its DERATE level or its highest unbroken pair reading. -/
def Dev.ntcTemp (d : Dev) (n : Nat) : W :=
  let own := Tab.getD f0 d.thm.ntcT n
  if d.bit (THM_NTCT n) 31 then
    let der := d.rd (THM_NTCDER n)
    let pair := d.fld (THM_NTCCFG n) THM_NTCCFG_PAIR
    if pair < 24 && d.isSet (THM_NTCCFG pair) THM_NTCCFG_EN && !d.bit (THM_NTCT pair) 31 then fMaxN der (Tab.getD f0 d.thm.ntcT pair) else der
  else own

/-- The factor of an NTC input over its own levels. -/
def Dev.ntcFactor (d : Dev) (n : Nat) : W :=
  let stop := d.rd (THM_NTCSTOP n)
  match Tab.getD 0 d.thm.ntcLvl n with
  | 0 => f1
  | 1 => fMaxN f0 (fMinN fNinety (fDiv (fSub stop (d.ntcTemp n)) (fSub stop (d.rd (THM_NTCDER n)))))
  | _ => f0

/-- The target of k of function `f`. -/
def Dev.kTarget (d : Dev) (f : Nat) : W :=
  let temp := signedOf 16 (d.fld (THM_REG (d.fld THM_STAT THM_STAT_HOTREG)) ⟨0, 16⟩)
  ((List.range 24).filter (fun n => d.isSet (THM_NTCCFG n) THM_NTCCFG_EN && d.bit (THM_NTCFN n) f)).foldl
    (fun k n => fMinN k (d.ntcFactor n)) (dieFactor d.thmLevel temp)

/-- New targets: a fall takes effect at once. -/
def Dev.kUpdate (d : Dev) : Dev :=
  d.forEach (List.range 32) (fun f d =>
    let x := d.kTarget f
    let d := { d with thm := { d.thm with kTgt := Tab.set f x d.thm.kTgt } }
    if fLt x (d.rd (THM_K f)) then d.wr (THM_K f) x else d)

/-- One function's factor rises by at most 0.01 towards its target. -/
def Dev.kStep (f : Nat) (d : Dev) : Dev :=
  let x := Tab.getD f1 d.thm.kTgt f
  let k := d.rd (THM_K f)
  if fLt k x then d.wr (THM_K f) (fMinN x (fAdd k (fC 1 100))) else d

/-- Each millisecond a rising factor rises by at most 0.01. -/
def Dev.kRise (d : Dev) : Dev :=
  if d.since d.thm.lastRise < msTicks then d
  else ({ d with thm := { d.thm with lastRise := d.now } } : Dev).forEach (List.range 32) Dev.kStep

/-! ## Shutdown (R391, R392) -/

/-- The order of R391: gate links, token and link; ports; journal; the record, kept with the Gales in MRAM; triads. -/
def Dev.thmShutdown (region : Nat) (temp : Int) (d : Dev) : Dev :=
  let d := (d.forEach (List.range 48) (fun n d => d.undrive n)).setToken false
  let d := d.setF LNK_STAT LNK_STAT_LINKUP 0
  let d := { d with lnk := { d.lnk with unacked := [], copy := none, staging := [] } }
  let d := d.forEach d.fns (fun f d => d.disableFn f)
  let d := d.forEach (List.range 6) (fun n d =>
    let d := d.whenSome (d.port n).tx (fun p d => d.txOver n p.1)
    (d.setBus n bsOff).modPort n (fun p => { p with recovering := false, integrating := false, abdRun := false }))
  let d := d.jrnFlush
  let d := ((d.setF THM_STAT THM_STAT_LEVEL 4).setF THM_STAT THM_STAT_SHUT 1).evt EV_THM_SHUTDOWN
    ([region, 0] ++ le2 (unsignedOf 16 temp))
  let d := { d with gales := keepGale (Tab.getD default d.log ((d.fld SYS_EVT_HEAD SYS_EVT_HEAD_HEAD + 1023) % 1024)) d.gales }
  let d := d.forEach (List.range 4) (fun t d => (d.setTmode t tmHalted).modTriad t (fun x => { x with wait := .halted }))
  d.setSys stShutdown

/-! ## Samples -/

/-- The hottest region and its temperature; the first of equals. -/
def Dev.hottest (d : Dev) : Nat × Int :=
  (List.range 9).foldl (fun m r => if m.2 < d.regionTemp r then (r, d.regionTemp r) else m) (0, d.regionTemp 0)

/-- A pad check is due on a driven leg whose die temperature has moved by 5 K (R82). -/
def Dev.padTemps (d : Dev) : Dev :=
  let temp := signedOf 16 (d.fld (THM_DIE 0) ⟨0, 16⟩)
  d.forEach ((List.range 48).filter (fun n => d.isSet (LEG_STAT n) LEG_STAT_TXEN)) (fun n d =>
    if deg 5 ≤ ((temp - (d.legOf n).padTemp).natAbs : Int) then d.modLeg n (fun l => { l with padDue := true }) else d)

/-- Is a sample of the die sensors due (R384)? -/
def Dev.dieDue (d : Dev) : Bool :=
  let wait := [160000000, 16000000, 1600000].getD (d.fld THM_STAT THM_STAT_CAD) 160000000
  match d.thm.lastDie with | none => true | some t => decide (wait ≤ d.since t)

/-- The 18 readings taken, the states of the sensors and the region temperatures (R382–R386). -/
def Dev.dieTake (rs : List (Option (Nat × Int))) (d : Dev) : Dev :=
  let d := { d with thm := { d.thm with lastDie := some d.now } }
  let d := d.forEach (List.range 18) (fun i d =>
    let r := (rs.getD i none).map (fun p => (decide (2950 < p.1 ∨ p.1 < 100), p.2))
    { d with thm := { d.thm with die := Tab.set i ((d.die i).take d.now r) d.thm.die } })
  let d := d.forEach (List.range 18) (fun i d =>
    let (s, d) := d.sensorState (THM_DIE i) (i / 2) (d.die i) (disagree (d.die i) (d.die (i / 2 * 2 + (i + 1) % 2)))
    { d with thm := { d.thm with die := Tab.set i s d.thm.die } })
  let d := d.forEach (List.range 9) (fun r d => d.setF (THM_REG r) ⟨0, 16⟩ (unsignedOf 16 (d.regionTemp r)))
  (d.setF THM_STAT THM_STAT_HOTREG d.hottest.1).setF THM_STAT THM_STAT_CAD (cadence levelTemps d.hottest.2).1

/-- What the hottest region's temperature does: SHUTDOWN at 155 °C, else level, pause and factors (R387–R391). -/
def Dev.dieAct (hot : Nat) (temp : Int) (d : Dev) : Dev :=
  let d := d.padTemps
  if deg 155 ≤ temp then d.thmShutdown hot temp
  else
    let d := d.toLevel (nextLevel d.thmLevel temp) hot temp
    let d := { d with vcore := { d.vcore with normal := d.vcore.normal && d.thmLevel = 0 } }
    (d.pause temp).kUpdate

/-- THM_DIE_SAMPLE: all 18 die sensors, each a voltage in mV with the temperature its curve gives, or a failed
conversion. -/
def Dev.dieSample (rs : List (Option (Nat × Int))) (d : Dev) : Dev :=
  if d.por || !d.isSet TKP_STAT TKP_STAT_REF_OK || !d.dieDue then d
  else
    let d := d.dieTake rs
    if d.isSet THM_STAT THM_STAT_SHUT then d else d.dieAct d.hottest.1 d.hottest.2

/-- The NTC formula of R383 for an input voltage in nV. -/
def Dev.ntcFormula (d : Dev) (n : Nat) (nv : Int) : W :=
  let v := fOfRatio nv 1000000000
  let r := fDiv (fMul (d.rd (THM_NTCRP n)) v) (fSub (fC 3 1) v)
  let inv := fAdd (fDiv f1 (fC 29815 100)) (fDiv (fLn (fDiv r (d.rd (THM_NTCR0 n)))) (d.rd (THM_NTCB n)))
  fSub (fDiv f1 inv) (fC 27315 100)

/-- An NTC input's level after a sample, with 3 K below DERATE to leave it (R389, R390). -/
def Dev.ntcLevel (n : Nat) (d : Dev) : Dev :=
  let temp := d.ntcTemp n
  let der := d.rd (THM_NTCDER n)
  let old := Tab.getD 0 d.thm.ntcLvl n
  let new := if fGe temp (d.rd (THM_NTCSTOP n)) then 2
    else if fGe temp der || (1 ≤ old && fGe temp (fSub der (fC 3 1))) then 1 else 0
  let d := { d with thm := { d.thm with ntcLvl := Tab.set n new d.thm.ntcLvl } }
  if new = 2 && old ≠ 2 then
    (d.setF THM_FLT THM_FLT_NTCSTOP 1).evt EV_THM_NTC_STOP ([n, 0] ++ le2 (d.fld (THM_NTCT n) ⟨0, 16⟩))
  else d

/-- A temperature word in 1/16 °C, clamped to a register's 16 bits. -/
def sixteenths (w : W) : Int := clampI (-32768) 32767 (fNearMul w 16)

/-- Is a sample of an NTC input due (R384)? -/
def Dev.ntcDue (d : Dev) (n : Nat) : Bool :=
  let levels := [sixteenths (d.rd (THM_NTCDER n)), sixteenths (d.rd (THM_NTCSTOP n))]
  let wait := (cadence levels (sixteenths (Tab.getD f0 d.thm.ntcT n))).2
  match (d.ntc n).tried with | none => true | some t => decide (wait ≤ d.since t)

/-- A reading of an NTC input taken, and the input's state (R383, R385). -/
def Dev.ntcTake (n : Nat) (r : Option Int) (d : Dev) : Dev :=
  let d := d.whenSome r (fun nv d => { d with thm := { d.thm with ntcT := Tab.set n (d.ntcFormula n nv) d.thm.ntcT } })
  let reading := r.map (fun nv => (decide (2950000000 < nv ∨ nv < 50000000), sixteenths (Tab.getD f0 d.thm.ntcT n)))
  let d := { d with thm := { d.thm with ntc := Tab.set n ((d.ntc n).take d.now reading) d.thm.ntc } }
  let pair := d.fld (THM_NTCCFG n) THM_NTCCFG_PAIR
  let split := decide (pair < 24) && disagree (d.ntc n) (d.ntc pair)
  let (s, d) := d.sensorState (THM_NTCT n) n (d.ntc n) split
  { d with thm := { d.thm with ntc := Tab.set n s d.thm.ntc } }

/-- THM_NTC_SAMPLE: an enabled NTC input converted to a voltage in nV, or a failed conversion. -/
def Dev.ntcSample (n : Nat) (r : Option Int) (d : Dev) : Dev :=
  if d.por || !d.isSet TKP_STAT TKP_STAT_REF_OK || !d.isSet (THM_NTCCFG n) THM_NTCCFG_EN || !d.ntcDue n then d
  else ((d.ntcTake n r).ntcLevel n).kUpdate

/-! ## Meanings -/

/-- THM_DIE_SAMPLE (R384): At its cadence, the Lehr samples the die sensors, updates regions, level and pause depth, and k. -/
def execThmDieSample (t : Time) (rs : List (Option (Nat × Int))) (s : State) : Host.Outcome State Fault Refusal :=
  s.onAny t (fun d => d.dieSample rs)

/-- THM_NTC_SAMPLE (R384): At its cadence, an enabled NTC input is converted and its factor for the guarded functions is updated. -/
def execThmNtcSample (t : Time) (n : Fin 24) (r : Option Int) (s : State) : Host.Outcome State Fault Refusal :=
  s.onAny t (fun d => d.ntcSample n r)

/-- K_RISE (R389): Each millisecond a rising current-limit factor increases by at most 0.01. -/
def execKRise (t : Time) (s : State) : Host.Outcome State Fault Refusal :=
  s.on t (fun d => d.kRise)

end Sys2Proof.Machine
end

