-- ==== Sys2Proof/Machine/Bkg.lean ====
section
/-! DEFINITION. Background work (chapter 18): memory errors, Marver rounds, the wear check, requested and periodic tests,
scrub passes and telemetry. -/

namespace Sys2Proof.Machine

/-- Background work but the Marver rounds is paused, by the Lehr (R388) or during a supply warning (R431). -/
def Dev.paused (d : Dev) : Bool := d.isSet BKG_STAT BKG_STAT_PAUSED || d.isSet SUP_STAT SUP_STAT_WARN

/-! ## Memory errors (R396, Table BKG-1) -/

/-- A correctable error of memory `m` was met and the word rewritten. -/
def Dev.memCorrected (m addr : Nat) (d : Dev) : Dev :=
  let d := ((d.incSat (BKG_MEMCNT m) BKG_MEMCNT_CORR).setF BKG_FLT BKG_FLT_CORR 1)
  ({ d with bkg := { d.bkg with corr := d.bkg.corr + 1 } }).evtRated EV_BKG_MEM_CORRECTED m ([m, 0, 0, 0] ++ le4 addr)

/-- The functions with a cascade whose block holds an address of coefficient memory (R158). -/
def Dev.blockFns (d : Dev) (addr : Nat) : List Nat :=
  let w := (addr - 0x18000000) / 4
  d.fns.filter (fun f => (d.funcD f).casc.any (fun c => d.cascHdr c.1 ≤ w && w < d.cascHdr c.1 + d.cascWords c.1))

/-- What an uncorrectable error of each memory does. `k` is the triad of a triad-local SRAM. -/
def Dev.memError (m addr k : Nat) (d : Dev) : Dev :=
  if m = 0 then
    let w := addr / 8 * 8
    if d.bkg.poison.contains w then d else { d with bkg := { d.bkg with poison := w :: d.bkg.poison } }
  else if m = 1 then (if d.triadLive k then d.triadDisagree k [] else d)
  else if m = 2 then
    d.forEach (d.blockFns addr) (fun f d => d.noSubst (some f) EV_BKG_MEM_UNCORRECTABLE)
  else if m = 3 then
    let i := (addr - sigBase) / 16
    let a := sigBase + 16 * i
    (d.sigPut a (List.replicate 8 0)).sigPut (a + 12) (leBytes 4 (withBits (d.sigAttr i).toNat 28 1 0))
  else
    let off := addr - 0x20000000
    match d.jrn.live.find? (fun e => (off + ringBytes - e.off) % ringBytes < e.len) with
    | some e =>
      if ringBytes ≤ off then d
      else ((d.setF JRN_FLT JRN_FLT_CORRUPT 1).evt EV_JRN_CORRUPT ([e.que] ++ le8 e.jpos))
    | none => d

/-- MEM_UNCORRECTABLE: recorded with the class Table BKG-6 gives, then handled. -/
def Dev.memUncorrectable (m addr k : Nat) (d : Dev) : Dev :=
  let d := (d.incSat (BKG_MEMCNT m) BKG_MEMCNT_UNCORR).setF BKG_FLT BKG_FLT_UNCORR 1
  let d := { d with bkg := { d.bkg with uncorr := d.bkg.uncorr + 1 } }
  let d := d.evtC (if m = 2 then clsSafe else clsWarning) EV_BKG_MEM_UNCORRECTABLE srcHw ([m, 0, 0, 0] ++ le4 addr)
  d.memError m addr k

/-! ## Marver rounds (R397, R398) -/

def Dev.marvPer (d : Dev) : Nat := d.fld BKG_CFG BKG_CFG_MARVPER * msTicks

/-- An enabled slot has target kind 0x8. -/
def Dev.marvSlot (d : Dev) : Bool :=
  (List.range 64).any (fun n =>
    let w := d.rd (TKP_SLOT_TGT n)
    d.bit (if n < 32 then TKP_SLOTEN0 else TKP_SLOTEN1) (n % 32) &&
      (w.fld TKP_SLOT_TGT_TGTA_KIND = 8 || w.fld TKP_SLOT_TGT_TGTB_KIND = 8))

/-- May a round start now? -/
def Dev.marvDue (d : Dev) : Bool :=
  d.inRun && d.bkg.marvEnd.toNat ≤ d.now.toNat &&
    ((List.range 4).any (fun t => d.reqGo t && (d.rdOwn t BKG_REQ).fld BKG_REQ_KIND = 7) ||
      (d.marvPer ≤ d.since d.bkg.marvStart && (!d.marvSlot || (d.tk.tick = d.now && d.tk.delivered.any (fun x => x.1 = 8)))))

/-- The steps of a round (Table BKG-2), their effects, its length and the requests for a round. -/
def Dev.marverRun (reads : List (Nat × Nat × Int)) (us : Nat) (d : Dev) : Dev :=
  let before := d.bkg.marvStart
  let d := d.forEach ((List.range 48).filter (fun n => d.isSet (LEG_STAT n) LEG_STAT_TXEN))
    (fun n d => d.modLeg n (fun l => { l with padDue := true }))
  let d := reads.foldl (fun d p => d.dacReadback (p.1 % 64) (p.2.1 % 2) p.2.2) d
  let first := (List.range 9).filter (fun n => !d.bit ADC_STAT (16 + n) && (d.conv n).calAt.toNat < before.toNat)
  let d := { d with bkg := { d.bkg with calFirst := (d.bkg.calFirst ++ first).eraseDups, marvStart := d.now, lateRec := false
                                        marvEnd := d.now + BitVec.ofNat 64 (us * usTicks) } }
  let d := (d.setF BKG_MARV BKG_MARV_ROUNDS (d.fld BKG_MARV BKG_MARV_ROUNDS + 1)).setF BKG_MARV BKG_MARV_LAST (min us 65535)
  d.forEach (List.range 4) (fun t d =>
    d.when (d.reqGo t && (d.rdOwn t BKG_REQ).fld BKG_REQ_KIND = 7) (fun d => d.reqEnd t brPass))

/-- MARVER_ROUND: the round's steps (Table BKG-2). Pad checks are due at the next period boundary of each driven leg; the
readbacks are window, side and error in 0.1 mV; the round lasts `us` µs. -/
def Dev.marverRound (reads : List (Nat × Nat × Int)) (us : Nat) (d : Dev) : Dev :=
  if !d.marvDue then d else d.marverRun reads us

/-- MARVER_LATE: the round still runs MARVPER after its start. -/
def Dev.marverLate (d : Dev) : Dev :=
  if d.now.toNat < d.bkg.marvEnd.toNat && d.marvPer ≤ d.since d.bkg.marvStart && !d.bkg.lateRec then
    (({ d with bkg := { d.bkg with lateRec := true } }).setF BKG_FLT BKG_FLT_MARVLATE 1).evt EV_BKG_MARVER_LATE []
  else d

/-! ## Journal wear (R399) -/

def Dev.wearCheck (d : Dev) : Dev :=
  if !d.inRun || d.paused || d.since d.bkg.wearAt < secTicks then d
  else
    let d := { d with bkg := { d.bkg with wearAt := d.now } }
    if 8000000000 ≤ d.jrn.passes.toNat && !d.bkg.worn then
      (({ d with bkg := { d.bkg with worn := true } }).setF BKG_FLT BKG_FLT_WEAR 1).evt EV_BKG_WEAR_WARN []
    else d

/-! ## Tests on request (R400, R401) -/

def Dev.coreRetired (d : Dev) (c : Nat) : Bool := d.bit (RED_TSTAT (c / 3)) (8 + c % 3)

/-- Would Table BKG-3 refuse a self-test of core `c`? -/
def Dev.coreRefused (d : Dev) (c : Nat) : Bool :=
  12 ≤ c || d.coreRetired c || d.tmode (c / 3) = tmDual || d.tmode (c / 3) = tmHalted

/-- May the self-test of core `c` start? -/
def Dev.coreReady (d : Dev) (c : Nat) : Bool :=
  d.bkg.coreTest.isNone && !d.coreRefused c && d.tmode (c / 3) = tmTriple && d.triadLive (c / 3) &&
    !d.isSet (RED_TSTAT (c / 3)) RED_TSTAT_RESTARTING && !d.paused

/-- The core is taken out as a minority would be; no Gust is charged. -/
def Dev.coreStart (c : Nat) (who : Option Nat) (d : Dev) : Dev :=
  let d := (d.minority (c / 3) (c % 3)).setF BKG_STAT BKG_STAT_CORETEST 1
  let d := { d with bkg := { d.bkg with coreTest := some (c, who) } }
  d.whenSome who (fun t d => d.reqShow t brGranted)

/-- CORE_SELFTEST_DONE: the known-answer test of core `c` ends, for a test in progress or for a request that waits for
it: the core rejoins, or it is a Gale with reason TEST. -/
def Dev.coreDone (c : Nat) (pass : Bool) (d : Dev) : Dev :=
  let d := match (List.range 4).find? (fun t => d.reqIs t 5 c) with
    | some t => d.when (d.coreReady c) (fun d => d.coreStart c (some t))
    | none => d
  match d.bkg.coreTest with
  | some (x, _) =>
    if x ≠ c then d
    else
      let d := ({ d with bkg := { d.bkg with coreTest := none } }).setF BKG_STAT BKG_STAT_CORETEST 0
      (if pass then d.triadResync (c / 3) else d.gale 1 c gaTest 0xF).reqServed 5 c pass
  | none => d

/-- CORE_SELFTEST_PERIODIC: the next core in turn that Table BKG-3 would not refuse. -/
def Dev.corePeriodic (d : Dev) : Dev :=
  let per := d.fld BKG_CFG BKG_CFG_CORPER
  if per = 0 || !d.inRun || d.since d.bkg.coreAt < per * secTicks then d
  else
    match ((List.range 12).map (fun i => (d.bkg.coreNext + i) % 12)).find? (fun c => !d.coreRefused c) with
    | none => d
    | some c =>
      if !d.coreReady c then d
      else ({ d with bkg := { d.bkg with coreNext := (c + 1) % 12, coreAt := d.now } }).coreStart c none

/-- Is a request of this kind and target refused (Table BKG-3)? An index without a resource is refused too. -/
def Dev.reqRefused (d : Dev) (kind target : Nat) : Bool :=
  match kind with
  | 1 => 9 ≤ target || d.bit ADC_STAT (16 + target) || d.spareConv = 0xF
  | 2 => 64 ≤ target || d.isSet (CMP_STAT target) CMP_STAT_RETIRED || !d.isSet (CMP_CFG target) CMP_CFG_EN
  | 3 => 48 ≤ target || d.isSet (LEG_STAT target) LEG_STAT_RETIRED
  | 4 => 16 ≤ target || d.isSet (CEN_STAT target) CEN_STAT_RETIRED
  | 5 => d.coreRefused target
  | 6 => 4 < target
  | 7 => false
  | _ => true

/-- What a granted request sets going. -/
def Dev.reqBegin (t kind target : Nat) (d : Dev) : Dev :=
  match kind with
  | 1 => { d with bkg := { d.bkg with calFirst := (target :: d.bkg.calFirst).eraseDups } }
  | 3 => d.modLeg target (fun l => { l with padDue := true })
  | 5 => if d.coreReady target then d.coreStart target (some t) else d
  | 6 => ({ d with bkg := { d.bkg with scrubAt := Tab.set target d.now d.bkg.scrubAt } }).reqShow t brGranted
  | 7 => if d.now.toNat < d.bkg.marvEnd.toNat then d.reqEnd t brPass else d
  | _ => d

/-- A request that Table BKG-3 does not refuse is in force; a pause defers it. -/
def Dev.reqGrant (t kind target : Nat) (d : Dev) : Dev :=
  let d := { d with bkg := { d.bkg with reqAt := Tab.set t d.now d.bkg.reqAt, progress := Tab.set t default d.bkg.progress } }
  let d := d.reqBegin t kind target
  if kind ≠ 7 && d.paused then d.reqDefer t else d

/-- A write of BKG_REQ by triad `t` (R400): a GO while its request is pending is ignored. -/
def Dev.bkgRequest (t : Nat) (v : W) (d : Dev) : Dev :=
  if d.reqGo t then d
  else
    let kind := v.fld BKG_REQ_KIND
    let target := v.fld BKG_REQ_TARGET
    let d := d.wrOwn t BKG_REQ (v &&& 0x800FFFFF)
    if !v.bit 31 then d
    else
      let d := d.reqShow t brPending
      if d.reqRefused kind target then (d.reqEnd t brRefused).evt EV_BKG_REFUSED [t]
      else d.reqGrant t kind target

/-- A request of one kind, as the word that BKG_REQ takes. -/
def reqWord (kind target : Nat) : W := BitVec.ofNat 32 (0x80000000 + kind * 0x10000 + target % 65536)

/-- Has the wait of Table BKG-3 run out for triad `t`'s request? -/
def Dev.waitOver (d : Dev) (t : Nat) : Bool :=
  let w := d.rdOwn t BKG_REQ
  let target := w.fld BKG_REQ_TARGET
  let gone := d.since (Tab.getD 0 d.bkg.reqAt t)
  match w.fld BKG_REQ_KIND with
  | 1 => decide (10 * msTicks ≤ gone)
  | 2 =>
    let sample := if d.isSet (CMP_CFG target) CMP_CFG_SAMP then d.fld (CMP_CFG target) CMP_CFG_TICK * 400 else 320
    decide (msTicks + 4 * 1024 * sample ≤ gone)
  | 3 => d.isSet (LEG_STAT target) LEG_STAT_TXEN && decide (d.fld (LEG_PER target) LEG_PER_PER ≤ gone)
  | 4 => decide (10 * d.fld (CEN_CFG target) CEN_CFG_STPER * msTicks ≤ gone)
  | 5 => decide (msTicks ≤ gone) && (d.tmode (target / 3) = tmResync || d.isSet (RED_TSTAT (target / 3)) RED_TSTAT_RESTARTING)
  | 6 => d.paused
  | _ => false

/-- BKG_REQ_DEFERRED. -/
def Dev.bkgDeferred (t : Nat) (d : Dev) : Dev :=
  let r := (d.rdOwn t BKG_RES).fld BKG_RES_RESULT
  if d.reqGo t && r ≠ brDeferred && (d.waitOver t || d.paused && (d.rdOwn t BKG_REQ).fld BKG_REQ_KIND ≠ 7) &&
      !(r = brGranted && (d.rdOwn t BKG_REQ).fld BKG_REQ_KIND = 5) then d.reqDefer t
  else d

/-- Scrub passes end at instants that the specification leaves open within their bounds: at an idle tick of RUN each
memory's pass ends, or does not, by a free value (log entry 15). -/
def Dev.scrubTick (d : Dev) : Dev :=
  if !d.inRun || d.paused then d
  else
    let (w, d) := d.ask 15
    d.forEach ((List.range 5).filter (fun m => w.bit m)) (fun m d =>
      let d := d.incSat (BKG_SCRUB m) BKG_SCRUB_PASSES
      let d := d.setF (BKG_SCRUB m) BKG_SCRUB_LAST (min 65535 (d.since (Tab.getD 0 d.bkg.scrubAt m) / (10 * msTicks)))
      ({ d with bkg := { d.bkg with scrubAt := Tab.set m d.now d.bkg.scrubAt } }).reqServed 6 m true)

/-- One idle fine tick. -/
def Dev.idle (d : Dev) : Dev := (d.at (d.now + 1)).scrubTick

/-! ## Telemetry (R402) -/

/-- A number's bytes, saturating. -/
def satBytes (n v : Nat) : List Byte := leBytes n (min v (256 ^ n - 1))

/-- The smallest slack of some cascades, as CEN_CSLACK keeps it. -/
def Dev.minSlackOf (d : Dev) (is : List Nat) : Nat :=
  is.foldl (fun m i => min m (d.fld (CEN_CSLACK (pairOf i) (cascOf i)) CEN_CSLACK_MIN)) 0xFFFF

/-- DATA of the MODULE record (Table BKG-4). -/
def Dev.telModule (d : Dev) : List Byte :=
  leBytes 8 d.bkg.telAt.toNat ++ leBytes 4 (d.rd RTC_SEC).toNat ++
  leBytes 2 (d.fld (THM_REG (d.fld THM_STAT THM_STAT_HOTREG)) ⟨0, 16⟩) ++ leBytes 1 d.thmLevel ++ leBytes 1 d.pauseDepth ++
  leBytes 2 (d.fld SUP_VCORE SUP_VCORE_VCORE) ++ leBytes 2 (d.fld SUP_FEED SUP_FEED_FEEDA) ++
  leBytes 2 (d.fld SUP_FEED SUP_FEED_FEEDB) ++ leBytes 2 d.jrn.fill ++ leBytes 4 (d.jrn.passes.toNat % 2 ^ 32) ++
  leBytes 2 (d.fld RED_STAT RED_STAT_CULLCNT) ++ leBytes 2 (d.minSlackOf (List.range 64)) ++
  satBytes 4 d.bkg.gusts ++ satBytes 4 d.bkg.corr ++ satBytes 4 d.bkg.uncorr ++ satBytes 2 d.bkg.deferred ++
  leBytes 1 d.role ++ leBytes 1 d.sysState ++ leBytes 4 (d.fld BKG_MARV BKG_MARV_ROUNDS) ++ leBytes 4 (d.jrn.passes.toNat / 2 ^ 32)

/-- DATA of the FUNCTION record of `f`. -/
def Dev.telFunction (d : Dev) (f : Nat) : List Byte :=
  let st := d.rd (RED_FNSTATE f)
  leBytes 8 d.bkg.telAt.toNat ++ leBytes 1 f ++ leBytes 3 (st.toNat / 2 ^ 24) ++ leBytes 2 (st.fld RED_FNSTATE_CAUSE) ++ leBytes 2 0 ++
  leBytes 2 (d.minSlackOf ((d.funcD f).casc.map (·.1))) ++ leBytes 6 0 ++ leBytes 4 (d.rd (THM_K f)).toNat ++
  satBytes 2 (Tab.getD 0 d.bkg.misses f) ++ leBytes 2 0 ++ satBytes 4 (Tab.getD 0 d.bkg.assertions f)

/-- One record is posted, or dropped where the queue is full. -/
def Dev.telRecord (kind : Nat) (body : List Byte) (d : Dev) : Dev :=
  let q := d.fld BKG_TELCFG BKG_TELCFG_QUE
  if !d.qEn q || !d.qRoom q then
    ((d.incSat BKG_TELCNT BKG_TELCNT_DROPS).setF BKG_FLT BKG_FLT_TELDROP 1).evtRated EV_BKG_TEL_DROP 0 [q, 0, 0, 0]
  else
    let (seq, d) := d.nextSeq q
    let x : Desc := { (default : Desc) with id := BitVec.ofNat 32 kind, dlc := 15, seq := seq, posted := d.now, data := sliceB body 0 64 }
    (d.qPush q x).setF BKG_TELCNT BKG_TELCNT_POSTED (d.fld BKG_TELCNT BKG_TELCNT_POSTED + 1)

/-- The records of a posting: MODULE, then a FUNCTION record for each enabled function in ascending order. -/
def Dev.telRecords (d : Dev) : Dev :=
  let d := d.telRecord 0 d.telModule
  d.forEach ((List.range 32).filter d.enabled) (fun f d => d.telRecord 1 (d.telFunction f))

/-- TELEMETRY_POST. -/
def Dev.telemetry (d : Dev) : Dev :=
  if !d.bkg.telDue || d.paused then d
  else { d.telRecords with bkg := { d.telRecords.bkg with telDue := false, misses := [] } }

/-- A firing of SLOT63 counts towards the next posting. -/
def Dev.telSlot (d : Dev) : Dev :=
  if !d.isSet BKG_TELCFG BKG_TELCFG_EN then d
  else
    let n := d.bkg.telCount + 1
    if max 1 (d.fld BKG_TELCFG BKG_TELCFG_TELDIV) ≤ n then
      { d with bkg := { d.bkg with telCount := 0, telAt := d.now, telDue := true } }
    else { d with bkg := { d.bkg with telCount := n } }

/-! ## Meanings -/

/-- MARVER_ROUND (R397): A Marver round starts every MARVPER ms or at its kind-0x8 slot, and runs TDC, pad, DAC and rotation steps. -/
def execMarverRound (t : Time) (reads : List (Fin 64 × Fin 2 × Int)) (us : Nat) (s : State) : Host.Outcome State Fault Refusal :=
  s.on t (fun d => d.marverRound (reads.map (fun p => (p.1.val, p.2.1.val, p.2.2))) us)

/-- MARVER_LATE (R397): A round not complete within MARVPER records 0x2703. -/
def execMarverLate (t : Time) (s : State) : Host.Outcome State Fault Refusal :=
  s.on t (fun d => d.marverLate)

/-- SCRUB_CORRECTION (R396): A scrub read or load meets a correctable error, the word is rewritten and 0x2701 is recorded. -/
def execScrubCorrection (t : Time) (m : Fin 5) (addr : Nat) (s : State) : Host.Outcome State Fault Refusal :=
  s.on t (fun d => d.memCorrected m addr)

/-- MEM_UNCORRECTABLE (R396): An uncorrectable error is handled per memory, and 0x2702 is recorded. -/
def execMemUncorrectable (t : Time) (m : Fin 5) (addr : Nat) (k : Fin 4) (s : State) : Host.Outcome State Fault Refusal :=
  s.on t (fun d => d.memUncorrectable m addr k)

/-- WEAR_CHECK (R399): Once per second BKG reads the pass count and warns at 8 × 10^9 passes. -/
def execWearCheck (t : Time) (s : State) : Host.Outcome State Fault Refusal :=
  s.on t (fun d => d.wearCheck)

/-- BKG_REQ_ADC_CAL (R400): A request of kind 0x1 asks for calibration of a converter. -/
def execBkgReqAdcCal (t : Time) (triad : Fin 4) (target : Fin 65536) (s : State) : Host.Outcome State Fault Refusal :=
  s.on t (fun d => d.bkgRequest triad (reqWord 1 target))

/-- BKG_REQ_CMP_CHECK (R400): A request of kind 0x2 asks for the test ticks and a readback of a window. -/
def execBkgReqCmpCheck (t : Time) (triad : Fin 4) (target : Fin 65536) (read : Option (Fin 2 × Int)) (s : State) : Host.Outcome State Fault Refusal :=
  s.on t (fun d => (d.bkgRequest triad (reqWord 2 target)).whenSome read (fun p d => if d.reqIs triad 2 target then d.dacReadback target p.1 p.2 else d))

/-- BKG_REQ_PAD_CHECK (R400): A request of kind 0x3 asks for a pad check of a leg. -/
def execBkgReqPadCheck (t : Time) (triad : Fin 4) (target : Fin 65536) (s : State) : Host.Outcome State Fault Refusal :=
  s.on t (fun d => d.bkgRequest triad (reqWord 3 target))

/-- BKG_REQ_CEN_SELFTEST (R400): A request of kind 0x4 asks for a self-test of both engines of a pair. -/
def execBkgReqCenSelftest (t : Time) (triad : Fin 4) (target : Fin 65536) (s : State) : Host.Outcome State Fault Refusal :=
  s.on t (fun d => d.bkgRequest triad (reqWord 4 target))

/-- BKG_REQ_CORE_SELFTEST (R401): A request of kind 0x5 asks for a self-test of one core. -/
def execBkgReqCoreSelftest (t : Time) (triad : Fin 4) (target : Fin 65536) (s : State) : Host.Outcome State Fault Refusal :=
  s.on t (fun d => d.bkgRequest triad (reqWord 5 target))

/-- BKG_REQ_SCRUB (R400): A request of kind 0x6 asks for a new scrub pass of a memory. -/
def execBkgReqScrub (t : Time) (triad : Fin 4) (target : Fin 65536) (s : State) : Host.Outcome State Fault Refusal :=
  s.on t (fun d => d.bkgRequest triad (reqWord 6 target))

/-- BKG_REQ_MARVER (R398): A request of kind 0x7 starts a Marver round at once. -/
def execBkgReqMarver (t : Time) (triad : Fin 4) (target : Fin 65536) (s : State) : Host.Outcome State Fault Refusal :=
  s.on t (fun d => d.bkgRequest triad (reqWord 7 target))

/-- BKG_REQ_DEFERRED (R400): A request without its resource after the table's wait shows DEFERRED and records 0x2704. -/
def execBkgReqDeferred (t : Time) (triad : Fin 4) (s : State) : Host.Outcome State Fault Refusal :=
  s.on t (fun d => d.bkgDeferred triad)

/-- CORE_SELFTEST_PERIODIC (R401): Every CORPER seconds BKG self-tests the next eligible core. -/
def execCoreSelftestPeriodic (t : Time) (s : State) : Host.Outcome State Fault Refusal :=
  s.on t (fun d => d.corePeriodic)

/-- CORE_SELFTEST_DONE (R401): The tested core's known-answer test ends and the core rejoins, or a Gale is declared. -/
def execCoreSelftestDone (t : Time) (c : Fin 12) (pass : Bool) (s : State) : Host.Outcome State Fault Refusal :=
  s.on t (fun d => d.coreDone c pass)

/-- TELEMETRY_POST (R402): At every TELDIV-th SLOT63 firing, BKG posts MODULE and FUNCTION telemetry records. -/
def execTelemetryPost (t : Time) (s : State) : Host.Outcome State Fault Refusal :=
  s.on t (fun d => d.telemetry)

end Sys2Proof.Machine
end

