-- ==== Sys2Proof/Machine/Sup.lean ====
section
/-! DEFINITION. The feeds and their supervision (chapter 20): wiring, power-on reset and its release, warning and recovery,
dips, and VBKUP. Voltages are in mV; feed 0 is FEEDA, feed 1 FEEDB. -/

namespace Sys2Proof.Machine

/-! ## Feeds -/

/-- VIN_OR follows the higher connected feed (R427, R428). -/
def Dev.vin (d : Dev) (va vb : Nat) : Nat :=
  max (if d.sup.ov.contains 0 then 0 else va) (if d.sup.ov.contains 1 then 0 else vb)

def feedOf (f va vb : Nat) : Nat := if f = 0 then va else vb
def okField (f : Nat) : Fld := if f = 0 then SUP_STAT_FAOK else SUP_STAT_FBOK

/-- The measured feeds, and which of them carries the load: both within 100 mV, else the higher. -/
def Dev.feeds (va vb : Nat) (d : Dev) : Dev :=
  let d := (d.setF SUP_FEED SUP_FEED_FEEDA (min va 65535)).setF SUP_FEED SUP_FEED_FEEDB (min vb 65535)
  let a := if d.sup.ov.contains 0 then 0 else va
  let b := if d.sup.ov.contains 1 then 0 else vb
  d.setF SUP_STAT SUP_STAT_SRC (if a = 0 && b = 0 then 0 else if a ≤ b + 100 && b ≤ a + 100 then 3 else if b < a then 1 else 2)

def Dev.supEvt (code f va vb : Nat) (d : Dev) : Dev := d.evt code (le2 (min (d.vin va vb) 65535) ++ [f])

/-! ## Power-up (R429, R434, R435) -/

def Dev.feedWired (f va vb : Nat) (d : Dev) : Dev :=
  if d.por && 3000 < feedOf f va vb && !d.sup.wired.contains f then { d with sup := { d.sup with wired := d.sup.wired ++ [f] } } else d

def Dev.feedsValid (va vb : Nat) (d : Dev) : Dev :=
  if d.por && !d.sup.wired.isEmpty && d.sup.wired.all (fun f => 7400 < feedOf f va vb) then { d with sup := { d.sup with valid := true } } else d

/-- A wired feed has not reached 7.4 V 100 ms after the first did: feeds valid without it. -/
def Dev.feedMissing (f va vb : Nat) (d : Dev) : Dev :=
  if d.por && d.sup.wired.contains f && feedOf f va vb ≤ 7400 && d.sup.wired.any (fun g => 7400 < feedOf g va vb) then
    { d with sup := { d.sup with valid := true, missing := some f } }
  else d

/-- What a loss of power leaves: the calendar domain, MRAM, flash, and what the feeds are. -/
def Dev.powerOff (d : Dev) : Dev :=
  let kept := fun (a : Nat) => a = RTC_SEC || a = RTC_SUB || a = RTC_STAT || a = RTC_TRIM || a = SUP_PORCAUSE ||
    (RTC_BKP 0 ≤ a && a ≤ RTC_BKP 63)
  let e := d.clearBlocks
  { e with por := true
           tk := default
           cal := { (default : Calendar) with frac := d.cal.frac, cyc := d.cal.cyc, lostPending := d.cal.lostPending }
           vcore := default
           regs := (d.regs.filter (fun p => kept p.1))
           log := []
           sram := []
           sup := { (default : Sup) with wired := d.sup.wired, valid := d.sup.valid, ov := d.sup.ov, vbk := d.sup.vbk } }

/-- VIN_OR below the reset level. Both feeds are then below it, which ends a shutdown (R392), be reset asserted already by a
rail or not. -/
def Dev.porAssert (va vb : Nat) (d : Dev) : Dev :=
  if 5500 ≤ d.vin va vb then d
  else if d.por then
    { (d.setF THM_STAT THM_STAT_SHUT 0).setSys stReset with sup := { d.sup with wired := [], valid := false, missing := none } }
  else
    let d := ({ d.powerOff with sup := { d.powerOff.sup with wired := [], valid := false } }).setF RTC_STAT RTC_STAT_OSCF 0
    d.wr SUP_PORCAUSE (BitVec.ofNat 32 1)

/-- A rail outside its window for 10 µs (R430). A shutdown stays latched, since the feeds have not fallen (R392). -/
def Dev.railFault (r : Nat) (d : Dev) : Dev :=
  if d.por then d
  else
    let shut := d.isSet THM_STAT THM_STAT_SHUT
    let d := (d.powerOff.setF RTC_STAT RTC_STAT_OSCF 0).when shut (fun d => (d.setF THM_STAT THM_STAT_SHUT 1).setSys stShutdown)
    d.wr SUP_PORCAUSE (BitVec.ofNat 32 (2 + 16 * r))

/-- The rails are up: STIME starts at 0, the feeds are as measured, the calendar has gone on for `cycles` crystal cycles, and
a loss of the calendar is acted on (R43). -/
def Dev.powerUp (cycles va vb : Nat) (d : Dev) : Dev :=
  let lost := d.cal.lostPending
  let d := { d with por := false, boot := { (default : Boot) with step := .waitRef } }
  let d := (d.feeds va vb).forEach [0, 1] (fun f d => d.when (7000 < feedOf f va vb) (fun d => d.setF SUP_STAT (okField f) 1))
  if lost then
    let d := { d with regs := d.regs.filter (fun p => !(RTC_BKP 0 ≤ p.1 && p.1 ≤ RTC_BKP 63)), cal := { d.cal with lostPending := false } }
    ((((d.wr RTC_SEC 0).wr RTC_SUB 0).setF RTC_STAT RTC_STAT_LOST 1).setF SUP_PORCAUSE SUP_PORCAUSE_COLD 1).evt EV_RTC_LOST []
  else d.rtcAdvance (cycles * secTicks / 32768)

/-- Power-on reset is released, and SUP records the cause (R435). -/
def Dev.porRelease (cycles va vb : Nat) (d : Dev) : Dev :=
  if !d.por || !d.sup.valid then d
  else
    let d := d.powerUp cycles va vb
    let cause := d.rd SUP_PORCAUSE
    let d := d.evt EV_SUP_POR_CAUSE (le2 (min (d.vin va vb) 65535) ++ [cause.fld SUP_PORCAUSE_RAILID, 0] ++ le4 cause.toNat)
    let d := d.whenSome d.sup.missing (fun f d => d.supEvt EV_SUP_FEED_MISSING f va vb)
    { d with sup := { d.sup with missing := none } }

/-! ## Warning and recovery (R431–R433) -/

/-- Dips of the last 60 s. -/
def Dev.dips60 (d : Dev) : Nat := (d.sup.dips.filter (fun t => d.since t < 60 * secTicks)).length

/-- A storm of dips, recorded at most once a minute. -/
def Dev.dipStorm (va vb : Nat) (d : Dev) : Dev :=
  if d.dips60 ≤ 10 then d
  else
    let d := (d.setF SUP_STAT SUP_STAT_STORM 1).setF SUP_FLT SUP_FLT_STORM 1
    let due := match d.sup.stormAt with | none => true | some t => decide (60 * secTicks ≤ d.since t)
    if due then ({ d with sup := { d.sup with stormAt := some d.now } }).supEvt EV_SUP_DIP_STORM 0 va vb else d

/-- The journal's head is durable (R356): once every record in progress at the warning is committed. -/
def Dev.commitWarned (d : Dev) : Dev :=
  if d.isSet JRN_STAT JRN_STAT_COMMITTING && d.jrn.reqs.isEmpty then (d.setF JRN_STAT JRN_STAT_COMMITTING 0).evt EV_JRN_COMMIT_WARN [] else d

/-- The feeds as measured; those below 7.0 V are no longer in order. -/
def Dev.feedsFall (va vb : Nat) (d : Dev) : Dev :=
  (d.feeds va vb).forEach [0, 1] (fun f d => d.when (feedOf f va vb < 7000) (fun d => d.setF SUP_STAT (okField f) 0))

/-- What a warning brings once it is flagged: the dip counted, VCORE back at its start value, charging suspended, requests
of background work deferred, and the journal committed (R39, R356, R400, R431, R433). -/
def Dev.warnRest (va vb : Nat) (d : Dev) : Dev :=
  let d := { d with sup := { d.sup with dips := d.now :: d.sup.dips.filter (fun t => d.since t < 60 * secTicks) } }
  let d := (d.incSat SUP_DIPS SUP_DIPS_TOTAL).setF SUP_DIPS SUP_DIPS_MIN60 (min 255 d.dips60)
  let d := (d.dipStorm va vb).vcoreRestore
  let d := d.forEach [0, 1] (fun c d => d.modChg c (fun x => { x with supply := true }))
  let d := d.forEach (List.range 4) (fun t d =>
    d.when (d.reqGo t && (d.rdOwn t BKG_REQ).fld BKG_REQ_KIND ≠ 7 && (d.rdOwn t BKG_RES).fld BKG_RES_RESULT = brPending) (fun d => d.reqDefer t))
  (d.setF JRN_STAT JRN_STAT_COMMITTING 1).commitWarned

/-- VIN_OR falls below 7.0 V. Before READY the start-up stops at its next step boundary (R50). -/
def Dev.supWarning (va vb : Nat) (d : Dev) : Dev :=
  if 7000 ≤ d.vin va vb then d
  else
    let d := d.feedsFall va vb
    if d.sysState < stReady then { d with boot := { d.boot with warned := true } }
    else if !(d.sysState = stReady || d.inRun) || d.isSet SUP_STAT SUP_STAT_WARN then d
    else
      let d := ((d.setF SUP_STAT SUP_STAT_WARN 1).setF SUP_FLT SUP_FLT_WARN 1).wr64 SUP_WARNSTAMP_LO SUP_WARNSTAMP_HI d.now
      (d.supEvt EV_SUP_WARNING 0 va vb).warnRest va vb

def Dev.recoveryStart (va vb : Nat) (d : Dev) : Dev :=
  if !d.isSet SUP_STAT SUP_STAT_WARN || d.isSet SUP_STAT SUP_STAT_RECOVERING || d.vin va vb ≤ 7400 then d
  else
    let d := (d.feeds va vb).setF SUP_STAT SUP_STAT_RECOVERING 1
    let d := d.forEach [0, 1] (fun f d => d.when (7400 < feedOf f va vb) (fun d => d.setF SUP_STAT (okField f) 1))
    { d with sup := { d.sup with recovAt := d.now } }

def Dev.recoveryAbort (va vb : Nat) (d : Dev) : Dev :=
  if d.isSet SUP_STAT SUP_STAT_RECOVERING && d.vin va vb < 7000 then
    (d.feedsFall va vb).setF SUP_STAT SUP_STAT_RECOVERING 0
  else d

def Dev.recovered (va vb : Nat) (d : Dev) : Dev :=
  if !d.isSet SUP_STAT SUP_STAT_RECOVERING || d.since d.sup.recovAt < 5 * msTicks then d
  else
    let d := ((d.feeds va vb).setF SUP_STAT SUP_STAT_RECOVERING 0).setF SUP_STAT SUP_STAT_WARN 0
    let d := d.supEvt EV_SUP_RECOVERED 0 va vb
    let d := d.forEach [0, 1] (fun c d => d.modChg c (fun x => { x with supply := false }))
    { d with sup := { d.sup with recoveredAt := some d.now } }

def Dev.stormClear (d : Dev) : Dev :=
  if d.isSet SUP_STAT SUP_STAT_STORM && d.dips60 ≤ 10 then d.setF SUP_STAT SUP_STAT_STORM 0 else d

/-! ## One feed (R428) -/

def Dev.feedLost (f va vb : Nat) (d : Dev) : Dev :=
  if feedOf f va vb < 7000 && 7000 ≤ d.vin va vb && d.isSet SUP_STAT (okField f) then
    (((d.feeds va vb).setF SUP_STAT (okField f) 0).setF SUP_FLT SUP_FLT_FEEDLOST 1).supEvt EV_SUP_FEED_LOST f va vb
  else d

def Dev.feedReturn (f va vb : Nat) (d : Dev) : Dev :=
  if 7400 < feedOf f va vb && !d.isSet SUP_STAT (okField f) then
    ((d.feeds va vb).setF SUP_STAT (okField f) 1).supEvt EV_SUP_FEED_RETURN f va vb
  else d

def Dev.overvoltage (f va vb : Nat) (d : Dev) : Dev :=
  if 40000 < feedOf f va vb && !d.sup.ov.contains f then
    let d := ({ d with sup := { d.sup with ov := d.sup.ov ++ [f] } }).feeds va vb
    ((d.setF SUP_STAT SUP_STAT_OV 1).setF SUP_FLT SUP_FLT_OV 1).supEvt EV_SUP_OVERVOLTAGE f va vb
  else d

def Dev.ovReconnect (f va vb : Nat) (d : Dev) : Dev :=
  if feedOf f va vb < 39000 && d.sup.ov.contains f then
    let d := ({ d with sup := { d.sup with ov := d.sup.ov.filter (· ≠ f) } }).feeds va vb
    d.setF SUP_STAT SUP_STAT_OV (b2n (!d.sup.ov.isEmpty))
  else d

/-! ## VBKUP (R437) -/

def Dev.vbkupMeasure (mv : Nat) (d : Dev) : Dev :=
  ({ d with sup := { d.sup with vbk := mv } }).setF RTC_STAT RTC_STAT_VBKUP_LOW (b2n (decide (mv < 2000)))

/-- The VBKUP charger is on. -/
def Dev.bkchgOn (d : Dev) : Bool :=
  d.isSet SUP_CFG SUP_CFG_BKCHG && 7400 < d.vin (d.fld SUP_FEED SUP_FEED_FEEDA) (d.fld SUP_FEED SUP_FEED_FEEDB)

/-! ## Meanings -/

/-- FEED_WIRED (R429): A feed that has stood above 3.0 V for 1 ms at power-up counts as wired. -/
def execFeedWired (t : Time) (f : Fin 2) (va vb : Nat) (s : State) : Host.Outcome State Fault Refusal :=
  s.onAny t (fun d => d.feedWired f va vb)

/-- FEEDS_VALID (R429): Every wired feed has stood above 7.4 V; the supply die starts the rails toward power-on reset release. -/
def execFeedsValid (t : Time) (va vb : Nat) (s : State) : Host.Outcome State Fault Refusal :=
  s.onAny t (fun d => d.feedsValid va vb)

/-- FEED_MISSING (R429): A wired feed still below 7.4 V 100 ms after the first feed reached it is left out of feeds valid, and 0x0208 is recorded. -/
def execFeedMissing (t : Time) (f : Fin 2) (va vb : Nat) (s : State) : Host.Outcome State Fault Refusal :=
  s.onAny t (fun d => d.feedMissing f va vb)

/-- POR_RELEASE (R435): Power-on reset is released at feeds valid, the boot ROM starts on T0, and SUP records 0x0207 with the last reset cause. -/
def execPorRelease (t : Time) (cycles va vb : Nat) (s : State) : Host.Outcome State Fault Refusal :=
  s.onAny t (fun d => d.porRelease cycles va vb)

/-- SUP_WARNING (R431): VIN_OR below 7.0 V sets WARN, commits the journal, suspends charging, pauses background work and restores VCORE. -/
def execSupWarning (t : Time) (va vb : Nat) (s : State) : Host.Outcome State Fault Refusal :=
  s.onAny t (fun d => if d.por then d else d.supWarning va vb)

/-- SUP_RECOVERY_START (R432): VIN_OR rising above 7.4 V starts the recovery interval. -/
def execSupRecoveryStart (t : Time) (va vb : Nat) (s : State) : Host.Outcome State Fault Refusal :=
  s.onAny t (fun d => if d.por then d else d.recoveryStart va vb)

/-- SUP_RECOVERY_ABORT (R432): A fall below 7.0 V during the interval ends it without counting a new dip. -/
def execSupRecoveryAbort (t : Time) (va vb : Nat) (s : State) : Host.Outcome State Fault Refusal :=
  s.onAny t (fun d => if d.por then d else d.recoveryAbort va vb)

/-- SUP_RECOVERED (R432): After 5 ms above 7.4 V, WARN is cleared, 0x0202 is recorded and background work and charging resume. -/
def execSupRecovered (t : Time) (va vb : Nat) (s : State) : Host.Outcome State Fault Refusal :=
  s.onAny t (fun d => if d.por then d else d.recovered va vb)

/-- FEED_LOST (R428): A feed below 7.0 V while VIN_OR stays up clears its OK bit and records 0x0203. -/
def execFeedLost (t : Time) (f : Fin 2) (va vb : Nat) (s : State) : Host.Outcome State Fault Refusal :=
  s.onAny t (fun d => if d.por then d else d.feedLost f va vb)

/-- FEED_RETURN (R428): A lost feed back above 7.4 V records 0x0204. -/
def execFeedReturn (t : Time) (f : Fin 2) (va vb : Nat) (s : State) : Host.Outcome State Fault Refusal :=
  s.onAny t (fun d => if d.por then d else d.feedReturn f va vb)

/-- OVERVOLTAGE (R428): A feed above 40.0 V is disconnected and 0x0206 is recorded. -/
def execOvervoltage (t : Time) (f : Fin 2) (va vb : Nat) (s : State) : Host.Outcome State Fault Refusal :=
  s.onAny t (fun d => if d.por then d else d.overvoltage f va vb)

/-- OV_RECONNECT (R428): A disconnected feed that falls below 39.0 V is reconnected. -/
def execOvReconnect (t : Time) (f : Fin 2) (va vb : Nat) (s : State) : Host.Outcome State Fault Refusal :=
  s.onAny t (fun d => if d.por then d else d.ovReconnect f va vb)

/-- POR_ASSERT (R434): VIN_OR below 5.5 V asserts power-on reset and sets every transmitter to high impedance within 1 µs. -/
def execPorAssert (t : Time) (va vb : Nat) (s : State) : Host.Outcome State Fault Refusal :=
  s.onAny t (fun d => d.porAssert va vb)

/-- RAIL_FAULT (R430): A rail outside its window for 10 µs asserts power-on reset and records its RAILID. -/
def execRailFault (t : Time) (r : Fin 7) (s : State) : Host.Outcome State Fault Refusal :=
  s.onAny t (fun d => d.railFault r)

/-- VBKUP_MEASURE (R437): Every 10 s with a feed present, VBKUP is converted and VBKUP_LOW is updated. -/
def execVbkupMeasure (t : Time) (mv : Nat) (s : State) : Host.Outcome State Fault Refusal :=
  s.onAny t (fun d => if d.por then d else d.vbkupMeasure mv)

/-- STORM_CLEAR (R433): The count of dips in the last 60 s falls to 10 or below, and SUP_STAT.STORM clears. -/
def execStormClear (t : Time) (s : State) : Host.Outcome State Fault Refusal :=
  s.onAny t (fun d => if d.por then d else d.stormClear)

end Sys2Proof.Machine
end

