-- ==== Sys2Proof/Machine/Tkp.lean ====
section
/-! DEFINITION. The time keeper and the calendar (chapter 02), slot firings apart: REF, STIME's holding registers, slot
enables, VCORE scaling, and the calendar's load and capture. -/

namespace Sys2Proof.Machine

/-! ## REF (R30, R49) -/

def Dev.refDev (dev : Int) (d : Dev) : Dev := d.setF TKP_REFMON TKP_REFMON_DEV (unsignedOf 16 (clampI (-32768) 32767 dev))

/-- REF is qualified: the start-up goes on at PROBE. -/
def Dev.refQualified (dev : Int) (d : Dev) : Dev :=
  if d.isSet TKP_STAT TKP_STAT_REF_OK || d.isSet TKP_STAT TKP_STAT_REF_FAIL || d.boot.step ≠ .waitRef then d
  else
    let d := ((d.refDev dev).setF TKP_STAT TKP_STAT_REF_OK 1).setSys stProbe
    { d with boot := { d.boot with step := .probe } }

/-- REF is not qualified 20 ms after the release of power-on reset: the module stays in RESET. -/
def Dev.refTimeout (dev : Int) (d : Dev) : Dev :=
  if d.isSet TKP_STAT TKP_STAT_REF_OK || d.isSet TKP_STAT TKP_STAT_REF_FAIL || d.since d.boot.relTime < 20 * msTicks then d
  else
    let d := ((d.refDev dev).setF TKP_STAT TKP_STAT_REF_FAIL 1).evt EV_TKP_REF_FAIL ([3, 0] ++ le2 (unsignedOf 16 dev))
    { d with boot := { d.boot with step := .stopped } }

/-- REF fails after qualification: the internal oscillator takes over, every function takes its safe state, no enable is
granted, the ports and the link stop (R30). -/
def Dev.refFail (noEdge : Bool) (dev : Int) (d : Dev) : Dev :=
  if !d.isSet TKP_STAT TKP_STAT_REF_OK || d.isSet TKP_STAT TKP_STAT_REF_FAIL then d
  else
    let d := ((d.refDev dev).setF TKP_STAT TKP_STAT_REF_FAIL 1).setF TKP_STAT TKP_STAT_RC_MODE 1
    let d := d.evt EV_TKP_REF_FAIL ([if noEdge then 1 else 2, 0] ++ le2 (unsignedOf 16 dev))
    let d := d.gafferAll EV_TKP_REF_FAIL
    let d := d.forEach (List.range 6) (fun n d => d.whenSome (d.port n).tx (fun p d => d.txOver n p.1))
    (d.closeWhere (fun s => s.port < 6)).linkDown

/-! ## Readings of STIME (R32) -/

/-- A read of TKP_STIME_LO: its value, and the upper word held for the triad. -/
def Dev.readStimeLo (t : Nat) (d : Dev) : W × Dev :=
  (d.now.setWidth 32, { d with tk := { d.tk with hiLatch := Tab.set t ((d.now >>> 32).setWidth 32) d.tk.hiLatch } })

/-- A read of TKP_STIME_HI: the held word once, else the live one. -/
def Dev.readStimeHi (t : Nat) (d : Dev) : W × Dev :=
  if Tab.has d.tk.hiLatch t then (Tab.getD 0 d.tk.hiLatch t, { d with tk := { d.tk with hiLatch := Tab.erase t d.tk.hiLatch } })
  else ((d.now >>> 32).setWidth 32, d)

/-! ## Slot enables (R33, R35, R37) -/

/-- A write of TKP_SLOTEN0, or of TKP_SLOTEN1 where `hi`: T0 only; SLOT63 stays set in RUN; a slot enabled after the epoch
fires at least 1 µs later. -/
def Dev.slotEnables (triad : Nat) (hi : Bool) (v : W) (d : Dev) : Dev :=
  let r := if hi then TKP_SLOTEN1 else TKP_SLOTEN0
  if triad ≠ 0 then d.lockedWrite triad r
  else
    let v := if hi && d.inRun then v.setBit 31 true else v
    let old := d.rd r
    let new := (List.range 32).filter (fun i => v.bit i && !old.bit i)
    let d := d.wr r v
    if !d.inRun then d
    else d.forEach new (fun i d =>
      { d with tk := { d.tk with notBefore := Tab.set ((if hi then 32 else 0) + i) (d.now + BitVec.ofNat 64 usTicks) d.tk.notBefore } })

/-! ## VCORE (R39) -/

def Dev.freshWindow (d : Dev) : Dev :=
  { d with vcore := { d.vcore with winAt := d.now, ample := true, normal := d.fld THM_STAT THM_STAT_LEVEL = 0, minSlack := none } }

/-- 1 s after READY, and windows start. -/
def Dev.vcoreStart (d : Dev) : Dev :=
  match d.vcore.readyAt with
  | some t => if secTicks ≤ d.since t && !d.vcore.scaling then ({ d with vcore := { d.vcore with scaling := true } }).freshWindow else d
  | none => d

/-- A 10 ms window ends: VCORE falls by 5 mV after an ample one at NORMAL, but not during a warning or the second after
it (R432). -/
def Dev.vcoreWindow (d : Dev) : Dev :=
  if !d.vcore.scaling || d.since d.vcore.winAt < 10 * msTicks then d
  else
    let calm := !d.isSet SUP_STAT SUP_STAT_WARN && (match d.sup.recoveredAt with | some t => decide (secTicks ≤ d.since t) | none => true)
    let d := d.whenSome d.vcore.minSlack (fun m d => d.setF SUP_VCORE SUP_VCORE_MINSLACK (min m 65535))
    let d := d.when (calm && d.vcore.ample && d.vcore.normal) (fun d =>
      d.setF SUP_VCORE SUP_VCORE_VCORE (max 720 (d.fld SUP_VCORE SUP_VCORE_VCORE - 5)))
    d.freshWindow

/-! ## The calendar (R43–R45) -/

def Dev.rtcOscFail (d : Dev) : Dev :=
  if d.isSet RTC_STAT RTC_STAT_OSCF then d
  else (d.setF RTC_STAT RTC_STAT_OSCF 1).evt EV_RTC_OSC_FAIL (le4 (d.rd RTC_SEC).toNat)

/-- VBKUP fell below 1.8 V with both feeds absent. -/
def Dev.vbkupLoss (d : Dev) : Dev := if d.por then { d with cal := { d.cal with lostPending := true } } else d

/-- A write of RTC_SETSEC that a session may make: audited, and the load armed. -/
def Dev.setRtc (x : Session) (v : W) (d : Dev) : Dev :=
  let d := d.audit 0x21 x.role x.port x.key x.id RTC_SETSEC (wordDigest (d.rd RTC_SETSEC)) (wordDigest v)
  { d.wr RTC_SETSEC v with cal := { d.cal with loadArmed := true } }

/-- A write of RTC_SETSEC whose audit record cannot be committed (`audits` false) is not made (R419). -/
def Dev.rtcSetsec (sid : Nat) (v : W) (audits : Bool) (d : Dev) : Dev :=
  if !audits then d
  else d.whenSome (d.sec.sessions.find? (fun s => s.id = sid)) (fun x d => d.setRtc x v)

/-- At the next 1 s boundary the calendar takes RTC_SETSEC. -/
def Dev.rtcLoad (d : Dev) : Dev :=
  if !d.cal.loadArmed || d.fld RTC_SUB RTC_SUB_SUB ≠ 0 then d
  else
    let v := d.rd RTC_SETSEC
    let d := ((d.wr RTC_SEC v).wr RTC_SUB 0).setF RTC_STAT RTC_STAT_LOST 0
    ({ d with cal := { d.cal with loadArmed := false } }).evt EV_RTC_SET (le4 v.toNat)

/-- A write of RTC_CAP. -/
def Dev.rtcCapGo (v : W) (d : Dev) : Dev :=
  if !v.bit 0 || d.cal.capBusy then d
  else { d.setF RTC_CAP RTC_CAP_DONE 0 with cal := { d.cal with capBusy := true } }

/-- The capture is complete; `edge` is the STIME of the crystal edge. -/
def Dev.rtcCapDone (edge : Time) (d : Dev) : Dev :=
  if !d.cal.capBusy then d
  else
    let d := ((d.wr RTC_CAPSEC (d.rd RTC_SEC)).wr RTC_CAPSUB (d.rd RTC_SUB)).wr64 RTC_CAPST_LO RTC_CAPST_HI edge
    { d.setF RTC_CAP RTC_CAP_DONE 1 with cal := { d.cal with capBusy := false } }

/-- A read of RTC_SUB: its value, and RTC_SEC held for the triad. -/
def Dev.readRtcSub (t : Nat) (d : Dev) : W × Dev :=
  (d.rd RTC_SUB, { d with cal := { d.cal with latch := Tab.set t (d.rd RTC_SEC) d.cal.latch } })

/-- A read of RTC_SEC: the held value once, else the live one. -/
def Dev.readRtcSec (t : Nat) (d : Dev) : W × Dev :=
  if Tab.has d.cal.latch t then (Tab.getD 0 d.cal.latch t, { d with cal := { d.cal with latch := Tab.erase t d.cal.latch } })
  else (d.rd RTC_SEC, d)

/-! ## Meanings -/

/-- REF_QUALIFIED (R49): After 4,096 REF cycles within ±0.5 % of the internal reference, the monitor sets TKP_STAT.REF_OK. -/
def execRefQualified (t : Time) (dev : Int) (s : State) : Host.Outcome State Fault Refusal :=
  s.on t (fun d => d.refQualified dev)

/-- REF_QUAL_TIMEOUT (R49): If REF is not qualified 20 ms after reset release, REF_FAIL is set, 0x0301 is recorded once, and the module stays in RESET. -/
def execRefQualTimeout (t : Time) (dev : Int) (s : State) : Host.Outcome State Fault Refusal :=
  s.on t (fun d => d.refTimeout dev)

/-- REF_FAIL (R30): After qualification, a REF that shows no edge for 200 ns or deviates for 1 µs latches REF_FAIL and moves STIME to the internal oscillator (RC_MODE). -/
def execRefFail (t : Time) (noEdge : Bool) (dev : Int) (s : State) : Host.Outcome State Fault Refusal :=
  s.on t (fun d => d.refFail noEdge dev)

/-- STIME_LO_READ (R32): A read of TKP_STIME_LO latches the upper STIME word for the reading triad. -/
def execStimeLoRead (t : Time) (triad : Fin 4) (s : State) : Host.Outcome State Fault Refusal :=
  s.on t (fun d => (d.readStimeLo triad).2)

/-- SLOTEN_WRITE (R37): A T0 write of TKP_SLOTEN0 or TKP_SLOTEN1 enables or disables slots; SLOT63 stays enabled. -/
def execSlotenWrite (t : Time) (triad : Fin 4) (hi : Bool) (v : W) (s : State) : Host.Outcome State Fault Refusal :=
  s.on t (fun d => d.slotEnables triad hi v)

/-- VCORE_SCALING_START (R39): One second after READY, SUP may begin lowering VCORE from 0.80 V. -/
def execVcoreScalingStart (t : Time) (s : State) : Host.Outcome State Fault Refusal :=
  s.on t (fun d => d.vcoreStart)

/-- VCORE_WINDOW_END (R39): At the end of each 10 ms window with ample slack and NORMAL thermal level, VCORE is lowered by 5 mV down to 0.72 V. -/
def execVcoreWindowEnd (t : Time) (s : State) : Host.Outcome State Fault Refusal :=
  s.on t (fun d => d.vcoreWindow)

/-- RTC_OSC_FAIL (R43): A powered calendar oscillator that stops for 2 ms sets RTC_STAT.OSCF, holds RTC_SEC and records 0x0402. -/
def execRtcOscFail (t : Time) (s : State) : Host.Outcome State Fault Refusal :=
  s.onAny t (fun d => if d.por then d else d.rtcOscFail)

/-- VBKUP_LOSS (R43): VBKUP falls below 1.8 V while both feeds are absent, so the calendar and backup registers count as lost. -/
def execVbkupLoss (t : Time) (s : State) : Host.Outcome State Fault Refusal :=
  s.onAny t (fun d => d.vbkupLoss)

/-- RTC_SETSEC_WRITE (R44): An authenticated, audited write of RTC_SETSEC arms a load of the calendar. -/
def execRtcSetsecWrite (t : Time) (sid : Nat) (v : W) (audits : Bool) (s : State) : Host.Outcome State Fault Refusal :=
  s.on t (fun d => d.rtcSetsec sid v audits)

/-- RTC_LOAD (R44): At the next 1 s boundary RTC_SEC takes RTC_SETSEC, RTC_SUB and LOST are cleared, and 0x0403 is recorded. -/
def execRtcLoad (t : Time) (s : State) : Host.Outcome State Fault Refusal :=
  s.onAny t (fun d => if d.por then d else d.rtcLoad)

/-- RTC_CAP_GO (R45): A write of RTC_CAP.GO starts a capture of RTC_SEC, RTC_SUB and STIME; a new GO before DONE is ignored. -/
def execRtcCapGo (t : Time) (v : W) (s : State) : Host.Outcome State Fault Refusal :=
  s.on t (fun d => d.rtcCapGo v)

/-- RTC_CAPTURE_DONE (R45): The capture completes and sets RTC_CAP.DONE within 62 µs. -/
def execRtcCaptureDone (t : Time) (edge : Time) (s : State) : Host.Outcome State Fault Refusal :=
  s.onAny t (fun d => if d.por then d else d.rtcCapDone edge)

/-- RTC_SUB_READ (R45): A read of RTC_SUB latches RTC_SEC for the reading triad. -/
def execRtcSubRead (t : Time) (triad : Fin 4) (s : State) : Host.Outcome State Fault Refusal :=
  s.on t (fun d => (d.readRtcSub triad).2)

end Sys2Proof.Machine
end

