-- ==== Sys2Proof/Machine/Peek.lean ====
section
/-! DEFINITION. What a load returns (Table COR-1, chapter 22): the word that a register shows, where it is not simply the
word kept in it, and the bytes of every memory. Looking changes nothing here; the reads that change something (R32, R45,
R371) stand with the loads. -/

namespace Sys2Proof.Machine

/-! ## Registers -/

/-- The age of a line in units of 10 µs, saturating, since its calibration. -/
def Dev.ageUnits (d : Dev) (t : Time) : Nat := min 0xFFFF (d.since t / (10 * usTicks))

/-- The 16 bytes of a cullet-list entry (Table RED-4). -/
def Cull.bytes (c : Cull) : List Byte :=
  leBytes 2 c.res ++ leBytes 1 c.reason ++ leBytes 1 (b2n c.subst + 2 * b2n c.persisted) ++ leBytes 4 c.rtcsec.toNat ++
  leBytes 8 c.stime.toNat

/-- COR_STAT. -/
def Dev.corStat (d : Dev) (t : Nat) : W :=
  let x := d.triad t
  let st := if d.isSet (RED_TSTAT t) RED_TSTAT_RESTARTING then 3
    else match x.wait with
      | .unstarted => 0
      | .halted => 0
      | .await _ _ _ => 2
      | _ => 1
  let w := (d.rd (COR_STAT t)).setFld COR_STAT_STATE st
  ((w.setFld COR_STAT_SUP (b2n (x.core.status.bit 0))).setFld COR_STAT_IE (b2n (x.core.status.bit 1))).setFld COR_STAT_FH (b2n (x.core.status.bit 2))

/-- Are new entries marked LOCAL (R28, R306)? -/
def Dev.localMode (d : Dev) : Bool := d.paired && d.role ≠ roleActive && d.role ≠ roleSyncing && d.role ≠ roleStandby

/-- Live levels of 32 sources of Table TRP-1 from the first one. -/
def Dev.srcWord (d : Dev) (x0 n : Nat) : W :=
  BitVec.ofNat 32 ((List.range n).foldl (fun w i => if d.srcLevel 0 (x0 + i) then w + 2 ^ i else w) 0)

/-- The word of a register of LEG, ADC, TRP, BUS, QUE, JRN, LNK or RED that is worked out as it is read. -/
def Dev.shownPath (d : Dev) (a : Nat) : W :=
  let o := a % 0x10000
  let blk := a / 0x10000 % 0x100
  let w := d.rd a
  if blk = 0x10 && o < 0x6000 && o % 0x200 = 0x34 then
    let l := d.legOf (o / 0x200)
    BitVec.ofNat 32 (d.ageUnits l.calGL * 0x10000 + d.ageUnits l.calGH)
  else if blk = 0x11 && o < 0x4000 && o % 0x400 = 4 then w.setFld AXU_STAT_SETB (b2n (o / 0x400 % 2 = 1 && d.coupled (o / 0x400)))
  else if blk = 0x13 && 0x100 ≤ o && o < 0x190 && o % 0x10 = 8 then
    w.setFld ADC_CALAGE_AGE (min 0xFFFF (d.since (d.conv ((o - 0x100) / 0x10)).calAt / msTicks))
  else if blk = 0x16 && 0x10 ≤ o && o < 0x24 then
    let k := (o - 0x10) / 4
    d.srcWord (32 * k) (if k = 4 then 16 else 32)
  else if blk = 0x20 && o % 0x1000 = 8 then w.setFld BUS_STAT_LISTEN (b2n (d.silent (o / 0x1000)))
  else if blk = 0x20 && o % 0x1000 = 0x34 then w.setFld BUS_RECCNT_WINCNT (min 255 (d.recent_recoveries (o / 0x1000)))
  else if blk = 0x21 && o % 0x80 = 0x18 then
    let n := d.qBind (o / 0x80)
    w.setFld QUE_STAT_BLOCKED (b2n (n < 6 && (d.silent n || d.busState n = bsBusoff || d.busState n = bsRecovering)))
  else w

/-- The word of a register of JRN, LNK, RED, BKG, SEC, SUP or COR that is worked out as it is read. -/
def Dev.shownService (d : Dev) (t a : Nat) : W :=
  let o := a % 0x10000
  let blk := a / 0x10000 % 0x100
  let w := d.rd a
  if blk = 0x24 then
    let count := fun (p : JLive → Bool) => (d.jrn.live.filter p).length
    (match o with
      | 0x04 => w.setFld JRN_STAT_LOCALMODE (b2n d.localMode)
      | 0x0C => BitVec.ofNat 32 d.jrn.head
      | 0x10 => BitVec.ofNat 32 d.jrn.tail
      | 0x14 => d.jrn.passes.setWidth 32
      | 0x2C => Tab.getD ((d.jrn.passes >>> 32).setWidth 32) d.jrn.passLatch t
      | 0x18 => BitVec.ofNat 32 (min 0xFFFF (count (fun e => e.kind = jkRx)) * 0x10000 + min 0xFFFF (count (fun e => e.kind = jkTx)))
      | 0x1C => BitVec.ofNat 32 (count (fun e => e.isLocal && e.kind ≠ jkStream))
      | _ => w)
  else if blk = 0x23 then
    (if a = LNK_JEPOCH then BitVec.ofNat 32 d.jrn.jepoch
     else if a = LNK_JPOS_LO then BitVec.ofNat 32 d.jrn.jpos
     else if a = LNK_JPOS_HI then BitVec.ofNat 32 (d.jrn.jpos / 2 ^ 32)
     else w)
  else if blk = 0x25 then
    (if 0x1000 ≤ o && o < 0x2000 then w.setFld RED_GUST_RECENT (min 15 (d.recent ((o - 0x1000) / 0x200) (o % 0x200 / 4)))
     else if 0x2000 ≤ o && o < 0x3000 then
       (match d.red.cull[(o - 0x2000) / 16]? with
         | some c => BitVec.ofNat 32 (leNat (sliceB c.bytes (o % 16) 4))
         | none => 0)
     else w)
  else if a = BKG_STAT then (w.setFld BKG_STAT_MARVER (b2n (d.now.toNat < d.bkg.marvEnd.toNat))).setFld BKG_STAT_SCRUB (b2n d.inRun)
  else if a = SUP_STAT then w.setFld SUP_STAT_BKCHGON (b2n d.bkchgOn)
  else if a = SUP_DIPS then w.setFld SUP_DIPS_MIN60 (min 255 d.dips60)
  else if blk = 0x05 then
    (if a = SEC_AUDHEAD then BitVec.ofNat 32 d.sec.audHead
     else if 0x20 ≤ o && o < 0x2C then BitVec.ofNat 32 (leNat (sliceB d.sec.anchor (o - 0x20) 4))
     else if 0x40 ≤ o && o < 0x80 then
       (let i := (d.rdOwn t SEC_AUDSEL).toNat
        if d.auditHas i then BitVec.ofNat 32 (leNat (sliceB (d.auditRecord i) (o - 0x40) 4)) else 0)
     else w)
  else if blk = 0x30 && o < 0x4000 then
    (if o % 0x1000 = 0 then d.corStat (o / 0x1000)
     else if a = COR_SAFEQ 0 then d.safeqPop.1
     else w)
  else w

/-- The word that a read of a register by triad `t` returns. -/
def Dev.regShown (d : Dev) (t a : Nat) : W :=
  if a = RTC_CAP then (d.rd a) &&& 2#32
  else match regDesc a with
    | none => 0
    | some r =>
      if r.acc = .wo then 0
      else if a = SEC_AUDSEL || (r.perTriad && a / 0x10000 % 0x100 ≠ 0x05) then d.rdOwn t a
      else if a = TKP_STIME_LO then d.now.setWidth 32
      else if a = TKP_STIME_HI then Tab.getD ((d.now >>> 32).setWidth 32) d.tk.hiLatch t
      else if a = TKP_FSTAMP then d.fstamp
      else if a = RTC_SEC then Tab.getD (d.rd a) d.cal.latch t
      else if a / 0x10000 % 0x100 < 0x23 && 0x10 ≤ a / 0x10000 % 0x100 then d.shownPath a
      else d.shownService t a

/-! ## Memory -/

abbrev logBase : Nat := 0x107F8000

/-- The 32 bytes of an event record (Table SYS-11). -/
def EventRec.bytes (r : EventRec) : List Byte :=
  leBytes 8 r.stime.toNat ++ leBytes 4 r.rtcsec.toNat ++ leBytes 2 r.code ++ leBytes 1 r.source ++ leBytes 1 r.cls ++ sliceB r.data 0 16

/-- A byte of the event log (R72). -/
def Dev.logByte (d : Dev) (a : Nat) : Byte :=
  match d.log.find? (fun p => p.1 = (a - logBase) / 32) with
  | some p => p.2.bytes.getD (a % 32) 0
  | none => 0

/-- Is an address in a range of Table COR-1 beside the local SRAM and the peripherals? -/
def inShared (a : Nat) : Bool := 0x10000000 ≤ a && a < 0x10800000
def inLog (a : Nat) : Bool := logBase ≤ a && a < 0x10800000
def inCoef (a : Nat) : Bool := 0x18000000 ≤ a && a < 0x18080000
def inSig (a : Nat) : Bool := 0x19000000 ≤ a && a < 0x19100000
def inJrn (a : Nat) : Bool := 0x20000000 ≤ a && a < 0x22000000
def inLocal (a : Nat) : Bool := a < 0x80000

/-- A byte of the memories that every triad reaches. In the journal window the store region reads zero (R354). -/
def Dev.memByte (d : Dev) (a : Nat) : Byte :=
  if inLog a then d.logByte a
  else if inShared a then Mem.get 0 d.sram a
  else if inCoef a then Mem.get 0 d.coef a
  else if inSig a then d.sigByte a
  else if inJrn a then (if a < 0x21F00000 then Mem.get 0 d.mram (a - 0x20000000) else 0)
  else 0

/-- A byte as triad `t` sees it, without the effect a read may have. -/
def Dev.peekByte (d : Dev) (t a : Nat) : Byte :=
  if inPeriph a then BitVec.ofNat 8 ((d.regShown t (a / 4 * 4)).toNat / 2 ^ (8 * (a % 4)))
  else if inLocal a then Mem.get 0 (d.triad t).lram a
  else d.memByte a

end Sys2Proof.Machine
end

