-- ==== Sys2Proof/Machine/Sec.lean ====
section
/-! DEFINITION. Roles, sessions and requests (chapter 19). A message command carries one whole message with the port and
the client tag it came by; the numbers of a request's ARGS are the fields of Table SEC-2 in their order, little-endian
where AUTH covers them (R409). -/

namespace Sys2Proof.Machine

/-! ## Keys (R404–R406) -/

def Dev.keyOf (d : Dev) (id : Nat) : Option SecKey := d.sec.keys.find? (fun k => k.id = id)
def Dev.roleKeys (d : Dev) (role : Nat) : List SecKey := d.sec.keys.filter (fun k => k.role = role)
def Dev.keyIn (d : Dev) (id role : Nat) : Option SecKey := d.sec.keys.find? (fun k => k.id = id && k.role = role)

/-- The store holds these keys, in both copies; SEC_KEYS and NOMAKER follow. -/
def Dev.putKeys (ks : List SecKey) (d : Dev) : Dev :=
  let n := fun (role : Nat) => (ks.filter (fun k => k.role = role)).length
  let d := { d with sec := { d.sec with keys := ks, keyAok := true, keyBok := true } }
  (d.wr SEC_KEYS (BitVec.ofNat 32 (n rlOperator * 0x10000 + n rlInstaller * 0x100 + n rlMaker))).setF SEC_STAT SEC_STAT_NOMAKER
    (b2n (n rlMaker = 0))

/-- The most keys of a role. -/
def keyRoom (role : Nat) : Nat := match role with | 1 => 16 | 2 => 32 | 3 => 8 | _ => 0

/-- The bytes that a key's certificate covers (Table SYS-8). -/
def certified (id role : Nat) (pub : List Byte) : List Byte := leBytes 4 id ++ leBytes 1 role ++ leBytes 3 0 ++ pub

/-- Is a certificate by a maker key of the store good? -/
def Dev.certOk (d : Dev) (id role : Nat) (pub : List Byte) (certId : Nat) (cert : List Byte) : Bool :=
  match d.keyIn certId rlMaker with
  | some m => ecdsaVerify m.key (certified id role pub) cert
  | none => false

/-! ## Opening (R407, R408, R410, R411) -/

abbrev dnRole : Nat := 1
abbrev dnPort : Nat := 2
abbrev dnKey : Nat := 3
abbrev dnLocked : Nat := 4
abbrev dnProof : Nat := 5
abbrev dnBusy : Nat := 6

def Dev.denied (port ctag reason : Nat) (d : Dev) : Dev := d.answer port ctag (leBytes 1 5 ++ leBytes 1 reason)

/-- Do messages reach SEC on a port: from READY on a port that is not silent, or on a link that is up; in NOCFG the
recovery service's port alone. -/
def Dev.secOpen (d : Dev) (port : Nat) : Bool :=
  if d.sysState = stNocfg then port = 0
  else (d.sysState = stReady || d.inRun) && (if port = portLink then d.paired && d.linkUp else port < 6 && !d.silent port)

/-- The lock of a role. -/
def Dev.roleLocked (d : Dev) (role : Nat) : Bool := d.isSet SEC_STAT (lockField role)

/-- May a further session open from this client? -/
def Dev.secBusy (d : Dev) (port ctag : Nat) : Bool :=
  4 ≤ d.sec.sessions.length || d.sec.sessions.any (fun s => s.port = port && s.ctag = ctag)

/-- The reason to deny an OPEN, in the order role, port, lockout, capacity, key. -/
def Dev.openDenied (d : Dev) (port ctag role key : Nat) : Option Nat :=
  if role = 0 || 3 < role then some dnRole
  else if !d.roleOn role port then some dnPort
  else if d.roleLocked role then some dnLocked
  else if d.secBusy port ctag then some dnBusy
  else if (d.keyIn key role).isNone then some dnKey
  else none

/-- The CHALLENGE of an OPEN that is not denied, with a fresh MNONCE. -/
def Dev.challenge (port ctag role key : Nat) (cnonce : List Byte) (d : Dev) : Dev :=
  let id := d.sec.nextId % 0xFFFFFFFF + 1
  let n := d.sec.chalCount
  let mnonce := (sha256 (leBytes 16 Config.uid ++ leBytes 8 d.now.toNat ++ leBytes 8 n)).take 16
  let c : Chal := ⟨id, port, ctag, role, key, sliceB cnonce 0 16, mnonce, d.now⟩
  let d := { d with sec := { d.sec with chals := d.sec.chals ++ [c], nextId := id, chalCount := (n + 1) % 2 ^ 64 } }
  d.answer port ctag (leBytes 1 2 ++ leBytes 4 id ++ mnonce ++ leBytes 16 Config.uid)

/-- OPEN: a CHALLENGE, or DENIED. -/
def Dev.secOpenMsg (port ctag role key : Nat) (cnonce : List Byte) (d : Dev) : Dev :=
  if !d.secOpen port then d
  else match d.openDenied port ctag role key with
  | some r => d.denied port ctag r
  | none => d.challenge port ctag role key cnonce

/-- The transcript T (R408). -/
def Dev.transcript (d : Dev) (c : Chal) : List Byte :=
  leBytes 4 c.id ++ leBytes 2 d.sessionId ++ leBytes 4 (d.rd SYS_ID).toNat ++ leBytes 1 c.role ++ leBytes 4 c.key ++ c.cnonce ++
  c.mnonce ++ leBytes 16 Config.uid

/-- Does a proof hold under the key named? -/
def Dev.proofOk (d : Dev) (c : Chal) (proof : List Byte) : Bool :=
  match d.keyIn c.key c.role with
  | none => false
  | some k => if c.role = rlOperator then proof = hmac256 k.key (d.transcript c) else ecdsaVerify k.key (d.transcript c) proof

def Dev.dropChal (id : Nat) (d : Dev) : Dev := { d with sec := { d.sec with chals := d.sec.chals.filter (fun c => c.id ≠ id) } }

/-- The session of a proved challenge opens, audited and answered GRANTED. -/
def Dev.openSession (c : Chal) (d : Dev) : Dev :=
  let d := { d with sec := { d.sec with fails := Tab.set c.role 0 d.sec.fails } }
  let d := d.audit 1 c.role c.port c.key c.id 0 noDigest noDigest
  let d := d.putSessions (d.sec.sessions ++ [⟨c.id, c.port, c.ctag, c.role, c.key, 0, d.now⟩])
  let d := d.evt EV_SEC_SESSION ([c.role, 1, c.port, 0] ++ le4 c.key)
  d.answer c.port c.ctag (leBytes 1 3 ++ leBytes 4 c.id ++ leBytes 2 (d.roleRec c.role).idle)

/-- PROVE: GRANTED and an open session, or DENIED PROOF and a failed attempt; a late one is a failed attempt too. -/
def Dev.secProve (port ctag id : Nat) (proof : List Byte) (d : Dev) : Dev :=
  match d.sec.chals.find? (fun c => c.id = id && c.port = port && c.ctag = ctag) with
  | none => d
  | some c =>
    let d := d.dropChal id
    if 5 * secTicks < d.since c.sentAt || !d.proofOk c proof then (d.failedAttempt c.role 0 port c.key id).denied port ctag dnProof
    else if d.secBusy port ctag then d.denied port ctag dnBusy
    else d.openSession c

/-- No PROVE within 5 s of a CHALLENGE: a failed attempt. -/
def Dev.proveTimeout (id : Nat) (d : Dev) : Dev :=
  match d.sec.chals.find? (fun c => c.id = id) with
  | none => d
  | some c => if d.since c.sentAt ≤ 5 * secTicks then d else (d.dropChal id).failedAttempt c.role 0 c.port c.key id

/-- May a first maker key with these bytes be installed under the root key (R405)? -/
def Dev.firstOk (d : Dev) (key : Nat) (pub cert : List Byte) : Bool :=
  !(key = 0 || key = 0xFFFFFFFF || (d.keyOf key).isSome || pub.length ≠ 64 || !ecdsaVerify Config.rootKey (leBytes 4 key ++ pub) cert)

/-- MAKER_FIRST (R405): accepted in NOCFG on the recovery service's port while the store holds no maker key. -/
def Dev.makerFirst (port key : Nat) (pub cert : List Byte) (audits : Bool) (d : Dev) : Dev :=
  if d.sysState ≠ stNocfg || port ≠ 0 || !d.isSet SEC_STAT SEC_STAT_NOMAKER then d
  else if d.firstOk key pub cert then
    if audits then (d.audit 0x42 0 port key 0 key noDigest (objDigest pub)).putKeys (d.sec.keys ++ [⟨key, rlMaker, pub⟩]) else d
  else d.failedAttempt rlMaker 0 port key 0

/-- A session without a valid request for its role's IDLE seconds closes. -/
def Dev.idleTimeout (id : Nat) (d : Dev) : Dev :=
  match d.sec.sessions.find? (fun s => s.id = id) with
  | none => d
  | some x => if d.since x.lastAt < (d.roleRec x.role).idle * secTicks then d else d.closeSession x

/-- A lockout ends after LOCKOUT minutes. -/
def Dev.lockoutExpire (role : Nat) (d : Dev) : Dev :=
  if d.now.toNat < (Tab.getD (0 : Time) d.sec.lockEnd role).toNat then d else d.setF SEC_STAT (lockField role) 0

/-! ## Requests (R409, R412) -/

abbrev rcOk : Nat := 0
abbrev rcAuth : Nat := 1
abbrev rcRight : Nat := 2
abbrev rcNoBound : Nat := 3
abbrev rcRange : Nat := 4
abbrev rcBusy : Nat := 5
abbrev rcFull : Nat := 6
abbrev rcRefused : Nat := 7
abbrev rcNoAudit : Nat := 8

/-- What a REQUEST message carries beside its ARGS. -/
def Dev.result (x : Session) (code : Nat) (data : List Byte) (d : Dev) : Dev :=
  d.answer x.port x.ctag (leBytes 1 0x11 ++ leBytes 4 x.id ++ leBytes 4 x.ctr ++ leBytes 1 code ++ data)

/-- Does AUTH cover the request under the session's key? -/
def Dev.authOk (d : Dev) (x : Session) (ctr op : Nat) (args auth : List Byte) : Bool :=
  let msg := leBytes 4 x.id ++ leBytes 4 ctr ++ leBytes 1 op ++ args
  match d.keyIn x.key x.role with
  | none => false
  | some k => if x.role = rlOperator then auth = (hmac256 k.key msg).take 16 else ecdsaVerify k.key msg auth

/-- The lowest role with the right to an operation (Table SEC-2). -/
def opRole (op : Nat) : Nat :=
  if [0x11, 0x12, 0x13, 0x30, 0x31, 0x32, 0x33, 0x50].contains op then rlInstaller
  else if [0x40, 0x41, 0x51, 0x52, 0x53].contains op then rlMaker
  else rlOperator

/-- Operations that the recovery service leaves open (R67). -/
def opRecovery (op : Nat) : Bool := [0x01, 0x30, 0x31, 0x32, 0x33, 0x60].contains op

/-- Is a REQUEST's CTR new, and its AUTH good (R409)? SLOT_DATA carries no AUTH. -/
def Dev.genuine (d : Dev) (x : Session) (ctr op : Nat) (args auth : List Byte) : Bool :=
  x.ctr < ctr && (op = 0x31 || d.authOk x ctr op args auth)

/-- Has a session the right to an operation now? -/
def Dev.hasRight (d : Dev) (x : Session) (op : Nat) : Bool := opRole op ≤ x.role && (d.sysState ≠ stNocfg || opRecovery op)

/-- A session after a valid request. -/
def Session.used (x : Session) (ctr : Nat) (now : Time) : Session := { x with ctr := ctr, lastAt := now }

/-- The session `sid` is now `y`. -/
def Dev.setSession (sid : Nat) (y : Session) (d : Dev) : Dev := d.putSessions (d.sec.sessions.map (fun s => if s.id = sid then y else s))

/-- A REQUEST of an open session from its client: R409, then the right, then the operation. -/
def Dev.request (port ctag sid ctr op : Nat) (args auth : List Byte) (act : Session → Dev → Dev) (d : Dev) : Dev :=
  match d.sec.sessions.find? (fun s => s.id = sid && s.port = port && s.ctag = ctag) with
  | none => d
  | some x =>
    let y := x.used ctr d.now
    if !d.genuine x ctr op args auth then ((d.result y rcAuth []).failedAttempt x.role x.role port x.key sid).closeSession x
    else
      let d := d.setSession sid y
      if d.hasRight x op then act y d else d.result y rcRight []

/-- An audited change: the record, the change, RESULT OK. -/
def Dev.change (x : Session) (op target : Nat) (before after : List Byte) (f : Dev → Dev) (d : Dev) : Dev :=
  (f (d.audit op x.role x.port x.key x.id target before after)).result x rcOk []

/-- A request whose change writes an audit record: where the record cannot be committed (`audits` false), the change is not
made and the answer is NOAUDIT (R419). -/
def Dev.audited (audits : Bool) (act : Session → Dev → Dev) (x : Session) (d : Dev) : Dev :=
  let e := act x d
  if audits || e.sec.audHead = d.sec.audHead then e else d.result x rcNoAudit []

/-! ## Reading -/

/-- May a session read a byte: any range that a core load reaches, but the local SRAM of no triad in particular. -/
def readable (a : Nat) : Bool := inShared a || inCoef a || inSig a || inJrn a || inPeriph a

/-- READ. -/
def Dev.secRead (addr len : Nat) (x : Session) (d : Dev) : Dev :=
  let as := (List.range len).map (fun i => addr + i)
  if d.sysState = stNocfg && !as.all inLog then d.result x rcRight []
  else if len = 0 || 256 < len || !as.all readable then d.result x rcRange []
  else d.result x rcOk (as.map (fun a => d.peekByte 0 a))

/-- READ_AUDIT: a record whose CRC fails is reported, and returned as it stands. -/
def Dev.secReadAudit (index count : Nat) (x : Session) (d : Dev) : Dev :=
  let is := (List.range count).map (fun i => index + i)
  if count = 0 || 4 < count || !is.all d.auditHas then d.result x rcRange []
  else (d.forEach is Dev.auditCheck).result x rcOk (is.flatMap d.auditRecord)

/-! ## Limits, bounds and calibration (R414–R418) -/

/-- SET_LIMIT: checked against the bound; the change follows its journal record. -/
def Dev.secSetLimit (addr : Nat) (fmask value : W) (audits : Bool) (x : Session) (d : Dev) : Dev :=
  match d.boundFor addr fmask with
  | none => d.result x rcNoBound []
  | some b =>
    if !b.holds (maskField fmask value) then d.result x rcRange []
    else if d.tableFull (d.valueEnt 0 addr fmask value) then d.result x rcFull []
    else d.jrnRequest jkLimit 0xFF 0 (limitBody x addr fmask value) (.limit x.id x.ctr audits)

/-- What a bound must meet: the form of its words, MAX ≥ MIN, the other level's bound, and the present value (R415). -/
def Dev.boundOk (d : Dev) (b : Bound) : Bool :=
  let wd := maskWidth b.fmask
  let le := fieldLe b.enc wd
  let inside := fun (i o : Bound) => le o.min i.min && le i.max o.max
  fieldForm b.enc wd b.min && fieldForm b.enc wd b.max && le b.min b.max && b.holds (maskField b.fmask (d.limitWord b.addr)) &&
    (match d.boundOf b.addr b.fmask (5 - b.level) with
      | some o => if b.level = 2 then inside b o else inside o b
      | none => true)

/-- May an address carry a bound: an assigned CL or RW register, or a signal-table word? -/
def limitable (a : Nat) : Bool :=
  a % 4 = 0 && (isSigWord a || (match regDesc a with | some r => r.acc = .cl || r.acc = .rw | none => false))

/-- The ENC of a new bound: that of the bound held for the field; where none is held it is left open. -/
def Dev.boundEnc (addr : Nat) (fmask : W) (level : Nat) (d : Dev) : Nat × Dev :=
  match (d.boundOf addr fmask level).or (d.boundOf addr fmask (5 - level)) with
  | some h => (h.enc, d)
  | none => (let (w, d) := d.ask 40; (w.toNat % 3, d))

/-- The digest of the bound held, for an audit record. -/
def Dev.boundDigest (d : Dev) (addr : Nat) (fmask : W) (level : Nat) : List Byte :=
  match d.boundOf addr fmask level with
  | some h => objDigest (leBytes 4 h.min.toNat ++ leBytes 4 h.max.toNat)
  | none => noDigest

/-- SET_BOUND. -/
def Dev.secSetBound (addr : Nat) (fmask : W) (level : Nat) (min max : W) (x : Session) (d : Dev) : Dev :=
  if level = 3 && x.role ≠ rlMaker then d.result x rcRight []
  else if !(level = 2 || level = 3) || !limitable addr || fmask = 0 then d.result x rcRange []
  else
    let r := d.boundEnc addr fmask level
    let b : Bound := ⟨addr, fmask, level, min, max, r.1⟩
    if !r.2.boundOk b then r.2.result x rcRange []
    else if r.2.tableFull (r.2.boundEnt b) then r.2.result x rcFull []
    else r.2.change x 0x11 addr (r.2.boundDigest addr fmask level) (objDigest (leBytes 4 min.toNat ++ leBytes 4 max.toNat))
      (fun d => (d.holdBound b).persist (d.boundEnt b))

/-- A calibration target: whether its word is binary32, whether it must be positive, and the function that must be
disabled (R416). -/
def Dev.calTarget (d : Dev) (a : Nat) : Option (Bool × Bool × Option Nat) :=
  let o := a % 0x10000
  if a % 4 ≠ 0 then none
  else if a / 0x10000 = 0x4011 && o < 0x4000 && 0x40 ≤ o % 0x400 && o % 0x400 < 0x80 then some (true, false, d.axuOwner (o / 0x400))
  else if a / 0x10000 = 0x4011 && o < 0x4000 && (o % 0x400 = 0x268 || o % 0x400 = 0x26C) then some (false, false, d.axuOwner (o / 0x400))
  else if a / 0x10000 = 0x4019 && o < 0x2000 && 0x80 ≤ o % 0x400 && o % 0x400 < 0x100 then some (true, false, d.cvuOwner (o / 0x400))
  else if a / 0x10000 = 0x4026 && 0x100 ≤ o && o < 0x400 && 4 ≤ o % 0x20 && o % 0x20 < 0x10 then some (true, true, none)
  else if a = RTC_TRIM then some (false, false, none)
  else none

/-- CAL_WRITE. -/
def Dev.secCalWrite (addr : Nat) (value : W) (x : Session) (d : Dev) : Dev :=
  match d.calTarget addr with
  | none => d.result x rcRight []
  | some (isF, pos, fn) =>
    let e := d.valueEnt 2 addr 0xFFFFFFFF#32 value
    if fn.any d.enabled then d.result x rcBusy []
    else if (isF && (fIsNaN value || fIsInf value)) || (pos && !fLt f0 value) || (addr = RTC_TRIM && (256 ≤ value.toNat || value = 0x80#32)) then
      d.result x rcRange []
    else if d.tableFull e then d.result x rcFull []
    else d.change x 0x12 addr (wordDigest (d.rd addr)) (wordDigest value) (fun d => (d.wr addr value).persist e)

/-- The bytes of the persisted table, for its digest. -/
def Dev.tableBytes (d : Dev) : List Byte :=
  d.sec.table.flatMap (fun e => leBytes 4 e.kind ++ leBytes 4 e.addr ++ leBytes 4 e.fmask.toNat ++ leBytes 4 e.value.toNat ++
    leBytes 4 e.bound.level ++ leBytes 4 e.bound.min.toNat ++ leBytes 4 e.bound.max.toNat)

/-- RESET_LIMITS empties the persisted table. -/
def Dev.secResetLimits (x : Session) (d : Dev) : Dev :=
  d.change x 0x13 0 (objDigest d.tableBytes) (objDigest []) (fun d => d.putTable [])

/-! ## Acknowledgement and calendar -/

/-- ACK of a function (0–31) or of a charge channel (0x20, 0x21): journalled first. -/
def Dev.secAck (target : Nat) (audits : Bool) (x : Session) (d : Dev) : Dev :=
  if 0x21 < target then d.result x rcRange []
  else if 0x20 ≤ target && d.chgPhase (target - 0x20) ≠ cpFault then d.result x rcRefused []
  else d.jrnRequest jkAck 0xFF 0 (leBytes 1 target ++ leBytes 1 x.role ++ leBytes 1 x.port ++ leBytes 1 0 ++ leBytes 4 x.key ++ leBytes 4 x.id)
    (.ack x.id x.ctr target audits)

/-- SET_RTC. -/
def Dev.secSetRtc (v : W) (x : Session) (d : Dev) : Dev := (d.setRtc x v).result x rcOk []

/-! ## Slot writes (R70, R413) -/

abbrev slotBytes : Nat := 0x800000

def Dev.flashGet (d : Dev) (slot o n : Nat) : List Byte := Mem.getN 0xFF d.flash (slot * slotBytes + o) n
def Dev.flashPut (slot o : Nat) (bs : List Byte) (d : Dev) : Dev := { d with flash := Mem.putN 0xFF (slot * slotBytes + o) bs d.flash }
def Dev.flashErase (slot : Nat) (d : Dev) : Dev :=
  { d with flash := d.flash.filter (fun p => !(slot * slotBytes ≤ p.1 && p.1 < (slot + 1) * slotBytes)) }

def Dev.bootedSlot (d : Dev) : Nat := d.fld SYS_BOOT SYS_BOOT_SLOT

/-- SLOT_BEGIN. -/
def Dev.slotBegin (slot len : Nat) (sha : List Byte) (x : Session) (d : Dev) : Dev :=
  if d.sec.slotw.isSome || d.sec.slotCheck.isSome then d.result x rcBusy []
  else if 1 < slot || len < 4 || slotBytes < len then d.result x rcRange []
  else if d.sysState ≠ stNocfg && slot = d.bootedSlot then d.result x rcRefused []
  else
    let d := d.flashErase slot
    ({ d with sec := { d.sec with slotw := some ⟨x.id, slot, len, sha, 0, false, []⟩ } }).result x rcOk []

/-- SLOT_DATA: up to 448 bytes at the next offset; the four bytes of MAGIC are held back. -/
def Dev.slotData (off : Nat) (bs : List Byte) (x : Session) (d : Dev) : Dev :=
  match d.sec.slotw with
  | none => d.result x rcRefused []
  | some w =>
    if w.sid ≠ x.id then d.result x rcBusy []
    else if bs.isEmpty || 448 < bs.length || w.len < off + bs.length then d.result x rcRange []
    else if off ≠ w.next then ({ d with sec := { d.sec with slotw := some { w with gap := true } } }).result x rcRange []
    else
      let k := 4 - min 4 off
      let d := d.flashPut w.slot (off + min k bs.length) (bs.drop k)
      ({ d with sec := { d.sec with slotw := some { w with next := off + bs.length, held := w.held ++ bs.take k } } }).result x rcOk []

/-- The whole image of a slot write that ends. -/
def Dev.slotImage (d : Dev) (w : SlotW) : List Byte := w.held ++ d.flashGet w.slot 4 (w.len - 4)

/-- Is every byte there, with the digest that SLOT_BEGIN named? -/
def Dev.slotWhole (d : Dev) (w : SlotW) : Bool := !(w.gap || w.next ≠ w.len || sha256 (d.slotImage w) ≠ w.sha)

/-- MAGIC is written and the first-pass checks begin, audited. -/
def Dev.slotClose (w : SlotW) (x : Session) (d : Dev) : Dev :=
  let before := leBytes 4 (d.rd SYS_CFGDIG0).toNat ++ leBytes 4 (d.rd SYS_CFGDIG1).toNat
  let after := (sha256 ((d.slotImage w).drop 0x100)).take 8
  d.change x 0x30 w.slot before after (fun d =>
    let d := d.flashPut w.slot 0 w.held
    { d with sec := { d.sec with slotCheck := some w.slot } })

/-- SLOT_END. -/
def Dev.slotEnd (x : Session) (d : Dev) : Dev :=
  match d.sec.slotw with
  | none => d.result x rcRefused []
  | some w =>
    if w.sid ≠ x.id then d.result x rcBusy []
    else
      let d := { d with sec := { d.sec with slotw := none } }
      if d.slotWhole w then d.slotClose w x else d.result x rcRefused []

/-! ## Restart (R71) -/

/-- The condition of R71 that is not met. -/
def Dev.restartBar (d : Dev) : Option Nat :=
  if d.fns.any (fun f => !(d.inSafe f || !d.enabled f)) then some 1
  else if d.sec.slotw.isSome then some 2
  else if !d.jrn.reqs.isEmpty || d.isSet JRN_STAT JRN_STAT_COMMITTING then some 3
  else none

def Dev.restartRefused (cond : Nat) (d : Dev) : Dev := d.evt EV_SYS_RESTART_REFUSED [cond]

/-- RESTART of a session. -/
def Dev.secRestart (x : Session) (d : Dev) : Dev :=
  match d.restartBar with
  | some c => (d.restartRefused c).result x rcRefused []
  | none => (d.change x 0x33 0 noDigest noDigest id).restart rstRestart

/-! ## Keys -/

/-- KEY_INSTALL: an operator's HMAC key, or a certified public key. -/
def Dev.keyInstall (key role : Nat) (bs : List Byte) (certId : Nat) (cert : List Byte) (x : Session) (d : Dev) : Dev :=
  if key = 0 || key = 0xFFFFFFFF || role = 0 || 3 < role || bs.length ≠ (if role = rlOperator then 16 else 64) then d.result x rcRange []
  else if (d.keyOf key).isSome then d.result x rcRefused []
  else if keyRoom role ≤ (d.roleKeys role).length then d.result x rcFull []
  else if role ≠ rlOperator && !d.certOk key role bs certId cert then d.result x rcRefused []
  else d.change x 0x40 key noDigest (objDigest bs) (fun d => d.putKeys (d.sec.keys ++ [⟨key, role, bs⟩]))

/-- KEY_REVOKE: any key but the last maker key; its sessions close. -/
def Dev.keyRevoke (key : Nat) (x : Session) (d : Dev) : Dev :=
  match d.keyOf key with
  | none => d.result x rcRange []
  | some k =>
    if k.role = rlMaker && (d.roleKeys rlMaker).length ≤ 1 then d.result x rcRefused []
    else (d.change x 0x41 key (objDigest k.key) noDigest (fun d => d.putKeys (d.sec.keys.filter (fun j => j.id ≠ key)))).closeWhere
      (fun s => s.key = key)

/-! ## Clearing and tests -/

/-- The bytes of a resource's Gust record, or of all, for its digest. -/
def Dev.gustBytes (d : Dev) (res : Nat) : List Byte :=
  ((d.red.gusts.map (·.1)).filter (fun k => res = 0xFFFF || k = res)).flatMap (fun k => leBytes 4 (d.rd (RED_GUST (k / 256) (k % 256))).toNat)

/-- Is a resource ID one of Table RED-3? -/
def isResource (res : Nat) : Bool :=
  res % 256 < (match res / 256 with | 1 => 12 | 2 => 32 | 3 => 48 | 4 => 9 | 5 => 64 | 6 => 32 | 7 => 96 | _ => 0)

/-- GUST_CLEAR of one resource, or of all (0xFFFF). -/
def Dev.secGustClear (res : Nat) (x : Session) (d : Dev) : Dev :=
  if res ≠ 0xFFFF && !isResource res then d.result x rcRange []
  else d.change x 0x50 res (objDigest (d.gustBytes res)) (objDigest ((d.gustClear res).gustBytes res)) (fun d => d.gustClear res)

/-- CULL_CLEAR of one resource, or of the whole list. -/
def Dev.secCullClear (res : Nat) (x : Session) (d : Dev) : Dev :=
  if res ≠ 0xFFFF && !isResource res then d.result x rcRange []
  else
    let bytes := fun (d : Dev) => objDigest (d.red.cull.flatMap Cull.bytes)
    d.change x 0x51 res (bytes d) (bytes (d.cullClear res)) (fun d => d.cullClear res)

/-- LOCKOUT_CLEAR of the operator or the installer role. -/
def Dev.lockoutClear (role : Nat) (x : Session) (d : Dev) : Dev :=
  if role = rlOperator || role = rlInstaller then
    d.change x 0x52 role noDigest noDigest (fun d =>
      ({ d with sec := { d.sec with lockEnd := Tab.set role d.now d.sec.lockEnd } }).setF SEC_STAT (lockField role) 0)
  else d.result x rcRange []

/-- The ARGS of a FACTEST that names a test. -/
def factestArgs (test : Option (Nat × Nat × Bool)) : List Byte :=
  match test with
  | some p => leBytes 1 p.1 ++ leBytes 2 p.2.1
  | none => []

/-- Factory tests are in force: no enable is granted from now on, audited. -/
def Dev.factestBegin (x : Session) (d : Dev) : Dev :=
  let d := d.audit 0x53 x.role x.port x.key x.id 0 noDigest noDigest
  ({ d with red := { d.red with refuseAll := true } }).setF SEC_STAT SEC_STAT_FACTEST 1

/-- FACTEST: no function may be enabled; from then on no enable is granted. A test of Table BKG-3 asked for returns its
outcome. -/
def Dev.secFactest (test : Option (Nat × Nat × Bool)) (x : Session) (d : Dev) : Dev :=
  if d.fns.any d.enabled then d.result x rcRefused []
  else if test.any (fun p => p.1 = 0 || 7 < p.1) then d.result x rcRange []
  else (d.factestBegin x).result x rcOk (match test with
      | some p => leBytes 1 (if p.2.2 then brPass else brFail)
      | none => [])

/-- CLOSE. -/
def Dev.secClose (x : Session) (d : Dev) : Dev := (d.result x rcOk []).closeSession x

/-! ## Meanings -/

/-- OPEN (R410): A client OPEN is checked for role, port, lockout and capacity, and is answered CHALLENGE or DENIED. -/
def execOpen (t : Time) (port ctag role key : Nat) (cnonce : List Byte) (s : State) : Host.Outcome State Fault Refusal :=
  s.on t (fun d => d.secOpenMsg port ctag role key cnonce)

/-- PROVE (R408): A PROVE is verified over the transcript, and is answered GRANTED or DENIED with a failed attempt. -/
def execProve (t : Time) (port ctag sid : Nat) (proof : List Byte) (s : State) : Host.Outcome State Fault Refusal :=
  s.on t (fun d => d.secProve port ctag sid proof)

/-- PROVE_TIMEOUT (R408): No PROVE within 5 s of its CHALLENGE counts as a failed attempt. -/
def execProveTimeout (t : Time) (sid : Nat) (s : State) : Host.Outcome State Fault Refusal :=
  s.on t (fun d => d.proveTimeout sid)

/-- MAKER_FIRST (R405): In NOCFG without a maker key, a root-certified first maker key is installed and audited. -/
def execMakerFirst (t : Time) (port key : Nat) (pub cert : List Byte) (audits : Bool) (s : State) : Host.Outcome State Fault Refusal :=
  s.on t (fun d => d.makerFirst port key pub cert audits)

/-- READ (R412): Session READ of up to 256 bytes of any core-readable range. -/
def execRead (t : Time) (port ctag sid ctr : Nat) (addr len : Nat) (auth : List Byte) (s : State) : Host.Outcome State Fault Refusal :=
  s.on t (fun d => d.request port ctag sid ctr 0x01 (leBytes 4 addr ++ leBytes 2 len) auth (fun x d => d.secRead addr len x))

/-- READ_AUDIT (R412): Session read of one to four audit records. -/
def execReadAudit (t : Time) (port ctag sid ctr : Nat) (index count : Nat) (auth : List Byte) (s : State) : Host.Outcome State Fault Refusal :=
  s.on t (fun d => d.request port ctag sid ctr 0x02 (leBytes 4 index ++ leBytes 1 count) auth (fun x d => d.secReadAudit index count x))

/-- SET_LIMIT (R414): A LIMIT-declared field is set within its bound after journal and audit commits. -/
def execSetLimit (t : Time) (port ctag sid ctr : Nat) (addr fmask value : W) (audits : Bool) (auth : List Byte) (s : State) : Host.Outcome State Fault Refusal :=
  s.on t (fun d => d.request port ctag sid ctr 0x10 (leBytes 4 addr.toNat ++ leBytes 4 fmask.toNat ++ leBytes 4 value.toNat) auth (fun x d => d.secSetLimit addr.toNat fmask value audits x))

/-- SET_BOUND (R415): An installer or maker bound is set for a field. -/
def execSetBound (t : Time) (port ctag sid ctr : Nat) (addr fmask : W) (level : Nat) (lower upper : W) (audits : Bool) (auth : List Byte) (s : State) : Host.Outcome State Fault Refusal :=
  s.on t (fun d => d.request port ctag sid ctr 0x11 (leBytes 4 addr.toNat ++ leBytes 4 fmask.toNat ++ leBytes 1 level ++ leBytes 4 lower.toNat ++ leBytes 4 upper.toNat) auth (Dev.audited audits (fun x d => d.secSetBound addr.toNat fmask level lower upper x)))

/-- CAL_WRITE (R416): A permitted calibration register is written while its function is disabled. -/
def execCalWrite (t : Time) (port ctag sid ctr : Nat) (addr value : W) (audits : Bool) (auth : List Byte) (s : State) : Host.Outcome State Fault Refusal :=
  s.on t (fun d => d.request port ctag sid ctr 0x12 (leBytes 4 addr.toNat ++ leBytes 4 value.toNat) auth (Dev.audited audits (fun x d => d.secCalWrite addr.toNat value x)))

/-- RESET_LIMITS (R418): Empties the persisted limit table. -/
def execResetLimits (t : Time) (port ctag sid ctr : Nat) (audits : Bool) (auth : List Byte) (s : State) : Host.Outcome State Fault Refusal :=
  s.on t (fun d => d.request port ctag sid ctr 0x13 ([]) auth (Dev.audited audits (fun x d => d.secResetLimits x)))

/-- ACK (R412): A session acknowledges a function or charge-channel fault, which is journalled as kind 0x7. -/
def execAck (t : Time) (port ctag sid ctr : Nat) (target : Nat) (audits : Bool) (auth : List Byte) (s : State) : Host.Outcome State Fault Refusal :=
  s.on t (fun d => d.request port ctag sid ctr 0x20 (leBytes 1 target) auth (fun x d => d.secAck target audits x))

/-- SET_RTC (R44): A session writes RTC_SETSEC. -/
def execSetRtc (t : Time) (port ctag sid ctr : Nat) (v : W) (audits : Bool) (auth : List Byte) (s : State) : Host.Outcome State Fault Refusal :=
  s.on t (fun d => d.request port ctag sid ctr 0x21 (leBytes 4 v.toNat) auth (Dev.audited audits (fun x d => d.secSetRtc v x)))

/-- SLOT_BEGIN (R413): Names a slot, its length and SHA-256, and erases the slot. -/
def execSlotBegin (t : Time) (port ctag sid ctr : Nat) (slot len : Nat) (sha : List Byte) (auth : List Byte) (s : State) : Host.Outcome State Fault Refusal :=
  s.on t (fun d => d.request port ctag sid ctr 0x30 (leBytes 1 slot ++ leBytes 4 len ++ sha) auth (fun x d => d.slotBegin slot len sha x))

/-- SLOT_DATA (R413): Writes up to 448 image bytes at the next offset. -/
def execSlotData (t : Time) (port ctag sid ctr : Nat) (off : Nat) (bs : List Byte) (s : State) : Host.Outcome State Fault Refusal :=
  s.on t (fun d => d.request port ctag sid ctr 0x31 [] [] (fun x d => d.slotData off bs x))

/-- SLOT_END (R413): Checks the stream hash and on a match writes MAGIC and starts the first-pass checks. -/
def execSlotEnd (t : Time) (port ctag sid ctr : Nat) (audits : Bool) (auth : List Byte) (s : State) : Host.Outcome State Fault Refusal :=
  s.on t (fun d => d.request port ctag sid ctr 0x32 ([]) auth (Dev.audited audits (fun x d => d.slotEnd x)))

/-- RESTART (R71): A session restarts the module through SYS_CTRL.RESTART. -/
def execRestart (t : Time) (port ctag sid ctr : Nat) (audits : Bool) (auth : List Byte) (s : State) : Host.Outcome State Fault Refusal :=
  s.on t (fun d => d.request port ctag sid ctr 0x33 ([]) auth (Dev.audited audits (fun x d => d.secRestart x)))

/-- KEY_INSTALL (R406): A maker session installs a certified key. -/
def execKeyInstall (t : Time) (port ctag sid ctr : Nat) (key role : Nat) (bs : List Byte) (certId : Nat) (cert : List Byte) (audits : Bool) (auth : List Byte) (s : State) : Host.Outcome State Fault Refusal :=
  s.on t (fun d => d.request port ctag sid ctr 0x40 (certified key role bs ++ (if role = rlOperator then [] else leBytes 4 certId ++ cert)) auth (Dev.audited audits (fun x d => d.keyInstall key role bs certId cert x)))

/-- KEY_REVOKE (R406): A maker session revokes a key and closes its sessions. -/
def execKeyRevoke (t : Time) (port ctag sid ctr : Nat) (key : Nat) (audits : Bool) (auth : List Byte) (s : State) : Host.Outcome State Fault Refusal :=
  s.on t (fun d => d.request port ctag sid ctr 0x41 (leBytes 4 key) auth (Dev.audited audits (fun x d => d.keyRevoke key x)))

/-- GUST_CLEAR (R276): Clears the Gust history of one resource or all, recording 0x250D. -/
def execGustClear (t : Time) (port ctag sid ctr : Nat) (res : Nat) (audits : Bool) (auth : List Byte) (s : State) : Host.Outcome State Fault Refusal :=
  s.on t (fun d => d.request port ctag sid ctr 0x50 (leBytes 2 res) auth (Dev.audited audits (fun x d => d.secGustClear res x)))

/-- CULL_CLEAR (R280): A maker session clears cullet entries in MRAM, effective at the next start, recording 0x250C. -/
def execCullClear (t : Time) (port ctag sid ctr : Nat) (res : Nat) (audits : Bool) (auth : List Byte) (s : State) : Host.Outcome State Fault Refusal :=
  s.on t (fun d => d.request port ctag sid ctr 0x51 (leBytes 2 res) auth (Dev.audited audits (fun x d => d.secCullClear res x)))

/-- LOCKOUT_CLEAR (R411): A maker session lifts the lockout of the operator or installer role. -/
def execLockoutClear (t : Time) (port ctag sid ctr : Nat) (role : Nat) (audits : Bool) (auth : List Byte) (s : State) : Host.Outcome State Fault Refusal :=
  s.on t (fun d => d.request port ctag sid ctr 0x52 (leBytes 1 role) auth (Dev.audited audits (fun x d => d.lockoutClear role x)))

/-- FACTEST (R417): With no function enabled, enters factory test until restart and refuses every enable. -/
def execFactest (t : Time) (port ctag sid ctr : Nat) (test : Option (Nat × Nat × Bool)) (audits : Bool) (auth : List Byte) (s : State) : Host.Outcome State Fault Refusal :=
  s.on t (fun d => d.request port ctag sid ctr 0x53 (factestArgs test) auth (Dev.audited audits (fun x d => d.secFactest test x)))

/-- CLOSE (R410): Ends the session. -/
def execClose (t : Time) (port ctag sid ctr : Nat) (auth : List Byte) (s : State) : Host.Outcome State Fault Refusal :=
  s.on t (fun d => d.request port ctag sid ctr 0x60 ([]) auth (fun x d => d.secClose x))

/-- SESSION_IDLE_TIMEOUT (R410): A session without a valid request for its role's IDLE seconds closes. -/
def execSessionIdleTimeout (t : Time) (sid : Nat) (s : State) : Host.Outcome State Fault Refusal :=
  s.on t (fun d => d.idleTimeout sid)

/-- LOCKOUT_EXPIRE (R411): A role's lockout ends after LOCKOUT minutes. -/
def execLockoutExpire (t : Time) (role : Fin 4) (s : State) : Host.Outcome State Fault Refusal :=
  s.on t (fun d => d.lockoutExpire role)

end Sys2Proof.Machine
end

