-- ==== Sys2Proof/Machine/Deliver.lean ====
section
/-! DEFINITION. Committed journal records and what they complete (R28, R305, R306, R348): posts, stored frames, domain
commands, limit changes and acknowledgements, here and after the partner's JACK. -/

namespace Sys2Proof.Machine

/-! ## Completion -/

/-- Result codes of QPOST and QTAKE (Table COR-8). -/
abbrev qrAccept : Nat := 0
abbrev qrLocal : Nat := 1
abbrev qrFull : Nat := 2
abbrev qrBadq : Nat := 3
abbrev qrTaken : Nat := 4
abbrev qrEmpty : Nat := 5

/-- The result that the assured instruction of triad `t` returns once ASSURED_QUEUE_COMPLETE finishes it. -/
def Dev.assuredResult (t code : Nat) (d : Dev) : Dev :=
  d.modTriad t (fun x =>
    match x.wait, x.held with
    | .assured rd _ seq, _ => { x with wait := .assured rd (some (BitVec.ofNat 32 code)) seq }
    | _, .assured rd _ seq => { x with held := .assured rd (some (BitVec.ofNat 32 code)) seq }
    | _, _ => x)

/-- An entry whose journal record was awaited joins its ring. -/
def Dev.unpost (q : Nat) (d : Dev) : Dev := d.modQue q (fun e => { e with posting := e.posting - 1 })

/-- A fault acknowledgement takes effect (R251, R288): audited; a function's waits for the Gaffer's FNCMD ACK. -/
def Dev.ackDone (x : Session) (target : Nat) (d : Dev) : Dev :=
  let d := d.audit 0x20 x.role x.port x.key x.id target noDigest noDigest
  if target < 32 then { d with red := { d.red with ackGiven := withBits d.red.ackGiven target 1 1 } } else d.chgAck (target - 0x20)

/-- What a record that is durable here, and in ACTIVE in the partner, completes; `loc` says that it is LOCAL. -/
def Dev.recordDone (r : JReq) (loc : Bool) (d : Dev) : Dev :=
  let open_ := fun (sid : Nat) => d.sec.sessions.find? (fun s => s.id = sid)
  match r.next with
  | .post t desc => ((d.unpost r.que).qPush r.que desc).when (t < 4) (fun d => d.assuredResult t (if loc then qrLocal else qrAccept))
  | .store desc => (d.unpost r.que).stored r.que desc
  | .command src sq seq dq desc _ => ((((d.unpost dq).setStream src sq seq).stored dq desc).reply src dq sq 0 loc seq)
  | .taken t addr => d.when (t < 4 && addr.isSome) (fun d => d.assuredResult t qrTaken)
  | .limit sid ctr audits =>
    (d.when audits (fun d => d.applyLimit true r.body)).whenSome (open_ sid) (fun x d =>
      d.result { x with ctr := ctr } (if audits then rcOk else rcNoAudit) [])
  | .ack sid ctr target audits =>
    let n := fun (o k : Nat) => leNat (sliceB r.body o k)
    let x : Session := { (default : Session) with id := n 8 4, port := n 2 1, role := n 1 1, key := n 4 4 }
    (d.when audits (fun d => d.ackDone x target)).whenSome (open_ sid) (fun x d =>
      d.result { x with ctr := ctr } (if audits then rcOk else rcNoAudit) [])
  | .done | .nothing => d

/-! ## Commands -/

/-- JOURNAL_COMMIT: the record asked for first becomes durable. In ACTIVE it goes to the partner and waits for JACK; a
partner that synchronises receives it without a wait (R306). -/
def Dev.journalCommit (d : Dev) : Dev :=
  match d.jrn.reqs with
  | [] => d
  | r :: rest =>
    let d := { d with jrn := { d.jrn with reqs := rest } }
    let waits := decide (d.paired && d.role = roleActive && d.linkUp)
    let loc := d.paired && !waits
    let d := d.commitRecord r.kind r.que r.seq r.body loc
    let pos := d.jrn.jpos - 1
    let d := d.when (waits || (d.paired && d.role = roleAlone && d.linkUp && d.lnk.jsent.isSome)) (fun d =>
      (d.linkSend (.jrn pos r.kind r.que r.seq r.body)).modLnk (fun l => { l with jsent := some (pos + 1) }))
    let d := if waits then { d with jrn := { d.jrn with unacked := d.jrn.unacked ++ [{ r with jpos := pos, sentAt := d.now }] } }
      else d.recordDone r loc
    d.commitWarned

/-- JACK: the partner has committed the records up to this position. -/
def Dev.jack (jp : Nat) (d : Dev) : Dev :=
  let done := d.jrn.unacked.filter (fun r => r.jpos ≤ jp)
  let d := { d with jrn := { d.jrn with unacked := d.jrn.unacked.filter (fun r => !(r.jpos ≤ jp)) } }
  done.foldl (fun d r => d.recordDone r false) d

/-- No JACK within JTO: what waits is LOCAL, and so is every later record (R305). -/
def Dev.jackTimeout (d : Dev) : Dev :=
  let late := fun (r : JReq) => decide (d.fld LNK_CFG LNK_CFG_JTO * 10 * usTicks ≤ d.since r.sentAt)
  if !d.jrn.unacked.any late then d
  else
    let rs := d.jrn.unacked
    let mark := fun (e : JLive) => if rs.any (fun r => r.jpos = e.jpos) then { e with isLocal := true } else e
    let d := { d with jrn := { d.jrn with unacked := [], live := d.jrn.live.map mark } }
    let d := d.when (d.role = roleActive) (fun d => d.setRole roleAlone)
    let d := (d.setF LNK_FLT LNK_FLT_JRNFAIL 1).evt EV_LNK_JRN_MIRROR_FAIL []
    rs.foldl (fun d r => d.recordDone r true) d

/-! ## Meanings -/

/-- JACK_RECEIVED (R305): JACK completes the mirrored acceptance of a journal record. -/
def execJackReceived (t : Time) (seq jp : Nat) (s : State) : Host.Outcome State Fault Refusal :=
  s.on t (fun d => d.onLink seq (fun d => d.jack jp))

/-- JACK_TIMEOUT (R305): No JACK within JTO marks the record LOCAL, enters ALONE and records 0x2309. -/
def execJackTimeout (t : Time) (s : State) : Host.Outcome State Fault Refusal :=
  s.on t (fun d => d.jackTimeout)

/-- JOURNAL_COMMIT (R348): A journal record becomes durable in MRAM, making the work accepted. -/
def execJournalCommit (t : Time) (s : State) : Host.Outcome State Fault Refusal :=
  s.on t (fun d => d.journalCommit)

end Sys2Proof.Machine
end

