-- ==== Sys2Proof/Machine/Image.lean ====
section
/-! DEFINITION. The configuration image (chapter 03): its header, its records, and the checks of the first pass, which read
the image and write nothing (R53–R65). A rejection carries a reason of Table SYS-10 and the index of a record. -/

namespace Sys2Proof.Machine

/-- A rejection: its reason (Table SYS-10) and the offending record, 0xFFFF for the header. -/
structure Reject where
  reason : Nat
  index : Nat
deriving DecidableEq, Repr

abbrev rjFlash : Nat := 1
abbrev rjHeader : Nat := 2
abbrev rjHash : Nat := 3
abbrev rjSig : Nat := 4
abbrev rjProgSig : Nat := 5
abbrev rjStruct : Nat := 6
abbrev rjRule : Nat := 7
abbrev rjAuth : Nat := 8
abbrev rjApply : Nat := 9
abbrev rjHdrIndex : Nat := 0xFFFF

/-- The reason of the first break of a list of checks. -/
def firstBreak : List (Bool × Nat) → Option Nat
  | [] => none
  | (broken, reason) :: r => if broken then some reason else firstBreak r

/-! ## Header (R53, R54) -/

/-- The 256 header bytes of a slot. -/
def Dev.header (d : Dev) (slot : Nat) : List Byte := d.flashGet slot 0 256

/-- A number in header or payload bytes. -/
def numAt (bs : List Byte) (o n : Nat) : Nat := leNat (sliceB bs o n)

def hdrTotal (h : List Byte) : Nat := numAt h 0x08 4
def hdrGeneration (h : List Byte) : Nat := numAt h 0x0C 4
def hdrEpoch (h : List Byte) : Nat := numAt h 0x10 4
def hdrRecords (h : List Byte) : Nat := numAt h 0x1C 4
def hdrRole (h : List Byte) : Nat := numAt h 0x44 1

/-- Is a slot's header good for a stepping? -/
def headerGood (step : Nat) (h : List Byte) : Bool :=
  numAt h 0 4 = 0x38345848 && numAt h 4 2 = 0x100 && numAt h 6 2 = 256 && numAt h 0x14 4 = 0x48580048 &&
  hdrTotal h % 4 = 0 && 272 ≤ hdrTotal h && hdrTotal h ≤ 6291456 && hdrGeneration h ≠ 0xFFFFFFFF && numAt h 0x18 2 ≤ step

def Dev.slotGood (d : Dev) (slot : Nat) : Bool := headerGood (d.rd SYS_STEP).toNat (d.header slot)

/-- The body of a slot. -/
def Dev.body (d : Dev) (slot : Nat) : List Byte := d.flashGet slot 256 (hdrTotal (d.header slot) - 256)

/-- Does BODY_SHA match the body? -/
def Dev.hashOk (d : Dev) (slot : Nat) : Bool := sha256 (d.body slot) = sliceB (d.header slot) 0x20 32

/-- Does the signature verify with KEY_ID of the store, a key of ROLE, installer or maker? -/
def Dev.signed (d : Dev) (slot : Nat) : Bool :=
  let h := d.header slot
  match d.keyIn (numAt h 0x40 4) (hdrRole h) with
  | none => false
  | some k => (k.role = rlInstaller || k.role = rlMaker) && ecdsaVerify k.key (h.take 0xC0 ++ d.body slot) (sliceB h 0xC0 64)

/-! ## Framing (R57) -/

abbrev rtReg : Nat := 1
abbrev rtBlk : Nat := 2
abbrev rtProg : Nat := 3
abbrev rtCoef : Nat := 4
abbrev rtFunc : Nat := 5
abbrev rtSpare : Nat := 6
abbrev rtSigmap : Nat := 7
abbrev rtRoute : Nat := 8
abbrev rtQueue : Nat := 9
abbrev rtLimit : Nat := 10
abbrev rtKey : Nat := 11
abbrev rtRole : Nat := 12
abbrev rtMirror : Nat := 13
abbrev rtCharge : Nat := 14
abbrev rtSplit : Nat := 15
abbrev rtEnd : Nat := 16

/-- The payload length in words that a type requires of a payload. -/
def needWords (ty : Nat) (p : List Byte) : Nat :=
  if ty = rtReg then 3
  else if ty = rtBlk || ty = rtCoef then 2 + numAt p 4 4
  else if ty = rtProg then 21 + (numAt p 0x0C 4 + 3) / 4
  else if ty = rtFunc || ty = rtCharge then 16
  else if ty = rtSpare then 1 + numAt p 1 1
  else if ty = rtSigmap then 4 + 2 * numAt p 2 2
  else if ty = rtRoute then 1 + 2 * numAt p 0 2
  else if ty = rtQueue then 4
  else if ty = rtLimit then 5
  else if ty = rtKey then 35
  else if ty = rtRole then 2
  else if ty = rtMirror then 2 + 2 * numAt p 4 4
  else 1

/-- The records of a body from index `i` on, END last; a break of the framing rejects. -/
def splitRecs : Nat → Nat → List Byte → Except Reject (List Rec)
  | 0, i, _ => .error ⟨rjStruct, i⟩
  | n + 1, i, bs =>
    let ty := numAt bs 0 2
    let len := numAt bs 2 2
    let p := (bs.drop 4).take (4 * len)
    if bs.length < 4 || ty = 0 || 16 < ty || p.length ≠ 4 * len || needWords ty p ≠ len then .error ⟨rjStruct, i⟩
    else if ty = rtEnd then (if bs.length = 8 then .ok [⟨ty, p⟩] else .error ⟨rjStruct, i⟩)
    else
      match splitRecs n (i + 1) (bs.drop (4 + 4 * len)) with
      | .error e => .error e
      | .ok rs => .ok (⟨ty, p⟩ :: rs)

/-- The records of a slot, counted against RECORDS and END's COUNT. -/
def Dev.slotRecs (d : Dev) (slot : Nat) : Except Reject (List Rec) :=
  let n := hdrRecords (d.header slot)
  let body := d.body slot
  match splitRecs (body.length / 4 + 1) 0 body with
  | .error e => .error e
  | .ok rs =>
    let count := match rs.getLast? with | some r => numAt r.payload 0 4 | none => 0
    if rs.length = n && count + 1 = n then .ok rs else .error ⟨rjStruct, rs.length - 1⟩

/-! ## Payload fields -/

def Rec.num (r : Rec) (o n : Nat) : Nat := numAt r.payload o n
def Rec.word (r : Rec) (o : Nat) : W := BitVec.ofNat 32 (r.num o 4)

/-- The addresses and words that a BLK record writes. -/
def Rec.blk (r : Rec) : List (Nat × W) := (List.range (r.num 4 4)).map (fun i => (r.num 0 4 + 4 * i, r.word (8 + 4 * i)))

/-- A number that stands for a resource, or 0xFF for none. -/
def noneFF (n : Nat) : Option Nat := if n = 0xFF then none else some n

/-- The named cascades of a FUNC record with their deadlines. -/
def Rec.cascs (r : Rec) : List (Nat × Nat) :=
  (List.range 4).filterMap (fun i => (noneFF (r.num (0x10 + i) 1)).map (fun c => (c, r.num (0x14 + 4 * i) 4)))

/-- A FUNC record's binding (Table SYS-6). -/
def Rec.func (r : Rec) : FuncRec where
  kind := r.num 1 1
  safe := r.num 2 1
  tg := r.num 3 1
  legs := oneBits 48 (r.num 4 8)
  axuA := noneFF (r.num 0x0C 1)
  axuB := noneFF (r.num 0x0D 1)
  cvu := noneFF (r.num 0x0E 1)
  slot := r.num 0x0F 1
  casc := r.cascs
  seqs := oneBits 32 (r.num 0x24 4)
  dsms := oneBits 32 (r.num 0x28 4)
  cmps := oneBits 64 (r.num 0x2C 8)
  missLimit := r.num 0x34 1

/-- The entries of a SPARE record. -/
def Rec.spares (r : Rec) : List SpareEnt :=
  (List.range (r.num 1 1)).map (fun i =>
    ⟨r.num 0 1, r.num (4 + 4 * i) 1, r.num (5 + 4 * i) 1, r.num (6 + 4 * i) 1, r.num (7 + 4 * i) 1⟩)

def Rec.sigmap (r : Rec) : SigMap where
  dir := r.num 0 1
  queue := r.num 1 1
  canid := r.word 4
  idmask := r.word 8
  fields := (List.range (r.num 2 2)).map (fun i =>
    ⟨r.num (0x10 + 8 * i) 2, r.num (0x12 + 8 * i) 2, r.num (0x14 + 8 * i) 1, r.num (0x15 + 8 * i) 1, r.num (0x16 + 8 * i) 1⟩)

def Rec.routes (r : Rec) : List RouteEnt :=
  (List.range (r.num 0 2)).map (fun i => ⟨r.num (4 + 8 * i) 2, r.num (6 + 8 * i) 2, r.num (8 + 8 * i) 1, r.num (9 + 8 * i) 1⟩)

/-- The ring of a QUEUE record: its first address and its length. -/
def Rec.ring (r : Rec) : Nat × Nat := (r.num 8 4, 96 * r.num 4 2)

def Rec.limit (r : Rec) : LimitRec := ⟨r.num 0 4, r.word 4, r.word 8, r.word 0x0C, r.num 0x10 1, r.num 0x11 1⟩

def Rec.regions (r : Rec) : List MirRegion :=
  (List.range (r.num 4 4)).map (fun i =>
    let w := r.num (0x0C + 8 * i) 4
    ⟨r.num (8 + 8 * i) 4, w % 2 ^ 24, w.testBit 31⟩)

def Rec.key (r : Rec) : KeyEnt := ⟨r.num 0 4, r.num 4 1, sliceB r.payload 8 64⟩

/-- Do two ranges of a first address and a length meet? -/
def meets (a b : Nat × Nat) : Bool := a.1 < b.1 + b.2 && b.1 < a.1 + a.2

def ofType (ty : Nat) (rs : List Rec) : List Rec := rs.filter (fun r => r.ty = ty)

/-! ## PROG signatures (R60) -/

/-- Does MSIG hold under a maker key? -/
def Dev.progSigned (d : Dev) (r : Rec) : Bool :=
  match d.keyIn (r.num 0x10 4) rlMaker with
  | none => false
  | some k => ecdsaVerify k.key (r.payload.take 0x14 ++ sliceB r.payload 0x54 (r.num 0x0C 4)) (sliceB r.payload 0x14 64)

/-- The first PROG record whose signature fails. -/
def Dev.progReject (d : Dev) (rs : List Rec) : Option Reject :=
  (rs.zipIdx.find? (fun p => p.1.ty = rtProg && !d.progSigned p.1)).map (fun p => ⟨rjProgSig, p.2⟩)

/-! ## The first pass, record by record (R58–R64) -/

/-- May a REG or BLK record write these bits of an address? SYS and SEC are no targets, SEC_CFG apart (R59). -/
def targetOk (a : Nat) (v : W) : Bool :=
  a % 4 = 0 && a / 0x10000 ≠ 0x4001 && (a / 0x10000 ≠ 0x4005 || a = SEC_CFG) &&
  match regDesc a with
  | some r => (r.acc = .cl || r.acc = .rw) && v &&& ~~~(BitVec.ofNat 32 r.mask) = 0
  | none => false

def checkReg (r : Rec) : Option Nat :=
  firstBreak [(r.num 8 4 = 0, rjRule), (!targetOk (r.num 0 4) (r.word 4 &&& r.word 8), rjRule)]

/-- A BLK word: a register, or a word of the signal table with the reserved bits of ATTR zero (R59, R338). -/
def blkWordOk (a : Nat) (v : W) : Bool :=
  if inSig a then a % 4 = 0 && (a % 16 ≠ 12 || v &&& 0xE0800000#32 = 0) else targetOk a v

def checkBlk (r : Rec) : Option Nat :=
  firstBreak [(r.num 4 4 = 0 || 65533 < r.num 4 4, rjRule), (r.blk.any (fun p => !blkWordOk p.1 p.2), rjRule)]

def checkProg (r : Rec) : Option Nat :=
  let bytes := r.num 0x0C 4
  firstBreak [
    (r.num 1 1 / 2 ≠ 0 || r.num 2 2 ≠ 0 || (r.payload.drop (0x54 + bytes)).any (fun b => b ≠ 0), rjStruct),
    (3 < r.num 0 1 || r.num 4 4 % 4 ≠ 0 || 0x80000 < r.num 4 4 + bytes, rjRule)]

def coefSpan (r : Rec) : Nat × Nat := (r.num 0 4, 4 * r.num 4 4)

def checkCoef (before : List Rec) (r : Rec) : Option Nat :=
  firstBreak [
    (r.num 0 4 % 4 ≠ 0 || 0x80000 < r.num 0 4 + 4 * r.num 4 4, rjRule),
    ((ofType rtCoef before).any (fun x => meets (coefSpan x) (coefSpan r)), rjRule)]

def checkSplit (before : List Rec) (r : Rec) : Option Nat :=
  firstBreak [(r.num 2 2 ≠ 0, rjStruct), (before.any (fun x => x.ty = rtSplit || x.ty = rtFunc || x.ty = rtCoef), rjRule)]

/-- The fewest and the most legs of a kind (Table ARCH-3). -/
def legRange (kind : Nat) : Nat × Nat :=
  match kind with
  | 2 => (6, 6)
  | 3 => (2, 8)
  | 5 => (4, 4)
  | 6 => (1, 4)
  | 7 => (1, 1)
  | _ => (3, 3)

/-- Does a record bind the units its kind requires (R17, R19)? -/
def unitsOk (f : FuncRec) : Bool :=
  (if f.kind = 2 then
      (match f.axuA, f.axuB with | some a, some b => a < 15 && a % 2 = 0 && b = a + 1 | _, _ => false)
    else if isMotorKind f.kind then (match f.axuA with | some a => a < 16 | none => false) && f.axuB.isNone
    else f.axuA.isNone && f.axuB.isNone) &&
  (if isCvuKind f.kind then (match f.cvu with | some c => c < 8 | none => false) else f.cvu.isNone)

/-- The cascades a kind requires at least (R61). -/
def cascNeed (kind : Nat) : Nat := if kind = 1 || kind = 2 || kind = 7 then 1 else 2

def share {α : Type} [BEq α] (xs ys : List α) : Bool := xs.any (fun x => ys.contains x)

/-- Do two FUNC records bind one resource (R6, R18, R151)? -/
def clash (f g : FuncRec) : Bool :=
  let axus := fun (h : FuncRec) => h.axuA.toList ++ h.axuB.toList
  f.tg = g.tg || share f.legs g.legs || share (axus f) (axus g) || share f.cvu.toList g.cvu.toList || share f.seqs g.seqs ||
  share f.dsms g.dsms || share f.cmps g.cmps || share (f.casc.map (·.1)) (g.casc.map (·.1))

def checkFunc (before : List Rec) (r : Rec) : Option Nat :=
  let f := r.func
  let others := ofType rtFunc before
  let kinds := f.kind :: others.map (fun x => x.func.kind)
  let cs := f.casc.map (·.1)
  firstBreak [
    (r.num 8 4 / 0x10000 ≠ 0 || r.num 0x35 1 ≠ 0 || (r.payload.drop 0x36).any (fun b => b ≠ 0), rjStruct),
    (31 < r.num 0 1 || others.any (fun x => x.num 0 1 = r.num 0 1) || f.kind = 0 || 8 < f.kind || 4 < f.safe || 15 < f.tg ||
      62 < f.slot || f.missLimit = 0 || 15 < f.missLimit, rjRule),
    (f.legs.length < (legRange f.kind).1 || (legRange f.kind).2 < f.legs.length || !permitted f.kind f.safe || !unitsOk f, rjRule),
    ((List.range 4).any (fun i => r.num (0x10 + i) 1 = 0xFF && r.num (0x14 + 4 * i) 4 ≠ 0), rjRule),
    (f.casc.any (fun c => 63 < c.1 || c.2 < 8000 || 1600000000 < c.2) || cs.length < cascNeed f.kind || !cs.Nodup, rjRule),
    (f.cmps.isEmpty || (f.seqs.isEmpty && f.dsms.isEmpty), rjRule),
    (16 < (kinds.filter isMotorKind).length || 8 < (kinds.filter isCvuKind).length, rjRule),
    (others.any (fun x => clash x.func f), rjRule)]

/-- The number of resources of a spare kind. -/
def spareRange (rkind : Nat) : Nat :=
  match rkind with | 1 => 48 | 2 => 64 | 4 => 32 | _ => 0

def checkSpare (r : Rec) : Option Nat :=
  firstBreak [
    (r.num 2 2 ≠ 0, rjStruct),
    (31 < r.num 0 1 || r.num 1 1 = 0 || 64 < r.num 1 1, rjRule),
    (r.spares.any (fun e => e.rkind = 0 || 4 < e.rkind || 1 < e.mode || (e.mode = 1 && e.rkind ≠ 2)), rjRule),
    (r.spares.any (fun e => if e.mode = 1 then 95 < e.subst else e.rkind ≠ 3 && spareRange e.rkind ≤ e.subst), rjRule)]

/-- Does a field reach past its frame (R341)? A big-endian field never goes below bit 0 of its first byte. -/
def pastFrame (canid : W) (f : SigField) : Bool := f.bits.any (fun b => (if canid.bit 30 then 511 else 63) < b)

/-- Do two fields of a list share a frame bit? -/
def bitsShared (fs : List SigField) : Bool := !(fs.flatMap SigField.bits).Nodup

def checkSigmap (before : List Rec) (r : Rec) : Option Nat :=
  let m := r.sigmap
  firstBreak [
    (r.num 0x0C 4 ≠ 0 || m.canid.bit 29 || (List.range (r.num 2 2)).any (fun i => r.num (0x17 + 8 * i) 1 ≠ 0), rjStruct),
    (1 < m.dir || 31 < m.queue || m.fields.isEmpty || 64 < m.fields.length || 256 ≤ (ofType rtSigmap before).length, rjRule),
    (m.fields.any (fun f => 511 < f.bitpos || f.bitlen = 0 || 64 < f.bitlen || 2 < f.enc || 1 < f.order), rjRule),
    (m.fields.any (fun f => f.enc = 2 && f.bitlen ≠ 32) || m.fields.any (pastFrame m.canid), rjRule),
    (m.dir = 1 && bitsShared m.fields, rjRule)]

/-- Is no device ID in two entries of a list? -/
def routesApart : List RouteEnt → Bool
  | [] => true
  | e :: r => r.all (fun x => e.last < x.first || x.last < e.first) && routesApart r

def checkRoute (before : List Rec) (r : Rec) : Option Nat :=
  let all := (ofType rtRoute before).flatMap Rec.routes ++ r.routes
  firstBreak [
    (r.num 2 2 ≠ 0 || (List.range (r.num 0 2)).any (fun i => r.num (0x0A + 8 * i) 2 ≠ 0), rjStruct),
    (r.routes.any (fun e => 0x3FFF < e.first || 0x3FFF < e.last || e.last < e.first || !(e.egress < 6 || e.egress = 0x10) ||
      e.hops = 0 || 15 < e.hops), rjRule),
    (1024 < all.length || !routesApart all, rjRule)]

def checkQueue (before : List Rec) (r : Rec) : Option Nat :=
  let others := ofType rtQueue before
  let n := r.num 4 2
  firstBreak [
    (r.num 7 1 ≠ 0, rjStruct),
    (31 < r.num 0 1 || others.any (fun x => x.num 0 1 = r.num 0 1) || !(r.num 1 1 < 6 || r.num 1 1 = bindLink || r.num 1 1 = bindCores) ||
      1 < r.num 2 1 || 1 < r.num 3 1 || n = 0 || 1024 < n || r.num 8 4 % 64 ≠ 0, rjRule),
    (r.ring.1 < 0x10000000 || logBase < r.ring.1 + r.ring.2 || others.any (fun x => meets x.ring r.ring), rjRule),
    (r.num 3 1 = 1 && r.num 2 1 = 0 && (r.num 6 1 ≠ 255 || r.num 0x0C 4 ≠ 0), rjRule)]

/-- Is the target of a LIMIT record a register or a word of the signal table? -/
def limitTarget (a : Nat) : Bool := a % 4 = 0 && (inSig a || (regDesc a).isSome)

def checkLimit (role : Nat) (r : Rec) : Option Nat :=
  let l := r.limit
  let wd := maskWidth l.fmask
  firstBreak [
    (r.num 0x12 2 ≠ 0, rjStruct),
    (2 < l.enc || (l.level ≠ 2 && l.level ≠ 3) || l.fmask = 0 || !limitTarget l.addr, rjRule),
    (l.level = 3 && role ≠ rlMaker, rjAuth),
    (l.enc = 2 && l.fmask ≠ 0xFFFFFFFF#32, rjRule),
    (!fieldForm l.enc wd l.min || !fieldForm l.enc wd l.max || !fieldLe l.enc wd l.min l.max, rjRule)]

/-- KEY: only in a maker's image, not in the store with other content, certified by a maker key (R63, R404, R406). -/
def Dev.checkKey (d : Dev) (role : Nat) (r : Rec) : Option Nat :=
  let k := r.key
  let other := match d.keyOf k.id with | some x => !(x.role = k.role && x.key = k.pub) | none => false
  firstBreak [
    (r.num 5 3 ≠ 0, rjStruct),
    (k.role ≠ rlInstaller || k.id = 0 || k.id = 0xFFFFFFFF, rjRule),
    (role ≠ rlMaker || other || !d.certOk k.id k.role k.pub (r.num 0x48 4) (sliceB r.payload 0x4C 64), rjAuth)]

def checkRole (r : Rec) : Option Nat :=
  firstBreak [
    (r.num 6 2 ≠ 0 || 0x7F < r.num 1 1, rjStruct),
    (r.num 0 1 = 0 || 3 < r.num 0 1 || r.num 2 2 < 10 || 3600 < r.num 2 2 || r.num 4 1 = 0 || 15 < r.num 4 1 || r.num 5 1 = 0, rjRule)]

/-- Does a region lie wholly in shared SRAM below the event log, or wholly in the signal table (R64)? -/
def regionOk (g : MirRegion) : Bool :=
  g.addr % 16 = 0 && g.len % 16 = 0 &&
  ((0x10000000 ≤ g.addr && g.addr + g.len ≤ logBase) || (0x19000000 ≤ g.addr && g.addr + g.len ≤ 0x19100000))

/-- Do no two regions of a list overlap? -/
def regionsApart : List MirRegion → Bool
  | [] => true
  | g :: r => r.all (fun h => !meets (g.addr, g.len) (h.addr, h.len)) && regionsApart r

def checkMirror (before : List Rec) (r : Rec) : Option Nat :=
  let all := (ofType rtMirror before).flatMap Rec.regions ++ r.regions
  let total := fun (gs : List MirRegion) => (gs.map MirRegion.len).sum
  firstBreak [
    ((List.range (r.num 4 4)).any (fun i => bitsOf (r.num (0x0C + 8 * i) 4) 24 7 ≠ 0), rjStruct),
    (r.num 0 4 < 500 || 10000 < r.num 0 4 || r.num 4 4 = 0 || 64 < r.num 4 4, rjRule),
    (!r.regions.all regionOk || !regionsApart all, rjRule),
    (512 * 1024 < total all || 64 * 1024 < total (all.filter MirRegion.selected), rjRule),
    (r.num 0 4 * 640 < total all + 2048, rjRule)]

def checkCharge (before : List Rec) (r : Rec) : Option Nat :=
  firstBreak [
    (r.num 0x2B 1 ≠ 0 || r.num 0x3C 4 ≠ 0 || 3 < r.num 1 1, rjStruct),
    (1 < r.num 0 1 || (ofType rtCharge before).any (fun x => x.num 0 1 = r.num 0 1) || 1 < r.num 2 1 || 31 < r.num 3 1 ||
      23 < r.num 0x2A 1, rjRule)]

/-- The checks of one record, after those before it. -/
def Dev.checkRec (d : Dev) (role : Nat) (before : List Rec) (r : Rec) : Option Nat :=
  match r.ty with
  | 1 => checkReg r
  | 2 => checkBlk r
  | 3 => checkProg r
  | 4 => checkCoef before r
  | 5 => checkFunc before r
  | 6 => checkSpare r
  | 7 => checkSigmap before r
  | 8 => checkRoute before r
  | 9 => checkQueue before r
  | 10 => checkLimit role r
  | 11 => d.checkKey role r
  | 12 => checkRole r
  | 13 => checkMirror before r
  | 14 => checkCharge before r
  | 15 => checkSplit before r
  | _ => none

/-! ## Rules across records -/

/-- The register word that the REG and BLK records of an image leave at an address. -/
def imageWord (rs : List Rec) (a : Nat) : W :=
  rs.foldl (fun v r =>
    if r.ty = rtReg && r.num 0 4 = a then (v &&& ~~~r.word 8) ||| (r.word 4 &&& r.word 8)
    else if r.ty = rtBlk then r.blk.foldl (fun v p => if p.1 = a then p.2 else v) v
    else v) (regReset a)

/-- Does a slot's target word name a function's leg boundary (Table TKP-1, kind 0x1)? -/
def boundarySlot (w : W) (f : Nat) : Bool :=
  (w.fld TKP_SLOT_TGT_TGTA_KIND = 1 && w.fld TKP_SLOT_TGT_TGTA_IDX = f) || (w.fld TKP_SLOT_TGT_TGTB_KIND = 1 && w.fld TKP_SLOT_TGT_TGTB_IDX = f)

/-- A resource by its spare kind and index, as FUNC records bind it. -/
def bindsSpare (f : FuncRec) (rkind n : Nat) : Bool :=
  if rkind = 1 then f.legs.contains n else if rkind = 2 then f.cmps.contains n else f.dsms.contains n

/-- Does a SPARE entry break R62 within an image? Degraded readings name an input, which may be any. -/
def spareBroken (rs : List Rec) (before : List SpareEnt) (e : SpareEnt) : Bool :=
  let fs := ofType rtFunc rs
  (e.rkind ≠ 3 && !fs.any (fun r => r.num 0 1 = e.fn && bindsSpare r.func e.rkind e.primary)) ||
  (e.mode = 0 && (before.any (fun x => x.mode = 0 && x.rkind = e.rkind && x.subst = e.subst) ||
    (e.rkind ≠ 3 && fs.any (fun r => bindsSpare r.func e.rkind e.subst))))

/-- The first entry of a list that breaks R62 after those before it. -/
def spareBreak (rs : List Rec) : List SpareEnt → List SpareEnt → Bool
  | _, [] => false
  | before, e :: r => spareBroken rs before e || spareBreak rs (before ++ [e]) r

/-- The code span of a PROG record. -/
def progSpan (r : Rec) : Nat × Nat := (r.num 4 4, r.num 0x0C 4)
def isEntry (r : Rec) : Bool := (r.num 1 1).testBit 0

/-- Does a PROG record break R60 among the PROG records of its triad? -/
def progBroken (rs before : List Rec) (r : Rec) : Bool :=
  let mine := (ofType rtProg rs).filter (fun x => x.num 0 1 = r.num 0 1)
  (mine.filter isEntry).length ≠ 1 ||
  ((ofType rtProg before).any (fun x => x.num 0 1 = r.num 0 1 && meets (progSpan x) (progSpan r))) ||
  (isEntry r && !mine.any (fun x => x.num 4 4 ≤ r.num 8 4 && r.num 8 4 < x.num 4 4 + x.num 0x0C 4))

/-- The checks that need records after the one they name. -/
def lateCheck (rs before : List Rec) (r : Rec) : Option Nat :=
  match r.ty with
  | 3 => firstBreak [(progBroken rs before r, rjRule)]
  | 5 => firstBreak [(!boundarySlot (imageWord rs (TKP_SLOT_TGT r.func.slot)) (r.num 0 1), rjRule)]
  | 6 => firstBreak [(spareBreak rs ((ofType rtSpare before).flatMap Rec.spares) r.spares, rjRule)]
  | 7 => firstBreak [(!(ofType rtQueue rs).any (fun x => x.num 0 1 = r.num 1 1 && x.num 2 1 = 1 - min 1 (r.num 0 1)), rjRule)]
  | 10 =>
    let l := r.limit
    let wd := maskWidth l.fmask
    firstBreak [(l.level = 2 && (ofType rtLimit rs).any (fun x =>
      x.limit.level = 3 && x.limit.addr = l.addr && x.limit.fmask = l.fmask &&
        !(fieldLe x.limit.enc wd x.limit.min l.min && fieldLe x.limit.enc wd l.max x.limit.max)), rjAuth)]
  | 13 => firstBreak [(r.regions.any (fun g => (ofType rtQueue rs).any (fun x => meets x.ring (g.addr, g.len))), rjRule)]
  | 16 => firstBreak [(!(ofType rtProg rs).any (fun x => x.num 0 1 = 0), rjRule)]
  | _ => none

/-- The first record, in image order, that a check rejects. -/
def firstReject (check : List Rec → Rec → Option Nat) (rs : List Rec) : Option Reject :=
  (rs.zipIdx.findSome? (fun p => (check (rs.take p.2) p.1).map (fun why => ⟨why, p.2⟩)))

/-- The first pass over a slot (R65): framing, every record, then the rules across records. -/
def Dev.firstPass (d : Dev) (slot : Nat) : Option Reject :=
  match d.slotRecs slot with
  | .error e => some e
  | .ok rs => (firstReject (d.checkRec (hdrRole (d.header slot))) rs).or (firstReject (lateCheck rs) rs)

end Sys2Proof.Machine
end

