-- ==== Sys2Proof/Machine/Checks.lean ====
section
/-! DEFINITION. The third pass (R65, R457): every check that the specification assigns to the applied state. Each definition
says whether one instance breaks its rules; only instances that are enabled, bound or named by a record are asked. -/

namespace Sys2Proof.Machine

def outside (lo hi x : Nat) : Bool := x < lo || hi < x
def fPos (x : W) : Bool := fFinite x && fGt x f0

/-! ## Slots (R33, R164, R243, R398, Table TKP-1) -/

def Dev.slotEn (d : Dev) (n : Nat) : Bool := if n < 32 then d.bit TKP_SLOTEN0 n else d.bit TKP_SLOTEN1 (n - 32)
def Dev.slotPer (d : Dev) (n : Nat) : Nat := (d.rd (TKP_SLOT_PER n)).toNat
def Dev.slotPhs (d : Dev) (n : Nat) : Nat := (d.rd (TKP_SLOT_PHS n)).toNat

/-- The targets of a slot: kind and index, the first target first. -/
def Dev.slotTargets (d : Dev) (n : Nat) : List (Nat × Nat) :=
  let w := d.rd (TKP_SLOT_TGT n)
  [(w.fld TKP_SLOT_TGT_TGTA_KIND, w.fld TKP_SLOT_TGT_TGTA_IDX), (w.fld TKP_SLOT_TGT_TGTB_KIND, w.fld TKP_SLOT_TGT_TGTB_IDX)]

/-- The slots that the third pass asks about: enabled, or named by a FUNC record; SLOT63 is fixed (R35). -/
def Dev.slotsAsked (d : Dev) : List Nat :=
  (List.range 63).filter (fun n => d.slotEn n || d.img.funcs.any (fun p => p.2.slot = n))

/-- The range of INDEX for a kind of target. -/
def tgtRange (kind : Nat) : Nat :=
  match kind with | 0 => 256 | 1 => 32 | 2 => 32 | 3 => 32 | 4 => 64 | 5 => 16 | 6 => 8 | 7 => 24 | 8 => 256 | _ => 0

/-- Does a target of slot `n` break the rule of its kind? -/
def Dev.badTarget (d : Dev) (n : Nat) (t : Nat × Nat) : Bool :=
  let per := d.slotPer n
  tgtRange t.1 ≤ t.2 ||
  (t.1 = 1 && (d.fnLegs t.2).any (fun l => d.fld (LEG_PER l) ⟨0, 24⟩ ≠ per)) ||
  (t.1 = 4 && per < 80000) ||
  (t.1 = 6 && match d.cvuOwner t.2 with
    | none => false
    | some f =>
      let lp := d.fnPer f
      lp = 0 || per % lp ≠ 0 || outside 1 255 (per / lp) || d.slotPhs n % lp ≠ d.slotPhs (d.funcD f).slot % lp) ||
  (t.1 = 8 && 95 * msTicks < per + d.marvPer)

def Dev.badSlot (d : Dev) (n : Nat) : Bool :=
  d.slotPer n < 32000 || d.slotPer n ≤ d.slotPhs n || (d.slotTargets n).any (d.badTarget n)

/-- At most one enabled slot names a converter unit with kind 0x6, and at most one has kind 0x8. -/
def Dev.badSlotKinds (d : Dev) : Bool :=
  let ts := ((List.range 63).filter d.slotEn).flatMap d.slotTargets
  (List.range 8).any (fun u => 1 < (ts.filter (fun t => t = (6, u))).length) || 1 < (ts.filter (fun t => t.1 = 8)).length

/-! ## Legs (R73, R78, R88, R92, R95) -/

def Dev.badLeg (d : Dev) (n : Nat) : Bool :=
  let kind := match d.legOwner n with | some f => (d.funcD f).kind | none => 0
  let c := d.rd (LEG_CFG n)
  let mode := c.fld LEG_CFG_MODE
  let src := c.fld LEG_CFG_SRC
  let w := d.rd (LEG_GLWL n)
  mode = 3 || outside 32000 16000000 (d.fld (LEG_PER n) ⟨0, 24⟩) || d.fld (LEG_TRIP n) LEG_TRIP_RESP = 3 ||
  outside 1 15 (d.fld (LEG_GLCFG n) LEG_GLCFG_ERRLIM) || outside 1 25 (d.fld (LEG_GLCFG n) LEG_GLCFG_POLL) ||
  outside 1 2 (d.fld (LEG_GLCFG n) LEG_GLCFG_NDRV) || 64 < w.fld LEG_GLWL_COUNT || 4096 < w.fld LEG_GLWL_FIRST + w.fld LEG_GLWL_COUNT ||
  (List.range (w.fld LEG_GLWL_COUNT)).any (fun i =>
    let r := d.fld (LEG_GLTAB (w.fld LEG_GLWL_FIRST + i)) LEG_GLTAB_REG
    r ≠ 2 && r < 0x10) ||
  (if isMotorKind kind then mode ≠ 0 || src ≠ 0
   else if isCvuKind kind then mode ≠ 2 || src ≠ 1
   else mode ≠ 0 || src < 2)

/-! ## Acquisition (R106, R110, R117, R123–R126) -/

/-- Every group start of a sequence: step 0, and each step after one that ends its group. -/
def Dev.groupStarts (d : Dev) (s : Nat) : List Nat :=
  (List.range (d.seqLast s + 1)).filter (fun i => i = 0 || !d.isSet (ADC_STEP s (i - 1)) ADC_STEP_WITHNEXT)

def Dev.badStep (d : Dev) (s i : Nat) : Bool :=
  let w := d.rd (ADC_STEP s i)
  let input := w.fld ADC_STEP_INPUT
  let diff := w.bit 7
  w.fld ADC_STEP_GAIN = 3 || w.fld ADC_STEP_ACQ < 8 || (96 ≤ input && (diff || w.fld ADC_STEP_GAIN ≠ 0)) ||
  (diff && (input % 2 = 1 || 96 ≤ input))

def Dev.badSeq (d : Dev) (s : Nat) : Bool :=
  let c := d.rd (ADC_SEQCFG s)
  c.fld ADC_SEQCFG_POLICY = 3 || (c.fld ADC_SEQCFG_GIOEN = 1 && 23 < c.fld ADC_SEQCFG_GIO) ||
  (c.fld ADC_SEQCFG_DKIND = 3 && !d.img.funcs.any (fun p => p.2.kind = 7 && p.2.seqs.contains s)) ||
  (List.range (d.seqLast s + 1)).any (d.badStep s) ||
  (d.groupStarts s).any (fun g => !((d.group s g).map (d.stepSlot s)).Nodup)

def Dev.badDsm (d : Dev) (n : Nat) : Bool :=
  let c := d.rd (DSM_CFG n)
  let o := d.rd (DSM_OCCFG n)
  let hi := signedOf 8 (o.fld DSM_OCCFG_OCHI)
  let lo := signedOf 8 (o.fld DSM_OCCFG_OCLO)
  c.fld DSM_CFG_ORDER < 2 || outside 16 256 (c.fld DSM_CFG_DEC) || c.fld DSM_CFG_DKIND = 3 || 39 < c.fld DSM_CFG_CAPDLY ||
  (o.fld DSM_OCCFG_OCEN = 1 && (hi < -64 || 64 < hi || lo < -64 || 64 < lo || hi ≤ lo))

/-! ## Windows and groups (R131, R146, R238) -/

def Dev.badWindow (d : Dev) (n : Nat) : Bool :=
  let c := d.rd (CMP_CFG n)
  let t := d.rd (CMP_THR n)
  let en := c.fld CMP_CFG_EN = 1
  let mode := c.fld CMP_CFG_MODE
  (en && mode = 0) || (c.fld CMP_CFG_SAMP = 1 && outside 4 4000 (c.fld CMP_CFG_TICK)) ||
  (mode = 3 && 3000 * t.fld CMP_THR_HI ≤ 3000 * t.fld CMP_THR_LO + 8192 * c.fld CMP_CFG_HYST)

def Dev.badGroup (d : Dev) (g : Nat) : Bool :=
  d.isSet (TRP_GCFG g) TRP_GCFG_AUTOREL && d.fld (TRP_GCFG g) TRP_GCFG_AUTOMAX = 0

/-- A function's group without a fault pull of one of its legs, or without any of its windows. -/
def Dev.badMasks (d : Dev) (r : FuncRec) : Bool :=
  let pull := fun (n : Nat) => if n < 32 then d.bit (TRP_GPULL0 r.tg) n else d.bit (TRP_GPULL1 r.tg) (n - 32)
  let win := fun (n : Nat) => if n < 32 then d.bit (TRP_GCMP0 r.tg) n else d.bit (TRP_GCMP1 r.tg) (n - 32)
  !r.legs.all pull || !r.cmps.any win

/-! ## Engines (R152, R158, R159, R163) -/

/-- Is an operand code assigned, and a section it names below NSEC (Table CEN-1)? -/
def operandOk (nsec code : Nat) : Bool := code < 0x10 || (0x40 ≤ code && code < 0x80 && code - 0x40 < nsec) || code = 0xFE || code = 0xFF

def inSrcOk (w : W) : Bool :=
  let i := bitsOf w.toNat 0 16
  bitsOf w.toNat 16 12 = 0 &&
  (match bitsOf w.toNat 28 4 with
    | 0 => true
    | 1 => i < 16
    | 2 => i &&& 0x37 = i
    | 3 => true
    | _ => false)

/-- Is an output's destination right, for a function with these legs? -/
def Dev.outDstOk (d : Dev) (nsec : Nat) (legs : List Nat) (w : W) : Bool :=
  let i := bitsOf w.toNat 0 16
  bitsOf w.toNat 22 6 = 0 && bitsOf w.toNat 16 6 < nsec &&
  (match bitsOf w.toNat 28 4 with
    | 0 => true
    | 1 => i < 16
    | 2 => (match legs[i]? with | some l => d.fld (LEG_CFG l) LEG_CFG_SRC = 2 | none => false)
    | 3 => true
    | _ => false)

def Dev.sectionOk (d : Dev) (i j nsec : Nat) : Bool :=
  let k := d.sectWord i j 0
  let ops := d.sectWord i j 1
  let lim := d.sectWord i j 2
  k.toNat % 16 < 2 && bitsOf k.toNat 6 26 = 0 && (List.range 4).all (fun b => operandOk nsec (bitsOf ops.toNat (8 * b) 8)) &&
  bitsOf lim.toNat 8 24 = 0 && operandOk nsec (lim.toNat % 256) && d.sectWord i j 3 = 0

def Dev.coefsOk (d : Dev) (i j regions : Nat) : Bool :=
  (List.range regions).all (fun r =>
    (List.range 10).all (fun k => fFinite (d.coefEntry i r j k)) && d.coefEntry i r j 10 = 0 && d.coefEntry i r j 11 = 0)

/-- Are the three breakpoints of an axis finite, positive and apart, from header word `k`? -/
def Dev.breakpointsOk (d : Dev) (i k : Nat) : Bool :=
  let b := fun (x : Nat) => d.cascHdrWord i (k + x)
  (List.range 3).all (fun x => fPos (b x)) &&
  (List.range 2).all (fun x => fGt (fMul (b (x + 1)) (fC 98 100)) (fMul (b x) (fC 102 100)))

def Dev.schedOk (d : Dev) (i nsec : Nat) : Bool :=
  let w := d.cascHdrWord i 24
  bitsOf w.toNat 18 14 = 0 && operandOk nsec (bitsOf w.toNat 0 8) && operandOk nsec (bitsOf w.toNat 8 8) && d.cascHdrWord i 31 = 0 &&
  (!d.isSet (CEN_CDESC (pairOf i) (cascOf i)) CEN_CDESC_REG16 || (d.breakpointsOk i 25 && d.breakpointsOk i 28))

/-- The cascades that FUNC records name. -/
def Dev.namedCascs (d : Dev) : List Nat := d.img.funcs.flatMap (fun p => p.2.casc.map (·.1))

def Dev.badCascade (d : Dev) (r : FuncRec) (i : Nat) : Bool :=
  let n := d.cascNsec i
  let t := d.rd (CEN_CTRIG (pairOf i) (cascOf i))
  let regions := if d.isSet (CEN_CDESC (pairOf i) (cascOf i)) CEN_CDESC_REG16 then 16 else 1
  outside 1 64 n || 0x20000 < d.cascHdr i + d.cascWords i ||
  d.namedCascs.any (fun k => k ≠ i && meets (d.cascHdr k, d.cascWords k) (d.cascHdr i, d.cascWords i)) ||
  !(List.range 16).all (fun k => inSrcOk (d.cascHdrWord i k)) ||
  !(List.range 8).all (fun k => d.outDstOk n r.legs (d.cascHdrWord i (16 + k))) || !d.schedOk i n ||
  !(List.range n).all (fun j => d.sectionOk i j n && d.coefsOk i j regions) ||
  (t.fld CEN_CTRIG_TRIG = 2 && t.fld CEN_CTRIG_SRCC = cascOf i)

/-- More sections than an engine holds, over the named cascades of a pair. -/
def Dev.badPair (d : Dev) (p : Nat) : Bool :=
  let sum := fun (cs : List Nat) => ((cs.filter (fun c => d.namedCascs.contains (4 * p + c))).map (fun c => d.cascNsec (4 * p + c))).sum
  (d.isSet (CEN_CFG p) CEN_CFG_STEN && d.fld (CEN_CFG p) CEN_CFG_STPER = 0) ||
  (if d.isSet (CEN_CFG p) CEN_CFG_SPLIT then 128 < sum [0, 1] || 128 < sum [2, 3] else 128 < sum [0, 1, 2, 3])

/-! ## Axis units (R179, R180, R189–R192, R201, R223, R257) -/

/-- Does an input name a source that delivers to the unit: an ADC step with FWD, or a ΔΣ channel? -/
def Dev.feedsUnit (d : Dev) (dkind u : Nat) (dsm : Bool) (src step : Nat) : Bool :=
  if dsm then step = 0 && d.fld (DSM_CFG src) DSM_CFG_DKIND = dkind && d.fld (DSM_CFG src) DSM_CFG_DIDX = u
  else d.isSet (ADC_STEP src step) ADC_STEP_FWD && step ≤ d.seqLast src && d.fld (ADC_SEQCFG src) ADC_SEQCFG_DKIND = dkind &&
    d.fld (ADC_SEQCFG src) ADC_SEQCFG_DIDX = u

/-- The enabled inputs of an axis unit: role, whether a channel, source, step. -/
def Dev.axuInputs (d : Dev) (u : Nat) : List (Nat × Bool × Nat × Nat) :=
  (List.range 8).filterMap (fun k =>
    let w := d.rd (AXU_IN u k)
    if w.bit 31 then some (w.fld AXU_IN_ROLE, w.bit 27, w.fld AXU_IN_SRC, w.fld AXU_IN_STEP) else none)

/-- The slots that start a channel's window. -/
def Dev.windowSlots (d : Dev) (n : Nat) : List Nat := (List.range 63).filter (fun s => d.slotEn s && (d.slotTargets s).contains (3, n))

def Dev.badFeedback (d : Dev) (u : Nat) : Bool :=
  let ins := d.axuInputs u
  let cur := ins.filter (fun i => i.1 < 3)
  let adc := cur.filter (fun i => !i.2.1)
  let dsm := cur.filter (fun i => i.2.1)
  ins.any (fun i => i.1 = 7 || !d.feedsUnit 1 u i.2.1 i.2.2.1 i.2.2.2) || !(ins.map (·.1)).Nodup ||
  !(List.range 3).all (fun r => (d.senseRoles u).contains r = cur.any (fun i => i.1 = r)) ||
  (match adc with
    | [] => false
    | i :: rest =>
      match (d.groupStarts i.2.2.1).find? (fun g => (d.group i.2.2.1 g).contains i.2.2.2) with
      | none => true
      | some g => rest.any (fun x => x.2.2.1 ≠ i.2.2.1 || !(d.group i.2.2.1 g).contains x.2.2.2)) ||
  (!dsm.isEmpty && !(List.range 63).any (fun s => dsm.all (fun i => (d.windowSlots i.2.2.1).contains s)))

def Dev.badModulation (d : Dev) (u f : Nat) : Bool :=
  let m := d.rd (AXU_MOD u)
  let mode := m.fld AXU_MOD_MODE
  let ovm := m.fld AXU_MOD_OVM
  let mlim := d.rd (AXU_MLIM u)
  let w := d.rd (AXU_WIN u)
  let pre := w.fld AXU_WIN_WPRE * 400
  let post := w.fld AXU_WIN_WPOST * 400
  mode = 3 || ovm = 3 || (ovm = 2 && mode ≠ 2) || !fPos mlim || fGt mlim (if ovm = 2 then fC 11027 10000 else f1) ||
  (m.fld AXU_MOD_DTCEN = 1 && !fPos (d.rd (AXU_DTCI u))) ||
  (w.bit 31 && (outside 8000 80000 (pre + post) || (d.fnLegs f).any (fun l =>
    let dt := d.fld (LEG_DT l) ⟨0, 16⟩
    64000 < (pre - post) + (post - pre) + dt || d.fld (LEG_PER l) ⟨0, 24⟩ ≤ pre + post + dt)))

/-- Is a GIO in a mode? -/
def Dev.gioIn (d : Dev) (n mode : Nat) : Bool := n < 24 && d.fld (GIO_CFG n) GIO_CFG_MODE = mode

def Dev.badHall (d : Dev) (u : Nat) : Bool :=
  let w := d.rd (AXU_SENSCFG u)
  let gs := [w.fld AXU_SENSCFG_HU, w.fld AXU_SENSCFG_HV, w.fld AXU_SENSCFG_HW]
  let codes := (List.range 6).map (fun c => bitsOf (d.rd (AXU_HALLMAP u)).toNat (3 * c + 3) 3)
  !gs.Nodup || !gs.all (fun n => d.gioIn n 2) || !codes.Nodup || codes.any (fun x => 5 < x)

def Dev.badSent (d : Dev) (u : Nat) : Bool :=
  let w := d.rd (AXU_SENSCFG u)
  let m := w.fld AXU_SENSCFG_SENTCH
  let nibs := d.fld (GIO_SENTCFG m) GIO_SENTCFG_NIBS
  !d.gioIn (16 + m) 3 || outside 1 32 (d.fld (AXU_POSCFG u) AXU_POSCFG_PP) ||
  (if w.bit 27 then nibs ≠ 6 else nibs < 3)

def Dev.badPosition (d : Dev) (u f : Nat) : Bool :=
  let src := d.fld (AXU_POSCFG u) AXU_POSCFG_SRC
  let fsen := d.isSet (AXU_POSCFG u) AXU_POSCFG_FSEN
  let inj := d.rd (AXU_INJCFG u)
  let k := inj.fld AXU_INJCFG_K
  let per := k * d.fnPer f
  let r := fun (reg : Nat → Nat) => d.rd (reg u)
  4 < src ||
  ((src = 0 || src = 1 || src = 4) && !(fPos (r AXU_LD) && fPos (r AXU_LQ) && fPos (r AXU_RS) && fPos (r AXU_PSI))) ||
  (src = 0 && (!fGe (r AXU_LQ) (fMul (fC 13 10) (r AXU_LD)) || !fGt (r AXU_INJV) f0 || k % 2 = 1 || outside 4 62 k ||
    outside 3200000 32000000 per)) ||
  ((src = 0 || src = 4) && !(fGt (r AXU_HOBAND) f0 && fGt (d.omegaLo u) f0 && fLe (d.omegaLo u) (r AXU_FSCATCH) &&
    fLe (r AXU_FSCATCH) (r AXU_ASCSPD))) ||
  (fsen && !([4, 5, 6].all (fun role => (d.axuInputs u).any (fun i => i.1 = role)))) ||
  ((src = 2 || src = 4) && d.badHall u) || (src = 3 && d.badSent u) ||
  ((d.funcD f).kind = 8 && (fsen || !(src = 2 || src = 3)))

/-- Is the ramp used by a cascade of the function (R223)? -/
def Dev.rampUsed (d : Dev) (f : Nat) : Bool :=
  (d.funcD f).casc.any (fun c => (List.range 16).any (fun k =>
    let w := d.cascHdrWord c.1 k
    bitsOf w.toNat 28 4 = 1 && (bitsOf w.toNat 0 16 = 10 || bitsOf w.toNat 0 16 = 11)))

def Dev.badAxu (d : Dev) (u : Nat) : Bool :=
  let f := d.fld (AXU_CFG u) AXU_CFG_FN
  let inj := d.rd (AXU_INJCFG u)
  d.fld (AXU_CFG u) AXU_CFG_SUBMAX = 0 || d.fld (AXU_CFG u) AXU_CFG_ZSCNT = 0 || !fPos (d.rd (AXU_IMAX u)) || d.badFeedback u ||
  d.badModulation u f || d.badPosition u f || d.fld (AXU_POSCFG u) AXU_POSCFG_LOSSN = 0 || inj.fld AXU_INJCFG_CONVMAX = 0 ||
  inj.fld AXU_INJCFG_CONVN = 0 || inj.fld AXU_INJCFG_K % 2 = 1 || outside 4 62 (inj.fld AXU_INJCFG_K) ||
  outside 1 50 (d.fld (AXU_POLCFG u) AXU_POLCFG_MRG) || d.fld (AXU_POLCFG u) AXU_POLCFG_POLN = 0 ||
  d.fld (AXU_FSCFG u) AXU_FSCFG_RETRYDLY = 0 || outside 4 64 (d.fld (AXU_FSCFG u) AXU_FSCFG_MEASN) ||
  500 < d.fld (AXU_RAMPCFG u) AXU_RAMPCFG_DWELL ||
  (d.rampUsed f && !(fPos (d.rd (AXU_ACC u)) && fPos (d.rd (AXU_DEC u)) && fPos (d.rd (AXU_WMAX u))))

/-! ## GIO and SENT (R230, R231) -/

def Dev.badGio (d : Dev) (n : Nat) : Bool :=
  let c := d.rd (GIO_CFG n)
  c.fld GIO_CFG_PULL = 3 || 5 < c.fld GIO_CFG_MODE || (c.fld GIO_CFG_MODE = 3 &&
    (n < 16 || (let s := d.rd (GIO_SENTCFG (n - 16))
      outside 1 6 (s.fld GIO_SENTCFG_NIBS) || s.fld GIO_SENTCFG_SLOW = 3 || outside 60 1800 (s.fld GIO_SENTCFG_TICK))))

/-! ## Converter units (R232–R243) -/

def Dev.cvuInputs (d : Dev) (u : Nat) : List (Nat × Bool × Nat × Nat) :=
  (List.range 16).filterMap (fun k =>
    let w := d.rd (CVU_IN u k)
    if w.bit 31 then some (w.fld CVU_IN_ROLE, w.bit 26, w.fld CVU_IN_SRC, w.fld CVU_IN_STEP) else none)

/-- The roles a unit must map: those of its kind, and VBAT and IBAT in power-path mode 1. -/
def Dev.rolesNeeded (d : Dev) (u f : Nat) : List Nat :=
  d.cvuCurrentRoles u ++ d.cvuOtherRoles u ++
  (if [0, 1].any (fun c => d.chgOn c && d.chgFn c = f && d.isSet (CHG_CFG c) CHG_CFG_PATH) then [14, 15] else [])

/-- A sense window that is not as R238 asks. -/
def Dev.badSense (d : Dev) (u f n : Nat) : Bool :=
  let c := d.rd (CMP_CFG n)
  let peak := d.fld (CVU_CFG u) CVU_CFG_CM = 1
  !(d.funcD f).cmps.contains n || !c.bit 31 || c.bit 30 || c.fld CMP_CFG_MODE ≠ (if peak then 1 else 2) || c.fld CMP_CFG_FILT ≠ 0 ||
  c.fld CMP_CFG_HYST ≠ 0 || !c.bit 25 || (List.range 16).any (fun g => d.srcMask g n) ||
  d.img.spares.any (fun e => e.rkind = 2 && (e.primary = n || (e.mode = 0 && e.subst = n)))

def Dev.badCvu (d : Dev) (u : Nat) : Bool :=
  let c := d.rd (CVU_CFG u)
  let f := c.fld CVU_CFG_FN
  let cm := c.fld CVU_CFG_CM
  let n := c.fld CVU_CFG_NLEG
  let legs := d.fnLegs f
  let ins := d.cvuInputs u
  let dmin := d.rd (CVU_DMIN u)
  let dmax := d.rd (CVU_DMAX u)
  let dab := d.rd (CVU_DABMAX u)
  let mlim := d.rd (CVU_MLIM u)
  let wins := d.senseWins u
  c.fld CVU_CFG_SUBMAX = 0 || cm = 3 || ins.any (fun i => !d.feedsUnit 2 u i.2.1 i.2.2.1 i.2.2.2) || !(ins.map (·.1)).Nodup ||
  !(d.rolesNeeded u f).all (fun r => ins.any (fun i => i.1 = r)) ||
  legs.zipIdx.any (fun l => d.isSet (LEG_CFG l.1) LEG_CFG_CMODE ≠ (decide (cm ≠ 0) && wins.any (fun w => w.1 = l.2))) ||
  wins.any (fun w => d.badSense u f w.2) ||
  ((c.fld CVU_CFG_KIND = kDcdc || c.fld CVU_CFG_KIND = kSolar) && !(fLe f0 dmin && fLt dmin dmax && fLe dmax (fC 98 100))) ||
  (List.range 8).any (fun k => let t := (d.rd (CVU_PHTRIM u k)).toInt; decide (t < -32000) || decide (32000 < t)) ||
  (c.bit 13 && !fGt (d.rd (CVU_PHUP u)) (fMul (fOfNat 2) (d.rd (CVU_PHDN u)))) || outside 1 n (d.fld (CVU_PHM u) CVU_PHM_NMIN) ||
  d.fld (CVU_PHM u) CVU_PHM_PHDLY = 0 || (cm ≠ 0 && d.fld (CVU_CMCFG u) CVU_CMCFG_SLPSTEP < 4) ||
  (c.fld CVU_CFG_KIND = kDab && (d.fnPer f % 2 = 1 || !(fGt dab f0 && fLe dab (fC 1 2)))) ||
  (c.fld CVU_CFG_KIND = kPfc && !(fGt mlim f0 && fLe mlim f1))

/-! ## Charge channels (R245) -/

def Dev.badChg (d : Dev) (c : Nat) : Bool :=
  let v := fun (reg : Nat → Nat) => d.rd (reg c)
  let kindOf := fun (f : Nat) => match d.func f with | some r => r.kind | none => 0
  let k := kindOf (d.chgFn c)
  let ibat := match (d.funcD (d.chgFn c)).cvu with | some u => (d.cvuInput u 15).isSome | none => false
  let t := d.rd (CHG_TCELL c)
  !(k = kDcdc || k = kDab) || (d.chgHasAc c && kindOf (d.chgAc c) ≠ kPfc) || (d.chgHasSol c && kindOf (d.chgSol c) ≠ kSolar) ||
  (d.isSet (CHG_CFG c) CHG_CFG_PATH && !ibat) ||
  !(fLt (v CHG_VSHORT) (v CHG_VRECHG) && fLt (v CHG_VRECHG) (v CHG_VCV) && fLt (v CHG_VCV) (v CHG_VMISS)) ||
  !(fLt f0 (v CHG_ITERM) && fLt (v CHG_ITERM) (v CHG_IPRE) && fLe (v CHG_IPRE) (v CHG_ICC)) || !fGt (v CHG_TSAFETY) f0 ||
  decide (signedOf 8 (t.fld CHG_TCELL_TMAX) ≤ signedOf 8 (t.fld CHG_TCELL_TMIN)) || 23 < t.fld CHG_TCELL_NTC ||
  d.fld (CHG_TIMES c) CHG_TIMES_PRECHK = 0 || outside 1 20 (d.fld (CHG_TIMES c) CHG_TIMES_HOTIME)

/-! ## Solenoid drivers (R259) -/

def Dev.badSolenoid (d : Dev) (r : FuncRec) : Bool :=
  r.seqs.length ≠ 1 || r.seqs.any (fun s => d.fld (ADC_SEQCFG s) ADC_SEQCFG_DKIND ≠ 3)

/-! ## Ports and queues (R316–R321, R322) -/

def Dev.badPort (d : Dev) (n : Nat) : Bool :=
  let c := d.rd (BUS_CFG n)
  let b := d.rd (BUS_NBT n)
  let x := d.rd (BUS_DBT n)
  let nom := (b.fld BUS_NBT_NBRP + 1) * (b.fld BUS_NBT_NTSEG1 + b.fld BUS_NBT_NTSEG2 + 3)
  let dat := (x.fld BUS_DBT_DBRP + 1) * (x.fld BUS_DBT_DTSEG1 + x.fld BUS_DBT_DTSEG2 + 3)
  let a := d.rd (BUS_ABDCFG n)
  (c.bit 27 && (c.bit 30 || a.fld BUS_ABDCFG_TMO = 0 || a.fld BUS_ABDCFG_DWELL = 0 || a.fld BUS_ABDCFG_RATES = 0)) ||
  (!c.bit 27 && (b.fld BUS_NBT_NTSEG1 = 0 || b.fld BUS_NBT_NTSEG2 = 0 || b.fld BUS_NBT_NTSEG2 < b.fld BUS_NBT_NSJW || outside 40 320 nom)) ||
  (c.bit 30 && (x.fld BUS_DBT_DTSEG1 = 0 || x.fld BUS_DBT_DTSEG2 < x.fld BUS_DBT_DSJW || dat < (if n < 4 then 8 else 5) ||
    (dat < 40 && !d.isSet (BUS_TDC n) BUS_TDC_TDCEN))) ||
  c.fld BUS_CFG_RECWIN = 0 ||
  (List.range 64).any (fun k =>
    let e := d.rd (BUS_FCTL n k)
    let q := e.fld BUS_FCTL_QUE
    e.bit 31 && (e.fld BUS_FCTL_KIND = 3 || (e.fld BUS_FCTL_KIND < 2 && !(d.qEn q && d.qRx q && d.qBind q = n))))

def Dev.badQueue (d : Dev) (q : Nat) : Bool :=
  !(d.qBind q < 6 || d.qBind q = bindLink || d.qBind q = bindCores) || outside 1 1024 (d.qSize q) || (d.rd (QUE_RING q)).toNat % 64 ≠ 0

/-! ## Signals (R340, SIG registers) -/

/-- A forwarding queue that is not a transmit queue bound to its egress. -/
def Dev.badForward (d : Dev) : Bool :=
  (List.range 7).any (fun e =>
    let b := bitsOf (d.rd (if e < 4 then SIG_FWDQ0 else SIG_FWDQ1)).toNat (8 * (e % 4)) 8
    b.testBit 7 && !(d.qEn (b % 32) && !d.qRx (b % 32) && d.qBind (b % 32) = (if e < 6 then e else bindLink)))

/-- The domain signals of the entries with PUB or SUB. -/
def Dev.domIds (d : Dev) : List Nat :=
  d.sigt.filterMap (fun c =>
    let a := d.sigAttr ((c.1 - sigBase) / 16)
    if c.1 % 16 = 14 && (a.bit 20 || a.bit 21) then some (a.toNat % 2 ^ 20) else none)

def Dev.badSig (d : Dev) : Bool :=
  let c := d.rd SIG_CFG
  let en := c.fld SIG_CFG_DOMEN = 1
  (en && (c.fld SIG_CFG_DEVID = 0x3FFF || d.fld SEC_CFG SEC_CFG_SMARK = d.fld SIG_DOM SIG_DOM_DMARK)) || c.fld SIG_CFG_REPLYTO = 0 ||
  d.fld SIG_DOM SIG_DOM_PUBPER = 0 || d.badForward || !d.domIds.Nodup

/-! ## Redundancy, cores, heat, background, supply -/

def Dev.badWatchdog (d : Dev) (n : Nat) : Bool :=
  let c := d.rd (RED_WDGCFG n)
  c.fld RED_WDGCFG_TRIAD = 0 || c.fld RED_WDGCFG_CLOSE ≤ c.fld RED_WDGCFG_OPEN

/-- A reserved source, or a timer whose phase does not lie below its period (R367, Table COR-3). -/
def Dev.badTriad (d : Dev) (t : Nat) : Bool :=
  (List.range 48).any (fun i => 5 < d.fld (COR_EVSRC t (16 + i)) COR_EVSRC_KIND) ||
  (List.range 4).any (fun k => d.rd (COR_TPER t k) ≠ 0 && (d.rd (COR_TPER t k)).toNat ≤ (d.rd (COR_TPHS t k)).toNat)

def Dev.badNtc (d : Dev) (n : Nat) : Bool :=
  let c := d.rd (THM_NTCCFG n)
  let ain := c.fld THM_NTCCFG_AIN
  let stop := d.rd (THM_NTCSTOP n)
  95 < ain || (23 < c.fld THM_NTCCFG_PAIR && c.fld THM_NTCCFG_PAIR ≠ 31) || !fPos (d.rd (THM_NTCR0 n)) || !fPos (d.rd (THM_NTCB n)) ||
  !fPos (d.rd (THM_NTCRP n)) || !(fLt (d.rd (THM_NTCDER n)) stop && fLe stop (fOfNat 200)) ||
  (List.range 32).any (fun s => d.isSet (ADC_SEQCFG s) ADC_SEQCFG_EN && (List.range (d.seqLast s + 1)).any (fun i =>
    d.isSet (ADC_STEP s i) ADC_STEP_DIFF && d.fld (ADC_STEP s i) ADC_STEP_INPUT + 1 = ain))

/-- The single-instance registers. -/
def Dev.badSingle (d : Dev) : Bool :=
  let r := d.rd RED_CFG
  let l := d.rd LNK_CFG
  let b := d.rd BKG_CFG
  let t := d.rd BKG_TELCFG
  let q := t.fld BKG_TELCFG_QUE
  outside 100 4000 (r.fld RED_CFG_CKPER) || r.fld RED_CFG_GUST_WINDOW < 10 || r.fld RED_CFG_GALE_LIMIT = 0 ||
  l.fld LNK_CFG_HBLOSS < 2 || l.fld LNK_CFG_SOLOWAIT = 0 || l.fld LNK_CFG_JTO < 2 || outside 50 89 (d.fld JRN_CFG JRN_CFG_WARNPCT) ||
  d.fld THM_CFG THM_CFG_DMAX < 2 || outside 1 10 (b.fld BKG_CFG_SHARE) || outside 20 95 (b.fld BKG_CFG_MARVPER) ||
  t.fld BKG_TELCFG_TELDIV = 0 || (t.bit 31 && !(d.qEn q && !d.qAssured q && !d.qRx q && d.qBind q = bindCores)) ||
  outside 10 50 (d.fld SUP_CFG SUP_CFG_SLACK_MARGIN) || d.fld ADC_PDCFG ADC_PDCFG_IDLE = 0 || d.fld RTC_TRIM RTC_TRIM_TRIM = 0x80

/-! ## Substitute inputs (R62) -/

/-- Is an input named by an enabled sequence, as INPUT or as the odd line of a differential step? -/
def Dev.inputNamed (d : Dev) (n : Nat) : Bool :=
  (List.range 32).any (fun s => d.isSet (ADC_SEQCFG s) ADC_SEQCFG_EN && (List.range (d.seqLast s + 1)).any (fun i =>
    let w := d.rd (ADC_STEP s i)
    w.fld ADC_STEP_INPUT = n || (w.bit 7 && w.fld ADC_STEP_INPUT + 1 = n)))

def Dev.badSpareInput (d : Dev) (e : SpareEnt) : Bool :=
  let steps := (d.funcD e.fn).seqs.flatMap (fun s => ((List.range (d.seqLast s + 1)).map (fun i => d.rd (ADC_STEP s i))).filter
    (fun w => w.fld ADC_STEP_INPUT = e.primary))
  e.rkind = 3 && (steps.isEmpty || 95 < e.subst || d.inputNamed e.subst ||
    (steps.any (fun w => w.bit 7) && (e.subst % 2 = 1 || d.inputNamed (e.subst + 1))))

/-! ## The pass -/

/-- Does the applied state break any check? -/
def Dev.applyBroken (d : Dev) : Bool :=
  let fs := d.img.funcs
  let named := fun (p : FuncRec → List Nat) (n : Nat) => fs.any (fun f => (p f.2).contains n)
  d.slotsAsked.any d.badSlot || d.badSlotKinds ||
  (List.range 48).any (fun n => d.isSet (LEG_CFG n) LEG_CFG_BOUND && d.badLeg n) ||
  (List.range 32).any (fun s => (d.isSet (ADC_SEQCFG s) ADC_SEQCFG_EN || named FuncRec.seqs s) && d.badSeq s) ||
  (List.range 32).any (fun n => (d.isSet (DSM_CFG n) DSM_CFG_EN || named FuncRec.dsms n) && d.badDsm n) ||
  (List.range 64).any (fun n => (d.isSet (CMP_CFG n) CMP_CFG_EN || named FuncRec.cmps n) && d.badWindow n) ||
  (List.range 16).any (fun g => (d.isSet (TRP_GCFG g) TRP_GCFG_EN || fs.any (fun f => f.2.tg = g)) && d.badGroup g) ||
  fs.any (fun f => d.badMasks f.2 || f.2.casc.any (fun c => d.badCascade f.2 c.1) || (f.2.kind = 7 && d.badSolenoid f.2) ||
    10000 < d.fld (RED_FNSAFE f.1) RED_FNSAFE_BRKTIME) ||
  (List.range 16).any d.badPair ||
  (List.range 16).any (fun u => d.isSet (AXU_CFG u) AXU_CFG_BOUND && d.badAxu u) || (List.range 24).any d.badGio ||
  (List.range 8).any (fun u => d.isSet (CVU_CFG u) CVU_CFG_BOUND && d.badCvu u) ||
  [0, 1].any (fun c => d.chgOn c && d.badChg c) || (List.range 6).any (fun n => d.isSet (BUS_CFG n) BUS_CFG_EN && d.badPort n) ||
  (List.range 32).any (fun q => d.qEn q && d.badQueue q) || d.badSig ||
  (List.range 16).any (fun n => d.isSet (RED_WDGCFG n) RED_WDGCFG_EN && d.badWatchdog n) || (List.range 4).any d.badTriad ||
  (List.range 24).any (fun n => d.isSet (THM_NTCCFG n) THM_NTCCFG_EN && d.badNtc n) || d.badSingle || d.img.spares.any d.badSpareInput

end Sys2Proof.Machine
end

