-- ==== Sys2Proof/Machine/Boot.lean ====
section
/-! DEFINITION. The start-up sequence (chapter 03): flash probe, slot selection, the three passes, TEST, the lock, READY and
RUN, restart, and the check of a slot that a session wrote. Each command completes one step of Table SYS-2. -/

namespace Sys2Proof.Machine

/-! ## Steps, pauses and rejections (R46, R50, R55, R66, R67) -/

def Dev.toStep (x : BootStep) (d : Dev) : Dev := { d with boot := { d.boot with step := x } }

/-- Every block but TKP, RTC and SUP at its reset values; SYS keeps the record of the start-up itself, and SEC shows what its
stores hold (R50, R65). -/
def Dev.clearApplied (d : Dev) : Dev :=
  let keep := d.regs.filter (fun p => keptByRestart p.1 || p.1 / 0x10000 = 0x4001)
  let e : Dev := { d.clearBlocks with boot := { d.boot with applied := false, records := [] }, rates := d.rates, regs := keep }
  (e.putKeys e.sec.keys).putTable e.sec.table

/-- NOCFG: T1–T3 stay halted, the recovery service listens on BUS0 (R67). -/
def Dev.nocfg (reason : Nat) (d : Dev) : Dev :=
  let d := (d.setSys stNocfg).toStep .stopped
  let d := d.forEach [1, 2, 3] (fun t d => d.modTriad t (fun x => { x with wait := .halted }))
  let d := (d.modPort 0 (fun p => { p with integrating := true })).setBus 0 bsIntegrating
  d.evt EV_SYS_NOCFG [reason]

/-- A slot is reported invalid, in SYS_REJECT and by 0x0102. -/
def Dev.reportReject (slot : Nat) (r : Reject) (d : Dev) : Dev :=
  let d := d.wr SYS_REJECT (BitVec.ofNat 32 (r.index % 0x10000 * 0x10000 + slot * 0x100 + r.reason))
  ({ d with boot := { d.boot with lastReason := r.reason } }).evt EV_SYS_SLOT_INVALID ([slot, r.reason] ++ le2 r.index)

/-- The candidate is rejected: blocks back to reset values if anything was applied, then the other slot, or NOCFG. -/
def Dev.reject (r : Reject) (d : Dev) : Dev :=
  let c := d.boot.candidate
  let d := if d.boot.applied then d.clearApplied else d
  let d := d.reportReject c r
  if d.boot.otherGood then
    ({ d with boot := { d.boot with candidate := 1 - c, otherGood := false, step := .body } }).setSys stVerify
  else d.nocfg r.reason

/-- The start-up stops at a step boundary after a supply warning: nothing applied is kept. -/
def Dev.pauseBoot (d : Dev) : Dev :=
  let st := d.sysState
  let d := d.clearApplied.evt EV_SYS_START_PAUSED [st]
  { d with boot := { d.boot with step := .paused, warned := false, pausedAt := st } }

/-- A step of the start-up completes, where it is the one in progress; a warning since its begin stops the start-up at the
boundary. -/
def Dev.atStep (x : BootStep) (op : Dev → Dev) (d : Dev) : Dev :=
  if d.boot.step ≠ x then d
  else
    let d := op d
    if d.boot.warned && d.sysState < stReady then d.pauseBoot else d

/-- START_RESUME: the feeds have stood above the warning level plus 0.4 V for 5 ms. -/
def Dev.startResume (d : Dev) : Dev :=
  if d.boot.step ≠ .paused then d else ((d.wr SYS_BOOT 0).setSys stProbe).toStep .probe

/-! ## PROBE and the headers (R51, R54, R55, R404) -/

/-- The flash answered in no mode (0), in 8D-8D-8D (1) or in 1S-4S-4S (2). -/
def Dev.flashProbe (mode : Nat) (d : Dev) : Dev :=
  if mode = 0 then (d.reportReject 0 ⟨rjFlash, rjHdrIndex⟩).nocfg rjFlash
  else
    let quad := decide (mode = 2)
    let d := (d.setF SYS_BOOT SYS_BOOT_QUAD (b2n quad)).when quad (fun d => d.evt EV_SYS_QUAD_MODE [])
    (d.setSys stVerify).toStep .headers

/-- The key store is read: a copy whose CRC fails is rewritten from the other; with both bad the store is emptied. -/
def Dev.readKeys (okA okB : Bool) (d : Dev) : Dev :=
  if (okA && d.sec.keyAok) || (okB && d.sec.keyBok) then d.putKeys d.sec.keys
  else ((d.putKeys []).setF SEC_FLT SEC_FLT_KEYSTORE 1).evt EV_SEC_KEYSTORE_LOST []

/-- Both headers are checked and the first candidate is chosen. -/
def Dev.headerCheck (okA okB : Bool) (d : Dev) : Dev :=
  let d := (d.readKeys okA okB).putTable d.sec.table
  let gen := fun (s : Nat) => hdrGeneration (d.header s)
  let take := fun (c : Nat) (other : Bool) (d : Dev) =>
    { d with boot := { d.boot with candidate := c, firstCand := c, otherGood := other, step := .body } }
  match d.slotGood 0, d.slotGood 1 with
  | false, false => ((d.reportReject 0 ⟨rjHeader, rjHdrIndex⟩).reportReject 1 ⟨rjHeader, rjHdrIndex⟩).nocfg rjHeader
  | true, false => take 0 false d
  | false, true => take 1 false d
  | true, true =>
    if gen 0 = gen 1 then (take 0 true d).evt EV_SYS_GEN_TIE (le4 (gen 0))
    else take (if gen 0 < gen 1 then 1 else 0) true d

/-! ## VERIFY -/

/-- The body has been read: BODY_SHA. -/
def Dev.bodyRead (d : Dev) : Dev :=
  if d.hashOk d.boot.candidate then d.toStep .signature else d.reject ⟨rjHash, rjHdrIndex⟩

/-- The image signature, then every PROG signature. -/
def Dev.signatureVerify (d : Dev) : Dev :=
  if !d.signed d.boot.candidate then d.reject ⟨rjSig, rjHdrIndex⟩
  else match d.slotRecs d.boot.candidate with
    | .error _ => d.toStep .firstPass
    | .ok rs => match d.progReject rs with
      | some r => d.reject r
      | none => d.toStep .firstPass

/-- The first pass, which writes nothing. -/
def Dev.firstPassDone (d : Dev) : Dev :=
  let c := d.boot.candidate
  match d.firstPass c, d.slotRecs c with
  | none, .ok rs => (({ d with boot := { d.boot with records := rs } }).setSys stApply).toStep .secondPass
  | some r, _ => d.reject r
  | none, .error e => d.reject e

/-! ## APPLY (R59, R60, R61, R64, R65) -/

/-- The word of a BLK record on the signal table (R338). -/
def Dev.blkSig (a : Nat) (v : W) (d : Dev) : Dev := d.sigWord a v 0xE

def Dev.applyFunc (f : Nat) (r : FuncRec) (d : Dev) : Dev :=
  let d := { d with img := { d.img with funcs := Tab.set f r d.img.funcs } }
  let d := d.forEach r.legs (fun n d => (d.setF (LEG_CFG n) LEG_CFG_BOUND 1).setF (LEG_CFG n) LEG_CFG_FN f)
  let d := d.forEach (r.axuA.toList ++ r.axuB.toList) (fun u d =>
    ((d.setF (AXU_CFG u) AXU_CFG_BOUND 1).setF (AXU_CFG u) AXU_CFG_FN f).setF (AXU_CFG u) AXU_CFG_COUPLED (b2n (r.kind = 2)))
  let d := d.whenSome r.cvu (fun u d =>
    (((d.setF (CVU_CFG u) CVU_CFG_BOUND 1).setF (CVU_CFG u) CVU_CFG_FN f).setF (CVU_CFG u) CVU_CFG_KIND r.kind).setF
      (CVU_CFG u) CVU_CFG_NLEG r.legs.length)
  r.casc.foldl (fun d c =>
    (d.setF (CEN_CSTAT (pairOf c.1) (cascOf c.1)) CEN_CSTAT_BOUND 1).wr (CEN_CDL (pairOf c.1) (cascOf c.1)) (BitVec.ofNat 32 c.2)) d

/-- The parameters of a CHARGE record (Table SYS-9). -/
def Dev.applyCharge (r : Rec) (d : Dev) : Dev :=
  let c := r.num 0 1
  let k := CHG_CFG c
  let d := (((d.setF k CHG_CFG_EN 1).setF k CHG_CFG_SRC (r.num 1 1)).setF k CHG_CFG_PATH (r.num 2 1)).setF k CHG_CFG_FN (r.num 3 1)
  let words := [(CHG_IPRE c, 0x04), (CHG_ICC c, 0x08), (CHG_VCV c, 0x0C), (CHG_ITERM c, 0x10), (CHG_VRECHG c, 0x14), (CHG_VMISS c, 0x18),
    (CHG_VSHORT c, 0x1C), (CHG_TTOPOFF c, 0x20), (CHG_TSAFETY c, 0x24), (CHG_MPPTSTEP c, 0x30), (CHG_MPPTPER c, 0x34), (CHG_PMAX c, 0x38)]
  let d := words.foldl (fun d p => d.wr p.1 (r.word p.2)) d
  let d := d.wr (CHG_TCELL c) (BitVec.ofNat 32 (r.num 0x2A 1 * 0x10000 + r.num 0x29 1 * 0x100 + r.num 0x28 1))
  let d := d.wr (CHG_DEB c) (BitVec.ofNat 32 (r.num 0x2E 2 * 0x10000 + r.num 0x2C 2))
  { d with img := { d.img with charges := d.img.charges ++ [c] } }

def Dev.applyQueue (r : Rec) (d : Dev) : Dev :=
  let q := r.num 0 1
  let k := QUE_CFG q
  let d := (((d.setF k QUE_CFG_EN 1).setF k QUE_CFG_CLASS (r.num 3 1)).setF k QUE_CFG_DIR (r.num 2 1)).setF k QUE_CFG_BIND (r.num 1 1)
  ((((d.setF k QUE_CFG_RETRY (r.num 6 1)).wr (QUE_RING q) (r.word 8)).wr (QUE_SIZE q) (BitVec.ofNat 32 (r.num 4 2))).wr
    (QUE_LIFE q) (r.word 0x0C))

/-- A MIRROR record: the module is one of a pair, whose role is still to be decided. -/
def Dev.applyMirror (r : Rec) (d : Dev) : Dev :=
  let old := match d.img.mirror with | some p => p.2 | none => []
  let d := { d with img := { d.img with mirror := some (r.num 0 4, old ++ r.regions) } }
  let d := (d.setF LNK_CFG LNK_CFG_PAIRED 1).setF LNK_STAT LNK_STAT_ROLE roleDeciding
  d.wr (TKP_SLOT_PER 63) (BitVec.ofNat 32 (r.num 0 4 * usTicks))

def Dev.applySplit (pairs : Nat) (d : Dev) : Dev :=
  let d := { d with img := { d.img with split := pairs } }
  (d.forEach (oneBits 16 pairs) (fun p d => d.setF (CEN_CFG p) CEN_CFG_SPLIT 1)).setF SYS_BOOT SYS_BOOT_SPLIT 1

/-- One record, written into its block. -/
def Dev.applyRec (d : Dev) (r : Rec) : Dev :=
  match r.ty with
  | 1 => d.wr (r.num 0 4) ((d.rd (r.num 0 4) &&& ~~~r.word 8) ||| (r.word 4 &&& r.word 8))
  | 2 => r.blk.foldl (fun d p => if inSig p.1 then d.blkSig p.1 p.2 else d.wr p.1 p.2) d
  | 3 =>
    let t := r.num 0 1
    let code := sliceB r.payload 0x54 (r.num 0x0C 4)
    let d := d.modTriad t (fun x => { x with lram := Mem.putN 0 (r.num 4 4) code x.lram })
    if isEntry r then { d with img := { d.img with entries := Tab.set t (r.word 8) d.img.entries } } else d
  | 4 => { d with coef := Mem.putN 0 (0x18000000 + r.num 0 4) (r.payload.drop 8) d.coef }
  | 5 => d.applyFunc (r.num 0 1) r.func
  | 6 => { d with img := { d.img with spares := d.img.spares ++ r.spares } }
  | 7 => { d with img := { d.img with sigmaps := d.img.sigmaps ++ [r.sigmap] } }
  | 8 => { d with img := { d.img with routes := d.img.routes ++ r.routes } }
  | 9 => d.applyQueue r
  | 10 =>
    let l := r.limit
    let d := { d with img := { d.img with limits := d.img.limits ++ [l] } }
    d.holdBound ⟨l.addr, l.fmask, l.level, l.min, l.max, l.enc⟩
  | 11 => { d with img := { d.img with keys := d.img.keys ++ [r.key] } }
  | 12 => { d with img := { d.img with roles := Tab.set (r.num 0 1) ⟨r.num 1 1, r.num 2 2, r.num 4 1, r.num 5 1⟩ d.img.roles } }
  | 13 => d.applyMirror r
  | 14 => d.applyCharge r
  | 15 => d.applySplit (r.num 0 2)
  | _ => d

/-- Substitute windows run from the start with their primaries' settings (R139). -/
def Dev.spareWindows (d : Dev) : Dev :=
  d.img.spares.foldl (fun d e =>
    if e.rkind = 2 && e.mode = 0 then (d.wr (CMP_CFG e.subst) (d.rd (CMP_CFG e.primary))).wr (CMP_THR e.subst) (d.rd (CMP_THR e.primary))
    else d) d

/-- The cullet list is read (R278): a copy whose CRC fails is rewritten from the other. -/
def Dev.readCull (okA okB : Bool) (d : Dev) : Dev :=
  let load := fun (xs : List Cull) (d : Dev) =>
    let r := { d.red with cull := xs, cullA := xs, cullB := xs, cullAok := true, cullBok := true }
    ({ d with red := r }).setF RED_STAT RED_STAT_CULLCNT xs.length
  if okA && d.red.cullAok then load d.red.cullA d
  else if okB && d.red.cullBok then load d.red.cullB d
  else (load [] d).evt EV_RED_CULL_LOST []

/-- T0's cores on the cullet list. -/
def Dev.t0Culled (d : Dev) : Nat := ((List.range 3).filter (fun c => d.red.cull.any (fun x => x.res = resId 1 c))).length

/-- Every record in image order is written into its block; the windows, queues and channels that the image enables then
start (R121, R133). -/
def Dev.applyAll (side : Bool) (d : Dev) : Dev :=
  let slot := d.boot.candidate
  let d := { d with boot := { d.boot with applied := true }, img := { (default : Image) with digest := sliceB (d.header slot) 0x20 32, role := hdrRole (d.header slot) } }
  let d := d.setF LNK_STAT LNK_STAT_SIDE (b2n side)
  let d := d.wr (TKP_SLOT_PER 63) (BitVec.ofNat 32 msTicks)
  let d := (d.boot.records.foldl Dev.applyRec d).spareWindows
  let d := d.forEach (List.range 64) (fun n d => d.startWindow n)
  let d := d.forEach (List.range 32) (fun q d => d.when (d.qEn q) (fun d => d.queLines q))
  let d := d.forEach (List.range 32) (fun n d => d.dsmEnable n)
  d.evalGroups

/-- The second pass. `side` is the level at PAIR_SIDE. -/
def Dev.secondPass (side okA okB : Bool) (d : Dev) : Dev :=
  let d := d.readCull okA okB
  if 2 ≤ d.t0Culled then (d.evt EV_RED_T0_FATAL []).nocfg d.boot.lastReason
  else (d.applyAll side).toStep .thirdPass

/-! ## Resources of the cullet list (R278, R284) -/

/-- A function without its resource is held unavailable. -/
def Dev.unavailable (fs : List Nat) (d : Dev) : Dev := d.forEach fs (fun f d => d.setF (RED_FNSTATE f) RED_FNSTATE_RESUNAV 1)

/-- One listed resource is marked retired in its block; its substitute serves, or its functions are unavailable. -/
def Dev.markCulled (res : Nat) (d : Dev) : Dev :=
  let i := res % 256
  let d := d.setF (RED_GUST (res / 256) i) RED_GUST_RETIRED 1
  match res / 256 with
  | 1 =>
    let t := i / 3
    let d := d.putBit (RED_TSTAT t) (8 + i % 3) true
    if 2 ≤ d.serviceable t then (d.setTmode t tmDual).setF (RED_TSTAT t) RED_TSTAT_DEGRADED 1
    else (d.setTmode t tmHalted).modTriad t (fun x => { x with wait := .halted })
  | 2 => (d.stopEngines (i / 2) [i % 2]).unavailable (d.engineFns (i / 2) [i % 2])
  | 3 =>
    let o := d.legOwner i
    let d := d.markLeg i
    match d.spare 1 i with
    | some e => d.substLeg i e.subst
    | none => d.unavailable o.toList
  | 4 =>
    let d := d.putBit ADC_STAT (16 + i) true
    let sp := d.fld ADC_STAT ADC_STAT_SPARE
    let none_ := fun (d : Dev) => (d.setF ADC_STAT ADC_STAT_SPARE 0xF).setF ADC_STAT ADC_STAT_NOSPARE 1
    if sp = i then none_ d
    else match (List.range 8).find? (fun k => d.fld ADC_SLOTMAP ⟨4 * k, 4⟩ = i) with
      | some k => none_ (d.setF ADC_SLOTMAP ⟨4 * k, 4⟩ sp)
      | none => d
  | 5 =>
    let fs := (d.cmpFeeds i ++ (d.cmpOwner i).toList).eraseDups
    let d := d.markCmp i
    match d.spare 2 i with
    | some e => if e.mode = 0 then d.substCmp i e.subst else d.degradeCmp i e.subst (d.isSet (CMP_STAT i) CMP_STAT_TRIPPED)
    | none => d.unavailable fs
  | 6 =>
    match d.spare 4 i with
    | some e => d.substDsm i e.subst
    | none => d.unavailable (d.dsmOwner i).toList
  | 7 => d.whenSome (d.spare 3 i) (fun e d => d.substInput i e)
  | _ => d

/-- The candidate is the booted slot: SYS_BOOT, the digest, the generation and the epoch of its configuration. -/
def Dev.bootCandidate (d : Dev) : Dev :=
  let c := d.boot.candidate
  let h := d.header c
  let back := decide (c ≠ d.boot.firstCand)
  let d := ((d.setF SYS_BOOT SYS_BOOT_SLOT c).setF SYS_BOOT SYS_BOOT_FALLBACK (b2n back)).setF SYS_BOOT
    (if c = 0 then SYS_BOOT_S0_VALID else SYS_BOOT_S1_VALID) 1
  let d := d.when back (fun d => d.evt EV_SYS_FALLBACK [c])
  let d := (d.wr SYS_CFGDIG0 (BitVec.ofNat 32 (leNat (d.img.digest.take 4)))).wr SYS_CFGDIG1 (BitVec.ofNat 32 (leNat (sliceB d.img.digest 4 4)))
  (d.wr SYS_CFGGEN (BitVec.ofNat 32 (hdrGeneration h))).wr SYS_CFGEPOCH (BitVec.ofNat 32 (hdrEpoch h))

/-- The resources of the cullet list are marked retired. -/
def Dev.markAll (d : Dev) : Dev := (d.forEach (d.red.cull.map (·.res)) Dev.markCulled).evalGroups

/-- The third pass: the applied state is checked. -/
def Dev.thirdPass (d : Dev) : Dev :=
  if d.applyBroken then d.reject ⟨rjApply, d.boot.records.length - 1⟩
  else (d.bootCandidate.markAll.setSys stTest).toStep .calibrate

/-! ## TEST (R48, R353, R357, R418) -/

/-- Every delay line and every converter counts as calibrated now. -/
def Dev.calibrateAll (d : Dev) : Dev :=
  let d := d.forEach (List.range 48) (fun n d => d.modLeg n (fun l => { l with calGH := d.now, calGL := d.now }))
  d.forEach (List.range 9) (fun n d => d.modConv n (fun c => { c with calAt := d.now, settle := 1, lastConv := d.now }))

/-- Calibration and self-tests end: lines and converters count as calibrated now, and each resource that failed has a Gale
(kind, index, and for a window the check of Table TRP-3). -/
def Dev.startCalibration (fails : List (Nat × Nat × Nat)) (d : Dev) : Dev :=
  let d := d.calibrateAll
  let d := fails.foldl (fun d f => d.gale f.1 f.2.1 (if f.1 = 3 || f.1 = 4 then gaCal else gaTest) f.2.2) d
  if d.boot.step = .calibrate then d.toStep .journal else d

/-- The journal is recovered and replayed. `bad` lists ring offsets whose cells read wrongly. -/
def Dev.journalRecovery (bad : List Nat) (d : Dev) : Dev := ((d.jrnRecover bad).jrnReplay).toStep .lock

/-- An entry of the persisted table is dropped. -/
def Dev.dropLimit (e : PEnt) (d : Dev) : Dev :=
  let d := d.putTable (d.sec.table.filter (fun x => !x.same e))
  (d.setF SEC_FLT SEC_FLT_LIMDROP 1).evt EV_SEC_LIMIT_DROPPED ([0, 0, 0, 0] ++ le4 e.addr)

/-- One entry of the persisted table is re-applied, or dropped (R418). -/
def Dev.reapply (e : PEnt) (d : Dev) : Dev :=
  if e.dig0 ≠ d.rd SYS_CFGDIG0 || e.dig1 ≠ d.rd SYS_CFGDIG1 then d.dropLimit e
  else if e.kind = 1 then d.holdBound e.bound
  else if e.kind = 2 then d.wr e.addr e.value
  else match d.boundFor e.addr e.fmask with
    | some b => if b.holds (maskField e.fmask e.value) then d.limitWrite e.addr e.fmask e.value else d.dropLimit e
    | none => d.dropLimit e

/-- The persisted table at the lock step: bounds first, then values. -/
def Dev.reapplyLimits (d : Dev) : Dev :=
  let xs := d.sec.table
  (xs.filter (fun e => e.kind = 1) ++ xs.filter (fun e => e.kind ≠ 1)).foldl (fun d e => d.reapply e) d

/-- The feeds present against SUP_CFG.FEEDS (R429). -/
def Dev.checkFeeds (d : Dev) : Dev :=
  let a := d.fld SUP_FEED SUP_FEED_FEEDA
  let b := d.fld SUP_FEED SUP_FEED_FEEDB
  d.forEach [0, 1] (fun f d =>
    if (d.fld SUP_CFG SUP_CFG_FEEDS).testBit f && feedOf f a b < 7000 then
      (d.setF SUP_FLT SUP_FLT_MISSING 1).supEvt EV_SUP_FEED_MISSING f a b
    else d)

/-- A triad starts at its entry point (R361), or stays halted (R60). -/
def Dev.startTriad (t : Nat) (d : Dev) : Dev :=
  if !Tab.has d.img.entries t || (d.triad t).wait = .halted then d.modTriad t (fun x => { x with wait := .halted })
  else
    let zero := List.replicate 32 (0 : W)
    let core : Core := { (default : Core) with w := zero, f := zero, pc := Tab.getD 0 d.img.entries t, status := 1 }
    let d := d.modTriad t (fun x => { x with core := core, wait := .none })
    let d := (d.wr (COR_EVEN0 t) (regReset (COR_EVEN0 t))).wr (COR_EVEN1 t) (regReset (COR_EVEN1 t))
    d.checkpoint t

/-- KEY records enter the store once the image is READY (R63). -/
def Dev.enterKeys (d : Dev) : Dev :=
  let fresh := d.img.keys.filter (fun k => (d.keyOf k.id).isNone)
  let room := keyRoom rlInstaller - (d.roleKeys rlInstaller).length
  if fresh.isEmpty then d else d.putKeys (d.sec.keys ++ (fresh.take room).map (fun k => ⟨k.id, k.role, k.pub⟩))

/-- The persisted limits and the feeds, the lock, and the start of the triads. -/
def Dev.lockedTriads (d : Dev) : Dev :=
  (d.reapplyLimits.checkFeeds.setF SYS_BOOT SYS_BOOT_LOCKED 1).forEach [1, 2, 3, 0] (fun t d => d.startTriad t)

/-- The state is READY: when, and the ports that the image enables begin to integrate. -/
def Dev.stateReady (d : Dev) : Dev :=
  let ready := min 0xFFFF (d.since d.boot.relTime / (10 * usTicks))
  let d := ((d.setF SYS_BOOT SYS_BOOT_T_READY ready).setSys stReady).toStep .done
  let d := d.forEach (List.range 6) (fun n d =>
    d.when (d.isSet (BUS_CFG n) BUS_CFG_EN) (fun d => (d.modPort n (fun p => { p with integrating := true })).setBus n bsIntegrating))
  d.evt EV_SYS_READY (le2 ready)

/-- The lock step, the start of the triads, and READY (R68, R361, R454). -/
def Dev.configLock (d : Dev) : Dev :=
  if d.boot.warned then d
  else
    let d := d.lockedTriads
    let d := { d with red := { d.red with lastKick := d.now } }
    let d := d.stateReady.enterKeys
    { d with vcore := { d.vcore with readyAt := some d.now } }

/-! ## RUN (R47) -/

/-- What starts with RUN: the slots' phases, the role of the pair, the ports' detection, announcements and background work. -/
def Dev.runBegins (d : Dev) : Dev :=
  let d := d.realign
  let d := if d.paired then (d.modLnk (fun l => { l with runAt := d.now })).candidateClaim
    else (d.setToken true).startLatching
  let d := d.forEach (List.range 6) (fun n d => d.startAbd n)
  let d := { d with sig := { d.sig with lastAnnounce := if d.domEn then some d.now else none } }
  let b := { d.bkg with marvStart := d.now, marvEnd := d.now, coreAt := d.now, wearAt := d.now, telAt := d.now, misses := [], assertions := [] }
  { d with bkg := b }

/-- READY to RUN: the epoch, and all that starts with it (R33, R35, R121, R142, R301–R303, R321). -/
def Dev.enterRun (d : Dev) : Dev :=
  if d.sysState ≠ stReady then d
  else
    let d := (d.wr64 TKP_EPOCH_LO TKP_EPOCH_HI d.now).setSys stRun
    (d.putBit TKP_SLOTEN1 31 true).runBegins

/-- The RUN bit of SYS_CTRL, which only T0 may write. -/
def Dev.runWrite (triad : Nat) (d : Dev) : Dev := if triad = 0 then d.enterRun else d.lockedWrite triad SYS_CTRL

/-! ## Restart (R71) -/

/-- The RESTART bit of SYS_CTRL with its KEY. -/
def Dev.restartWrite (triad key : Nat) (d : Dev) : Dev :=
  if triad ≠ 0 then d.lockedWrite triad SYS_CTRL
  else if key ≠ 0xA5 then d.restartRefused 4
  else match d.restartBar with
    | some c => d.restartRefused c
    | none => d.restart rstRestart

/-- A write of SYS_CTRL by a triad. -/
def Dev.sysCtrl (triad : Nat) (v : W) (d : Dev) : Dev :=
  if triad ≠ 0 then d.when (v.bit 0 || v.bit 1) (fun d => d.lockedWrite triad SYS_CTRL)
  else
    let d := d.when (v.bit 1) (fun d => d.restartWrite triad (v.fld SYS_CTRL_KEY))
    d.when (v.bit 0) Dev.enterRun

/-! ## A slot that a session wrote (R70) -/

/-- The first-pass checks of the new image end. -/
def Dev.slotWriteCheck (d : Dev) : Dev :=
  match d.sec.slotCheck with
  | none => d
  | some s =>
    let why := if !d.slotGood s then rjHeader else match d.firstPass s with | some r => r.reason | none => 0
    ({ d with sec := { d.sec with slotCheck := none } }).evt EV_SYS_SLOT_WRITTEN [s, why]

/-! ## Meanings -/

/-- FLASH_PROBE (R51): Once REF_OK is 1, the flash is reset, SFDP is read and the 8D-8D-8D or 1S-4S-4S mode is selected and trained. -/
def execFlashProbe (t : Time) (mode : Fin 3) (s : State) : Host.Outcome State Fault Refusal :=
  s.on t (fun d => d.atStep .probe (fun d => d.flashProbe mode))

/-- HEADER_CHECK (R55): Both slot headers are read and checked, and the good header with the higher generation becomes the first candidate. -/
def execHeaderCheck (t : Time) (okA okB : Bool) (s : State) : Host.Outcome State Fault Refusal :=
  s.on t (fun d => d.atStep .headers (fun d => d.headerCheck okA okB))

/-- BODY_READ_DONE (R54): The candidate body has been read into shared SRAM and its SHA-256 is compared with BODY_SHA. -/
def execBodyReadDone (t : Time) (s : State) : Host.Outcome State Fault Refusal :=
  s.on t (fun d => d.atStep .body (fun d => d.bodyRead))

/-- SIGNATURE_VERIFY (R54): Verification of the image signature and of every PROG signature completes. -/
def execSignatureVerify (t : Time) (s : State) : Host.Outcome State Fault Refusal :=
  s.on t (fun d => d.atStep .signature (fun d => d.signatureVerify))

/-- FIRST_PASS (R65): The first pass checks every record against structure and binding rules and writes nothing. -/
def execFirstPass (t : Time) (s : State) : Host.Outcome State Fault Refusal :=
  s.on t (fun d => d.atStep .firstPass (fun d => d.firstPassDone))

/-- SECOND_PASS (R65): APPLY writes the records into the blocks in image order, with SPLIT taking effect first. -/
def execSecondPass (t : Time) (side okA okB : Bool) (s : State) : Host.Outcome State Fault Refusal :=
  s.on t (fun d => d.atStep .secondPass (fun d => d.secondPass side okA okB))

/-- THIRD_PASS (R65): The applied state is read back and checked, including every APPLY_CHECK rule. -/
def execThirdPass (t : Time) (s : State) : Host.Outcome State Fault Refusal :=
  s.on t (fun d => d.atStep .thirdPass (fun d => d.thirdPass))

/-- START_CALIBRATION (R48): TEST completes delay-line, converter and DAC calibration and the engine and core self-tests; failing resources become Gales. -/
def execStartCalibration (t : Time) (fails : List (Nat × Nat × Nat)) (s : State) : Host.Outcome State Fault Refusal :=
  s.on t (fun d => d.atStep .calibrate (fun d => d.startCalibration fails))

/-- JOURNAL_RECOVERY (R357): The journal is read from the tail; a torn head record is discarded, corrupt records are skipped, and pending work is re-queued. -/
def execJournalRecovery (t : Time) (bad : List Nat) (s : State) : Host.Outcome State Fault Refusal :=
  s.on t (fun d => d.atStep .journal (fun d => d.journalRecovery bad))

/-- CONFIG_LOCK (R68): At the lock step of TEST, SYS_BOOT.LOCKED is set and CL registers become protected. -/
def execConfigLock (t : Time) (s : State) : Host.Outcome State Fault Refusal :=
  s.on t (fun d => d.atStep .lock (fun d => d.configLock))

/-- START_RESUME (R50): After the feeds have stood 5 ms above warning plus 0.4 V, start-up resumes at PROBE. -/
def execStartResume (t : Time) (s : State) : Host.Outcome State Fault Refusal :=
  s.on t (fun d => d.startResume)

/-- RUN (R47): A T0 write of SYS_CTRL.RUN latches TKP_EPOCH and moves the module from READY to RUN, so slots begin firing. -/
def execRun (t : Time) (triad : Fin 4) (s : State) : Host.Outcome State Fault Refusal :=
  s.on t (fun d => d.runWrite triad)

/-- SYS_CTRL_RESTART (R71): A write of SYS_CTRL.RESTART with KEY 0xA5 from T0 persists pending cullet entries and restarts the module at PROBE. -/
def execSysCtrlRestart (t : Time) (triad : Fin 4) (key : Nat) (s : State) : Host.Outcome State Fault Refusal :=
  s.on t (fun d => d.restartWrite triad key)

/-- SLOT_WRITE_CHECK (R70): The background first-pass check of a newly written slot completes and records 0x010D. -/
def execSlotWriteCheck (t : Time) (s : State) : Host.Outcome State Fault Refusal :=
  s.on t (fun d => d.slotWriteCheck)

end Sys2Proof.Machine
end

