-- ==== Sys2Proof/Machine/Gio.lean ====
section
/-! DEFINITION. General I/O and the SENT receivers (R230, R231). The SAE J2716 details the specification takes by name (the
CRC-4 table, the layouts of the slow messages and their CRC-6) are those of that standard (log entry 13). -/

namespace Sys2Proof.Machine

/-- A filtered edge of GIO `n`: its level at the land and the STIME of its first crossing. A rising edge of a trigger input
triggers the sequences that name it (R111). -/
def Dev.gioEdge (n : Nat) (high : Bool) (stamp : Time) (d : Dev) : Dev :=
  let d := { d with gioRaw := withBits d.gioRaw n 1 (b2n high) }
  let level := xor high (d.isSet (GIO_CFG n) GIO_CFG_INV)
  let mode := d.fld (GIO_CFG n) GIO_CFG_MODE
  if mode = 1 || 5 ≤ mode || d.bit GIO_IN n = level then d
  else
    let d := ((d.putBit GIO_IN n level).putBit GIO_EDGE n true).wr64 (GIO_STAMP_LO n) (GIO_STAMP_HI n) stamp
    if mode = 4 && level then
      d.forEach ((List.range 32).filter (fun s => d.isSet (ADC_SEQCFG s) ADC_SEQCFG_GIOEN && d.fld (ADC_SEQCFG s) ADC_SEQCFG_GIO = n))
        (fun s d => d.seqTrigger s false)
    else d

/-- The CRC-4 of J2716 over nibbles: seed 5, by the recommended method or the legacy one. -/
def sentCrc (legacy : Bool) (nibs : List Nat) : Nat :=
  let t := [0, 13, 7, 10, 14, 3, 9, 4, 1, 12, 6, 11, 15, 2, 8, 5]
  let c := nibs.foldl (fun c n => Nat.xor n (t.getD c 0) % 16) 5
  if legacy then c else t.getD c 0

/-- The CRC-6 of an enhanced serial message: polynomial x^6 + x^4 + x^3 + 1, seed 0b010101, six zero bits appended. -/
def sentCrc6 (bits : List Bool) : Nat :=
  (bits ++ List.replicate 6 false).foldl (fun c b =>
    let x := (c * 2 + b2n b) % 64
    if 32 ≤ c then Nat.xor x 0x19 else x) 0x15

def ofBits (bs : List Bool) : Nat := bs.foldl (fun n b => 2 * n + b2n b) 0
/-- Nibbles right-aligned, the first most significant. -/
def ofNibs (ns : List Nat) : Nat := ns.foldl (fun n x => 16 * n + x % 16) 0

def Dev.sent (d : Dev) (m : Nat) : Sent := Tab.getD default d.sents m
def Dev.modSent (m : Nat) (g : Sent → Sent) (d : Dev) : Dev := { d with sents := Tab.set m (g (d.sent m)) d.sents }

/-- A slow message is complete (R231). -/
def Dev.slowMessage (m : Nat) (enh good : Bool) (id data : Nat) (d : Dev) : Dev :=
  let d := d.modSent m (fun s => { s with slow := [] })
  if good then d.wr (GIO_SENTSLOW m) (BitVec.ofNat 32 (0x80000000 + b2n enh * 0x40000000 + id % 256 * 0x100000 + data % 65536))
  else d.incSat (GIO_SENTERR m) GIO_SENTERR_SLOWERR

/-- The status bits 3 and 2 of a good frame join the slow message in assembly. -/
def Dev.slowBits (m : Nat) (b3 b2 : Bool) (d : Dev) : Dev :=
  let bit2 := fun (xs : List (Bool × Bool)) => xs.map (·.2)
  match d.fld (GIO_SENTCFG m) GIO_SENTCFG_SLOW with
  | 1 =>
    let xs := if b3 then [(true, b2)] else if (d.sent m).slow.isEmpty then [] else (d.sent m).slow ++ [(false, b2)]
    let d := d.modSent m (fun s => { s with slow := xs })
    if xs.length = 16 then
      let v := ofBits (bit2 xs)
      d.slowMessage m false (sentCrc (d.isSet (GIO_SENTCFG m) GIO_SENTCFG_LEGACY) [v / 4096, v / 256 % 16, v / 16 % 16] = v % 16)
        (v / 4096) (v / 16 % 256)
    else d
  | 2 =>
    let xs := (d.sent m).slow ++ [(b3, b2)]
    let xs := xs.drop (xs.length - 18)
    let d := d.modSent m (fun s => { s with slow := xs })
    let b3s := xs.map (·.1)
    if xs.length = 18 && (b3s.take 6).all id && !b3s.getD 6 true && !b3s.getD 12 true && !b3s.getD 17 true then
      let crc := ofBits (bit2 (xs.take 6))
      let msg := (xs.drop 6).flatMap (fun p => [p.2, p.1])
      let d12 := ofBits (bit2 (xs.drop 6))
      let hi := ofBits ((b3s.drop 8).take 4)
      let lo := ofBits ((b3s.drop 13).take 4)
      let long := b3s.getD 7 false
      d.slowMessage m true (sentCrc6 msg = crc) (if long then hi else 16 * hi + lo) (if long then 4096 * lo + d12 else d12)
    else d
  | _ => d

/-- A SENT frame on channel `m`: the length of its sync pulse in fine ticks, its status nibble, its data nibbles, its CRC
nibble and the edge that ends the sync pulse. -/
def Dev.sentFrame (m sync status : Nat) (nibs : List Nat) (crc : Nat) (tf : Time) (d : Dev) : Dev :=
  let gio := 16 + m
  if d.fld (GIO_CFG gio) GIO_CFG_MODE ≠ 3 then d
  else
    let nom : Int := 56 * 800 * d.fld (GIO_SENTCFG m) GIO_SENTCFG_TICK
    let near := decide (4 * ((sync : Int) - nom).natAbs ≤ nom) &&
      (match (d.sent m).lastSync with | some l => decide (64 * ((sync : Int) - l).natAbs ≤ l) | none => true)
    let d := d.modSent m (fun s => { s with lastSync := some sync })
    let n := d.fld (GIO_SENTCFG m) GIO_SENTCFG_NIBS
    if !near || nibs.length ≠ n then
      ((d.modSent m (fun s => { s with slow := [] })).incSat (GIO_SENTERR m) GIO_SENTERR_SYNCERR).evt EV_GIO_SENT_SYNC [gio]
    else if sentCrc (d.isSet (GIO_SENTCFG m) GIO_SENTCFG_LEGACY) nibs ≠ crc then
      ((d.modSent m (fun s => { s with slow := [] })).incSat (GIO_SENTERR m) GIO_SENTERR_CRCERR).evtRated EV_GIO_SENT_CRC gio [gio]
    else
      let second := nibs.drop 3
      let d1 := ofNibs (nibs.take 3)
      let d2 := ofNibs (if d.isSet (GIO_SENTCFG m) GIO_SENTCFG_REV2 then second.reverse else second)
      let d := d.wr (GIO_SENTFAST m) (BitVec.ofNat 32 (0x80000000 + status % 16 * 0x1000000 + d1 * 4096 + d2))
      let d := (d.wr64 (GIO_SENTSTAMP_LO m) (GIO_SENTSTAMP_HI m) tf).modSent m (fun s => { s with lastValid := some tf })
      d.slowBits m (status.testBit 3) (status.testBit 2)

/-- What GIO `n` drives at its land: none for an input (R230). -/
def Dev.gioDrive (d : Dev) (n : Nat) : Option Bool :=
  let inv := d.isSet (GIO_CFG n) GIO_CFG_INV
  match d.fld (GIO_CFG n) GIO_CFG_MODE with
  | 1 => some (xor inv (d.bit GIO_OUT n))
  | 5 => some (xor inv (decide (d.now.toNat < (Tab.getD 0 d.tk.pulses n).toNat)))
  | _ => none

/-! ## Meanings -/

/-- SENT_FRAME (R231): A SENT fast-channel frame is received, its tick and CRC are checked, and D1, D2 and the stamp are updated. -/
def execSentFrame (t : Time) (m : Fin 8) (sync : Nat) (status : Fin 16) (nibs : List Nat) (crc : Nat) (tf : Time) (s : State) : Host.Outcome State Fault Refusal :=
  s.on t (fun d => d.sentFrame m sync status nibs crc tf)

/-- GIO_EDGE (R230): A filtered input edge is stamped and sets GIO_EDGE, and may trigger an ADC sequence. -/
def execGioEdge (t : Time) (n : Fin 24) (high : Bool) (stamp : Time) (s : State) : Host.Outcome State Fault Refusal :=
  s.on t (fun d => d.gioEdge n high stamp)

end Sys2Proof.Machine
end

