-- ==== Sys2Proof/Machine/Slots.lean ====
section
/-! DEFINITION. Slot firings (chapter 02, R33–R37): which slot fires at an instant, what its targets do, and the coincidence
of two slots at one target. -/

namespace Sys2Proof.Machine

/-- Does slot `n` fire now: enabled (SLOT63 always), at EPOCH + PHS + k × PER, and not within 1 µs of its enable? -/
def Dev.slotFires (d : Dev) (n : Nat) : Bool :=
  let first := d.epoch.toNat + d.slotPhs n
  d.inRun && (n = 63 || d.slotEn n) && d.slotPer n ≠ 0 && first ≤ d.now.toNat && (d.now.toNat - first) % d.slotPer n = 0 &&
    (Tab.getD (0 : Time) d.tk.notBefore n).toNat ≤ d.now.toNat

/-- The triggers delivered at this fine tick so far: kind, index, slot. -/
def Dev.deliveredNow (d : Dev) : List (Nat × Nat × Nat) := if d.tk.tick = d.now then d.tk.delivered else []

/-- A trigger is noted as delivered by slot `n` at this tick. -/
def Dev.noteTrigger (kind idx n : Nat) (d : Dev) : Dev :=
  { d with tk := { d.tk with tick := d.now, delivered := d.deliveredNow ++ [(kind, idx, n)] } }

/-- What the Leg boundary target does: the units of the function, then its legs, then the new period of its converter. -/
def Dev.boundaryTarget (f : Nat) (upset : List Nat) (pads : List (Nat × Int × Int)) (d : Dev) : Dev :=
  let d := d.cvuPeriodEnds f
  let quiet := d.cvuQuiet f
  ((d.axuBoundary f).fnBoundary f quiet upset pads).cvuPeriodBegins f

/-- What a target does when slot `n` triggers it (Table TKP-1). The loop step of a converter unit (0x6) and a Marver round
(0x8) follow from the firing's instant alone. -/
def Dev.slotTarget (n kind idx : Nat) (upset : List Nat) (pads : List (Nat × Int × Int)) (d : Dev) : Dev :=
  match kind with
  | 1 => d.boundaryTarget idx upset pads
  | 2 => d.seqTrigger idx true
  | 3 => d.dsmWindow idx
  | 4 => d.cascTrigger idx d.now
  | 5 => d.axuAux idx (d.slotPer n)
  | 7 => if d.gioIn idx 5 then { d with tk := { d.tk with pulses := Tab.set idx (d.now + 1600) d.tk.pulses } } else d
  | _ => d

/-- One target of slot `n`: a second slot at the same target and tick loses, its bit is set and 0x0302 recorded (R36). -/
def Dev.fireTarget (n kind idx : Nat) (upset : List Nat) (pads : List (Nat × Int × Int)) (d : Dev) : Dev :=
  match d.deliveredNow.find? (fun x => x.1 = kind && x.2.1 = idx) with
  | some (_, _, m) =>
    if m = n then d
    else
      let lose := max m n
      let win := min m n
      (d.putBit (if lose < 32 then TKP_COINC0 else TKP_COINC1) (lose % 32) true).evt EV_TKP_SLOT_COINC [lose, win, kind, idx]
  | none => (d.noteTrigger kind idx n).slotTarget n kind idx upset pads

/-- SLOT_FIRE: `upset` names legs whose protection copies are found to differ, `pads` the errors found by pad checks due at
the boundary. SLOT63 is the supercycle boundary (R35). A firing that has been made is not made again. -/
def Dev.slotFire (n : Nat) (upset : List Nat) (pads : List (Nat × Int × Int)) (d : Dev) : Dev :=
  if !d.slotFires n || d.deliveredNow.any (fun x => x.1 = 0 && x.2.2 = n) then d
  else
    let d := (d.noteTrigger 0 n n).inc32 (TKP_SLOT_CNT n)
    if n = 63 then d.supercycle.telSlot
    else ((d.slotTargets n).filter (fun p => p.1 ≠ 0)).foldl (fun d p => d.fireTarget n p.1 p.2 upset pads) d

/-! ## Meanings -/

/-- SLOT_FIRE (R34): An enabled schedule slot reaches EPOCH + PHS + k × PER and triggers its targets. -/
def execSlotFire (t : Time) (n : Fin 64) (upset : List (Fin 48)) (pads : List (Fin 48 × Int × Int)) (s : State) : Host.Outcome State Fault Refusal :=
  s.on t (fun d => d.slotFire n (upset.map Fin.val) (pads.map (fun p => (p.1.val, p.2.1, p.2.2))))

end Sys2Proof.Machine
end

