-- ==== Sys2Proof/Machine/Access.lean ====
section
/-! DEFINITION. Register accesses by a triad (chapters 00 and 22): what a word read returns and does, and what a word write
does, by the register's access code, the configuration lock, and the rows of their own that some registers have. -/

namespace Sys2Proof.Machine

/-! ## Loads -/

/-- A word read of a register by triad `t`: its value, and the effect that some reads have (R13, R32, R45, R371, R448). -/
def Dev.loadReg (t a : Nat) (d : Dev) : W × Dev :=
  let v := d.regShown t a
  match regDesc a with
  | none => (0, d.unmapped t a false)
  | some _ =>
    if a = TKP_STIME_LO then (v, (d.readStimeLo t).2)
    else if a = TKP_STIME_HI then (v, (d.readStimeHi t).2)
    else if a = RTC_SUB then (v, (d.readRtcSub t).2)
    else if a = RTC_SEC then (v, (d.readRtcSec t).2)
    else if a = COR_SAFEQ 0 then (v, d.safeqPop.2)
    else if a = JRN_PASS then
      (v, { d with jrn := { d.jrn with passLatch := Tab.set t ((d.jrn.passes >>> 32).setWidth 32) d.jrn.passLatch } })
    else if a = JRN_PASS_HI then (v, { d with jrn := { d.jrn with passLatch := Tab.erase t d.jrn.passLatch } })
    else (v, d)

/-! ## Stores -/

/-- The lines of triad `t` whose source is a level are pending while it holds (R368, R371). -/
def Dev.levelLines (t : Nat) (d : Dev) : Dev :=
  let d := d.when (t = 0 && !d.safeq.isEmpty) (fun d => d.raiseLine 0 8)
  d.forEach ((List.range 32).filter d.qEn) (fun q d => d.queLines q)

/-- COR_SWEV in the window of triad `w` (Table COR-3, KIND 0x5). -/
def Dev.swev (w : Nat) (v : W) (d : Dev) : Dev :=
  let l := v.fld COR_SWEV_LINE
  if v.bit 31 && 16 ≤ l && (d.rd (COR_EVSRC w l)).fld COR_EVSRC_KIND = 5 then d.raiseLine w l else d

/-- The key in `notBefore` of a triad's timer: the slots take 0–63. -/
def timerKey (t k : Nat) : Nat := 64 + 4 * t + k

/-- A write of a timer's period or phase: its next firing lies at least 1 µs ahead (R367). -/
def Dev.timerWrite (w k a : Nat) (v : W) (d : Dev) : Dev :=
  { d.wr a v with tk := { d.tk with notBefore := Tab.set (timerKey w k) (d.now + BitVec.ofNat 64 usTicks) d.tk.notBefore } }

/-- A write of RED_FNCMD (Table of its fields, R289). -/
def Dev.fnCmdWord (t : Nat) (v : W) (d : Dev) : Dev :=
  let go := fun (op : Nat → Dev → Dev) => d.fnCmd t (v.fld RED_FNCMD_ALL = 1) (v.fld RED_FNCMD_FN) op
  match v.fld RED_FNCMD_OP with
  | 0 => go (fun f d => d.cmdEnter f (v.fld RED_FNCMD_STATE) (v.fld RED_FNCMD_CAUSE))
  | 1 => go (fun f d => d.cmdEnable f)
  | 2 => go (fun f d => d.cmdDisable f)
  | 3 => go (fun f d => d.cmdAck f)
  | _ => d.when (t ≠ 0) (fun d => d.lockedWrite t RED_FNCMD)

/-- A write of RED_FNREQ. -/
def Dev.fnReqWord (v : W) (d : Dev) : Dev :=
  let f := v.fld RED_FNREQ_FN
  let st := v.fld RED_FNREQ_STATE
  match v.fld RED_FNREQ_REQ with
  | 0 => d.reqEnable f st
  | 1 => d.reqDisable f st
  | 2 => d.reqSafe f st
  | _ => d

/-- A write of LNK_CTRL. -/
def Dev.lnkCtrl (t : Nat) (v : W) (d : Dev) : Dev :=
  if t ≠ 0 then d.lockedWrite t LNK_CTRL else (d.yieldWrite t v).retrainWrite t v

/-- A write in a COR window (R380). -/
def Dev.storeCor (t a : Nat) (v : W) (d : Dev) : Dev :=
  let w := a % 0x10000 / 0x1000
  let o := a % 0x1000
  if o = 0x18 then d.swev w v
  else if w ≠ t then d.lockedWrite t a
  else if o = 0x08 then d.wr a (v ||| 0x1F#32)
  else if o = 0x0C then d.wr a v
  else if o = 0x10 || o = 0x14 then (d.wr a (d.rd a &&& ~~~v)).levelLines w
  else if 0x40 ≤ o && o < 0x60 then d.timerWrite w (o / 4 % 4) a v
  else if o = 0x04 || 0x100 ≤ o then (if d.locked then d.lockedWrite t a else d.wr a v)
  else d

/-- A write that only the access code decides (Table SCOPE-4, R11, R12). -/
def Dev.storePlain (t a : Nat) (r : RegDesc) (v : W) (d : Dev) : Dev :=
  let m := BitVec.ofNat 32 r.mask
  let old := d.rd a
  let set := d.wr a ((old &&& ~~~m) ||| (v &&& m))
  match r.acc with
  | .rw => if r.t0 && t ≠ 0 then d.lockedWrite t a else set
  | .cl => if d.locked then d.lockedWrite t a else set
  | .w1c | .ro => if r.w1c = 0 then d else d.wr a (old &&& ~~~(v &&& BitVec.ofNat 32 r.w1c))
  | .wo => if r.t0 && t ≠ 0 then d.lockedWrite t a else d

/-- Writes of registers of the legs, converters, trips, engines and charge channels that act. -/
def Dev.storeDrive (t a : Nat) (v : W) (d : Dev) : Option Dev :=
  let blk := a / 0x10000 % 0x100
  let o := a % 0x10000
  let n := o / 0x200
  if blk = 0x10 && a = LEG_SHA n then some (d.shaWrite t n false v)
  else if blk = 0x10 && a = LEG_SHB n then some (d.shaWrite t n true v)
  else if blk = 0x10 && a = LEG_SHIFT n then some (d.shiftWrite t n v)
  else if blk = 0x10 && a = LEG_GLREQ n then some (d.glRequest t n v)
  else if a = ADC_SEQGO then some (d.seqGo v)
  else if blk = 0x13 && ADC_URGREQ 0 ≤ a && a < ADC_URGREQ 32 && a % 16 = ADC_URGREQ 0 % 16 then some (d.urgWrite t ((a - ADC_URGREQ 0) / 16) v)
  else if a = TRP_REL then some (d.relWrite t v)
  else if a = TRP_SWTRIP then some (d.swTrip t v)
  else if (List.range 16).any (fun p => a = CEN_GO p) then some (d.cenGo (o / 0x400) v)
  else if a = CHG_CTRL 0 then some (d.chgCtrl 0 v)
  else if a = CHG_CTRL 1 then some (d.chgCtrl 1 v)
  else if a = CHG_LAMP 0 then some (d.lampWrite t 0 v)
  else if a = CHG_LAMP 1 then some (d.lampWrite t 1 v)
  else none

/-- Writes of registers of the system blocks that act. -/
def Dev.storeSystem (t a : Nat) (v : W) (d : Dev) : Option Dev :=
  let o := a % 0x10000
  if a = SYS_CTRL then some (d.sysCtrl t v)
  else if a = TKP_SLOTEN0 then some (d.slotEnables t false v)
  else if a = TKP_SLOTEN1 then some (d.slotEnables t true v)
  else if a = RTC_CAP then some (d.rtcCapGo v)
  else if a = RED_T0KICK then some (d.t0Kick t v)
  else if a = RED_FNCMD then some (d.fnCmdWord t v)
  else if a = RED_FNREQ then some (d.fnReqWord v)
  else if (List.range 16).any (fun n => a = RED_WDGKICK n) then some (d.wdgKick t ((a - RED_WDGKICK 0) / 16) v)
  else if a = LNK_CTRL then some (d.lnkCtrl t v)
  else if (List.range 6).any (fun n => a = BUS_CTRL n) then some (d.busCtrl (o / 0x1000) v)
  else if (List.range 32).any (fun q => a = QUE_WR q) then some (d.indexWrite t (o / 0x80) false v)
  else if (List.range 32).any (fun q => a = QUE_RD q) then some (d.indexWrite t (o / 0x80) true v)
  else if (List.range 32).any (fun q => a = QUE_CANCEL q) then some (d.queCancel (o / 0x80) v)
  else if a = SIG_MAPTX then some (d.mapTx v)
  else if a = BKG_REQ then some (d.bkgRequest t v)
  else if a = SEC_AUDSEL then some (d.wrOwn t SEC_AUDSEL v)
  else none

/-- A word write of a peripheral address by triad `t`: of a CL register after the lock refused (R12), of an unassigned
offset recorded (R13), else as its block has it. -/
def Dev.storeReg (t a : Nat) (v : W) (d : Dev) : Dev :=
  match regDesc a with
  | none => d.unmapped t a true
  | some r =>
    if r.acc = .cl && d.locked then d.lockedWrite t a
    else if a / 0x10000 = 0x4030 then d.storeCor t a v
    else ((d.storeDrive t a v).or (d.storeSystem t a v)).getD (d.storePlain t a r v)

/-- REGISTER_WRITE: of an address of the peripheral range; elsewhere no register is written. -/
def Dev.registerWrite (t a : Nat) (v : W) (d : Dev) : Dev := if (regDesc a).isSome || inPeriph a then d.storeReg t a v else d

/-- UNMAPPED_ACCESS: of an unassigned offset of the peripheral range (R13). -/
def Dev.unmappedAccess (t a : Nat) (write : Bool) (d : Dev) : Dev :=
  if inPeriph a && (regDesc a).isNone then d.unmapped t a write else d

/-! ## Meanings -/

/-- REGISTER_WRITE (R12): A write to a register that has no row of its own, applied under its access code and the configuration lock. -/
def execRegisterWrite (t : Time) (triad : Fin 4) (a : Nat) (v : W) (s : State) : Host.Outcome State Fault Refusal :=
  s.on t (fun d => d.registerWrite triad a v)

/-- UNMAPPED_ACCESS (R13): A read or write of an unassigned peripheral offset reads zero or has no effect, and records 0x0109. -/
def execUnmappedAccess (t : Time) (triad : Fin 4) (a : Nat) (write : Bool) (s : State) : Host.Outcome State Fault Refusal :=
  s.on t (fun d => d.unmappedAccess triad a write)

/-- COR_SWEV (R380): A write of COR_SWEV raises a software event line of the window's triad. -/
def execCorSwev (t : Time) (w : Fin 4) (v : W) (s : State) : Host.Outcome State Fault Refusal :=
  s.on t (fun d => d.swev w v)

end Sys2Proof.Machine
end

