-- ==== Sys2Proof/Machine/Flags.lean ====
section
/-! DEFINITION. The STATUS bits of a core (Table COR-4) and what taking a line and RETE do to them (R365, R368). -/

namespace Sys2Proof.Machine

/-- SUP: supervisor mode. -/
def Core.sup (c : Core) : Bool := c.status.bit 0
/-- IE: events are enabled. -/
def Core.ie (c : Core) : Bool := c.status.bit 1
/-- FH: in a fault handler. -/
def Core.fh (c : Core) : Bool := c.status.bit 2

/-- A STATUS word; its other bits are zero. -/
def statusWord (sup ie fh : Bool) : W := BitVec.ofNat 32 (b2n sup + 2 * b2n ie + 4 * b2n fh)

/-- STATUS after line `n` is taken: SUP set, IE cleared, FH set for lines 0–4 (R368). -/
def Core.statusTaken (n : Nat) (c : Core) : W := statusWord true false (decide (n < 5) || c.fh)

/-- STATUS after MTSR: IE and FH only (Table COR-4). -/
def Core.statusMoved (v : W) (c : Core) : W := statusWord c.sup (v.bit 1) (v.bit 2)

/-- STATUS that RETE restores from ESTAT, SUP included. -/
def Core.statusBack (c : Core) : W := statusWord (c.estat.bit 0) (c.estat.bit 1) (c.estat.bit 2)

/-- ECAUSE (Table COR-4). -/
abbrev ecFetch : Nat := 0
abbrev ecLoad : Nat := 1
abbrev ecStore : Nat := 2
abbrev ecMisaligned : Nat := 3
abbrev ecUndefined : Nat := 4
abbrev ecPriv : Nat := 5
abbrev ecTrap : Nat := 6
abbrev ecSpecial : Nat := 7
abbrev ecRegister : Nat := 8
abbrev ecDivZero : Nat := 9

end Sys2Proof.Machine
end

