-- ==== Sys2Proof/Machine/Operands.lean ====
section
/-! DEFINITION. The operand forms of the core instructions (Tables COR-4 to COR-6): general, floating and special
registers, immediates, displacements and jump targets. -/

namespace Sys2Proof.Machine

/-- General register `r`; w0 reads zero. -/
def Core.getW (c : Core) (r : Nat) : W := if r = 0 then 0 else c.w.getD r 0

/-- The core with `v` in general register `r`; a write to w0 is ignored. -/
def Core.setW (r : Nat) (v : W) (c : Core) : Core :=
  { c with w := (List.range 32).map (fun i => if i = r then (if r = 0 then 0 else v) else c.getW i) }

/-- Floating register `r`. -/
def Core.getF (c : Core) (r : Nat) : W := c.f.getD r 0

/-- The core with `v` in floating register `r`. -/
def Core.setF (r : Nat) (v : W) (c : Core) : Core :=
  { c with f := (List.range 32).map (fun i => if i = r then v else c.getF i) }

/-- The core goes on at `a`, with one more instruction retired. -/
def Core.goTo (a : W) (c : Core) : Core := { c with pc := a, icnt := c.icnt + 1 }

/-- The core goes on at the next instruction. -/
def Core.next (c : Core) : Core := c.goTo (c.pc + 4)

/-- imm16 sign-extended, and zero-extended for ANDI, ORI and XORI. -/
def sext16 (v : BitVec 16) : W := v.signExtend 32
def zext16 (v : BitVec 16) : W := v.setWidth 32

/-- A shift amount: bits 4:0. -/
def shamt (v : W) : Nat := v.toNat % 32

/-- The address of a load or store: base + disp16. -/
def Core.memAddr (c : Core) (ra : Nat) (disp : BitVec 16) : Nat := (c.getW ra + sext16 disp).toNat

/-- The target of a branch and of J and JAL: pc + 4 × displacement. -/
def Core.target16 (c : Core) (disp : BitVec 16) : W := c.pc + 4 * sext16 disp
def Core.target26 (c : Core) (disp : BitVec 26) : W := c.pc + 4 * disp.signExtend 32

/-- Special register `n` (Table COR-4); 8–31 are reserved. -/
def Core.special (c : Core) (triad n : Nat) : Option W :=
  match n with
  | 0 => some c.status
  | 1 => some c.epc
  | 2 => some c.estat
  | 3 => some c.ecause
  | 4 => some c.eaddr
  | 5 => some (c.icnt.setWidth 32)
  | 6 => some ((c.icnt >>> 32).setWidth 32)
  | 7 => some (BitVec.ofNat 32 triad)
  | _ => none

/-- Special registers that MFSR reads in task mode: ICNT, ICNTH and TRIAD (R365). -/
def openSpecial (n : Nat) : Bool := n = 5 || n = 6 || n = 7

/-- MTSR of special register `n`: STATUS changes IE and FH only, and a read-only one is unchanged. -/
def Core.setSpecial (n : Nat) (v : W) (c : Core) : Core :=
  match n with
  | 0 => { c with status := c.statusMoved v }
  | 1 => { c with epc := v }
  | 2 => { c with estat := v }
  | _ => c

/-- DIV and REM (Table COR-6): toward zero; −2^31 / −1 saturates, and its remainder keeps the sum whole. -/
def divS (a b : W) : W := if a = 0x80000000#32 ∧ b = 0xFFFFFFFF#32 then 0x7FFFFFFF#32 else a.sdiv b
def remS (a b : W) : W := if a = 0x80000000#32 ∧ b = 0xFFFFFFFF#32 then 0xFFFFFFFF#32 else a.srem b

/-- The high word of the signed and of the unsigned 64-bit product. -/
def mulHi (a b : W) : W := ((a.signExtend 64 * b.signExtend 64) >>> 32).setWidth 32
def mulHiU (a b : W) : W := ((a.setWidth 64 * b.setWidth 64) >>> 32).setWidth 32

/-- 1 where a condition holds. -/
def bool32 (b : Bool) : W := if b then 1 else 0

end Sys2Proof.Machine
end

