-- ==== Sys2Proof/Machine/Cores.lean ====
section
/-! DEFINITION. The Ivnus core triads (chapter 16): protection, faults and events, voted effects and the read log, and what
each instruction does. The three copies of a triad are one logical processor; a copy that differs is a command of RED. -/

namespace Sys2Proof.Machine

/-! ## Protection (R363, R366) -/

/-- An access by its ECAUSE: 0 fetch, 1 load, 2 store. Is every byte in a range that Table COR-1 opens to it, or whose own
chapter names the outcome? -/
def mapped (kind a n : Nat) : Bool :=
  let all := fun (p : Nat → Bool) => p a && p (a + (n - 1))
  if kind = ecFetch then all inLocal
  else (all inLocal || all inShared || all inCoef || all inSig || all inJrn || all inPeriph) &&
    !(kind = ecStore && (inLog a || inLog (a + (n - 1))))

/-- The bit of COR_MPU_ATTR that permits an access. -/
def permBit (kind : Nat) (sup : Bool) : Nat :=
  (if kind = ecFetch then 2 else if kind = ecLoad then 0 else 1) + (if sup then 0 else 3)

/-- Does region `r` hold every byte of an access? -/
def Dev.regionHolds (d : Dev) (t r a n : Nat) : Bool :=
  (d.rd (COR_MPU_ATTR t r)).bit 31 && (d.rd (COR_MPU_BASE t r)).toNat / 0x100 * 0x100 ≤ a &&
    a + (n - 1) ≤ (d.rd (COR_MPU_LIMIT t r)).toNat / 0x100 * 0x100 + 0xFF

/-- The lowest matching region decides; supervisor loads and stores of the triad's own COR window are always permitted. -/
def Dev.permitted (d : Dev) (t kind a n : Nat) : Bool :=
  let sup := (d.triad t).core.sup
  let win := 0x40300000 + t * 0x1000
  if sup && kind ≠ ecFetch && win ≤ a && a + n ≤ win + 0x1000 then true
  else match (List.range 16).find? (fun r => d.regionHolds t r a n) with
    | some r => (d.rd (COR_MPU_ATTR t r)).bit (permBit kind sup)
    | none => false

/-- The line and the ECAUSE of an access that faults: misaligned, or not permitted. -/
def Dev.accessFault (d : Dev) (t kind a n align : Nat) : Option (Nat × Nat) :=
  if a % align ≠ 0 then some (1, ecMisaligned)
  else if mapped kind a n && d.permitted t kind a n then none
  else some (0, kind)

/-! ## Lines (R368–R371) -/

/-- The triad's registers changed. -/
def Dev.modCore (t : Nat) (f : Core → Core) (d : Dev) : Dev := d.modTriad t (fun x => { x with core := f x.core })

/-- An instruction completes, unless its own effect stopped the triad. -/
def Dev.finish (t : Nat) (f : Core → Core) (d : Dev) : Dev :=
  if d.triadLive t then d.modTriad t (fun x => { x with core := f x.core, wait := .none }) else d

/-- The registers after line `n` is taken: EPC and ESTAT saved, STATUS changed, the pc at the vector. -/
def Core.vector (n : Nat) (vbase : W) (c : Core) : Core :=
  { c with epc := c.pc, estat := c.status, status := c.statusTaken n
           pc := BitVec.ofNat 32 (vbase.fld COR_VBASE_BASE * 0x400 + 16 * n) }

/-- Line `n` of triad `t` is taken. -/
def Dev.takeLine (t n : Nat) (d : Dev) : Dev :=
  let v := d.rd (COR_VBASE t)
  (d.modTriad t (fun x => { x with core := x.core.vector n v, wait := .none })).setF (COR_STAT t) COR_STAT_LINE n

/-- A fault is counted and recorded at most once a second (R381, R458). -/
def Dev.countFault (t line cause addr : Nat) (d : Dev) : Dev :=
  let f := if line < 2 then COR_FAULT_ACCESS else if line = 2 then COR_FAULT_ILLEGAL else COR_FAULT_OPERAND
  let d := ((d.incSat (COR_FAULT t) f).setF (COR_FAULT t) COR_FAULT_CAUSE cause).wr (COR_FADDR t) (BitVec.ofNat 32 addr)
  d.rated clsWarning (if line < 2 then EV_COR_ACCESS_FAULT else EV_COR_ILLEGAL) t secTicks
    (fun n => dat ([t, 0, 0, 0] ++ le4 addr ++ le4 n))

/-- The instruction at the pc faults on `line` (R368); in a fault handler this is a double fault (R369). -/
def Dev.fault (t line cause addr : Nat) (d : Dev) : Dev :=
  let fh := (d.triad t).core.fh
  let d := d.countFault t line cause addr
  if fh then (d.evt EV_COR_DOUBLE_FAULT ([t, 0, 0, 0] ++ le4 addr)).haltTriad t
  else (d.takeLine t line).modCore t (fun c => { c with ecause := BitVec.ofNat 32 cause, eaddr := BitVec.ofNat 32 addr })

/-- Does line `n` hold a level (Tables COR-2 and COR-3)? -/
def Dev.levelLine (d : Dev) (t n : Nat) : Bool := n = 8 || (16 ≤ n && (d.rd (COR_EVSRC t n)).fld COR_EVSRC_KIND = 2)

/-- Taking or returning a line clears the pending bit of an edge. -/
def Dev.consumeLine (t n : Nat) (d : Dev) : Dev := if d.levelLine t n then d else d.dropLine t n

/-- The lowest pending line in two masks. -/
def Dev.pendingIn (d : Dev) (t : Nat) (lo hi : W) : Option Nat :=
  (List.range 64).find? (fun n =>
    if n < 32 then (lo &&& d.rd (COR_EVPEND0 t)).bit n else (hi &&& d.rd (COR_EVPEND1 t)).bit (n - 32))

/-- The pending, enabled line that is taken next. -/
def Dev.eventDue (d : Dev) (t : Nat) : Option Nat := d.pendingIn t (d.rd (COR_EVEN0 t)) (d.rd (COR_EVEN1 t))

/-! ## Voted effects and the read log (R266, R267, R272, R377) -/

abbrev ekStore : Nat := 0
abbrev ekLoad : Nat := 1
abbrev ekAtomic : Nat := 2
abbrev ekSigrd : Nat := 3
abbrev ekSigwr : Nat := 4
abbrev ekPost : Nat := 5
abbrev ekTake : Nat := 6
abbrev ekCkpt : Nat := 7
abbrev ekSync : Nat := 8
/-- An event taken, at its retired-instruction count (R370). -/
abbrev ekEvent : Nat := 9

/-- An effect is voted: `some true` acts now and is logged, `some false` acted before the restart, `none` differs from its
logged value: a divergence, and a disagreement under R271. -/
def Dev.vote (t : Nat) (e : Effect) (d : Dev) : Option Bool × Dev :=
  match (d.triad t).replay with
  | [] => (some true, d.modTriad t (fun x => { x with effects := x.effects ++ [e] }))
  | x :: r =>
    if x = e then (some false, d.modTriad t (fun x => { x with replay := r }))
    else (none, (d.incSat (RED_TCNT t) RED_TCNT_REPLAYDIV).triadDisagree t [])

/-- Words from outside the triad: logged as they arrive, and in replay taken from the log without an access. -/
def Dev.logged (t n : Nat) (get : Dev → List W × Dev) (d : Dev) : List W × Dev :=
  let x := d.triad t
  if 0 < n && n ≤ x.replayReads.length then
    (x.replayReads.take n, d.modTriad t (fun x => { x with replayReads := x.replayReads.drop n }))
  else
    let (vs, d) := get d
    (vs, d.modTriad t (fun x => { x with reads := x.reads ++ vs }))

/-- Bytes as words of the log, and back. -/
def packW (bs : List Byte) : List W :=
  (List.range ((bs.length + 3) / 4)).map (fun i => BitVec.ofNat 32 (leNat (sliceB bs (4 * i) 4)))
def unpackW (n : Nat) (ws : List W) : List Byte := sliceB (ws.flatMap (fun w => leBytes 4 w.toNat)) 0 n

/-! ## Memory as a core reaches it (Table COR-1) -/

/-- `n` bytes from `a`: a register read takes the word that holds them. -/
def Dev.loadN (t a n : Nat) (d : Dev) : List Byte × Dev :=
  if inPeriph a then
    let (bs, d) := (List.range ((a % 4 + n + 3) / 4)).foldl (fun (p : List Byte × Dev) i =>
      let (v, d) := p.2.loadReg t (a / 4 * 4 + 4 * i)
      (p.1 ++ leBytes 4 v.toNat, d)) ([], d)
    (sliceB bs (a % 4) n, d)
  else ((List.range n).map (fun i => d.peekByte t (a + i)), d)

/-- The bytes that the bytes of a narrow register store are merged into: what the register holds, and zeros where writing
a one acts. -/
def Dev.mergeBase (d : Dev) (t wa : Nat) : List Byte :=
  match regDesc wa with
  | some r => if r.acc = .w1c || r.acc = .wo then List.replicate 4 0 else leBytes 4 (d.regShown t wa).toNat
  | none => List.replicate 4 0

/-- A store of a core to a mirror region, in a role that only follows: it is dropped (R303). -/
def Dev.dropsStore (d : Dev) (a : Nat) : Bool :=
  (inShared a || inSig a) && d.paired && !d.masterRole && d.mirRegions.any (fun r => r.addr ≤ a && a < r.addr + r.len)

/-- Bytes stored inside the word at `wa`, from its byte `o`. -/
def Dev.storePart (t wa o : Nat) (bs : List Byte) (d : Dev) : Dev :=
  let a := wa + o
  let merged := fun (old : List Byte) => BitVec.ofNat 32 (leNat (sliceB (old.take o ++ bs ++ old.drop (o + bs.length)) 0 4))
  if inPeriph wa then d.storeReg t wa (merged (d.mergeBase t wa))
  else if inLocal wa then
    d.modTriad t (fun x => { x with undo := (wa, Mem.word x.lram wa) :: x.undo, lram := Mem.putN 0 a bs x.lram })
  else if inLog wa then d
  else if d.dropsStore wa then d
  else if inShared wa then (let d := d.snapLine wa; { d with sram := Mem.putN 0 a bs d.sram })
  else if inCoef wa then
    (if d.locked then d.lockedWrite t a else { d with coef := Mem.putN 0 a bs d.coef })
  else if inSig wa then
    (if wa % 16 < 8 then (d.snapLine wa).sigWord wa (merged ((List.range 4).map (fun i => d.sigByte (wa + i)))) t
     else d.lockedWrite t a)
  else if inJrn wa then (d.setF JRN_FLT JRN_FLT_BADWRITE 1).lockedWrite t a
  else d

/-- Bytes stored from `a`, word by word. A 64-bit word written whole is no longer poisoned (Table BKG-1). A store with a
dropped word counts once in DROPST. -/
def Dev.storeN (t a : Nat) (bs : List Byte) (d : Dev) : Dev :=
  let drops := (List.range ((a % 4 + bs.length + 3) / 4)).any (fun i => d.dropsStore (a / 4 * 4 + 4 * i))
  let d := d.forEach (List.range ((a % 4 + bs.length + 3) / 4)) (fun i d =>
    let o := if i = 0 then a % 4 else 0
    let wa := a / 4 * 4 + 4 * i
    d.storePart t wa o ((bs.drop (wa + o - a)).take (4 - o)))
  if drops then d.incSat LNK_CNT LNK_CNT_DROPST
  else d.when (inShared a) (fun d => d.unpoison a bs.length)

/-- A load of `n` bytes whose access is permitted: local SRAM at once, anything else voted and logged. A poisoned word
takes line 0 (Table BKG-1). -/
def Dev.loadThen (t a n : Nat) (k : List Byte → Dev → Dev) (d : Dev) : Dev :=
  if inLocal a then k (d.loadN t a n).1 d
  else if inShared a && (d.triad t).replayReads.isEmpty && d.poisoned a n then d.fault t 0 ecLoad a
  else match d.vote t ⟨ekLoad, a, n⟩ with
    | (none, d) => d
    | (some _, d) =>
      let (ws, d) := d.logged t ((n + 3) / 4) (fun d => let (bs, d) := d.loadN t a n; (packW bs, d))
      k (unpackW n ws) d

/-! ## The frame of an instruction -/

/-- Triad `t` executes the instruction at its pc: nothing where it does not run; a pc that may not be fetched faults. -/
def Dev.instr (t : Nat) (body : Dev → Dev) (d : Dev) : Dev :=
  let pc := (d.triad t).core.pc.toNat
  if d.stopped || (d.triad t).wait ≠ .none then d
  else match d.accessFault t ecFetch pc 4 4 with
    | some (line, cause) => d.fault t line cause pc
    | none => body d

/-- An instruction that changes registers only. -/
def Dev.alu (t : Nat) (f : Core → Core) (d : Dev) : Dev := d.instr t (fun d => d.finish t (fun c => (f c).next))

/-- The illegal-instruction line with an ECAUSE: EADDR is the instruction's address. -/
def Dev.illegal (t cause : Nat) (d : Dev) : Dev := d.fault t 2 cause (d.triad t).core.pc.toNat

/-- The operand line. -/
def Dev.operand (t cause : Nat) (d : Dev) : Dev := d.fault t 4 cause (d.triad t).core.pc.toNat

/-- An integer division; a divisor of zero takes line 4. -/
def Dev.divide (t rd ra rb : Nat) (f : W → W → W) (d : Dev) : Dev :=
  d.instr t (fun d =>
    let c := (d.triad t).core
    if c.getW rb = 0 then d.operand t ecDivZero
    else d.finish t (fun c => (c.setW rd (f (c.getW ra) (c.getW rb))).next))

/-- A conditional branch. -/
def Dev.branch (t : Nat) (ra rb : Nat) (p : W → W → Bool) (disp : BitVec 16) (d : Dev) : Dev :=
  d.instr t (fun d => d.finish t (fun c => if p (c.getW ra) (c.getW rb) then c.goTo (c.target16 disp) else c.next))

/-- A load of `n` bytes into a register. -/
def Dev.load (t ra n : Nat) (disp : BitVec 16) (put : Nat → Core → Core) (d : Dev) : Dev :=
  d.instr t (fun d =>
    let a := (d.triad t).core.memAddr ra disp
    match d.accessFault t ecLoad a n n with
    | some (line, cause) => d.fault t line cause a
    | none => d.loadThen t a n (fun bs d => d.finish t (fun c => (put (leNat bs) c).next)))

/-- A store of the lowest `n` bytes of a value: voted; replayed stores reach the local SRAM again, nothing else. -/
def Dev.store (t ra n : Nat) (disp : BitVec 16) (val : Core → W) (d : Dev) : Dev :=
  d.instr t (fun d =>
    let c := (d.triad t).core
    let a := c.memAddr ra disp
    let bs := leBytes n (val c).toNat
    match d.accessFault t ecStore a n n with
    | some (line, cause) => d.fault t line cause a
    | none => match d.vote t ⟨ekStore + 16 * n, a, leNat bs⟩ with
      | (none, d) => d
      | (some fresh, d) => (if fresh || inLocal a then d.storeN t a bs else d).finish t Core.next)

/-- SWAPW and ADDW: load and store of one word as one effect. -/
def Dev.atomic (t rd ra rb : Nat) (f : W → W → W) (d : Dev) : Dev :=
  d.instr t (fun d =>
    let c := (d.triad t).core
    let a := (c.getW ra).toNat
    match (d.accessFault t ecLoad a 4 4).or (d.accessFault t ecStore a 4 4) with
    | some (line, cause) => d.fault t line cause a
    | none =>
      let poison := inShared a && (d.triad t).replayReads.isEmpty && d.poisoned a 4
      if poison then d.fault t 0 ecLoad a
      else match d.vote t ⟨ekAtomic, a, (f 0 (c.getW rb)).toNat⟩ with
        | (none, d) => d
        | (some fresh, d) =>
          let get := fun (d : Dev) => let (bs, d) := d.loadN t a 4; (packW bs, d)
          let (ws, d) := if inLocal a then get d else d.logged t 1 get
          let old := ws.headD 0
          let d := if fresh || inLocal a then d.storeN t a (leBytes 4 (f old (c.getW rb)).toNat) else d
          d.finish t (fun c => (c.setW rd old).next))

/-- A floating-point operation into a floating register. -/
def Dev.fop (t rd : Nat) (f : Core → W) (d : Dev) : Dev := d.alu t (fun c => c.setF rd (f c))

/-! ## System instructions (R365, R368) -/

/-- TRAP: executed, so that the next instruction is the one after it; line 3 with the code in EADDR. -/
def Dev.trap (t : Nat) (code : BitVec 10) (d : Dev) : Dev :=
  d.instr t (fun d => ((d.modCore t Core.next).takeLine t 3).modCore t
    (fun c => { c with ecause := BitVec.ofNat 32 ecTrap, eaddr := code.setWidth 32 }))

/-- RETE. -/
def Dev.rete (t : Nat) (d : Dev) : Dev :=
  d.instr t (fun d =>
    if (d.triad t).core.sup then d.finish t (fun c => { c with status := c.statusBack }.goTo c.epc)
    else d.illegal t ecPriv)

/-- MFSR. -/
def Dev.mfsr (t rd n : Nat) (d : Dev) : Dev :=
  d.instr t (fun d =>
    let c := (d.triad t).core
    match c.special t n with
    | none => d.illegal t ecUndefined
    | some v => if c.sup || openSpecial n then d.finish t (fun c => (c.setW rd v).next) else d.illegal t ecPriv)

/-- MTSR. -/
def Dev.mtsr (t ra n : Nat) (d : Dev) : Dev :=
  d.instr t (fun d =>
    let c := (d.triad t).core
    if (c.special t n).isNone then d.illegal t ecUndefined
    else if c.sup then d.finish t (fun c => (c.setSpecial n (c.getW ra)).next)
    else d.illegal t ecPriv)

/-! ## Special instructions (Table COR-7) -/

/-- SIGRD: VALUE and STAMP of one instant. -/
def Dev.sigrd (t rd ra : Nat) (d : Dev) : Dev :=
  d.instr t (fun d =>
    let i := ((d.triad t).core.getW ra).toNat
    if 29 < rd then d.illegal t ecRegister
    else if 0xFFFF < i then d.operand t ecSpecial
    else match d.vote t ⟨ekSigrd, i, 0⟩ with
      | (none, d) => d
      | (some _, d) =>
        let (ws, d) := d.logged t 3 (fun d =>
          ([BitVec.ofNat 32 (d.sigVal i), BitVec.ofNat 32 (d.sigVal i / 2 ^ 32), d.sigStamp i], d))
        d.finish t (fun c =>
          (((c.setW rd (ws.getD 0 0)).setW (rd + 1) (ws.getD 1 0)).setW (rd + 2) (ws.getD 2 0)).next))

/-- Both halves of signal `i` written by a core of triad `t`: a store to the entry's address (R303, R307). -/
def Dev.sigStore (t i : Nat) (lo hi : W) (d : Dev) : Dev :=
  let a := 0x19000000 + 16 * i
  if d.dropsStore a then d.incSat LNK_CNT LNK_CNT_DROPST
  else let d := d.snapLine a; d.sigWrite i (some lo) (some hi) d.fstamp t

/-- SIGWR: both halves, with the triad as WRITER. -/
def Dev.sigwr (t rd ra : Nat) (d : Dev) : Dev :=
  d.instr t (fun d =>
    let c := (d.triad t).core
    let i := (c.getW ra).toNat
    let lo := c.getW rd
    let hi := c.getW (rd + 1)
    if 30 < rd then d.illegal t ecRegister
    else if 0xFFFF < i then d.operand t ecSpecial
    else match d.vote t ⟨ekSigwr, i, hi.toNat * 2 ^ 32 + lo.toNat⟩ with
      | (none, d) => d
      | (some fresh, d) => (d.when fresh (fun d => d.sigStore t i lo hi)).finish t Core.next)

/-- Is queue `q` open to QPOST (R374)? -/
def Dev.postOpen (d : Dev) (q : Nat) : Bool :=
  d.qEn q && !d.qRx q && (d.qBind q < 6 || d.qBind q = bindLink || d.qBind q = bindCores)

/-- Is queue `q` open to QTAKE (R374)? -/
def Dev.takeOpen (d : Dev) (q : Nat) : Bool :=
  d.qEn q && (d.qRx q || d.qBind q = bindCores) && !d.bit SIG_AUTOQ q && !d.bit SIG_DQMASK q

/-- The word of the log that says that an assured operation was begun and has no result yet. -/
abbrev begun : W := 0xFFFFFFFF#32

/-- The result of QPOST, or the SEQ of an assured post in progress. Where nothing is posted the SEQ word is left open. -/
def Dev.postNow (t q : Nat) (img : List Byte) (d : Dev) : List W × Dev :=
  let nothing := fun (code : Nat) (d : Dev) => let (v, d) := d.ask 20; ([BitVec.ofNat 32 code, v], d)
  if !d.postOpen q then nothing qrBadq d
  else
    let x := Desc.ofBytes img
    match d.post t q x with
    | (none, seq, d) => ([begun, BitVec.ofNat 32 seq], d)
    | (some code, seq, d) => if code = qrAccept then ([BitVec.ofNat 32 code, BitVec.ofNat 32 seq], d) else nothing code d

/-- An assured instruction waits for its record; in replay it ends at once where its result is in the log, and otherwise
takes up the wait that the restart found it in. -/
def Dev.awaitRecord (t rd : Nat) (seq : Option W) (replayed : Bool) (d : Dev) : Dev :=
  d.modTriad t (fun x =>
    if !replayed then { x with wait := .assured rd none seq }
    else match x.replayReads with
      | v :: r => { x with wait := .assured rd (some v) seq, replayReads := r }
      | [] => match x.held with
        | .assured _ _ _ => { x with wait := x.held, held := .none }
        | _ => { x with wait := .assured rd none seq })

/-- QPOST (R373, R374). -/
def Dev.qpost (t rd ra rb : Nat) (d : Dev) : Dev :=
  d.instr t (fun d =>
    let c := (d.triad t).core
    let q := (c.getW ra).toNat
    let a := (c.getW rb).toNat
    if 30 < rd then d.illegal t ecRegister
    else if 31 < q then d.operand t ecSpecial
    else match d.accessFault t ecLoad a 96 1 with
      | some (line, cause) => d.fault t line cause a
      | none => d.loadThen t a 96 (fun img d =>
        match d.vote t ⟨ekPost, q, leNat img⟩ with
        | (none, d) => d
        | (some fresh, d) =>
          let (ws, d) := d.logged t 2 (fun d => d.postNow t q img)
          let seq := ws.getD 1 0
          if ws.headD 0 = begun then d.awaitRecord t rd (some seq) (!fresh)
          else d.finish t (fun c => ((c.setW rd (ws.headD 0)).setW (rd + 1) seq).next)))

/-- The result of QTAKE and the descriptor it copies: a head in a poisoned word is INVALID. On an assured queue the TAKEN
record is asked for, and the result is still to come. -/
def Dev.takeNow (q a : Nat) (t : Nat) (d : Dev) : List W × Dev :=
  if !d.takeOpen q then ([BitVec.ofNat 32 qrBadq], d)
  else if d.qFill q = 0 then ([BitVec.ofNat 32 qrEmpty], d)
  else
    let x := d.headDesc q
    let x := if d.headPoisoned q then { x with status := dsInvalid } else x
    let d := d.qAdvance q
    let d := d.qEnded q jkTaken x.seq (.taken t (some a))
    ((if d.qAssured q then begun else BitVec.ofNat 32 qrTaken) :: packW x.bytes, d)

/-- QTAKE (R352, R373, R374). -/
def Dev.qtake (t rd ra rb : Nat) (d : Dev) : Dev :=
  d.instr t (fun d =>
    let c := (d.triad t).core
    let q := (c.getW ra).toNat
    let a := (c.getW rb).toNat
    if 31 < q then d.operand t ecSpecial
    else match d.accessFault t ecStore a 96 1 with
      | some (line, cause) => d.fault t line cause a
      | none => match d.vote t ⟨ekTake, q, a⟩ with
        | (none, d) => d
        | (some fresh, d) =>
          let (ws, d) := match (d.triad t).replayReads with
            | v :: _ => d.logged t (if v = begun || v = BitVec.ofNat 32 qrTaken then 25 else 1) (fun d => ([v], d))
            | [] => d.logged t 0 (fun d => d.takeNow q a t)
          let copy := decide (1 < ws.length) && (fresh || inLocal a)
          let d := d.when copy (fun d => d.storeN t a (unpackW 96 (ws.drop 1)))
          if ws.headD 0 = begun then d.awaitRecord t rd none (!fresh)
          else d.finish t (fun c => (c.setW rd (ws.headD 0)).next))

/-- AWAIT returns line `n`. -/
def Dev.awaited (t rd n : Nat) (d : Dev) : Dev := d.finish t (fun c => (c.setW rd (BitVec.ofNat 32 n)).next)

/-- Does the replay take an event before anything else (R370)? -/
def Dev.eventNext (d : Dev) (t : Nat) : Option Nat :=
  let x := d.triad t
  match x.replay with
  | e :: _ => if e.kind = ekEvent && e.value = x.core.icnt.toNat then some e.addr else none
  | [] => none

/-- The line that AWAIT with these masks returns now, fixed once for every copy (R375, R377). -/
def Dev.awaitLine (t : Nat) (lo hi : W) (d : Dev) : Option Nat × Dev :=
  if (d.eventNext t).isSome then (none, d)
  else match (d.triad t).replayReads with
    | v :: r => (some v.toNat, d.modTriad t (fun x => { x with replayReads := r }))
    | [] => match d.pendingIn t lo hi with
      | none => (none, d)
      | some n => (some n, (d.logged t 1 (fun d => ([BitVec.ofNat 32 n], d))).2.consumeLine t n)

/-- AWAIT (R375). -/
def Dev.await (t rd ra rb : Nat) (d : Dev) : Dev :=
  d.instr t (fun d =>
    let c := (d.triad t).core
    let lo := c.getW ra
    let hi := c.getW rb
    if lo = 0 && hi = 0 then d.operand t ecSpecial
    else match d.awaitLine t lo hi with
      | (some n, d) => d.awaited t rd n
      | (none, d) => d.modTriad t (fun x => { x with wait := .await rd lo hi }))

/-- CKPT (R268): complete, then the checkpoint is taken; its signatures may differ (R270). -/
def Dev.ckpt (t : Nat) (minority : Option (Fin 3)) (split : Bool) (d : Dev) : Dev :=
  d.instr t (fun d =>
    match d.vote t ⟨ekCkpt, 0, 0⟩ with
    | (none, d) => d
    | (some _, d) => (d.finish t Core.next).triadCheckpoint t minority split)

/-- SYNC waits for its completion (R376). -/
def Dev.sync (t : Nat) (d : Dev) : Dev :=
  d.instr t (fun d =>
    match d.vote t ⟨ekSync, 0, 0⟩ with
    | (none, d) => d
    | (some _, d) => d.modTriad t (fun x => { x with wait := .sync }))

/-! ## What happens to a waiting or interrupted core -/

/-- AWAIT_WAKE. -/
def Dev.awaitWake (t : Nat) (d : Dev) : Dev :=
  match (d.triad t).wait with
  | .await rd lo hi =>
    match d.awaitLine t lo hi with
    | (some n, d) => d.awaited t rd n
    | (none, d) => d
  | _ => d

/-- ASSURED_QUEUE_COMPLETE. -/
def Dev.assuredComplete (t : Nat) (d : Dev) : Dev :=
  match (d.triad t).wait with
  | .assured rd (some v) seq =>
    let d := d.modTriad t (fun x => { x with reads := x.reads ++ [v] })
    d.finish t (fun c => (match seq with | some s => (c.setW rd v).setW (rd + 1) s | none => c.setW rd v).next)
  | _ => d

/-- SYNC_COMPLETE: every earlier effect has acted, since each acts in its own step. -/
def Dev.syncComplete (t : Nat) (d : Dev) : Dev :=
  if (d.triad t).wait = .sync then d.finish t Core.next else d

/-- May triad `t` take an event: at an instruction boundary, or in AWAIT? -/
def Dev.takesEvents (d : Dev) (t : Nat) : Bool :=
  (match (d.triad t).wait with | .none | .await _ _ _ => true | _ => false) && (d.triad t).core.ie

/-- EVENT_TAKEN: the lowest pending, enabled line with IE = 1. In replay an event is taken where it was taken before. -/
def Dev.eventTaken (t : Nat) (d : Dev) : Dev :=
  if !d.takesEvents t then d
  else match (d.triad t).replay with
    | _ :: r => match d.eventNext t with
      | some n => (d.modTriad t (fun x => { x with replay := r })).takeLine t n
      | none => d
    | [] => match d.eventDue t with
      | some n =>
        let at_ := (d.triad t).core.icnt.toNat
        let d := d.modTriad t (fun x => { x with effects := x.effects ++ [⟨ekEvent, n, at_⟩] })
        (d.consumeLine t n).takeLine t n
      | none => d

/-- COR_TIMER_FIRE: timer `k` of triad `t` at EPOCH + TPHS + j × TPER (R367). -/
def Dev.timerFire (t k : Nat) (d : Dev) : Dev :=
  let per := (d.rd (COR_TPER t k)).toNat
  let first := d.epoch.toNat + (d.rd (COR_TPHS t k)).toNat
  let due := d.inRun && per ≠ 0 && first ≤ d.now.toNat && (d.now.toNat - first) % per = 0 &&
    (Tab.getD 0 d.tk.notBefore (timerKey t k)).toNat ≤ d.now.toNat
  if !due then d
  else d.raiseWhere (fun t' w => t' = t && w.fld COR_EVSRC_KIND = 4 && w.fld COR_EVSRC_ARG0 % 4 = k)

/-! ## Meanings -/

/-- EVENT_TAKEN (R368): A pending, enabled event line is taken: EPC and ESTAT are saved and the core vectors. -/
def execEventTaken (t : Time) (k : Fin 4) (s : State) : Host.Outcome State Fault Refusal :=
  s.on t (fun d => d.eventTaken k)

/-- COR_TIMER_FIRE (R367): A triad timer reaches EPOCH + TPHS + j × TPER and fires its line. -/
def execCorTimerFire (t : Time) (k : Fin 4) (n : Fin 4) (s : State) : Host.Outcome State Fault Refusal :=
  s.on t (fun d => d.timerFire k n)

/-- AWAIT_WAKE (R375): A waiting AWAIT returns when a line in its masks becomes pending. -/
def execAwaitWake (t : Time) (k : Fin 4) (s : State) : Host.Outcome State Fault Refusal :=
  s.on t (fun d => d.awaitWake k)

/-- ASSURED_QUEUE_COMPLETE (R373): An assured QPOST or QTAKE completes once its journal record is committed and mirrored. -/
def execAssuredQueueComplete (t : Time) (k : Fin 4) (s : State) : Host.Outcome State Fault Refusal :=
  s.on t (fun d => d.assuredComplete k)

/-- SYNC_COMPLETE (R376): SYNC completes when every earlier effect has acted and every copy has reached it. -/
def execSyncComplete (t : Time) (k : Fin 4) (s : State) : Host.Outcome State Fault Refusal :=
  s.on t (fun d => d.syncComplete k)

/-- ADD (R365): Integer add of two registers. -/
def execAdd (k : Fin 4) (rd ra rb : Fin 32) (s : State) : Host.Outcome State Fault Refusal :=
  s.onNow (fun d => d.alu k (fun c => c.setW rd (c.getW ra + c.getW rb)))

/-- SUB (R365): Integer subtract of two registers. -/
def execSub (k : Fin 4) (rd ra rb : Fin 32) (s : State) : Host.Outcome State Fault Refusal :=
  s.onNow (fun d => d.alu k (fun c => c.setW rd (c.getW ra - c.getW rb)))

/-- AND (R365): Bitwise AND of two registers. -/
def execAnd (k : Fin 4) (rd ra rb : Fin 32) (s : State) : Host.Outcome State Fault Refusal :=
  s.onNow (fun d => d.alu k (fun c => c.setW rd (c.getW ra &&& c.getW rb)))

/-- OR (R365): Bitwise OR of two registers. -/
def execOr (k : Fin 4) (rd ra rb : Fin 32) (s : State) : Host.Outcome State Fault Refusal :=
  s.onNow (fun d => d.alu k (fun c => c.setW rd (c.getW ra ||| c.getW rb)))

/-- XOR (R365): Bitwise XOR of two registers. -/
def execXor (k : Fin 4) (rd ra rb : Fin 32) (s : State) : Host.Outcome State Fault Refusal :=
  s.onNow (fun d => d.alu k (fun c => c.setW rd (c.getW ra ^^^ c.getW rb)))

/-- SHL (R365): Shift left by rb bits 4:0. -/
def execShl (k : Fin 4) (rd ra rb : Fin 32) (s : State) : Host.Outcome State Fault Refusal :=
  s.onNow (fun d => d.alu k (fun c => c.setW rd (c.getW ra <<< shamt (c.getW rb))))

/-- SHR (R365): Logical shift right by rb bits 4:0. -/
def execShr (k : Fin 4) (rd ra rb : Fin 32) (s : State) : Host.Outcome State Fault Refusal :=
  s.onNow (fun d => d.alu k (fun c => c.setW rd (c.getW ra >>> shamt (c.getW rb))))

/-- SAR (R365): Arithmetic shift right by rb bits 4:0. -/
def execSar (k : Fin 4) (rd ra rb : Fin 32) (s : State) : Host.Outcome State Fault Refusal :=
  s.onNow (fun d => d.alu k (fun c => c.setW rd ((c.getW ra).sshiftRight (shamt (c.getW rb)))))

/-- ROT (R365): Rotate by rb bits 4:0. -/
def execRot (k : Fin 4) (rd ra rb : Fin 32) (s : State) : Host.Outcome State Fault Refusal :=
  s.onNow (fun d => d.alu k (fun c => c.setW rd ((c.getW ra).rotateLeft (shamt (c.getW rb)))))

/-- SLT (R365): Signed set-less-than, giving 0 or 1. -/
def execSlt (k : Fin 4) (rd ra rb : Fin 32) (s : State) : Host.Outcome State Fault Refusal :=
  s.onNow (fun d => d.alu k (fun c => c.setW rd (bool32 ((c.getW ra).slt (c.getW rb)))))

/-- SLTU (R365): Unsigned set-less-than, giving 0 or 1. -/
def execSltu (k : Fin 4) (rd ra rb : Fin 32) (s : State) : Host.Outcome State Fault Refusal :=
  s.onNow (fun d => d.alu k (fun c => c.setW rd (bool32 ((c.getW ra).ult (c.getW rb)))))

/-- MUL (R365): Low word of the product. -/
def execMul (k : Fin 4) (rd ra rb : Fin 32) (s : State) : Host.Outcome State Fault Refusal :=
  s.onNow (fun d => d.alu k (fun c => c.setW rd (c.getW ra * c.getW rb)))

/-- MULH (R365): High word of the signed 64-bit product. -/
def execMulh (k : Fin 4) (rd ra rb : Fin 32) (s : State) : Host.Outcome State Fault Refusal :=
  s.onNow (fun d => d.alu k (fun c => c.setW rd (mulHi (c.getW ra) (c.getW rb))))

/-- MULHU (R365): High word of the unsigned 64-bit product. -/
def execMulhu (k : Fin 4) (rd ra rb : Fin 32) (s : State) : Host.Outcome State Fault Refusal :=
  s.onNow (fun d => d.alu k (fun c => c.setW rd (mulHiU (c.getW ra) (c.getW rb))))

/-- DIV (R365): Signed divide rounding toward zero; a zero divisor takes line 4. -/
def execDiv (k : Fin 4) (rd ra rb : Fin 32) (s : State) : Host.Outcome State Fault Refusal :=
  s.onNow (fun d => d.divide k rd ra rb divS)

/-- DIVU (R365): Unsigned divide; a zero divisor takes line 4. -/
def execDivu (k : Fin 4) (rd ra rb : Fin 32) (s : State) : Host.Outcome State Fault Refusal :=
  s.onNow (fun d => d.divide k rd ra rb (· / ·))

/-- REM (R365): Signed remainder; a zero divisor takes line 4. -/
def execRem (k : Fin 4) (rd ra rb : Fin 32) (s : State) : Host.Outcome State Fault Refusal :=
  s.onNow (fun d => d.divide k rd ra rb remS)

/-- REMU (R365): Unsigned remainder; a zero divisor takes line 4. -/
def execRemu (k : Fin 4) (rd ra rb : Fin 32) (s : State) : Host.Outcome State Fault Refusal :=
  s.onNow (fun d => d.divide k rd ra rb (· % ·))

/-- ADDI (R365): Add of a sign-extended immediate. -/
def execAddi (k : Fin 4) (rd ra : Fin 32) (imm : BitVec 16) (s : State) : Host.Outcome State Fault Refusal :=
  s.onNow (fun d => d.alu k (fun c => c.setW rd (c.getW ra + sext16 imm)))

/-- ANDI (R365): AND with a zero-extended immediate. -/
def execAndi (k : Fin 4) (rd ra : Fin 32) (imm : BitVec 16) (s : State) : Host.Outcome State Fault Refusal :=
  s.onNow (fun d => d.alu k (fun c => c.setW rd (c.getW ra &&& zext16 imm)))

/-- ORI (R365): OR with a zero-extended immediate. -/
def execOri (k : Fin 4) (rd ra : Fin 32) (imm : BitVec 16) (s : State) : Host.Outcome State Fault Refusal :=
  s.onNow (fun d => d.alu k (fun c => c.setW rd (c.getW ra ||| zext16 imm)))

/-- XORI (R365): XOR with a zero-extended immediate. -/
def execXori (k : Fin 4) (rd ra : Fin 32) (imm : BitVec 16) (s : State) : Host.Outcome State Fault Refusal :=
  s.onNow (fun d => d.alu k (fun c => c.setW rd (c.getW ra ^^^ zext16 imm)))

/-- SHLI (R365): Shift left by an immediate. -/
def execShli (k : Fin 4) (rd ra : Fin 32) (imm : BitVec 16) (s : State) : Host.Outcome State Fault Refusal :=
  s.onNow (fun d => d.alu k (fun c => c.setW rd (c.getW ra <<< shamt (sext16 imm))))

/-- SHRI (R365): Logical shift right by an immediate. -/
def execShri (k : Fin 4) (rd ra : Fin 32) (imm : BitVec 16) (s : State) : Host.Outcome State Fault Refusal :=
  s.onNow (fun d => d.alu k (fun c => c.setW rd (c.getW ra >>> shamt (sext16 imm))))

/-- SARI (R365): Arithmetic shift right by an immediate. -/
def execSari (k : Fin 4) (rd ra : Fin 32) (imm : BitVec 16) (s : State) : Host.Outcome State Fault Refusal :=
  s.onNow (fun d => d.alu k (fun c => c.setW rd ((c.getW ra).sshiftRight (shamt (sext16 imm)))))

/-- SLTI (R365): Signed set-less-than against an immediate. -/
def execSlti (k : Fin 4) (rd ra : Fin 32) (imm : BitVec 16) (s : State) : Host.Outcome State Fault Refusal :=
  s.onNow (fun d => d.alu k (fun c => c.setW rd (bool32 ((c.getW ra).slt (sext16 imm)))))

/-- SLTIU (R365): Unsigned set-less-than against an immediate. -/
def execSltiu (k : Fin 4) (rd ra : Fin 32) (imm : BitVec 16) (s : State) : Host.Outcome State Fault Refusal :=
  s.onNow (fun d => d.alu k (fun c => c.setW rd (bool32 ((c.getW ra).ult (sext16 imm)))))

/-- LUI (R365): Sets rd to imm16 shifted left by 16. -/
def execLui (k : Fin 4) (rd : Fin 32) (imm : BitVec 16) (s : State) : Host.Outcome State Fault Refusal :=
  s.onNow (fun d => d.alu k (fun c => c.setW rd (zext16 imm <<< 16)))

/-- LDB (R364): Load of a sign-extended byte. -/
def execLdb (k : Fin 4) (rd ra : Fin 32) (disp : BitVec 16) (s : State) : Host.Outcome State Fault Refusal :=
  s.onNow (fun d => d.load k ra 1 disp (fun v c => c.setW rd ((BitVec.ofNat 8 v).signExtend 32)))

/-- LDBU (R364): Load of a zero-extended byte. -/
def execLdbu (k : Fin 4) (rd ra : Fin 32) (disp : BitVec 16) (s : State) : Host.Outcome State Fault Refusal :=
  s.onNow (fun d => d.load k ra 1 disp (fun v c => c.setW rd (BitVec.ofNat 32 v)))

/-- LDH (R364): Load of a sign-extended, aligned halfword. -/
def execLdh (k : Fin 4) (rd ra : Fin 32) (disp : BitVec 16) (s : State) : Host.Outcome State Fault Refusal :=
  s.onNow (fun d => d.load k ra 2 disp (fun v c => c.setW rd ((BitVec.ofNat 16 v).signExtend 32)))

/-- LDHU (R364): Load of a zero-extended, aligned halfword. -/
def execLdhu (k : Fin 4) (rd ra : Fin 32) (disp : BitVec 16) (s : State) : Host.Outcome State Fault Refusal :=
  s.onNow (fun d => d.load k ra 2 disp (fun v c => c.setW rd (BitVec.ofNat 32 v)))

/-- LDW (R364): Load of an aligned word, voted and logged when external. -/
def execLdw (k : Fin 4) (rd ra : Fin 32) (disp : BitVec 16) (s : State) : Host.Outcome State Fault Refusal :=
  s.onNow (fun d => d.load k ra 4 disp (fun v c => c.setW rd (BitVec.ofNat 32 v)))

/-- STB (R364): Voted store of a byte. -/
def execStb (k : Fin 4) (rs ra : Fin 32) (disp : BitVec 16) (s : State) : Host.Outcome State Fault Refusal :=
  s.onNow (fun d => d.store k ra 1 disp (fun c => c.getW rs))

/-- STH (R364): Voted store of an aligned halfword. -/
def execSth (k : Fin 4) (rs ra : Fin 32) (disp : BitVec 16) (s : State) : Host.Outcome State Fault Refusal :=
  s.onNow (fun d => d.store k ra 2 disp (fun c => c.getW rs))

/-- STW (R364): Voted store of an aligned word, including signal-table and mirror-region words. -/
def execStw (k : Fin 4) (rs ra : Fin 32) (disp : BitVec 16) (s : State) : Host.Outcome State Fault Refusal :=
  s.onNow (fun d => d.store k ra 4 disp (fun c => c.getW rs))

/-- FLW (R364): Load of a word into a floating register. -/
def execFlw (k : Fin 4) (rd ra : Fin 32) (disp : BitVec 16) (s : State) : Host.Outcome State Fault Refusal :=
  s.onNow (fun d => d.load k ra 4 disp (fun v c => c.setF rd (BitVec.ofNat 32 v)))

/-- FSW (R364): Store of a floating register as a word. -/
def execFsw (k : Fin 4) (rs ra : Fin 32) (disp : BitVec 16) (s : State) : Host.Outcome State Fault Refusal :=
  s.onNow (fun d => d.store k ra 4 disp (fun c => c.getF rs))

/-- SWAPW (R266): Atomic swap of a memory word as one effect. -/
def execSwapw (k : Fin 4) (rd ra rb : Fin 32) (s : State) : Host.Outcome State Fault Refusal :=
  s.onNow (fun d => d.atomic k rd ra rb (fun _ v => v))

/-- ADDW (R266): Atomic add to a memory word as one effect. -/
def execAddw (k : Fin 4) (rd ra rb : Fin 32) (s : State) : Host.Outcome State Fault Refusal :=
  s.onNow (fun d => d.atomic k rd ra rb (fun old v => old + v))

/-- BEQ (R363): Branch if equal. -/
def execBeq (k : Fin 4) (ra rb : Fin 32) (disp : BitVec 16) (s : State) : Host.Outcome State Fault Refusal :=
  s.onNow (fun d => d.branch k ra rb (fun x y => x == y) disp)

/-- BNE (R363): Branch if not equal. -/
def execBne (k : Fin 4) (ra rb : Fin 32) (disp : BitVec 16) (s : State) : Host.Outcome State Fault Refusal :=
  s.onNow (fun d => d.branch k ra rb (fun x y => x != y) disp)

/-- BLT (R363): Branch if signed less than. -/
def execBlt (k : Fin 4) (ra rb : Fin 32) (disp : BitVec 16) (s : State) : Host.Outcome State Fault Refusal :=
  s.onNow (fun d => d.branch k ra rb (fun x y => x.slt y) disp)

/-- BGE (R363): Branch if signed greater or equal. -/
def execBge (k : Fin 4) (ra rb : Fin 32) (disp : BitVec 16) (s : State) : Host.Outcome State Fault Refusal :=
  s.onNow (fun d => d.branch k ra rb (fun x y => !x.slt y) disp)

/-- BLTU (R363): Branch if unsigned less than. -/
def execBltu (k : Fin 4) (ra rb : Fin 32) (disp : BitVec 16) (s : State) : Host.Outcome State Fault Refusal :=
  s.onNow (fun d => d.branch k ra rb (fun x y => x.ult y) disp)

/-- BGEU (R363): Branch if unsigned greater or equal. -/
def execBgeu (k : Fin 4) (ra rb : Fin 32) (disp : BitVec 16) (s : State) : Host.Outcome State Fault Refusal :=
  s.onNow (fun d => d.branch k ra rb (fun x y => !x.ult y) disp)

/-- J (R363): Jump to pc + 4 × disp26. -/
def execJ (k : Fin 4) (disp : BitVec 26) (s : State) : Host.Outcome State Fault Refusal :=
  s.onNow (fun d => d.instr k (fun d => d.finish k (fun c => c.goTo (c.target26 disp))))

/-- JAL (R363): Jump and write pc + 4 to w1. -/
def execJal (k : Fin 4) (disp : BitVec 26) (s : State) : Host.Outcome State Fault Refusal :=
  s.onNow (fun d => d.instr k (fun d => d.finish k (fun c => (c.setW 1 (c.pc + 4)).goTo (c.target26 disp))))

/-- JALR (R363): Jump to ra + imm16, writing pc + 4 to rd. -/
def execJalr (k : Fin 4) (rd ra : Fin 32) (imm : BitVec 16) (s : State) : Host.Outcome State Fault Refusal :=
  s.onNow (fun d => d.instr k (fun d => d.finish k (fun c => (c.setW rd (c.pc + 4)).goTo ((c.getW ra + sext16 imm) &&& 0xFFFFFFFC#32))))

/-- FADD (R372): Binary32 add under R154 rounding and flushing. -/
def execFadd (k : Fin 4) (rd ra rb : Fin 32) (s : State) : Host.Outcome State Fault Refusal :=
  s.onNow (fun d => d.fop k rd (fun c => fAdd (c.getF ra) (c.getF rb)))

/-- FSUB (R372): Binary32 subtract. -/
def execFsub (k : Fin 4) (rd ra rb : Fin 32) (s : State) : Host.Outcome State Fault Refusal :=
  s.onNow (fun d => d.fop k rd (fun c => fSub (c.getF ra) (c.getF rb)))

/-- FMUL (R372): Binary32 multiply. -/
def execFmul (k : Fin 4) (rd ra rb : Fin 32) (s : State) : Host.Outcome State Fault Refusal :=
  s.onNow (fun d => d.fop k rd (fun c => fMul (c.getF ra) (c.getF rb)))

/-- FDIV (R372): Correctly rounded binary32 divide. -/
def execFdiv (k : Fin 4) (rd ra rb : Fin 32) (s : State) : Host.Outcome State Fault Refusal :=
  s.onNow (fun d => d.fop k rd (fun c => fDiv (c.getF ra) (c.getF rb)))

/-- FSQRT (R372): Correctly rounded binary32 square root. -/
def execFsqrt (k : Fin 4) (rd ra : Fin 32) (s : State) : Host.Outcome State Fault Refusal :=
  s.onNow (fun d => d.fop k rd (fun c => fSqrt (c.getF ra)))

/-- FMIN (R372): Binary32 minimum. -/
def execFmin (k : Fin 4) (rd ra rb : Fin 32) (s : State) : Host.Outcome State Fault Refusal :=
  s.onNow (fun d => d.fop k rd (fun c => fMin (c.getF ra) (c.getF rb)))

/-- FMAX (R372): Binary32 maximum. -/
def execFmax (k : Fin 4) (rd ra rb : Fin 32) (s : State) : Host.Outcome State Fault Refusal :=
  s.onNow (fun d => d.fop k rd (fun c => fMax (c.getF ra) (c.getF rb)))

/-- FEQ (R372): Floating compare equal, 0 for any NaN. -/
def execFeq (k : Fin 4) (rd ra rb : Fin 32) (s : State) : Host.Outcome State Fault Refusal :=
  s.onNow (fun d => d.alu k (fun c => c.setW rd (bool32 (fEq (c.getF ra) (c.getF rb)))))

/-- FLT (R372): Floating compare less than, 0 for any NaN. -/
def execFlt (k : Fin 4) (rd ra rb : Fin 32) (s : State) : Host.Outcome State Fault Refusal :=
  s.onNow (fun d => d.alu k (fun c => c.setW rd (bool32 (fLt (c.getF ra) (c.getF rb)))))

/-- FLE (R372): Floating compare less or equal, 0 for any NaN. -/
def execFle (k : Fin 4) (rd ra rb : Fin 32) (s : State) : Host.Outcome State Fault Refusal :=
  s.onNow (fun d => d.alu k (fun c => c.setW rd (bool32 (fLe (c.getF ra) (c.getF rb)))))

/-- FCVTWS (R372): Binary32 to integer, ties to even, saturating; NaN gives 0. -/
def execFcvtws (k : Fin 4) (rd ra : Fin 32) (s : State) : Host.Outcome State Fault Refusal :=
  s.onNow (fun d => d.alu k (fun c => c.setW rd (fToInt32 (c.getF ra))))

/-- FCVTSW (R372): Integer to binary32. -/
def execFcvtsw (k : Fin 4) (rd ra : Fin 32) (s : State) : Host.Outcome State Fault Refusal :=
  s.onNow (fun d => d.fop k rd (fun c => fOfInt (c.getW ra).toInt))

/-- FMVWS (R372): Moves floating-register bits to a general register. -/
def execFmvws (k : Fin 4) (rd ra : Fin 32) (s : State) : Host.Outcome State Fault Refusal :=
  s.onNow (fun d => d.alu k (fun c => c.setW rd (c.getF ra)))

/-- FMVSW (R372): Moves general-register bits to a floating register. -/
def execFmvsw (k : Fin 4) (rd ra : Fin 32) (s : State) : Host.Outcome State Fault Refusal :=
  s.onNow (fun d => d.fop k rd (fun c => c.getW ra))

/-- FABS (R372): Binary32 absolute value. -/
def execFabs (k : Fin 4) (rd ra : Fin 32) (s : State) : Host.Outcome State Fault Refusal :=
  s.onNow (fun d => d.fop k rd (fun c => fFlush (fAbs (c.getF ra))))

/-- FNEG (R372): Binary32 negation. -/
def execFneg (k : Fin 4) (rd ra : Fin 32) (s : State) : Host.Outcome State Fault Refusal :=
  s.onNow (fun d => d.fop k rd (fun c => fFlush (fNeg (c.getF ra))))

/-- TRAP (R368): Takes line 3 with the 10-bit code in EADDR. -/
def execTrap (k : Fin 4) (code : BitVec 10) (s : State) : Host.Outcome State Fault Refusal :=
  s.onNow (fun d => d.trap k code)

/-- RETE (R368): Restores STATUS from ESTAT and continues at EPC; privileged. -/
def execRete (k : Fin 4) (s : State) : Host.Outcome State Fault Refusal :=
  s.onNow (fun d => d.rete k)

/-- MFSR (R365): Reads a special register, privileged except ICNT, ICNTH and TRIAD. -/
def execMfsr (k : Fin 4) (rd sr : Fin 32) (s : State) : Host.Outcome State Fault Refusal :=
  s.onNow (fun d => d.mfsr k rd sr)

/-- MTSR (R365): Writes a special register; privileged; STATUS changes IE and FH only. -/
def execMtsr (k : Fin 4) (ra sr : Fin 32) (s : State) : Host.Outcome State Fault Refusal :=
  s.onNow (fun d => d.mtsr k ra sr)

/-- SIGRD (R339): Reads a signal's VALUE and STAMP from one instant. -/
def execSigrd (k : Fin 4) (rd ra : Fin 32) (s : State) : Host.Outcome State Fault Refusal :=
  s.onNow (fun d => d.sigrd k rd ra)

/-- SIGWR (R339): Writes a signal's VALUE with the triad as WRITER. -/
def execSigwr (k : Fin 4) (rd ra : Fin 32) (s : State) : Host.Outcome State Fault Refusal :=
  s.onNow (fun d => d.sigwr k rd ra)

/-- QPOST (R373): Posts a descriptor image to a queue and returns ACCEPT, LOCAL, FULL or BADQ. -/
def execQpost (k : Fin 4) (rd ra rb : Fin 32) (s : State) : Host.Outcome State Fault Refusal :=
  s.onNow (fun d => d.qpost k rd ra rb)

/-- QTAKE (R374): Copies and removes a queue's head descriptor, or returns EMPTY or BADQ. -/
def execQtake (k : Fin 4) (rd ra rb : Fin 32) (s : State) : Host.Outcome State Fault Refusal :=
  s.onNow (fun d => d.qtake k rd ra rb)

/-- AWAIT (R375): Returns the lowest pending line in its masks, or waits for one. -/
def execAwait (k : Fin 4) (rd ra rb : Fin 32) (s : State) : Host.Outcome State Fault Refusal :=
  s.onNow (fun d => d.await k rd ra rb)

/-- CKPT (R268): Requests a triad checkpoint. -/
def execCkpt (k : Fin 4) (minority : Option (Fin 3)) (split : Bool) (s : State) : Host.Outcome State Fault Refusal :=
  s.onNow (fun d => d.ckpt k minority split)

/-- SYNC (R376): Waits until all earlier effects have acted and every copy has arrived. -/
def execSync (k : Fin 4) (s : State) : Host.Outcome State Fault Refusal :=
  s.onNow (fun d => d.sync k)

/-- UNDEFINED_ENCODING (R365): A core executes a word with an unassigned opcode, fn, SUB or register field and takes the illegal-instruction line with ECAUSE 0x4. -/
def execUndefinedEncoding (k : Fin 4) (s : State) : Host.Outcome State Fault Refusal :=
  s.onNow (fun d => d.instr k (fun d => d.illegal k ecUndefined))

end Sys2Proof.Machine
end

