-- ==== Sys2Proof/Machine/Dispatch.lean ====
section
/-! DEFINITION. What each command does: one arm per constructor. -/

namespace Sys2Proof.Machine

def exec (i : Instr) (s : State) : Host.Outcome State Fault Refusal :=
  match i with
  | .registerWrite t triad a v => Sys2Proof.Machine.execRegisterWrite t triad a v s
  | .unmappedAccess t triad a write => Sys2Proof.Machine.execUnmappedAccess t triad a write s
  | .refQualified t dev => Sys2Proof.Machine.execRefQualified t dev s
  | .refQualTimeout t dev => Sys2Proof.Machine.execRefQualTimeout t dev s
  | .refFail t noEdge dev => Sys2Proof.Machine.execRefFail t noEdge dev s
  | .stimeLoRead t triad => Sys2Proof.Machine.execStimeLoRead t triad s
  | .slotFire t n upset pads => Sys2Proof.Machine.execSlotFire t n upset pads s
  | .slotenWrite t triad hi v => Sys2Proof.Machine.execSlotenWrite t triad hi v s
  | .vcoreScalingStart t => Sys2Proof.Machine.execVcoreScalingStart t s
  | .vcoreWindowEnd t => Sys2Proof.Machine.execVcoreWindowEnd t s
  | .rtcOscFail t => Sys2Proof.Machine.execRtcOscFail t s
  | .vbkupLoss t => Sys2Proof.Machine.execVbkupLoss t s
  | .rtcSetsecWrite t sid v audits => Sys2Proof.Machine.execRtcSetsecWrite t sid v audits s
  | .rtcLoad t => Sys2Proof.Machine.execRtcLoad t s
  | .rtcCapGo t v => Sys2Proof.Machine.execRtcCapGo t v s
  | .rtcCaptureDone t edge => Sys2Proof.Machine.execRtcCaptureDone t edge s
  | .rtcSubRead t triad => Sys2Proof.Machine.execRtcSubRead t triad s
  | .feedWired t f va vb => Sys2Proof.Machine.execFeedWired t f va vb s
  | .feedsValid t va vb => Sys2Proof.Machine.execFeedsValid t va vb s
  | .feedMissing t f va vb => Sys2Proof.Machine.execFeedMissing t f va vb s
  | .porRelease t cycles va vb => Sys2Proof.Machine.execPorRelease t cycles va vb s
  | .flashProbe t mode => Sys2Proof.Machine.execFlashProbe t mode s
  | .headerCheck t okA okB => Sys2Proof.Machine.execHeaderCheck t okA okB s
  | .bodyReadDone t => Sys2Proof.Machine.execBodyReadDone t s
  | .signatureVerify t => Sys2Proof.Machine.execSignatureVerify t s
  | .firstPass t => Sys2Proof.Machine.execFirstPass t s
  | .secondPass t side okA okB => Sys2Proof.Machine.execSecondPass t side okA okB s
  | .thirdPass t => Sys2Proof.Machine.execThirdPass t s
  | .startCalibration t fails => Sys2Proof.Machine.execStartCalibration t fails s
  | .journalRecovery t bad => Sys2Proof.Machine.execJournalRecovery t bad s
  | .configLock t => Sys2Proof.Machine.execConfigLock t s
  | .startResume t => Sys2Proof.Machine.execStartResume t s
  | .run t triad => Sys2Proof.Machine.execRun t triad s
  | .sysCtrlRestart t triad key => Sys2Proof.Machine.execSysCtrlRestart t triad key s
  | .slotWriteCheck t => Sys2Proof.Machine.execSlotWriteCheck t s
  | .legParityError t n => Sys2Proof.Machine.execLegParityError t n s
  | .legShaWrite t triad n b v => Sys2Proof.Machine.execLegShaWrite t triad n b v s
  | .legShiftWrite t triad n v => Sys2Proof.Machine.execLegShiftWrite t triad n v s
  | .lineCalDone t n gl resid mono span => Sys2Proof.Machine.execLineCalDone t n gl resid mono span s
  | .calAged t n gl => Sys2Proof.Machine.execCalAged t n gl s
  | .lineAgeLimit t n gl => Sys2Proof.Machine.execLineAgeLimit t n gl s
  | .glPoll t n => Sys2Proof.Machine.execGlPoll t n s
  | .glResponse t n bytes late => Sys2Proof.Machine.execGlResponse t n bytes late s
  | .glNoack t n => Sys2Proof.Machine.execGlNoack t n s
  | .glFaultPull t n => Sys2Proof.Machine.execGlFaultPull t n s
  | .enableSequenceDone t n errGH errGL => Sys2Proof.Machine.execEnableSequenceDone t n errGH errGL s
  | .glContention t n => Sys2Proof.Machine.execGlContention t n s
  | .glRequest t triad n v => Sys2Proof.Machine.execGlRequest t triad n v s
  | .adcSpareCalDone t ofs gain inl => Sys2Proof.Machine.execAdcSpareCalDone t ofs gain inl s
  | .adcSwapCheck t k outgoing incoming => Sys2Proof.Machine.execAdcSwapCheck t k outgoing incoming s
  | .swapDeferred t k => Sys2Proof.Machine.execSwapDeferred t k s
  | .adcCalAged t n => Sys2Proof.Machine.execAdcCalAged t n s
  | .adcSeqgoWrite t v => Sys2Proof.Machine.execAdcSeqgoWrite t v s
  | .adcGroupStart t q => Sys2Proof.Machine.execAdcGroupStart t q s
  | .adcConversionDone t k nv high => Sys2Proof.Machine.execAdcConversionDone t k nv high s
  | .adcUrgreqWrite t triad k v => Sys2Proof.Machine.execAdcUrgreqWrite t triad k v s
  | .adcUrgentStart t k => Sys2Proof.Machine.execAdcUrgentStart t k s
  | .adcPowerDown t n => Sys2Proof.Machine.execAdcPowerDown t n s
  | .adcWake t n => Sys2Proof.Machine.execAdcWake t n s
  | .dsmWindowResult t n y => Sys2Proof.Machine.execDsmWindowResult t n y s
  | .dsmContOutput t n y => Sys2Proof.Machine.execDsmContOutput t n y s
  | .dsmFastOutput t n y => Sys2Proof.Machine.execDsmFastOutput t n y s
  | .dsmStuck t n stuck => Sys2Proof.Machine.execDsmStuck t n stuck s
  | .cmpTrip t n news => Sys2Proof.Machine.execCmpTrip t n news s
  | .cmpNormal t n news => Sys2Proof.Machine.execCmpNormal t n news s
  | .cmpTestTick t n failed => Sys2Proof.Machine.execCmpTestTick t n failed s
  | .cmpDacReread t n err => Sys2Proof.Machine.execCmpDacReread t n err s
  | .cmpDegradedRead t n code => Sys2Proof.Machine.execCmpDegradedRead t n code s
  | .tripInAssert t inst => Sys2Proof.Machine.execTripInAssert t inst s
  | .trpSwtripWrite t triad v => Sys2Proof.Machine.execTrpSwtripWrite t triad v s
  | .trpRelWrite t triad v => Sys2Proof.Machine.execTrpRelWrite t triad v s
  | .autoRelease t g => Sys2Proof.Machine.execAutoRelease t g s
  | .cenGoWrite t p v => Sys2Proof.Machine.execCenGoWrite t p v s
  | .cenActivationStart t inst differ => Sys2Proof.Machine.execCenActivationStart t inst differ s
  | .cenAgreement t inst sigDiffer => Sys2Proof.Machine.execCenAgreement t inst sigDiffer s
  | .latentReexecution t p same => Sys2Proof.Machine.execLatentReexecution t p same s
  | .cenRestartDone t p known => Sys2Proof.Machine.execCenRestartDone t p known s
  | .cenDeadlineMiss t inst => Sys2Proof.Machine.execCenDeadlineMiss t inst s
  | .cenSelftest t p fail0 fail1 => Sys2Proof.Machine.execCenSelftest t p fail0 fail1 s
  | .selftestDeferred t p => Sys2Proof.Machine.execSelftestDeferred t p s
  | .axuForwardPass t u => Sys2Proof.Machine.execAxuForwardPass t u s
  | .axuInverseStage t u => Sys2Proof.Machine.execAxuInverseStage t u s
  | .measureDone t u => Sys2Proof.Machine.execMeasureDone t u s
  | .polarityTestDone t u => Sys2Proof.Machine.execPolarityTestDone t u s
  | .reacquireAttempt t u => Sys2Proof.Machine.execReacquireAttempt t u s
  | .trackSecond t u => Sys2Proof.Machine.execTrackSecond t u s
  | .hallEdge t u n => Sys2Proof.Machine.execHallEdge t u n s
  | .hallTimeout t u => Sys2Proof.Machine.execHallTimeout t u s
  | .sentFrame t m sync status nibs crc tf => Sys2Proof.Machine.execSentFrame t m sync status nibs crc tf s
  | .gioEdge t n high stamp => Sys2Proof.Machine.execGioEdge t n high stamp s
  | .cvuForwardPass t u => Sys2Proof.Machine.execCvuForwardPass t u s
  | .cvuInverseStage t u => Sys2Proof.Machine.execCvuInverseStage t u s
  | .cvuPhaseDecision t u => Sys2Proof.Machine.execCvuPhaseDecision t u s
  | .cvuCmPulseEnd t u p => Sys2Proof.Machine.execCvuCmPulseEnd t u p s
  | .gridLost t u => Sys2Proof.Machine.execGridLost t u s
  | .cvuUnpark t u => Sys2Proof.Machine.execCvuUnpark t u s
  | .chgStep t c => Sys2Proof.Machine.execChgStep t c s
  | .chgStart t c => Sys2Proof.Machine.execChgStart t c s
  | .chgStop t c => Sys2Proof.Machine.execChgStop t c s
  | .chgAck t sid c => Sys2Proof.Machine.execChgAck t sid c s
  | .handoverComplete t c => Sys2Proof.Machine.execHandoverComplete t c s
  | .mpptUpdate t c => Sys2Proof.Machine.execMpptUpdate t c s
  | .lampFault t c short => Sys2Proof.Machine.execLampFault t c short s
  | .lampRetry t c => Sys2Proof.Machine.execLampRetry t c s
  | .chgLampWrite t triad c v => Sys2Proof.Machine.execChgLampWrite t triad c v s
  | .triadMinority t k c => Sys2Proof.Machine.execTriadMinority t k c s
  | .triadResync t k => Sys2Proof.Machine.execTriadResync t k s
  | .triadCheckpoint t k minority split => Sys2Proof.Machine.execTriadCheckpoint t k minority split s
  | .triadRestart t k kat => Sys2Proof.Machine.execTriadRestart t k kat s
  | .replayDone t k => Sys2Proof.Machine.execReplayDone t k s
  | .gustDecay t => Sys2Proof.Machine.execGustDecay t s
  | .culletPersist t => Sys2Proof.Machine.execCulletPersist t s
  | .fncmdEnter t triad all f st cause => Sys2Proof.Machine.execFncmdEnter t triad all f st cause s
  | .fncmdEnable t triad all f => Sys2Proof.Machine.execFncmdEnable t triad all f s
  | .fncmdDisable t triad all f => Sys2Proof.Machine.execFncmdDisable t triad all f s
  | .fncmdAck t triad all f => Sys2Proof.Machine.execFncmdAck t triad all f s
  | .fnreqEnable t f st => Sys2Proof.Machine.execFnreqEnable t f st s
  | .fnreqDisable t f st => Sys2Proof.Machine.execFnreqDisable t f st s
  | .fnreqSafe t f st => Sys2Proof.Machine.execFnreqSafe t f st s
  | .brakeTimeout t f => Sys2Proof.Machine.execBrakeTimeout t f s
  | .t0Kick t triad v => Sys2Proof.Machine.execT0Kick t triad v s
  | .t0KickMissed t => Sys2Proof.Machine.execT0KickMissed t s
  | .wdgKick t triad n v => Sys2Proof.Machine.execWdgKick t triad n v s
  | .wdgMiss t n => Sys2Proof.Machine.execWdgMiss t n s
  | .safeqRead t => Sys2Proof.Machine.execSafeqRead t s
  | .tokenWire t => Sys2Proof.Machine.execTokenWire t s
  | .peerTokenLost t => Sys2Proof.Machine.execPeerTokenLost t s
  | .tokenRace t => Sys2Proof.Machine.execTokenRace t s
  | .hbSend t => Sys2Proof.Machine.execHbSend t s
  | .hbReceived t seq role tok stime jepoch jpos sys warn => Sys2Proof.Machine.execHbReceived t seq role tok stime jepoch jpos sys warn s
  | .linkAck t upTo => Sys2Proof.Machine.execLinkAck t upTo s
  | .linkResend t => Sys2Proof.Machine.execLinkResend t s
  | .linkTrained t lanes latency => Sys2Proof.Machine.execLinkTrained t lanes latency s
  | .linkRetrain t => Sys2Proof.Machine.execLinkRetrain t s
  | .laneDegraded t lane errs => Sys2Proof.Machine.execLaneDegraded t lane errs s
  | .retrain t triad v => Sys2Proof.Machine.execRetrain t triad v s
  | .helloReceived t seq dig0 dig1 epoch side jepoch jpos role sys tkEpoch => Sys2Proof.Machine.execHelloReceived t seq dig0 dig1 epoch side jepoch jpos role sys tkEpoch s
  | .soloClaim t => Sys2Proof.Machine.execSoloClaim t s
  | .fnstateReceived t seq f v => Sys2Proof.Machine.execFnstateReceived t seq f v s
  | .jrnReceived t seq jpos kind que eseq body => Sys2Proof.Machine.execJrnReceived t seq jpos kind que eseq body s
  | .jackReceived t seq jp => Sys2Proof.Machine.execJackReceived t seq jp s
  | .jackTimeout t => Sys2Proof.Machine.execJackTimeout t s
  | .mirReceived t seq addr bytes => Sys2Proof.Machine.execMirReceived t seq addr bytes s
  | .mirendReceived t seq sc good blk => Sys2Proof.Machine.execMirendReceived t seq sc good blk s
  | .mirrorApplied t => Sys2Proof.Machine.execMirrorApplied t s
  | .appliedReceived t seq sc => Sys2Proof.Machine.execAppliedReceived t seq sc s
  | .releaseReceived t seq => Sys2Proof.Machine.execReleaseReceived t seq s
  | .hbLoss t => Sys2Proof.Machine.execHbLoss t s
  | .yield t triad v => Sys2Proof.Machine.execYield t triad v s
  | .linkQueueFrame t seq q fr => Sys2Proof.Machine.execLinkQueueFrame t seq q fr s
  | .busFrameReceived t n fr sof => Sys2Proof.Machine.execBusFrameReceived t n fr sof s
  | .busTxStart t n sof => Sys2Proof.Machine.execBusTxStart t n sof s
  | .arbitrationLost t n => Sys2Proof.Machine.execArbitrationLost t n s
  | .busTxComplete t n tdc => Sys2Proof.Machine.execBusTxComplete t n tdc s
  | .busTxError t n code dataPhase exempt => Sys2Proof.Machine.execBusTxError t n code dataPhase exempt s
  | .busRecovered t n => Sys2Proof.Machine.execBusRecovered t n s
  | .busRecover t n v => Sys2Proof.Machine.execBusRecover t n v s
  | .abdDwell t n => Sys2Proof.Machine.execAbdDwell t n s
  | .queExpired t q => Sys2Proof.Machine.execQueExpired t q s
  | .queCancel t q v => Sys2Proof.Machine.execQueCancel t q v s
  | .queIndexWrite t triad q rdIx v => Sys2Proof.Machine.execQueIndexWrite t triad q rdIx v s
  | .sigMaptx t v => Sys2Proof.Machine.execSigMaptx t v s
  | .publishRound t => Sys2Proof.Machine.execPublishRound t s
  | .publishReceived t q => Sys2Proof.Machine.execPublishReceived t q s
  | .commandReceived t q => Sys2Proof.Machine.execCommandReceived t q s
  | .replyReceived t q => Sys2Proof.Machine.execReplyReceived t q s
  | .replytoExpired t q => Sys2Proof.Machine.execReplytoExpired t q s
  | .domainHeartbeat t => Sys2Proof.Machine.execDomainHeartbeat t s
  | .heartbeatReceived t q => Sys2Proof.Machine.execHeartbeatReceived t q s
  | .aggregateSend t => Sys2Proof.Machine.execAggregateSend t s
  | .aggregateReceived t q => Sys2Proof.Machine.execAggregateReceived t q s
  | .announceSend t => Sys2Proof.Machine.execAnnounceSend t s
  | .announceReceived t q => Sys2Proof.Machine.execAnnounceReceived t q s
  | .rootSilent t => Sys2Proof.Machine.execRootSilent t s
  | .journalCommit t => Sys2Proof.Machine.execJournalCommit t s
  | .eventTaken t k => Sys2Proof.Machine.execEventTaken t k s
  | .corTimerFire t k n => Sys2Proof.Machine.execCorTimerFire t k n s
  | .corSwev t w v => Sys2Proof.Machine.execCorSwev t w v s
  | .awaitWake t k => Sys2Proof.Machine.execAwaitWake t k s
  | .assuredQueueComplete t k => Sys2Proof.Machine.execAssuredQueueComplete t k s
  | .syncComplete t k => Sys2Proof.Machine.execSyncComplete t k s
  | .add k rd ra rb => Sys2Proof.Machine.execAdd k rd ra rb s
  | .sub k rd ra rb => Sys2Proof.Machine.execSub k rd ra rb s
  | .and_ k rd ra rb => Sys2Proof.Machine.execAnd k rd ra rb s
  | .or_ k rd ra rb => Sys2Proof.Machine.execOr k rd ra rb s
  | .xor_ k rd ra rb => Sys2Proof.Machine.execXor k rd ra rb s
  | .shl k rd ra rb => Sys2Proof.Machine.execShl k rd ra rb s
  | .shr k rd ra rb => Sys2Proof.Machine.execShr k rd ra rb s
  | .sar k rd ra rb => Sys2Proof.Machine.execSar k rd ra rb s
  | .rot k rd ra rb => Sys2Proof.Machine.execRot k rd ra rb s
  | .slt k rd ra rb => Sys2Proof.Machine.execSlt k rd ra rb s
  | .sltu k rd ra rb => Sys2Proof.Machine.execSltu k rd ra rb s
  | .mul k rd ra rb => Sys2Proof.Machine.execMul k rd ra rb s
  | .mulh k rd ra rb => Sys2Proof.Machine.execMulh k rd ra rb s
  | .mulhu k rd ra rb => Sys2Proof.Machine.execMulhu k rd ra rb s
  | .div k rd ra rb => Sys2Proof.Machine.execDiv k rd ra rb s
  | .divu k rd ra rb => Sys2Proof.Machine.execDivu k rd ra rb s
  | .rem k rd ra rb => Sys2Proof.Machine.execRem k rd ra rb s
  | .remu k rd ra rb => Sys2Proof.Machine.execRemu k rd ra rb s
  | .addi k rd ra imm => Sys2Proof.Machine.execAddi k rd ra imm s
  | .andi k rd ra imm => Sys2Proof.Machine.execAndi k rd ra imm s
  | .ori k rd ra imm => Sys2Proof.Machine.execOri k rd ra imm s
  | .xori k rd ra imm => Sys2Proof.Machine.execXori k rd ra imm s
  | .shli k rd ra imm => Sys2Proof.Machine.execShli k rd ra imm s
  | .shri k rd ra imm => Sys2Proof.Machine.execShri k rd ra imm s
  | .sari k rd ra imm => Sys2Proof.Machine.execSari k rd ra imm s
  | .slti k rd ra imm => Sys2Proof.Machine.execSlti k rd ra imm s
  | .sltiu k rd ra imm => Sys2Proof.Machine.execSltiu k rd ra imm s
  | .lui k rd imm => Sys2Proof.Machine.execLui k rd imm s
  | .ldb k rd ra disp => Sys2Proof.Machine.execLdb k rd ra disp s
  | .ldbu k rd ra disp => Sys2Proof.Machine.execLdbu k rd ra disp s
  | .ldh k rd ra disp => Sys2Proof.Machine.execLdh k rd ra disp s
  | .ldhu k rd ra disp => Sys2Proof.Machine.execLdhu k rd ra disp s
  | .ldw k rd ra disp => Sys2Proof.Machine.execLdw k rd ra disp s
  | .stb k rs ra disp => Sys2Proof.Machine.execStb k rs ra disp s
  | .sth k rs ra disp => Sys2Proof.Machine.execSth k rs ra disp s
  | .stw k rs ra disp => Sys2Proof.Machine.execStw k rs ra disp s
  | .flw k rd ra disp => Sys2Proof.Machine.execFlw k rd ra disp s
  | .fsw k rs ra disp => Sys2Proof.Machine.execFsw k rs ra disp s
  | .swapw k rd ra rb => Sys2Proof.Machine.execSwapw k rd ra rb s
  | .addw k rd ra rb => Sys2Proof.Machine.execAddw k rd ra rb s
  | .beq k ra rb disp => Sys2Proof.Machine.execBeq k ra rb disp s
  | .bne k ra rb disp => Sys2Proof.Machine.execBne k ra rb disp s
  | .blt k ra rb disp => Sys2Proof.Machine.execBlt k ra rb disp s
  | .bge k ra rb disp => Sys2Proof.Machine.execBge k ra rb disp s
  | .bltu k ra rb disp => Sys2Proof.Machine.execBltu k ra rb disp s
  | .bgeu k ra rb disp => Sys2Proof.Machine.execBgeu k ra rb disp s
  | .j k disp => Sys2Proof.Machine.execJ k disp s
  | .jal k disp => Sys2Proof.Machine.execJal k disp s
  | .jalr k rd ra imm => Sys2Proof.Machine.execJalr k rd ra imm s
  | .fadd k rd ra rb => Sys2Proof.Machine.execFadd k rd ra rb s
  | .fsub k rd ra rb => Sys2Proof.Machine.execFsub k rd ra rb s
  | .fmul k rd ra rb => Sys2Proof.Machine.execFmul k rd ra rb s
  | .fdiv k rd ra rb => Sys2Proof.Machine.execFdiv k rd ra rb s
  | .fsqrt k rd ra => Sys2Proof.Machine.execFsqrt k rd ra s
  | .fmin k rd ra rb => Sys2Proof.Machine.execFmin k rd ra rb s
  | .fmax k rd ra rb => Sys2Proof.Machine.execFmax k rd ra rb s
  | .feq k rd ra rb => Sys2Proof.Machine.execFeq k rd ra rb s
  | .flt k rd ra rb => Sys2Proof.Machine.execFlt k rd ra rb s
  | .fle k rd ra rb => Sys2Proof.Machine.execFle k rd ra rb s
  | .fcvtws k rd ra => Sys2Proof.Machine.execFcvtws k rd ra s
  | .fcvtsw k rd ra => Sys2Proof.Machine.execFcvtsw k rd ra s
  | .fmvws k rd ra => Sys2Proof.Machine.execFmvws k rd ra s
  | .fmvsw k rd ra => Sys2Proof.Machine.execFmvsw k rd ra s
  | .fabs k rd ra => Sys2Proof.Machine.execFabs k rd ra s
  | .fneg k rd ra => Sys2Proof.Machine.execFneg k rd ra s
  | .trap k code => Sys2Proof.Machine.execTrap k code s
  | .rete k => Sys2Proof.Machine.execRete k s
  | .mfsr k rd sr => Sys2Proof.Machine.execMfsr k rd sr s
  | .mtsr k ra sr => Sys2Proof.Machine.execMtsr k ra sr s
  | .sigrd k rd ra => Sys2Proof.Machine.execSigrd k rd ra s
  | .sigwr k rd ra => Sys2Proof.Machine.execSigwr k rd ra s
  | .qpost k rd ra rb => Sys2Proof.Machine.execQpost k rd ra rb s
  | .qtake k rd ra rb => Sys2Proof.Machine.execQtake k rd ra rb s
  | .await k rd ra rb => Sys2Proof.Machine.execAwait k rd ra rb s
  | .ckpt k minority split => Sys2Proof.Machine.execCkpt k minority split s
  | .sync k => Sys2Proof.Machine.execSync k s
  | .thmDieSample t rs => Sys2Proof.Machine.execThmDieSample t rs s
  | .thmNtcSample t n r => Sys2Proof.Machine.execThmNtcSample t n r s
  | .kRise t => Sys2Proof.Machine.execKRise t s
  | .marverRound t reads us => Sys2Proof.Machine.execMarverRound t reads us s
  | .marverLate t => Sys2Proof.Machine.execMarverLate t s
  | .scrubCorrection t m addr => Sys2Proof.Machine.execScrubCorrection t m addr s
  | .memUncorrectable t m addr k => Sys2Proof.Machine.execMemUncorrectable t m addr k s
  | .wearCheck t => Sys2Proof.Machine.execWearCheck t s
  | .bkgReqAdcCal t triad target => Sys2Proof.Machine.execBkgReqAdcCal t triad target s
  | .bkgReqCmpCheck t triad target read => Sys2Proof.Machine.execBkgReqCmpCheck t triad target read s
  | .bkgReqPadCheck t triad target => Sys2Proof.Machine.execBkgReqPadCheck t triad target s
  | .bkgReqCenSelftest t triad target => Sys2Proof.Machine.execBkgReqCenSelftest t triad target s
  | .bkgReqCoreSelftest t triad target => Sys2Proof.Machine.execBkgReqCoreSelftest t triad target s
  | .bkgReqScrub t triad target => Sys2Proof.Machine.execBkgReqScrub t triad target s
  | .bkgReqMarver t triad target => Sys2Proof.Machine.execBkgReqMarver t triad target s
  | .bkgReqDeferred t triad => Sys2Proof.Machine.execBkgReqDeferred t triad s
  | .coreSelftestPeriodic t => Sys2Proof.Machine.execCoreSelftestPeriodic t s
  | .coreSelftestDone t c pass => Sys2Proof.Machine.execCoreSelftestDone t c pass s
  | .telemetryPost t => Sys2Proof.Machine.execTelemetryPost t s
  | .open_ t port ctag role key cnonce => Sys2Proof.Machine.execOpen t port ctag role key cnonce s
  | .prove t port ctag sid proof => Sys2Proof.Machine.execProve t port ctag sid proof s
  | .proveTimeout t sid => Sys2Proof.Machine.execProveTimeout t sid s
  | .makerFirst t port key pub cert audits => Sys2Proof.Machine.execMakerFirst t port key pub cert audits s
  | .read t port ctag sid ctr addr len auth => Sys2Proof.Machine.execRead t port ctag sid ctr addr len auth s
  | .readAudit t port ctag sid ctr index count auth => Sys2Proof.Machine.execReadAudit t port ctag sid ctr index count auth s
  | .setLimit t port ctag sid ctr addr fmask value audits auth => Sys2Proof.Machine.execSetLimit t port ctag sid ctr addr fmask value audits auth s
  | .setBound t port ctag sid ctr addr fmask level lower upper audits auth => Sys2Proof.Machine.execSetBound t port ctag sid ctr addr fmask level lower upper audits auth s
  | .calWrite t port ctag sid ctr addr value audits auth => Sys2Proof.Machine.execCalWrite t port ctag sid ctr addr value audits auth s
  | .resetLimits t port ctag sid ctr audits auth => Sys2Proof.Machine.execResetLimits t port ctag sid ctr audits auth s
  | .ack t port ctag sid ctr target audits auth => Sys2Proof.Machine.execAck t port ctag sid ctr target audits auth s
  | .setRtc t port ctag sid ctr v audits auth => Sys2Proof.Machine.execSetRtc t port ctag sid ctr v audits auth s
  | .slotBegin t port ctag sid ctr slot len sha auth => Sys2Proof.Machine.execSlotBegin t port ctag sid ctr slot len sha auth s
  | .slotData t port ctag sid ctr off bs => Sys2Proof.Machine.execSlotData t port ctag sid ctr off bs s
  | .slotEnd t port ctag sid ctr audits auth => Sys2Proof.Machine.execSlotEnd t port ctag sid ctr audits auth s
  | .restart t port ctag sid ctr audits auth => Sys2Proof.Machine.execRestart t port ctag sid ctr audits auth s
  | .keyInstall t port ctag sid ctr key role bs certId cert audits auth => Sys2Proof.Machine.execKeyInstall t port ctag sid ctr key role bs certId cert audits auth s
  | .keyRevoke t port ctag sid ctr key audits auth => Sys2Proof.Machine.execKeyRevoke t port ctag sid ctr key audits auth s
  | .gustClear t port ctag sid ctr res audits auth => Sys2Proof.Machine.execGustClear t port ctag sid ctr res audits auth s
  | .cullClear t port ctag sid ctr res audits auth => Sys2Proof.Machine.execCullClear t port ctag sid ctr res audits auth s
  | .lockoutClear t port ctag sid ctr role audits auth => Sys2Proof.Machine.execLockoutClear t port ctag sid ctr role audits auth s
  | .factest t port ctag sid ctr test audits auth => Sys2Proof.Machine.execFactest t port ctag sid ctr test audits auth s
  | .close t port ctag sid ctr auth => Sys2Proof.Machine.execClose t port ctag sid ctr auth s
  | .sessionIdleTimeout t sid => Sys2Proof.Machine.execSessionIdleTimeout t sid s
  | .lockoutExpire t role => Sys2Proof.Machine.execLockoutExpire t role s
  | .supWarning t va vb => Sys2Proof.Machine.execSupWarning t va vb s
  | .supRecoveryStart t va vb => Sys2Proof.Machine.execSupRecoveryStart t va vb s
  | .supRecoveryAbort t va vb => Sys2Proof.Machine.execSupRecoveryAbort t va vb s
  | .supRecovered t va vb => Sys2Proof.Machine.execSupRecovered t va vb s
  | .feedLost t f va vb => Sys2Proof.Machine.execFeedLost t f va vb s
  | .feedReturn t f va vb => Sys2Proof.Machine.execFeedReturn t f va vb s
  | .overvoltage t f va vb => Sys2Proof.Machine.execOvervoltage t f va vb s
  | .ovReconnect t f va vb => Sys2Proof.Machine.execOvReconnect t f va vb s
  | .porAssert t va vb => Sys2Proof.Machine.execPorAssert t va vb s
  | .railFault t r => Sys2Proof.Machine.execRailFault t r s
  | .vbkupMeasure t mv => Sys2Proof.Machine.execVbkupMeasure t mv s
  | .faultPullEnd t n => Sys2Proof.Machine.execFaultPullEnd t n s
  | .tripInDeassert t inst => Sys2Proof.Machine.execTripInDeassert t inst s
  | .busRxError t n code dataPhase eight => Sys2Proof.Machine.execBusRxError t n code dataPhase eight s
  | .busIntegrationDone t n => Sys2Proof.Machine.execBusIntegrationDone t n s
  | .peerTokenSeen t => Sys2Proof.Machine.execPeerTokenSeen t s
  | .stormClear t => Sys2Proof.Machine.execStormClear t s
  | .undefinedEncoding k => Sys2Proof.Machine.execUndefinedEncoding k s

end Sys2Proof.Machine
end

