-- ==== Sys2Proof/WellFormed.lean ====
section
/-! DEFINITION. When a command is well formed: operands that its rule bounds and whose type is wider than that bound. The
meanings are total; a sender that keeps to the specification sends well-formed commands only. -/

namespace Sys2Proof

/-- An address of the peripheral range (Table COR-1). -/
def inPeriphRange (a : Nat) : Bool := 0x40000000 ≤ a && a < 0x41000000

/-- A 16-bit two's complement number. -/
def i16 (x : Int) : Bool := -32768 ≤ x && x ≤ 32767

/-- A frame of a bus or of the link: identifier, DLC and data of its format (Table QUE-1). -/
def wfFrame (f : Frame) : Bool :=
  f.id < (if f.ide then 0x20000000 else 0x800) && f.dlc < 16 && f.data.length ≤ (if f.fdf then 64 else 8)

/-- A port of a session message: a bus port or the link. -/
def wfPort (p : Nat) : Bool := p < 6 || p = 0x10

/-- The numbers that head a request (R409). -/
def wfRequest (port sid ctr : Nat) : Bool := wfPort port && sid < 2 ^ 32 && ctr < 2 ^ 32

/-- AUTH: 16 bytes of an HMAC, or a signature of 64 bytes (R409). -/
def wfAuth (a : List Byte) : Bool := a.length = 16 || a.length = 64

/-- Is a command well formed? -/
def Instr.wf : Instr → Bool
  | .registerWrite _ _ a _ => inPeriphRange a && a % 4 = 0
  | .unmappedAccess _ _ a _ => inPeriphRange a
  | .refQualified _ dev => i16 dev
  | .refQualTimeout _ dev => i16 dev
  | .refFail _ _ dev => i16 dev
  | .stimeLoRead _ _ => true
  | .slotFire _ _ upset pads => upset.length ≤ 48 && pads.length ≤ 48
  | .slotenWrite _ _ _ _ => true
  | .vcoreScalingStart _ => true
  | .vcoreWindowEnd _ => true
  | .rtcOscFail _ => true
  | .vbkupLoss _ => true
  | .rtcSetsecWrite _ _ _ _ => true
  | .rtcLoad _ => true
  | .rtcCapGo _ _ => true
  | .rtcCaptureDone _ _ => true
  | .rtcSubRead _ _ => true
  | .feedWired _ _ va vb => va < 0x10000 && vb < 0x10000
  | .feedsValid _ va vb => va < 0x10000 && vb < 0x10000
  | .feedMissing _ _ va vb => va < 0x10000 && vb < 0x10000
  | .porRelease _ _ va vb => va < 0x10000 && vb < 0x10000
  | .flashProbe _ _ => true
  | .headerCheck _ _ _ => true
  | .bodyReadDone _ => true
  | .signatureVerify _ => true
  | .firstPass _ => true
  | .secondPass _ _ _ _ => true
  | .thirdPass _ => true
  | .startCalibration _ fails => fails.all (fun f => 1 ≤ f.1 && f.1 ≤ 7 && f.2.1 < 96 && f.2.2 < 16)
  | .journalRecovery _ bad => bad.all (fun o => o < 0x1E00000)
  | .configLock _ => true
  | .startResume _ => true
  | .run _ _ => true
  | .sysCtrlRestart _ _ key => key < 0x100
  | .slotWriteCheck _ => true
  | .legParityError _ _ => true
  | .legShaWrite _ _ _ _ _ => true
  | .legShiftWrite _ _ _ _ => true
  | .lineCalDone _ _ _ _ _ _ => true
  | .calAged _ _ _ => true
  | .lineAgeLimit _ _ _ => true
  | .glPoll _ _ => true
  | .glResponse _ _ bytes _ => bytes.length ≤ 6
  | .glNoack _ _ => true
  | .glFaultPull _ _ => true
  | .enableSequenceDone _ _ _ _ => true
  | .glContention _ _ => true
  | .glRequest _ _ _ _ => true
  | .adcSpareCalDone _ _ gain _ => gain < 0x10000
  | .adcSwapCheck _ _ _ _ => true
  | .swapDeferred _ _ => true
  | .adcCalAged _ _ => true
  | .adcSeqgoWrite _ _ => true
  | .adcGroupStart _ _ => true
  | .adcConversionDone _ _ _ _ => true
  | .adcUrgreqWrite _ _ _ _ => true
  | .adcUrgentStart _ _ => true
  | .adcPowerDown _ _ => true
  | .adcWake _ _ => true
  | .dsmWindowResult _ _ _ => true
  | .dsmContOutput _ _ _ => true
  | .dsmFastOutput _ _ _ => true
  | .dsmStuck _ _ _ => true
  | .cmpTrip _ _ _ => true
  | .cmpNormal _ _ _ => true
  | .cmpTestTick _ _ _ => true
  | .cmpDacReread _ _ _ => true
  | .cmpDegradedRead _ _ code => code < 0x1000
  | .tripInAssert _ _ => true
  | .trpSwtripWrite _ _ _ => true
  | .trpRelWrite _ _ _ => true
  | .autoRelease _ _ => true
  | .cenGoWrite _ _ _ => true
  | .cenActivationStart _ _ _ => true
  | .cenAgreement _ _ _ => true
  | .latentReexecution _ _ _ => true
  | .cenRestartDone _ _ _ => true
  | .cenDeadlineMiss _ _ => true
  | .cenSelftest _ _ _ _ => true
  | .selftestDeferred _ _ => true
  | .axuForwardPass _ _ => true
  | .axuInverseStage _ _ => true
  | .measureDone _ _ => true
  | .polarityTestDone _ _ => true
  | .reacquireAttempt _ _ => true
  | .trackSecond _ _ => true
  | .hallEdge _ _ _ => true
  | .hallTimeout _ _ => true
  | .sentFrame _ _ _ _ nibs crc _ => nibs.all (fun n => n < 16) && crc < 16
  | .gioEdge _ _ _ _ => true
  | .cvuForwardPass _ _ => true
  | .cvuInverseStage _ _ => true
  | .cvuPhaseDecision _ _ => true
  | .cvuCmPulseEnd _ _ _ => true
  | .gridLost _ _ => true
  | .cvuUnpark _ _ => true
  | .chgStep _ _ => true
  | .chgStart _ _ => true
  | .chgStop _ _ => true
  | .chgAck _ _ _ => true
  | .handoverComplete _ _ => true
  | .mpptUpdate _ _ => true
  | .lampFault _ _ _ => true
  | .lampRetry _ _ => true
  | .chgLampWrite _ _ _ _ => true
  | .triadMinority _ _ _ => true
  | .triadResync _ _ => true
  | .triadCheckpoint _ _ _ _ => true
  | .triadRestart _ _ kat => kat.length ≤ 3
  | .replayDone _ _ => true
  | .gustDecay _ => true
  | .culletPersist _ => true
  | .fncmdEnter _ _ _ _ _ _ => true
  | .fncmdEnable _ _ _ _ => true
  | .fncmdDisable _ _ _ _ => true
  | .fncmdAck _ _ _ _ => true
  | .fnreqEnable _ _ _ => true
  | .fnreqDisable _ _ _ => true
  | .fnreqSafe _ _ _ => true
  | .brakeTimeout _ _ => true
  | .t0Kick _ _ _ => true
  | .t0KickMissed _ => true
  | .wdgKick _ _ _ _ => true
  | .wdgMiss _ _ => true
  | .safeqRead _ => true
  | .tokenWire _ => true
  | .peerTokenLost _ => true
  | .tokenRace _ => true
  | .hbSend _ => true
  | .hbReceived _ _ role _ _ _ _ sys _ => role < 8 && sys < 16
  | .linkAck _ _ => true
  | .linkResend _ => true
  | .linkTrained _ lanes _ => lanes ≤ 4
  | .linkRetrain _ => true
  | .laneDegraded _ _ _ => true
  | .retrain _ _ _ => true
  | .helloReceived _ _ _ _ _ _ _ _ role sys _ => role < 8 && sys < 16
  | .soloClaim _ => true
  | .fnstateReceived _ _ _ _ => true
  | .jrnReceived _ _ _ kind que eseq body => kind < 0x100 && que < 0x100 && eseq < 2 ^ 48 && body.length ≤ 220
  | .jackReceived _ _ _ => true
  | .jackTimeout _ => true
  | .mirReceived _ _ addr bytes => addr < 2 ^ 32 && bytes.length ≤ 256
  | .mirendReceived _ _ sc _ blk => sc < 2 ^ 24 && blk.fns.length = 32
  | .mirrorApplied _ => true
  | .appliedReceived _ _ _ => true
  | .releaseReceived _ _ => true
  | .hbLoss _ => true
  | .yield _ _ _ => true
  | .linkQueueFrame _ _ _ fr => wfFrame fr
  | .busFrameReceived _ _ fr _ => wfFrame fr
  | .busTxStart _ _ _ => true
  | .arbitrationLost _ _ => true
  | .busTxComplete _ _ _ => true
  | .busTxError _ _ _ _ _ => true
  | .busRecovered _ _ => true
  | .busRecover _ _ _ => true
  | .abdDwell _ _ => true
  | .queExpired _ _ => true
  | .queCancel _ _ _ => true
  | .queIndexWrite _ _ _ _ _ => true
  | .sigMaptx _ _ => true
  | .publishRound _ => true
  | .publishReceived _ _ => true
  | .commandReceived _ _ => true
  | .replyReceived _ _ => true
  | .replytoExpired _ _ => true
  | .domainHeartbeat _ => true
  | .heartbeatReceived _ _ => true
  | .aggregateSend _ => true
  | .aggregateReceived _ _ => true
  | .announceSend _ => true
  | .announceReceived _ _ => true
  | .rootSilent _ => true
  | .journalCommit _ => true
  | .eventTaken _ _ => true
  | .corTimerFire _ _ _ => true
  | .corSwev _ _ _ => true
  | .awaitWake _ _ => true
  | .assuredQueueComplete _ _ => true
  | .syncComplete _ _ => true
  | .add _ _ _ _ => true
  | .sub _ _ _ _ => true
  | .and_ _ _ _ _ => true
  | .or_ _ _ _ _ => true
  | .xor_ _ _ _ _ => true
  | .shl _ _ _ _ => true
  | .shr _ _ _ _ => true
  | .sar _ _ _ _ => true
  | .rot _ _ _ _ => true
  | .slt _ _ _ _ => true
  | .sltu _ _ _ _ => true
  | .mul _ _ _ _ => true
  | .mulh _ _ _ _ => true
  | .mulhu _ _ _ _ => true
  | .div _ _ _ _ => true
  | .divu _ _ _ _ => true
  | .rem _ _ _ _ => true
  | .remu _ _ _ _ => true
  | .addi _ _ _ _ => true
  | .andi _ _ _ _ => true
  | .ori _ _ _ _ => true
  | .xori _ _ _ _ => true
  | .shli _ _ _ _ => true
  | .shri _ _ _ _ => true
  | .sari _ _ _ _ => true
  | .slti _ _ _ _ => true
  | .sltiu _ _ _ _ => true
  | .lui _ _ _ => true
  | .ldb _ _ _ _ => true
  | .ldbu _ _ _ _ => true
  | .ldh _ _ _ _ => true
  | .ldhu _ _ _ _ => true
  | .ldw _ _ _ _ => true
  | .stb _ _ _ _ => true
  | .sth _ _ _ _ => true
  | .stw _ _ _ _ => true
  | .flw _ _ _ _ => true
  | .fsw _ _ _ _ => true
  | .swapw _ _ _ _ => true
  | .addw _ _ _ _ => true
  | .beq _ _ _ _ => true
  | .bne _ _ _ _ => true
  | .blt _ _ _ _ => true
  | .bge _ _ _ _ => true
  | .bltu _ _ _ _ => true
  | .bgeu _ _ _ _ => true
  | .j _ _ => true
  | .jal _ _ => true
  | .jalr _ _ _ _ => true
  | .fadd _ _ _ _ => true
  | .fsub _ _ _ _ => true
  | .fmul _ _ _ _ => true
  | .fdiv _ _ _ _ => true
  | .fsqrt _ _ _ => true
  | .fmin _ _ _ _ => true
  | .fmax _ _ _ _ => true
  | .feq _ _ _ _ => true
  | .flt _ _ _ _ => true
  | .fle _ _ _ _ => true
  | .fcvtws _ _ _ => true
  | .fcvtsw _ _ _ => true
  | .fmvws _ _ _ => true
  | .fmvsw _ _ _ => true
  | .fabs _ _ _ => true
  | .fneg _ _ _ => true
  | .trap _ _ => true
  | .rete _ => true
  | .mfsr _ _ _ => true
  | .mtsr _ _ _ => true
  | .sigrd _ _ _ => true
  | .sigwr _ _ _ => true
  | .qpost _ _ _ _ => true
  | .qtake _ _ _ _ => true
  | .await _ _ _ _ => true
  | .ckpt _ _ _ => true
  | .sync _ => true
  | .thmDieSample _ rs => rs.length = 18
  | .thmNtcSample _ _ _ => true
  | .kRise _ => true
  | .marverRound _ reads _ => reads.length ≤ 128
  | .marverLate _ => true
  | .scrubCorrection _ _ addr => addr < 2 ^ 32
  | .memUncorrectable _ _ addr _ => addr < 2 ^ 32
  | .wearCheck _ => true
  | .bkgReqAdcCal _ _ _ => true
  | .bkgReqCmpCheck _ _ _ _ => true
  | .bkgReqPadCheck _ _ _ => true
  | .bkgReqCenSelftest _ _ _ => true
  | .bkgReqCoreSelftest _ _ _ => true
  | .bkgReqScrub _ _ _ => true
  | .bkgReqMarver _ _ _ => true
  | .bkgReqDeferred _ _ => true
  | .coreSelftestPeriodic _ => true
  | .coreSelftestDone _ _ _ => true
  | .telemetryPost _ => true
  | .open_ _ port _ role key cnonce => wfPort port && role < 0x100 && key < 2 ^ 32 && cnonce.length = 16
  | .prove _ port _ sid proof => wfPort port && sid < 2 ^ 32 && (proof.length = 32 || proof.length = 64)
  | .proveTimeout _ _ => true
  | .makerFirst _ port key pub cert _ => wfPort port && key < 2 ^ 32 && pub.length = 64 && cert.length = 64
  | .read _ port _ sid ctr addr len auth => wfRequest port sid ctr && wfAuth auth && addr < 2 ^ 32 && len < 0x10000
  | .readAudit _ port _ sid ctr index count auth => wfRequest port sid ctr && wfAuth auth && index < 2 ^ 32 && count < 0x100
  | .setLimit _ port _ sid ctr _ _ _ _ auth => wfRequest port sid ctr && wfAuth auth
  | .setBound _ port _ sid ctr _ _ level _ _ _ auth => wfRequest port sid ctr && wfAuth auth && level < 0x100
  | .calWrite _ port _ sid ctr _ _ _ auth => wfRequest port sid ctr && wfAuth auth
  | .resetLimits _ port _ sid ctr _ auth => wfRequest port sid ctr && wfAuth auth
  | .ack _ port _ sid ctr target _ auth => wfRequest port sid ctr && wfAuth auth && target < 0x100
  | .setRtc _ port _ sid ctr _ _ auth => wfRequest port sid ctr && wfAuth auth
  | .slotBegin _ port _ sid ctr slot len sha auth => wfRequest port sid ctr && wfAuth auth && slot < 0x100 && len < 2 ^ 32 && sha.length = 32
  | .slotData _ port _ sid ctr off bs => wfRequest port sid ctr && off < 2 ^ 32 && bs.length ≤ 448
  | .slotEnd _ port _ sid ctr _ auth => wfRequest port sid ctr && wfAuth auth
  | .restart _ port _ sid ctr _ auth => wfRequest port sid ctr && wfAuth auth
  | .keyInstall _ port _ sid ctr key role _ certId _ _ auth => wfRequest port sid ctr && wfAuth auth && key < 2 ^ 32 && role < 0x100 && certId < 2 ^ 32
  | .keyRevoke _ port _ sid ctr key _ auth => wfRequest port sid ctr && wfAuth auth && key < 2 ^ 32
  | .gustClear _ port _ sid ctr res _ auth => wfRequest port sid ctr && wfAuth auth && res < 0x10000
  | .cullClear _ port _ sid ctr res _ auth => wfRequest port sid ctr && wfAuth auth && res < 0x10000
  | .lockoutClear _ port _ sid ctr role _ auth => wfRequest port sid ctr && wfAuth auth && role < 0x100
  | .factest _ port _ sid ctr _ _ auth => wfRequest port sid ctr && wfAuth auth
  | .close _ port _ sid ctr auth => wfRequest port sid ctr && wfAuth auth
  | .sessionIdleTimeout _ _ => true
  | .lockoutExpire _ _ => true
  | .supWarning _ va vb => va < 0x10000 && vb < 0x10000
  | .supRecoveryStart _ va vb => va < 0x10000 && vb < 0x10000
  | .supRecoveryAbort _ va vb => va < 0x10000 && vb < 0x10000
  | .supRecovered _ va vb => va < 0x10000 && vb < 0x10000
  | .feedLost _ _ va vb => va < 0x10000 && vb < 0x10000
  | .feedReturn _ _ va vb => va < 0x10000 && vb < 0x10000
  | .overvoltage _ _ va vb => va < 0x10000 && vb < 0x10000
  | .ovReconnect _ _ va vb => va < 0x10000 && vb < 0x10000
  | .porAssert _ va vb => va < 0x10000 && vb < 0x10000
  | .railFault _ _ => true
  | .vbkupMeasure _ mv => mv < 0x10000
  | .faultPullEnd _ _ => true
  | .tripInDeassert _ _ => true
  | .busRxError _ _ _ _ _ => true
  | .busIntegrationDone _ _ => true
  | .peerTokenSeen _ => true
  | .stormClear _ => true
  | .undefinedEncoding _ => true

end Sys2Proof
end

