-- ==== Sys2Proof/Safety.lean ====
section
/-! DEFINITION. The terms that claims are stated in: what a command runs as, which memories and registers stay, what stands
in the event log, and the invariants of the block. -/

namespace Sys2Proof.Machine

/-! ## Commands -/

/-- The command answers a next state: the queue's rest is untouched and the device meets `Q`. -/
def runsTo (i : Instr) (s : State) (Q : Dev → Prop) : Prop :=
  ∃ u, exec i s = .next u ∧ u.pending = s.pending ∧ Q u.dev

/-- The state after `n` steps; none where a step stops. -/
def run : Nat → State → Option State
  | 0, s => some s
  | n + 1, s =>
    match step s with
    | .next u => run n u
    | _ => none

/-! ## Frames -/

/-- The memories of Table COR-1, the flash and the triads. -/
abbrev sameMem (d e : Dev) : Prop :=
  e.sram = d.sram ∧ e.coef = d.coef ∧ e.sigt = d.sigt ∧ e.mram = d.mram ∧ e.flash = d.flash ∧ e.triads = d.triads

/-- The registers that recording an event changes: the log's head and count, and the pending lines (R72, R368). -/
def isEvtReg (a : Nat) : Bool :=
  a = SYS_EVT_HEAD || a = SYS_EVT_CNT || (List.range 4).any (fun t => a = COR_EVPEND0 t || a = COR_EVPEND1 t)

/-- Every register reads as before, but for those listed and those of the event log. -/
def onlyRegs (as : List Nat) (d e : Dev) : Prop := ∀ a, a ∉ as → isEvtReg a = false → e.rd a = d.rd a

/-! ## Events -/

/-- The record at the index where the next record of `d` belongs has this code in `e` (R72). -/
def logged (d e : Dev) (code : Nat) : Prop :=
  (Tab.getD default e.log (d.fld SYS_EVT_HEAD SYS_EVT_HEAD_HEAD)).code = code

/-- The record of `e` at the index where the next record of `d` belongs. -/
def record (d e : Dev) : EventRec := Tab.getD default e.log (d.fld SYS_EVT_HEAD SYS_EVT_HEAD_HEAD)

/-- The record of an event of `d`'s present instant (R72). -/
def eventRec (d : Dev) (cls code src : Nat) (data : List Nat) : EventRec := ⟨d.now, d.rd RTC_SEC, code, src, cls, dat data⟩

/-- Nothing but the event of that record has happened: no register, memory or triad differs. -/
def onlyEvent (d e : Dev) (cls code src : Nat) (data : List Nat) : Prop :=
  record d e = eventRec d cls code src data ∧ onlyRegs [] d e ∧ sameMem d e

/-! ## Cores -/

/-- Triad `t` executes, and may fetch at its pc: it is not waiting, stopped or halted, and the pc is aligned, in its local
SRAM, and open to a fetch (R363, R366). -/
abbrev Dev.ready (d : Dev) (t : Nat) : Prop :=
  d.stopped = false ∧ (d.triad t).wait = .none ∧ d.accessFault t ecFetch (d.triad t).core.pc.toNat 4 4 = none

/-- Nothing of a restart is being replayed (R272). -/
abbrev Dev.fresh (d : Dev) (t : Nat) : Prop := (d.triad t).replay = [] ∧ (d.triad t).replayReads = []

/-- The state after triad `t` has recorded a voted effect (R267). -/
def Dev.acted (t : Nat) (ef : Effect) (d : Dev) : Dev := d.modTriad t (fun x => { x with effects := x.effects ++ [ef] })

/-- Nothing but the registers of triad `t` differs: they are `c` (R266: one logical processor). -/
def onlyCore (t : Nat) (d e : Dev) (c : Core) : Prop := e = d.modTriad t (fun x => { x with core := c })

/-- Nothing outside triad `t` differs. -/
def onlyTriad (t : Nat) (d e : Dev) : Prop := ∃ x, e = d.putTriad t x

/-- Triad `k` has taken line `line` for a fault with that ECAUSE and EADDR: EPC and ESTAT hold the pc and STATUS before, the
pc is at the line's vector, and no memory differs (R368). -/
def lineTaken (k line cause addr : Nat) (d e : Dev) : Prop :=
  let c := (d.triad k).core
  (e.triad k).core = { c with epc := c.pc, estat := c.status, status := c.statusTaken line
                              pc := BitVec.ofNat 32 ((d.rd (COR_VBASE k)).fld COR_VBASE_BASE * 0x400 + 16 * line)
                              ecause := BitVec.ofNat 32 cause, eaddr := BitVec.ofNat 32 addr } ∧
    (e.triad k).lram = (d.triad k).lram ∧ sameMem { d with triads := e.triads } e

/-! ## Stopped -/

/-- The commands that a stopped module still serves: the calendar's events, the supply's and the temperature samples (R391,
R392, R434). -/
def servesStopped : Instr → Bool
  | .rtcOscFail _ | .vbkupLoss _ | .rtcLoad _ | .rtcCaptureDone _ _ | .feedWired _ _ _ _ | .feedsValid _ _ _
  | .feedMissing _ _ _ _ | .porRelease _ _ _ _ | .supWarning _ _ _ | .supRecoveryStart _ _ _ | .supRecoveryAbort _ _ _
  | .supRecovered _ _ _ | .feedLost _ _ _ _ | .feedReturn _ _ _ _ | .overvoltage _ _ _ _ | .ovReconnect _ _ _ _
  | .porAssert _ _ _ | .railFault _ _ | .vbkupMeasure _ _ | .stormClear _ | .thmDieSample _ _ | .thmNtcSample _ _ _ => true
  | _ => false

/-! ## Invariants -/

/-- Every memory has its canonical form: addresses rising, no entry equal to what an unlisted address reads as. -/
def Dev.memOk (d : Dev) : Prop :=
  Mem.wf 0xFF d.flash = true ∧ Mem.wf 0 d.sram = true ∧ Mem.wf 0 d.coef = true ∧ Mem.wf 0 d.sigt = true ∧
    Mem.wf 0 d.mram = true ∧ ∀ p ∈ d.triads, Mem.wf 0 p.2.lram = true

/-- A list of culled resources has at most 256 entries, each resource at most once (R277). -/
def cullOk (xs : List Cull) : Prop := xs.length ≤ 256 ∧ (xs.map (·.res)).Nodup

/-- The capacities of the lists that the specification bounds: the safety queue (R371), the cullet list and its two
persisted copies (R277), the persisted limit table (R418) and the sessions (R410). -/
def Dev.roomOk (d : Dev) : Prop :=
  d.safeq.length ≤ 256 ∧ cullOk d.red.cull ∧ cullOk d.red.cullA ∧ cullOk d.red.cullB ∧
    d.sec.table.length ≤ 256 ∧ d.sec.sessions.length ≤ 4

/-- The register map and the event log list each key once, in rising order, and the log holds at most 1,024 records
(R72). -/
def Dev.tabsOk (d : Dev) : Prop :=
  Tab.wf d.regs = true ∧ Tab.wf d.log = true ∧ ∀ p ∈ d.log, p.1 < 1024

/-- The legs, cascades, axes and power converters that a function's record names exist. -/
def FuncRec.units (r : FuncRec) : Prop :=
  (∀ n ∈ r.legs, n < 48) ∧ (∀ c ∈ r.casc, c.1 < 64) ∧ (∀ u, r.axuA = some u ∨ r.axuB = some u → u < 16) ∧
    ∀ u, r.cvu = some u → u < 8

/-- What holds of the device in every state that a run reaches: the memories' form, the capacities, the tables' form. -/
abbrev Dev.sound (d : Dev) : Prop := d.memOk ∧ d.roomOk ∧ d.tabsOk

end Sys2Proof.Machine
end

