-- ==== Sys2Proof/Certificates/Slice0/Obligations.lean ====
section
/-! DEFINITION. The statements of this model: what the rules of the specification say of the block, and for every command the
states in which it completes. `runsTo c s Q` says that command `c` answers a next state at `s` that meets `Q`; `S.dev.at T` is
the device of state `S` at the instant `T` of the command. -/

open Sys2Proof Sys2Proof.Machine

/-- A step runs the command at the front of the queue. For every command c, queue rest and device d: step with c at
the front of the queue is exec of c on the state whose queue is the rest. -/
def Obligations.StepRunsFrontCommand : Prop :=
  ∀ (c : Instr) (rest : List Instr) (d : Dev), step ⟨c :: rest, d⟩ = exec c ⟨rest, d⟩

/-- Every command answers a next state and leaves the queue to the step. For every command and every state, exec
answers a next state (no fault, no refusal) whose queue of waiting commands is the one it was given. That every
command, on every state, has a next state is the choice of this model (log entry 16): a command whose occasion does
not hold has no effect. -/
def Obligations.EveryCommandAnswers : Prop :=
  ∀ (c : Instr) (s : State), ∃ e, exec c s = .next ⟨s.pending, e⟩

/-- On an empty queue one fine tick passes; outside RUN, or while paused, nothing else happens. With an empty queue,
step answers the state after one idle fine tick (the choice of this model, log entry 12). While power-on reset is not
asserted and STIME does not wrap, STIME has advanced by one. Outside RUN, and while background work is paused, the
passing of time is all that happens. -/
def Obligations.EmptyQueueIdles : Prop :=
  ∀ (d : Dev),
    step ⟨[], d⟩ = .next ⟨[], d.idle⟩ ∧
    (d.por = false → d.now.toNat + 1 < 2 ^ 64 → d.idle.now = d.now + 1) ∧
    (d.inRun = false ∨ d.paused = true → d.idle = d.at (d.now + 1))

/-- n steps serve exactly the first n waiting commands. From every state with at least n waiting commands, n steps run
without a stop, and the commands still waiting are those after the first n. -/
def Obligations.CommandsRunInOrder : Prop :=
  ∀ (n : Nat) (S : State), n ≤ S.pending.length →
    ∃ u, run n S = some u ∧ u.pending = S.pending.drop n

/-- Every step keeps the memories canonical and every bounded list within its bound. From every state whose device is
sound, step answers a next state whose device is sound. Sound means: every memory has its canonical form; the safety
queue holds at most 256 entries (R371); the cullet list and its two persisted copies hold at most 256 entries, no
resource twice (R277); the limit table holds at most 256 entries (R418); there are at most four sessions (R410); the
register map and the event log list each key once in rising order, and the log has no index above 1,023 (R72). -/
def Obligations.EveryStepKeepsSound : Prop :=
  ∀ (s : State), s.dev.sound → ∃ u, step s = .next u ∧ u.dev.sound

/-- The reset state is sound: reset is asserted, nothing waits, and memories and lists are empty. The device of
State.reset is sound, its queue of commands is empty, power-on reset is asserted, and no session, cullet-list entry,
safety-queue entry or event is held. That the machine starts in the power-on reset before its first release is the
choice of this model (log entry 7). -/
def Obligations.ResetIsSound : Prop :=
  State.reset.dev.sound ∧ State.reset.pending = [] ∧ State.reset.dev.por = true ∧
    State.reset.dev.sec.sessions = [] ∧ State.reset.dev.red.cull = [] ∧ State.reset.dev.safeq = [] ∧ State.reset.dev.log = []

/-- No step turns STIME back, but for one that asserts power-on reset. From every state whose device is sound and not
in power-on reset, step answers a next state in which either power-on reset is asserted or STIME is at least what it
was. -/
def Obligations.StimeNeverRunsBackward : Prop :=
  ∀ (s : State), s.dev.sound → s.dev.por = false →
    ∃ u, step s = .next u ∧ (u.dev.por = true ∨ s.dev.tk.stime.toNat ≤ u.dev.tk.stime.toNat)

/-- Nothing but the fall of both feeds below the reset level ends a thermal shutdown. In a state where THM_STAT.SHUT
is set, step answers a next state in which it is still set, unless the command in front is POR_ASSERT with VIN_OR
below 5.5 V. That a rail fault with the feeds present keeps it is a reading (log entry 45). -/
def Obligations.ShutdownStaysLatched : Prop :=
  ∀ (s : State), s.dev.isSet THM_STAT THM_STAT_SHUT = true →
    (∀ t va vb, s.pending.head? = some (.porAssert t va vb) → 5500 ≤ s.dev.vin va vb) →
    ∃ u, step s = .next u ∧ u.dev.isSet THM_STAT THM_STAT_SHUT = true

/-- In reset and after a shutdown only the supply, the calendar and the temperature samples act. While power-on reset
is asserted or the module has shut down, every command but those of the supply, of the calendar and of the temperature
samples leaves the state as it is, but for the passing of time up to the instant of the command. -/
def Obligations.StoppedModuleDoesNothing : Prop :=
  ∀ (c : Instr) (s : State), servesStopped c = false → s.dev.stopped = true →
    ∃ u, exec c s = .next u ∧ (u = s ∨ ∃ T, u = { s with dev := s.dev.at T })

/-- A write of a CL register after configuration lock leaves it unchanged and records SYS.LOCKED_WRITE. For every
register of access CL and every triad: after configuration lock a write leaves the register unchanged and records
0x0108 SYS.LOCKED_WRITE with the address and the triad, and nothing else changes; the command REGISTER_WRITE does so
in every state in which the module runs. -/
def Obligations.LockedWriteRefused : Prop :=
  ∀ (S : State) (T : Time) (triad : Fin 4) (a : Nat) (v : W) (r : RegDesc), let d := S.dev.at T
    regDesc a = some r → r.acc = .cl → d.locked = true →
      (let e := d.storeReg triad a v
       e.rd a = d.rd a ∧ onlyEvent d e clsWarning EV_SYS_LOCKED_WRITE triad (le4 a ++ [triad.val])) ∧
      (d.stopped = false → runsTo (.registerWrite T triad a v) S (fun e =>
        e.rd a = d.rd a ∧ onlyEvent d e clsWarning EV_SYS_LOCKED_WRITE triad (le4 a ++ [triad.val])))

/-- An unassigned offset reads zero, a write has no effect, and either records SYS.UNMAPPED_ACCESS. For every address
of the peripheral range that no register has: a read by any triad gives 0; a read and a write each record 0x0109
SYS.UNMAPPED_ACCESS and change no register, memory or triad. The command UNMAPPED_ACCESS does so in every state in
which the module runs. The DATA of the record (address, triad, direction) is the choice of this model (log entry 17).
-/
def Obligations.UnassignedOffsets : Prop :=
  ∀ (S : State) (T : Time) (triad : Fin 4) (a : Nat) (v : W) (write : Bool), let d := S.dev.at T
    inPeriph a = true → regDesc a = none →
      (d.loadReg triad a).1 = 0 ∧
      onlyEvent d (d.loadReg triad a).2 clsWarning EV_SYS_UNMAPPED_ACCESS triad (le4 a ++ [triad.val, 0]) ∧
      onlyEvent d (d.storeReg triad a v) clsWarning EV_SYS_UNMAPPED_ACCESS triad (le4 a ++ [triad.val, 1]) ∧
      (d.stopped = false → runsTo (.unmappedAccess T triad a write) S (fun e =>
        onlyEvent d e clsWarning EV_SYS_UNMAPPED_ACCESS triad (le4 a ++ [triad.val, b2n write])))

/-- A triad writes only its own COR window, except COR_SWEV, which any triad writes in any window. A write of a
register of the COR window of another triad, COR_SWEV apart, changes no register of that window and records 0x0108
SYS.LOCKED_WRITE; a write of COR_SWEV acts in every window, whichever triad writes; a write of COR_EVEN1 of the own
window takes the value. -/
def Obligations.OwnCorWindow : Prop :=
  ∀ (S : State) (T : Time) (t w : Fin 4) (o : Nat) (v : W), let d := S.dev.at T
    let a := 0x40300000 + 0x1000 * w + o
    o < 0x1000 → regDesc a ≠ none → d.stopped = false →
      (o ≠ 0x18 → t ≠ w → runsTo (.registerWrite T t a v) S (fun e =>
        (isEvtReg a = false → e.rd a = d.rd a) ∧ onlyEvent d e clsWarning EV_SYS_LOCKED_WRITE t (le4 a ++ [t.val]))) ∧
      (o = 0x18 → runsTo (.registerWrite T t a v) S (fun e => e = d.swev w v)) ∧
      (o = 0x0C → t = w → runsTo (.registerWrite T t a v) S (fun e => e.rd a = v))

/-- A read of STIME low then high is coherent, each triad with its own holding register. A read of TKP_STIME_LO gives
the lower word of STIME; a read of TKP_STIME_HI by that triad at any later instant gives the upper word of the instant
of the first read; without a preceding read of TKP_STIME_LO it gives the live upper word; a read of TKP_STIME_HI
empties the holding register; no read by one triad touches the holding register of another. -/
def Obligations.StimePairCoherent : Prop :=
  ∀ (d e : Dev) (t t' : Fin 4) (T : Time),
    ((d.loadReg t TKP_STIME_LO).1 = d.now.setWidth 32) ∧
    (((d.loadReg t TKP_STIME_LO).2.at T).loadReg t TKP_STIME_HI).1 = (d.now >>> 32).setWidth 32 ∧
    (Tab.has d.tk.hiLatch t = false → (d.loadReg t TKP_STIME_HI).1 = (d.now >>> 32).setWidth 32) ∧
    Tab.has (d.loadReg t TKP_STIME_HI).2.tk.hiLatch t = false ∧
    (t' ≠ t → (e = (d.loadReg t TKP_STIME_LO).2 ∨ e = (d.loadReg t TKP_STIME_HI).2) →
      Tab.has e.tk.hiLatch t' = Tab.has d.tk.hiLatch t' ∧ Tab.getD 0 e.tk.hiLatch t' = Tab.getD 0 d.tk.hiLatch t')

/-- TKP_FSTAMP is STIME divided by 400, modulo 2^32. In every state a read of TKP_FSTAMP by any triad gives
floor(STIME / 400) mod 2^32. -/
def Obligations.FrameStampFromStime : Prop :=
  ∀ (d : Dev) (triad : Fin 4), (d.loadReg triad TKP_FSTAMP).1.toNat = d.now.toNat / 400 % 2 ^ 32

/-- Only T0 changes the slot enables, and a slot that it disables does not fire again. A write of TKP_SLOTEN0 or
TKP_SLOTEN1 by T1, T2 or T3 leaves the register unchanged and records 0x0108 SYS.LOCKED_WRITE. A write by T0 takes
effect (in RUN bit 31 of TKP_SLOTEN1 stays set, R35), changes nothing else but the earliest next firing of slots, and
no slot that it disables fires at any later instant. -/
def Obligations.SlotEnablesByT0 : Prop :=
  ∀ (S : State) (T : Time) (triad : Fin 4) (hi : Bool) (v : W), let d := S.dev.at T
    let r := if hi then TKP_SLOTEN1 else TKP_SLOTEN0
    let w := if hi && d.inRun then v.setBit 31 true else v
    d.stopped = false →
      (triad ≠ 0 → runsTo (.slotenWrite T triad hi v) S (fun e =>
        e.rd r = d.rd r ∧ onlyEvent d e clsWarning EV_SYS_LOCKED_WRITE triad (le4 r ++ [triad.val]))) ∧
      (triad = 0 → runsTo (.slotenWrite T triad hi v) S (fun e =>
        e.rd r = w ∧ e = { d.wr r w with tk := { d.tk with notBefore := e.tk.notBefore } } ∧
        ∀ (i : Nat) (T' : Time), i < 32 → w.bit i = false → (if hi then 32 else 0) + i ≠ 63 →
          (e.at T').slotFires ((if hi then 32 else 0) + i) = false))

/-- Commands of time, calendar and supply change only the registers named, and no memory. Each of the 23 commands
named (STIME_LO_READ, SLOTEN_WRITE, VCORE_SCALING_START, VCORE_WINDOW_END, RTC_OSC_FAIL, VBKUP_LOSS, RTC_LOAD,
RTC_CAP_GO, RTC_CAPTURE_DONE, RTC_SUB_READ, RTC_SETSEC_WRITE, FEED_WIRED, FEEDS_VALID, FEED_MISSING,
SUP_RECOVERY_START, SUP_RECOVERY_ABORT, SUP_RECOVERED, FEED_LOST, FEED_RETURN, OVERVOLTAGE, OV_RECONNECT,
VBKUP_MEASURE, STORM_CLEAR) completes in every state, and changes no register but those its clause lists and those of
the event log, and no memory, flash or triad; RTC_SETSEC_WRITE may also append an audit record in MRAM. -/
def Obligations.TimeAndSupplyFrames : Prop :=
  ∀ (S : State) (T : Time) (f : Fin 2) (va vb sid mv : Nat) (triad : Fin 4) (hi : Bool) (v : W) (edge : Time) (audits : Bool), let d := S.dev.at T
    let only := fun (c : Instr) (as : List Nat) => runsTo c S (fun e => onlyRegs as d e ∧ sameMem d e)
    only (.stimeLoRead T triad) [] ∧ only (.slotenWrite T triad hi v) [if hi then TKP_SLOTEN1 else TKP_SLOTEN0] ∧
    only (.vcoreScalingStart T) [] ∧ only (.vcoreWindowEnd T) [SUP_VCORE] ∧
    only (.rtcOscFail T) [RTC_STAT] ∧ only (.vbkupLoss T) [] ∧ only (.rtcLoad T) [RTC_SEC, RTC_SUB, RTC_STAT] ∧
    only (.rtcCapGo T v) [RTC_CAP] ∧
    only (.rtcCaptureDone T edge) [RTC_CAP, RTC_CAPSEC, RTC_CAPSUB, RTC_CAPST_LO, RTC_CAPST_HI] ∧
    only (.rtcSubRead T triad) [] ∧
    runsTo (.rtcSetsecWrite T sid v audits) S (fun e => onlyRegs [RTC_SETSEC] d e ∧ sameMem { d with mram := e.mram } e) ∧
    only (.feedWired T f va vb) [] ∧ only (.feedsValid T va vb) [] ∧ only (.feedMissing T f va vb) [] ∧
    only (.supRecoveryStart T va vb) [SUP_FEED, SUP_STAT] ∧ only (.supRecoveryAbort T va vb) [SUP_FEED, SUP_STAT] ∧
    only (.supRecovered T va vb) [SUP_FEED, SUP_STAT] ∧ only (.feedLost T f va vb) [SUP_FEED, SUP_STAT, SUP_FLT] ∧
    only (.feedReturn T f va vb) [SUP_FEED, SUP_STAT] ∧ only (.overvoltage T f va vb) [SUP_FEED, SUP_STAT, SUP_FLT] ∧
    only (.ovReconnect T f va vb) [SUP_FEED, SUP_STAT] ∧ only (.vbkupMeasure T mv) [RTC_STAT] ∧
    only (.stormClear T) [SUP_STAT]

/-- An event is one record at the head of a ring of 1,024, and a record of class Gale is kept in MRAM. Recording an
event writes its record (STIME, RTC_SEC, code, source, class, data) at the index that SYS_EVT_HEAD gives, which lies
below 1,024, and moves the head on modulo 1,024; SYS_EVT_CNT counts; every other record stays; a record of class Gale
joins the records kept in MRAM; no register but those of the event log, and no memory, changes. -/
def Obligations.EventLogRing : Prop :=
  ∀ (d : Dev) (cls code src : Nat) (data : List Byte),
    let e := d.logEvent cls code src data
    let h := d.fld SYS_EVT_HEAD SYS_EVT_HEAD_HEAD
    h < 1024 ∧ e.fld SYS_EVT_HEAD SYS_EVT_HEAD_HEAD = (h + 1) % 1024 ∧ e.rd SYS_EVT_CNT = d.rd SYS_EVT_CNT + 1 ∧
    Tab.getD default e.log h = ⟨d.now, d.rd RTC_SEC, code, src, cls, data⟩ ∧
    (∀ k, k ≠ h → Tab.getD default e.log k = Tab.getD default d.log k) ∧
    e.gales = (if cls = clsGale then keepGale (Tab.getD default e.log h) d.gales else d.gales) ∧
    onlyRegs [] d e ∧ sameMem d e

/-- The safety queue is first in, first out, of 256 entries, and line 8 of T0 is pending while it is not empty. An
event code directed to the Gaffer enters the end of the safety queue while it holds fewer than 256, and line 8 of T0
becomes pending; in a full queue nothing enters. A read of COR_SAFEQ gives the oldest code, with the number left
behind it, and removes it; line 8 is no longer pending once the queue is empty. The place of the number of entries
left in the word read is that of COR_SAFEQ. -/
def Obligations.SafetyQueueFifo : Prop :=
  (∀ (d : Dev) (code : Nat), d.safeq.length < 256 →
      (d.toSafeq code).safeq = d.safeq ++ [code] ∧ (d.toSafeq code).bit (COR_EVPEND0 0) 8 = true) ∧
    (∀ (d : Dev) (code : Nat), 256 ≤ d.safeq.length → (d.toSafeq code).safeq = d.safeq) ∧
    (∀ (S : State) (T : Time) (x : Nat) (r : List Nat), let d := S.dev.at T
      d.stopped = false → d.safeq = x :: r →
        (d.loadReg 0 (COR_SAFEQ 0)).1 = BitVec.ofNat 32 (0x80000000 + r.length * 0x10000 + x % 0x10000) ∧
        runsTo (.safeqRead T) S (fun e =>
          e.safeq = r ∧ (r = [] → e.bit (COR_EVPEND0 0) 8 = false) ∧ (r ≠ [] → e.regs = d.regs)))

/-- The first safe-state command decides; a later one acts only with the same cause; both are recorded. For every
function that a FUNC record describes and every state permitted to it: where the function is in no safe state, or the
command carries the cause of the present state and asks for another state, the function enters the state, is not
enabled, RED_FNSTATE shows state and cause, and 0x250A RED.SAFE_ENTER is recorded with byte 3 = 1; where it is in a
safe state of another cause, state and cause stay, and the event is recorded with byte 3 = 0 and the state and cause
asked for. The units that the record names exist. A repeat of the same cause and state has no effect (log entry 10,
not stated here). -/
def Obligations.FirstSafeStateDecides : Prop :=
  ∀ (d : Dev) (f : Fin 32) (st : Fin 5) (cause : Fin 65536), let e := d.safeCommand f st cause
    (d.func f).isSome = true → permitted (d.funcD f).kind st = true → FuncRec.units (d.funcD f) →
      ((d.inSafe f = false ∨ (d.fld (RED_FNSTATE f) RED_FNSTATE_CAUSE = cause ∧ d.fld (RED_FNSTATE f) RED_FNSTATE_STATE ≠ st)) →
        e.inSafe f = true ∧ e.fld (RED_FNSTATE f) RED_FNSTATE_STATE = st ∧ e.fld (RED_FNSTATE f) RED_FNSTATE_CAUSE = cause ∧
        e.enabled f = false ∧
        record d e = eventRec d clsSafe EV_RED_SAFE_ENTER srcHw (le2 f ++ [st.val, 1] ++ le2 cause)) ∧
      (d.inSafe f = true → d.fld (RED_FNSTATE f) RED_FNSTATE_CAUSE ≠ cause →
        e.inSafe f = true ∧ e.fld (RED_FNSTATE f) RED_FNSTATE_STATE = d.fld (RED_FNSTATE f) RED_FNSTATE_STATE ∧
        e.fld (RED_FNSTATE f) RED_FNSTATE_CAUSE = d.fld (RED_FNSTATE f) RED_FNSTATE_CAUSE ∧
        record d e = eventRec d clsSafe EV_RED_SAFE_ENTER srcHw (le2 f ++ [st.val, 0] ++ le2 cause))

/-- From RUN onwards a trip group latches; its first source, instant and event are captured, its legs trip. While
groups latch: an asserted group stays asserted whatever its sources do; a group that is not asserted stays so while no
enabled source is true; when one becomes true the group is asserted, TRP_GFIRST holds the lowest source, TRP_GSTAMP
the instant, 0x1601 TRP.GROUP_TRIP is recorded, and every leg of the function that names the group shows TRIPPED.
Before that a group follows its source condition. The units of the FUNC record exist. -/
def Obligations.TripGroupLatches : Prop :=
  ∀ (d : Dev) (g : Fin 16), let e := d.evalGroup g
    (d.latching = true → d.asserted g = true → e.asserted g = true ∧ e.regs = d.regs ∧ e.log = d.log) ∧
    (d.latching = true → d.asserted g = false → d.trueSources g = [] → e.asserted g = false ∧ e.regs = d.regs ∧ e.log = d.log) ∧
    (∀ x r, d.latching = true → d.asserted g = false → d.trueSources g = x :: r →
      (∀ f, d.groupFn g = some f → FuncRec.units (d.funcD f)) →
      e.asserted g = true ∧ e.rd (TRP_GFIRST g) = BitVec.ofNat 32 (0x80000000 + x) ∧
      e.rd (TRP_GSTAMP_LO g) = d.now.setWidth 32 ∧ e.rd (TRP_GSTAMP_HI g) = (d.now >>> 32).setWidth 32 ∧
      record d e = eventRec d (evClass EV_TRP_GROUP_TRIP) EV_TRP_GROUP_TRIP srcHw [g.val, x] ∧
      ∀ f n, d.groupFn g = some f → n ∈ (d.funcD f).legs → e.isSet (LEG_STAT n) LEG_STAT_TRIPPED = true) ∧
    (d.latching = false → e.asserted g = decide (d.trueSources g ≠ []) ∧ onlyRegs [TRP_STAT] d e ∧ e.log = d.log)

/-- While its group is asserted a function cannot be enabled: the command is refused and recorded. A T0 command that
enables a function whose enable T0 was asked for, while the trip group of the function is asserted, enables nothing:
the function stays not enabled, no enable sequence of a leg starts, 0x1604 TRP.ENABLE_REFUSED is recorded with group
and function, and no register or memory changes but the event log. -/
def Obligations.NoEnableWhileTripped : Prop :=
  ∀ (S : State) (T : Time) (f : Fin 32), let d := S.dev.at T
    d.stopped = false → d.asserted (d.fnGroup f) = true → d.enabled f = false → (d.func f).isSome = true →
    d.red.enabling.testBit f = false → d.red.reqEnable.testBit f = true →
      runsTo (.fncmdEnable T 0 false f) S (fun e =>
        e.enabled f = false ∧ e.legs = d.legs ∧ e.red.enabling = d.red.enabling ∧
        record d e = eventRec d (evClass EV_TRP_ENABLE_REFUSED) EV_TRP_ENABLE_REFUSED srcHw [d.fnGroup f, f.val] ∧
        onlyRegs [] d e ∧ sameMem d e)

/-- A Gale marks the resource retired, records RED.GALE, and lists the resource once, in at most 256 entries. A Gale
of a resource sets RETIRED in its RED_GUST and records 0x2505 RED.GALE with the resource and the reason. A resource
already listed changes nothing of RED; another joins the end of the list while it holds fewer than 256 entries, not
yet persisted, with RTC_SEC and STIME, and RED_STAT.CULLCNT counts it; beyond that RED_STAT.CULLFULL is set and the
list stays. -/
def Obligations.GaleEntersCulletList : Prop :=
  ∀ (d : Dev) (kind : Fin 8) (i : Fin 64) (reason : Fin 8), let e := d.cullAdd kind i reason
    let res := resId kind i
    e.isSet (RED_GUST kind i) RED_GUST_RETIRED = true ∧
    record d e = eventRec d (evClass EV_RED_GALE) EV_RED_GALE srcHw (le2 res ++ [reason.val]) ∧
    (res ∈ d.red.cull.map (·.res) → e.red = d.red) ∧
    (res ∉ d.red.cull.map (·.res) → d.red.cull.length < 256 →
      e.red = { d.red with cull := d.red.cull ++ [⟨res, reason, false, false, d.rd RTC_SEC, d.now⟩] } ∧
      e.fld RED_STAT RED_STAT_CULLCNT = d.red.cull.length + 1) ∧
    (res ∉ d.red.cull.map (·.res) → 256 ≤ d.red.cull.length → e.red = d.red ∧ e.isSet RED_STAT RED_STAT_CULLFULL = true)

/-- An OPEN beyond four sessions, or from a pair of port and CTAG that holds one, is denied BUSY. Where a port accepts
sessions and the role exists, may use the port and is not locked out: an OPEN while four sessions are open, or from a
(port, CTAG) pair that already holds a session, is answered DENIED BUSY; no session is opened and no challenge is
issued. -/
def Obligations.FifthSessionIsBusy : Prop :=
  ∀ (S : State) (T : Time) (port ctag role key : Nat) (cnonce : List Byte), let d := S.dev.at T
    d.stopped = false → d.secOpen port = true → (1 ≤ role ∧ role ≤ 3) → d.roleOn role port = true → d.roleLocked role = false →
      (4 ≤ d.sec.sessions.length ∨ ∃ x ∈ d.sec.sessions, x.port = port ∧ x.ctag = ctag) →
      runsTo (.open_ T port ctag role key cnonce) S (fun e =>
        e = d.denied port ctag dnBusy ∧ e.sec.sessions = d.sec.sessions ∧ e.sec.chals = d.sec.chals)

/-- The audit log is a ring of 16,384 records, and the chain of an overwritten record moves to the anchor. An audit
record is written at its index modulo 16,384 and carries its index in its first four bytes; no byte of MRAM outside
the 64 bytes of the record changes; once the ring is full the CHAIN of the record overwritten becomes SEC_AUDANCHOR,
before that the anchor stays; nothing else of the device changes but the index of the next record. The index lies
within 32 bits. -/
def Obligations.AuditLogRing : Prop :=
  ∀ (d : Dev) (action role port key session target : Nat) (before after : List Byte), let i := d.sec.audHead
    let e := d.audit action role port key session target before after
    i < 2 ^ 32 →
      e.sec.audHead = (i + 1) % 2 ^ 32 ∧
      Mem.num e.mram (auditBase + 64 * (i % 16384)) 4 = i ∧
      (∀ x, (x < auditBase + 64 * (i % 16384) ∨ auditBase + 64 * (i % 16384) + 64 ≤ x) → Mem.get 0 e.mram x = Mem.get 0 d.mram x) ∧
      (16384 ≤ i → e.sec.anchor = sliceB (d.auditRecord i) 0x30 12) ∧
      (i < 16384 → e.sec.anchor = d.sec.anchor) ∧
      e = { d with mram := e.mram, sec := { d.sec with audHead := e.sec.audHead, anchor := e.sec.anchor } }

/-- w0 reads zero and ignores writes; a write of another general register changes that one alone. After a write of
general register r with v, every general register reads as before, but r reads v unless it is w0, and w0 reads 0. -/
def Obligations.RegisterZeroReadsZero : Prop :=
  ∀ (c : Core) (r x : Fin 32) (v : W),
    (c.setW r v).getW x = if x = 0 then 0 else if x = r then v else c.getW x

/-- A misaligned load, store or atomic takes the alignment line and reaches no memory. A triad that executes and is in
no fault handler: LDH, LDHU and STH at an odd address, LDW, FLW, STW and FSW at an address that is no multiple of
four, and SWAPW and ADDW likewise, take line 1 with ECAUSE of a misaligned access and EADDR the address; EPC is the
address of the instruction, ESTAT the status, the mode supervisor with events off; no byte of any memory changes. That
EPC is the faulting instruction is a reading (log entry 21). -/
def Obligations.MisalignedAccessTakesLine1 : Prop :=
  ∀ (S : State) (k : Fin 4) (rd ra rb : Fin 32) (disp : BitVec 16), let d := S.dev
    let a := (d.triad k).core.memAddr ra disp
    let b := ((d.triad k).core.getW ra).toNat
    d.ready k → (d.triad k).core.fh = false →
      (a % 2 ≠ 0 → runsTo (.ldh k rd ra disp) S (lineTaken k 1 ecMisaligned a d) ∧
        runsTo (.ldhu k rd ra disp) S (lineTaken k 1 ecMisaligned a d) ∧
        runsTo (.sth k rd ra disp) S (lineTaken k 1 ecMisaligned a d)) ∧
      (a % 4 ≠ 0 → runsTo (.ldw k rd ra disp) S (lineTaken k 1 ecMisaligned a d) ∧
        runsTo (.flw k rd ra disp) S (lineTaken k 1 ecMisaligned a d) ∧
        runsTo (.stw k rd ra disp) S (lineTaken k 1 ecMisaligned a d) ∧
        runsTo (.fsw k rd ra disp) S (lineTaken k 1 ecMisaligned a d)) ∧
      (b % 4 ≠ 0 → runsTo (.swapw k rd ra rb) S (lineTaken k 1 ecMisaligned b d) ∧
        runsTo (.addw k rd ra rb) S (lineTaken k 1 ecMisaligned b d))

/-- Privileged instructions in task mode, undefined encodings and divisions by zero take their line. A triad that
executes and is in no fault handler: in task mode RETE, MTSR, and MFSR of a special register other than ICNT, ICNTH
and TRIAD take line 2 with ECAUSE PRIV; an undefined encoding takes line 2 with its ECAUSE in either mode; DIV, DIVU,
REM and REMU by zero take line 4 with the ECAUSE of a division by zero. No general register, special register or
memory changes but those that taking the line writes. EADDR of lines 2 and 4 is the address of the instruction (log
entry 21). -/
def Obligations.IllegalAndOperandFaults : Prop :=
  ∀ (S : State) (k : Fin 4) (r sr rd ra rb : Fin 32), let d := S.dev
    let c := (d.triad k).core
    let pc := c.pc.toNat
    d.ready k → c.fh = false →
      (c.sup = false → runsTo (.rete k) S (lineTaken k 2 ecPriv pc d)) ∧
      (c.sup = false → (c.special k sr).isSome = true → runsTo (.mtsr k r sr) S (lineTaken k 2 ecPriv pc d)) ∧
      (c.sup = false → (c.special k sr).isSome = true → openSpecial sr = false → runsTo (.mfsr k r sr) S (lineTaken k 2 ecPriv pc d)) ∧
      runsTo (.undefinedEncoding k) S (lineTaken k 2 ecUndefined pc d) ∧
      (c.getW rb = 0 → runsTo (.div k rd ra rb) S (lineTaken k 4 ecDivZero pc d) ∧ runsTo (.divu k rd ra rb) S (lineTaken k 4 ecDivZero pc d) ∧
        runsTo (.rem k rd ra rb) S (lineTaken k 4 ecDivZero pc d) ∧ runsTo (.remu k rd ra rb) S (lineTaken k 4 ecDivZero pc d))

/-- A word stored to local SRAM lies there little-endian, alone, and the next load of it gives it back. A triad that
executes, with nothing to replay, stores a word to an address of its local SRAM that it may write and read: the four
bytes at the address are those of the word, the lowest first; every other byte of its local SRAM is as before; and the
load of the word by the next instruction gives the value stored, with no register of the module and no byte of shared
SRAM changed. A load into the base register is included. -/
def Obligations.StoreThenLoad : Prop :=
  ∀ (S : State) (k : Fin 4) (rs ra rd : Fin 32) (disp : BitVec 16), let d := S.dev
    let c := (d.triad k).core
    let a := c.memAddr ra disp
    d.ready k → (d.triad k).replay = [] → inLocal a = true → d.accessFault k ecStore a 4 4 = none →
      d.accessFault k ecLoad a 4 4 = none → d.accessFault k ecFetch c.next.pc.toNat 4 4 = none →
      runsTo (.stw k rs ra disp) S (fun e =>
        (∀ x, (x < a ∨ a + 4 ≤ x) → Mem.get 0 (e.triad k).lram x = Mem.get 0 (d.triad k).lram x) ∧
        (∀ i, i < 4 → Mem.get 0 (e.triad k).lram (a + i) = BitVec.ofNat 8 ((c.getW rs).toNat / 256 ^ i)) ∧
        ∀ rest, runsTo (.ldw k rd ra disp) ⟨rest, e⟩ (fun g =>
          (g.triad k).core = (c.next.setW rd (c.getW rs)).next ∧ g.sram = d.sram ∧ g.regs = d.regs))

/-- Commands of the reference, STIME, the slot enables and VCORE complete (R30, R32, R37, R39, R49). -/
def Obligations.TimeKeeperCommandsComplete : Prop :=
  (∀ (S : State) (T : Time) (dev : Int), let d := S.dev.at T
      d.stopped = false → d.isSet TKP_STAT TKP_STAT_REF_OK = false → d.isSet TKP_STAT TKP_STAT_REF_FAIL = false → d.boot.step = .waitRef →
      runsTo (.refQualified T dev) S (fun e => e.isSet TKP_STAT TKP_STAT_REF_OK = true ∧ e.sysState = stProbe ∧ e.boot.step = .probe)) ∧
    (∀ (S : State) (T : Time) (dev : Int), let d := S.dev.at T
      d.stopped = false → d.isSet TKP_STAT TKP_STAT_REF_OK = false → d.isSet TKP_STAT TKP_STAT_REF_FAIL = false → 20 * msTicks ≤ d.since d.boot.relTime →
      runsTo (.refQualTimeout T dev) S (fun e => e.isSet TKP_STAT TKP_STAT_REF_FAIL = true ∧ logged d e EV_TKP_REF_FAIL ∧ e.boot.step = .stopped)) ∧
    (∀ (S : State) (T : Time) (noEdge : Bool) (dev : Int), let d := S.dev.at T
      d.stopped = false → d.isSet TKP_STAT TKP_STAT_REF_OK = true → d.isSet TKP_STAT TKP_STAT_REF_FAIL = false →
      runsTo (.refFail T noEdge dev) S (fun e => let m : Dev := (((d.refDev dev).setF TKP_STAT TKP_STAT_REF_FAIL 1).setF TKP_STAT TKP_STAT_RC_MODE 1).evt EV_TKP_REF_FAIL ([if noEdge then 1 else 2, 0] ++ le2 (unsignedOf 16 dev)); m.isSet TKP_STAT TKP_STAT_REF_FAIL = true ∧ m.isSet TKP_STAT TKP_STAT_RC_MODE = true ∧ logged d m EV_TKP_REF_FAIL ∧ e = ((((m.gafferAll EV_TKP_REF_FAIL).forEach (List.range 6) (fun n x => x.whenSome (x.port n).tx (fun q x => x.txOver n q.1))).closeWhere (fun z => z.port < 6)).linkDown))) ∧
    (∀ (S : State) (T : Time) (triad : Fin 4), let d := S.dev.at T
      d.stopped = false →
      runsTo (.stimeLoRead T triad) S (fun e => Tab.getD 0 e.tk.hiLatch triad = (d.now >>> 32).setWidth 32 ∧ e = { d with tk := e.tk })) ∧
    (∀ (S : State) (T : Time) (triad : Fin 4) (hi : Bool) (v : W), let d := S.dev.at T
      d.stopped = false → triad = 0 → d.inRun = false →
      runsTo (.slotenWrite T triad hi v) S (fun e => e.rd (if hi then TKP_SLOTEN1 else TKP_SLOTEN0) = v ∧ e = d.wr (if hi then TKP_SLOTEN1 else TKP_SLOTEN0) v)) ∧
    (∀ (S : State) (T : Time) (r : Time), let d := S.dev.at T
      d.stopped = false → d.vcore.readyAt = some r → secTicks ≤ d.since r → d.vcore.scaling = false →
      runsTo (.vcoreScalingStart T) S (fun e => e.vcore.scaling = true ∧ e.vcore.winAt = d.now ∧ e.vcore.ample = true)) ∧
    (∀ (S : State) (T : Time), let d := S.dev.at T
      d.stopped = false → d.vcore.scaling = true → 10 * msTicks ≤ d.since d.vcore.winAt → d.isSet SUP_STAT SUP_STAT_WARN = false → d.sup.recoveredAt = none → d.vcore.ample = true → d.vcore.normal = true → d.vcore.minSlack = none →
      runsTo (.vcoreWindowEnd T) S (fun e => e.fld SUP_VCORE SUP_VCORE_VCORE = max 720 (d.fld SUP_VCORE SUP_VCORE_VCORE - 5) % 1024 ∧ e.vcore.winAt = d.now))

/-- Commands of the calendar and its capture complete (R43, R44, R45). -/
def Obligations.CalendarCommandsComplete : Prop :=
  (∀ (S : State) (T : Time), let d := S.dev.at T
      d.por = false → d.isSet RTC_STAT RTC_STAT_OSCF = false →
      runsTo (.rtcOscFail T) S (fun e => e.isSet RTC_STAT RTC_STAT_OSCF = true ∧ logged d e EV_RTC_OSC_FAIL ∧ e.rd RTC_SEC = d.rd RTC_SEC)) ∧
    (∀ (S : State) (T : Time), let d := S.dev.at T
      d.por = true →
      runsTo (.vbkupLoss T) S (fun e => e.cal.lostPending = true)) ∧
    (∀ (S : State) (T : Time) (sid : Nat) (v : W) (audits : Bool) (x : Session), let d := S.dev.at T
      d.stopped = false → d.sec.sessions.find? (fun z => z.id = sid) = some x → audits = true →
      runsTo (.rtcSetsecWrite T sid v audits) S (fun e => e.rd RTC_SETSEC = v ∧ e.cal.loadArmed = true)) ∧
    (∀ (S : State) (T : Time), let d := S.dev.at T
      d.por = false → d.cal.loadArmed = true → d.fld RTC_SUB RTC_SUB_SUB = 0 →
      runsTo (.rtcLoad T) S (fun e => e.rd RTC_SEC = d.rd RTC_SETSEC ∧ e.rd RTC_SUB = 0 ∧ e.isSet RTC_STAT RTC_STAT_LOST = false ∧ e.cal.loadArmed = false ∧ logged d e EV_RTC_SET)) ∧
    (∀ (S : State) (T : Time) (v : W), let d := S.dev.at T
      d.stopped = false → v.bit 0 = true → d.cal.capBusy = false →
      runsTo (.rtcCapGo T v) S (fun e => e.isSet RTC_CAP RTC_CAP_DONE = false ∧ e.cal.capBusy = true)) ∧
    (∀ (S : State) (T : Time) (edge : Time), let d := S.dev.at T
      d.por = false → d.cal.capBusy = true →
      runsTo (.rtcCaptureDone T edge) S (fun e => e.rd RTC_CAPSEC = d.rd RTC_SEC ∧ e.rd RTC_CAPSUB = d.rd RTC_SUB ∧ e.isSet RTC_CAP RTC_CAP_DONE = true ∧ e.cal.capBusy = false)) ∧
    (∀ (S : State) (T : Time) (triad : Fin 4), let d := S.dev.at T
      d.stopped = false →
      runsTo (.rtcSubRead T triad) S (fun e => Tab.getD 0 e.cal.latch triad = d.rd RTC_SEC ∧ e = { d with cal := e.cal }))

/-- Commands of the feeds, the rails and their supervision complete (R428, R429, R430, R431, R432, R433, R434, R435,
R437). -/
def Obligations.SupplyCommandsComplete : Prop :=
  (∀ (S : State) (T : Time) (f : Fin 2) (va vb : Nat), let d := S.dev.at T
      d.por = true → 3000 < feedOf f va vb → d.sup.wired.contains f.val = false →
      runsTo (.feedWired T f va vb) S (fun e => e.sup.wired = d.sup.wired ++ [f.val])) ∧
    (∀ (S : State) (T : Time) (va vb : Nat), let d := S.dev.at T
      d.por = true → d.sup.wired ≠ [] → (∀ f ∈ d.sup.wired, 7400 < feedOf f va vb) →
      runsTo (.feedsValid T va vb) S (fun e => e.sup.valid = true)) ∧
    (∀ (S : State) (T : Time) (f : Fin 2) (va vb : Nat), let d := S.dev.at T
      d.por = true → d.sup.wired.contains f.val = true → feedOf f va vb ≤ 7400 → (∃ g ∈ d.sup.wired, 7400 < feedOf g va vb) →
      runsTo (.feedMissing T f va vb) S (fun e => e.sup.valid = true ∧ e.sup.missing = some f.val)) ∧
    (∀ (S : State) (T : Time) (va vb : Nat), let d := S.dev.at T
      d.por = false → d.vin va vb < 5500 →
      runsTo (.porAssert T va vb) S (fun e => e.por = true ∧ e.rd SUP_PORCAUSE = 1 ∧ e.sram = [])) ∧
    (∀ (S : State) (T : Time) (r : Fin 7), let d := S.dev.at T
      d.por = false →
      runsTo (.railFault T r) S (fun e => e.por = true ∧ e.rd SUP_PORCAUSE = BitVec.ofNat 32 (2 + 16 * r))) ∧
    (∀ (S : State) (T : Time) (va vb : Nat), let d := S.dev.at T
      d.por = false → d.vin va vb < 7000 → d.sysState < stReady →
      runsTo (.supWarning T va vb) S (fun e => e.boot.warned = true ∧ e.isSet SUP_STAT SUP_STAT_WARN = d.isSet SUP_STAT SUP_STAT_WARN)) ∧
    (∀ (S : State) (T : Time) (va vb : Nat), let d := S.dev.at T
      d.por = false → d.vin va vb < 7000 → d.inRun = true → d.isSet SUP_STAT SUP_STAT_WARN = false →
      runsTo (.supWarning T va vb) S (fun e => let m : Dev := (((d.feedsFall va vb).setF SUP_STAT SUP_STAT_WARN 1).setF SUP_FLT SUP_FLT_WARN 1).wr64 SUP_WARNSTAMP_LO SUP_WARNSTAMP_HI (d.feedsFall va vb).now; m.isSet SUP_STAT SUP_STAT_WARN = true ∧ m.isSet SUP_FLT SUP_FLT_WARN = true ∧ e = (m.supEvt EV_SUP_WARNING 0 va vb).warnRest va vb)) ∧
    (∀ (S : State) (T : Time) (va vb : Nat), let d := S.dev.at T
      d.por = false → d.isSet SUP_STAT SUP_STAT_WARN = true → d.isSet SUP_STAT SUP_STAT_RECOVERING = false → 7400 < d.vin va vb →
      runsTo (.supRecoveryStart T va vb) S (fun e => e.isSet SUP_STAT SUP_STAT_RECOVERING = true ∧ e.sup.recovAt = d.now)) ∧
    (∀ (S : State) (T : Time) (va vb : Nat), let d := S.dev.at T
      d.por = false → d.isSet SUP_STAT SUP_STAT_RECOVERING = true → d.vin va vb < 7000 →
      runsTo (.supRecoveryAbort T va vb) S (fun e => e.isSet SUP_STAT SUP_STAT_RECOVERING = false)) ∧
    (∀ (S : State) (T : Time) (va vb : Nat), let d := S.dev.at T
      d.por = false → d.isSet SUP_STAT SUP_STAT_RECOVERING = true → 5 * msTicks ≤ d.since d.sup.recovAt →
      runsTo (.supRecovered T va vb) S (fun e => e.isSet SUP_STAT SUP_STAT_WARN = false ∧ e.isSet SUP_STAT SUP_STAT_RECOVERING = false ∧ e.sup.recoveredAt = some d.now)) ∧
    (∀ (S : State) (T : Time) (f : Fin 2) (va vb : Nat), let d := S.dev.at T
      d.por = false → feedOf f va vb < 7000 → 7000 ≤ d.vin va vb → d.isSet SUP_STAT (okField f) = true →
      runsTo (.feedLost T f va vb) S (fun e => e.isSet SUP_STAT (okField f) = false ∧ e.isSet SUP_FLT SUP_FLT_FEEDLOST = true ∧ logged (((d.feeds va vb).setF SUP_STAT (okField f) 0).setF SUP_FLT SUP_FLT_FEEDLOST 1) e EV_SUP_FEED_LOST ∧ e = (((d.feeds va vb).setF SUP_STAT (okField f) 0).setF SUP_FLT SUP_FLT_FEEDLOST 1).supEvt EV_SUP_FEED_LOST f va vb)) ∧
    (∀ (S : State) (T : Time) (f : Fin 2) (va vb : Nat), let d := S.dev.at T
      d.por = false → 7400 < feedOf f va vb → d.isSet SUP_STAT (okField f) = false →
      runsTo (.feedReturn T f va vb) S (fun e => e.isSet SUP_STAT (okField f) = true ∧ logged ((d.feeds va vb).setF SUP_STAT (okField f) 1) e EV_SUP_FEED_RETURN ∧ e = ((d.feeds va vb).setF SUP_STAT (okField f) 1).supEvt EV_SUP_FEED_RETURN f va vb)) ∧
    (∀ (S : State) (T : Time) (f : Fin 2) (va vb : Nat), let d := S.dev.at T
      d.por = false → 40000 < feedOf f va vb → d.sup.ov.contains f.val = false →
      runsTo (.overvoltage T f va vb) S (fun e => e.sup.ov = d.sup.ov ++ [f.val] ∧ e.isSet SUP_STAT SUP_STAT_OV = true ∧ e.isSet SUP_FLT SUP_FLT_OV = true)) ∧
    (∀ (S : State) (T : Time) (f : Fin 2) (va vb : Nat), let d := S.dev.at T
      d.por = false → feedOf f va vb < 39000 → d.sup.ov.contains f.val = true →
      runsTo (.ovReconnect T f va vb) S (fun e => e.sup.ov = d.sup.ov.filter (· ≠ f.val) ∧ e.isSet SUP_STAT SUP_STAT_OV = !(d.sup.ov.filter (· ≠ f.val)).isEmpty)) ∧
    (∀ (S : State) (T : Time) (mv : Nat), let d := S.dev.at T
      d.por = false → mv < 2000 →
      runsTo (.vbkupMeasure T mv) S (fun e => e.sup.vbk = mv ∧ e.isSet RTC_STAT RTC_STAT_VBKUP_LOW = true)) ∧
    (∀ (S : State) (T : Time), let d := S.dev.at T
      d.por = false → d.isSet SUP_STAT SUP_STAT_STORM = true → d.dips60 ≤ 10 →
      runsTo (.stormClear T) S (fun e => e.isSet SUP_STAT SUP_STAT_STORM = false)) ∧
    (∀ (S : State) (T : Time) (cycles va vb : Nat), let d := S.dev.at T
      d.por = true → d.sup.valid = true → d.sup.missing = none →
      runsTo (.porRelease T cycles va vb) S (fun e => e.por = false ∧ e.boot.step = .waitRef ∧ logged (d.powerUp cycles va vb) e EV_SUP_POR_CAUSE))

/-- Register writes, unmapped accesses, slot firings and journal commits complete (R12, R13, R34, R305, R348). -/
def Obligations.RegisterSlotJournalCommandsComplete : Prop :=
  (∀ (S : State) (T : Time) (triad : Fin 4) (a : Nat) (v : W) (r : RegDesc), let d := S.dev.at T
      d.stopped = false → regDesc a = some r → r.acc = .rw → (r.t0 = false ∨ triad = 0) → a / 0x10000 ≠ 0x4030 → d.storeDrive triad a v = none → d.storeSystem triad a v = none →
      runsTo (.registerWrite T triad a v) S (fun e => e.rd a = (d.rd a &&& ~~~BitVec.ofNat 32 r.mask) ||| (v &&& BitVec.ofNat 32 r.mask) ∧ onlyRegs [a] d e ∧ sameMem d e)) ∧
    (∀ (S : State) (T : Time) (triad : Fin 4) (a : Nat) (v : W) (r : RegDesc), let d := S.dev.at T
      d.stopped = false → regDesc a = some r → r.acc = .cl → d.locked = true →
      runsTo (.registerWrite T triad a v) S (fun e => e = d.lockedWrite triad a ∧ logged d e EV_SYS_LOCKED_WRITE ∧ e.rd a = d.rd a)) ∧
    (∀ (S : State) (T : Time) (triad : Fin 4) (a : Nat) (v : W) (r : RegDesc), let d := S.dev.at T
      d.stopped = false → regDesc a = some r → r.acc = .w1c → r.w1c ≠ 0 → a / 0x10000 ≠ 0x4030 → d.storeDrive triad a v = none → d.storeSystem triad a v = none →
      runsTo (.registerWrite T triad a v) S (fun e => e.rd a = d.rd a &&& ~~~(v &&& BitVec.ofNat 32 r.w1c) ∧ onlyRegs [a] d e ∧ sameMem d e)) ∧
    (∀ (S : State) (T : Time) (triad : Fin 4) (a : Nat) (write : Bool), let d := S.dev.at T
      d.stopped = false → inPeriph a = true → regDesc a = none →
      runsTo (.unmappedAccess T triad a write) S (fun e => e = d.evtC clsWarning EV_SYS_UNMAPPED_ACCESS triad (le4 a ++ [triad.val, b2n write]) ∧ logged d e EV_SYS_UNMAPPED_ACCESS)) ∧
    (∀ (S : State) (T : Time) (n : Fin 64) (upset : List (Fin 48)) (pads : List (Fin 48 × Int × Int)), let d := S.dev.at T
      d.stopped = false → d.slotFires n = true → (d.deliveredNow.any (fun x => x.1 = 0 && x.2.2 = n.val)) = false → n.val ≠ 63 →
      runsTo (.slotFire T n upset pads) S (fun e => (let u := (d.noteTrigger 0 n n).inc32 (TKP_SLOT_CNT n); u.rd (TKP_SLOT_CNT n) = d.rd (TKP_SLOT_CNT n) + 1 ∧ e = ((u.slotTargets n).filter (fun p => p.1 ≠ 0)).foldl (fun x p => x.fireTarget n p.1 p.2 (upset.map Fin.val) (pads.map (fun p => (p.1.val, p.2.1, p.2.2)))) u))) ∧
    (∀ (S : State) (T : Time) (n : Fin 64) (upset : List (Fin 48)) (pads : List (Fin 48 × Int × Int)), let d := S.dev.at T
      d.stopped = false → d.slotFires n = true → (d.deliveredNow.any (fun x => x.1 = 0 && x.2.2 = n.val)) = false → n.val = 63 →
      runsTo (.slotFire T n upset pads) S (fun e => e = ((d.noteTrigger 0 n n).inc32 (TKP_SLOT_CNT n)).supercycle.telSlot)) ∧
    (∀ (S : State) (T : Time) (r : JReq) (rest : List JReq), let d := S.dev.at T
      d.stopped = false → d.jrn.reqs = r :: rest → d.paired = false → (({ d with jrn := { d.jrn with reqs := rest } } : Dev).commitRecord r.kind r.que r.seq r.body false).paired = false →
      runsTo (.journalCommit T) S (fun e => e = ((({ d with jrn := { d.jrn with reqs := rest } } : Dev).commitRecord r.kind r.que r.seq r.body false).recordDone r false).commitWarned)) ∧
    (∀ (S : State) (T : Time) (seq jp : Nat), let d := S.dev.at T
      d.stopped = false → d.paired = true → d.linkUp = true → seq = d.lnk.rxSeq →
      runsTo (.jackReceived T seq jp) S (fun e => let m := d.modLnk (fun l => { l with rxSeq := (seq + 1) % 2 ^ 32 }); e = (m.jrn.unacked.filter (fun r => r.jpos ≤ jp)).foldl (fun x r => x.recordDone r false) { m with jrn := { m.jrn with unacked := m.jrn.unacked.filter (fun r => !(r.jpos ≤ jp)) } })) ∧
    (∀ (S : State) (T : Time), let d := S.dev.at T
      d.stopped = false → d.jrn.unacked.any (fun r => decide (d.fld LNK_CFG LNK_CFG_JTO * 10 * usTicks ≤ d.since r.sentAt)) = true →
      runsTo (.jackTimeout T) S (fun e => let m : Dev := { d with jrn := { d.jrn with unacked := [], live := d.jrn.live.map (fun x => if d.jrn.unacked.any (fun r => r.jpos = x.jpos) then { x with isLocal := true } else x) } }; e = d.jrn.unacked.foldl (fun x r => x.recordDone r true) (((m.when (m.role = roleActive) (fun x => x.setRole roleAlone)).setF LNK_FLT LNK_FLT_JRNFAIL 1).evt EV_LNK_JRN_MIRROR_FAIL [])))

/-- Every step of start-up, RUN and a commanded restart complete (R47, R48, R50, R51, R54, R55, R65, R68, R70, R71,
R357). -/
def Obligations.StartUpCommandsComplete : Prop :=
  (∀ (S : State) (T : Time) (mode : Fin 3), let d := S.dev.at T
      d.stopped = false → d.boot.step = .probe → d.boot.warned = false → mode ≠ 0 →
      runsTo (.flashProbe T mode) S (fun e => e.sysState = stVerify ∧ e.isSet SYS_BOOT SYS_BOOT_QUAD = decide (mode.val = 2) ∧ e.boot.step = .headers)) ∧
    (∀ (S : State) (T : Time) (okA okB : Bool), let d := S.dev.at T
      d.stopped = false → d.boot.step = .headers → ((d.readKeys okA okB).putTable d.sec.table).boot.warned = false → ((d.readKeys okA okB).putTable d.sec.table).slotGood 0 = true → ((d.readKeys okA okB).putTable d.sec.table).slotGood 1 = false →
      runsTo (.headerCheck T okA okB) S (fun e => let m := (d.readKeys okA okB).putTable d.sec.table; e = { m with boot := { m.boot with candidate := 0, firstCand := 0, otherGood := false, step := .body } })) ∧
    (∀ (S : State) (T : Time), let d := S.dev.at T
      d.stopped = false → d.boot.step = .body → d.boot.warned = false → d.hashOk d.boot.candidate = true →
      runsTo (.bodyReadDone T) S (fun e => e = d.toStep .signature)) ∧
    (∀ (S : State) (T : Time) (rs : List Rec), let d := S.dev.at T
      d.stopped = false → d.boot.step = .signature → d.boot.warned = false → d.signed d.boot.candidate = true → (d.slotRecs d.boot.candidate).toOption = some rs → d.progReject rs = none →
      runsTo (.signatureVerify T) S (fun e => e = d.toStep .firstPass)) ∧
    (∀ (S : State) (T : Time) (rs : List Rec), let d := S.dev.at T
      d.stopped = false → d.boot.step = .firstPass → d.boot.warned = false → d.firstPass d.boot.candidate = none → (d.slotRecs d.boot.candidate).toOption = some rs →
      runsTo (.firstPass T) S (fun e => e.boot.records = rs ∧ e.boot.step = .secondPass ∧ e.sysState = stApply ∧ onlyRegs [SYS_STATE] d e ∧ sameMem d e)) ∧
    (∀ (S : State) (T : Time) (side okA okB : Bool), let d := S.dev.at T
      d.stopped = false → d.boot.step = .secondPass → (d.readCull okA okB).t0Culled < 2 → (((d.readCull okA okB).applyAll side).toStep .thirdPass).boot.warned = false →
      runsTo (.secondPass T side okA okB) S (fun e => e = ((d.readCull okA okB).applyAll side).toStep .thirdPass)) ∧
    (∀ (S : State) (T : Time), let d := S.dev.at T
      d.stopped = false → d.boot.step = .thirdPass → d.applyBroken = false → d.bootCandidate.markAll.boot.warned = false →
      runsTo (.thirdPass T) S (fun e => e = (d.bootCandidate.markAll.setSys stTest).toStep .calibrate ∧ e.sysState = stTest ∧ e.boot.step = .calibrate)) ∧
    (∀ (S : State) (T : Time) (fails : List (Nat × Nat × Nat)), let d := S.dev.at T
      d.stopped = false → d.boot.step = .calibrate → (d.startCalibration fails).boot.warned = false → fails = [] → d.calibrateAll.boot.step = .calibrate →
      runsTo (.startCalibration T fails) S (fun e => e = d.calibrateAll.toStep .journal)) ∧
    (∀ (S : State) (T : Time) (bad : List Nat), let d := S.dev.at T
      d.stopped = false → d.boot.step = .journal → ((d.jrnRecover bad).jrnReplay).boot.warned = false →
      runsTo (.journalRecovery T bad) S (fun e => e = ((d.jrnRecover bad).jrnReplay).toStep .lock)) ∧
    (∀ (S : State) (T : Time), let d := S.dev.at T
      d.stopped = false → d.boot.step = .lock → d.boot.warned = false →
      runsTo (.configLock T) S (fun e => let m : Dev := d.lockedTriads; let r := ({ m with red := { m.red with lastKick := m.now } } : Dev).stateReady.enterKeys; e = { r with vcore := { r.vcore with readyAt := some r.now } } ∧ e.sysState = stReady ∧ e.boot.step = .done)) ∧
    (∀ (S : State) (T : Time), let d := S.dev.at T
      d.stopped = false → d.boot.step = .paused →
      runsTo (.startResume T) S (fun e => e.rd SYS_BOOT = 0 ∧ e.sysState = stProbe ∧ e.boot.step = .probe)) ∧
    (∀ (S : State) (T : Time) (triad : Fin 4), let d := S.dev.at T
      d.stopped = false → triad = 0 → d.sysState = stReady →
      runsTo (.run T triad) S (fun e => e = (((d.wr64 TKP_EPOCH_LO TKP_EPOCH_HI d.now).setSys stRun).putBit TKP_SLOTEN1 31 true).runBegins)) ∧
    (∀ (S : State) (T : Time) (triad : Fin 4) (key : Nat), let d := S.dev.at T
      d.stopped = false → triad = 0 → key = 0xA5 → d.restartBar = none →
      runsTo (.sysCtrlRestart T triad key) S (fun e => e = d.restart rstRestart ∧ e.rd SYS_RSTCAUSE = 2 ∧ e.sysState = stProbe ∧ e.boot.step = .probe)) ∧
    (∀ (S : State) (T : Time) (s : Nat), let d := S.dev.at T
      d.stopped = false → d.sec.slotCheck = some s →
      runsTo (.slotWriteCheck T) S (fun e => e.sec.slotCheck = none ∧ logged d e EV_SYS_SLOT_WRITTEN ∧ sameMem d e))

/-- Commands of the leg channels and the gate link complete (R78, R81, R83, R84, R91, R92, R93, R95, R99, R100). -/
def Obligations.LegCommandsComplete : Prop :=
  (∀ (S : State) (T : Time) (n : Fin 48), let d := S.dev.at T
      d.stopped = false → d.isSet (LEG_STAT n) LEG_STAT_RETIRED = false →
      runsTo (.legParityError T n) S (fun e => e = d.legMismatch n)) ∧
    (∀ (S : State) (T : Time) (triad : Fin 4) (n : Fin 48) (b : Bool) (v : W), let d := S.dev.at T
      d.stopped = false → d.shadowOpen n = true →
      runsTo (.legShaWrite T triad n b v) S (fun e => e.rd (if b then LEG_SHB n else LEG_SHA n) = v &&& 0x00FFFFFF ∧ onlyRegs [(if b then LEG_SHB n else LEG_SHA n)] d e ∧ sameMem d e ∧ e.legs = d.legs)) ∧
    (∀ (S : State) (T : Time) (triad : Fin 4) (n : Fin 48) (b : Bool) (v : W), let d := S.dev.at T
      d.stopped = false → d.shadowOpen n = false →
      runsTo (.legShaWrite T triad n b v) S (fun e => e = d.evtC clsInfo EV_LEG_SHADOW_WRITE_IGNORED triad [n] ∧ logged d e EV_LEG_SHADOW_WRITE_IGNORED ∧ onlyRegs [] d e)) ∧
    (∀ (S : State) (T : Time) (triad : Fin 4) (n : Fin 48) (v : W), let d := S.dev.at T
      d.stopped = false → d.shadowOpen n = true →
      runsTo (.legShiftWrite T triad n v) S (fun e => e.rd (LEG_SHIFT n) = v ∧ (e.legOf n).fresh = true ∧ (e.legOf n).parkSet = false ∧ onlyRegs [LEG_SHIFT n] d e ∧ sameMem d e)) ∧
    (∀ (S : State) (T : Time) (n : Fin 48) (gl : Bool) (resid : Int) (mono : Bool) (span : Nat), let d := S.dev.at T
      d.stopped = false → d.isSet (LEG_STAT n) LEG_STAT_RETIRED = false → resid.natAbs ≤ 40 → mono = true → 25000 ≤ span → d.inRun = true → (d.legOwner n).isSome = true →
      runsTo (.lineCalDone T n gl resid mono span) S (fun e => (e.legOf n).newGL = (if gl then some d.now else (d.legOf n).newGL) ∧ (e.legOf n).newGH = (if gl then (d.legOf n).newGH else some d.now) ∧ onlyRegs [] d e)) ∧
    (∀ (S : State) (T : Time) (n : Fin 48) (gl : Bool) (resid : Int) (mono : Bool) (span : Nat), let d := S.dev.at T
      d.stopped = false → d.isSet (LEG_STAT n) LEG_STAT_RETIRED = false → (40 < resid.natAbs ∨ mono = false ∨ span < 25000) →
      runsTo (.lineCalDone T n gl resid mono span) S (fun e => e = (d.incSat (LEG_CNT n) LEG_CNT_CALF).calGust n EV_LEG_CAL_FAIL)) ∧
    (∀ (S : State) (T : Time) (n : Fin 48) (gl : Bool), let d := S.dev.at T
      d.stopped = false → 4 * msTicks < d.lineAge n gl → d.isSet (LEG_STAT n) LEG_STAT_CAL_AGED = false →
      runsTo (.calAged T n gl) S (fun e => e.isSet (LEG_STAT n) LEG_STAT_CAL_AGED = true ∧ logged d e EV_LEG_CAL_AGED)) ∧
    (∀ (S : State) (T : Time) (n : Fin 48) (gl : Bool), let d := S.dev.at T
      d.stopped = false → 20 * msTicks ≤ d.lineAge n gl →
      runsTo (.lineAgeLimit T n gl) S (fun e => e = d.gale 3 n gaCal 0xF)) ∧
    (∀ (S : State) (T : Time) (n : Fin 48), let d := S.dev.at T
      d.stopped = false → d.holdsToken = true → d.isSet (LEG_STAT n) LEG_STAT_TXEN = true → (d.legOf n).enSeq = none → (d.legOf n).pull = false →
      runsTo (.glPoll T n) S (fun e => e = (d.modLeg n (fun l => { l with pollTodo := d.glAddrs n })).glNext n)) ∧
    (∀ (S : State) (T : Time) (n : Fin 48) (bytes : List Byte) (late : Bool) (q : GlReq), let d := S.dev.at T
      d.stopped = false → (d.legOf n).inflight = some q → late = false → goodResponse q bytes = true →
      runsTo (.glResponse T n bytes late) S (fun e => e = d.glGood n q (bytes.getD 1 0).toNat (leNat ((bytes.drop 2).take 2)))) ∧
    (∀ (S : State) (T : Time) (n : Fin 48) (bytes : List Byte) (late : Bool) (q : GlReq), let d := S.dev.at T
      d.stopped = false → (d.legOf n).inflight = some q → (late = true ∨ goodResponse q bytes = false) →
      runsTo (.glResponse T n bytes late) S (fun e => e = d.glBad n q false)) ∧
    (∀ (S : State) (T : Time) (n : Fin 48) (q : GlReq), let d := S.dev.at T
      d.stopped = false → (d.legOf n).inflight = some q →
      runsTo (.glNoack T n) S (fun e => e = d.glBad n q true)) ∧
    (∀ (S : State) (T : Time) (n : Fin 48), let d := S.dev.at T
      d.stopped = false → (d.legOf n).pull = false →
      runsTo (.glFaultPull T n) S (fun e => e = (((d.modLeg n (fun l => { l with pull := true, pulled := true, pollTodo := [] })).setF (LEG_FLT n) LEG_FLT_PULL 1).evt EV_LEG_GL_FAULT_PULL [n.val]).evalGroups)) ∧
    (∀ (S : State) (T : Time) (n : Fin 48), let d := S.dev.at T
      d.stopped = false → (d.legOf n).pull = true →
      runsTo (.faultPullEnd T n) S (fun e => e = ((d.modLeg n (fun l => { l with pull := false })).evalGroups).glNext n)) ∧
    (∀ (S : State) (T : Time) (n : Fin 48) (errGH errGL : Int) (s : EnSeq), let d := S.dev.at T
      d.stopped = false → (d.legOf n).enSeq = some s → s.todo = [] → d.holdsToken = true → (d.padCheck n errGH errGL).isSet (LEG_STAT n) LEG_STAT_RETIRED = false →
      runsTo (.enableSequenceDone T n errGH errGL) S (fun e => let m := ((((d.padCheck n errGH errGL).modLeg n (fun l => { l with enSeq := none })).setF (LEG_STAT n) LEG_STAT_TXEN 1).legRefresh n).glNext n; e = m.whenSome (m.legOwner n) (fun f x => x.tryEnable f))) ∧
    (∀ (S : State) (T : Time) (n : Fin 48), let d := S.dev.at T
      d.stopped = false → d.holdsToken = true → d.isSet (LEG_STAT n) LEG_STAT_TXEN = true →
      runsTo (.glContention T n) S (fun e => let m := ((d.releaseToken 4).setF (LEG_FLT n) LEG_FLT_CONTENTION 1).evt EV_LEG_GL_CONTENTION [n.val]; e = (m.when (!m.paired) (fun x => { x with red := { x.red with refuseAll := true } })).gafferAll EV_LEG_GL_CONTENTION)) ∧
    (∀ (S : State) (T : Time) (triad : Fin 4) (n : Fin 48) (v : W), let d := S.dev.at T
      d.stopped = false → triad = 0 → d.isSet (LEG_GLREQ n) LEG_GLREQ_GO = false → v.bit 31 = true → ((d.wr (LEG_GLREQ n) (v &&& 0xBCFFFFFF)).wr (LEG_GLRSP n) 0).holdsToken = true → ((d.wr (LEG_GLREQ n) (v &&& 0xBCFFFFFF)).wr (LEG_GLRSP n) 0).isSet (LEG_STAT n) LEG_STAT_RETIRED = false → v.fld LEG_GLREQ_OP ≠ 1 →
      runsTo (.glRequest T triad n v) S (fun e => e = ((d.wr (LEG_GLREQ n) (v &&& 0xBCFFFFFF)).wr (LEG_GLRSP n) 0).glNext n))

/-- Commands of the sampling converters complete (R103, R104, R105, R111, R113, R114, R115, R116, R117). -/
def Obligations.ConverterCommandsComplete : Prop :=
  (∀ (S : State) (T : Time) (ofs : Int) (gain : Nat) (inl : Int), let d := S.dev.at T
      d.stopped = false → d.spareConv < 9 → ((d.calResult d.spareConv ofs gain inl).conv d.spareConv).lastBad = false →
      runsTo (.adcSpareCalDone T ofs gain inl) S (fun e => let m := (d.calResult d.spareConv ofs gain inl).setF ADC_STAT ADC_STAT_CALBUSY 0; e = m.whenSome m.swapSlot (fun k x => x.modSlot k (fun y => { y with wantSince := some x.now })))) ∧
    (∀ (S : State) (T : Time) (k : Fin 8) (outgoing incoming : Int), let d := S.dev.at T
      d.stopped = false → d.spareConv < 9 → d.slotConv k < 9 → d.isSet ADC_STAT ADC_STAT_CALBUSY = false → d.slotFree k = true → (d.adcSlot k).wantSince.isSome = true → (outgoing - incoming).natAbs ≤ 8 →
      runsTo (.adcSwapCheck T k outgoing incoming) S (fun e => e.slotConv k = d.spareConv ∧ e.spareConv = d.slotConv k ∧ e.isSet ADC_STAT ADC_STAT_CALBUSY = true ∧ (e.adcSlot k).wantSince = none)) ∧
    (∀ (S : State) (T : Time) (k : Fin 8) (r : Time), let d := S.dev.at T
      d.stopped = false → (d.adcSlot k).wantSince = some r → 10 * msTicks ≤ d.since r →
      runsTo (.swapDeferred T k) S (fun e => e.isSet ADC_FLT ADC_FLT_SWAPDEF = true ∧ e.bkg.deferred = d.bkg.deferred + 1)) ∧
    (∀ (S : State) (T : Time) (n : Fin 9), let d := S.dev.at T
      d.stopped = false → 200 * msTicks ≤ d.since (d.conv n).calAt →
      runsTo (.adcCalAged T n) S (fun e => e.isSet (ADC_CALAGE n) ADC_CALAGE_AGED = true ∧ onlyRegs [ADC_CALAGE n] d e ∧ sameMem d e)) ∧
    (∀ (S : State) (T : Time) (v : W), let d := S.dev.at T
      d.stopped = false →
      runsTo (.adcSeqgoWrite T v) S (fun e => e = d.forEach (oneBits 32 v.toNat) (fun s x => x.seqTrigger s false))) ∧
    (∀ (S : State) (T : Time) (q : Fin 32), let d := S.dev.at T
      d.stopped = false → d.groupReady q = true →
      runsTo (.adcGroupStart T q) S (fun e => (e.seqRun q).waiting = false ∧ (e.seqRun q).busy = d.group q (d.seqRun q).grp)) ∧
    (∀ (S : State) (T : Time) (k : Fin 8) (nv : Int) (high : Bool) (t : Nat), let d := S.dev.at T
      d.stopped = false → (d.adcSlot k).urgent = some t →
      runsTo (.adcConversionDone T k nv high) S (fun e => e = d.urgDone k t nv high)) ∧
    (∀ (S : State) (T : Time) (k : Fin 8) (nv : Int) (high : Bool) (p : Nat × Nat), let d := S.dev.at T
      d.stopped = false → (d.adcSlot k).urgent = none → (d.adcSlot k).busy = some p →
      runsTo (.adcConversionDone T k nv high) S (fun e => e = d.stepDone k p.1 p.2 nv high)) ∧
    (∀ (S : State) (T : Time) (triad : Fin 4) (k : Fin 8) (v : W), let d := S.dev.at T
      d.stopped = false → (d.rdOwn triad (ADC_URGREQ k)).bit 31 = false → v.bit 31 = true → ((v.fld ADC_URGREQ_ACQ < 8 || v.fld ADC_URGREQ_GAIN = 3 || (v.fld ADC_URGREQ_DIFF = 1 && (v.fld ADC_URGREQ_INPUT % 2 = 1 || 96 ≤ v.fld ADC_URGREQ_INPUT)) || (96 ≤ v.fld ADC_URGREQ_INPUT && v.fld ADC_URGREQ_GAIN ≠ 0)) : Bool) = false →
      runsTo (.adcUrgreqWrite T triad k v) S (fun e => e = ((d.wrOwn triad (ADC_URGREQ k) (v &&& 0x80FF07FF)).wrOwn triad (ADC_URGRES k) 0).modSlot k (fun x => { x with queue := x.queue ++ [triad.val] }) ∧ (e.adcSlot k).queue = (d.adcSlot k).queue ++ [triad.val])) ∧
    (∀ (S : State) (T : Time) (k : Fin 8) (t : Nat) (r : List Nat), let d := S.dev.at T
      d.stopped = false → (d.adcSlot k).queue = t :: r → d.slotFree k = true → (d.waiters k).all (fun s => !(d.seqRun s).sched) = true → d.fits k (d.now.toNat + (d.rdOwn t (ADC_URGREQ k)).fld ADC_URGREQ_ACQ * 80 + convTicks) = true →
      runsTo (.adcUrgentStart T k) S (fun e => e = (d.modSlot k (fun x => { x with urgent := some t, queue := r })).wakeFor (d.slotConv k))) ∧
    (∀ (S : State) (T : Time) (n : Fin 9), let d := S.dev.at T
      d.stopped = false → d.isSet ADC_PDCFG ADC_PDCFG_PDEN = true → d.spareConv ≠ n → d.fld ADC_PDCFG ADC_PDCFG_IDLE * usTicks ≤ d.since (d.conv n).lastConv → (List.range 8).any (fun k => d.slotConv k = n && !d.slotFree k) = false →
      runsTo (.adcPowerDown T n) S (fun e => (e.conv n).down = true ∧ onlyRegs [] d e ∧ sameMem d e)) ∧
    (∀ (S : State) (T : Time) (n : Fin 9), let d := S.dev.at T
      d.stopped = false →
      runsTo (.adcWake T n) S (fun e => (e.conv n).down = false ∧ onlyRegs [] d e ∧ sameMem d e))

/-- Commands of the delta-sigma channels and the window comparators complete (R124, R125, R126, R127, R132, R136,
R138, R140). -/
def Obligations.DeltaSigmaAndComparatorCommandsComplete : Prop :=
  (∀ (S : State) (T : Time) (n : Fin 32) (y : Int), let d := S.dev.at T
      d.stopped = false → d.isSet (DSM_STAT n) DSM_STAT_RUN = true → d.dsmRuns n = true →
      runsTo (.dsmWindowResult T n y) S (fun e => e = (d.setF (DSM_STAT n) DSM_STAT_RUN 0).dsmOutput n y ((d.dsm n).winStart + BitVec.ofNat 64 (d.fld (DSM_CFG n) DSM_CFG_ORDER * (d.fld (DSM_CFG n) DSM_CFG_DEC - 1) * d.dsmClk n / 2)))) ∧
    (∀ (S : State) (T : Time) (n : Fin 32) (y : Int), let d := S.dev.at T
      d.stopped = false → d.dsmRuns n = true → d.isSet (DSM_CFG n) DSM_CFG_MODE = true →
      runsTo (.dsmContOutput T n y) S (fun e => e = d.dsmOutput n y d.now)) ∧
    (∀ (S : State) (T : Time) (n : Fin 32) (y : Int), let d := S.dev.at T
      d.stopped = false → d.dsmRuns n = true → d.isSet (DSM_OCCFG n) DSM_OCCFG_OCEN = true → (decide (signedOf 8 (d.fld (DSM_OCCFG n) DSM_OCCFG_OCHI) < y ∨ y < signedOf 8 (d.fld (DSM_OCCFG n) DSM_OCCFG_OCLO)) = true) → d.isSet (DSM_STAT n) DSM_STAT_OC = false → d.fld (DSM_OCCFG n) DSM_OCCFG_OCCNT + 1 ≤ (d.dsm n).ocRun + 1 →
      runsTo (.dsmFastOutput T n y) S (fun e => e = ((((d.modDsm n (fun x => { x with ocRun := x.ocRun + 1, okRun := 0 })).setF (DSM_STAT n) DSM_STAT_OC 1).setF (DSM_FLT n) DSM_FLT_OCTRIP 1).evtRated EV_DSM_OVERCURRENT n [n.val]).evalGroups)) ∧
    (∀ (S : State) (T : Time) (n : Fin 32) (stuck : Bool), let d := S.dev.at T
      d.stopped = false → d.dsmRuns n = true → stuck = true →
      runsTo (.dsmStuck T n stuck) S (fun e => e = (((d.setF (DSM_STAT n) DSM_STAT_STUCK 1).setF (DSM_FLT n) DSM_FLT_STUCK 1).evt EV_DSM_STUCK [n.val]).gust 6 n)) ∧
    (∀ (S : State) (T : Time) (n : Fin 32) (stuck : Bool), let d := S.dev.at T
      d.stopped = false → d.dsmRuns n = true → stuck = false →
      runsTo (.dsmStuck T n stuck) S (fun e => e.isSet (DSM_STAT n) DSM_STAT_STUCK = false ∧ onlyRegs [DSM_STAT n] d e ∧ sameMem d e)) ∧
    (∀ (S : State) (T : Time) (n : Fin 64) (news : List (Bool × Bool)) (p : Bool × Bool) (r : List (Bool × Bool)), let d := S.dev.at T
      d.stopped = false → news = p :: r → d.windowRuns n = true → d.isSet (CMP_STAT n) CMP_STAT_TRIPPED = false → d.sampleBeyond n p = true → filtM (d.fld (CMP_CFG n) CMP_CFG_FILT) ≤ (d.windowHist n news).countP id →
      runsTo (.cmpTrip T n news) S (fun e => let m := ((((d.setWindow n true).rawSides n p).setF (CMP_STAT n) CMP_STAT_SIDE_HI (b2n (p.1 && d.sideUsed n false))).setF (CMP_STAT n) CMP_STAT_SIDE_LO (b2n (p.2 && d.sideUsed n true))); e = ((((m.incSat (CMP_CNT n) CMP_CNT_TRIPS).setF (CMP_FLT n) CMP_FLT_TRIP 1).evtRated EV_CMP_TRIP n [n.val, if p.1 && d.sideUsed n false then 1 else 2]).evalGroups))) ∧
    (∀ (S : State) (T : Time) (n : Fin 64) (news : List (Bool × Bool)) (p : Bool × Bool) (r : List (Bool × Bool)), let d := S.dev.at T
      d.stopped = false → news = p :: r → d.windowRuns n = true → d.isSet (CMP_STAT n) CMP_STAT_TRIPPED = true → d.sampleBeyond n p = false → filtM (d.fld (CMP_CFG n) CMP_CFG_FILT) ≤ (d.windowHist n news).countP (fun b => !b) →
      runsTo (.cmpNormal T n news) S (fun e => e = ((d.setWindow n false).rawSides n p).evalGroups)) ∧
    (∀ (S : State) (T : Time) (n : Fin 64) (failed : Bool), let d := S.dev.at T
      d.stopped = false → d.windowRuns n = true → d.sideUsed n (2 ≤ (d.cmp n).turn) = true →
      runsTo (.cmpTestTick T n failed) S (fun e => e = ((d.modCmp n (fun x => { x with turn := if failed then (d.cmp n).turn else d.nextCheck n (d.cmp n).turn })).checkEnds n (d.cmp n).turn failed (fun x => ((x.setF (CMP_FLT n) CMP_FLT_TESTFAIL 1).incSat (CMP_CNT n) CMP_CNT_TESTF).evt EV_CMP_TEST_FAIL [n.val, (d.cmp n).turn])).reqWindow n true failed)) ∧
    (∀ (S : State) (T : Time) (n : Fin 64) (err : Int) (q : Nat), let d := S.dev.at T
      d.stopped = false → (d.cmp n).reread = some q →
      runsTo (.cmpDacReread T n err) S (fun e => e = d.dacReadback n q err)) ∧
    (∀ (S : State) (T : Time) (n : Fin 64) (code : Nat), let d := S.dev.at T
      d.stopped = false → d.isSet (CMP_STAT n) CMP_STAT_DEGRADED = true → (d.cmp n).degTripped = false → filtM (d.fld (CMP_CFG n) CMP_CFG_FILT) ≤ ((d.sampleBeyond n (d.degradedSides n code) :: (d.cmp n).degHist).take (filtN (d.fld (CMP_CFG n) CMP_CFG_FILT))).countP (fun x => x == true) →
      runsTo (.cmpDegradedRead T n code) S (fun e => let m := d.modCmp n (fun c => { c with degHist := List.replicate (filtN (d.fld (CMP_CFG n) CMP_CFG_FILT)) true, degTripped := true }); e = m.forEach (m.cmpFeeds n) (fun f x => x.gafferSafe f EV_CMP_DEGRADED)))

/-- Commands of the trip inputs, software trips and releases complete (R144, R147). -/
def Obligations.TripCommandsComplete : Prop :=
  (∀ (S : State) (T : Time) (i : Fin 4), let d := S.dev.at T
      d.stopped = false → (d.fld TRP_EXTCFG TRP_EXTCFG_EN).testBit i = true →
      runsTo (.tripInAssert T i) S (fun e => e = (d.putBit TRP_STAT (16 + i.val) true).evalGroups)) ∧
    (∀ (S : State) (T : Time) (i : Fin 4), let d := S.dev.at T
      d.stopped = false → (d.fld TRP_EXTCFG TRP_EXTCFG_EN).testBit i = true →
      runsTo (.tripInDeassert T i) S (fun e => e = (d.putBit TRP_STAT (16 + i.val) false).evalGroups)) ∧
    (∀ (S : State) (T : Time) (triad : Fin 4) (v : W), let d := S.dev.at T
      d.stopped = false → triad = 0 →
      runsTo (.trpSwtripWrite T triad v) S (fun e => e = (d.wr TRP_SWTRIP (v &&& 0xFFFF)).evalGroups)) ∧
    (∀ (S : State) (T : Time) (triad : Fin 4) (v : W), let d := S.dev.at T
      d.stopped = false → triad ≠ 0 →
      runsTo (.trpSwtripWrite T triad v) S (fun e => e = d.lockedWrite triad TRP_SWTRIP ∧ logged d e EV_SYS_LOCKED_WRITE ∧ onlyRegs [] d e)) ∧
    (∀ (S : State) (T : Time) (triad : Fin 4) (v : W), let d := S.dev.at T
      d.stopped = false → triad = 0 →
      runsTo (.trpRelWrite T triad v) S (fun e => e = d.forEach (oneBits 16 v.toNat) (fun g x => x.t0Release g))) ∧
    (∀ (S : State) (T : Time) (g : Fin 16) (r : Time), let d := S.dev.at T
      d.stopped = false → d.latching = true → d.asserted g = true → d.isSet (TRP_GCFG g) TRP_GCFG_AUTOREL = true → (d.trp g).falseSince = some r → d.fld (TRP_GCFG g) TRP_GCFG_RELDLY * usTicks ≤ d.since r → (d.trp g).hardSrc = false → (d.trp g).autoStop = false → d.trueSources g = [] →
      runsTo (.autoRelease T g) S (fun e => let m := d.releaseGroup g true; e = m.modTrp g (fun s => { s with autoStop := m.fld (TRP_GCFG g) TRP_GCFG_AUTOMAX ≤ m.autoRecent g, autoRels := s.autoRels.take 8 })))

/-- Commands of the cascade engines complete (R21, R163, R166, R167, R174, R175, R177). -/
def Obligations.EngineCommandsComplete : Prop :=
  (∀ (S : State) (T : Time) (p : Fin 16) (v : W), let d := S.dev.at T
      d.stopped = false →
      runsTo (.cenGoWrite T p v) S (fun e => e = d.forEach (oneBits 4 v.toNat) (fun c x => if x.cascTrig (4 * p + c) = 3 then x.cascTrigger (4 * p + c) x.now else x))) ∧
    (∀ (S : State) (T : Time) (i : Fin 64) (differ : Bool), let d := S.dev.at T
      d.stopped = false → d.mayStart i = true → (differ = false ∨ d.isSet (CEN_CFG (pairOf i)) CEN_CFG_SPLIT = true) →
      runsTo (.cenActivationStart T i differ) S (fun e => e = (d.startCascade i).runCascade i)) ∧
    (∀ (S : State) (T : Time) (i : Fin 64) (differ : Bool), let d := S.dev.at T
      d.stopped = false → d.mayStart i = true → differ = true → d.isSet (CEN_CFG (pairOf i)) CEN_CFG_SPLIT = false →
      runsTo (.cenActivationStart T i differ) S (fun e => e = (d.startCascade i).pairRestart (pairOf i))) ∧
    (∀ (S : State) (T : Time) (i : Fin 64) (sigDiffer : Bool) (q : Nat), let d := S.dev.at T
      d.stopped = false → d.cascRun i = true → d.now.toNat ≤ d.cascDeadline i → d.cascOwner i = some q → sigDiffer = false →
      runsTo (.cenAgreement T i sigDiffer) S (fun e => e = ((d.deliverCascade i q).takeBank i).chainCascades i)) ∧
    (∀ (S : State) (T : Time) (p : Fin 16) (same : Bool) (q : Nat), let d := S.dev.at T
      d.stopped = false → (d.pairOfD p).reexec = some q → same = true →
      runsTo (.latentReexecution T p same) S (fun e => let m := d.modPair p (fun x => { x with reexec := none }); e = ((((m.takeBank q).setF (CEN_FLT p) CEN_FLT_LATENT 1).incSat (CEN_CNT p) CEN_CNT_LATENT).evt EV_CEN_LATENT [p.val, cascOf q]).gustPair p)) ∧
    (∀ (S : State) (T : Time) (p : Fin 16) (same : Bool) (q : Nat), let d := S.dev.at T
      d.stopped = false → (d.pairOfD p).reexec = some q → same = false →
      runsTo (.latentReexecution T p same) S (fun e => e = (d.modPair p (fun x => { x with reexec := none })).pairRestart p)) ∧
    (∀ (S : State) (T : Time) (p : Fin 16) (known : Bool), let d := S.dev.at T
      d.stopped = false → d.isSet (CEN_STAT p) CEN_STAT_RESTARTING = true → known = true →
      runsTo (.cenRestartDone T p known) S (fun e => let m := (((d.setF (CEN_STAT p) CEN_STAT_RESTARTING 0).modPair p (fun x => { x with discarded := [] })).setF (CEN_FLT p) CEN_FLT_MISMATCH 1).incSat (CEN_CNT p) CEN_CNT_RESTARTS; e = (m.evt EV_CEN_PAIR_MISMATCH [p.val, 0xFF, 0xFF]).gustPair p)) ∧
    (∀ (S : State) (T : Time) (i : Fin 64), let d := S.dev.at T
      d.stopped = false → (d.cascPend i = true ∨ d.cascRun i = true) → d.cascDeadline i ≤ d.now.toNat →
      runsTo (.cenDeadlineMiss T i) S (fun e => e = ((d.setPend i false).setRun i false).cascMiss i)) ∧
    (∀ (S : State) (T : Time) (p : Fin 16) (fail0 fail1 : Bool), let d := S.dev.at T
      d.stopped = false → (d.isSet (CEN_CFG p) CEN_CFG_STEN = true ∨ d.reqWanted 4 p = true) →
      runsTo (.cenSelftest T p fail0 fail1) S (fun e => e = d.engineTest p fail0 fail1)) ∧
    (∀ (S : State) (T : Time) (p : Fin 16), let d := S.dev.at T
      d.stopped = false → d.isSet (CEN_CFG p) CEN_CFG_STEN = true → (d.bit CEN_RETIRED (2 * p) = false ∨ d.bit CEN_RETIRED (2 * p + 1) = false) →
      runsTo (.selftestDeferred T p) S (fun e => let m : Dev := { d with bkg := { d.bkg with deferred := d.bkg.deferred + 1 } }; e = ((m.setF (CEN_FLT p) CEN_FLT_DEFERRED 1).incSat (CEN_CNT p) CEN_CNT_DEFER).evt EV_CEN_SELFTEST_DEFERRED [p.val, 0xFF, 0xFF]))

/-- Commands of the axis and position units complete (R182, R189, R209, R213, R216, R220). -/
def Obligations.AxisCommandsComplete : Prop :=
  (∀ (S : State) (T : Time) (u : Fin 16) (q : Nat), let d := S.dev.at T
      d.stopped = false → d.axuOwner u = some q → d.forwardDue u q = true →
      runsTo (.axuForwardPass T u) S (fun e => e = d.forwardRun u q)) ∧
    (∀ (S : State) (T : Time) (u : Fin 16) (q : Nat), let d := S.dev.at T
      d.stopped = false → d.axuOwner u = some q → (d.axu u).invDue = true → d.isSet (AXU_STAT u) AXU_STAT_ENABLED = true → (d.modAxu u (fun a => { a with invDue := false })).axuPhase u ≠ phPolarity →
      runsTo (.axuInverseStage T u) S (fun e => e = (d.modAxu u (fun a => { a with invDue := false })).inverse u q ((d.axu u).agreed.getD 0 f0) ((d.axu u).agreed.getD 1 f0) ((d.axu u).agreed.getD 2 f0) ((d.axu u).agreed.getD 3 f0) false)) ∧
    (∀ (S : State) (T : Time) (u : Fin 16) (q : Nat), let d := S.dev.at T
      d.stopped = false → d.axuOwner u = some q → (d.funcD q).axuA = some u.val → d.axuPhase u = phMeasure → d.fld (AXU_FSCFG u) AXU_FSCFG_MEASN ≤ (d.axu u).meas.length → (d.axu u).measStill = true →
      runsTo (.measureDone T u) S (fun e => e = d.measured u q 0 f0 false)) ∧
    (∀ (S : State) (T : Time) (u : Fin 16) (q : Nat), let d := S.dev.at T
      d.stopped = false → d.axuOwner u = some q → (d.funcD q).axuA = some u.val → d.axuPhase u = phPolarity → 4 * d.fld (AXU_POLCFG u) AXU_POLCFG_POLN ≤ (d.axu u).polN → fGe (fSub ((d.axu u).polI.getD (d.fld (AXU_POLCFG u) AXU_POLCFG_POLN) f0) ((d.axu u).polI.getD 0 f0)) (fMul (fNeg (fSub ((d.axu u).polI.getD (3 * d.fld (AXU_POLCFG u) AXU_POLCFG_POLN) f0) ((d.axu u).polI.getD (2 * d.fld (AXU_POLCFG u) AXU_POLCFG_POLN) f0))) (fOfRatio (100 + d.fld (AXU_POLCFG u) AXU_POLCFG_MRG) 100)) = true →
      runsTo (.polarityTestDone T u) S (fun e => e = ((((d.wr (AXU_POLIP u) (fSub ((d.axu u).polI.getD (d.fld (AXU_POLCFG u) AXU_POLCFG_POLN) f0) ((d.axu u).polI.getD 0 f0))).wr (AXU_POLIN u) (fNeg (fSub ((d.axu u).polI.getD (3 * d.fld (AXU_POLCFG u) AXU_POLCFG_POLN) f0) ((d.axu u).polI.getD (2 * d.fld (AXU_POLCFG u) AXU_POLCFG_POLN) f0)))).setPhase u phTrack).reached u))) ∧
    (∀ (S : State) (T : Time) (u : Fin 16) (q : Nat), let d := S.dev.at T
      d.stopped = false → d.axuOwner u = some q → (d.funcD q).axuA = some u.val → d.axuPhase u = phLost → d.inSafe q = true → d.isSet (RED_FNSTATE q) RED_FNSTATE_LATCHED = false → d.fld (AXU_FSCFG u) AXU_FSCFG_RETRYDLY * msTicks ≤ d.since (d.axu u).failAt →
      runsTo (.reacquireAttempt T u) S (fun e => e = (d.setPhase u (if d.fld (RED_FNSTATE q) RED_FNSTATE_STATE = sfAscLow then phMeasAsc else phMeasure)).modAxu u (fun a => { a with reacq := true, res := [], fwdDone := false }))) ∧
    (∀ (S : State) (T : Time) (u : Fin 16) (r : Time), let d := S.dev.at T
      d.stopped = false → (d.axu u).trackAt = some r → d.axuPhase u = phTrack → secTicks ≤ d.since r →
      runsTo (.trackSecond T u) S (fun e => e = (d.setF (AXU_POSSTAT u) AXU_POSSTAT_TRIES 0).modAxu u (fun a => { a with trackAt := none, reacq := false }) ∧ e.fld (AXU_POSSTAT u) AXU_POSSTAT_TRIES = 0 ∧ (e.axu u).trackAt = none)) ∧
    (∀ (S : State) (T : Time) (u : Fin 16) (n : Fin 24) (q : Nat), let d := S.dev.at T
      d.stopped = false → (d.posSrc u = srcHall ∨ d.posSrc u = srcHallEmf) → d.isSet (AXU_CFG u) AXU_CFG_BOUND = true → (d.hallPins u).contains n.val = true → d.hallSector u (d.hallCode u) = some q → (d.axu u).hall.sector = none →
      runsTo (.hallEdge T u n) S (fun e => e = d.modAxu u (fun a => { a with hall := { (d.axu u).hall with sector := some q, angle := d.sectorMid u q, stop := d.sectorMid u q, speed := 0, dir := 0, stamps := [] } }) ∧ (e.axu u).hall.sector = some q)) ∧
    (∀ (S : State) (T : Time) (u : Fin 16) (n : Fin 24), let d := S.dev.at T
      d.stopped = false → (d.posSrc u = srcHall ∨ d.posSrc u = srcHallEmf) → d.isSet (AXU_CFG u) AXU_CFG_BOUND = true → (d.hallPins u).contains n.val = true → d.hallSector u (d.hallCode u) = none →
      runsTo (.hallEdge T u n) S (fun e => e = d.modAxu u (fun a => { a with hall := { (d.axu u).hall with bad := true } }))) ∧
    (∀ (S : State) (T : Time) (u : Fin 16) (q : Nat) (r : Time) (z : List Time), let d := S.dev.at T
      d.stopped = false → (d.axu u).hall.sector = some q → (d.axu u).hall.stamps = r :: z → 100 * msTicks ≤ d.since r →
      runsTo (.hallTimeout T u) S (fun e => e = d.modAxu u (fun a => { a with hall := { (d.axu u).hall with speed := f0, angle := d.sectorMid u q, stop := d.sectorMid u q } })))

/-- Commands of the general inputs and the power converters complete (R230, R231, R234, R235, R237, R238, R241). -/
def Obligations.InputAndConverterUnitCommandsComplete : Prop :=
  (∀ (S : State) (T : Time) (n : Fin 24) (high : Bool) (stamp : Time), let d := S.dev.at T
      d.stopped = false → d.fld (GIO_CFG n) GIO_CFG_MODE = 0 → d.bit GIO_IN n ≠ xor high (d.isSet (GIO_CFG n) GIO_CFG_INV) →
      runsTo (.gioEdge T n high stamp) S (fun e => e.bit GIO_IN n = xor high (d.isSet (GIO_CFG n) GIO_CFG_INV) ∧ e.bit GIO_EDGE n = true ∧ e.rd64 (GIO_STAMP_LO n) (GIO_STAMP_HI n) = stamp ∧ sameMem d e)) ∧
    (∀ (S : State) (T : Time) (m : Fin 8) (sync : Nat) (status : Fin 16) (nibs : List Nat) (crc : Nat) (tf : Time), let d := S.dev.at T
      d.stopped = false → d.fld (GIO_CFG (16 + m)) GIO_CFG_MODE = 3 → 4 * ((sync : Int) - (56 * 800 * d.fld (GIO_SENTCFG m) GIO_SENTCFG_TICK : Nat)).natAbs ≤ 56 * 800 * d.fld (GIO_SENTCFG m) GIO_SENTCFG_TICK → (d.sent m).lastSync = none → nibs.length = d.fld (GIO_SENTCFG m) GIO_SENTCFG_NIBS → sentCrc (d.isSet (GIO_SENTCFG m) GIO_SENTCFG_LEGACY) nibs = crc →
      runsTo (.sentFrame T m sync status nibs crc tf) S (fun e => let x := d.modSent m (fun s => { s with lastSync := some sync }); let w := BitVec.ofNat 32 (0x80000000 + status.val % 16 * 0x1000000 + ofNibs (nibs.take 3) * 4096 + ofNibs (if x.isSet (GIO_SENTCFG m) GIO_SENTCFG_REV2 then (nibs.drop 3).reverse else nibs.drop 3)); e = ((((x.wr (GIO_SENTFAST m) w).wr64 (GIO_SENTSTAMP_LO m) (GIO_SENTSTAMP_HI m) tf).modSent m (fun s => { s with lastValid := some tf })).slowBits m (status.val.testBit 3) (status.val.testBit 2)))) ∧
    (∀ (S : State) (T : Time) (u : Fin 8) (q : Nat), let d := S.dev.at T
      d.stopped = false → d.cvuOwner u = some q → d.cvuOn u = true → (d.cvu u).fwdDone = false → (d.cvu u).loopNow = true → d.cvuFresh u = true →
      runsTo (.cvuForwardPass T u) S (fun e => e = d.cvuForwardRun u q)) ∧
    (∀ (S : State) (T : Time) (u : Fin 8) (q : Nat), let d := S.dev.at T
      d.stopped = false → d.cvuOwner u = some q → (d.cvu u).invDue = true → d.cvuOn u = true → ((d.cvuTaken u).cvu u).committed = false → ((d.cvuTaken u).cvu u).bound.toNat ≤ ((d.cvuTaken u).cvu u).ts.toNat → (d.cvuTaken u).cvuUnfit u q = false →
      runsTo (.cvuInverseStage T u) S (fun e => e = (d.cvuTaken u).cvuCommit u q)) ∧
    (∀ (S : State) (T : Time) (u : Fin 8), let d := S.dev.at T
      d.stopped = false → d.cvuOn u = true → d.isSet (CVU_CFG u) CVU_CFG_PHMEN = true → (d.cvu u).phaseEnd.toNat ≤ d.now.toNat → d.phaseCount u (d.phaseMean u).1 ≠ d.fld (CVU_STAT u) CVU_STAT_NACT →
      runsTo (.cvuPhaseDecision T u) S (fun e => e = ((((d.phaseMean u).2.phaseRestart u).setF (CVU_STAT u) CVU_STAT_NACT (d.phaseCount u (d.phaseMean u).1)).incSat (CVU_CNT u) CVU_CNT_PHCHG).evt EV_CVU_PHASE_CHANGE [u.val])) ∧
    (∀ (S : State) (T : Time) (u : Fin 8) (p : Fin 8) (q : Nat), let d := S.dev.at T
      d.stopped = false → d.cvuOwner u = some q → p.val < (d.fnLegs q).length → d.cmMayEnd u p ((d.fnLegs q).getD p 0) (d.fnPer q) = true →
      runsTo (.cvuCmPulseEnd T u p) S (fun e => e = d.cmCut u p ((d.fnLegs q).getD p 0) (d.fnPer q))) ∧
    (∀ (S : State) (T : Time) (u : Fin 8) (r : Time), let d := S.dev.at T
      d.stopped = false → d.isSet (CVU_STAT u) CVU_STAT_PLLOCK = true → (d.cvu u).badSince = some r → 10 * msTicks ≤ d.since r →
      runsTo (.gridLost T u) S (fun e => let m := ((((d.setF (CVU_STAT u) CVU_STAT_PLLOCK 0).setF (CVU_FLT u) CVU_FLT_PLLLOSS 1).modCvu u (fun c => { c with lockRun := 0, relockAt := none, parkGrid := true })).evt EV_CVU_GRID_LOST [u.val]); e = m.whenSome (m.cvuOwner u) (fun f x => x.parkStage f))) ∧
    (∀ (S : State) (T : Time) (u : Fin 8) (q : Nat) (r : Time), let d := S.dev.at T
      d.stopped = false → d.cvuOwner u = some q → (d.cvu u).relockAt = some r → (d.cvu u).parkGrid = true → d.isSet (CVU_STAT u) CVU_STAT_PLLOCK = true → 100 * msTicks ≤ d.since r → [0, 1].any (fun c => d.chgNames c q) = false →
      runsTo (.cvuUnpark T u) S (fun e => e = d.modCvu u (fun c => { c with parkGrid := false }) ∧ (e.cvu u).parkGrid = false))

/-- Commands of the charge channels complete (R246, R251, R253, R254, R255). -/
def Obligations.ChargeCommandsComplete : Prop :=
  (∀ (S : State) (T : Time) (c : Fin 2), let d := S.dev.at T
      d.stopped = false → d.chgOn c = true → d.inRun = true → (d.chg c).stepJ ≠ d.msIndex →
      runsTo (.chgStep T c) S (fun e => e = d.chgRun c)) ∧
    (∀ (S : State) (T : Time) (c : Fin 2), let d := S.dev.at T
      d.stopped = false → d.chgPhase c = cpIdle →
      runsTo (.chgStart T c) S (fun e => e = d.modChg c (fun x => { x with startReq := true }) ∧ (e.chg c).startReq = true)) ∧
    (∀ (S : State) (T : Time) (c : Fin 2), let d := S.dev.at T
      d.stopped = false →
      runsTo (.chgStop T c) S (fun e => e = d.modChg c (fun x => { x with stopReq := true }) ∧ (e.chg c).stopReq = true)) ∧
    (∀ (S : State) (T : Time) (sid : Nat) (c : Fin 2), let d := S.dev.at T
      d.stopped = false → d.ackSession sid = true → d.chgPhase c = cpFault →
      runsTo (.chgAck T sid c) S (fun e => e = (d.toPhase c cpIdle).evt EV_CHG_ACK [c] ∧ logged (d.toPhase c cpIdle) e EV_CHG_ACK)) ∧
    (∀ (S : State) (T : Time) (c : Fin 2), let d := S.dev.at T
      d.stopped = false → ((d.chg c).hoStages.isEmpty = false ∨ d.chgPhase c = cpHandover) → d.fld (CHG_TIMES c) CHG_TIMES_HOTIME * msTicks ≤ d.since (d.chg c).hoAt →
      runsTo (.handoverComplete T c) S (fun e => e = d.handoverEnd c)) ∧
    (∀ (S : State) (T : Time) (c : Fin 2), let d := S.dev.at T
      d.stopped = false → d.chgOn c = true → d.isSet (CHG_STAT c) CHG_STAT_SOLQ = true → fNearMul (d.rd (CHG_MPPTPER c)) msTicks ≤ (d.since (d.chg c).mpptAt : Nat) →
      runsTo (.mpptUpdate T c) S (fun e => e = (d.mpptPower c).2.mpptMove c (d.mpptPower c).1 (d.mpptUp c (d.mpptPower c).1))) ∧
    (∀ (S : State) (T : Time) (c : Fin 2) (short : Bool), let d := S.dev.at T
      d.stopped = false → short = true →
      runsTo (.lampFault T c short) S (fun e => let m := (d.setF (CHG_FLT c) CHG_FLT_LAMPSHORT 1).modChg c (fun x => { x with lampOff := some d.now }); e = m.rated (evClass EV_CHG_LAMP_FAULT) EV_CHG_LAMP_FAULT c (60 * secTicks) (fun n => dat ([c.val] ++ le4 n)))) ∧
    (∀ (S : State) (T : Time) (c : Fin 2) (short : Bool), let d := S.dev.at T
      d.stopped = false → short = false →
      runsTo (.lampFault T c short) S (fun e => let m := d.setF (CHG_FLT c) CHG_FLT_LAMPOPEN 1; e = m.rated (evClass EV_CHG_LAMP_FAULT) EV_CHG_LAMP_FAULT c (60 * secTicks) (fun n => dat ([c.val] ++ le4 n)))) ∧
    (∀ (S : State) (T : Time) (c : Fin 2) (r : Time), let d := S.dev.at T
      d.stopped = false → (d.chg c).lampOff = some r → secTicks ≤ d.since r →
      runsTo (.lampRetry T c) S (fun e => e = d.modChg c (fun x => { x with lampOff := none }) ∧ (e.chg c).lampOff = none)) ∧
    (∀ (S : State) (T : Time) (triad : Fin 4) (c : Fin 2) (v : W), let d := S.dev.at T
      d.stopped = false → triad = 0 →
      runsTo (.chgLampWrite T triad c v) S (fun e => e = (d.wr (CHG_LAMP c) (v &&& 0x80000007)).lampRefresh c ∧ e.rd (CHG_LAMP c) = v &&& 0x80000007 ∧ sameMem d e)) ∧
    (∀ (S : State) (T : Time) (triad : Fin 4) (c : Fin 2) (v : W), let d := S.dev.at T
      d.stopped = false → triad.val ≠ 0 →
      runsTo (.chgLampWrite T triad c v) S (fun e => e = d.lockedWrite triad (CHG_LAMP c) ∧ e.rd (CHG_LAMP c) = d.rd (CHG_LAMP c)))

/-- Temperature samples, the factors, Marver rounds, scrub corrections and wear checks complete (R384, R389, R396,
R397, R399). -/
def Obligations.ThermalAndMarverCommandsComplete : Prop :=
  (∀ (S : State) (T : Time) (rs : List (Option (Nat × Int))), let d := S.dev.at T
      d.por = false → d.isSet TKP_STAT TKP_STAT_REF_OK = true → d.dieDue = true → (d.dieTake rs).isSet THM_STAT THM_STAT_SHUT = false →
      runsTo (.thmDieSample T rs) S (fun e => e = (d.dieTake rs).dieAct (d.dieTake rs).hottest.1 (d.dieTake rs).hottest.2)) ∧
    (∀ (S : State) (T : Time) (rs : List (Option (Nat × Int))), let d := S.dev.at T
      d.por = false → d.isSet TKP_STAT TKP_STAT_REF_OK = true → d.dieDue = true → (d.dieTake rs).isSet THM_STAT THM_STAT_SHUT = true →
      runsTo (.thmDieSample T rs) S (fun e => e = d.dieTake rs)) ∧
    (∀ (S : State) (T : Time) (n : Fin 24) (r : Option Int), let d := S.dev.at T
      d.por = false → d.isSet TKP_STAT TKP_STAT_REF_OK = true → d.isSet (THM_NTCCFG n) THM_NTCCFG_EN = true → d.ntcDue n = true →
      runsTo (.thmNtcSample T n r) S (fun e => e = ((d.ntcTake n r).ntcLevel n).kUpdate)) ∧
    (∀ (S : State) (T : Time), let d := S.dev.at T
      d.stopped = false → msTicks ≤ d.since d.thm.lastRise →
      runsTo (.kRise T) S (fun e => e = ({ d with thm := { d.thm with lastRise := d.now } } : Dev).forEach (List.range 32) Dev.kStep)) ∧
    (∀ (S : State) (T : Time) (reads : List (Fin 64 × Fin 2 × Int)) (us : Nat), let d := S.dev.at T
      d.stopped = false → d.marvDue = true →
      runsTo (.marverRound T reads us) S (fun e => e = d.marverRun (reads.map (fun p => (p.1.val, p.2.1.val, p.2.2))) us)) ∧
    (∀ (S : State) (T : Time), let d := S.dev.at T
      d.stopped = false → d.now.toNat < d.bkg.marvEnd.toNat → d.marvPer ≤ d.since d.bkg.marvStart → d.bkg.lateRec = false →
      runsTo (.marverLate T) S (fun e => let m := ({ d with bkg := { d.bkg with lateRec := true } } : Dev).setF BKG_FLT BKG_FLT_MARVLATE 1; e = m.evt EV_BKG_MARVER_LATE [] ∧ logged m e EV_BKG_MARVER_LATE ∧ e.isSet BKG_FLT BKG_FLT_MARVLATE = true ∧ e.bkg.lateRec = true)) ∧
    (∀ (S : State) (T : Time) (m : Fin 5) (addr : Nat), let d := S.dev.at T
      d.stopped = false →
      runsTo (.scrubCorrection T m addr) S (fun e => let w := (d.incSat (BKG_MEMCNT m) BKG_MEMCNT_CORR).setF BKG_FLT BKG_FLT_CORR 1; e = ({ w with bkg := { w.bkg with corr := w.bkg.corr + 1 } } : Dev).evtRated EV_BKG_MEM_CORRECTED m.val ([m.val, 0, 0, 0] ++ le4 addr) ∧ e.isSet BKG_FLT BKG_FLT_CORR = true ∧ e.bkg.corr = d.bkg.corr + 1)) ∧
    (∀ (S : State) (T : Time) (m : Fin 5) (addr : Nat) (k : Fin 4), let d := S.dev.at T
      d.stopped = false →
      runsTo (.memUncorrectable T m addr k) S (fun e => let w := (d.incSat (BKG_MEMCNT m) BKG_MEMCNT_UNCORR).setF BKG_FLT BKG_FLT_UNCORR 1; e = (({ w with bkg := { w.bkg with uncorr := w.bkg.uncorr + 1 } } : Dev).evtC (if m.val = 2 then clsSafe else clsWarning) EV_BKG_MEM_UNCORRECTABLE srcHw ([m.val, 0, 0, 0] ++ le4 addr)).memError m addr k)) ∧
    (∀ (S : State) (T : Time), let d := S.dev.at T
      d.stopped = false → d.inRun = true → d.paused = false → secTicks ≤ d.since d.bkg.wearAt → 8000000000 ≤ d.jrn.passes.toNat → d.bkg.worn = false →
      runsTo (.wearCheck T) S (fun e => let m := ({ d with bkg := { d.bkg with wearAt := d.now, worn := true } } : Dev).setF BKG_FLT BKG_FLT_WEAR 1; e = m.evt EV_BKG_WEAR_WARN [] ∧ logged m e EV_BKG_WEAR_WARN)) ∧
    (∀ (S : State) (T : Time), let d := S.dev.at T
      d.stopped = false → d.inRun = true → d.paused = false → secTicks ≤ d.since d.bkg.wearAt → d.jrn.passes.toNat < 8000000000 →
      runsTo (.wearCheck T) S (fun e => e = ({ d with bkg := { d.bkg with wearAt := d.now } } : Dev)))

/-- Requests of background work, core self-tests and telemetry complete (R398, R400, R401, R402). -/
def Obligations.BackgroundRequestsComplete : Prop :=
  (∀ (S : State) (T : Time) (triad : Fin 4) (target : Fin 65536), let d := S.dev.at T
      d.stopped = false → d.reqGo triad = false → ((d.wrOwn triad BKG_REQ (reqWord 1 target &&& 0x800FFFFF)).reqShow triad brPending).reqRefused 1 target = false →
      runsTo (.bkgReqAdcCal T triad target) S (fun e => let m := (d.wrOwn triad BKG_REQ (reqWord 1 target &&& 0x800FFFFF)).reqShow triad brPending; e = m.reqGrant triad 1 target)) ∧
    (∀ (S : State) (T : Time) (triad : Fin 4) (target : Fin 65536) (read : Option (Fin 2 × Int)), let d := S.dev.at T
      d.stopped = false → d.reqGo triad = false → ((d.wrOwn triad BKG_REQ (reqWord 2 target &&& 0x800FFFFF)).reqShow triad brPending).reqRefused 2 target = false →
      runsTo (.bkgReqCmpCheck T triad target read) S (fun e => let m := (d.wrOwn triad BKG_REQ (reqWord 2 target &&& 0x800FFFFF)).reqShow triad brPending; e = (m.reqGrant triad 2 target).whenSome read (fun p x => if x.reqIs triad 2 target then x.dacReadback target p.1 p.2 else x))) ∧
    (∀ (S : State) (T : Time) (triad : Fin 4) (target : Fin 65536), let d := S.dev.at T
      d.stopped = false → d.reqGo triad = false → ((d.wrOwn triad BKG_REQ (reqWord 3 target &&& 0x800FFFFF)).reqShow triad brPending).reqRefused 3 target = false →
      runsTo (.bkgReqPadCheck T triad target) S (fun e => let m := (d.wrOwn triad BKG_REQ (reqWord 3 target &&& 0x800FFFFF)).reqShow triad brPending; e = m.reqGrant triad 3 target)) ∧
    (∀ (S : State) (T : Time) (triad : Fin 4) (target : Fin 65536), let d := S.dev.at T
      d.stopped = false → d.reqGo triad = false → ((d.wrOwn triad BKG_REQ (reqWord 4 target &&& 0x800FFFFF)).reqShow triad brPending).reqRefused 4 target = false →
      runsTo (.bkgReqCenSelftest T triad target) S (fun e => let m := (d.wrOwn triad BKG_REQ (reqWord 4 target &&& 0x800FFFFF)).reqShow triad brPending; e = m.reqGrant triad 4 target)) ∧
    (∀ (S : State) (T : Time) (triad : Fin 4) (target : Fin 65536), let d := S.dev.at T
      d.stopped = false → d.reqGo triad = false → ((d.wrOwn triad BKG_REQ (reqWord 5 target &&& 0x800FFFFF)).reqShow triad brPending).reqRefused 5 target = false →
      runsTo (.bkgReqCoreSelftest T triad target) S (fun e => let m := (d.wrOwn triad BKG_REQ (reqWord 5 target &&& 0x800FFFFF)).reqShow triad brPending; e = m.reqGrant triad 5 target)) ∧
    (∀ (S : State) (T : Time) (triad : Fin 4) (target : Fin 65536), let d := S.dev.at T
      d.stopped = false → d.reqGo triad = false → ((d.wrOwn triad BKG_REQ (reqWord 6 target &&& 0x800FFFFF)).reqShow triad brPending).reqRefused 6 target = false →
      runsTo (.bkgReqScrub T triad target) S (fun e => let m := (d.wrOwn triad BKG_REQ (reqWord 6 target &&& 0x800FFFFF)).reqShow triad brPending; e = m.reqGrant triad 6 target)) ∧
    (∀ (S : State) (T : Time) (triad : Fin 4) (target : Fin 65536), let d := S.dev.at T
      d.stopped = false → d.reqGo triad = false → ((d.wrOwn triad BKG_REQ (reqWord 7 target &&& 0x800FFFFF)).reqShow triad brPending).reqRefused 7 target = false →
      runsTo (.bkgReqMarver T triad target) S (fun e => let m := (d.wrOwn triad BKG_REQ (reqWord 7 target &&& 0x800FFFFF)).reqShow triad brPending; e = m.reqGrant triad 7 target)) ∧
    (∀ (S : State) (T : Time) (triad : Fin 4), let d := S.dev.at T
      d.stopped = false → d.reqGo triad = true → (d.rdOwn triad BKG_RES).fld BKG_RES_RESULT = brPending → d.waitOver triad = true →
      runsTo (.bkgReqDeferred T triad) S (fun e => e = d.reqDefer triad ∧ e.bkg.deferred = d.bkg.deferred + 1)) ∧
    (∀ (S : State) (T : Time) (q : Nat), let d := S.dev.at T
      d.stopped = false → d.fld BKG_CFG BKG_CFG_CORPER ≠ 0 → d.inRun = true → d.fld BKG_CFG BKG_CFG_CORPER * secTicks ≤ d.since d.bkg.coreAt → ((List.range 12).map (fun i => (d.bkg.coreNext + i) % 12)).find? (fun c => !d.coreRefused c) = some q → d.coreReady q = true →
      runsTo (.coreSelftestPeriodic T) S (fun e => e = ({ d with bkg := { d.bkg with coreNext := (q + 1) % 12, coreAt := d.now } } : Dev).coreStart q none)) ∧
    (∀ (S : State) (T : Time) (c : Fin 12) (pass : Bool) (who : Option Nat), let d := S.dev.at T
      d.stopped = false → (List.range 4).find? (fun k => d.reqIs k 5 c) = none → d.bkg.coreTest = some (c.val, who) →
      runsTo (.coreSelftestDone T c pass) S (fun e => let m := ({ d with bkg := { d.bkg with coreTest := none } } : Dev).setF BKG_STAT BKG_STAT_CORETEST 0; e = (if pass then m.triadResync (c / 3) else m.gale 1 c gaTest 0xF).reqServed 5 c pass)) ∧
    (∀ (S : State) (T : Time), let d := S.dev.at T
      d.stopped = false → d.bkg.telDue = true → d.paused = false →
      runsTo (.telemetryPost T) S (fun e => e = ({ d.telRecords with bkg := { d.telRecords.bkg with telDue := false, misses := [] } } : Dev) ∧ e.bkg.telDue = false))

/-- Commands of the triads, the Gust history and the cullet list complete (R268, R269, R271, R272, R274, R277). -/
def Obligations.TriadCommandsComplete : Prop :=
  (∀ (S : State) (T : Time) (k : Fin 4) (c : Fin 3), let d := S.dev.at T
      d.stopped = false → d.triadLive k = true → 3 ≤ (d.serving k).length →
      runsTo (.triadMinority T k c) S (fun e => let m := (d.minority k c).setF RED_FLT RED_FLT_MINORITY 1; e = (m.evt EV_RED_TRIAD_MINORITY (le2 (resId 1 (coreId k c)) ++ [k.val])).gust 1 (coreId k c))) ∧
    (∀ (S : State) (T : Time) (k : Fin 4) (q : Nat), let d := S.dev.at T
      d.stopped = false → (List.range 3).find? (fun c => (d.rebuilding k).testBit c) = some q → d.triadLive k = true → d.inAssured k = false → d.isSet (RED_TSTAT k) RED_TSTAT_RESTARTING = false →
      runsTo (.triadResync T k) S (fun e => let m := (d.checkpoint k).setF (RED_TSTAT k) RED_TSTAT_REBUILD 0; e = ((m.setTmode k (if m.isSet (RED_TSTAT k) RED_TSTAT_DEGRADED then tmDual else tmTriple)).incSat (RED_TCNT k) RED_TCNT_RESYNCS).evt EV_RED_TRIAD_RESYNC (le2 (resId 1 (coreId k q)) ++ [k.val]))) ∧
    (∀ (S : State) (T : Time) (k : Fin 4) (minority : Option (Fin 3)) (split : Bool), let d := S.dev.at T
      d.stopped = false → d.triadLive k = true → d.inAssured k = false → d.isSet (RED_TSTAT k) RED_TSTAT_RESTARTING = false → minority = none → split = false →
      runsTo (.triadCheckpoint T k minority split) S (fun e => e = d.checkpoint k ∧ e.rd64 (RED_TCKPT_LO k) (RED_TCKPT_HI k) = d.now ∧ (e.triad k).ckpt = (d.triad k).core ∧ (e.triad k).undo = [])) ∧
    (∀ (S : State) (T : Time) (k : Fin 4) (minority : Option (Fin 3)) (split : Bool), let d := S.dev.at T
      d.stopped = false → d.triadLive k = true → d.inAssured k = false → d.isSet (RED_TSTAT k) RED_TSTAT_RESTARTING = false → split = true →
      runsTo (.triadCheckpoint T k minority split) S (fun e => e = d.triadDisagree k [])) ∧
    (∀ (S : State) (T : Time) (k : Fin 4) (minority : Option (Fin 3)) (split : Bool) (q : Fin 3), let d := S.dev.at T
      d.stopped = false → d.triadLive k = true → d.inAssured k = false → d.isSet (RED_TSTAT k) RED_TSTAT_RESTARTING = false → minority = some q → split = false → 3 ≤ (d.serving k).length →
      runsTo (.triadCheckpoint T k minority split) S (fun e => let m := ((((d.checkpoint k).minority k q).setF RED_FLT RED_FLT_LATENT 1).incSat (RED_TCNT k) RED_TCNT_LATENT); e = (m.evt EV_RED_TRIAD_LATENT (le2 (resId 1 (coreId k q)) ++ [k.val])).gust 1 (coreId k q))) ∧
    (∀ (S : State) (T : Time) (k : Fin 4) (kat : List (Fin 3)), let d := S.dev.at T
      d.stopped = false → d.triadLive k = true → ((d.testUndone k).disagreeCharge k (d.serving k) (kat.map Fin.val) d.sysState).triadLive k = true → ((d.testUndone k).disagreeCharge k (d.serving k) (kat.map Fin.val) d.sysState).sysState = d.sysState → ((d.testUndone k).triad k).restarts < 3 →
      runsTo (.triadRestart T k kat) S (fun e => let m := (d.testUndone k).disagreeCharge k (d.serving k) (kat.map Fin.val) d.sysState; e = m.goBack k)) ∧
    (∀ (S : State) (T : Time) (k : Fin 4) (kat : List (Fin 3)), let d := S.dev.at T
      d.stopped = false → d.triadLive k = true → ((d.testUndone k).disagreeCharge k (d.serving k) (kat.map Fin.val) d.sysState).triadLive k = true → ((d.testUndone k).disagreeCharge k (d.serving k) (kat.map Fin.val) d.sysState).sysState = d.sysState → 3 ≤ ((d.testUndone k).triad k).restarts →
      runsTo (.triadRestart T k kat) S (fun e => let m := (d.testUndone k).disagreeCharge k (d.serving k) (kat.map Fin.val) d.sysState; e = m.haltTriad k)) ∧
    (∀ (S : State) (T : Time) (k : Fin 4), let d := S.dev.at T
      d.stopped = false → d.isSet (RED_TSTAT k) RED_TSTAT_RESTARTING = true → (d.triad k).replay = [] →
      runsTo (.replayDone T k) S (fun e => let m := (d.setF (RED_TSTAT k) RED_TSTAT_RESTARTING 0).modTriad k (fun x => { x with replaying := false }); e = m.when (k.val = 0) (fun x => x.setF RED_STAT RED_STAT_DEPUTY 0))) ∧
    (∀ (S : State) (T : Time), let d := S.dev.at T
      d.stopped = false → d.inRun = true → d.now.toNat % (10 * secTicks) = 0 →
      runsTo (.gustDecay T) S (fun e => e = d.forEach (d.red.gusts.map (·.1)) Dev.gustDown)) ∧
    (∀ (S : State) (T : Time), let d := S.dev.at T
      d.stopped = false → d.red.cull.any (fun c => !c.persisted) = true →
      runsTo (.culletPersist T) S (fun e => let xs := d.red.cull.map (fun c => { c with persisted := true }); e = ({ d with red := { d.red with cull := xs, cullA := xs, cullB := xs, cullAok := true, cullBok := true } } : Dev)))

/-- Function commands, function requests and the brake timeout complete (R285, R287, R288, R289, R456). -/
def Obligations.FunctionCommandsComplete : Prop :=
  (∀ (S : State) (T : Time) (triad : Fin 4) (all : Bool) (f : Fin 32) (st : Fin 8) (cause : Fin 65536), let d := S.dev.at T
      d.stopped = false → triad.val = 0 → all = false → (d.func f).isSome = true → permitted (d.funcD f).kind st = true → d.inSafe f = false → Tab.has d.red.reqSafe f = false →
      runsTo (.fncmdEnter T triad all f st cause) S (fun e => e = d.enterSafe f st cause)) ∧
    (∀ (S : State) (T : Time) (triad : Fin 4) (all : Bool) (f : Fin 32) (st : Fin 8) (cause : Fin 65536), let d := S.dev.at T
      d.stopped = false → triad.val = 0 → all = true →
      runsTo (.fncmdEnter T triad all f st cause) S (fun e => e = d.forEach d.fns (fun f x => x.cmdEnter f st cause))) ∧
    (∀ (S : State) (T : Time) (triad : Fin 4) (all : Bool) (f : Fin 32) (st : Fin 8) (cause : Fin 65536), let d := S.dev.at T
      d.stopped = false → triad.val ≠ 0 →
      runsTo (.fncmdEnter T triad all f st cause) S (fun e => e = d.lockedWrite triad RED_FNCMD)) ∧
    (∀ (S : State) (T : Time) (triad : Fin 4) (all : Bool) (f : Fin 32), let d := S.dev.at T
      d.stopped = false → triad.val = 0 → all = false → (d.func f).isSome = true → d.enabled f = false → d.red.enabling.testBit f = false → d.red.reqEnable.testBit f = true → d.asserted (d.fnGroup f) = false → d.mayEnable f = true →
      runsTo (.fncmdEnable T triad all f) S (fun e => e = d.startEnable f)) ∧
    (∀ (S : State) (T : Time) (triad : Fin 4) (all : Bool) (f : Fin 32), let d := S.dev.at T
      d.stopped = false → triad.val = 0 → all = false → (d.func f).isSome = true → d.enabled f = false → d.red.enabling.testBit f = false → d.red.reqEnable.testBit f = true → d.asserted (d.fnGroup f) = true →
      runsTo (.fncmdEnable T triad all f) S (fun e => e = (d.evt EV_TRP_ENABLE_REFUSED [d.fnGroup f, f.val]).enableOutcome f false)) ∧
    (∀ (S : State) (T : Time) (triad : Fin 4) (all : Bool) (f : Fin 32), let d := S.dev.at T
      d.stopped = false → triad.val = 0 → all = true →
      runsTo (.fncmdEnable T triad all f) S (fun e => e = d.forEach d.fns (fun f x => x.cmdEnable f))) ∧
    (∀ (S : State) (T : Time) (triad : Fin 4) (all : Bool) (f : Fin 32), let d := S.dev.at T
      d.stopped = false → triad.val = 0 → all = false → (d.func f).isSome = true →
      runsTo (.fncmdDisable T triad all f) S (fun e => let m := d.disableFn f; e = (m.when (d.red.enabling.testBit f) (fun x => x.enableOutcome f false)).disableOutcome f)) ∧
    (∀ (S : State) (T : Time) (triad : Fin 4) (all : Bool) (f : Fin 32), let d := S.dev.at T
      d.stopped = false → triad.val = 0 → all = false → d.red.ackGiven.testBit f = true →
      runsTo (.fncmdAck T triad all f) S (fun e => let m := ({ d with red := { d.red with ackGiven := withBits d.red.ackGiven f 1 0 } } : Dev).setF (RED_FNSTATE f) RED_FNSTATE_LATCHED 0; e = (m.forEach (m.fnAxus f) Dev.ackAxis).sendFn f)) ∧
    (∀ (S : State) (T : Time) (f : Fin 32) (st : Fin 8), let d := S.dev.at T
      d.stopped = false →
      runsTo (.fnreqEnable T f st) S (fun e => let m := d.fnRequest f st; e = ({ m with red := { m.red with reqEnable := withBits m.red.reqEnable f 1 1 } } : Dev) ∧ logged d m EV_RED_FN_REQUEST)) ∧
    (∀ (S : State) (T : Time) (f : Fin 32) (st : Fin 8), let d := S.dev.at T
      d.stopped = false →
      runsTo (.fnreqDisable T f st) S (fun e => let m := d.fnRequest f st; e = ({ m with red := { m.red with reqDisable := withBits m.red.reqDisable f 1 1 } } : Dev) ∧ logged d m EV_RED_FN_REQUEST)) ∧
    (∀ (S : State) (T : Time) (f : Fin 32) (st : Fin 8), let d := S.dev.at T
      d.stopped = false → (d.func f).isSome = true → st.val ≠ 5 → st.val ≠ 6 → permitted (d.funcD f).kind (if st.val = 7 then (d.funcD f).safe else st) = true →
      runsTo (.fnreqSafe T f st) S (fun e => let m := d.fnRequest f st; e = ({ m with red := { m.red with reqSafe := Tab.set f.val (if st.val = 7 then (d.funcD f).safe else st.val) m.red.reqSafe } } : Dev))) ∧
    (∀ (S : State) (T : Time) (f : Fin 32), let d := S.dev.at T
      d.stopped = false → d.inSafe f = true → d.fld (RED_FNSTATE f) RED_FNSTATE_STATE = sfBrake → d.isSet (RED_FNSTATE f) RED_FNSTATE_BRKOFF = false → d.fld (RED_FNSAFE f) RED_FNSAFE_BRKTIME * msTicks ≤ d.since (Tab.getD 0 d.red.brakeAt f) →
      runsTo (.brakeTimeout T f) S (fun e => let m := d.setF (RED_FNSTATE f) RED_FNSTATE_BRKOFF 1; e = (m.forEach (m.fnLegs f) (fun n x => x.legRefresh n)).sendFn f))

/-- Kicks, watchdogs and the reading of the safety queue complete (R290, R291, R371). -/
def Obligations.SupervisionCommandsComplete : Prop :=
  (∀ (S : State) (T : Time) (triad : Fin 4) (v : W), let d := S.dev.at T
      d.stopped = false → triad.val = 0 → v.fld RED_T0KICK_KICK = 0xC3 →
      runsTo (.t0Kick T triad v) S (fun e => e = ({ d with red := { d.red with lastKick := d.now } } : Dev))) ∧
    (∀ (S : State) (T : Time) (triad : Fin 4) (v : W), let d := S.dev.at T
      d.stopped = false → triad.val ≠ 0 →
      runsTo (.t0Kick T triad v) S (fun e => e = d.lockedWrite triad RED_T0KICK ∧ e.red = d.red)) ∧
    (∀ (S : State) (T : Time), let d := S.dev.at T
      d.stopped = false → d.triadLive 0 = true → 2 * msTicks ≤ d.since d.red.lastKick → d.missedAgain = false →
      runsTo (.t0KickMissed T) S (fun e => let m := ({ d.setF RED_FLT RED_FLT_T0KICK 1 with red := { d.red with lastMissed := some d.now, lastKick := d.now } } : Dev); e = m.goBack 0)) ∧
    (∀ (S : State) (T : Time), let d := S.dev.at T
      d.stopped = false → d.triadLive 0 = true → 2 * msTicks ≤ d.since d.red.lastKick → d.missedAgain = true →
      runsTo (.t0KickMissed T) S (fun e => let m := ({ d.setF RED_FLT RED_FLT_T0KICK 1 with red := { d.red with lastMissed := some d.now, lastKick := d.now } } : Dev); e = m.fatal EV_RED_T0_FATAL)) ∧
    (∀ (S : State) (T : Time) (triad : Fin 4) (n : Fin 16) (v : W), let d := S.dev.at T
      d.stopped = false → triad.val = d.fld (RED_WDGCFG n) RED_WDGCFG_TRIAD → v.bit 0 = true → d.isSet (RED_WDGCFG n) RED_WDGCFG_EN = true → d.inRun = true → ((Tab.getD default d.red.wdg n).started = false ∨ d.fld (RED_WDGCFG n) RED_WDGCFG_OPEN * wdgTicks ≤ d.since (Tab.getD default d.red.wdg n : Wdg).lastKick) →
      runsTo (.wdgKick T triad n v) S (fun e => e = ({ d with red := { d.red with wdg := Tab.set n.val ⟨true, d.now⟩ d.red.wdg } } : Dev))) ∧
    (∀ (S : State) (T : Time) (triad : Fin 4) (n : Fin 16) (v : W), let d := S.dev.at T
      d.stopped = false → triad.val = d.fld (RED_WDGCFG n) RED_WDGCFG_TRIAD → v.bit 0 = true → d.isSet (RED_WDGCFG n) RED_WDGCFG_EN = true → d.inRun = true → (Tab.getD default d.red.wdg n).started = true → d.since (Tab.getD default d.red.wdg n : Wdg).lastKick < d.fld (RED_WDGCFG n) RED_WDGCFG_OPEN * wdgTicks →
      runsTo (.wdgKick T triad n v) S (fun e => e = d.wdgMiss n true)) ∧
    (∀ (S : State) (T : Time) (n : Fin 16), let d := S.dev.at T
      d.stopped = false → (Tab.getD default d.red.wdg n).started = true → d.isSet (RED_WDGCFG n) RED_WDGCFG_EN = true → d.fld (RED_WDGCFG n) RED_WDGCFG_CLOSE * wdgTicks ≤ d.since (Tab.getD default d.red.wdg n : Wdg).lastKick →
      runsTo (.wdgMiss T n) S (fun e => e = d.wdgMiss n false)) ∧
    (∀ (S : State) (T : Time) (x : Nat) (r : List Nat), let d := S.dev.at T
      d.stopped = false → d.safeq = x :: r →
      runsTo (.safeqRead T) S (fun e => e = ({ d with safeq := r } : Dev).when r.isEmpty (fun y => y.dropLine 0 8) ∧ e.safeq = r))

/-- Commands of the bus ports complete (R315, R317, R321, R322, R327, R328, R329, R334). -/
def Obligations.BusCommandsComplete : Prop :=
  (∀ (S : State) (T : Time) (n : Fin 6) (fr : Frame) (sof : Time), let d := S.dev.at T
      d.stopped = false → d.receiving n = true → (fr.fdf && !d.isSet (BUS_CFG n) BUS_CFG_FDEN) = false → d.busState n ≠ bsDetecting → d.secFrame n fr = false → ((((d.rxGood n).inc32 (BUS_RXCNT n)).offer n fr (fstampOf sof) false).secFrame n fr) = false →
      runsTo (.busFrameReceived T n fr sof) S (fun e => e = (((d.rxGood n).inc32 (BUS_RXCNT n)).offer n fr (fstampOf sof) false).forward n (frameDesc fr))) ∧
    (∀ (S : State) (T : Time) (n : Fin 6) (fr : Frame) (sof : Time), let d := S.dev.at T
      d.stopped = false → d.receiving n = true → fr.fdf = true → d.isSet (BUS_CFG n) BUS_CFG_FDEN = false → d.isSet (BUS_CFG n) BUS_CFG_PXDIS = false →
      runsTo (.busFrameReceived T n fr sof) S (fun e => let m := ((d.modPort n (fun p => { p with integrating := true })).setBus n bsIntegrating).setF (BUS_FLT n) BUS_FLT_PEX 1; e = m.evtRated EV_BUS_PROTOCOL_EXCEPTION n [n.val])) ∧
    (∀ (S : State) (T : Time) (n : Fin 6) (sof : Time) (q : Nat), let d := S.dev.at T
      d.stopped = false → d.silent n = false → (d.port n).tx = none → (d.busState n = bsActive ∨ d.busState n = bsPassive) → d.chosen n = some q → q < secQueue → d.headPoisoned q = false →
      runsTo (.busTxStart T n sof) S (fun e => let m := (d.modPort n (fun p => { p with tx := some (q, fstampOf sof) })).setF (BUS_STAT n) BUS_STAT_TXBUSY 1; e = ((((m.setF (BUS_STAT n) BUS_STAT_SELV 1).setF (BUS_STAT n) BUS_STAT_SELQ q).setF (QUE_STAT q) QUE_STAT_INFLIGHT 1).setF (QUE_STAT q) QUE_STAT_HEADSEL 1))) ∧
    (∀ (S : State) (T : Time) (n : Fin 6) (sof : Time), let d := S.dev.at T
      d.stopped = false → d.silent n = false → (d.port n).tx = none → (d.busState n = bsActive ∨ d.busState n = bsPassive) → d.chosen n = some secQueue →
      runsTo (.busTxStart T n sof) S (fun e => e = (d.modPort n (fun p => { p with tx := some (secQueue, fstampOf sof) })).setF (BUS_STAT n) BUS_STAT_TXBUSY 1)) ∧
    (∀ (S : State) (T : Time) (n : Fin 6) (q : Nat) (stamp : W), let d := S.dev.at T
      d.stopped = false → (d.port n).tx = some (q, stamp) →
      runsTo (.arbitrationLost T n) S (fun e => e = d.txOver n q)) ∧
    (∀ (S : State) (T : Time) (n : Fin 6) (tdc : Nat) (q : Nat) (stamp : W), let d := S.dev.at T
      d.stopped = false → (d.port n).tx = some (q, stamp) → q ≠ secQueue →
      runsTo (.busTxComplete T n tdc) S (fun e => e = d.queSent n q stamp tdc)) ∧
    (∀ (S : State) (T : Time) (n : Fin 6) (tdc : Nat) (stamp : W), let d := S.dev.at T
      d.stopped = false → (d.port n).tx = some (secQueue, stamp) →
      runsTo (.busTxComplete T n tdc) S (fun e => e = d.secSent n tdc)) ∧
    (∀ (S : State) (T : Time) (n : Fin 6) (code : Fin 8) (dataPhase exempt : Bool) (q : Nat) (stamp : W), let d := S.dev.at T
      d.stopped = false → (d.port n).tx = some (q, stamp) → q ≠ secQueue → ((d.txCount n q code dataPhase exempt).que q).cancelLate = false → (((d.noteError n code dataPhase).txOver n q).fld (BUS_ECNT n) BUS_ECNT_TEC + if exempt then 0 else 8) ≤ 255 →
      runsTo (.busTxError T n code dataPhase exempt) S (fun e => e = (d.txCount n q code dataPhase exempt).retry n q)) ∧
    (∀ (S : State) (T : Time) (n : Fin 6) (code : Fin 8) (dataPhase exempt : Bool) (q : Nat) (stamp : W), let d := S.dev.at T
      d.stopped = false → (d.port n).tx = some (q, stamp) → q ≠ secQueue → ((d.txCount n q code dataPhase exempt).que q).cancelLate = false → 255 < (((d.noteError n code dataPhase).txOver n q).fld (BUS_ECNT n) BUS_ECNT_TEC + if exempt then 0 else 8) →
      runsTo (.busTxError T n code dataPhase exempt) S (fun e => e = (d.txCount n q code dataPhase exempt).busOff n q)) ∧
    (∀ (S : State) (T : Time) (n : Fin 6) (code : Fin 8) (dataPhase eight : Bool), let d := S.dev.at T
      d.stopped = false → d.receiving n = true → d.busState n ≠ bsDetecting →
      runsTo (.busRxError T n code dataPhase eight) S (fun e => let m := d.noteError n code dataPhase; e = (m.setF (BUS_ECNT n) BUS_ECNT_REC (min 255 (m.fld (BUS_ECNT n) BUS_ECNT_REC + if eight then 8 else 1))).errState n)) ∧
    (∀ (S : State) (T : Time) (n : Fin 6), let d := S.dev.at T
      d.stopped = false → d.busState n = bsRecovering →
      runsTo (.busRecovered T n) S (fun e => let m := ((d.wr (BUS_ECNT n) 0).modPort n (fun p => { p with recovering := false })).setBus n bsActive; e = m.evt EV_BUS_RECOVERED [n.val])) ∧
    (∀ (S : State) (T : Time) (n : Fin 6) (v : W), let d := S.dev.at T
      d.stopped = false → v.bit 0 = true → d.busState n = bsBusoff →
      runsTo (.busRecover T n v) S (fun e => e = d.startRecovery n)) ∧
    (∀ (S : State) (T : Time) (n : Fin 6) (q : Nat), let d := S.dev.at T
      d.stopped = false → d.busState n = bsDetecting → (d.port n).abdRun = true → d.nextRate n (d.port n).abdCand = (q, false) →
      runsTo (.abdDwell T n) S (fun e => e = d.modPort n (fun p => { p with abdCand := q, abdCycles := (d.port n).abdCycles + b2n false }))) ∧
    (∀ (S : State) (T : Time) (n : Fin 6), let d := S.dev.at T
      d.stopped = false → (d.isSet (BUS_CFG n) BUS_CFG_EN = true ∨ d.recovery n = true) → d.busState n = bsIntegrating →
      runsTo (.busIntegrationDone T n) S (fun e => e = (d.modPort n (fun p => { p with integrating := false })).setBus n (if 128 ≤ d.fld (BUS_ECNT n) BUS_ECNT_TEC || 128 ≤ d.fld (BUS_ECNT n) BUS_ECNT_REC then bsPassive else bsActive)))

/-- Commands of the message queues complete (R326, R331, R335). -/
def Obligations.QueueCommandsComplete : Prop :=
  (∀ (S : State) (T : Time) (q : Fin 32), let d := S.dev.at T
      d.stopped = false → d.qEn q = true → d.qRx q = false → d.qAssured q = false → (d.rd (QUE_LIFE q)).toNat ≠ 0 → 0 < d.qFill q → (d.headDesc q).status = dsPending → d.isSet (QUE_STAT q) QUE_STAT_INFLIGHT = false → (d.headDesc q).posted.toNat + (d.rd (QUE_LIFE q)).toNat * usTicks < d.now.toNat →
      runsTo (.queExpired T q) S (fun e => let m := (((d.unwait q).qComplete q dsExpired false).incSat (QUE_LOSS q) QUE_LOSS_EXPIRED).setF (QUE_FLT q) QUE_FLT_EXPIRED 1; e = m.evtRated EV_QUE_EXPIRED q [q.val])) ∧
    (∀ (S : State) (T : Time) (q : Fin 32) (v : W), let d := S.dev.at T
      d.stopped = false → v.bit 31 = true → d.qAssured q = false → d.qRx q = false → d.qEn q = true → v.fld QUE_CANCEL_INDEX < max 1 (d.qSize q) → (v.fld QUE_CANCEL_INDEX + max 1 (d.qSize q) - d.qHead q) % max 1 (d.qSize q) < d.qFill q → (d.desc q (v.fld QUE_CANCEL_INDEX)).status = dsPending → (v.fld QUE_CANCEL_INDEX + max 1 (d.qSize q) - d.qHead q) % max 1 (d.qSize q) = 0 → d.isSet (QUE_STAT q) QUE_STAT_INFLIGHT = false →
      runsTo (.queCancel T q v) S (fun e => e = (((d.incSat (QUE_LOSS q) QUE_LOSS_CANCELLED).unwait q).qComplete q dsCancelled false).cancelResult q 0)) ∧
    (∀ (S : State) (T : Time) (q : Fin 32) (v : W), let d := S.dev.at T
      d.stopped = false → v.bit 31 = true → d.qAssured q = false → d.qRx q = false → d.qEn q = true → v.fld QUE_CANCEL_INDEX < max 1 (d.qSize q) → (v.fld QUE_CANCEL_INDEX + max 1 (d.qSize q) - d.qHead q) % max 1 (d.qSize q) < d.qFill q → (d.desc q (v.fld QUE_CANCEL_INDEX)).status = dsPending → (v.fld QUE_CANCEL_INDEX + max 1 (d.qSize q) - d.qHead q) % max 1 (d.qSize q) ≠ 0 →
      runsTo (.queCancel T q v) S (fun e => e = ((d.incSat (QUE_LOSS q) QUE_LOSS_CANCELLED).putDesc q (v.fld QUE_CANCEL_INDEX) { d.desc q (v.fld QUE_CANCEL_INDEX) with status := dsCancelled }).cancelResult q 0)) ∧
    (∀ (S : State) (T : Time) (q : Fin 32) (v : W), let d := S.dev.at T
      d.stopped = false → v.bit 31 = true → d.qAssured q = true →
      runsTo (.queCancel T q v) S (fun e => let m := (d.setF (QUE_FLT q) QUE_FLT_CANREF 1).evt EV_QUE_CANCEL_REFUSED [q.val]; e = m.cancelResult q 2)) ∧
    (∀ (S : State) (T : Time) (triad : Fin 4) (q : Fin 32) (rdIx : Bool) (v : W), let d := S.dev.at T
      d.stopped = false → d.qEn q = true → d.coreOwns q rdIx = true → v.fld QUE_WR_INDEX < d.qSize q → rdIx = true → (v.fld QUE_WR_INDEX + d.qSize q - d.qHead q) % d.qSize q ≤ d.qFill q →
      runsTo (.queIndexWrite T triad q rdIx v) S (fun e => e = (d.wr (QUE_RD q) (BitVec.ofNat 32 (v.fld QUE_WR_INDEX))).setFill q (d.qFill q - (v.fld QUE_WR_INDEX + d.qSize q - d.qHead q) % d.qSize q))) ∧
    (∀ (S : State) (T : Time) (triad : Fin 4) (q : Fin 32) (rdIx : Bool) (v : W), let d := S.dev.at T
      d.stopped = false → d.qEn q = true → d.coreOwns q rdIx = true → v.fld QUE_WR_INDEX < d.qSize q → rdIx = false → d.qFill q + (v.fld QUE_WR_INDEX + d.qSize q - d.fld (QUE_WR q) QUE_WR_INDEX) % d.qSize q ≤ d.qSize q →
      runsTo (.queIndexWrite T triad q rdIx v) S (fun e => e = d.coverPosts q ((v.fld QUE_WR_INDEX + d.qSize q - d.fld (QUE_WR q) QUE_WR_INDEX) % d.qSize q))) ∧
    (∀ (S : State) (T : Time) (triad : Fin 4) (q : Fin 32) (rdIx : Bool) (v : W), let d := S.dev.at T
      d.stopped = false → (d.qEn q = false ∨ d.coreOwns q rdIx = false) →
      runsTo (.queIndexWrite T triad q rdIx v) S (fun e => e = d.badIndex triad q rdIx))

/-- Commands of the signal table and the domain complete (R344, R347, R350, R351, R358, R359). -/
def Obligations.DomainCommandsComplete : Prop :=
  (∀ (S : State) (T : Time) (v : W) (sm : SigMap), let d := S.dev.at T
      d.stopped = false → v.bit 31 = true → d.img.sigmaps[v.fld SIG_MAPTX_MAP]? = some sm → sm.dir = 1 →
      runsTo (.sigMaptx T v) S (fun e => let m := (d.wr SIG_MAPRES 0).incSat (SIG_MAPSTAT (v.fld SIG_MAPTX_MAP)) SIG_MAPSTAT_APPLY; e = mapPosted (m.post 4 sm.queue (m.mapFrame sm)))) ∧
    (∀ (S : State) (T : Time), let d := S.dev.at T
      d.stopped = false → d.isSet SIG_CFG SIG_CFG_DOMEN = true →
      runsTo (.publishRound T) S (fun e => e = ({ d with sig := { d.sig with written := [] } } : Dev).publish d.publishing)) ∧
    (∀ (S : State) (T : Time) (q : Fin 32) (x : Desc), let d := S.dev.at T
      d.stopped = false → d.domHead q 0 = some x →
      runsTo (.publishReceived T q) S (fun e => e = Dev.published x (d.sigTake q x))) ∧
    (∀ (S : State) (T : Time) (q : Fin 32) (x : Desc), let d := S.dev.at T
      d.stopped = false → d.domHead q 1 = some x → (d.sigTake q x).cmdQueue x = true → (d.sigTake q x).cmdDissent = false → (d.sigTake q x).commandPending x.src (x.num 5 1) (x.num 8 8) = false → (d.sigTake q x).cmdOld x = false → (d.sigTake q x).jrnFull = false → (d.sigTake q x).qRoom (x.num 4 1) = true →
      runsTo (.commandReceived T q) S (fun e => e = (d.sigTake q x).cmdAccept x)) ∧
    (∀ (S : State) (T : Time) (q : Fin 32) (x : Desc), let d := S.dev.at T
      d.stopped = false → d.domHead q 1 = some x → (d.sigTake q x).cmdQueue x = true → (d.sigTake q x).cmdDissent = false → (d.sigTake q x).commandPending x.src (x.num 5 1) (x.num 8 8) = false → (d.sigTake q x).cmdOld x = true →
      runsTo (.commandReceived T q) S (fun e => let m := (d.sigTake q x); e = (m.whenSome (m.stream x.src (x.num 5 1)) (fun s y => y.setStream x.src (x.num 5 1) s.seq)).reply x.src (x.num 4 1) (x.num 5 1) 1 false (x.num 8 8))) ∧
    (∀ (S : State) (T : Time) (q : Fin 32) (x : Desc), let d := S.dev.at T
      d.stopped = false → d.domHead q 2 = some x → (x.num 5 1) < 32 → ((d.sigTake q x).que (x.num 5 1)).awaiting.isSome = true → ((d.sigTake q x).headDesc (x.num 5 1)).seq = x.num 8 8 → (x.num 6 1 = 0 ∨ x.num 6 1 = 1) →
      runsTo (.replyReceived T q) S (fun e => e = (d.sigTake q x).qComplete (x.num 5 1) dsSent ((d.sigTake q x).que (x.num 5 1)).cancelLate)) ∧
    (∀ (S : State) (T : Time) (q : Fin 32) (x : Desc), let d := S.dev.at T
      d.stopped = false → d.domHead q 3 = some x → (d.sigTake q x).isRoot = true →
      runsTo (.heartbeatReceived T q) S (fun e => e = (d.sigTake q x).hear x.src (BitVec.ofNat 32 (x.num 12 4)))) ∧
    (∀ (S : State) (T : Time) (q : Fin 32) (x : Desc), let d := S.dev.at T
      d.stopped = false → d.domHead q 4 = some x → (d.sigTake q x).isRoot = true →
      runsTo (.aggregateReceived T q) S (fun e => let m := (d.sigTake q x); e = ({ m with sig := { m.sig with aggAgree := m.sig.aggAgree + x.num 8 2, aggDissent := m.sig.aggDissent + x.num 10 2, aggList := m.sig.aggList ++ (List.range (min 26 (x.num 3 1))).map (fun i => x.num (12 + 2 * i) 2) } } : Dev))) ∧
    (∀ (S : State) (T : Time) (q : Fin 32) (x : Desc), let d := S.dev.at T
      d.stopped = false → d.domHead q 5 = some x →
      runsTo (.announceReceived T q) S (fun e => let m := (d.sigTake q x).wr SIG_DEPOCH (BitVec.ofNat 32 (x.num 4 4)); e = ({ m with sig := { m.sig with lastAnnounce := some m.now } } : Dev).setAgree (decide (BitVec.ofNat 32 (x.num 4 4) = m.rd SYS_CFGEPOCH)))) ∧
    (∀ (S : State) (T : Time) (q : Fin 32) (r : Time), let d := S.dev.at T
      d.stopped = false → (d.que q).awaiting = some r → d.fld SIG_CFG SIG_CFG_REPLYTO * msTicks ≤ d.since r →
      runsTo (.replytoExpired T q) S (fun e => e = d.contendAgain q)) ∧
    (∀ (S : State) (T : Time), let d := S.dev.at T
      d.stopped = false → d.domEn = true → d.masterRole = true → d.secondStep (d.fld SIG_CFG SIG_CFG_DEVID % 1000 * msTicks) = true → d.isRoot = false →
      runsTo (.domainHeartbeat T) S (fun e => e = d.heartbeat)) ∧
    (∀ (S : State) (T : Time), let d := S.dev.at T
      d.stopped = false → d.domEn = true → d.masterRole = true → d.secondStep (d.fld SIG_CFG SIG_CFG_DEVID % 1000 * msTicks) = true → d.isRoot = true →
      runsTo (.domainHeartbeat T) S (fun e => e = d.hear (d.fld SIG_CFG SIG_CFG_DEVID) (d.rd SYS_CFGEPOCH))) ∧
    (∀ (S : State) (T : Time), let d := S.dev.at T
      d.stopped = false → d.domEn = true → d.isGw = true → d.secondStep 0 = true →
      runsTo (.aggregateSend T) S (fun e => e = (d.hear (d.fld SIG_CFG SIG_CFG_DEVID) (d.rd SYS_CFGEPOCH)).aggregate)) ∧
    (∀ (S : State) (T : Time), let d := S.dev.at T
      d.stopped = false → d.domEn = true → d.isRoot = true → d.secondStep 0 = true →
      runsTo (.announceSend T) S (fun e => e = d.announce)) ∧
    (∀ (S : State) (T : Time) (r : Time), let d := S.dev.at T
      d.stopped = false → d.sig.lastAnnounce = some r → d.domEn = true → 5 * secTicks ≤ d.since r →
      runsTo (.rootSilent T) S (fun e => let m := (({ d with sig := { d.sig with lastAnnounce := none } } : Dev).setF SIG_STAT SIG_STAT_AGREE 0).setF SIG_FLT SIG_FLT_ROOTSILENT 1; e = m.evt EV_SIG_ROOT_SILENT [] ∧ logged m e EV_SIG_ROOT_SILENT))

/-- Commands of the drive token and the Ciwin link complete (R295, R296, R297, R298, R299). -/
def Obligations.TokenAndLinkCommandsComplete : Prop :=
  (∀ (S : State) (T : Time), let d := S.dev.at T
      d.stopped = false → d.paired = true → d.holdsToken = true →
      runsTo (.tokenWire T) S (fun e => let m := (d.releaseToken 2).setF LNK_FLT LNK_FLT_TOKWIRE 1; e = m.evt EV_LNK_TOKEN_WIRE [] ∧ logged m e EV_LNK_TOKEN_WIRE)) ∧
    (∀ (S : State) (T : Time), let d := S.dev.at T
      d.stopped = false → d.peerTok = true →
      runsTo (.peerTokenLost T) S (fun e => e = (d.setF LNK_STAT LNK_STAT_PEERTOK 0).modLnk (fun l => { l with lastEdge := d.now - BitVec.ofNat 64 (2 * usTicks) }) ∧ e.peerTok = false)) ∧
    (∀ (S : State) (T : Time), let d := S.dev.at T
      d.stopped = false →
      runsTo (.peerTokenSeen T) S (fun e => e = (d.setF LNK_STAT LNK_STAT_PEERTOK 1).modLnk (fun l => { l with lastEdge := d.now }) ∧ e.peerTok = true)) ∧
    (∀ (S : State) (T : Time), let d := S.dev.at T
      d.stopped = false → d.paired = true → d.holdsToken = true →
      runsTo (.tokenRace T) S (fun e => let m := (d.peerSeen.when (d.peerSeen.side = 1) (fun x => x.releaseToken 3)).setF LNK_FLT LNK_FLT_TOKRACE 1; e = m.evt EV_LNK_TOKEN_RACE [] ∧ logged m e EV_LNK_TOKEN_RACE)) ∧
    (∀ (S : State) (T : Time), let d := S.dev.at T
      d.stopped = false →
      runsTo (.hbSend T) S (fun e => e = d.linkSend (.hb d.role d.holdsToken d.now d.jrn.jepoch d.jrn.jpos d.lnk.sc d.sysState (d.isSet SUP_STAT SUP_STAT_WARN)))) ∧
    (∀ (S : State) (T : Time) (seq role : Nat) (tok : Bool) (stime : Time) (jepoch jpos sys : Nat) (warn : Bool), let d := S.dev.at T
      d.stopped = false → d.paired = true → d.linkUp = true → seq = d.lnk.rxSeq →
      runsTo (.hbReceived T seq role tok stime jepoch jpos sys warn) S (fun e => e = ((d.modLnk (fun l => { l with rxSeq := (seq + 1) % 2 ^ 32 })).hbNote role tok stime jepoch jpos sys warn).hbRole role tok)) ∧
    (∀ (S : State) (T : Time) (upTo : Nat), let d := S.dev.at T
      d.stopped = false → d.paired = true → d.linkUp = true →
      runsTo (.linkAck T upTo) S (fun e => e = (d.lnk.unacked.filter (ackedBy upTo)).foldl Dev.linkDone (d.dropAcked upTo))) ∧
    (∀ (S : State) (T : Time), let d := S.dev.at T
      d.stopped = false → d.paired = true → d.linkUp = true → d.lnk.unacked.any d.resendDue = true → d.resendAll.lnk.unacked.any (fun x => 8 ≤ x.sends) = false →
      runsTo (.linkResend T) S (fun e => e = d.resendAll)) ∧
    (∀ (S : State) (T : Time), let d := S.dev.at T
      d.stopped = false → d.paired = true → d.linkUp = true → d.lnk.unacked.any d.resendDue = true → d.resendAll.lnk.unacked.any (fun x => 8 ≤ x.sends) = true →
      runsTo (.linkResend T) S (fun e => e = d.resendAll.linkDown)) ∧
    (∀ (S : State) (T : Time) (lanes latency : Nat), let d := S.dev.at T
      d.stopped = false → d.paired = true → d.linkUp = false → usableLanes lanes ≠ 0 →
      runsTo (.linkTrained T lanes latency) S (fun e => e = d.linkStart (usableLanes lanes) latency)) ∧
    (∀ (S : State) (T : Time), let d := S.dev.at T
      d.stopped = false → d.paired = true → d.linkUp = false →
      runsTo (.linkRetrain T) S (fun e => e = (d.setF LNK_STAT LNK_STAT_LANES 0).setF LNK_STAT LNK_STAT_HALF 0)) ∧
    (∀ (S : State) (T : Time) (lane : Fin 4) (errs : Nat), let d := S.dev.at T
      d.stopped = false → d.linkUp = true → (d.fld LNK_STAT LNK_STAT_LANES).testBit lane = true → 16 < errs → d.fld LNK_STAT LNK_STAT_LANES = 0xF →
      runsTo (.laneDegraded T lane errs) S (fun e => let m := ((((d.setF LNK_LANE ⟨8 * lane, 8⟩ (min errs 127)).setF LNK_STAT LNK_STAT_LANES (if lane.val < 2 then 0xC else 3)).setF LNK_STAT LNK_STAT_HALF 1).setF LNK_FLT LNK_FLT_LANE 1); e = m.evt EV_LNK_LANE_DEGRADED [lane.val] ∧ logged m e EV_LNK_LANE_DEGRADED)) ∧
    (∀ (S : State) (T : Time) (lane : Fin 4) (errs : Nat), let d := S.dev.at T
      d.stopped = false → d.linkUp = true → (d.fld LNK_STAT LNK_STAT_LANES).testBit lane = true → 16 < errs → d.fld LNK_STAT LNK_STAT_LANES ≠ 0xF →
      runsTo (.laneDegraded T lane errs) S (fun e => e = ((d.setF LNK_LANE ⟨8 * lane, 8⟩ (min errs 127)).setF LNK_STAT LNK_STAT_LANES 0).linkDown)) ∧
    (∀ (S : State) (T : Time) (triad : Fin 4) (v : W), let d := S.dev.at T
      d.stopped = false → triad.val = 0 → v.bit 1 = true →
      runsTo (.retrain T triad v) S (fun e => e = d.linkDown.linkRetry)) ∧
    (∀ (S : State) (T : Time) (triad : Fin 4) (v : W), let d := S.dev.at T
      d.stopped = false → triad.val ≠ 0 →
      runsTo (.retrain T triad v) S (fun e => e = d.lockedWrite triad LNK_CTRL))

/-- Commands of the pair: hello, claims, mirrors, heartbeats and yields complete (R297, R301, R302, R304, R305, R308,
R309, R311). -/
def Obligations.PairCommandsComplete : Prop :=
  (∀ (S : State) (T : Time) (seq : Nat) (dig0 dig1 epoch : W) (side : Bool) (jepoch jpos role sys : Nat) (tkEpoch : Option Time), let d := S.dev.at T
      d.stopped = false → d.paired = true → d.linkUp = true → seq = d.lnk.rxSeq → ¬ (side = (((d.modLnk (fun l => { l with rxSeq := (seq + 1) % 2 ^ 32 })).helloNote dig0 dig1 epoch sys tkEpoch).side = 1)) → dig0 = ((d.modLnk (fun l => { l with rxSeq := (seq + 1) % 2 ^ 32 })).helloNote dig0 dig1 epoch sys tkEpoch).rd SYS_CFGDIG0 → dig1 = ((d.modLnk (fun l => { l with rxSeq := (seq + 1) % 2 ^ 32 })).helloNote dig0 dig1 epoch sys tkEpoch).rd SYS_CFGDIG1 → epoch = ((d.modLnk (fun l => { l with rxSeq := (seq + 1) % 2 ^ 32 })).helloNote dig0 dig1 epoch sys tkEpoch).rd SYS_CFGEPOCH → ((d.modLnk (fun l => { l with rxSeq := (seq + 1) % 2 ^ 32 })).helloNote dig0 dig1 epoch sys tkEpoch).role = roleDeciding →
      runsTo (.helloReceived T seq dig0 dig1 epoch side jepoch jpos role sys tkEpoch) S (fun e => e = ((d.modLnk (fun l => { l with rxSeq := (seq + 1) % 2 ^ 32 })).helloNote dig0 dig1 epoch sys tkEpoch).decideRole jepoch jpos role)) ∧
    (∀ (S : State) (T : Time) (seq : Nat) (dig0 dig1 epoch : W) (side : Bool) (jepoch jpos role sys : Nat) (tkEpoch : Option Time), let d := S.dev.at T
      d.stopped = false → d.paired = true → d.linkUp = true → seq = d.lnk.rxSeq → ¬ (side = (((d.modLnk (fun l => { l with rxSeq := (seq + 1) % 2 ^ 32 })).helloNote dig0 dig1 epoch sys tkEpoch).side = 1)) → dig0 = ((d.modLnk (fun l => { l with rxSeq := (seq + 1) % 2 ^ 32 })).helloNote dig0 dig1 epoch sys tkEpoch).rd SYS_CFGDIG0 → dig1 = ((d.modLnk (fun l => { l with rxSeq := (seq + 1) % 2 ^ 32 })).helloNote dig0 dig1 epoch sys tkEpoch).rd SYS_CFGDIG1 → epoch = ((d.modLnk (fun l => { l with rxSeq := (seq + 1) % 2 ^ 32 })).helloNote dig0 dig1 epoch sys tkEpoch).rd SYS_CFGEPOCH → ((d.modLnk (fun l => { l with rxSeq := (seq + 1) % 2 ^ 32 })).helloNote dig0 dig1 epoch sys tkEpoch).role ≠ roleDeciding →
      runsTo (.helloReceived T seq dig0 dig1 epoch side jepoch jpos role sys tkEpoch) S (fun e => e = ((d.modLnk (fun l => { l with rxSeq := (seq + 1) % 2 ^ 32 })).helloNote dig0 dig1 epoch sys tkEpoch))) ∧
    (∀ (S : State) (T : Time) (seq : Nat) (dig0 dig1 epoch : W) (side : Bool) (jepoch jpos role sys : Nat) (tkEpoch : Option Time), let d := S.dev.at T
      d.stopped = false → d.paired = true → d.linkUp = true → seq = d.lnk.rxSeq → side = (((d.modLnk (fun l => { l with rxSeq := (seq + 1) % 2 ^ 32 })).helloNote dig0 dig1 epoch sys tkEpoch).side = 1) → ((d.modLnk (fun l => { l with rxSeq := (seq + 1) % 2 ^ 32 })).helloNote dig0 dig1 epoch sys tkEpoch).role = roleDeciding →
      runsTo (.helloReceived T seq dig0 dig1 epoch side jepoch jpos role sys tkEpoch) S (fun e => e = ((d.modLnk (fun l => { l with rxSeq := (seq + 1) % 2 ^ 32 })).helloNote dig0 dig1 epoch sys tkEpoch).pairMismatch.setRole roleBarred)) ∧
    (∀ (S : State) (T : Time), let d := S.dev.at T
      d.stopped = false → d.paired = true → d.linkUp = false → d.inRun = true → d.role = roleDeciding → d.wireQuiet = true → d.fld LNK_CFG LNK_CFG_SOLOWAIT * 10 * msTicks * (if d.side = 1 then 2 else 1) ≤ d.since d.lnk.runAt → d.fld LNK_CFG LNK_CFG_SOLOWAIT * 10 * msTicks * (if d.side = 1 then 2 else 1) ≤ d.since d.lnk.lastEdge →
      runsTo (.soloClaim T) S (fun e => e = d.claimToken)) ∧
    (∀ (S : State) (T : Time) (seq : Nat) (f : Fin 32) (v : W), let d := S.dev.at T
      d.stopped = false → d.paired = true → d.linkUp = true → seq = d.lnk.rxSeq → (d.modLnk (fun l => { l with rxSeq := (seq + 1) % 2 ^ 32 })).follows = true →
      runsTo (.fnstateReceived T seq f v) S (fun e => let m := (d.modLnk (fun l => { l with rxSeq := (seq + 1) % 2 ^ 32 })); e = m.modLnk (fun l => { l with peerFns := Tab.set f.val v l.peerFns }))) ∧
    (∀ (S : State) (T : Time) (seq jpos kind que eseq : Nat) (body : List Byte), let d := S.dev.at T
      d.stopped = false → d.paired = true → d.linkUp = true → seq = d.lnk.rxSeq → (d.modLnk (fun l => { l with rxSeq := (seq + 1) % 2 ^ 32 })).follows = true → jpos = (d.modLnk (fun l => { l with rxSeq := (seq + 1) % 2 ^ 32 })).jrn.jpos →
      runsTo (.jrnReceived T seq jpos kind que eseq body) S (fun e => e = (d.modLnk (fun l => { l with rxSeq := (seq + 1) % 2 ^ 32 })).jrnTake jpos kind que eseq body)) ∧
    (∀ (S : State) (T : Time) (seq addr : Nat) (bytes : List Byte), let d := S.dev.at T
      d.stopped = false → d.paired = true → d.linkUp = true → seq = d.lnk.rxSeq → (d.modLnk (fun l => { l with rxSeq := (seq + 1) % 2 ^ 32 })).follows = true →
      runsTo (.mirReceived T seq addr bytes) S (fun e => let m := (d.modLnk (fun l => { l with rxSeq := (seq + 1) % 2 ^ 32 })); e = m.modLnk (fun l => { l with staging := l.staging ++ [(addr, bytes)] }))) ∧
    (∀ (S : State) (T : Time) (seq sc : Nat) (good : Bool) (blk : StateBlock), let d := S.dev.at T
      d.stopped = false → d.paired = true → d.linkUp = true → seq = d.lnk.rxSeq → (d.modLnk (fun l => { l with rxSeq := (seq + 1) % 2 ^ 32 })).follows = true →
      runsTo (.mirendReceived T seq sc good blk) S (fun e => let m := (d.modLnk (fun l => { l with rxSeq := (seq + 1) % 2 ^ 32 })); e = m.modLnk (fun l => { l with staged := if good && m.stagedWhole then some ⟨sc, l.staging, blk⟩ else l.staged, staging := [] }) ∧ e.lnk.staging = [])) ∧
    (∀ (S : State) (T : Time) (c : MirCopy), let d := S.dev.at T
      d.stopped = false → d.lnk.staged = some c →
      runsTo (.mirrorApplied T) S (fun e => e = (d.applyStaged.linkSend (.applied c.sc)).checkCaughtUp.syncStep)) ∧
    (∀ (S : State) (T : Time) (seq sc : Nat), let d := S.dev.at T
      d.stopped = false → d.paired = true → d.linkUp = true → seq = d.lnk.rxSeq → d.lnk.yield = 2 → sc = d.lnk.sc → d.role = roleActive →
      runsTo (.appliedReceived T seq sc) S (fun e => e = ((d.modLnk (fun l => { l with rxSeq := (seq + 1) % 2 ^ 32 })).releaseToken 1).linkSend .release)) ∧
    (∀ (S : State) (T : Time) (seq : Nat), let d := S.dev.at T
      d.stopped = false → d.paired = true → d.linkUp = true → seq = d.lnk.rxSeq → d.role = roleStandby →
      runsTo (.releaseReceived T seq) S (fun e => e = (d.modLnk (fun l => { l with rxSeq := (seq + 1) % 2 ^ 32 })).takeover 1)) ∧
    (∀ (S : State) (T : Time), let d := S.dev.at T
      d.stopped = false → d.paired = true → d.peerTok = false → d.fld LNK_CFG LNK_CFG_HBLOSS * 10 * usTicks ≤ d.since d.lnk.lastHb → d.role = roleStandby →
      runsTo (.hbLoss T) S (fun e => e = d.takeover 2)) ∧
    (∀ (S : State) (T : Time), let d := S.dev.at T
      d.stopped = false → d.paired = true → d.peerTok = false → d.fld LNK_CFG LNK_CFG_HBLOSS * 10 * usTicks ≤ d.since d.lnk.lastHb → d.role = roleSyncing → d.lnk.noSucc = false →
      runsTo (.hbLoss T) S (fun e => let m := d.modLnk (fun l => { l with noSucc := true }); e = m.evt EV_LNK_NO_SUCCESSOR [] ∧ logged m e EV_LNK_NO_SUCCESSOR)) ∧
    (∀ (S : State) (T : Time) (triad : Fin 4) (v : W), let d := S.dev.at T
      d.stopped = false → triad.val = 0 → v.bit 0 = true → d.role = roleActive → d.lnk.peerRole = roleStandby → d.linkUp = true → d.fld LNK_STAT LNK_STAT_LANES = 0xF →
      runsTo (.yield T triad v) S (fun e => e = d.modLnk (fun l => { l with yield := 1 }) ∧ e.lnk.yield = 1)) ∧
    (∀ (S : State) (T : Time) (triad : Fin 4) (v : W), let d := S.dev.at T
      d.stopped = false → triad.val = 0 → v.bit 0 = true → d.role ≠ roleActive →
      runsTo (.yield T triad v) S (fun e => e = d.evt EV_LNK_YIELD_REFUSED [] ∧ logged d e EV_LNK_YIELD_REFUSED)) ∧
    (∀ (S : State) (T : Time) (seq : Nat) (q : Fin 32) (fr : Frame), let d := S.dev.at T
      d.stopped = false → d.paired = true → d.linkUp = true → seq = d.lnk.rxSeq → d.qEn q = true → d.qRx q = true → d.qBind q = bindLink →
      runsTo (.linkQueueFrame T seq q fr) S (fun e => let m := (d.modLnk (fun l => { l with rxSeq := (seq + 1) % 2 ^ 32 })); e = (m.storeFrame q 6 fr m.fstamp false).forward 6 (frameDesc fr)))

/-- Opening, proving, closing and expiring of sessions and lockouts complete (R405, R408, R410, R411). -/
def Obligations.SessionCommandsComplete : Prop :=
  (∀ (S : State) (T : Time) (port ctag role key : Nat) (cnonce : List Byte), let d := S.dev.at T
      d.stopped = false → d.secOpen port = true → d.openDenied port ctag role key = none →
      runsTo (.open_ T port ctag role key cnonce) S (fun e => e = d.challenge port ctag role key cnonce)) ∧
    (∀ (S : State) (T : Time) (port ctag role key : Nat) (cnonce : List Byte) (q : Nat), let d := S.dev.at T
      d.stopped = false → d.secOpen port = true → d.openDenied port ctag role key = some q →
      runsTo (.open_ T port ctag role key cnonce) S (fun e => e = d.denied port ctag q)) ∧
    (∀ (S : State) (T : Time) (port ctag sid : Nat) (proof : List Byte) (x : Chal), let d := S.dev.at T
      d.stopped = false → d.sec.chals.find? (fun c => c.id = sid && c.port = port && c.ctag = ctag) = some x → d.since x.sentAt ≤ 5 * secTicks → (d.dropChal sid).secBusy port ctag = false →
      runsTo (.prove T port ctag sid proof) S (fun e => let m := d.dropChal sid; e = if m.proofOk x proof then m.openSession x else (m.failedAttempt x.role 0 port x.key sid).denied port ctag dnProof)) ∧
    (∀ (S : State) (T : Time) (sid : Nat) (x : Chal), let d := S.dev.at T
      d.stopped = false → d.sec.chals.find? (fun c => c.id = sid) = some x → 5 * secTicks < d.since x.sentAt →
      runsTo (.proveTimeout T sid) S (fun e => e = (d.dropChal sid).failedAttempt x.role 0 x.port x.key sid)) ∧
    (∀ (S : State) (T : Time) (port key : Nat) (pub cert : List Byte) (audits : Bool), let d := S.dev.at T
      d.stopped = false → d.sysState = stNocfg → port = 0 → d.isSet SEC_STAT SEC_STAT_NOMAKER = true →
      runsTo (.makerFirst T port key pub cert audits) S (fun e => e = if d.firstOk key pub cert then (if audits then (d.audit 0x42 0 port key 0 key noDigest (objDigest pub)).putKeys (d.sec.keys ++ [⟨key, rlMaker, pub⟩]) else d) else d.failedAttempt rlMaker 0 port key 0)) ∧
    (∀ (S : State) (T : Time) (port ctag sid ctr : Nat) (auth : List Byte) (x : Session), let d := S.dev.at T
      d.stopped = false → d.sec.sessions.find? (fun s => s.id = sid && s.port = port && s.ctag = ctag) = some x → d.genuine x ctr 0x60 ([]) auth = true → d.hasRight x 0x60 = true →
      runsTo (.close T port ctag sid ctr auth) S (fun e => e = ((d.setSession sid (x.used ctr d.now)).result (x.used ctr d.now) rcOk []).closeSession (x.used ctr d.now))) ∧
    (∀ (S : State) (T : Time) (sid : Nat) (x : Session), let d := S.dev.at T
      d.stopped = false → d.sec.sessions.find? (fun s => s.id = sid) = some x → (d.roleRec x.role).idle * secTicks ≤ d.since x.lastAt →
      runsTo (.sessionIdleTimeout T sid) S (fun e => e = d.closeSession x)) ∧
    (∀ (S : State) (T : Time) (role : Fin 4), let d := S.dev.at T
      d.stopped = false → (Tab.getD (0 : Time) d.sec.lockEnd role).toNat ≤ d.now.toNat →
      runsTo (.lockoutExpire T role) S (fun e => e = d.setF SEC_STAT (lockField role) 0))

/-- Session requests that read and that change limits, calibration and the clock complete (R44, R412, R414, R415,
R416, R418). -/
def Obligations.ReadAndLimitRequestsComplete : Prop :=
  (∀ (S : State) (T : Time) (port ctag sid ctr : Nat) (addr len : Nat) (auth : List Byte) (x : Session), let d := S.dev.at T
      d.stopped = false → d.sec.sessions.find? (fun s => s.id = sid && s.port = port && s.ctag = ctag) = some x → d.genuine x ctr 0x01 (leBytes 4 addr ++ leBytes 2 len) auth = true → d.hasRight x 0x01 = true → (d.setSession sid (x.used ctr d.now)).sysState ≠ stNocfg → 0 < len → len ≤ 256 → ((List.range len).map (fun i => addr + i)).all readable = true →
      runsTo (.read T port ctag sid ctr addr len auth) S (fun e => e = (d.setSession sid (x.used ctr d.now)).result (x.used ctr d.now) rcOk (((List.range len).map (fun i => addr + i)).map (fun a => (d.setSession sid (x.used ctr d.now)).peekByte 0 a)))) ∧
    (∀ (S : State) (T : Time) (port ctag sid ctr : Nat) (index count : Nat) (auth : List Byte) (x : Session), let d := S.dev.at T
      d.stopped = false → d.sec.sessions.find? (fun s => s.id = sid && s.port = port && s.ctag = ctag) = some x → d.genuine x ctr 0x02 (leBytes 4 index ++ leBytes 1 count) auth = true → d.hasRight x 0x02 = true → 0 < count → count ≤ 4 → ((List.range count).map (fun i => index + i)).all (d.setSession sid (x.used ctr d.now)).auditHas = true →
      runsTo (.readAudit T port ctag sid ctr index count auth) S (fun e => e = ((d.setSession sid (x.used ctr d.now)).forEach ((List.range count).map (fun i => index + i)) Dev.auditCheck).result (x.used ctr d.now) rcOk (((List.range count).map (fun i => index + i)).flatMap (d.setSession sid (x.used ctr d.now)).auditRecord))) ∧
    (∀ (S : State) (T : Time) (port ctag sid ctr : Nat) (addr fmask value : W) (audits : Bool) (auth : List Byte) (x : Session) (b : Bound), let d := S.dev.at T
      d.stopped = false → d.sec.sessions.find? (fun s => s.id = sid && s.port = port && s.ctag = ctag) = some x → d.genuine x ctr 0x10 (leBytes 4 addr.toNat ++ leBytes 4 fmask.toNat ++ leBytes 4 value.toNat) auth = true → d.hasRight x 0x10 = true → (d.setSession sid (x.used ctr d.now)).boundFor addr.toNat fmask = some b → b.holds (maskField fmask value) = true → (d.setSession sid (x.used ctr d.now)).tableFull ((d.setSession sid (x.used ctr d.now)).valueEnt 0 addr.toNat fmask value) = false →
      runsTo (.setLimit T port ctag sid ctr addr fmask value audits auth) S (fun e => e = (d.setSession sid (x.used ctr d.now)).jrnRequest jkLimit 0xFF 0 (limitBody (x.used ctr d.now) addr.toNat fmask value) (.limit (x.used ctr d.now).id (x.used ctr d.now).ctr audits))) ∧
    (∀ (S : State) (T : Time) (port ctag sid ctr : Nat) (addr fmask : W) (level : Nat) (lower upper : W) (audits : Bool) (auth : List Byte) (x : Session), let d := S.dev.at T
      d.stopped = false → d.sec.sessions.find? (fun s => s.id = sid && s.port = port && s.ctag = ctag) = some x → d.genuine x ctr 0x11 (leBytes 4 addr.toNat ++ leBytes 4 fmask.toNat ++ leBytes 1 level ++ leBytes 4 lower.toNat ++ leBytes 4 upper.toNat) auth = true → d.hasRight x 0x11 = true → (level = 2 ∨ (level = 3 ∧ x.role = rlMaker)) → limitable addr.toNat = true → fmask ≠ 0 → ((d.setSession sid (x.used ctr d.now)).boundEnc addr.toNat fmask level).2.boundOk (⟨addr.toNat, fmask, level, lower, upper, ((d.setSession sid (x.used ctr d.now)).boundEnc addr.toNat fmask level).1⟩ : Bound) = true → ((d.setSession sid (x.used ctr d.now)).boundEnc addr.toNat fmask level).2.tableFull (((d.setSession sid (x.used ctr d.now)).boundEnc addr.toNat fmask level).2.boundEnt (⟨addr.toNat, fmask, level, lower, upper, ((d.setSession sid (x.used ctr d.now)).boundEnc addr.toNat fmask level).1⟩ : Bound)) = false → audits = true →
      runsTo (.setBound T port ctag sid ctr addr fmask level lower upper audits auth) S (fun e => let r := (d.setSession sid (x.used ctr d.now)).boundEnc addr.toNat fmask level; let b : Bound := ⟨addr.toNat, fmask, level, lower, upper, r.1⟩; e = r.2.change (x.used ctr d.now) 0x11 addr.toNat (r.2.boundDigest addr.toNat fmask level) (objDigest (leBytes 4 lower.toNat ++ leBytes 4 upper.toNat)) (fun y => (y.holdBound b).persist (y.boundEnt b)))) ∧
    (∀ (S : State) (T : Time) (port ctag sid ctr : Nat) (addr value : W) (audits : Bool) (auth : List Byte) (x : Session) (isF pos : Bool) (fn : Option Nat), let d := S.dev.at T
      d.stopped = false → d.sec.sessions.find? (fun s => s.id = sid && s.port = port && s.ctag = ctag) = some x → d.genuine x ctr 0x12 (leBytes 4 addr.toNat ++ leBytes 4 value.toNat) auth = true → d.hasRight x 0x12 = true → (d.setSession sid (x.used ctr d.now)).calTarget addr.toNat = some (isF, pos, fn) → fn.any (d.setSession sid (x.used ctr d.now)).enabled = false → ((isF && (fIsNaN value || fIsInf value)) || (pos && !fLt f0 value) || (addr.toNat = RTC_TRIM && (256 ≤ value.toNat || value = 0x80#32))) = false → (d.setSession sid (x.used ctr d.now)).tableFull ((d.setSession sid (x.used ctr d.now)).valueEnt 2 addr.toNat 0xFFFFFFFF#32 value) = false → audits = true →
      runsTo (.calWrite T port ctag sid ctr addr value audits auth) S (fun e => e = (d.setSession sid (x.used ctr d.now)).change (x.used ctr d.now) 0x12 addr.toNat (wordDigest ((d.setSession sid (x.used ctr d.now)).rd addr.toNat)) (wordDigest value) (fun y => (y.wr addr.toNat value).persist ((d.setSession sid (x.used ctr d.now)).valueEnt 2 addr.toNat 0xFFFFFFFF#32 value)))) ∧
    (∀ (S : State) (T : Time) (port ctag sid ctr : Nat) (audits : Bool) (auth : List Byte) (x : Session), let d := S.dev.at T
      d.stopped = false → d.sec.sessions.find? (fun s => s.id = sid && s.port = port && s.ctag = ctag) = some x → d.genuine x ctr 0x13 ([]) auth = true → d.hasRight x 0x13 = true → audits = true →
      runsTo (.resetLimits T port ctag sid ctr audits auth) S (fun e => e = (d.setSession sid (x.used ctr d.now)).change (x.used ctr d.now) 0x13 0 (objDigest (d.setSession sid (x.used ctr d.now)).tableBytes) (objDigest []) (fun y => y.putTable []))) ∧
    (∀ (S : State) (T : Time) (port ctag sid ctr : Nat) (target : Nat) (audits : Bool) (auth : List Byte) (x : Session), let d := S.dev.at T
      d.stopped = false → d.sec.sessions.find? (fun s => s.id = sid && s.port = port && s.ctag = ctag) = some x → d.genuine x ctr 0x20 (leBytes 1 target) auth = true → d.hasRight x 0x20 = true → target < 0x20 →
      runsTo (.ack T port ctag sid ctr target audits auth) S (fun e => e = (d.setSession sid (x.used ctr d.now)).jrnRequest jkAck 0xFF 0 (leBytes 1 target ++ leBytes 1 (x.used ctr d.now).role ++ leBytes 1 (x.used ctr d.now).port ++ leBytes 1 0 ++ leBytes 4 (x.used ctr d.now).key ++ leBytes 4 (x.used ctr d.now).id) (.ack (x.used ctr d.now).id (x.used ctr d.now).ctr target audits))) ∧
    (∀ (S : State) (T : Time) (port ctag sid ctr : Nat) (v : W) (audits : Bool) (auth : List Byte) (x : Session), let d := S.dev.at T
      d.stopped = false → d.sec.sessions.find? (fun s => s.id = sid && s.port = port && s.ctag = ctag) = some x → d.genuine x ctr 0x21 (leBytes 4 v.toNat) auth = true → d.hasRight x 0x21 = true → audits = true →
      runsTo (.setRtc T port ctag sid ctr v audits auth) S (fun e => e = ((d.setSession sid (x.used ctr d.now)).setRtc (x.used ctr d.now) v).result (x.used ctr d.now) rcOk []))

/-- Session requests on slots, restarts, keys and histories complete, and a change whose audit record cannot be
committed is answered NOAUDIT and not made (R44, R71, R276, R280, R406, R411, R413, R415, R416, R417, R418). -/
def Obligations.SlotAndKeyRequestsComplete : Prop :=
  (∀ (S : State) (T : Time) (port ctag sid ctr : Nat) (slot len : Nat) (sha : List Byte) (auth : List Byte) (x : Session), let d := S.dev.at T
      d.stopped = false → d.sec.sessions.find? (fun s => s.id = sid && s.port = port && s.ctag = ctag) = some x → d.genuine x ctr 0x30 (leBytes 1 slot ++ leBytes 4 len ++ sha) auth = true → d.hasRight x 0x30 = true → (d.setSession sid (x.used ctr d.now)).sec.slotw = none → (d.setSession sid (x.used ctr d.now)).sec.slotCheck = none → slot ≤ 1 → 4 ≤ len → len ≤ slotBytes → ((d.setSession sid (x.used ctr d.now)).sysState = stNocfg ∨ slot ≠ (d.setSession sid (x.used ctr d.now)).bootedSlot) →
      runsTo (.slotBegin T port ctag sid ctr slot len sha auth) S (fun e => let m := (d.setSession sid (x.used ctr d.now)).flashErase slot; e = ({ m with sec := { m.sec with slotw := some ⟨(x.used ctr d.now).id, slot, len, sha, 0, false, []⟩ } } : Dev).result (x.used ctr d.now) rcOk [])) ∧
    (∀ (S : State) (T : Time) (port ctag sid ctr : Nat) (off : Nat) (bs : List Byte) (x : Session) (w : SlotW), let d := S.dev.at T
      d.stopped = false → d.sec.sessions.find? (fun s => s.id = sid && s.port = port && s.ctag = ctag) = some x → d.genuine x ctr 0x31 ([]) [] = true → d.hasRight x 0x31 = true → (d.setSession sid (x.used ctr d.now)).sec.slotw = some w → w.sid = x.id → bs ≠ [] → bs.length ≤ 448 → off + bs.length ≤ w.len → off = w.next →
      runsTo (.slotData T port ctag sid ctr off bs) S (fun e => let m := (d.setSession sid (x.used ctr d.now)).flashPut w.slot (off + min (4 - min 4 off) bs.length) (bs.drop (4 - min 4 off)); e = ({ m with sec := { m.sec with slotw := some { w with next := off + bs.length, held := w.held ++ bs.take (4 - min 4 off) } } } : Dev).result (x.used ctr d.now) rcOk [])) ∧
    (∀ (S : State) (T : Time) (port ctag sid ctr : Nat) (audits : Bool) (auth : List Byte) (x : Session) (w : SlotW), let d := S.dev.at T
      d.stopped = false → d.sec.sessions.find? (fun s => s.id = sid && s.port = port && s.ctag = ctag) = some x → d.genuine x ctr 0x32 ([]) auth = true → d.hasRight x 0x32 = true → (d.setSession sid (x.used ctr d.now)).sec.slotw = some w → w.sid = x.id → ({ (d.setSession sid (x.used ctr d.now)) with sec := { (d.setSession sid (x.used ctr d.now)).sec with slotw := none } } : Dev).slotWhole w = true → audits = true →
      runsTo (.slotEnd T port ctag sid ctr audits auth) S (fun e => e = ({ (d.setSession sid (x.used ctr d.now)) with sec := { (d.setSession sid (x.used ctr d.now)).sec with slotw := none } } : Dev).slotClose w (x.used ctr d.now))) ∧
    (∀ (S : State) (T : Time) (port ctag sid ctr : Nat) (audits : Bool) (auth : List Byte) (x : Session), let d := S.dev.at T
      d.stopped = false → d.sec.sessions.find? (fun s => s.id = sid && s.port = port && s.ctag = ctag) = some x → d.genuine x ctr 0x33 ([]) auth = true → d.hasRight x 0x33 = true → (d.setSession sid (x.used ctr d.now)).restartBar = none → audits = true →
      runsTo (.restart T port ctag sid ctr audits auth) S (fun e => e = ((d.setSession sid (x.used ctr d.now)).change (x.used ctr d.now) 0x33 0 noDigest noDigest id).restart rstRestart)) ∧
    (∀ (S : State) (T : Time) (port ctag sid ctr : Nat) (audits : Bool) (auth : List Byte) (x : Session) (q : Nat), let d := S.dev.at T
      d.stopped = false → d.sec.sessions.find? (fun s => s.id = sid && s.port = port && s.ctag = ctag) = some x → d.genuine x ctr 0x33 ([]) auth = true → d.hasRight x 0x33 = true → (d.setSession sid (x.used ctr d.now)).restartBar = some q → audits = true →
      runsTo (.restart T port ctag sid ctr audits auth) S (fun e => e = ((d.setSession sid (x.used ctr d.now)).restartRefused q).result (x.used ctr d.now) rcRefused [])) ∧
    (∀ (S : State) (T : Time) (port ctag sid ctr : Nat) (key role : Nat) (bs : List Byte) (certId : Nat) (cert : List Byte) (audits : Bool) (auth : List Byte) (x : Session), let d := S.dev.at T
      d.stopped = false → d.sec.sessions.find? (fun s => s.id = sid && s.port = port && s.ctag = ctag) = some x → d.genuine x ctr 0x40 (certified key role bs ++ (if role = rlOperator then [] else leBytes 4 certId ++ cert)) auth = true → d.hasRight x 0x40 = true → key ≠ 0 → key ≠ 0xFFFFFFFF → 0 < role → role ≤ 3 → bs.length = (if role = rlOperator then 16 else 64) → (d.setSession sid (x.used ctr d.now)).keyOf key = none → ((d.setSession sid (x.used ctr d.now)).roleKeys role).length < keyRoom role → (role = rlOperator ∨ (d.setSession sid (x.used ctr d.now)).certOk key role bs certId cert = true) → audits = true →
      runsTo (.keyInstall T port ctag sid ctr key role bs certId cert audits auth) S (fun e => e = (d.setSession sid (x.used ctr d.now)).change (x.used ctr d.now) 0x40 key noDigest (objDigest bs) (fun y => y.putKeys (y.sec.keys ++ [⟨key, role, bs⟩])))) ∧
    (∀ (S : State) (T : Time) (port ctag sid ctr : Nat) (key : Nat) (audits : Bool) (auth : List Byte) (x : Session) (w : SecKey), let d := S.dev.at T
      d.stopped = false → d.sec.sessions.find? (fun s => s.id = sid && s.port = port && s.ctag = ctag) = some x → d.genuine x ctr 0x41 (leBytes 4 key) auth = true → d.hasRight x 0x41 = true → (d.setSession sid (x.used ctr d.now)).keyOf key = some w → (w.role ≠ rlMaker ∨ 1 < ((d.setSession sid (x.used ctr d.now)).roleKeys rlMaker).length) → audits = true →
      runsTo (.keyRevoke T port ctag sid ctr key audits auth) S (fun e => e = ((d.setSession sid (x.used ctr d.now)).change (x.used ctr d.now) 0x41 key (objDigest w.key) noDigest (fun y => y.putKeys (y.sec.keys.filter (fun j => j.id ≠ key)))).closeWhere (fun s => s.key = key))) ∧
    (∀ (S : State) (T : Time) (port ctag sid ctr : Nat) (res : Nat) (audits : Bool) (auth : List Byte) (x : Session), let d := S.dev.at T
      d.stopped = false → d.sec.sessions.find? (fun s => s.id = sid && s.port = port && s.ctag = ctag) = some x → d.genuine x ctr 0x50 (leBytes 2 res) auth = true → d.hasRight x 0x50 = true → (res = 0xFFFF ∨ isResource res = true) → audits = true →
      runsTo (.gustClear T port ctag sid ctr res audits auth) S (fun e => e = (d.setSession sid (x.used ctr d.now)).change (x.used ctr d.now) 0x50 res (objDigest ((d.setSession sid (x.used ctr d.now)).gustBytes res)) (objDigest (((d.setSession sid (x.used ctr d.now)).gustClear res).gustBytes res)) (fun y => y.gustClear res))) ∧
    (∀ (S : State) (T : Time) (port ctag sid ctr : Nat) (res : Nat) (audits : Bool) (auth : List Byte) (x : Session), let d := S.dev.at T
      d.stopped = false → d.sec.sessions.find? (fun s => s.id = sid && s.port = port && s.ctag = ctag) = some x → d.genuine x ctr 0x51 (leBytes 2 res) auth = true → d.hasRight x 0x51 = true → (res = 0xFFFF ∨ isResource res = true) → audits = true →
      runsTo (.cullClear T port ctag sid ctr res audits auth) S (fun e => e = (d.setSession sid (x.used ctr d.now)).change (x.used ctr d.now) 0x51 res (objDigest ((d.setSession sid (x.used ctr d.now)).red.cull.flatMap Cull.bytes)) (objDigest (((d.setSession sid (x.used ctr d.now)).cullClear res).red.cull.flatMap Cull.bytes)) (fun y => y.cullClear res))) ∧
    (∀ (S : State) (T : Time) (port ctag sid ctr : Nat) (role : Nat) (audits : Bool) (auth : List Byte) (x : Session), let d := S.dev.at T
      d.stopped = false → d.sec.sessions.find? (fun s => s.id = sid && s.port = port && s.ctag = ctag) = some x → d.genuine x ctr 0x52 (leBytes 1 role) auth = true → d.hasRight x 0x52 = true → (role = rlOperator ∨ role = rlInstaller) → audits = true →
      runsTo (.lockoutClear T port ctag sid ctr role audits auth) S (fun e => e = (d.setSession sid (x.used ctr d.now)).change (x.used ctr d.now) 0x52 role noDigest noDigest (fun y => ({ y with sec := { y.sec with lockEnd := Tab.set role y.now y.sec.lockEnd } } : Dev).setF SEC_STAT (lockField role) 0))) ∧
    (∀ (S : State) (T : Time) (port ctag sid ctr : Nat) (test : Option (Nat × Nat × Bool)) (audits : Bool) (auth : List Byte) (x : Session), let d := S.dev.at T
      d.stopped = false → d.sec.sessions.find? (fun s => s.id = sid && s.port = port && s.ctag = ctag) = some x → d.genuine x ctr 0x53 (factestArgs test) auth = true → d.hasRight x 0x53 = true → (d.setSession sid (x.used ctr d.now)).fns.any (d.setSession sid (x.used ctr d.now)).enabled = false → test = none → audits = true →
      runsTo (.factest T port ctag sid ctr test audits auth) S (fun e => e = ((d.setSession sid (x.used ctr d.now)).factestBegin (x.used ctr d.now)).result (x.used ctr d.now) rcOk [])) ∧
    (∀ (S : State) (T : Time) (port ctag sid ctr : Nat) (addr fmask : W) (level : Nat) (lower upper : W) (audits : Bool) (auth : List Byte) (x : Session), let d := S.dev.at T
      d.stopped = false → d.sec.sessions.find? (fun s => s.id = sid && s.port = port && s.ctag = ctag) = some x → d.genuine x ctr 0x11 (leBytes 4 addr.toNat ++ leBytes 4 fmask.toNat ++ leBytes 1 level ++ leBytes 4 lower.toNat ++ leBytes 4 upper.toNat) auth = true → d.hasRight x 0x11 = true → audits = false → ((fun (x : Session) (d : Dev) => d.secSetBound addr.toNat fmask level lower upper x) (x.used ctr d.now) (d.setSession sid (x.used ctr d.now))).sec.audHead ≠ (d.setSession sid (x.used ctr d.now)).sec.audHead →
      runsTo (.setBound T port ctag sid ctr addr fmask level lower upper audits auth) S (fun e => e = (d.setSession sid (x.used ctr d.now)).result (x.used ctr d.now) rcNoAudit ([]))) ∧
    (∀ (S : State) (T : Time) (port ctag sid ctr : Nat) (addr value : W) (audits : Bool) (auth : List Byte) (x : Session), let d := S.dev.at T
      d.stopped = false → d.sec.sessions.find? (fun s => s.id = sid && s.port = port && s.ctag = ctag) = some x → d.genuine x ctr 0x12 (leBytes 4 addr.toNat ++ leBytes 4 value.toNat) auth = true → d.hasRight x 0x12 = true → audits = false → ((fun (x : Session) (d : Dev) => d.secCalWrite addr.toNat value x) (x.used ctr d.now) (d.setSession sid (x.used ctr d.now))).sec.audHead ≠ (d.setSession sid (x.used ctr d.now)).sec.audHead →
      runsTo (.calWrite T port ctag sid ctr addr value audits auth) S (fun e => e = (d.setSession sid (x.used ctr d.now)).result (x.used ctr d.now) rcNoAudit ([]))) ∧
    (∀ (S : State) (T : Time) (port ctag sid ctr : Nat) (audits : Bool) (auth : List Byte) (x : Session), let d := S.dev.at T
      d.stopped = false → d.sec.sessions.find? (fun s => s.id = sid && s.port = port && s.ctag = ctag) = some x → d.genuine x ctr 0x13 ([]) auth = true → d.hasRight x 0x13 = true → audits = false → ((fun (x : Session) (d : Dev) => d.secResetLimits x) (x.used ctr d.now) (d.setSession sid (x.used ctr d.now))).sec.audHead ≠ (d.setSession sid (x.used ctr d.now)).sec.audHead →
      runsTo (.resetLimits T port ctag sid ctr audits auth) S (fun e => e = (d.setSession sid (x.used ctr d.now)).result (x.used ctr d.now) rcNoAudit ([]))) ∧
    (∀ (S : State) (T : Time) (port ctag sid ctr : Nat) (v : W) (audits : Bool) (auth : List Byte) (x : Session), let d := S.dev.at T
      d.stopped = false → d.sec.sessions.find? (fun s => s.id = sid && s.port = port && s.ctag = ctag) = some x → d.genuine x ctr 0x21 (leBytes 4 v.toNat) auth = true → d.hasRight x 0x21 = true → audits = false → ((fun (x : Session) (d : Dev) => d.secSetRtc v x) (x.used ctr d.now) (d.setSession sid (x.used ctr d.now))).sec.audHead ≠ (d.setSession sid (x.used ctr d.now)).sec.audHead →
      runsTo (.setRtc T port ctag sid ctr v audits auth) S (fun e => e = (d.setSession sid (x.used ctr d.now)).result (x.used ctr d.now) rcNoAudit ([]))) ∧
    (∀ (S : State) (T : Time) (port ctag sid ctr : Nat) (audits : Bool) (auth : List Byte) (x : Session), let d := S.dev.at T
      d.stopped = false → d.sec.sessions.find? (fun s => s.id = sid && s.port = port && s.ctag = ctag) = some x → d.genuine x ctr 0x32 ([]) auth = true → d.hasRight x 0x32 = true → audits = false → ((fun (x : Session) (d : Dev) => d.slotEnd x) (x.used ctr d.now) (d.setSession sid (x.used ctr d.now))).sec.audHead ≠ (d.setSession sid (x.used ctr d.now)).sec.audHead →
      runsTo (.slotEnd T port ctag sid ctr audits auth) S (fun e => e = (d.setSession sid (x.used ctr d.now)).result (x.used ctr d.now) rcNoAudit ([]))) ∧
    (∀ (S : State) (T : Time) (port ctag sid ctr : Nat) (audits : Bool) (auth : List Byte) (x : Session), let d := S.dev.at T
      d.stopped = false → d.sec.sessions.find? (fun s => s.id = sid && s.port = port && s.ctag = ctag) = some x → d.genuine x ctr 0x33 ([]) auth = true → d.hasRight x 0x33 = true → audits = false → ((fun (x : Session) (d : Dev) => d.secRestart x) (x.used ctr d.now) (d.setSession sid (x.used ctr d.now))).sec.audHead ≠ (d.setSession sid (x.used ctr d.now)).sec.audHead →
      runsTo (.restart T port ctag sid ctr audits auth) S (fun e => e = (d.setSession sid (x.used ctr d.now)).result (x.used ctr d.now) rcNoAudit ([]))) ∧
    (∀ (S : State) (T : Time) (port ctag sid ctr : Nat) (key role : Nat) (bs : List Byte) (certId : Nat) (cert : List Byte) (audits : Bool) (auth : List Byte) (x : Session), let d := S.dev.at T
      d.stopped = false → d.sec.sessions.find? (fun s => s.id = sid && s.port = port && s.ctag = ctag) = some x → d.genuine x ctr 0x40 (certified key role bs ++ (if role = rlOperator then [] else leBytes 4 certId ++ cert)) auth = true → d.hasRight x 0x40 = true → audits = false → ((fun (x : Session) (d : Dev) => d.keyInstall key role bs certId cert x) (x.used ctr d.now) (d.setSession sid (x.used ctr d.now))).sec.audHead ≠ (d.setSession sid (x.used ctr d.now)).sec.audHead →
      runsTo (.keyInstall T port ctag sid ctr key role bs certId cert audits auth) S (fun e => e = (d.setSession sid (x.used ctr d.now)).result (x.used ctr d.now) rcNoAudit ([]))) ∧
    (∀ (S : State) (T : Time) (port ctag sid ctr : Nat) (key : Nat) (audits : Bool) (auth : List Byte) (x : Session), let d := S.dev.at T
      d.stopped = false → d.sec.sessions.find? (fun s => s.id = sid && s.port = port && s.ctag = ctag) = some x → d.genuine x ctr 0x41 (leBytes 4 key) auth = true → d.hasRight x 0x41 = true → audits = false → ((fun (x : Session) (d : Dev) => d.keyRevoke key x) (x.used ctr d.now) (d.setSession sid (x.used ctr d.now))).sec.audHead ≠ (d.setSession sid (x.used ctr d.now)).sec.audHead →
      runsTo (.keyRevoke T port ctag sid ctr key audits auth) S (fun e => e = (d.setSession sid (x.used ctr d.now)).result (x.used ctr d.now) rcNoAudit ([]))) ∧
    (∀ (S : State) (T : Time) (port ctag sid ctr : Nat) (res : Nat) (audits : Bool) (auth : List Byte) (x : Session), let d := S.dev.at T
      d.stopped = false → d.sec.sessions.find? (fun s => s.id = sid && s.port = port && s.ctag = ctag) = some x → d.genuine x ctr 0x50 (leBytes 2 res) auth = true → d.hasRight x 0x50 = true → audits = false → ((fun (x : Session) (d : Dev) => d.secGustClear res x) (x.used ctr d.now) (d.setSession sid (x.used ctr d.now))).sec.audHead ≠ (d.setSession sid (x.used ctr d.now)).sec.audHead →
      runsTo (.gustClear T port ctag sid ctr res audits auth) S (fun e => e = (d.setSession sid (x.used ctr d.now)).result (x.used ctr d.now) rcNoAudit ([]))) ∧
    (∀ (S : State) (T : Time) (port ctag sid ctr : Nat) (res : Nat) (audits : Bool) (auth : List Byte) (x : Session), let d := S.dev.at T
      d.stopped = false → d.sec.sessions.find? (fun s => s.id = sid && s.port = port && s.ctag = ctag) = some x → d.genuine x ctr 0x51 (leBytes 2 res) auth = true → d.hasRight x 0x51 = true → audits = false → ((fun (x : Session) (d : Dev) => d.secCullClear res x) (x.used ctr d.now) (d.setSession sid (x.used ctr d.now))).sec.audHead ≠ (d.setSession sid (x.used ctr d.now)).sec.audHead →
      runsTo (.cullClear T port ctag sid ctr res audits auth) S (fun e => e = (d.setSession sid (x.used ctr d.now)).result (x.used ctr d.now) rcNoAudit ([]))) ∧
    (∀ (S : State) (T : Time) (port ctag sid ctr : Nat) (role : Nat) (audits : Bool) (auth : List Byte) (x : Session), let d := S.dev.at T
      d.stopped = false → d.sec.sessions.find? (fun s => s.id = sid && s.port = port && s.ctag = ctag) = some x → d.genuine x ctr 0x52 (leBytes 1 role) auth = true → d.hasRight x 0x52 = true → audits = false → ((fun (x : Session) (d : Dev) => d.lockoutClear role x) (x.used ctr d.now) (d.setSession sid (x.used ctr d.now))).sec.audHead ≠ (d.setSession sid (x.used ctr d.now)).sec.audHead →
      runsTo (.lockoutClear T port ctag sid ctr role audits auth) S (fun e => e = (d.setSession sid (x.used ctr d.now)).result (x.used ctr d.now) rcNoAudit ([]))) ∧
    (∀ (S : State) (T : Time) (port ctag sid ctr : Nat) (test : Option (Nat × Nat × Bool)) (audits : Bool) (auth : List Byte) (x : Session), let d := S.dev.at T
      d.stopped = false → d.sec.sessions.find? (fun s => s.id = sid && s.port = port && s.ctag = ctag) = some x → d.genuine x ctr 0x53 (factestArgs test) auth = true → d.hasRight x 0x53 = true → audits = false → ((fun (x : Session) (d : Dev) => d.secFactest test x) (x.used ctr d.now) (d.setSession sid (x.used ctr d.now))).sec.audHead ≠ (d.setSession sid (x.used ctr d.now)).sec.audHead →
      runsTo (.factest T port ctag sid ctr test audits auth) S (fun e => e = (d.setSession sid (x.used ctr d.now)).result (x.used ctr d.now) rcNoAudit ([])))

/-- Register arithmetic, logic, shifts, comparisons and multiplications of a core (R365). -/
def Obligations.ArithmeticInstructionsComplete : Prop :=
  (∀ (S : State) (k : Fin 4) (rd ra rb : Fin 32), let d := S.dev
      d.ready k →
      runsTo (.add k rd ra rb) S (fun e => onlyCore k d e ((d.triad k).core.setW rd ((d.triad k).core.getW ra + (d.triad k).core.getW rb)).next)) ∧
    (∀ (S : State) (k : Fin 4) (rd ra rb : Fin 32), let d := S.dev
      d.ready k →
      runsTo (.sub k rd ra rb) S (fun e => onlyCore k d e ((d.triad k).core.setW rd ((d.triad k).core.getW ra - (d.triad k).core.getW rb)).next)) ∧
    (∀ (S : State) (k : Fin 4) (rd ra rb : Fin 32), let d := S.dev
      d.ready k →
      runsTo (.and_ k rd ra rb) S (fun e => onlyCore k d e ((d.triad k).core.setW rd ((d.triad k).core.getW ra &&& (d.triad k).core.getW rb)).next)) ∧
    (∀ (S : State) (k : Fin 4) (rd ra rb : Fin 32), let d := S.dev
      d.ready k →
      runsTo (.or_ k rd ra rb) S (fun e => onlyCore k d e ((d.triad k).core.setW rd ((d.triad k).core.getW ra ||| (d.triad k).core.getW rb)).next)) ∧
    (∀ (S : State) (k : Fin 4) (rd ra rb : Fin 32), let d := S.dev
      d.ready k →
      runsTo (.xor_ k rd ra rb) S (fun e => onlyCore k d e ((d.triad k).core.setW rd ((d.triad k).core.getW ra ^^^ (d.triad k).core.getW rb)).next)) ∧
    (∀ (S : State) (k : Fin 4) (rd ra rb : Fin 32), let d := S.dev
      d.ready k →
      runsTo (.shl k rd ra rb) S (fun e => onlyCore k d e ((d.triad k).core.setW rd ((d.triad k).core.getW ra <<< shamt ((d.triad k).core.getW rb))).next)) ∧
    (∀ (S : State) (k : Fin 4) (rd ra rb : Fin 32), let d := S.dev
      d.ready k →
      runsTo (.shr k rd ra rb) S (fun e => onlyCore k d e ((d.triad k).core.setW rd ((d.triad k).core.getW ra >>> shamt ((d.triad k).core.getW rb))).next)) ∧
    (∀ (S : State) (k : Fin 4) (rd ra rb : Fin 32), let d := S.dev
      d.ready k →
      runsTo (.sar k rd ra rb) S (fun e => onlyCore k d e ((d.triad k).core.setW rd (((d.triad k).core.getW ra).sshiftRight (shamt ((d.triad k).core.getW rb)))).next)) ∧
    (∀ (S : State) (k : Fin 4) (rd ra rb : Fin 32), let d := S.dev
      d.ready k →
      runsTo (.rot k rd ra rb) S (fun e => onlyCore k d e ((d.triad k).core.setW rd (((d.triad k).core.getW ra).rotateLeft (shamt ((d.triad k).core.getW rb)))).next)) ∧
    (∀ (S : State) (k : Fin 4) (rd ra rb : Fin 32), let d := S.dev
      d.ready k →
      runsTo (.slt k rd ra rb) S (fun e => onlyCore k d e ((d.triad k).core.setW rd (bool32 (((d.triad k).core.getW ra).slt ((d.triad k).core.getW rb)))).next)) ∧
    (∀ (S : State) (k : Fin 4) (rd ra rb : Fin 32), let d := S.dev
      d.ready k →
      runsTo (.sltu k rd ra rb) S (fun e => onlyCore k d e ((d.triad k).core.setW rd (bool32 (((d.triad k).core.getW ra).ult ((d.triad k).core.getW rb)))).next)) ∧
    (∀ (S : State) (k : Fin 4) (rd ra rb : Fin 32), let d := S.dev
      d.ready k →
      runsTo (.mul k rd ra rb) S (fun e => onlyCore k d e ((d.triad k).core.setW rd ((d.triad k).core.getW ra * (d.triad k).core.getW rb)).next)) ∧
    (∀ (S : State) (k : Fin 4) (rd ra rb : Fin 32), let d := S.dev
      d.ready k →
      runsTo (.mulh k rd ra rb) S (fun e => onlyCore k d e ((d.triad k).core.setW rd (mulHi ((d.triad k).core.getW ra) ((d.triad k).core.getW rb))).next)) ∧
    (∀ (S : State) (k : Fin 4) (rd ra rb : Fin 32), let d := S.dev
      d.ready k →
      runsTo (.mulhu k rd ra rb) S (fun e => onlyCore k d e ((d.triad k).core.setW rd (mulHiU ((d.triad k).core.getW ra) ((d.triad k).core.getW rb))).next))

/-- Immediate arithmetic, logic, shifts, comparisons and LUI of a core (R365). -/
def Obligations.ImmediateInstructionsComplete : Prop :=
  (∀ (S : State) (k : Fin 4) (rd ra : Fin 32) (imm : BitVec 16), let d := S.dev
      d.ready k →
      runsTo (.addi k rd ra imm) S (fun e => onlyCore k d e ((d.triad k).core.setW rd ((d.triad k).core.getW ra + sext16 imm)).next)) ∧
    (∀ (S : State) (k : Fin 4) (rd ra : Fin 32) (imm : BitVec 16), let d := S.dev
      d.ready k →
      runsTo (.andi k rd ra imm) S (fun e => onlyCore k d e ((d.triad k).core.setW rd ((d.triad k).core.getW ra &&& zext16 imm)).next)) ∧
    (∀ (S : State) (k : Fin 4) (rd ra : Fin 32) (imm : BitVec 16), let d := S.dev
      d.ready k →
      runsTo (.ori k rd ra imm) S (fun e => onlyCore k d e ((d.triad k).core.setW rd ((d.triad k).core.getW ra ||| zext16 imm)).next)) ∧
    (∀ (S : State) (k : Fin 4) (rd ra : Fin 32) (imm : BitVec 16), let d := S.dev
      d.ready k →
      runsTo (.xori k rd ra imm) S (fun e => onlyCore k d e ((d.triad k).core.setW rd ((d.triad k).core.getW ra ^^^ zext16 imm)).next)) ∧
    (∀ (S : State) (k : Fin 4) (rd ra : Fin 32) (imm : BitVec 16), let d := S.dev
      d.ready k →
      runsTo (.shli k rd ra imm) S (fun e => onlyCore k d e ((d.triad k).core.setW rd ((d.triad k).core.getW ra <<< shamt (sext16 imm))).next)) ∧
    (∀ (S : State) (k : Fin 4) (rd ra : Fin 32) (imm : BitVec 16), let d := S.dev
      d.ready k →
      runsTo (.shri k rd ra imm) S (fun e => onlyCore k d e ((d.triad k).core.setW rd ((d.triad k).core.getW ra >>> shamt (sext16 imm))).next)) ∧
    (∀ (S : State) (k : Fin 4) (rd ra : Fin 32) (imm : BitVec 16), let d := S.dev
      d.ready k →
      runsTo (.sari k rd ra imm) S (fun e => onlyCore k d e ((d.triad k).core.setW rd (((d.triad k).core.getW ra).sshiftRight (shamt (sext16 imm)))).next)) ∧
    (∀ (S : State) (k : Fin 4) (rd ra : Fin 32) (imm : BitVec 16), let d := S.dev
      d.ready k →
      runsTo (.slti k rd ra imm) S (fun e => onlyCore k d e ((d.triad k).core.setW rd (bool32 (((d.triad k).core.getW ra).slt (sext16 imm)))).next)) ∧
    (∀ (S : State) (k : Fin 4) (rd ra : Fin 32) (imm : BitVec 16), let d := S.dev
      d.ready k →
      runsTo (.sltiu k rd ra imm) S (fun e => onlyCore k d e ((d.triad k).core.setW rd (bool32 (((d.triad k).core.getW ra).ult (sext16 imm)))).next)) ∧
    (∀ (S : State) (k : Fin 4) (rd : Fin 32) (imm : BitVec 16), let d := S.dev
      d.ready k →
      runsTo (.lui k rd imm) S (fun e => onlyCore k d e ((d.triad k).core.setW rd (zext16 imm <<< 16)).next))

/-- Division by a divisor other than zero, branches and jumps of a core (R363, R365). -/
def Obligations.DivisionAndBranchInstructionsComplete : Prop :=
  (∀ (S : State) (k : Fin 4) (rd ra rb : Fin 32), let d := S.dev
      d.ready k → (d.triad k).core.getW rb ≠ 0 →
      runsTo (.div k rd ra rb) S (fun e => onlyCore k d e ((d.triad k).core.setW rd (divS ((d.triad k).core.getW ra) ((d.triad k).core.getW rb))).next)) ∧
    (∀ (S : State) (k : Fin 4) (rd ra rb : Fin 32), let d := S.dev
      d.ready k → (d.triad k).core.getW rb ≠ 0 →
      runsTo (.divu k rd ra rb) S (fun e => onlyCore k d e ((d.triad k).core.setW rd (HDiv.hDiv ((d.triad k).core.getW ra) ((d.triad k).core.getW rb))).next)) ∧
    (∀ (S : State) (k : Fin 4) (rd ra rb : Fin 32), let d := S.dev
      d.ready k → (d.triad k).core.getW rb ≠ 0 →
      runsTo (.rem k rd ra rb) S (fun e => onlyCore k d e ((d.triad k).core.setW rd (remS ((d.triad k).core.getW ra) ((d.triad k).core.getW rb))).next)) ∧
    (∀ (S : State) (k : Fin 4) (rd ra rb : Fin 32), let d := S.dev
      d.ready k → (d.triad k).core.getW rb ≠ 0 →
      runsTo (.remu k rd ra rb) S (fun e => onlyCore k d e ((d.triad k).core.setW rd (HMod.hMod ((d.triad k).core.getW ra) ((d.triad k).core.getW rb))).next)) ∧
    (∀ (S : State) (k : Fin 4) (ra rb : Fin 32) (disp : BitVec 16), let d := S.dev
      d.ready k →
      runsTo (.beq k ra rb disp) S (fun e => onlyCore k d e (if ((d.triad k).core.getW ra) = ((d.triad k).core.getW rb) then (d.triad k).core.goTo ((d.triad k).core.target16 disp) else (d.triad k).core.next))) ∧
    (∀ (S : State) (k : Fin 4) (ra rb : Fin 32) (disp : BitVec 16), let d := S.dev
      d.ready k →
      runsTo (.bne k ra rb disp) S (fun e => onlyCore k d e (if ((d.triad k).core.getW ra) ≠ ((d.triad k).core.getW rb) then (d.triad k).core.goTo ((d.triad k).core.target16 disp) else (d.triad k).core.next))) ∧
    (∀ (S : State) (k : Fin 4) (ra rb : Fin 32) (disp : BitVec 16), let d := S.dev
      d.ready k →
      runsTo (.blt k ra rb disp) S (fun e => onlyCore k d e (if ((d.triad k).core.getW ra).slt ((d.triad k).core.getW rb) then (d.triad k).core.goTo ((d.triad k).core.target16 disp) else (d.triad k).core.next))) ∧
    (∀ (S : State) (k : Fin 4) (ra rb : Fin 32) (disp : BitVec 16), let d := S.dev
      d.ready k →
      runsTo (.bge k ra rb disp) S (fun e => onlyCore k d e (if ¬ ((d.triad k).core.getW ra).slt ((d.triad k).core.getW rb) then (d.triad k).core.goTo ((d.triad k).core.target16 disp) else (d.triad k).core.next))) ∧
    (∀ (S : State) (k : Fin 4) (ra rb : Fin 32) (disp : BitVec 16), let d := S.dev
      d.ready k →
      runsTo (.bltu k ra rb disp) S (fun e => onlyCore k d e (if ((d.triad k).core.getW ra).toNat < ((d.triad k).core.getW rb).toNat then (d.triad k).core.goTo ((d.triad k).core.target16 disp) else (d.triad k).core.next))) ∧
    (∀ (S : State) (k : Fin 4) (ra rb : Fin 32) (disp : BitVec 16), let d := S.dev
      d.ready k →
      runsTo (.bgeu k ra rb disp) S (fun e => onlyCore k d e (if ((d.triad k).core.getW rb).toNat ≤ ((d.triad k).core.getW ra).toNat then (d.triad k).core.goTo ((d.triad k).core.target16 disp) else (d.triad k).core.next))) ∧
    (∀ (S : State) (k : Fin 4) (disp : BitVec 26), let d := S.dev
      d.ready k →
      runsTo (.j k disp) S (fun e => onlyCore k d e ((d.triad k).core.goTo ((d.triad k).core.target26 disp)))) ∧
    (∀ (S : State) (k : Fin 4) (disp : BitVec 26), let d := S.dev
      d.ready k →
      runsTo (.jal k disp) S (fun e => onlyCore k d e (((d.triad k).core.setW 1 ((d.triad k).core.pc + 4)).goTo ((d.triad k).core.target26 disp)))) ∧
    (∀ (S : State) (k : Fin 4) (rd ra : Fin 32) (imm : BitVec 16), let d := S.dev
      d.ready k →
      runsTo (.jalr k rd ra imm) S (fun e => onlyCore k d e (((d.triad k).core.setW rd ((d.triad k).core.pc + 4)).goTo (((d.triad k).core.getW ra + sext16 imm) &&& 0xFFFFFFFC#32))))

/-- Floating-point arithmetic, comparison, conversion and move instructions of a core (R372). -/
def Obligations.FloatingInstructionsComplete : Prop :=
  (∀ (S : State) (k : Fin 4) (rd ra rb : Fin 32), let d := S.dev
      d.ready k →
      runsTo (.fadd k rd ra rb) S (fun e => onlyCore k d e ((d.triad k).core.setF rd (fAdd ((d.triad k).core.getF ra) ((d.triad k).core.getF rb))).next)) ∧
    (∀ (S : State) (k : Fin 4) (rd ra rb : Fin 32), let d := S.dev
      d.ready k →
      runsTo (.fsub k rd ra rb) S (fun e => onlyCore k d e ((d.triad k).core.setF rd (fSub ((d.triad k).core.getF ra) ((d.triad k).core.getF rb))).next)) ∧
    (∀ (S : State) (k : Fin 4) (rd ra rb : Fin 32), let d := S.dev
      d.ready k →
      runsTo (.fmul k rd ra rb) S (fun e => onlyCore k d e ((d.triad k).core.setF rd (fMul ((d.triad k).core.getF ra) ((d.triad k).core.getF rb))).next)) ∧
    (∀ (S : State) (k : Fin 4) (rd ra rb : Fin 32), let d := S.dev
      d.ready k →
      runsTo (.fdiv k rd ra rb) S (fun e => onlyCore k d e ((d.triad k).core.setF rd (fDiv ((d.triad k).core.getF ra) ((d.triad k).core.getF rb))).next)) ∧
    (∀ (S : State) (k : Fin 4) (rd ra : Fin 32), let d := S.dev
      d.ready k →
      runsTo (.fsqrt k rd ra) S (fun e => onlyCore k d e ((d.triad k).core.setF rd (fSqrt ((d.triad k).core.getF ra))).next)) ∧
    (∀ (S : State) (k : Fin 4) (rd ra rb : Fin 32), let d := S.dev
      d.ready k →
      runsTo (.fmin k rd ra rb) S (fun e => onlyCore k d e ((d.triad k).core.setF rd (fMin ((d.triad k).core.getF ra) ((d.triad k).core.getF rb))).next)) ∧
    (∀ (S : State) (k : Fin 4) (rd ra rb : Fin 32), let d := S.dev
      d.ready k →
      runsTo (.fmax k rd ra rb) S (fun e => onlyCore k d e ((d.triad k).core.setF rd (fMax ((d.triad k).core.getF ra) ((d.triad k).core.getF rb))).next)) ∧
    (∀ (S : State) (k : Fin 4) (rd ra rb : Fin 32), let d := S.dev
      d.ready k →
      runsTo (.feq k rd ra rb) S (fun e => onlyCore k d e ((d.triad k).core.setW rd (bool32 (fEq ((d.triad k).core.getF ra) ((d.triad k).core.getF rb)))).next)) ∧
    (∀ (S : State) (k : Fin 4) (rd ra rb : Fin 32), let d := S.dev
      d.ready k →
      runsTo (.flt k rd ra rb) S (fun e => onlyCore k d e ((d.triad k).core.setW rd (bool32 (fLt ((d.triad k).core.getF ra) ((d.triad k).core.getF rb)))).next)) ∧
    (∀ (S : State) (k : Fin 4) (rd ra rb : Fin 32), let d := S.dev
      d.ready k →
      runsTo (.fle k rd ra rb) S (fun e => onlyCore k d e ((d.triad k).core.setW rd (bool32 (fLe ((d.triad k).core.getF ra) ((d.triad k).core.getF rb)))).next)) ∧
    (∀ (S : State) (k : Fin 4) (rd ra : Fin 32), let d := S.dev
      d.ready k →
      runsTo (.fcvtws k rd ra) S (fun e => onlyCore k d e ((d.triad k).core.setW rd (fToInt32 ((d.triad k).core.getF ra))).next)) ∧
    (∀ (S : State) (k : Fin 4) (rd ra : Fin 32), let d := S.dev
      d.ready k →
      runsTo (.fcvtsw k rd ra) S (fun e => onlyCore k d e ((d.triad k).core.setF rd (fOfInt ((d.triad k).core.getW ra).toInt)).next)) ∧
    (∀ (S : State) (k : Fin 4) (rd ra : Fin 32), let d := S.dev
      d.ready k →
      runsTo (.fmvws k rd ra) S (fun e => onlyCore k d e ((d.triad k).core.setW rd ((d.triad k).core.getF ra)).next)) ∧
    (∀ (S : State) (k : Fin 4) (rd ra : Fin 32), let d := S.dev
      d.ready k →
      runsTo (.fmvsw k rd ra) S (fun e => onlyCore k d e ((d.triad k).core.setF rd ((d.triad k).core.getW ra)).next)) ∧
    (∀ (S : State) (k : Fin 4) (rd ra : Fin 32), let d := S.dev
      d.ready k →
      runsTo (.fabs k rd ra) S (fun e => onlyCore k d e ((d.triad k).core.setF rd (fFlush (fAbs ((d.triad k).core.getF ra)))).next)) ∧
    (∀ (S : State) (k : Fin 4) (rd ra : Fin 32), let d := S.dev
      d.ready k →
      runsTo (.fneg k rd ra) S (fun e => onlyCore k d e ((d.triad k).core.setF rd (fFlush (fNeg ((d.triad k).core.getF ra)))).next))

/-- Loads, stores and atomics of local SRAM: the value loaded, exactly the bytes stored (R266, R364). -/
def Obligations.MemoryInstructionsComplete : Prop :=
  (∀ (S : State) (k : Fin 4) (rd ra : Fin 32) (disp : BitVec 16), let d := S.dev
      d.ready k → d.accessFault k ecLoad ((d.triad k).core.memAddr ra disp) 1 1 = none → inLocal ((d.triad k).core.memAddr ra disp) = true →
      runsTo (.ldb k rd ra disp) S (fun e => onlyCore k d e ((d.triad k).core.setW rd ((BitVec.ofNat 8 (Mem.num (d.triad k).lram ((d.triad k).core.memAddr ra disp) 1)).signExtend 32)).next)) ∧
    (∀ (S : State) (k : Fin 4) (rd ra : Fin 32) (disp : BitVec 16), let d := S.dev
      d.ready k → d.accessFault k ecLoad ((d.triad k).core.memAddr ra disp) 1 1 = none → inLocal ((d.triad k).core.memAddr ra disp) = true →
      runsTo (.ldbu k rd ra disp) S (fun e => onlyCore k d e ((d.triad k).core.setW rd (BitVec.ofNat 32 (Mem.num (d.triad k).lram ((d.triad k).core.memAddr ra disp) 1))).next)) ∧
    (∀ (S : State) (k : Fin 4) (rd ra : Fin 32) (disp : BitVec 16), let d := S.dev
      d.ready k → d.accessFault k ecLoad ((d.triad k).core.memAddr ra disp) 2 2 = none → inLocal ((d.triad k).core.memAddr ra disp) = true →
      runsTo (.ldh k rd ra disp) S (fun e => onlyCore k d e ((d.triad k).core.setW rd ((BitVec.ofNat 16 (Mem.num (d.triad k).lram ((d.triad k).core.memAddr ra disp) 2)).signExtend 32)).next)) ∧
    (∀ (S : State) (k : Fin 4) (rd ra : Fin 32) (disp : BitVec 16), let d := S.dev
      d.ready k → d.accessFault k ecLoad ((d.triad k).core.memAddr ra disp) 2 2 = none → inLocal ((d.triad k).core.memAddr ra disp) = true →
      runsTo (.ldhu k rd ra disp) S (fun e => onlyCore k d e ((d.triad k).core.setW rd (BitVec.ofNat 32 (Mem.num (d.triad k).lram ((d.triad k).core.memAddr ra disp) 2))).next)) ∧
    (∀ (S : State) (k : Fin 4) (rd ra : Fin 32) (disp : BitVec 16), let d := S.dev
      d.ready k → d.accessFault k ecLoad ((d.triad k).core.memAddr ra disp) 4 4 = none → inLocal ((d.triad k).core.memAddr ra disp) = true →
      runsTo (.ldw k rd ra disp) S (fun e => onlyCore k d e ((d.triad k).core.setW rd (BitVec.ofNat 32 (Mem.num (d.triad k).lram ((d.triad k).core.memAddr ra disp) 4))).next)) ∧
    (∀ (S : State) (k : Fin 4) (rd ra : Fin 32) (disp : BitVec 16), let d := S.dev
      d.ready k → d.accessFault k ecLoad ((d.triad k).core.memAddr ra disp) 4 4 = none → inLocal ((d.triad k).core.memAddr ra disp) = true →
      runsTo (.flw k rd ra disp) S (fun e => onlyCore k d e ((d.triad k).core.setF rd (BitVec.ofNat 32 (Mem.num (d.triad k).lram ((d.triad k).core.memAddr ra disp) 4))).next)) ∧
    (∀ (S : State) (k : Fin 4) (rs ra : Fin 32) (disp : BitVec 16), let d := S.dev
      d.ready k → (d.triad k).replay = [] → d.accessFault k ecStore ((d.triad k).core.memAddr ra disp) 1 1 = none → inLocal ((d.triad k).core.memAddr ra disp) = true →
      runsTo (.stb k rs ra disp) S (fun e => (e.triad k).lram = Mem.putN 0 ((d.triad k).core.memAddr ra disp) (leBytes 1 ((d.triad k).core.getW rs).toNat) (d.triad k).lram ∧ (e.triad k).core = (d.triad k).core.next ∧ onlyTriad k d e)) ∧
    (∀ (S : State) (k : Fin 4) (rs ra : Fin 32) (disp : BitVec 16), let d := S.dev
      d.ready k → (d.triad k).replay = [] → d.accessFault k ecStore ((d.triad k).core.memAddr ra disp) 2 2 = none → inLocal ((d.triad k).core.memAddr ra disp) = true →
      runsTo (.sth k rs ra disp) S (fun e => (e.triad k).lram = Mem.putN 0 ((d.triad k).core.memAddr ra disp) (leBytes 2 ((d.triad k).core.getW rs).toNat) (d.triad k).lram ∧ (e.triad k).core = (d.triad k).core.next ∧ onlyTriad k d e)) ∧
    (∀ (S : State) (k : Fin 4) (rs ra : Fin 32) (disp : BitVec 16), let d := S.dev
      d.ready k → (d.triad k).replay = [] → d.accessFault k ecStore ((d.triad k).core.memAddr ra disp) 4 4 = none → inLocal ((d.triad k).core.memAddr ra disp) = true →
      runsTo (.stw k rs ra disp) S (fun e => (e.triad k).lram = Mem.putN 0 ((d.triad k).core.memAddr ra disp) (leBytes 4 ((d.triad k).core.getW rs).toNat) (d.triad k).lram ∧ (e.triad k).core = (d.triad k).core.next ∧ onlyTriad k d e)) ∧
    (∀ (S : State) (k : Fin 4) (rs ra : Fin 32) (disp : BitVec 16), let d := S.dev
      d.ready k → (d.triad k).replay = [] → d.accessFault k ecStore ((d.triad k).core.memAddr ra disp) 4 4 = none → inLocal ((d.triad k).core.memAddr ra disp) = true →
      runsTo (.fsw k rs ra disp) S (fun e => (e.triad k).lram = Mem.putN 0 ((d.triad k).core.memAddr ra disp) (leBytes 4 ((d.triad k).core.getF rs).toNat) (d.triad k).lram ∧ (e.triad k).core = (d.triad k).core.next ∧ onlyTriad k d e)) ∧
    (∀ (S : State) (k : Fin 4) (rd ra rb : Fin 32), let d := S.dev
      d.ready k → (d.triad k).replay = [] → d.accessFault k ecLoad ((d.triad k).core.getW ra).toNat 4 4 = none → d.accessFault k ecStore ((d.triad k).core.getW ra).toNat 4 4 = none → inLocal ((d.triad k).core.getW ra).toNat = true →
      runsTo (.swapw k rd ra rb) S (fun e => (e.triad k).lram = Mem.putWord ((d.triad k).core.getW ra).toNat ((d.triad k).core.getW rb) (d.triad k).lram ∧ (e.triad k).core = ((d.triad k).core.setW rd (Mem.word (d.triad k).lram ((d.triad k).core.getW ra).toNat)).next ∧ onlyTriad k d e)) ∧
    (∀ (S : State) (k : Fin 4) (rd ra rb : Fin 32), let d := S.dev
      d.ready k → (d.triad k).replay = [] → d.accessFault k ecLoad ((d.triad k).core.getW ra).toNat 4 4 = none → d.accessFault k ecStore ((d.triad k).core.getW ra).toNat 4 4 = none → inLocal ((d.triad k).core.getW ra).toNat = true →
      runsTo (.addw k rd ra rb) S (fun e => (e.triad k).lram = Mem.putWord ((d.triad k).core.getW ra).toNat (Mem.word (d.triad k).lram ((d.triad k).core.getW ra).toNat + (d.triad k).core.getW rb) (d.triad k).lram ∧ (e.triad k).core = ((d.triad k).core.setW rd (Mem.word (d.triad k).lram ((d.triad k).core.getW ra).toNat)).next ∧ onlyTriad k d e))

/-- System and special instructions, waits and events of a core (R268, R339, R365, R367, R368, R373, R374, R375, R376,
R380). -/
def Obligations.SystemInstructionsComplete : Prop :=
  (∀ (S : State) (k : Fin 4) (code : BitVec 10), let d := S.dev
      d.ready k →
      runsTo (.trap k code) S (fun e => (e.triad k).core = { (d.triad k).core.next.vector 3 (d.rd (COR_VBASE k)) with ecause := BitVec.ofNat 32 ecTrap, eaddr := code.setWidth 32 } ∧ onlyTriad k (d.setF (COR_STAT k) COR_STAT_LINE 3) e)) ∧
    (∀ (S : State) (k : Fin 4), let d := S.dev
      d.ready k → (d.triad k).core.sup = true →
      runsTo (.rete k) S (fun e => onlyCore k d e ({ (d.triad k).core with status := (d.triad k).core.statusBack }.goTo (d.triad k).core.epc))) ∧
    (∀ (S : State) (k : Fin 4) (rd sr : Fin 32) (v : W), let d := S.dev
      d.ready k → (d.triad k).core.special k sr = some v → ((d.triad k).core.sup = true ∨ openSpecial sr = true) →
      runsTo (.mfsr k rd sr) S (fun e => onlyCore k d e ((d.triad k).core.setW rd v).next)) ∧
    (∀ (S : State) (k : Fin 4) (ra sr : Fin 32), let d := S.dev
      d.ready k → ((d.triad k).core.special k sr).isSome = true → (d.triad k).core.sup = true →
      runsTo (.mtsr k ra sr) S (fun e => onlyCore k d e ((d.triad k).core.setSpecial sr ((d.triad k).core.getW ra)).next)) ∧
    (∀ (S : State) (k : Fin 4) (rd ra : Fin 32), let d := S.dev
      d.ready k → d.fresh k → rd.val ≤ 29 → ((d.triad k).core.getW ra).toNat ≤ 0xFFFF →
      runsTo (.sigrd k rd ra) S (fun e => (e.triad k).core = ((((d.triad k).core.setW rd (BitVec.ofNat 32 (d.sigVal ((d.triad k).core.getW ra).toNat))).setW (rd + 1) (BitVec.ofNat 32 (d.sigVal ((d.triad k).core.getW ra).toNat / 2 ^ 32))).setW (rd + 2) (d.sigStamp ((d.triad k).core.getW ra).toNat)).next ∧ onlyTriad k d e)) ∧
    (∀ (S : State) (k : Fin 4) (rd ra : Fin 32), let d := S.dev
      d.ready k → d.fresh k → rd.val ≤ 30 → ((d.triad k).core.getW ra).toNat ≤ 0xFFFF →
      runsTo (.sigwr k rd ra) S (fun e => e = ((d.acted k ⟨ekSigwr, ((d.triad k).core.getW ra).toNat, ((d.triad k).core.getW (rd + 1)).toNat * 2 ^ 32 + ((d.triad k).core.getW rd).toNat⟩).sigStore k ((d.triad k).core.getW ra).toNat ((d.triad k).core.getW rd) ((d.triad k).core.getW (rd + 1))).finish k Core.next)) ∧
    (∀ (S : State) (k : Fin 4) (rd ra rb : Fin 32), let d := S.dev
      d.ready k → d.fresh k → rd.val ≤ 30 → ((d.triad k).core.getW ra).toNat ≤ 31 → d.accessFault k ecLoad ((d.triad k).core.getW rb).toNat 96 1 = none → inLocal ((d.triad k).core.getW rb).toNat = true → (((d.acted k ⟨ekPost, ((d.triad k).core.getW ra).toNat, leNat (d.loadN k ((d.triad k).core.getW rb).toNat 96).1⟩).postNow k ((d.triad k).core.getW ra).toNat (d.loadN k ((d.triad k).core.getW rb).toNat 96).1).1.headD 0) ≠ begun →
      runsTo (.qpost k rd ra rb) S (fun e => let r := (d.acted k ⟨ekPost, ((d.triad k).core.getW ra).toNat, leNat (d.loadN k ((d.triad k).core.getW rb).toNat 96).1⟩).postNow k ((d.triad k).core.getW ra).toNat (d.loadN k ((d.triad k).core.getW rb).toNat 96).1; e = (r.2.modTriad k (fun x => { x with reads := x.reads ++ r.1 })).finish k (fun c => ((c.setW rd (r.1.headD 0)).setW (rd + 1) (r.1.getD 1 0)).next))) ∧
    (∀ (S : State) (k : Fin 4) (rd ra rb : Fin 32), let d := S.dev
      d.ready k → d.fresh k → ((d.triad k).core.getW ra).toNat ≤ 31 → d.accessFault k ecStore ((d.triad k).core.getW rb).toNat 96 1 = none → (((d.acted k ⟨ekTake, ((d.triad k).core.getW ra).toNat, ((d.triad k).core.getW rb).toNat⟩).takeNow ((d.triad k).core.getW ra).toNat ((d.triad k).core.getW rb).toNat k).1.headD 0) ≠ begun →
      runsTo (.qtake k rd ra rb) S (fun e => let r := (d.acted k ⟨ekTake, ((d.triad k).core.getW ra).toNat, ((d.triad k).core.getW rb).toNat⟩).takeNow ((d.triad k).core.getW ra).toNat ((d.triad k).core.getW rb).toNat k; e = (((r.2.modTriad k (fun x => { x with reads := x.reads ++ r.1 })).when (decide (1 < r.1.length)) (fun y => y.storeN k ((d.triad k).core.getW rb).toNat (unpackW 96 (r.1.drop 1)))).finish k (fun c => (c.setW rd (r.1.headD 0)).next)))) ∧
    (∀ (S : State) (k : Fin 4) (rd ra rb : Fin 32), let d := S.dev
      d.ready k → d.fresh k → ((d.triad k).core.getW ra ≠ 0 ∨ (d.triad k).core.getW rb ≠ 0) → d.pendingIn k ((d.triad k).core.getW ra) ((d.triad k).core.getW rb) = none →
      runsTo (.await k rd ra rb) S (fun e => e = d.modTriad k (fun x => { x with wait := .await rd ((d.triad k).core.getW ra) ((d.triad k).core.getW rb) }))) ∧
    (∀ (S : State) (k : Fin 4) (rd ra rb : Fin 32) (n : Nat), let d := S.dev
      d.ready k → d.fresh k → ((d.triad k).core.getW ra ≠ 0 ∨ (d.triad k).core.getW rb ≠ 0) → d.pendingIn k ((d.triad k).core.getW ra) ((d.triad k).core.getW rb) = some n →
      runsTo (.await k rd ra rb) S (fun e => e = ((d.modTriad k (fun x => { x with reads := x.reads ++ [BitVec.ofNat 32 n] })).consumeLine k n).awaited k rd n)) ∧
    (∀ (S : State) (k : Fin 4) (minority : Option (Fin 3)) (split : Bool), let d := S.dev
      d.ready k → d.fresh k →
      runsTo (.ckpt k minority split) S (fun e => e = ((d.acted k ⟨ekCkpt, 0, 0⟩).finish k Core.next).triadCheckpoint k minority split)) ∧
    (∀ (S : State) (k : Fin 4), let d := S.dev
      d.ready k → d.fresh k →
      runsTo (.sync k) S (fun e => (e.triad k).wait = .sync ∧ (e.triad k).core = (d.triad k).core ∧ onlyTriad k d e)) ∧
    (∀ (S : State) (k : Fin 4), let d := S.dev
      d.ready k → (d.triad k).core.fh = false →
      runsTo (.undefinedEncoding k) S (fun e => (e.triad k).core = { (d.triad k).core.vector 2 ((d.countFault k 2 ecUndefined (d.triad k).core.pc.toNat).rd (COR_VBASE k)) with ecause := BitVec.ofNat 32 ecUndefined, eaddr := (d.triad k).core.pc })) ∧
    (∀ (S : State) (T : Time) (k : Fin 4) (rd : Nat) (lo hi : W) (n : Nat), let d := S.dev.at T
      d.stopped = false → (d.triad k).wait = .await rd lo hi → d.fresh k → d.pendingIn k lo hi = some n →
      runsTo (.awaitWake T k) S (fun e => e = ((d.modTriad k (fun x => { x with reads := x.reads ++ [BitVec.ofNat 32 n] })).consumeLine k n).awaited k rd n)) ∧
    (∀ (S : State) (T : Time) (k : Fin 4) (rd : Nat) (v q : W), let d := S.dev.at T
      d.stopped = false → (d.triad k).wait = .assured rd (some v) (some q) →
      runsTo (.assuredQueueComplete T k) S (fun e => (e.triad k).core = (((d.triad k).core.setW rd v).setW (rd + 1) q).next ∧ (e.triad k).wait = .none ∧ onlyTriad k d e)) ∧
    (∀ (S : State) (T : Time) (k : Fin 4), let d := S.dev.at T
      d.stopped = false → (d.triad k).wait = .sync →
      runsTo (.syncComplete T k) S (fun e => (e.triad k).core = (d.triad k).core.next ∧ (e.triad k).wait = .none ∧ onlyTriad k d e)) ∧
    (∀ (S : State) (T : Time) (k : Fin 4) (n : Nat), let d := S.dev.at T
      d.stopped = false → d.takesEvents k = true → (d.triad k).replay = [] → d.eventDue k = some n →
      runsTo (.eventTaken T k) S (fun e => e = ((d.acted k ⟨ekEvent, n, (d.triad k).core.icnt.toNat⟩).consumeLine k n).takeLine k n ∧ (e.triad k).core = (d.triad k).core.vector n ((d.consumeLine k n).rd (COR_VBASE k)))) ∧
    (∀ (S : State) (T : Time) (k : Fin 4) (n : Fin 4), let d := S.dev.at T
      d.stopped = false → d.inRun = true → (d.rd (COR_TPER k n)).toNat ≠ 0 → d.epoch.toNat + (d.rd (COR_TPHS k n)).toNat ≤ d.now.toNat → (d.now.toNat - (d.epoch.toNat + (d.rd (COR_TPHS k n)).toNat)) % (d.rd (COR_TPER k n)).toNat = 0 → (Tab.getD 0 d.tk.notBefore (timerKey k n)).toNat ≤ d.now.toNat →
      runsTo (.corTimerFire T k n) S (fun e => e = d.raiseWhere (fun t' w => t' = k.val && w.fld COR_EVSRC_KIND = 4 && w.fld COR_EVSRC_ARG0 % 4 = n.val))) ∧
    (∀ (S : State) (T : Time) (w : Fin 4) (v : W), let d := S.dev.at T
      d.stopped = false → v.bit 31 = true → 16 ≤ v.fld COR_SWEV_LINE → (d.rd (COR_EVSRC w (v.fld COR_SWEV_LINE))).fld COR_EVSRC_KIND = 5 →
      runsTo (.corSwev T w v) S (fun e => e = d.raiseLine w (v.fld COR_SWEV_LINE)))
end

