-- ==== Sys2Proof/Decode.lean ====
section
/-! DEFINITION. The block has no decoder: no row of the opcode table gives its command any bits, so no word spells one. -/

namespace Sys2Proof

/-- The command that a word spells by the table's bits: none, for every word. -/
def decodeTableWord (_nbits _w : Nat) : Option Instr := none

end Sys2Proof
end

