-- ==== Sys2Proof/Laws/State.lean ====
section
/-! SUPPORT. Field by field, what an update of the state leaves: one lemma per field and update, true by definition. -/

namespace Sys2Proof.Machine

@[simp] theorem Dev.wr_por (d : Dev) (a : Nat) (v : W) : (d.wr a v).por = d.por := rfl
@[simp] theorem Dev.wr_tk (d : Dev) (a : Nat) (v : W) : (d.wr a v).tk = d.tk := rfl
@[simp] theorem Dev.wr_cal (d : Dev) (a : Nat) (v : W) : (d.wr a v).cal = d.cal := rfl
@[simp] theorem Dev.wr_vcore (d : Dev) (a : Nat) (v : W) : (d.wr a v).vcore = d.vcore := rfl
@[simp] theorem Dev.wr_rates (d : Dev) (a : Nat) (v : W) : (d.wr a v).rates = d.rates := rfl
@[simp] theorem Dev.wr_log (d : Dev) (a : Nat) (v : W) : (d.wr a v).log = d.log := rfl
@[simp] theorem Dev.wr_gales (d : Dev) (a : Nat) (v : W) : (d.wr a v).gales = d.gales := rfl
@[simp] theorem Dev.wr_boot (d : Dev) (a : Nat) (v : W) : (d.wr a v).boot = d.boot := rfl
@[simp] theorem Dev.wr_img (d : Dev) (a : Nat) (v : W) : (d.wr a v).img = d.img := rfl
@[simp] theorem Dev.wr_flash (d : Dev) (a : Nat) (v : W) : (d.wr a v).flash = d.flash := rfl
@[simp] theorem Dev.wr_sram (d : Dev) (a : Nat) (v : W) : (d.wr a v).sram = d.sram := rfl
@[simp] theorem Dev.wr_coef (d : Dev) (a : Nat) (v : W) : (d.wr a v).coef = d.coef := rfl
@[simp] theorem Dev.wr_sigt (d : Dev) (a : Nat) (v : W) : (d.wr a v).sigt = d.sigt := rfl
@[simp] theorem Dev.wr_mram (d : Dev) (a : Nat) (v : W) : (d.wr a v).mram = d.mram := rfl
@[simp] theorem Dev.wr_legs (d : Dev) (a : Nat) (v : W) : (d.wr a v).legs = d.legs := rfl
@[simp] theorem Dev.wr_convs (d : Dev) (a : Nat) (v : W) : (d.wr a v).convs = d.convs := rfl
@[simp] theorem Dev.wr_seqs (d : Dev) (a : Nat) (v : W) : (d.wr a v).seqs = d.seqs := rfl
@[simp] theorem Dev.wr_slots (d : Dev) (a : Nat) (v : W) : (d.wr a v).slots = d.slots := rfl
@[simp] theorem Dev.wr_dsms (d : Dev) (a : Nat) (v : W) : (d.wr a v).dsms = d.dsms := rfl
@[simp] theorem Dev.wr_cmps (d : Dev) (a : Nat) (v : W) : (d.wr a v).cmps = d.cmps := rfl
@[simp] theorem Dev.wr_trps (d : Dev) (a : Nat) (v : W) : (d.wr a v).trps = d.trps := rfl
@[simp] theorem Dev.wr_cascs (d : Dev) (a : Nat) (v : W) : (d.wr a v).cascs = d.cascs := rfl
@[simp] theorem Dev.wr_pairs (d : Dev) (a : Nat) (v : W) : (d.wr a v).pairs = d.pairs := rfl
@[simp] theorem Dev.wr_words (d : Dev) (a : Nat) (v : W) : (d.wr a v).words = d.words := rfl
@[simp] theorem Dev.wr_red (d : Dev) (a : Nat) (v : W) : (d.wr a v).red = d.red := rfl
@[simp] theorem Dev.wr_triads (d : Dev) (a : Nat) (v : W) : (d.wr a v).triads = d.triads := rfl
@[simp] theorem Dev.wr_safeq (d : Dev) (a : Nat) (v : W) : (d.wr a v).safeq = d.safeq := rfl
@[simp] theorem Dev.wr_ports (d : Dev) (a : Nat) (v : W) : (d.wr a v).ports = d.ports := rfl
@[simp] theorem Dev.wr_ques (d : Dev) (a : Nat) (v : W) : (d.wr a v).ques = d.ques := rfl
@[simp] theorem Dev.wr_sig (d : Dev) (a : Nat) (v : W) : (d.wr a v).sig = d.sig := rfl
@[simp] theorem Dev.wr_jrn (d : Dev) (a : Nat) (v : W) : (d.wr a v).jrn = d.jrn := rfl
@[simp] theorem Dev.wr_lnk (d : Dev) (a : Nat) (v : W) : (d.wr a v).lnk = d.lnk := rfl
@[simp] theorem Dev.wr_axus (d : Dev) (a : Nat) (v : W) : (d.wr a v).axus = d.axus := rfl
@[simp] theorem Dev.wr_sents (d : Dev) (a : Nat) (v : W) : (d.wr a v).sents = d.sents := rfl
@[simp] theorem Dev.wr_gioRaw (d : Dev) (a : Nat) (v : W) : (d.wr a v).gioRaw = d.gioRaw := rfl
@[simp] theorem Dev.wr_cvus (d : Dev) (a : Nat) (v : W) : (d.wr a v).cvus = d.cvus := rfl
@[simp] theorem Dev.wr_chgs (d : Dev) (a : Nat) (v : W) : (d.wr a v).chgs = d.chgs := rfl
@[simp] theorem Dev.wr_thm (d : Dev) (a : Nat) (v : W) : (d.wr a v).thm = d.thm := rfl
@[simp] theorem Dev.wr_bkg (d : Dev) (a : Nat) (v : W) : (d.wr a v).bkg = d.bkg := rfl
@[simp] theorem Dev.wr_sec (d : Dev) (a : Nat) (v : W) : (d.wr a v).sec = d.sec := rfl
@[simp] theorem Dev.wr_sup (d : Dev) (a : Nat) (v : W) : (d.wr a v).sup = d.sup := rfl
@[simp] theorem Dev.wr_asked (d : Dev) (a : Nat) (v : W) : (d.wr a v).asked = d.asked := rfl

@[simp] theorem Dev.setF_por (d : Dev) (a : Nat) (f : Fld) (v : Nat) : (d.setF a f v).por = d.por := rfl
@[simp] theorem Dev.setF_tk (d : Dev) (a : Nat) (f : Fld) (v : Nat) : (d.setF a f v).tk = d.tk := rfl
@[simp] theorem Dev.setF_cal (d : Dev) (a : Nat) (f : Fld) (v : Nat) : (d.setF a f v).cal = d.cal := rfl
@[simp] theorem Dev.setF_vcore (d : Dev) (a : Nat) (f : Fld) (v : Nat) : (d.setF a f v).vcore = d.vcore := rfl
@[simp] theorem Dev.setF_rates (d : Dev) (a : Nat) (f : Fld) (v : Nat) : (d.setF a f v).rates = d.rates := rfl
@[simp] theorem Dev.setF_log (d : Dev) (a : Nat) (f : Fld) (v : Nat) : (d.setF a f v).log = d.log := rfl
@[simp] theorem Dev.setF_gales (d : Dev) (a : Nat) (f : Fld) (v : Nat) : (d.setF a f v).gales = d.gales := rfl
@[simp] theorem Dev.setF_boot (d : Dev) (a : Nat) (f : Fld) (v : Nat) : (d.setF a f v).boot = d.boot := rfl
@[simp] theorem Dev.setF_img (d : Dev) (a : Nat) (f : Fld) (v : Nat) : (d.setF a f v).img = d.img := rfl
@[simp] theorem Dev.setF_flash (d : Dev) (a : Nat) (f : Fld) (v : Nat) : (d.setF a f v).flash = d.flash := rfl
@[simp] theorem Dev.setF_sram (d : Dev) (a : Nat) (f : Fld) (v : Nat) : (d.setF a f v).sram = d.sram := rfl
@[simp] theorem Dev.setF_coef (d : Dev) (a : Nat) (f : Fld) (v : Nat) : (d.setF a f v).coef = d.coef := rfl
@[simp] theorem Dev.setF_sigt (d : Dev) (a : Nat) (f : Fld) (v : Nat) : (d.setF a f v).sigt = d.sigt := rfl
@[simp] theorem Dev.setF_mram (d : Dev) (a : Nat) (f : Fld) (v : Nat) : (d.setF a f v).mram = d.mram := rfl
@[simp] theorem Dev.setF_legs (d : Dev) (a : Nat) (f : Fld) (v : Nat) : (d.setF a f v).legs = d.legs := rfl
@[simp] theorem Dev.setF_convs (d : Dev) (a : Nat) (f : Fld) (v : Nat) : (d.setF a f v).convs = d.convs := rfl
@[simp] theorem Dev.setF_seqs (d : Dev) (a : Nat) (f : Fld) (v : Nat) : (d.setF a f v).seqs = d.seqs := rfl
@[simp] theorem Dev.setF_slots (d : Dev) (a : Nat) (f : Fld) (v : Nat) : (d.setF a f v).slots = d.slots := rfl
@[simp] theorem Dev.setF_dsms (d : Dev) (a : Nat) (f : Fld) (v : Nat) : (d.setF a f v).dsms = d.dsms := rfl
@[simp] theorem Dev.setF_cmps (d : Dev) (a : Nat) (f : Fld) (v : Nat) : (d.setF a f v).cmps = d.cmps := rfl
@[simp] theorem Dev.setF_trps (d : Dev) (a : Nat) (f : Fld) (v : Nat) : (d.setF a f v).trps = d.trps := rfl
@[simp] theorem Dev.setF_cascs (d : Dev) (a : Nat) (f : Fld) (v : Nat) : (d.setF a f v).cascs = d.cascs := rfl
@[simp] theorem Dev.setF_pairs (d : Dev) (a : Nat) (f : Fld) (v : Nat) : (d.setF a f v).pairs = d.pairs := rfl
@[simp] theorem Dev.setF_words (d : Dev) (a : Nat) (f : Fld) (v : Nat) : (d.setF a f v).words = d.words := rfl
@[simp] theorem Dev.setF_red (d : Dev) (a : Nat) (f : Fld) (v : Nat) : (d.setF a f v).red = d.red := rfl
@[simp] theorem Dev.setF_triads (d : Dev) (a : Nat) (f : Fld) (v : Nat) : (d.setF a f v).triads = d.triads := rfl
@[simp] theorem Dev.setF_safeq (d : Dev) (a : Nat) (f : Fld) (v : Nat) : (d.setF a f v).safeq = d.safeq := rfl
@[simp] theorem Dev.setF_ports (d : Dev) (a : Nat) (f : Fld) (v : Nat) : (d.setF a f v).ports = d.ports := rfl
@[simp] theorem Dev.setF_ques (d : Dev) (a : Nat) (f : Fld) (v : Nat) : (d.setF a f v).ques = d.ques := rfl
@[simp] theorem Dev.setF_sig (d : Dev) (a : Nat) (f : Fld) (v : Nat) : (d.setF a f v).sig = d.sig := rfl
@[simp] theorem Dev.setF_jrn (d : Dev) (a : Nat) (f : Fld) (v : Nat) : (d.setF a f v).jrn = d.jrn := rfl
@[simp] theorem Dev.setF_lnk (d : Dev) (a : Nat) (f : Fld) (v : Nat) : (d.setF a f v).lnk = d.lnk := rfl
@[simp] theorem Dev.setF_axus (d : Dev) (a : Nat) (f : Fld) (v : Nat) : (d.setF a f v).axus = d.axus := rfl
@[simp] theorem Dev.setF_sents (d : Dev) (a : Nat) (f : Fld) (v : Nat) : (d.setF a f v).sents = d.sents := rfl
@[simp] theorem Dev.setF_gioRaw (d : Dev) (a : Nat) (f : Fld) (v : Nat) : (d.setF a f v).gioRaw = d.gioRaw := rfl
@[simp] theorem Dev.setF_cvus (d : Dev) (a : Nat) (f : Fld) (v : Nat) : (d.setF a f v).cvus = d.cvus := rfl
@[simp] theorem Dev.setF_chgs (d : Dev) (a : Nat) (f : Fld) (v : Nat) : (d.setF a f v).chgs = d.chgs := rfl
@[simp] theorem Dev.setF_thm (d : Dev) (a : Nat) (f : Fld) (v : Nat) : (d.setF a f v).thm = d.thm := rfl
@[simp] theorem Dev.setF_bkg (d : Dev) (a : Nat) (f : Fld) (v : Nat) : (d.setF a f v).bkg = d.bkg := rfl
@[simp] theorem Dev.setF_sec (d : Dev) (a : Nat) (f : Fld) (v : Nat) : (d.setF a f v).sec = d.sec := rfl
@[simp] theorem Dev.setF_sup (d : Dev) (a : Nat) (f : Fld) (v : Nat) : (d.setF a f v).sup = d.sup := rfl
@[simp] theorem Dev.setF_asked (d : Dev) (a : Nat) (f : Fld) (v : Nat) : (d.setF a f v).asked = d.asked := rfl

@[simp] theorem Dev.putBit_por (d : Dev) (a i : Nat) (b : Bool) : (d.putBit a i b).por = d.por := rfl
@[simp] theorem Dev.putBit_tk (d : Dev) (a i : Nat) (b : Bool) : (d.putBit a i b).tk = d.tk := rfl
@[simp] theorem Dev.putBit_cal (d : Dev) (a i : Nat) (b : Bool) : (d.putBit a i b).cal = d.cal := rfl
@[simp] theorem Dev.putBit_vcore (d : Dev) (a i : Nat) (b : Bool) : (d.putBit a i b).vcore = d.vcore := rfl
@[simp] theorem Dev.putBit_rates (d : Dev) (a i : Nat) (b : Bool) : (d.putBit a i b).rates = d.rates := rfl
@[simp] theorem Dev.putBit_log (d : Dev) (a i : Nat) (b : Bool) : (d.putBit a i b).log = d.log := rfl
@[simp] theorem Dev.putBit_gales (d : Dev) (a i : Nat) (b : Bool) : (d.putBit a i b).gales = d.gales := rfl
@[simp] theorem Dev.putBit_boot (d : Dev) (a i : Nat) (b : Bool) : (d.putBit a i b).boot = d.boot := rfl
@[simp] theorem Dev.putBit_img (d : Dev) (a i : Nat) (b : Bool) : (d.putBit a i b).img = d.img := rfl
@[simp] theorem Dev.putBit_flash (d : Dev) (a i : Nat) (b : Bool) : (d.putBit a i b).flash = d.flash := rfl
@[simp] theorem Dev.putBit_sram (d : Dev) (a i : Nat) (b : Bool) : (d.putBit a i b).sram = d.sram := rfl
@[simp] theorem Dev.putBit_coef (d : Dev) (a i : Nat) (b : Bool) : (d.putBit a i b).coef = d.coef := rfl
@[simp] theorem Dev.putBit_sigt (d : Dev) (a i : Nat) (b : Bool) : (d.putBit a i b).sigt = d.sigt := rfl
@[simp] theorem Dev.putBit_mram (d : Dev) (a i : Nat) (b : Bool) : (d.putBit a i b).mram = d.mram := rfl
@[simp] theorem Dev.putBit_legs (d : Dev) (a i : Nat) (b : Bool) : (d.putBit a i b).legs = d.legs := rfl
@[simp] theorem Dev.putBit_convs (d : Dev) (a i : Nat) (b : Bool) : (d.putBit a i b).convs = d.convs := rfl
@[simp] theorem Dev.putBit_seqs (d : Dev) (a i : Nat) (b : Bool) : (d.putBit a i b).seqs = d.seqs := rfl
@[simp] theorem Dev.putBit_slots (d : Dev) (a i : Nat) (b : Bool) : (d.putBit a i b).slots = d.slots := rfl
@[simp] theorem Dev.putBit_dsms (d : Dev) (a i : Nat) (b : Bool) : (d.putBit a i b).dsms = d.dsms := rfl
@[simp] theorem Dev.putBit_cmps (d : Dev) (a i : Nat) (b : Bool) : (d.putBit a i b).cmps = d.cmps := rfl
@[simp] theorem Dev.putBit_trps (d : Dev) (a i : Nat) (b : Bool) : (d.putBit a i b).trps = d.trps := rfl
@[simp] theorem Dev.putBit_cascs (d : Dev) (a i : Nat) (b : Bool) : (d.putBit a i b).cascs = d.cascs := rfl
@[simp] theorem Dev.putBit_pairs (d : Dev) (a i : Nat) (b : Bool) : (d.putBit a i b).pairs = d.pairs := rfl
@[simp] theorem Dev.putBit_words (d : Dev) (a i : Nat) (b : Bool) : (d.putBit a i b).words = d.words := rfl
@[simp] theorem Dev.putBit_red (d : Dev) (a i : Nat) (b : Bool) : (d.putBit a i b).red = d.red := rfl
@[simp] theorem Dev.putBit_triads (d : Dev) (a i : Nat) (b : Bool) : (d.putBit a i b).triads = d.triads := rfl
@[simp] theorem Dev.putBit_safeq (d : Dev) (a i : Nat) (b : Bool) : (d.putBit a i b).safeq = d.safeq := rfl
@[simp] theorem Dev.putBit_ports (d : Dev) (a i : Nat) (b : Bool) : (d.putBit a i b).ports = d.ports := rfl
@[simp] theorem Dev.putBit_ques (d : Dev) (a i : Nat) (b : Bool) : (d.putBit a i b).ques = d.ques := rfl
@[simp] theorem Dev.putBit_sig (d : Dev) (a i : Nat) (b : Bool) : (d.putBit a i b).sig = d.sig := rfl
@[simp] theorem Dev.putBit_jrn (d : Dev) (a i : Nat) (b : Bool) : (d.putBit a i b).jrn = d.jrn := rfl
@[simp] theorem Dev.putBit_lnk (d : Dev) (a i : Nat) (b : Bool) : (d.putBit a i b).lnk = d.lnk := rfl
@[simp] theorem Dev.putBit_axus (d : Dev) (a i : Nat) (b : Bool) : (d.putBit a i b).axus = d.axus := rfl
@[simp] theorem Dev.putBit_sents (d : Dev) (a i : Nat) (b : Bool) : (d.putBit a i b).sents = d.sents := rfl
@[simp] theorem Dev.putBit_gioRaw (d : Dev) (a i : Nat) (b : Bool) : (d.putBit a i b).gioRaw = d.gioRaw := rfl
@[simp] theorem Dev.putBit_cvus (d : Dev) (a i : Nat) (b : Bool) : (d.putBit a i b).cvus = d.cvus := rfl
@[simp] theorem Dev.putBit_chgs (d : Dev) (a i : Nat) (b : Bool) : (d.putBit a i b).chgs = d.chgs := rfl
@[simp] theorem Dev.putBit_thm (d : Dev) (a i : Nat) (b : Bool) : (d.putBit a i b).thm = d.thm := rfl
@[simp] theorem Dev.putBit_bkg (d : Dev) (a i : Nat) (b : Bool) : (d.putBit a i b).bkg = d.bkg := rfl
@[simp] theorem Dev.putBit_sec (d : Dev) (a i : Nat) (b : Bool) : (d.putBit a i b).sec = d.sec := rfl
@[simp] theorem Dev.putBit_sup (d : Dev) (a i : Nat) (b : Bool) : (d.putBit a i b).sup = d.sup := rfl
@[simp] theorem Dev.putBit_asked (d : Dev) (a i : Nat) (b : Bool) : (d.putBit a i b).asked = d.asked := rfl

@[simp] theorem Dev.addSat_por (d : Dev) (a : Nat) (f : Fld) (k : Nat) : (d.addSat a f k).por = d.por := rfl
@[simp] theorem Dev.addSat_tk (d : Dev) (a : Nat) (f : Fld) (k : Nat) : (d.addSat a f k).tk = d.tk := rfl
@[simp] theorem Dev.addSat_cal (d : Dev) (a : Nat) (f : Fld) (k : Nat) : (d.addSat a f k).cal = d.cal := rfl
@[simp] theorem Dev.addSat_vcore (d : Dev) (a : Nat) (f : Fld) (k : Nat) : (d.addSat a f k).vcore = d.vcore := rfl
@[simp] theorem Dev.addSat_rates (d : Dev) (a : Nat) (f : Fld) (k : Nat) : (d.addSat a f k).rates = d.rates := rfl
@[simp] theorem Dev.addSat_log (d : Dev) (a : Nat) (f : Fld) (k : Nat) : (d.addSat a f k).log = d.log := rfl
@[simp] theorem Dev.addSat_gales (d : Dev) (a : Nat) (f : Fld) (k : Nat) : (d.addSat a f k).gales = d.gales := rfl
@[simp] theorem Dev.addSat_boot (d : Dev) (a : Nat) (f : Fld) (k : Nat) : (d.addSat a f k).boot = d.boot := rfl
@[simp] theorem Dev.addSat_img (d : Dev) (a : Nat) (f : Fld) (k : Nat) : (d.addSat a f k).img = d.img := rfl
@[simp] theorem Dev.addSat_flash (d : Dev) (a : Nat) (f : Fld) (k : Nat) : (d.addSat a f k).flash = d.flash := rfl
@[simp] theorem Dev.addSat_sram (d : Dev) (a : Nat) (f : Fld) (k : Nat) : (d.addSat a f k).sram = d.sram := rfl
@[simp] theorem Dev.addSat_coef (d : Dev) (a : Nat) (f : Fld) (k : Nat) : (d.addSat a f k).coef = d.coef := rfl
@[simp] theorem Dev.addSat_sigt (d : Dev) (a : Nat) (f : Fld) (k : Nat) : (d.addSat a f k).sigt = d.sigt := rfl
@[simp] theorem Dev.addSat_mram (d : Dev) (a : Nat) (f : Fld) (k : Nat) : (d.addSat a f k).mram = d.mram := rfl
@[simp] theorem Dev.addSat_legs (d : Dev) (a : Nat) (f : Fld) (k : Nat) : (d.addSat a f k).legs = d.legs := rfl
@[simp] theorem Dev.addSat_convs (d : Dev) (a : Nat) (f : Fld) (k : Nat) : (d.addSat a f k).convs = d.convs := rfl
@[simp] theorem Dev.addSat_seqs (d : Dev) (a : Nat) (f : Fld) (k : Nat) : (d.addSat a f k).seqs = d.seqs := rfl
@[simp] theorem Dev.addSat_slots (d : Dev) (a : Nat) (f : Fld) (k : Nat) : (d.addSat a f k).slots = d.slots := rfl
@[simp] theorem Dev.addSat_dsms (d : Dev) (a : Nat) (f : Fld) (k : Nat) : (d.addSat a f k).dsms = d.dsms := rfl
@[simp] theorem Dev.addSat_cmps (d : Dev) (a : Nat) (f : Fld) (k : Nat) : (d.addSat a f k).cmps = d.cmps := rfl
@[simp] theorem Dev.addSat_trps (d : Dev) (a : Nat) (f : Fld) (k : Nat) : (d.addSat a f k).trps = d.trps := rfl
@[simp] theorem Dev.addSat_cascs (d : Dev) (a : Nat) (f : Fld) (k : Nat) : (d.addSat a f k).cascs = d.cascs := rfl
@[simp] theorem Dev.addSat_pairs (d : Dev) (a : Nat) (f : Fld) (k : Nat) : (d.addSat a f k).pairs = d.pairs := rfl
@[simp] theorem Dev.addSat_words (d : Dev) (a : Nat) (f : Fld) (k : Nat) : (d.addSat a f k).words = d.words := rfl
@[simp] theorem Dev.addSat_red (d : Dev) (a : Nat) (f : Fld) (k : Nat) : (d.addSat a f k).red = d.red := rfl
@[simp] theorem Dev.addSat_triads (d : Dev) (a : Nat) (f : Fld) (k : Nat) : (d.addSat a f k).triads = d.triads := rfl
@[simp] theorem Dev.addSat_safeq (d : Dev) (a : Nat) (f : Fld) (k : Nat) : (d.addSat a f k).safeq = d.safeq := rfl
@[simp] theorem Dev.addSat_ports (d : Dev) (a : Nat) (f : Fld) (k : Nat) : (d.addSat a f k).ports = d.ports := rfl
@[simp] theorem Dev.addSat_ques (d : Dev) (a : Nat) (f : Fld) (k : Nat) : (d.addSat a f k).ques = d.ques := rfl
@[simp] theorem Dev.addSat_sig (d : Dev) (a : Nat) (f : Fld) (k : Nat) : (d.addSat a f k).sig = d.sig := rfl
@[simp] theorem Dev.addSat_jrn (d : Dev) (a : Nat) (f : Fld) (k : Nat) : (d.addSat a f k).jrn = d.jrn := rfl
@[simp] theorem Dev.addSat_lnk (d : Dev) (a : Nat) (f : Fld) (k : Nat) : (d.addSat a f k).lnk = d.lnk := rfl
@[simp] theorem Dev.addSat_axus (d : Dev) (a : Nat) (f : Fld) (k : Nat) : (d.addSat a f k).axus = d.axus := rfl
@[simp] theorem Dev.addSat_sents (d : Dev) (a : Nat) (f : Fld) (k : Nat) : (d.addSat a f k).sents = d.sents := rfl
@[simp] theorem Dev.addSat_gioRaw (d : Dev) (a : Nat) (f : Fld) (k : Nat) : (d.addSat a f k).gioRaw = d.gioRaw := rfl
@[simp] theorem Dev.addSat_cvus (d : Dev) (a : Nat) (f : Fld) (k : Nat) : (d.addSat a f k).cvus = d.cvus := rfl
@[simp] theorem Dev.addSat_chgs (d : Dev) (a : Nat) (f : Fld) (k : Nat) : (d.addSat a f k).chgs = d.chgs := rfl
@[simp] theorem Dev.addSat_thm (d : Dev) (a : Nat) (f : Fld) (k : Nat) : (d.addSat a f k).thm = d.thm := rfl
@[simp] theorem Dev.addSat_bkg (d : Dev) (a : Nat) (f : Fld) (k : Nat) : (d.addSat a f k).bkg = d.bkg := rfl
@[simp] theorem Dev.addSat_sec (d : Dev) (a : Nat) (f : Fld) (k : Nat) : (d.addSat a f k).sec = d.sec := rfl
@[simp] theorem Dev.addSat_sup (d : Dev) (a : Nat) (f : Fld) (k : Nat) : (d.addSat a f k).sup = d.sup := rfl
@[simp] theorem Dev.addSat_asked (d : Dev) (a : Nat) (f : Fld) (k : Nat) : (d.addSat a f k).asked = d.asked := rfl

@[simp] theorem Dev.incSat_por (d : Dev) (a : Nat) (f : Fld) : (d.incSat a f).por = d.por := rfl
@[simp] theorem Dev.incSat_tk (d : Dev) (a : Nat) (f : Fld) : (d.incSat a f).tk = d.tk := rfl
@[simp] theorem Dev.incSat_cal (d : Dev) (a : Nat) (f : Fld) : (d.incSat a f).cal = d.cal := rfl
@[simp] theorem Dev.incSat_vcore (d : Dev) (a : Nat) (f : Fld) : (d.incSat a f).vcore = d.vcore := rfl
@[simp] theorem Dev.incSat_rates (d : Dev) (a : Nat) (f : Fld) : (d.incSat a f).rates = d.rates := rfl
@[simp] theorem Dev.incSat_log (d : Dev) (a : Nat) (f : Fld) : (d.incSat a f).log = d.log := rfl
@[simp] theorem Dev.incSat_gales (d : Dev) (a : Nat) (f : Fld) : (d.incSat a f).gales = d.gales := rfl
@[simp] theorem Dev.incSat_boot (d : Dev) (a : Nat) (f : Fld) : (d.incSat a f).boot = d.boot := rfl
@[simp] theorem Dev.incSat_img (d : Dev) (a : Nat) (f : Fld) : (d.incSat a f).img = d.img := rfl
@[simp] theorem Dev.incSat_flash (d : Dev) (a : Nat) (f : Fld) : (d.incSat a f).flash = d.flash := rfl
@[simp] theorem Dev.incSat_sram (d : Dev) (a : Nat) (f : Fld) : (d.incSat a f).sram = d.sram := rfl
@[simp] theorem Dev.incSat_coef (d : Dev) (a : Nat) (f : Fld) : (d.incSat a f).coef = d.coef := rfl
@[simp] theorem Dev.incSat_sigt (d : Dev) (a : Nat) (f : Fld) : (d.incSat a f).sigt = d.sigt := rfl
@[simp] theorem Dev.incSat_mram (d : Dev) (a : Nat) (f : Fld) : (d.incSat a f).mram = d.mram := rfl
@[simp] theorem Dev.incSat_legs (d : Dev) (a : Nat) (f : Fld) : (d.incSat a f).legs = d.legs := rfl
@[simp] theorem Dev.incSat_convs (d : Dev) (a : Nat) (f : Fld) : (d.incSat a f).convs = d.convs := rfl
@[simp] theorem Dev.incSat_seqs (d : Dev) (a : Nat) (f : Fld) : (d.incSat a f).seqs = d.seqs := rfl
@[simp] theorem Dev.incSat_slots (d : Dev) (a : Nat) (f : Fld) : (d.incSat a f).slots = d.slots := rfl
@[simp] theorem Dev.incSat_dsms (d : Dev) (a : Nat) (f : Fld) : (d.incSat a f).dsms = d.dsms := rfl
@[simp] theorem Dev.incSat_cmps (d : Dev) (a : Nat) (f : Fld) : (d.incSat a f).cmps = d.cmps := rfl
@[simp] theorem Dev.incSat_trps (d : Dev) (a : Nat) (f : Fld) : (d.incSat a f).trps = d.trps := rfl
@[simp] theorem Dev.incSat_cascs (d : Dev) (a : Nat) (f : Fld) : (d.incSat a f).cascs = d.cascs := rfl
@[simp] theorem Dev.incSat_pairs (d : Dev) (a : Nat) (f : Fld) : (d.incSat a f).pairs = d.pairs := rfl
@[simp] theorem Dev.incSat_words (d : Dev) (a : Nat) (f : Fld) : (d.incSat a f).words = d.words := rfl
@[simp] theorem Dev.incSat_red (d : Dev) (a : Nat) (f : Fld) : (d.incSat a f).red = d.red := rfl
@[simp] theorem Dev.incSat_triads (d : Dev) (a : Nat) (f : Fld) : (d.incSat a f).triads = d.triads := rfl
@[simp] theorem Dev.incSat_safeq (d : Dev) (a : Nat) (f : Fld) : (d.incSat a f).safeq = d.safeq := rfl
@[simp] theorem Dev.incSat_ports (d : Dev) (a : Nat) (f : Fld) : (d.incSat a f).ports = d.ports := rfl
@[simp] theorem Dev.incSat_ques (d : Dev) (a : Nat) (f : Fld) : (d.incSat a f).ques = d.ques := rfl
@[simp] theorem Dev.incSat_sig (d : Dev) (a : Nat) (f : Fld) : (d.incSat a f).sig = d.sig := rfl
@[simp] theorem Dev.incSat_jrn (d : Dev) (a : Nat) (f : Fld) : (d.incSat a f).jrn = d.jrn := rfl
@[simp] theorem Dev.incSat_lnk (d : Dev) (a : Nat) (f : Fld) : (d.incSat a f).lnk = d.lnk := rfl
@[simp] theorem Dev.incSat_axus (d : Dev) (a : Nat) (f : Fld) : (d.incSat a f).axus = d.axus := rfl
@[simp] theorem Dev.incSat_sents (d : Dev) (a : Nat) (f : Fld) : (d.incSat a f).sents = d.sents := rfl
@[simp] theorem Dev.incSat_gioRaw (d : Dev) (a : Nat) (f : Fld) : (d.incSat a f).gioRaw = d.gioRaw := rfl
@[simp] theorem Dev.incSat_cvus (d : Dev) (a : Nat) (f : Fld) : (d.incSat a f).cvus = d.cvus := rfl
@[simp] theorem Dev.incSat_chgs (d : Dev) (a : Nat) (f : Fld) : (d.incSat a f).chgs = d.chgs := rfl
@[simp] theorem Dev.incSat_thm (d : Dev) (a : Nat) (f : Fld) : (d.incSat a f).thm = d.thm := rfl
@[simp] theorem Dev.incSat_bkg (d : Dev) (a : Nat) (f : Fld) : (d.incSat a f).bkg = d.bkg := rfl
@[simp] theorem Dev.incSat_sec (d : Dev) (a : Nat) (f : Fld) : (d.incSat a f).sec = d.sec := rfl
@[simp] theorem Dev.incSat_sup (d : Dev) (a : Nat) (f : Fld) : (d.incSat a f).sup = d.sup := rfl
@[simp] theorem Dev.incSat_asked (d : Dev) (a : Nat) (f : Fld) : (d.incSat a f).asked = d.asked := rfl

@[simp] theorem Dev.inc32_por (d : Dev) (a : Nat) : (d.inc32 a).por = d.por := rfl
@[simp] theorem Dev.inc32_tk (d : Dev) (a : Nat) : (d.inc32 a).tk = d.tk := rfl
@[simp] theorem Dev.inc32_cal (d : Dev) (a : Nat) : (d.inc32 a).cal = d.cal := rfl
@[simp] theorem Dev.inc32_vcore (d : Dev) (a : Nat) : (d.inc32 a).vcore = d.vcore := rfl
@[simp] theorem Dev.inc32_rates (d : Dev) (a : Nat) : (d.inc32 a).rates = d.rates := rfl
@[simp] theorem Dev.inc32_log (d : Dev) (a : Nat) : (d.inc32 a).log = d.log := rfl
@[simp] theorem Dev.inc32_gales (d : Dev) (a : Nat) : (d.inc32 a).gales = d.gales := rfl
@[simp] theorem Dev.inc32_boot (d : Dev) (a : Nat) : (d.inc32 a).boot = d.boot := rfl
@[simp] theorem Dev.inc32_img (d : Dev) (a : Nat) : (d.inc32 a).img = d.img := rfl
@[simp] theorem Dev.inc32_flash (d : Dev) (a : Nat) : (d.inc32 a).flash = d.flash := rfl
@[simp] theorem Dev.inc32_sram (d : Dev) (a : Nat) : (d.inc32 a).sram = d.sram := rfl
@[simp] theorem Dev.inc32_coef (d : Dev) (a : Nat) : (d.inc32 a).coef = d.coef := rfl
@[simp] theorem Dev.inc32_sigt (d : Dev) (a : Nat) : (d.inc32 a).sigt = d.sigt := rfl
@[simp] theorem Dev.inc32_mram (d : Dev) (a : Nat) : (d.inc32 a).mram = d.mram := rfl
@[simp] theorem Dev.inc32_legs (d : Dev) (a : Nat) : (d.inc32 a).legs = d.legs := rfl
@[simp] theorem Dev.inc32_convs (d : Dev) (a : Nat) : (d.inc32 a).convs = d.convs := rfl
@[simp] theorem Dev.inc32_seqs (d : Dev) (a : Nat) : (d.inc32 a).seqs = d.seqs := rfl
@[simp] theorem Dev.inc32_slots (d : Dev) (a : Nat) : (d.inc32 a).slots = d.slots := rfl
@[simp] theorem Dev.inc32_dsms (d : Dev) (a : Nat) : (d.inc32 a).dsms = d.dsms := rfl
@[simp] theorem Dev.inc32_cmps (d : Dev) (a : Nat) : (d.inc32 a).cmps = d.cmps := rfl
@[simp] theorem Dev.inc32_trps (d : Dev) (a : Nat) : (d.inc32 a).trps = d.trps := rfl
@[simp] theorem Dev.inc32_cascs (d : Dev) (a : Nat) : (d.inc32 a).cascs = d.cascs := rfl
@[simp] theorem Dev.inc32_pairs (d : Dev) (a : Nat) : (d.inc32 a).pairs = d.pairs := rfl
@[simp] theorem Dev.inc32_words (d : Dev) (a : Nat) : (d.inc32 a).words = d.words := rfl
@[simp] theorem Dev.inc32_red (d : Dev) (a : Nat) : (d.inc32 a).red = d.red := rfl
@[simp] theorem Dev.inc32_triads (d : Dev) (a : Nat) : (d.inc32 a).triads = d.triads := rfl
@[simp] theorem Dev.inc32_safeq (d : Dev) (a : Nat) : (d.inc32 a).safeq = d.safeq := rfl
@[simp] theorem Dev.inc32_ports (d : Dev) (a : Nat) : (d.inc32 a).ports = d.ports := rfl
@[simp] theorem Dev.inc32_ques (d : Dev) (a : Nat) : (d.inc32 a).ques = d.ques := rfl
@[simp] theorem Dev.inc32_sig (d : Dev) (a : Nat) : (d.inc32 a).sig = d.sig := rfl
@[simp] theorem Dev.inc32_jrn (d : Dev) (a : Nat) : (d.inc32 a).jrn = d.jrn := rfl
@[simp] theorem Dev.inc32_lnk (d : Dev) (a : Nat) : (d.inc32 a).lnk = d.lnk := rfl
@[simp] theorem Dev.inc32_axus (d : Dev) (a : Nat) : (d.inc32 a).axus = d.axus := rfl
@[simp] theorem Dev.inc32_sents (d : Dev) (a : Nat) : (d.inc32 a).sents = d.sents := rfl
@[simp] theorem Dev.inc32_gioRaw (d : Dev) (a : Nat) : (d.inc32 a).gioRaw = d.gioRaw := rfl
@[simp] theorem Dev.inc32_cvus (d : Dev) (a : Nat) : (d.inc32 a).cvus = d.cvus := rfl
@[simp] theorem Dev.inc32_chgs (d : Dev) (a : Nat) : (d.inc32 a).chgs = d.chgs := rfl
@[simp] theorem Dev.inc32_thm (d : Dev) (a : Nat) : (d.inc32 a).thm = d.thm := rfl
@[simp] theorem Dev.inc32_bkg (d : Dev) (a : Nat) : (d.inc32 a).bkg = d.bkg := rfl
@[simp] theorem Dev.inc32_sec (d : Dev) (a : Nat) : (d.inc32 a).sec = d.sec := rfl
@[simp] theorem Dev.inc32_sup (d : Dev) (a : Nat) : (d.inc32 a).sup = d.sup := rfl
@[simp] theorem Dev.inc32_asked (d : Dev) (a : Nat) : (d.inc32 a).asked = d.asked := rfl

@[simp] theorem Dev.wr64_por (d : Dev) (lo hi : Nat) (v : BitVec 64) : (d.wr64 lo hi v).por = d.por := rfl
@[simp] theorem Dev.wr64_tk (d : Dev) (lo hi : Nat) (v : BitVec 64) : (d.wr64 lo hi v).tk = d.tk := rfl
@[simp] theorem Dev.wr64_cal (d : Dev) (lo hi : Nat) (v : BitVec 64) : (d.wr64 lo hi v).cal = d.cal := rfl
@[simp] theorem Dev.wr64_vcore (d : Dev) (lo hi : Nat) (v : BitVec 64) : (d.wr64 lo hi v).vcore = d.vcore := rfl
@[simp] theorem Dev.wr64_rates (d : Dev) (lo hi : Nat) (v : BitVec 64) : (d.wr64 lo hi v).rates = d.rates := rfl
@[simp] theorem Dev.wr64_log (d : Dev) (lo hi : Nat) (v : BitVec 64) : (d.wr64 lo hi v).log = d.log := rfl
@[simp] theorem Dev.wr64_gales (d : Dev) (lo hi : Nat) (v : BitVec 64) : (d.wr64 lo hi v).gales = d.gales := rfl
@[simp] theorem Dev.wr64_boot (d : Dev) (lo hi : Nat) (v : BitVec 64) : (d.wr64 lo hi v).boot = d.boot := rfl
@[simp] theorem Dev.wr64_img (d : Dev) (lo hi : Nat) (v : BitVec 64) : (d.wr64 lo hi v).img = d.img := rfl
@[simp] theorem Dev.wr64_flash (d : Dev) (lo hi : Nat) (v : BitVec 64) : (d.wr64 lo hi v).flash = d.flash := rfl
@[simp] theorem Dev.wr64_sram (d : Dev) (lo hi : Nat) (v : BitVec 64) : (d.wr64 lo hi v).sram = d.sram := rfl
@[simp] theorem Dev.wr64_coef (d : Dev) (lo hi : Nat) (v : BitVec 64) : (d.wr64 lo hi v).coef = d.coef := rfl
@[simp] theorem Dev.wr64_sigt (d : Dev) (lo hi : Nat) (v : BitVec 64) : (d.wr64 lo hi v).sigt = d.sigt := rfl
@[simp] theorem Dev.wr64_mram (d : Dev) (lo hi : Nat) (v : BitVec 64) : (d.wr64 lo hi v).mram = d.mram := rfl
@[simp] theorem Dev.wr64_legs (d : Dev) (lo hi : Nat) (v : BitVec 64) : (d.wr64 lo hi v).legs = d.legs := rfl
@[simp] theorem Dev.wr64_convs (d : Dev) (lo hi : Nat) (v : BitVec 64) : (d.wr64 lo hi v).convs = d.convs := rfl
@[simp] theorem Dev.wr64_seqs (d : Dev) (lo hi : Nat) (v : BitVec 64) : (d.wr64 lo hi v).seqs = d.seqs := rfl
@[simp] theorem Dev.wr64_slots (d : Dev) (lo hi : Nat) (v : BitVec 64) : (d.wr64 lo hi v).slots = d.slots := rfl
@[simp] theorem Dev.wr64_dsms (d : Dev) (lo hi : Nat) (v : BitVec 64) : (d.wr64 lo hi v).dsms = d.dsms := rfl
@[simp] theorem Dev.wr64_cmps (d : Dev) (lo hi : Nat) (v : BitVec 64) : (d.wr64 lo hi v).cmps = d.cmps := rfl
@[simp] theorem Dev.wr64_trps (d : Dev) (lo hi : Nat) (v : BitVec 64) : (d.wr64 lo hi v).trps = d.trps := rfl
@[simp] theorem Dev.wr64_cascs (d : Dev) (lo hi : Nat) (v : BitVec 64) : (d.wr64 lo hi v).cascs = d.cascs := rfl
@[simp] theorem Dev.wr64_pairs (d : Dev) (lo hi : Nat) (v : BitVec 64) : (d.wr64 lo hi v).pairs = d.pairs := rfl
@[simp] theorem Dev.wr64_words (d : Dev) (lo hi : Nat) (v : BitVec 64) : (d.wr64 lo hi v).words = d.words := rfl
@[simp] theorem Dev.wr64_red (d : Dev) (lo hi : Nat) (v : BitVec 64) : (d.wr64 lo hi v).red = d.red := rfl
@[simp] theorem Dev.wr64_triads (d : Dev) (lo hi : Nat) (v : BitVec 64) : (d.wr64 lo hi v).triads = d.triads := rfl
@[simp] theorem Dev.wr64_safeq (d : Dev) (lo hi : Nat) (v : BitVec 64) : (d.wr64 lo hi v).safeq = d.safeq := rfl
@[simp] theorem Dev.wr64_ports (d : Dev) (lo hi : Nat) (v : BitVec 64) : (d.wr64 lo hi v).ports = d.ports := rfl
@[simp] theorem Dev.wr64_ques (d : Dev) (lo hi : Nat) (v : BitVec 64) : (d.wr64 lo hi v).ques = d.ques := rfl
@[simp] theorem Dev.wr64_sig (d : Dev) (lo hi : Nat) (v : BitVec 64) : (d.wr64 lo hi v).sig = d.sig := rfl
@[simp] theorem Dev.wr64_jrn (d : Dev) (lo hi : Nat) (v : BitVec 64) : (d.wr64 lo hi v).jrn = d.jrn := rfl
@[simp] theorem Dev.wr64_lnk (d : Dev) (lo hi : Nat) (v : BitVec 64) : (d.wr64 lo hi v).lnk = d.lnk := rfl
@[simp] theorem Dev.wr64_axus (d : Dev) (lo hi : Nat) (v : BitVec 64) : (d.wr64 lo hi v).axus = d.axus := rfl
@[simp] theorem Dev.wr64_sents (d : Dev) (lo hi : Nat) (v : BitVec 64) : (d.wr64 lo hi v).sents = d.sents := rfl
@[simp] theorem Dev.wr64_gioRaw (d : Dev) (lo hi : Nat) (v : BitVec 64) : (d.wr64 lo hi v).gioRaw = d.gioRaw := rfl
@[simp] theorem Dev.wr64_cvus (d : Dev) (lo hi : Nat) (v : BitVec 64) : (d.wr64 lo hi v).cvus = d.cvus := rfl
@[simp] theorem Dev.wr64_chgs (d : Dev) (lo hi : Nat) (v : BitVec 64) : (d.wr64 lo hi v).chgs = d.chgs := rfl
@[simp] theorem Dev.wr64_thm (d : Dev) (lo hi : Nat) (v : BitVec 64) : (d.wr64 lo hi v).thm = d.thm := rfl
@[simp] theorem Dev.wr64_bkg (d : Dev) (lo hi : Nat) (v : BitVec 64) : (d.wr64 lo hi v).bkg = d.bkg := rfl
@[simp] theorem Dev.wr64_sec (d : Dev) (lo hi : Nat) (v : BitVec 64) : (d.wr64 lo hi v).sec = d.sec := rfl
@[simp] theorem Dev.wr64_sup (d : Dev) (lo hi : Nat) (v : BitVec 64) : (d.wr64 lo hi v).sup = d.sup := rfl
@[simp] theorem Dev.wr64_asked (d : Dev) (lo hi : Nat) (v : BitVec 64) : (d.wr64 lo hi v).asked = d.asked := rfl

@[simp] theorem Dev.setSys_por (d : Dev) (st : Nat) : (d.setSys st).por = d.por := rfl
@[simp] theorem Dev.setSys_tk (d : Dev) (st : Nat) : (d.setSys st).tk = d.tk := rfl
@[simp] theorem Dev.setSys_cal (d : Dev) (st : Nat) : (d.setSys st).cal = d.cal := rfl
@[simp] theorem Dev.setSys_vcore (d : Dev) (st : Nat) : (d.setSys st).vcore = d.vcore := rfl
@[simp] theorem Dev.setSys_rates (d : Dev) (st : Nat) : (d.setSys st).rates = d.rates := rfl
@[simp] theorem Dev.setSys_log (d : Dev) (st : Nat) : (d.setSys st).log = d.log := rfl
@[simp] theorem Dev.setSys_gales (d : Dev) (st : Nat) : (d.setSys st).gales = d.gales := rfl
@[simp] theorem Dev.setSys_boot (d : Dev) (st : Nat) : (d.setSys st).boot = d.boot := rfl
@[simp] theorem Dev.setSys_img (d : Dev) (st : Nat) : (d.setSys st).img = d.img := rfl
@[simp] theorem Dev.setSys_flash (d : Dev) (st : Nat) : (d.setSys st).flash = d.flash := rfl
@[simp] theorem Dev.setSys_sram (d : Dev) (st : Nat) : (d.setSys st).sram = d.sram := rfl
@[simp] theorem Dev.setSys_coef (d : Dev) (st : Nat) : (d.setSys st).coef = d.coef := rfl
@[simp] theorem Dev.setSys_sigt (d : Dev) (st : Nat) : (d.setSys st).sigt = d.sigt := rfl
@[simp] theorem Dev.setSys_mram (d : Dev) (st : Nat) : (d.setSys st).mram = d.mram := rfl
@[simp] theorem Dev.setSys_legs (d : Dev) (st : Nat) : (d.setSys st).legs = d.legs := rfl
@[simp] theorem Dev.setSys_convs (d : Dev) (st : Nat) : (d.setSys st).convs = d.convs := rfl
@[simp] theorem Dev.setSys_seqs (d : Dev) (st : Nat) : (d.setSys st).seqs = d.seqs := rfl
@[simp] theorem Dev.setSys_slots (d : Dev) (st : Nat) : (d.setSys st).slots = d.slots := rfl
@[simp] theorem Dev.setSys_dsms (d : Dev) (st : Nat) : (d.setSys st).dsms = d.dsms := rfl
@[simp] theorem Dev.setSys_cmps (d : Dev) (st : Nat) : (d.setSys st).cmps = d.cmps := rfl
@[simp] theorem Dev.setSys_trps (d : Dev) (st : Nat) : (d.setSys st).trps = d.trps := rfl
@[simp] theorem Dev.setSys_cascs (d : Dev) (st : Nat) : (d.setSys st).cascs = d.cascs := rfl
@[simp] theorem Dev.setSys_pairs (d : Dev) (st : Nat) : (d.setSys st).pairs = d.pairs := rfl
@[simp] theorem Dev.setSys_words (d : Dev) (st : Nat) : (d.setSys st).words = d.words := rfl
@[simp] theorem Dev.setSys_red (d : Dev) (st : Nat) : (d.setSys st).red = d.red := rfl
@[simp] theorem Dev.setSys_triads (d : Dev) (st : Nat) : (d.setSys st).triads = d.triads := rfl
@[simp] theorem Dev.setSys_safeq (d : Dev) (st : Nat) : (d.setSys st).safeq = d.safeq := rfl
@[simp] theorem Dev.setSys_ports (d : Dev) (st : Nat) : (d.setSys st).ports = d.ports := rfl
@[simp] theorem Dev.setSys_ques (d : Dev) (st : Nat) : (d.setSys st).ques = d.ques := rfl
@[simp] theorem Dev.setSys_sig (d : Dev) (st : Nat) : (d.setSys st).sig = d.sig := rfl
@[simp] theorem Dev.setSys_jrn (d : Dev) (st : Nat) : (d.setSys st).jrn = d.jrn := rfl
@[simp] theorem Dev.setSys_lnk (d : Dev) (st : Nat) : (d.setSys st).lnk = d.lnk := rfl
@[simp] theorem Dev.setSys_axus (d : Dev) (st : Nat) : (d.setSys st).axus = d.axus := rfl
@[simp] theorem Dev.setSys_sents (d : Dev) (st : Nat) : (d.setSys st).sents = d.sents := rfl
@[simp] theorem Dev.setSys_gioRaw (d : Dev) (st : Nat) : (d.setSys st).gioRaw = d.gioRaw := rfl
@[simp] theorem Dev.setSys_cvus (d : Dev) (st : Nat) : (d.setSys st).cvus = d.cvus := rfl
@[simp] theorem Dev.setSys_chgs (d : Dev) (st : Nat) : (d.setSys st).chgs = d.chgs := rfl
@[simp] theorem Dev.setSys_thm (d : Dev) (st : Nat) : (d.setSys st).thm = d.thm := rfl
@[simp] theorem Dev.setSys_bkg (d : Dev) (st : Nat) : (d.setSys st).bkg = d.bkg := rfl
@[simp] theorem Dev.setSys_sec (d : Dev) (st : Nat) : (d.setSys st).sec = d.sec := rfl
@[simp] theorem Dev.setSys_sup (d : Dev) (st : Nat) : (d.setSys st).sup = d.sup := rfl
@[simp] theorem Dev.setSys_asked (d : Dev) (st : Nat) : (d.setSys st).asked = d.asked := rfl

@[simp] theorem Dev.setTime_por (d : Dev) (t : Time) : (d.setTime t).por = d.por := rfl
@[simp] theorem Dev.setTime_cal (d : Dev) (t : Time) : (d.setTime t).cal = d.cal := rfl
@[simp] theorem Dev.setTime_vcore (d : Dev) (t : Time) : (d.setTime t).vcore = d.vcore := rfl
@[simp] theorem Dev.setTime_regs (d : Dev) (t : Time) : (d.setTime t).regs = d.regs := rfl
@[simp] theorem Dev.setTime_rates (d : Dev) (t : Time) : (d.setTime t).rates = d.rates := rfl
@[simp] theorem Dev.setTime_log (d : Dev) (t : Time) : (d.setTime t).log = d.log := rfl
@[simp] theorem Dev.setTime_gales (d : Dev) (t : Time) : (d.setTime t).gales = d.gales := rfl
@[simp] theorem Dev.setTime_boot (d : Dev) (t : Time) : (d.setTime t).boot = d.boot := rfl
@[simp] theorem Dev.setTime_img (d : Dev) (t : Time) : (d.setTime t).img = d.img := rfl
@[simp] theorem Dev.setTime_flash (d : Dev) (t : Time) : (d.setTime t).flash = d.flash := rfl
@[simp] theorem Dev.setTime_sram (d : Dev) (t : Time) : (d.setTime t).sram = d.sram := rfl
@[simp] theorem Dev.setTime_coef (d : Dev) (t : Time) : (d.setTime t).coef = d.coef := rfl
@[simp] theorem Dev.setTime_sigt (d : Dev) (t : Time) : (d.setTime t).sigt = d.sigt := rfl
@[simp] theorem Dev.setTime_mram (d : Dev) (t : Time) : (d.setTime t).mram = d.mram := rfl
@[simp] theorem Dev.setTime_legs (d : Dev) (t : Time) : (d.setTime t).legs = d.legs := rfl
@[simp] theorem Dev.setTime_convs (d : Dev) (t : Time) : (d.setTime t).convs = d.convs := rfl
@[simp] theorem Dev.setTime_seqs (d : Dev) (t : Time) : (d.setTime t).seqs = d.seqs := rfl
@[simp] theorem Dev.setTime_slots (d : Dev) (t : Time) : (d.setTime t).slots = d.slots := rfl
@[simp] theorem Dev.setTime_dsms (d : Dev) (t : Time) : (d.setTime t).dsms = d.dsms := rfl
@[simp] theorem Dev.setTime_cmps (d : Dev) (t : Time) : (d.setTime t).cmps = d.cmps := rfl
@[simp] theorem Dev.setTime_trps (d : Dev) (t : Time) : (d.setTime t).trps = d.trps := rfl
@[simp] theorem Dev.setTime_cascs (d : Dev) (t : Time) : (d.setTime t).cascs = d.cascs := rfl
@[simp] theorem Dev.setTime_pairs (d : Dev) (t : Time) : (d.setTime t).pairs = d.pairs := rfl
@[simp] theorem Dev.setTime_words (d : Dev) (t : Time) : (d.setTime t).words = d.words := rfl
@[simp] theorem Dev.setTime_red (d : Dev) (t : Time) : (d.setTime t).red = d.red := rfl
@[simp] theorem Dev.setTime_triads (d : Dev) (t : Time) : (d.setTime t).triads = d.triads := rfl
@[simp] theorem Dev.setTime_safeq (d : Dev) (t : Time) : (d.setTime t).safeq = d.safeq := rfl
@[simp] theorem Dev.setTime_ports (d : Dev) (t : Time) : (d.setTime t).ports = d.ports := rfl
@[simp] theorem Dev.setTime_ques (d : Dev) (t : Time) : (d.setTime t).ques = d.ques := rfl
@[simp] theorem Dev.setTime_sig (d : Dev) (t : Time) : (d.setTime t).sig = d.sig := rfl
@[simp] theorem Dev.setTime_jrn (d : Dev) (t : Time) : (d.setTime t).jrn = d.jrn := rfl
@[simp] theorem Dev.setTime_lnk (d : Dev) (t : Time) : (d.setTime t).lnk = d.lnk := rfl
@[simp] theorem Dev.setTime_axus (d : Dev) (t : Time) : (d.setTime t).axus = d.axus := rfl
@[simp] theorem Dev.setTime_sents (d : Dev) (t : Time) : (d.setTime t).sents = d.sents := rfl
@[simp] theorem Dev.setTime_gioRaw (d : Dev) (t : Time) : (d.setTime t).gioRaw = d.gioRaw := rfl
@[simp] theorem Dev.setTime_cvus (d : Dev) (t : Time) : (d.setTime t).cvus = d.cvus := rfl
@[simp] theorem Dev.setTime_chgs (d : Dev) (t : Time) : (d.setTime t).chgs = d.chgs := rfl
@[simp] theorem Dev.setTime_thm (d : Dev) (t : Time) : (d.setTime t).thm = d.thm := rfl
@[simp] theorem Dev.setTime_bkg (d : Dev) (t : Time) : (d.setTime t).bkg = d.bkg := rfl
@[simp] theorem Dev.setTime_sec (d : Dev) (t : Time) : (d.setTime t).sec = d.sec := rfl
@[simp] theorem Dev.setTime_sup (d : Dev) (t : Time) : (d.setTime t).sup = d.sup := rfl
@[simp] theorem Dev.setTime_asked (d : Dev) (t : Time) : (d.setTime t).asked = d.asked := rfl

@[simp] theorem Dev.putTriad_por (d : Dev) (t : Nat) (x : Triad) : (Dev.putTriad t x d).por = d.por := rfl
@[simp] theorem Dev.putTriad_tk (d : Dev) (t : Nat) (x : Triad) : (Dev.putTriad t x d).tk = d.tk := rfl
@[simp] theorem Dev.putTriad_cal (d : Dev) (t : Nat) (x : Triad) : (Dev.putTriad t x d).cal = d.cal := rfl
@[simp] theorem Dev.putTriad_vcore (d : Dev) (t : Nat) (x : Triad) : (Dev.putTriad t x d).vcore = d.vcore := rfl
@[simp] theorem Dev.putTriad_regs (d : Dev) (t : Nat) (x : Triad) : (Dev.putTriad t x d).regs = d.regs := rfl
@[simp] theorem Dev.putTriad_rates (d : Dev) (t : Nat) (x : Triad) : (Dev.putTriad t x d).rates = d.rates := rfl
@[simp] theorem Dev.putTriad_log (d : Dev) (t : Nat) (x : Triad) : (Dev.putTriad t x d).log = d.log := rfl
@[simp] theorem Dev.putTriad_gales (d : Dev) (t : Nat) (x : Triad) : (Dev.putTriad t x d).gales = d.gales := rfl
@[simp] theorem Dev.putTriad_boot (d : Dev) (t : Nat) (x : Triad) : (Dev.putTriad t x d).boot = d.boot := rfl
@[simp] theorem Dev.putTriad_img (d : Dev) (t : Nat) (x : Triad) : (Dev.putTriad t x d).img = d.img := rfl
@[simp] theorem Dev.putTriad_flash (d : Dev) (t : Nat) (x : Triad) : (Dev.putTriad t x d).flash = d.flash := rfl
@[simp] theorem Dev.putTriad_sram (d : Dev) (t : Nat) (x : Triad) : (Dev.putTriad t x d).sram = d.sram := rfl
@[simp] theorem Dev.putTriad_coef (d : Dev) (t : Nat) (x : Triad) : (Dev.putTriad t x d).coef = d.coef := rfl
@[simp] theorem Dev.putTriad_sigt (d : Dev) (t : Nat) (x : Triad) : (Dev.putTriad t x d).sigt = d.sigt := rfl
@[simp] theorem Dev.putTriad_mram (d : Dev) (t : Nat) (x : Triad) : (Dev.putTriad t x d).mram = d.mram := rfl
@[simp] theorem Dev.putTriad_legs (d : Dev) (t : Nat) (x : Triad) : (Dev.putTriad t x d).legs = d.legs := rfl
@[simp] theorem Dev.putTriad_convs (d : Dev) (t : Nat) (x : Triad) : (Dev.putTriad t x d).convs = d.convs := rfl
@[simp] theorem Dev.putTriad_seqs (d : Dev) (t : Nat) (x : Triad) : (Dev.putTriad t x d).seqs = d.seqs := rfl
@[simp] theorem Dev.putTriad_slots (d : Dev) (t : Nat) (x : Triad) : (Dev.putTriad t x d).slots = d.slots := rfl
@[simp] theorem Dev.putTriad_dsms (d : Dev) (t : Nat) (x : Triad) : (Dev.putTriad t x d).dsms = d.dsms := rfl
@[simp] theorem Dev.putTriad_cmps (d : Dev) (t : Nat) (x : Triad) : (Dev.putTriad t x d).cmps = d.cmps := rfl
@[simp] theorem Dev.putTriad_trps (d : Dev) (t : Nat) (x : Triad) : (Dev.putTriad t x d).trps = d.trps := rfl
@[simp] theorem Dev.putTriad_cascs (d : Dev) (t : Nat) (x : Triad) : (Dev.putTriad t x d).cascs = d.cascs := rfl
@[simp] theorem Dev.putTriad_pairs (d : Dev) (t : Nat) (x : Triad) : (Dev.putTriad t x d).pairs = d.pairs := rfl
@[simp] theorem Dev.putTriad_words (d : Dev) (t : Nat) (x : Triad) : (Dev.putTriad t x d).words = d.words := rfl
@[simp] theorem Dev.putTriad_red (d : Dev) (t : Nat) (x : Triad) : (Dev.putTriad t x d).red = d.red := rfl
@[simp] theorem Dev.putTriad_safeq (d : Dev) (t : Nat) (x : Triad) : (Dev.putTriad t x d).safeq = d.safeq := rfl
@[simp] theorem Dev.putTriad_ports (d : Dev) (t : Nat) (x : Triad) : (Dev.putTriad t x d).ports = d.ports := rfl
@[simp] theorem Dev.putTriad_ques (d : Dev) (t : Nat) (x : Triad) : (Dev.putTriad t x d).ques = d.ques := rfl
@[simp] theorem Dev.putTriad_sig (d : Dev) (t : Nat) (x : Triad) : (Dev.putTriad t x d).sig = d.sig := rfl
@[simp] theorem Dev.putTriad_jrn (d : Dev) (t : Nat) (x : Triad) : (Dev.putTriad t x d).jrn = d.jrn := rfl
@[simp] theorem Dev.putTriad_lnk (d : Dev) (t : Nat) (x : Triad) : (Dev.putTriad t x d).lnk = d.lnk := rfl
@[simp] theorem Dev.putTriad_axus (d : Dev) (t : Nat) (x : Triad) : (Dev.putTriad t x d).axus = d.axus := rfl
@[simp] theorem Dev.putTriad_sents (d : Dev) (t : Nat) (x : Triad) : (Dev.putTriad t x d).sents = d.sents := rfl
@[simp] theorem Dev.putTriad_gioRaw (d : Dev) (t : Nat) (x : Triad) : (Dev.putTriad t x d).gioRaw = d.gioRaw := rfl
@[simp] theorem Dev.putTriad_cvus (d : Dev) (t : Nat) (x : Triad) : (Dev.putTriad t x d).cvus = d.cvus := rfl
@[simp] theorem Dev.putTriad_chgs (d : Dev) (t : Nat) (x : Triad) : (Dev.putTriad t x d).chgs = d.chgs := rfl
@[simp] theorem Dev.putTriad_thm (d : Dev) (t : Nat) (x : Triad) : (Dev.putTriad t x d).thm = d.thm := rfl
@[simp] theorem Dev.putTriad_bkg (d : Dev) (t : Nat) (x : Triad) : (Dev.putTriad t x d).bkg = d.bkg := rfl
@[simp] theorem Dev.putTriad_sec (d : Dev) (t : Nat) (x : Triad) : (Dev.putTriad t x d).sec = d.sec := rfl
@[simp] theorem Dev.putTriad_sup (d : Dev) (t : Nat) (x : Triad) : (Dev.putTriad t x d).sup = d.sup := rfl
@[simp] theorem Dev.putTriad_asked (d : Dev) (t : Nat) (x : Triad) : (Dev.putTriad t x d).asked = d.asked := rfl

@[simp] theorem Dev.modTriad_por (d : Dev) (t : Nat) (g : Triad → Triad) : (Dev.modTriad t g d).por = d.por := rfl
@[simp] theorem Dev.modTriad_tk (d : Dev) (t : Nat) (g : Triad → Triad) : (Dev.modTriad t g d).tk = d.tk := rfl
@[simp] theorem Dev.modTriad_cal (d : Dev) (t : Nat) (g : Triad → Triad) : (Dev.modTriad t g d).cal = d.cal := rfl
@[simp] theorem Dev.modTriad_vcore (d : Dev) (t : Nat) (g : Triad → Triad) : (Dev.modTriad t g d).vcore = d.vcore := rfl
@[simp] theorem Dev.modTriad_regs (d : Dev) (t : Nat) (g : Triad → Triad) : (Dev.modTriad t g d).regs = d.regs := rfl
@[simp] theorem Dev.modTriad_rates (d : Dev) (t : Nat) (g : Triad → Triad) : (Dev.modTriad t g d).rates = d.rates := rfl
@[simp] theorem Dev.modTriad_log (d : Dev) (t : Nat) (g : Triad → Triad) : (Dev.modTriad t g d).log = d.log := rfl
@[simp] theorem Dev.modTriad_gales (d : Dev) (t : Nat) (g : Triad → Triad) : (Dev.modTriad t g d).gales = d.gales := rfl
@[simp] theorem Dev.modTriad_boot (d : Dev) (t : Nat) (g : Triad → Triad) : (Dev.modTriad t g d).boot = d.boot := rfl
@[simp] theorem Dev.modTriad_img (d : Dev) (t : Nat) (g : Triad → Triad) : (Dev.modTriad t g d).img = d.img := rfl
@[simp] theorem Dev.modTriad_flash (d : Dev) (t : Nat) (g : Triad → Triad) : (Dev.modTriad t g d).flash = d.flash := rfl
@[simp] theorem Dev.modTriad_sram (d : Dev) (t : Nat) (g : Triad → Triad) : (Dev.modTriad t g d).sram = d.sram := rfl
@[simp] theorem Dev.modTriad_coef (d : Dev) (t : Nat) (g : Triad → Triad) : (Dev.modTriad t g d).coef = d.coef := rfl
@[simp] theorem Dev.modTriad_sigt (d : Dev) (t : Nat) (g : Triad → Triad) : (Dev.modTriad t g d).sigt = d.sigt := rfl
@[simp] theorem Dev.modTriad_mram (d : Dev) (t : Nat) (g : Triad → Triad) : (Dev.modTriad t g d).mram = d.mram := rfl
@[simp] theorem Dev.modTriad_legs (d : Dev) (t : Nat) (g : Triad → Triad) : (Dev.modTriad t g d).legs = d.legs := rfl
@[simp] theorem Dev.modTriad_convs (d : Dev) (t : Nat) (g : Triad → Triad) : (Dev.modTriad t g d).convs = d.convs := rfl
@[simp] theorem Dev.modTriad_seqs (d : Dev) (t : Nat) (g : Triad → Triad) : (Dev.modTriad t g d).seqs = d.seqs := rfl
@[simp] theorem Dev.modTriad_slots (d : Dev) (t : Nat) (g : Triad → Triad) : (Dev.modTriad t g d).slots = d.slots := rfl
@[simp] theorem Dev.modTriad_dsms (d : Dev) (t : Nat) (g : Triad → Triad) : (Dev.modTriad t g d).dsms = d.dsms := rfl
@[simp] theorem Dev.modTriad_cmps (d : Dev) (t : Nat) (g : Triad → Triad) : (Dev.modTriad t g d).cmps = d.cmps := rfl
@[simp] theorem Dev.modTriad_trps (d : Dev) (t : Nat) (g : Triad → Triad) : (Dev.modTriad t g d).trps = d.trps := rfl
@[simp] theorem Dev.modTriad_cascs (d : Dev) (t : Nat) (g : Triad → Triad) : (Dev.modTriad t g d).cascs = d.cascs := rfl
@[simp] theorem Dev.modTriad_pairs (d : Dev) (t : Nat) (g : Triad → Triad) : (Dev.modTriad t g d).pairs = d.pairs := rfl
@[simp] theorem Dev.modTriad_words (d : Dev) (t : Nat) (g : Triad → Triad) : (Dev.modTriad t g d).words = d.words := rfl
@[simp] theorem Dev.modTriad_red (d : Dev) (t : Nat) (g : Triad → Triad) : (Dev.modTriad t g d).red = d.red := rfl
@[simp] theorem Dev.modTriad_safeq (d : Dev) (t : Nat) (g : Triad → Triad) : (Dev.modTriad t g d).safeq = d.safeq := rfl
@[simp] theorem Dev.modTriad_ports (d : Dev) (t : Nat) (g : Triad → Triad) : (Dev.modTriad t g d).ports = d.ports := rfl
@[simp] theorem Dev.modTriad_ques (d : Dev) (t : Nat) (g : Triad → Triad) : (Dev.modTriad t g d).ques = d.ques := rfl
@[simp] theorem Dev.modTriad_sig (d : Dev) (t : Nat) (g : Triad → Triad) : (Dev.modTriad t g d).sig = d.sig := rfl
@[simp] theorem Dev.modTriad_jrn (d : Dev) (t : Nat) (g : Triad → Triad) : (Dev.modTriad t g d).jrn = d.jrn := rfl
@[simp] theorem Dev.modTriad_lnk (d : Dev) (t : Nat) (g : Triad → Triad) : (Dev.modTriad t g d).lnk = d.lnk := rfl
@[simp] theorem Dev.modTriad_axus (d : Dev) (t : Nat) (g : Triad → Triad) : (Dev.modTriad t g d).axus = d.axus := rfl
@[simp] theorem Dev.modTriad_sents (d : Dev) (t : Nat) (g : Triad → Triad) : (Dev.modTriad t g d).sents = d.sents := rfl
@[simp] theorem Dev.modTriad_gioRaw (d : Dev) (t : Nat) (g : Triad → Triad) : (Dev.modTriad t g d).gioRaw = d.gioRaw := rfl
@[simp] theorem Dev.modTriad_cvus (d : Dev) (t : Nat) (g : Triad → Triad) : (Dev.modTriad t g d).cvus = d.cvus := rfl
@[simp] theorem Dev.modTriad_chgs (d : Dev) (t : Nat) (g : Triad → Triad) : (Dev.modTriad t g d).chgs = d.chgs := rfl
@[simp] theorem Dev.modTriad_thm (d : Dev) (t : Nat) (g : Triad → Triad) : (Dev.modTriad t g d).thm = d.thm := rfl
@[simp] theorem Dev.modTriad_bkg (d : Dev) (t : Nat) (g : Triad → Triad) : (Dev.modTriad t g d).bkg = d.bkg := rfl
@[simp] theorem Dev.modTriad_sec (d : Dev) (t : Nat) (g : Triad → Triad) : (Dev.modTriad t g d).sec = d.sec := rfl
@[simp] theorem Dev.modTriad_sup (d : Dev) (t : Nat) (g : Triad → Triad) : (Dev.modTriad t g d).sup = d.sup := rfl
@[simp] theorem Dev.modTriad_asked (d : Dev) (t : Nat) (g : Triad → Triad) : (Dev.modTriad t g d).asked = d.asked := rfl

end Sys2Proof.Machine
end

