-- ==== Sys2Proof/Laws/Tab.lean ====
section
/-! SUPPORT. Tables and register fields: a look-up after an update, and the canonical form of a table. -/

namespace Sys2Proof

/-! ## Tables -/

theorem Tab.getD_set_self {α : Type} (x : α) (k : Nat) (v : α) (t : Tab α) : Tab.getD x (Tab.set k v t) k = v := by
  induction t with
  | nil => simp [Tab.set, Tab.getD]
  | cons p r ih =>
    obtain ⟨k', v'⟩ := p
    unfold Tab.set
    split
    · simp [Tab.getD]
    · split
      · simp [Tab.getD]
      · simp_all [Tab.getD]

theorem Tab.getD_set_ne {α : Type} (x : α) (k j : Nat) (v : α) (t : Tab α) (h : j ≠ k) :
    Tab.getD x (Tab.set k v t) j = Tab.getD x t j := by
  induction t with
  | nil => simp [Tab.set, Tab.getD, h.symm]
  | cons p r ih =>
    obtain ⟨k', v'⟩ := p
    unfold Tab.set
    split
    · simp [Tab.getD, h.symm]
    · split
      · rename_i h'; subst h'; simp [Tab.getD, h.symm]
      · simp [Tab.getD, ih]

theorem Tab.getD_erase_ne {α : Type} (x : α) (k j : Nat) (t : Tab α) (h : j ≠ k) : Tab.getD x (Tab.erase k t) j = Tab.getD x t j := by
  induction t with
  | nil => rfl
  | cons p r ih =>
    obtain ⟨k', v'⟩ := p
    unfold Tab.erase
    split
    · rename_i h'; subst h'; simp [Tab.getD, ih, h.symm]
    · simp [Tab.getD, ih]

theorem Tab.getD_erase_self {α : Type} (x : α) (k : Nat) (t : Tab α) : Tab.getD x (Tab.erase k t) k = x := by
  induction t with
  | nil => rfl
  | cons p r ih =>
    obtain ⟨k', v'⟩ := p
    unfold Tab.erase
    split
    · exact ih
    · simp [Tab.getD, *]

/-- Of two updates of one key the later one stands. -/
theorem Tab.set_set {α : Type} (k : Nat) (v w : α) (t : Tab α) : Tab.set k w (Tab.set k v t) = Tab.set k w t := by
  induction t with
  | nil => simp [Tab.set]
  | cons p r ih =>
    obtain ⟨k', v'⟩ := p
    by_cases h1 : k < k'
    · simp [Tab.set, h1]
    · by_cases h2 : k' = k
      · subst h2; simp [Tab.set]
      · simp [Tab.set, h1, h2, ih]

/-- Keys strictly rising, as a chain. -/
theorem Tab.wf_iff {α : Type} (t : Tab α) : Tab.wf t = true ↔ t.Pairwise (fun p q => p.1 < q.1) := by
  induction t with
  | nil => simp [Tab.wf]
  | cons p r ih =>
    cases r with
    | nil => simp [Tab.wf]
    | cons q r =>
      have : Tab.wf (p :: q :: r) = (decide (p.1 < q.1) && Tab.wf (q :: r)) := by simp [Tab.wf]
      rw [this, Bool.and_eq_true, ih, decide_eq_true_eq]
      constructor
      · rintro ⟨h, hp⟩
        refine List.pairwise_cons.2 ⟨fun x hx => ?_, hp⟩
        rcases List.mem_cons.1 hx with rfl | hx
        · exact h
        · exact Nat.lt_trans h ((List.pairwise_cons.1 hp).1 x hx)
      · intro hp
        obtain ⟨h, hp⟩ := List.pairwise_cons.1 hp
        exact ⟨h q (by simp), hp⟩

theorem Tab.mem_set {α : Type} {k : Nat} {v : α} {t : Tab α} {q : Nat × α} (h : q ∈ Tab.set k v t) : q = (k, v) ∨ q ∈ t := by
  induction t with
  | nil => simpa [Tab.set] using h
  | cons p r ih =>
    obtain ⟨k', v'⟩ := p
    unfold Tab.set at h
    split at h
    · rcases List.mem_cons.1 h with h | h
      · exact Or.inl h
      · exact Or.inr h
    · split at h
      · rcases List.mem_cons.1 h with h | h
        · exact Or.inl h
        · exact Or.inr (by simp [h])
      · rcases List.mem_cons.1 h with h | h
        · exact Or.inr (by simp [h])
        · rcases ih h with h | h
          · exact Or.inl h
          · exact Or.inr (by simp [h])

theorem Tab.mem_erase {α : Type} {k : Nat} {t : Tab α} {q : Nat × α} (h : q ∈ Tab.erase k t) : q ∈ t := by
  induction t with
  | nil => simp [Tab.erase] at h
  | cons p r ih =>
    obtain ⟨k', v'⟩ := p
    unfold Tab.erase at h
    split at h
    · simp [ih h]
    · rcases List.mem_cons.1 h with h | h
      · simp [h]
      · simp [ih h]

/-- An update keeps the keys rising. -/
theorem Tab.wf_set {α : Type} (k : Nat) (v : α) (t : Tab α) (h : Tab.wf t = true) : Tab.wf (Tab.set k v t) = true := by
  rw [Tab.wf_iff] at *
  induction t with
  | nil => simp [Tab.set]
  | cons p r ih =>
    obtain ⟨k', v'⟩ := p
    have hr := (List.pairwise_cons.1 h).2
    have hp := (List.pairwise_cons.1 h).1
    unfold Tab.set
    split
    · refine List.pairwise_cons.2 ⟨fun x hx => ?_, h⟩
      rcases List.mem_cons.1 hx with rfl | hx
      · assumption
      · exact Nat.lt_trans ‹_› (hp x hx)
    · split
      · rename_i h'; subst h'
        exact List.pairwise_cons.2 ⟨fun x hx => hp x hx, hr⟩
      · refine List.pairwise_cons.2 ⟨fun x hx => ?_, ih hr⟩
        rcases Tab.mem_set hx with rfl | hx
        · change k' < k; omega
        · exact hp x hx

/-- So does the removal of a key. -/
theorem Tab.wf_erase {α : Type} (k : Nat) (t : Tab α) (h : Tab.wf t = true) : Tab.wf (Tab.erase k t) = true := by
  rw [Tab.wf_iff] at *
  induction t with
  | nil => simp [Tab.erase]
  | cons p r ih =>
    obtain ⟨k', v'⟩ := p
    have hr := (List.pairwise_cons.1 h).2
    have hp := (List.pairwise_cons.1 h).1
    unfold Tab.erase
    split
    · exact ih hr
    · exact List.pairwise_cons.2 ⟨fun x hx => hp x (Tab.mem_erase hx), ih hr⟩

/-- And so does a choice among the entries. -/
theorem Tab.wf_filter {α : Type} (f : Nat × α → Bool) (t : Tab α) (h : Tab.wf t = true) : Tab.wf (t.filter f) = true := by
  rw [Tab.wf_iff] at *
  exact h.filter f

/-! ## Fields of a word -/

theorem testBit_bitsOf (x lo wd i : Nat) : (bitsOf x lo wd).testBit i = (decide (i < wd) && x.testBit (lo + i)) := by
  simp [bitsOf, Nat.testBit_mod_two_pow, Nat.testBit_shiftRight]

theorem testBit_withBits (x lo wd v i : Nat) :
    (withBits x lo wd v).testBit i = if lo ≤ i ∧ i < lo + wd then v.testBit (i - lo) else x.testBit i := by
  have key : withBits x lo wd v = x / 2 ^ (lo + wd) * 2 ^ (lo + wd) + (v % 2 ^ wd) * 2 ^ lo + x % 2 ^ lo := by
    unfold withBits bitsOf
    simp only [Nat.shiftRight_eq_div_pow]
    have h1 : x = 2 ^ lo * (x / 2 ^ lo) + x % 2 ^ lo := (Nat.div_add_mod x _).symm
    have h2 : x / 2 ^ lo = 2 ^ wd * (x / 2 ^ lo / 2 ^ wd) + x / 2 ^ lo % 2 ^ wd := (Nat.div_add_mod _ _).symm
    have h3 : x / 2 ^ (lo + wd) = x / 2 ^ lo / 2 ^ wd := by rw [Nat.pow_add, Nat.div_div_eq_div_mul]
    have h4 : x = x / 2 ^ (lo + wd) * 2 ^ (lo + wd) + x / 2 ^ lo % 2 ^ wd * 2 ^ lo + x % 2 ^ lo := by
      rw [h3, Nat.pow_add]
      calc x = 2 ^ lo * (x / 2 ^ lo) + x % 2 ^ lo := h1
        _ = 2 ^ lo * (2 ^ wd * (x / 2 ^ lo / 2 ^ wd) + x / 2 ^ lo % 2 ^ wd) + x % 2 ^ lo := by rw [← h2]
        _ = _ := by simp only [Nat.mul_add, Nat.mul_comm, Nat.mul_left_comm]
    omega
  have hlow : x % 2 ^ lo < 2 ^ lo := Nat.mod_lt _ (Nat.two_pow_pos lo)
  have hmid : v % 2 ^ wd < 2 ^ wd := Nat.mod_lt _ (Nat.two_pow_pos wd)
  have e1 : withBits x lo wd v = 2 ^ lo * (2 ^ wd * (x / 2 ^ (lo + wd)) + v % 2 ^ wd) + x % 2 ^ lo := by
    rw [key, Nat.pow_add]
    simp only [Nat.mul_add, Nat.mul_assoc, Nat.mul_comm]
  rw [e1, Nat.testBit_two_pow_mul_add _ hlow]
  by_cases h : i < lo
  · rw [if_pos h, if_neg (by omega), Nat.testBit_mod_two_pow]; simp [h]
  · rw [if_neg h, Nat.testBit_two_pow_mul_add _ hmid]
    by_cases h' : i - lo < wd
    · rw [if_pos h', if_pos (by omega), Nat.testBit_mod_two_pow]; simp [h']
    · rw [if_neg h', if_neg (by omega), Nat.testBit_div_two_pow]; congr 1; omega

theorem bitsOf_withBits_self (x lo wd v : Nat) : bitsOf (withBits x lo wd v) lo wd = v % 2 ^ wd := by
  apply Nat.eq_of_testBit_eq
  intro i
  rw [testBit_bitsOf, testBit_withBits, Nat.testBit_mod_two_pow]
  by_cases hi : i < wd
  · rw [if_pos (by omega)]; simp [hi]
  · simp [hi]

theorem bitsOf_withBits_disjoint (x lo wd v lo' wd' : Nat) (h : lo + wd ≤ lo' ∨ lo' + wd' ≤ lo) :
    bitsOf (withBits x lo wd v) lo' wd' = bitsOf x lo' wd' := by
  apply Nat.eq_of_testBit_eq
  intro i
  rw [testBit_bitsOf, testBit_bitsOf, testBit_withBits]
  by_cases hi : i < wd'
  · rw [if_neg (by omega)]
  · simp [hi]

theorem withBits_lt (x lo wd v : Nat) (hx : x < 2 ^ 32) (h : lo + wd ≤ 32) : withBits x lo wd v < 2 ^ 32 := by
  apply Nat.lt_pow_two_of_testBit
  intro i hi
  rw [testBit_withBits, if_neg (by omega)]
  exact Nat.testBit_lt_two_pow (Nat.lt_of_lt_of_le hx (Nat.pow_le_pow_right (by decide) hi))

theorem W.toNat_setFld (w : W) (f : Fld) (v : Nat) (h : f.lo + f.wd ≤ 32) :
    (w.setFld f v).toNat = withBits w.toNat f.lo f.wd v := by
  simp only [W.setFld, BitVec.toNat_ofNat]
  exact Nat.mod_eq_of_lt (withBits_lt _ _ _ _ w.isLt h)

/-- A field reads what was set into it. -/
theorem W.fld_setFld (w : W) (f : Fld) (v : Nat) (h : f.lo + f.wd ≤ 32) : (w.setFld f v).fld f = v % 2 ^ f.wd := by
  rw [W.fld, W.toNat_setFld w f v h, bitsOf_withBits_self]

/-- A field that does not overlap the one set is unchanged. -/
theorem W.fld_setFld_ne (w : W) (f g : Fld) (v : Nat) (h : f.lo + f.wd ≤ 32) (hd : f.lo + f.wd ≤ g.lo ∨ g.lo + g.wd ≤ f.lo) :
    (w.setFld f v).fld g = w.fld g := by
  rw [W.fld, W.toNat_setFld w f v h, bitsOf_withBits_disjoint _ _ _ _ _ _ hd, W.fld]

theorem W.bit_setFld (w : W) (f : Fld) (v i : Nat) (h : f.lo + f.wd ≤ 32) :
    (w.setFld f v).bit i = if f.lo ≤ i ∧ i < f.lo + f.wd then v.testBit (i - f.lo) else w.bit i := by
  rw [W.bit, W.toNat_setFld w f v h, testBit_withBits, W.bit]

theorem W.bit_setBit (w : W) (i j : Nat) (b : Bool) (h : i < 32) : (w.setBit i b).bit j = if j = i then b else w.bit j := by
  rw [W.setBit, W.bit_setFld _ _ _ _ (by show i + 1 ≤ 32; omega)]
  by_cases hj : j = i
  · subst hj; cases b <;> simp
  · rw [if_neg (by simp; omega), if_neg hj]

end Sys2Proof
end

