-- ==== Sys2Proof/Laws/Ops.lean ====
section
/-! SUPPORT. Registers after the operations that write them, memory after a store, and what recording an event leaves. -/

namespace Sys2Proof.Machine

/-! ## Registers -/

theorem Dev.rd_wr (d : Dev) (a b : Nat) (v : W) : (d.wr a v).rd b = if b = a then v else d.rd b := by
  unfold Dev.rd Dev.wr
  split
  · rename_i h; subst h; exact Tab.getD_set_self _ _ _ _
  · rename_i h; exact Tab.getD_set_ne _ _ _ _ _ h

@[simp] theorem Dev.rd_wr_self (d : Dev) (a : Nat) (v : W) : (d.wr a v).rd a = v := by simp [Dev.rd_wr]
@[simp] theorem Dev.rd_wr_ne (d : Dev) (a b : Nat) (v : W) (h : b ≠ a) : (d.wr a v).rd b = d.rd b := by simp [Dev.rd_wr, h]
@[simp] theorem Dev.fld_wr_ne (d : Dev) (a b : Nat) (f : Fld) (v : W) (h : b ≠ a) : (d.wr a v).fld b f = d.fld b f := by
  simp [Dev.fld, Dev.rd_wr, h]
@[simp] theorem Dev.isSet_wr_ne (d : Dev) (a b : Nat) (f : Fld) (v : W) (h : b ≠ a) : (d.wr a v).isSet b f = d.isSet b f := by
  simp [Dev.isSet, Dev.fld_wr_ne _ _ _ _ _ h]

@[simp] theorem Dev.rd_setF_ne (d : Dev) (a b : Nat) (f : Fld) (v : Nat) (h : b ≠ a) : (d.setF a f v).rd b = d.rd b :=
  Dev.rd_wr_ne _ _ _ _ h
@[simp] theorem Dev.fld_setF_ne (d : Dev) (a b : Nat) (f g : Fld) (v : Nat) (h : b ≠ a) : (d.setF a f v).fld b g = d.fld b g :=
  Dev.fld_wr_ne _ _ _ _ _ h
@[simp] theorem Dev.isSet_setF_ne (d : Dev) (a b : Nat) (f g : Fld) (v : Nat) (h : b ≠ a) : (d.setF a f v).isSet b g = d.isSet b g :=
  Dev.isSet_wr_ne _ _ _ _ _ h

/-- A field reads what was set into it. -/
@[simp] theorem Dev.fld_setF_self (d : Dev) (a : Nat) (f : Fld) (v : Nat) (h : f.lo + f.wd ≤ 32) : (d.setF a f v).fld a f = v % 2 ^ f.wd := by
  simp [Dev.fld, Dev.setF, W.fld_setFld _ _ _ h]
@[simp] theorem Dev.isSet_setF_self (d : Dev) (a : Nat) (f : Fld) (v : Nat) (h : f.lo + f.wd ≤ 32) :
    (d.setF a f v).isSet a f = decide (v % 2 ^ f.wd ≠ 0) := by
  simp [Dev.isSet, Dev.fld_setF_self _ _ _ _ h]
/-- Another field of the same register is unchanged. -/
@[simp] theorem Dev.fld_setF_field (d : Dev) (a : Nat) (f g : Fld) (v : Nat) (h : f.lo + f.wd ≤ 32)
    (hd : f.lo + f.wd ≤ g.lo ∨ g.lo + g.wd ≤ f.lo) : (d.setF a f v).fld a g = d.fld a g := by
  simp [Dev.fld, Dev.setF, W.fld_setFld_ne _ _ _ _ h hd]
@[simp] theorem Dev.isSet_setF_field (d : Dev) (a : Nat) (f g : Fld) (v : Nat) (h : f.lo + f.wd ≤ 32)
    (hd : f.lo + f.wd ≤ g.lo ∨ g.lo + g.wd ≤ f.lo) : (d.setF a f v).isSet a g = d.isSet a g := by
  simp [Dev.isSet, Dev.fld_setF_field _ _ _ _ _ h hd]

theorem Dev.bit_putBit (d : Dev) (a i j : Nat) (x : Bool) (h : i < 32) :
    (d.putBit a i x).bit a j = if j = i then x else d.bit a j := by
  simp [Dev.bit, Dev.putBit, W.bit_setBit _ _ _ _ h]
@[simp] theorem Dev.rd_inc32_self (d : Dev) (a : Nat) : (d.inc32 a).rd a = d.rd a + 1 := by simp [Dev.inc32]
@[simp] theorem Dev.fld_incSat_self (d : Dev) (a : Nat) (f : Fld) (h : f.lo + f.wd ≤ 32) :
    (d.incSat a f).fld a f = satAdd f.wd (d.fld a f) 1 % 2 ^ f.wd := Dev.fld_setF_self _ _ _ _ h
@[simp] theorem Dev.sysState_setSys (d : Dev) (st : Nat) : (d.setSys st).sysState = st % 16 := by
  have : SYS_STATE_STATE.lo + SYS_STATE_STATE.wd ≤ 32 := by decide
  simp only [Dev.sysState, Dev.setSys, Dev.fld_setF_self _ _ _ _ this, SYS_STATE_STATE, Nat.reducePow]
@[simp] theorem Dev.rd_putBit_ne (d : Dev) (a i : Nat) (x : Bool) (b : Nat) (h0 : b ≠ a) : (d.putBit a i x).rd b = d.rd b := Dev.rd_wr_ne _ _ _ _ h0
@[simp] theorem Dev.fld_putBit_ne (d : Dev) (a i : Nat) (x : Bool) (b : Nat) (g : Fld) (h0 : b ≠ a) : (d.putBit a i x).fld b g = d.fld b g := by
  simp [Dev.fld, Dev.rd_putBit_ne d a i x b h0]
@[simp] theorem Dev.isSet_putBit_ne (d : Dev) (a i : Nat) (x : Bool) (b : Nat) (g : Fld) (h0 : b ≠ a) : (d.putBit a i x).isSet b g = d.isSet b g := by
  simp [Dev.isSet, Dev.fld_putBit_ne d a i x b g h0]
@[simp] theorem Dev.bit_putBit_ne (d : Dev) (a i : Nat) (x : Bool) (b i' : Nat) (h0 : b ≠ a) : (d.putBit a i x).bit b i' = d.bit b i' := by
  simp [Dev.bit, Dev.rd_putBit_ne d a i x b h0]
@[simp] theorem Dev.rd_addSat_ne (d : Dev) (a : Nat) (f : Fld) (k : Nat) (b : Nat) (h0 : b ≠ a) : (d.addSat a f k).rd b = d.rd b := Dev.rd_wr_ne _ _ _ _ h0
@[simp] theorem Dev.fld_addSat_ne (d : Dev) (a : Nat) (f : Fld) (k : Nat) (b : Nat) (g : Fld) (h0 : b ≠ a) : (d.addSat a f k).fld b g = d.fld b g := by
  simp [Dev.fld, Dev.rd_addSat_ne d a f k b h0]
@[simp] theorem Dev.isSet_addSat_ne (d : Dev) (a : Nat) (f : Fld) (k : Nat) (b : Nat) (g : Fld) (h0 : b ≠ a) : (d.addSat a f k).isSet b g = d.isSet b g := by
  simp [Dev.isSet, Dev.fld_addSat_ne d a f k b g h0]
@[simp] theorem Dev.bit_addSat_ne (d : Dev) (a : Nat) (f : Fld) (k : Nat) (b i' : Nat) (h0 : b ≠ a) : (d.addSat a f k).bit b i' = d.bit b i' := by
  simp [Dev.bit, Dev.rd_addSat_ne d a f k b h0]
@[simp] theorem Dev.rd_incSat_ne (d : Dev) (a : Nat) (f : Fld) (b : Nat) (h0 : b ≠ a) : (d.incSat a f).rd b = d.rd b := Dev.rd_wr_ne _ _ _ _ h0
@[simp] theorem Dev.fld_incSat_ne (d : Dev) (a : Nat) (f : Fld) (b : Nat) (g : Fld) (h0 : b ≠ a) : (d.incSat a f).fld b g = d.fld b g := by
  simp [Dev.fld, Dev.rd_incSat_ne d a f b h0]
@[simp] theorem Dev.isSet_incSat_ne (d : Dev) (a : Nat) (f : Fld) (b : Nat) (g : Fld) (h0 : b ≠ a) : (d.incSat a f).isSet b g = d.isSet b g := by
  simp [Dev.isSet, Dev.fld_incSat_ne d a f b g h0]
@[simp] theorem Dev.bit_incSat_ne (d : Dev) (a : Nat) (f : Fld) (b i' : Nat) (h0 : b ≠ a) : (d.incSat a f).bit b i' = d.bit b i' := by
  simp [Dev.bit, Dev.rd_incSat_ne d a f b h0]
@[simp] theorem Dev.rd_inc32_ne (d : Dev) (a : Nat) (b : Nat) (h0 : b ≠ a) : (d.inc32 a).rd b = d.rd b := Dev.rd_wr_ne _ _ _ _ h0
@[simp] theorem Dev.fld_inc32_ne (d : Dev) (a : Nat) (b : Nat) (g : Fld) (h0 : b ≠ a) : (d.inc32 a).fld b g = d.fld b g := by
  simp [Dev.fld, Dev.rd_inc32_ne d a b h0]
@[simp] theorem Dev.isSet_inc32_ne (d : Dev) (a : Nat) (b : Nat) (g : Fld) (h0 : b ≠ a) : (d.inc32 a).isSet b g = d.isSet b g := by
  simp [Dev.isSet, Dev.fld_inc32_ne d a b g h0]
@[simp] theorem Dev.bit_inc32_ne (d : Dev) (a : Nat) (b i' : Nat) (h0 : b ≠ a) : (d.inc32 a).bit b i' = d.bit b i' := by
  simp [Dev.bit, Dev.rd_inc32_ne d a b h0]
@[simp] theorem Dev.rd_wr64_ne (d : Dev) (lo hi : Nat) (v : BitVec 64) (b : Nat) (h0 : b ≠ lo) (h1 : b ≠ hi) : (d.wr64 lo hi v).rd b = d.rd b := by
  simp [Dev.wr64, h0, h1]
@[simp] theorem Dev.fld_wr64_ne (d : Dev) (lo hi : Nat) (v : BitVec 64) (b : Nat) (g : Fld) (h0 : b ≠ lo) (h1 : b ≠ hi) : (d.wr64 lo hi v).fld b g = d.fld b g := by
  simp [Dev.fld, Dev.rd_wr64_ne d lo hi v b h0 h1]
@[simp] theorem Dev.isSet_wr64_ne (d : Dev) (lo hi : Nat) (v : BitVec 64) (b : Nat) (g : Fld) (h0 : b ≠ lo) (h1 : b ≠ hi) : (d.wr64 lo hi v).isSet b g = d.isSet b g := by
  simp [Dev.isSet, Dev.fld_wr64_ne d lo hi v b g h0 h1]
@[simp] theorem Dev.bit_wr64_ne (d : Dev) (lo hi : Nat) (v : BitVec 64) (b i' : Nat) (h0 : b ≠ lo) (h1 : b ≠ hi) : (d.wr64 lo hi v).bit b i' = d.bit b i' := by
  simp [Dev.bit, Dev.rd_wr64_ne d lo hi v b h0 h1]
@[simp] theorem Dev.rd_setSys_ne (d : Dev) (st : Nat) (b : Nat) (h0 : b ≠ SYS_STATE) : (d.setSys st).rd b = d.rd b := Dev.rd_setF_ne _ _ _ _ _ h0
@[simp] theorem Dev.fld_setSys_ne (d : Dev) (st : Nat) (b : Nat) (g : Fld) (h0 : b ≠ SYS_STATE) : (d.setSys st).fld b g = d.fld b g := by
  simp [Dev.fld, Dev.rd_setSys_ne d st b h0]
@[simp] theorem Dev.isSet_setSys_ne (d : Dev) (st : Nat) (b : Nat) (g : Fld) (h0 : b ≠ SYS_STATE) : (d.setSys st).isSet b g = d.isSet b g := by
  simp [Dev.isSet, Dev.fld_setSys_ne d st b g h0]
@[simp] theorem Dev.bit_setSys_ne (d : Dev) (st : Nat) (b i' : Nat) (h0 : b ≠ SYS_STATE) : (d.setSys st).bit b i' = d.bit b i' := by
  simp [Dev.bit, Dev.rd_setSys_ne d st b h0]
@[simp] theorem Dev.bit_wr_ne (d : Dev) (a : Nat) (v : W) (b i : Nat) (h : b ≠ a) : (d.wr a v).bit b i = d.bit b i := by
  simp [Dev.bit, Dev.rd_wr_ne _ _ _ _ h]
@[simp] theorem Dev.bit_setF_ne (d : Dev) (a : Nat) (f : Fld) (v : Nat) (b i : Nat) (h : b ≠ a) : (d.setF a f v).bit b i = d.bit b i := by
  simp [Dev.bit, Dev.rd_setF_ne _ _ _ _ _ h]
@[simp] theorem Dev.sysState_wr (d : Dev) (a : Nat) (v : W) (h : SYS_STATE ≠ a) : (d.wr a v).sysState = d.sysState := Dev.fld_wr_ne _ _ _ _ _ h
@[simp] theorem Dev.inRun_wr (d : Dev) (a : Nat) (v : W) (h : SYS_STATE ≠ a) : (d.wr a v).inRun = d.inRun := by
  simp [Dev.inRun, Dev.sysState_wr d a v h]
@[simp] theorem Dev.sysState_setF (d : Dev) (a : Nat) (f : Fld) (v : Nat) (h : SYS_STATE ≠ a) : (d.setF a f v).sysState = d.sysState := Dev.fld_wr_ne _ _ _ _ _ h

/-- The word of a register depends on the register table alone. -/
theorem Dev.rd_congr {d e : Dev} (h : d.regs = e.regs) (a : Nat) : d.rd a = e.rd a := by simp [Dev.rd, h]

/-! A field of the state beside the register table has no part in what a register shows. -/

@[simp] theorem Dev.rd_mk (X : Dev) {x0 x1 x2 x3 x5 x6 x7 x8 x9 x10 x11 x12 x13 x14 x15 x16 x17 x18 x19 x20 x21 x22 x23 x24 x25 x26 x27 x28 x29 x30 x31 x32 x33 x34 x35 x36 x37 x38 x39 x40 x41 x42} (a : Nat) : (Dev.mk x0 x1 x2 x3 X.regs x5 x6 x7 x8 x9 x10 x11 x12 x13 x14 x15 x16 x17 x18 x19 x20 x21 x22 x23 x24 x25 x26 x27 x28 x29 x30 x31 x32 x33 x34 x35 x36 x37 x38 x39 x40 x41 x42).rd a = X.rd a := rfl
@[simp] theorem Dev.fld_mk (X : Dev) {x0 x1 x2 x3 x5 x6 x7 x8 x9 x10 x11 x12 x13 x14 x15 x16 x17 x18 x19 x20 x21 x22 x23 x24 x25 x26 x27 x28 x29 x30 x31 x32 x33 x34 x35 x36 x37 x38 x39 x40 x41 x42} (a : Nat) (f : Fld) : (Dev.mk x0 x1 x2 x3 X.regs x5 x6 x7 x8 x9 x10 x11 x12 x13 x14 x15 x16 x17 x18 x19 x20 x21 x22 x23 x24 x25 x26 x27 x28 x29 x30 x31 x32 x33 x34 x35 x36 x37 x38 x39 x40 x41 x42).fld a f = X.fld a f := rfl
@[simp] theorem Dev.isSet_mk (X : Dev) {x0 x1 x2 x3 x5 x6 x7 x8 x9 x10 x11 x12 x13 x14 x15 x16 x17 x18 x19 x20 x21 x22 x23 x24 x25 x26 x27 x28 x29 x30 x31 x32 x33 x34 x35 x36 x37 x38 x39 x40 x41 x42} (a : Nat) (f : Fld) : (Dev.mk x0 x1 x2 x3 X.regs x5 x6 x7 x8 x9 x10 x11 x12 x13 x14 x15 x16 x17 x18 x19 x20 x21 x22 x23 x24 x25 x26 x27 x28 x29 x30 x31 x32 x33 x34 x35 x36 x37 x38 x39 x40 x41 x42).isSet a f = X.isSet a f := rfl
@[simp] theorem Dev.bit_mk (X : Dev) {x0 x1 x2 x3 x5 x6 x7 x8 x9 x10 x11 x12 x13 x14 x15 x16 x17 x18 x19 x20 x21 x22 x23 x24 x25 x26 x27 x28 x29 x30 x31 x32 x33 x34 x35 x36 x37 x38 x39 x40 x41 x42} (a i : Nat) : (Dev.mk x0 x1 x2 x3 X.regs x5 x6 x7 x8 x9 x10 x11 x12 x13 x14 x15 x16 x17 x18 x19 x20 x21 x22 x23 x24 x25 x26 x27 x28 x29 x30 x31 x32 x33 x34 x35 x36 x37 x38 x39 x40 x41 x42).bit a i = X.bit a i := rfl
@[simp] theorem Dev.rdOwn_mk (X : Dev) {x0 x1 x2 x3 x5 x6 x7 x8 x9 x10 x11 x12 x13 x14 x15 x16 x17 x18 x19 x20 x21 x22 x23 x24 x25 x26 x27 x28 x29 x30 x31 x32 x33 x34 x35 x36 x37 x38 x39 x40 x41 x42} (t a : Nat) : (Dev.mk x0 x1 x2 x3 X.regs x5 x6 x7 x8 x9 x10 x11 x12 x13 x14 x15 x16 x17 x18 x19 x20 x21 x22 x23 x24 x25 x26 x27 x28 x29 x30 x31 x32 x33 x34 x35 x36 x37 x38 x39 x40 x41 x42).rdOwn t a = X.rdOwn t a := rfl
@[simp] theorem Dev.rd64_mk (X : Dev) {x0 x1 x2 x3 x5 x6 x7 x8 x9 x10 x11 x12 x13 x14 x15 x16 x17 x18 x19 x20 x21 x22 x23 x24 x25 x26 x27 x28 x29 x30 x31 x32 x33 x34 x35 x36 x37 x38 x39 x40 x41 x42} (lo hi : Nat) : (Dev.mk x0 x1 x2 x3 X.regs x5 x6 x7 x8 x9 x10 x11 x12 x13 x14 x15 x16 x17 x18 x19 x20 x21 x22 x23 x24 x25 x26 x27 x28 x29 x30 x31 x32 x33 x34 x35 x36 x37 x38 x39 x40 x41 x42).rd64 lo hi = X.rd64 lo hi := rfl
@[simp] theorem Dev.sysState_mk (X : Dev) {x0 x1 x2 x3 x5 x6 x7 x8 x9 x10 x11 x12 x13 x14 x15 x16 x17 x18 x19 x20 x21 x22 x23 x24 x25 x26 x27 x28 x29 x30 x31 x32 x33 x34 x35 x36 x37 x38 x39 x40 x41 x42}  : (Dev.mk x0 x1 x2 x3 X.regs x5 x6 x7 x8 x9 x10 x11 x12 x13 x14 x15 x16 x17 x18 x19 x20 x21 x22 x23 x24 x25 x26 x27 x28 x29 x30 x31 x32 x33 x34 x35 x36 x37 x38 x39 x40 x41 x42).sysState  = X.sysState  := rfl
@[simp] theorem Dev.inRun_mk (X : Dev) {x0 x1 x2 x3 x5 x6 x7 x8 x9 x10 x11 x12 x13 x14 x15 x16 x17 x18 x19 x20 x21 x22 x23 x24 x25 x26 x27 x28 x29 x30 x31 x32 x33 x34 x35 x36 x37 x38 x39 x40 x41 x42}  : (Dev.mk x0 x1 x2 x3 X.regs x5 x6 x7 x8 x9 x10 x11 x12 x13 x14 x15 x16 x17 x18 x19 x20 x21 x22 x23 x24 x25 x26 x27 x28 x29 x30 x31 x32 x33 x34 x35 x36 x37 x38 x39 x40 x41 x42).inRun  = X.inRun  := rfl
@[simp] theorem Dev.locked_mk (X : Dev) {x0 x1 x2 x3 x5 x6 x7 x8 x9 x10 x11 x12 x13 x14 x15 x16 x17 x18 x19 x20 x21 x22 x23 x24 x25 x26 x27 x28 x29 x30 x31 x32 x33 x34 x35 x36 x37 x38 x39 x40 x41 x42}  : (Dev.mk x0 x1 x2 x3 X.regs x5 x6 x7 x8 x9 x10 x11 x12 x13 x14 x15 x16 x17 x18 x19 x20 x21 x22 x23 x24 x25 x26 x27 x28 x29 x30 x31 x32 x33 x34 x35 x36 x37 x38 x39 x40 x41 x42).locked  = X.locked  := rfl
@[simp] theorem Dev.epoch_mk (X : Dev) {x0 x1 x2 x3 x5 x6 x7 x8 x9 x10 x11 x12 x13 x14 x15 x16 x17 x18 x19 x20 x21 x22 x23 x24 x25 x26 x27 x28 x29 x30 x31 x32 x33 x34 x35 x36 x37 x38 x39 x40 x41 x42}  : (Dev.mk x0 x1 x2 x3 X.regs x5 x6 x7 x8 x9 x10 x11 x12 x13 x14 x15 x16 x17 x18 x19 x20 x21 x22 x23 x24 x25 x26 x27 x28 x29 x30 x31 x32 x33 x34 x35 x36 x37 x38 x39 x40 x41 x42).epoch  = X.epoch  := rfl

/-! ## Memory -/

theorem Mem.get_put (dflt b : Byte) (m : Mem) (a x : Nat) : Mem.get dflt (Mem.put dflt a b m) x = if x = a then b else Mem.get dflt m x := by
  unfold Mem.get Mem.put
  by_cases hb : b = dflt
  · rw [if_pos hb]
    by_cases hx : x = a
    · subst hx; simp [Tab.getD_erase_self, hb]
    · simp [hx, Tab.getD_erase_ne _ _ _ _ hx]
  · rw [if_neg hb]
    by_cases hx : x = a
    · subst hx; simp [Tab.getD_set_self]
    · simp [hx, Tab.getD_set_ne _ _ _ _ _ hx]

/-- A byte outside the bytes stored reads as before; inside, it reads the byte stored. -/
theorem Mem.get_putN (dflt : Byte) (bs : List Byte) : ∀ (m : Mem) (a x : Nat),
    Mem.get dflt (Mem.putN dflt a bs m) x = if a ≤ x ∧ x < a + bs.length then bs.getD (x - a) 0 else Mem.get dflt m x := by
  induction bs with
  | nil => intro m a x; simp [Mem.putN] <;> omega
  | cons b r ih =>
    intro m a x
    rw [Mem.putN, ih, Mem.get_put]
    by_cases h1 : x = a
    · subst h1
      rw [if_pos rfl, if_neg (by omega), if_pos (by simp only [List.length_cons]; omega), Nat.sub_self, List.getD_cons_zero]
    · rw [if_neg h1]
      by_cases h2 : a + 1 ≤ x ∧ x < a + 1 + r.length
      · rw [if_pos h2, if_pos (by simp only [List.length_cons]; omega)]
        obtain ⟨k, rfl⟩ : ∃ k, x = a + 1 + k := ⟨x - (a + 1), by omega⟩
        have e1 : a + 1 + k - (a + 1) = k := by omega
        have e2 : a + 1 + k - a = k + 1 := by omega
        rw [e1, e2, List.getD_cons_succ]
      · rw [if_neg h2, if_neg (by simp only [List.length_cons]; omega)]

theorem Mem.wf_put (dflt b : Byte) (a : Nat) (m : Mem) (h : Mem.wf dflt m = true) : Mem.wf dflt (Mem.put dflt a b m) = true := by
  unfold Mem.wf at *
  rw [Bool.and_eq_true, List.all_eq_true] at *
  obtain ⟨h1, h2⟩ := h
  unfold Mem.put
  split
  · exact ⟨Tab.wf_erase _ _ h1, fun p hp => h2 p (Tab.mem_erase hp)⟩
  · rename_i hb
    refine ⟨Tab.wf_set _ _ _ h1, fun p hp => ?_⟩
    rcases Tab.mem_set hp with rfl | hp
    · simpa using hb
    · exact h2 p hp

/-- A store keeps the canonical form. -/
theorem Mem.wf_putN (dflt : Byte) (bs : List Byte) : ∀ (a : Nat) (m : Mem), Mem.wf dflt m = true → Mem.wf dflt (Mem.putN dflt a bs m) = true := by
  induction bs with
  | nil => intro a m h; exact h
  | cons b r ih => intro a m h; exact ih _ _ (Mem.wf_put _ _ _ _ h)

theorem Mem.wf_putWord (a : Nat) (v : W) (m : Mem) (h : Mem.wf 0 m = true) : Mem.wf 0 (Mem.putWord a v m) = true := Mem.wf_putN _ _ _ _ h

/-- So does an erasure. -/
theorem Mem.wf_filter (dflt : Byte) (f : Host.Cell → Bool) (m : Mem) (h : Mem.wf dflt m = true) : Mem.wf dflt (m.filter f) = true := by
  unfold Mem.wf at *
  rw [Bool.and_eq_true, List.all_eq_true] at *
  exact ⟨Tab.wf_filter _ _ h.1, fun p hp => h.2 p (List.mem_filter.1 hp).1⟩

@[simp] theorem Mem.wf_nil (dflt : Byte) : Mem.wf dflt [] = true := rfl

/-! ## Events -/

/-- What recording an event may change: registers, the log, the Gale records, the rates and the safety queue. -/
def Dev.calm (d e : Dev) : Prop :=
  e = { d with regs := e.regs, log := e.log, gales := e.gales, rates := e.rates, safeq := e.safeq } ∧
    ∀ a, isEvtReg a = false → e.rd a = d.rd a

theorem Dev.calm_refl (d : Dev) : d.calm d := ⟨rfl, fun _ _ => rfl⟩

theorem Dev.calm_trans {d e f : Dev} (h : d.calm e) (h' : e.calm f) : d.calm f := by
  refine ⟨?_, fun a ha => (h'.2 a ha).trans (h.2 a ha)⟩
  rw [h'.1, h.1]

theorem isEvtReg_pend0 (t : Nat) (h : t < 4) : isEvtReg (COR_EVPEND0 t) = true := by
  have : t = 0 ∨ t = 1 ∨ t = 2 ∨ t = 3 := by omega
  rcases this with rfl | rfl | rfl | rfl <;> decide
theorem isEvtReg_pend1 (t : Nat) (h : t < 4) : isEvtReg (COR_EVPEND1 t) = true := by
  have : t = 0 ∨ t = 1 ∨ t = 2 ∨ t = 3 := by omega
  rcases this with rfl | rfl | rfl | rfl <;> decide

theorem Dev.calm_wr (d : Dev) (a : Nat) (v : W) (h : isEvtReg a = true) : d.calm (d.wr a v) :=
  ⟨rfl, fun b hb => Dev.rd_wr_ne _ _ _ _ (by rintro rfl; simp [h] at hb)⟩

theorem Dev.calm_raiseLine (d : Dev) (t l : Nat) (h : t < 4) : d.calm (d.raiseLine t l) := by
  unfold Dev.raiseLine Dev.putBit
  split
  · exact Dev.calm_wr _ _ _ (isEvtReg_pend0 t h)
  · exact Dev.calm_wr _ _ _ (isEvtReg_pend1 t h)

theorem Dev.calm_dropLine (d : Dev) (t l : Nat) (h : t < 4) : d.calm (d.dropLine t l) := by
  unfold Dev.dropLine Dev.putBit
  split
  · exact Dev.calm_wr _ _ _ (isEvtReg_pend0 t h)
  · exact Dev.calm_wr _ _ _ (isEvtReg_pend1 t h)

theorem configLines_lt : ∀ p ∈ configLines, p.1 < 4 := by
  intro p hp
  simp only [configLines, List.mem_flatMap, List.mem_map, List.mem_range] at hp
  obtain ⟨t, ht, i, -, rfl⟩ := hp
  exact ht

theorem Dev.calm_foldl {α : Type} (f : Dev → α → Dev) (xs : List α) (h : ∀ d : Dev, ∀ x ∈ xs, d.calm (f d x)) (d : Dev) :
    d.calm (xs.foldl f d) := by
  induction xs generalizing d with
  | nil => exact Dev.calm_refl d
  | cons x r ih => exact Dev.calm_trans (h d x (by simp)) (ih (fun d y hy => h d y (by simp [hy])) _)

theorem Dev.calm_raiseWhere (p : Nat → W → Bool) (d : Dev) : d.calm (d.raiseWhere p) := by
  unfold Dev.raiseWhere
  refine Dev.calm_foldl _ _ (fun e x hx => ?_) d
  split
  · exact Dev.calm_raiseLine _ _ _ (configLines_lt x hx)
  · exact Dev.calm_refl e

theorem Dev.calm_logEvent (cls code src : Nat) (data : List Byte) (d : Dev) : d.calm (d.logEvent cls code src data) := by
  unfold Dev.logEvent
  refine Dev.calm_trans ?_ (Dev.calm_raiseWhere _ _)
  refine Dev.calm_trans ?_ (Dev.calm_wr _ _ _ (by decide))
  refine Dev.calm_trans ?_ (Dev.calm_wr _ _ _ (by decide))
  exact ⟨rfl, fun _ _ => rfl⟩

theorem Dev.calm_rates (d : Dev) (r : Tab RateRec) : d.calm { d with rates := r } := ⟨rfl, fun _ _ => rfl⟩

theorem Dev.calm_rated (cls code inst gap : Nat) (mk : Nat → List Byte) (d : Dev) : d.calm (d.rated cls code inst gap mk) := by
  unfold Dev.rated
  dsimp only
  repeat' split
  all_goals first
    | exact Dev.calm_rates d _
    | exact Dev.calm_trans (Dev.calm_rates d _) (Dev.calm_logEvent _ _ _ _ _)

theorem Dev.calm_toSafeq (code : Nat) (d : Dev) : d.calm (d.toSafeq code) := by
  unfold Dev.toSafeq
  split
  · exact Dev.calm_trans ⟨rfl, fun _ _ => rfl⟩ (Dev.calm_raiseLine _ _ _ (by decide))
  · exact Dev.calm_rated _ _ _ _ _ _

theorem Dev.calm_evtC (cls code src : Nat) (data : List Nat) (d : Dev) : d.calm (d.evtC cls code src data) := by
  unfold Dev.evtC
  dsimp only
  split
  · exact Dev.calm_trans (Dev.calm_logEvent _ _ _ _ _) (Dev.calm_toSafeq _ _)
  · exact Dev.calm_logEvent _ _ _ _ _

theorem Dev.calm_evt (code : Nat) (data : List Nat) (d : Dev) : d.calm (d.evt code data) := Dev.calm_evtC _ _ _ _ _

theorem Dev.calm_evtRated (code inst : Nat) (name : List Nat) (d : Dev) : d.calm (d.evtRated code inst name) := by
  unfold Dev.evtRated
  dsimp only
  split
  · exact Dev.calm_trans (Dev.calm_rated _ _ _ _ _ _) (Dev.calm_toSafeq _ _)
  · exact Dev.calm_rated _ _ _ _ _ _

theorem Dev.calm_lockedWrite (t a : Nat) (d : Dev) : d.calm (d.lockedWrite t a) := Dev.calm_evtC _ _ _ _ _
theorem Dev.calm_unmapped (t a : Nat) (w : Bool) (d : Dev) : d.calm (d.unmapped t a w) := Dev.calm_evtC _ _ _ _ _

/-! ### raiseWhere -/

@[simp] theorem Dev.rd_raiseWhere (d : Dev) (p : Nat → W → Bool) (x : Nat) (h : isEvtReg x = false) : (d.raiseWhere p).rd x = d.rd x := (Dev.calm_raiseWhere p d).2 x h
@[simp] theorem Dev.fld_raiseWhere (d : Dev) (p : Nat → W → Bool) (x : Nat) (f : Fld) (h : isEvtReg x = false) : (d.raiseWhere p).fld x f = d.fld x f := by
  simp [Dev.fld, Dev.rd_raiseWhere _ p _ h]
@[simp] theorem Dev.isSet_raiseWhere (d : Dev) (p : Nat → W → Bool) (x : Nat) (f : Fld) (h : isEvtReg x = false) : (d.raiseWhere p).isSet x f = d.isSet x f := by
  simp [Dev.isSet, Dev.fld_raiseWhere _ p _ _ h]
@[simp] theorem Dev.sysState_raiseWhere (d : Dev) (p : Nat → W → Bool) : (d.raiseWhere p).sysState = d.sysState := Dev.fld_raiseWhere _ p _ _ (by decide)
@[simp] theorem Dev.inRun_raiseWhere (d : Dev) (p : Nat → W → Bool) : (d.raiseWhere p).inRun = d.inRun := by
  simp [Dev.inRun, Dev.sysState_raiseWhere _ p]
@[simp] theorem Dev.raiseWhere_por (d : Dev) (p : Nat → W → Bool) : (d.raiseWhere p).por = d.por := by rw [(Dev.calm_raiseWhere p d).1]
@[simp] theorem Dev.raiseWhere_tk (d : Dev) (p : Nat → W → Bool) : (d.raiseWhere p).tk = d.tk := by rw [(Dev.calm_raiseWhere p d).1]
@[simp] theorem Dev.raiseWhere_cal (d : Dev) (p : Nat → W → Bool) : (d.raiseWhere p).cal = d.cal := by rw [(Dev.calm_raiseWhere p d).1]
@[simp] theorem Dev.raiseWhere_vcore (d : Dev) (p : Nat → W → Bool) : (d.raiseWhere p).vcore = d.vcore := by rw [(Dev.calm_raiseWhere p d).1]
@[simp] theorem Dev.raiseWhere_boot (d : Dev) (p : Nat → W → Bool) : (d.raiseWhere p).boot = d.boot := by rw [(Dev.calm_raiseWhere p d).1]
@[simp] theorem Dev.raiseWhere_img (d : Dev) (p : Nat → W → Bool) : (d.raiseWhere p).img = d.img := by rw [(Dev.calm_raiseWhere p d).1]
@[simp] theorem Dev.raiseWhere_flash (d : Dev) (p : Nat → W → Bool) : (d.raiseWhere p).flash = d.flash := by rw [(Dev.calm_raiseWhere p d).1]
@[simp] theorem Dev.raiseWhere_sram (d : Dev) (p : Nat → W → Bool) : (d.raiseWhere p).sram = d.sram := by rw [(Dev.calm_raiseWhere p d).1]
@[simp] theorem Dev.raiseWhere_coef (d : Dev) (p : Nat → W → Bool) : (d.raiseWhere p).coef = d.coef := by rw [(Dev.calm_raiseWhere p d).1]
@[simp] theorem Dev.raiseWhere_sigt (d : Dev) (p : Nat → W → Bool) : (d.raiseWhere p).sigt = d.sigt := by rw [(Dev.calm_raiseWhere p d).1]
@[simp] theorem Dev.raiseWhere_mram (d : Dev) (p : Nat → W → Bool) : (d.raiseWhere p).mram = d.mram := by rw [(Dev.calm_raiseWhere p d).1]
@[simp] theorem Dev.raiseWhere_legs (d : Dev) (p : Nat → W → Bool) : (d.raiseWhere p).legs = d.legs := by rw [(Dev.calm_raiseWhere p d).1]
@[simp] theorem Dev.raiseWhere_convs (d : Dev) (p : Nat → W → Bool) : (d.raiseWhere p).convs = d.convs := by rw [(Dev.calm_raiseWhere p d).1]
@[simp] theorem Dev.raiseWhere_seqs (d : Dev) (p : Nat → W → Bool) : (d.raiseWhere p).seqs = d.seqs := by rw [(Dev.calm_raiseWhere p d).1]
@[simp] theorem Dev.raiseWhere_slots (d : Dev) (p : Nat → W → Bool) : (d.raiseWhere p).slots = d.slots := by rw [(Dev.calm_raiseWhere p d).1]
@[simp] theorem Dev.raiseWhere_dsms (d : Dev) (p : Nat → W → Bool) : (d.raiseWhere p).dsms = d.dsms := by rw [(Dev.calm_raiseWhere p d).1]
@[simp] theorem Dev.raiseWhere_cmps (d : Dev) (p : Nat → W → Bool) : (d.raiseWhere p).cmps = d.cmps := by rw [(Dev.calm_raiseWhere p d).1]
@[simp] theorem Dev.raiseWhere_trps (d : Dev) (p : Nat → W → Bool) : (d.raiseWhere p).trps = d.trps := by rw [(Dev.calm_raiseWhere p d).1]
@[simp] theorem Dev.raiseWhere_cascs (d : Dev) (p : Nat → W → Bool) : (d.raiseWhere p).cascs = d.cascs := by rw [(Dev.calm_raiseWhere p d).1]
@[simp] theorem Dev.raiseWhere_pairs (d : Dev) (p : Nat → W → Bool) : (d.raiseWhere p).pairs = d.pairs := by rw [(Dev.calm_raiseWhere p d).1]
@[simp] theorem Dev.raiseWhere_words (d : Dev) (p : Nat → W → Bool) : (d.raiseWhere p).words = d.words := by rw [(Dev.calm_raiseWhere p d).1]
@[simp] theorem Dev.raiseWhere_red (d : Dev) (p : Nat → W → Bool) : (d.raiseWhere p).red = d.red := by rw [(Dev.calm_raiseWhere p d).1]
@[simp] theorem Dev.raiseWhere_triads (d : Dev) (p : Nat → W → Bool) : (d.raiseWhere p).triads = d.triads := by rw [(Dev.calm_raiseWhere p d).1]
@[simp] theorem Dev.raiseWhere_ports (d : Dev) (p : Nat → W → Bool) : (d.raiseWhere p).ports = d.ports := by rw [(Dev.calm_raiseWhere p d).1]
@[simp] theorem Dev.raiseWhere_ques (d : Dev) (p : Nat → W → Bool) : (d.raiseWhere p).ques = d.ques := by rw [(Dev.calm_raiseWhere p d).1]
@[simp] theorem Dev.raiseWhere_sig (d : Dev) (p : Nat → W → Bool) : (d.raiseWhere p).sig = d.sig := by rw [(Dev.calm_raiseWhere p d).1]
@[simp] theorem Dev.raiseWhere_jrn (d : Dev) (p : Nat → W → Bool) : (d.raiseWhere p).jrn = d.jrn := by rw [(Dev.calm_raiseWhere p d).1]
@[simp] theorem Dev.raiseWhere_lnk (d : Dev) (p : Nat → W → Bool) : (d.raiseWhere p).lnk = d.lnk := by rw [(Dev.calm_raiseWhere p d).1]
@[simp] theorem Dev.raiseWhere_axus (d : Dev) (p : Nat → W → Bool) : (d.raiseWhere p).axus = d.axus := by rw [(Dev.calm_raiseWhere p d).1]
@[simp] theorem Dev.raiseWhere_sents (d : Dev) (p : Nat → W → Bool) : (d.raiseWhere p).sents = d.sents := by rw [(Dev.calm_raiseWhere p d).1]
@[simp] theorem Dev.raiseWhere_gioRaw (d : Dev) (p : Nat → W → Bool) : (d.raiseWhere p).gioRaw = d.gioRaw := by rw [(Dev.calm_raiseWhere p d).1]
@[simp] theorem Dev.raiseWhere_cvus (d : Dev) (p : Nat → W → Bool) : (d.raiseWhere p).cvus = d.cvus := by rw [(Dev.calm_raiseWhere p d).1]
@[simp] theorem Dev.raiseWhere_chgs (d : Dev) (p : Nat → W → Bool) : (d.raiseWhere p).chgs = d.chgs := by rw [(Dev.calm_raiseWhere p d).1]
@[simp] theorem Dev.raiseWhere_thm (d : Dev) (p : Nat → W → Bool) : (d.raiseWhere p).thm = d.thm := by rw [(Dev.calm_raiseWhere p d).1]
@[simp] theorem Dev.raiseWhere_bkg (d : Dev) (p : Nat → W → Bool) : (d.raiseWhere p).bkg = d.bkg := by rw [(Dev.calm_raiseWhere p d).1]
@[simp] theorem Dev.raiseWhere_sec (d : Dev) (p : Nat → W → Bool) : (d.raiseWhere p).sec = d.sec := by rw [(Dev.calm_raiseWhere p d).1]
@[simp] theorem Dev.raiseWhere_sup (d : Dev) (p : Nat → W → Bool) : (d.raiseWhere p).sup = d.sup := by rw [(Dev.calm_raiseWhere p d).1]
@[simp] theorem Dev.raiseWhere_asked (d : Dev) (p : Nat → W → Bool) : (d.raiseWhere p).asked = d.asked := by rw [(Dev.calm_raiseWhere p d).1]

/-! ### logEvent -/

@[simp] theorem Dev.rd_logEvent (d : Dev) (cls code src : Nat) (data : List Byte) (x : Nat) (h : isEvtReg x = false) : (d.logEvent cls code src data).rd x = d.rd x := (Dev.calm_logEvent cls code src data d).2 x h
@[simp] theorem Dev.fld_logEvent (d : Dev) (cls code src : Nat) (data : List Byte) (x : Nat) (f : Fld) (h : isEvtReg x = false) : (d.logEvent cls code src data).fld x f = d.fld x f := by
  simp [Dev.fld, Dev.rd_logEvent _ cls code src data _ h]
@[simp] theorem Dev.isSet_logEvent (d : Dev) (cls code src : Nat) (data : List Byte) (x : Nat) (f : Fld) (h : isEvtReg x = false) : (d.logEvent cls code src data).isSet x f = d.isSet x f := by
  simp [Dev.isSet, Dev.fld_logEvent _ cls code src data _ _ h]
@[simp] theorem Dev.sysState_logEvent (d : Dev) (cls code src : Nat) (data : List Byte) : (d.logEvent cls code src data).sysState = d.sysState := Dev.fld_logEvent _ cls code src data _ _ (by decide)
@[simp] theorem Dev.inRun_logEvent (d : Dev) (cls code src : Nat) (data : List Byte) : (d.logEvent cls code src data).inRun = d.inRun := by
  simp [Dev.inRun, Dev.sysState_logEvent _ cls code src data]
@[simp] theorem Dev.logEvent_por (d : Dev) (cls code src : Nat) (data : List Byte) : (d.logEvent cls code src data).por = d.por := by rw [(Dev.calm_logEvent cls code src data d).1]
@[simp] theorem Dev.logEvent_tk (d : Dev) (cls code src : Nat) (data : List Byte) : (d.logEvent cls code src data).tk = d.tk := by rw [(Dev.calm_logEvent cls code src data d).1]
@[simp] theorem Dev.logEvent_cal (d : Dev) (cls code src : Nat) (data : List Byte) : (d.logEvent cls code src data).cal = d.cal := by rw [(Dev.calm_logEvent cls code src data d).1]
@[simp] theorem Dev.logEvent_vcore (d : Dev) (cls code src : Nat) (data : List Byte) : (d.logEvent cls code src data).vcore = d.vcore := by rw [(Dev.calm_logEvent cls code src data d).1]
@[simp] theorem Dev.logEvent_boot (d : Dev) (cls code src : Nat) (data : List Byte) : (d.logEvent cls code src data).boot = d.boot := by rw [(Dev.calm_logEvent cls code src data d).1]
@[simp] theorem Dev.logEvent_img (d : Dev) (cls code src : Nat) (data : List Byte) : (d.logEvent cls code src data).img = d.img := by rw [(Dev.calm_logEvent cls code src data d).1]
@[simp] theorem Dev.logEvent_flash (d : Dev) (cls code src : Nat) (data : List Byte) : (d.logEvent cls code src data).flash = d.flash := by rw [(Dev.calm_logEvent cls code src data d).1]
@[simp] theorem Dev.logEvent_sram (d : Dev) (cls code src : Nat) (data : List Byte) : (d.logEvent cls code src data).sram = d.sram := by rw [(Dev.calm_logEvent cls code src data d).1]
@[simp] theorem Dev.logEvent_coef (d : Dev) (cls code src : Nat) (data : List Byte) : (d.logEvent cls code src data).coef = d.coef := by rw [(Dev.calm_logEvent cls code src data d).1]
@[simp] theorem Dev.logEvent_sigt (d : Dev) (cls code src : Nat) (data : List Byte) : (d.logEvent cls code src data).sigt = d.sigt := by rw [(Dev.calm_logEvent cls code src data d).1]
@[simp] theorem Dev.logEvent_mram (d : Dev) (cls code src : Nat) (data : List Byte) : (d.logEvent cls code src data).mram = d.mram := by rw [(Dev.calm_logEvent cls code src data d).1]
@[simp] theorem Dev.logEvent_legs (d : Dev) (cls code src : Nat) (data : List Byte) : (d.logEvent cls code src data).legs = d.legs := by rw [(Dev.calm_logEvent cls code src data d).1]
@[simp] theorem Dev.logEvent_convs (d : Dev) (cls code src : Nat) (data : List Byte) : (d.logEvent cls code src data).convs = d.convs := by rw [(Dev.calm_logEvent cls code src data d).1]
@[simp] theorem Dev.logEvent_seqs (d : Dev) (cls code src : Nat) (data : List Byte) : (d.logEvent cls code src data).seqs = d.seqs := by rw [(Dev.calm_logEvent cls code src data d).1]
@[simp] theorem Dev.logEvent_slots (d : Dev) (cls code src : Nat) (data : List Byte) : (d.logEvent cls code src data).slots = d.slots := by rw [(Dev.calm_logEvent cls code src data d).1]
@[simp] theorem Dev.logEvent_dsms (d : Dev) (cls code src : Nat) (data : List Byte) : (d.logEvent cls code src data).dsms = d.dsms := by rw [(Dev.calm_logEvent cls code src data d).1]
@[simp] theorem Dev.logEvent_cmps (d : Dev) (cls code src : Nat) (data : List Byte) : (d.logEvent cls code src data).cmps = d.cmps := by rw [(Dev.calm_logEvent cls code src data d).1]
@[simp] theorem Dev.logEvent_trps (d : Dev) (cls code src : Nat) (data : List Byte) : (d.logEvent cls code src data).trps = d.trps := by rw [(Dev.calm_logEvent cls code src data d).1]
@[simp] theorem Dev.logEvent_cascs (d : Dev) (cls code src : Nat) (data : List Byte) : (d.logEvent cls code src data).cascs = d.cascs := by rw [(Dev.calm_logEvent cls code src data d).1]
@[simp] theorem Dev.logEvent_pairs (d : Dev) (cls code src : Nat) (data : List Byte) : (d.logEvent cls code src data).pairs = d.pairs := by rw [(Dev.calm_logEvent cls code src data d).1]
@[simp] theorem Dev.logEvent_words (d : Dev) (cls code src : Nat) (data : List Byte) : (d.logEvent cls code src data).words = d.words := by rw [(Dev.calm_logEvent cls code src data d).1]
@[simp] theorem Dev.logEvent_red (d : Dev) (cls code src : Nat) (data : List Byte) : (d.logEvent cls code src data).red = d.red := by rw [(Dev.calm_logEvent cls code src data d).1]
@[simp] theorem Dev.logEvent_triads (d : Dev) (cls code src : Nat) (data : List Byte) : (d.logEvent cls code src data).triads = d.triads := by rw [(Dev.calm_logEvent cls code src data d).1]
@[simp] theorem Dev.logEvent_ports (d : Dev) (cls code src : Nat) (data : List Byte) : (d.logEvent cls code src data).ports = d.ports := by rw [(Dev.calm_logEvent cls code src data d).1]
@[simp] theorem Dev.logEvent_ques (d : Dev) (cls code src : Nat) (data : List Byte) : (d.logEvent cls code src data).ques = d.ques := by rw [(Dev.calm_logEvent cls code src data d).1]
@[simp] theorem Dev.logEvent_sig (d : Dev) (cls code src : Nat) (data : List Byte) : (d.logEvent cls code src data).sig = d.sig := by rw [(Dev.calm_logEvent cls code src data d).1]
@[simp] theorem Dev.logEvent_jrn (d : Dev) (cls code src : Nat) (data : List Byte) : (d.logEvent cls code src data).jrn = d.jrn := by rw [(Dev.calm_logEvent cls code src data d).1]
@[simp] theorem Dev.logEvent_lnk (d : Dev) (cls code src : Nat) (data : List Byte) : (d.logEvent cls code src data).lnk = d.lnk := by rw [(Dev.calm_logEvent cls code src data d).1]
@[simp] theorem Dev.logEvent_axus (d : Dev) (cls code src : Nat) (data : List Byte) : (d.logEvent cls code src data).axus = d.axus := by rw [(Dev.calm_logEvent cls code src data d).1]
@[simp] theorem Dev.logEvent_sents (d : Dev) (cls code src : Nat) (data : List Byte) : (d.logEvent cls code src data).sents = d.sents := by rw [(Dev.calm_logEvent cls code src data d).1]
@[simp] theorem Dev.logEvent_gioRaw (d : Dev) (cls code src : Nat) (data : List Byte) : (d.logEvent cls code src data).gioRaw = d.gioRaw := by rw [(Dev.calm_logEvent cls code src data d).1]
@[simp] theorem Dev.logEvent_cvus (d : Dev) (cls code src : Nat) (data : List Byte) : (d.logEvent cls code src data).cvus = d.cvus := by rw [(Dev.calm_logEvent cls code src data d).1]
@[simp] theorem Dev.logEvent_chgs (d : Dev) (cls code src : Nat) (data : List Byte) : (d.logEvent cls code src data).chgs = d.chgs := by rw [(Dev.calm_logEvent cls code src data d).1]
@[simp] theorem Dev.logEvent_thm (d : Dev) (cls code src : Nat) (data : List Byte) : (d.logEvent cls code src data).thm = d.thm := by rw [(Dev.calm_logEvent cls code src data d).1]
@[simp] theorem Dev.logEvent_bkg (d : Dev) (cls code src : Nat) (data : List Byte) : (d.logEvent cls code src data).bkg = d.bkg := by rw [(Dev.calm_logEvent cls code src data d).1]
@[simp] theorem Dev.logEvent_sec (d : Dev) (cls code src : Nat) (data : List Byte) : (d.logEvent cls code src data).sec = d.sec := by rw [(Dev.calm_logEvent cls code src data d).1]
@[simp] theorem Dev.logEvent_sup (d : Dev) (cls code src : Nat) (data : List Byte) : (d.logEvent cls code src data).sup = d.sup := by rw [(Dev.calm_logEvent cls code src data d).1]
@[simp] theorem Dev.logEvent_asked (d : Dev) (cls code src : Nat) (data : List Byte) : (d.logEvent cls code src data).asked = d.asked := by rw [(Dev.calm_logEvent cls code src data d).1]

/-! ### rated -/

@[simp] theorem Dev.rd_rated (d : Dev) (cls code inst gap : Nat) (mk : Nat → List Byte) (x : Nat) (h : isEvtReg x = false) : (d.rated cls code inst gap mk).rd x = d.rd x := (Dev.calm_rated cls code inst gap mk d).2 x h
@[simp] theorem Dev.fld_rated (d : Dev) (cls code inst gap : Nat) (mk : Nat → List Byte) (x : Nat) (f : Fld) (h : isEvtReg x = false) : (d.rated cls code inst gap mk).fld x f = d.fld x f := by
  simp [Dev.fld, Dev.rd_rated _ cls code inst gap mk _ h]
@[simp] theorem Dev.isSet_rated (d : Dev) (cls code inst gap : Nat) (mk : Nat → List Byte) (x : Nat) (f : Fld) (h : isEvtReg x = false) : (d.rated cls code inst gap mk).isSet x f = d.isSet x f := by
  simp [Dev.isSet, Dev.fld_rated _ cls code inst gap mk _ _ h]
@[simp] theorem Dev.sysState_rated (d : Dev) (cls code inst gap : Nat) (mk : Nat → List Byte) : (d.rated cls code inst gap mk).sysState = d.sysState := Dev.fld_rated _ cls code inst gap mk _ _ (by decide)
@[simp] theorem Dev.inRun_rated (d : Dev) (cls code inst gap : Nat) (mk : Nat → List Byte) : (d.rated cls code inst gap mk).inRun = d.inRun := by
  simp [Dev.inRun, Dev.sysState_rated _ cls code inst gap mk]
@[simp] theorem Dev.rated_por (d : Dev) (cls code inst gap : Nat) (mk : Nat → List Byte) : (d.rated cls code inst gap mk).por = d.por := by rw [(Dev.calm_rated cls code inst gap mk d).1]
@[simp] theorem Dev.rated_tk (d : Dev) (cls code inst gap : Nat) (mk : Nat → List Byte) : (d.rated cls code inst gap mk).tk = d.tk := by rw [(Dev.calm_rated cls code inst gap mk d).1]
@[simp] theorem Dev.rated_cal (d : Dev) (cls code inst gap : Nat) (mk : Nat → List Byte) : (d.rated cls code inst gap mk).cal = d.cal := by rw [(Dev.calm_rated cls code inst gap mk d).1]
@[simp] theorem Dev.rated_vcore (d : Dev) (cls code inst gap : Nat) (mk : Nat → List Byte) : (d.rated cls code inst gap mk).vcore = d.vcore := by rw [(Dev.calm_rated cls code inst gap mk d).1]
@[simp] theorem Dev.rated_boot (d : Dev) (cls code inst gap : Nat) (mk : Nat → List Byte) : (d.rated cls code inst gap mk).boot = d.boot := by rw [(Dev.calm_rated cls code inst gap mk d).1]
@[simp] theorem Dev.rated_img (d : Dev) (cls code inst gap : Nat) (mk : Nat → List Byte) : (d.rated cls code inst gap mk).img = d.img := by rw [(Dev.calm_rated cls code inst gap mk d).1]
@[simp] theorem Dev.rated_flash (d : Dev) (cls code inst gap : Nat) (mk : Nat → List Byte) : (d.rated cls code inst gap mk).flash = d.flash := by rw [(Dev.calm_rated cls code inst gap mk d).1]
@[simp] theorem Dev.rated_sram (d : Dev) (cls code inst gap : Nat) (mk : Nat → List Byte) : (d.rated cls code inst gap mk).sram = d.sram := by rw [(Dev.calm_rated cls code inst gap mk d).1]
@[simp] theorem Dev.rated_coef (d : Dev) (cls code inst gap : Nat) (mk : Nat → List Byte) : (d.rated cls code inst gap mk).coef = d.coef := by rw [(Dev.calm_rated cls code inst gap mk d).1]
@[simp] theorem Dev.rated_sigt (d : Dev) (cls code inst gap : Nat) (mk : Nat → List Byte) : (d.rated cls code inst gap mk).sigt = d.sigt := by rw [(Dev.calm_rated cls code inst gap mk d).1]
@[simp] theorem Dev.rated_mram (d : Dev) (cls code inst gap : Nat) (mk : Nat → List Byte) : (d.rated cls code inst gap mk).mram = d.mram := by rw [(Dev.calm_rated cls code inst gap mk d).1]
@[simp] theorem Dev.rated_legs (d : Dev) (cls code inst gap : Nat) (mk : Nat → List Byte) : (d.rated cls code inst gap mk).legs = d.legs := by rw [(Dev.calm_rated cls code inst gap mk d).1]
@[simp] theorem Dev.rated_convs (d : Dev) (cls code inst gap : Nat) (mk : Nat → List Byte) : (d.rated cls code inst gap mk).convs = d.convs := by rw [(Dev.calm_rated cls code inst gap mk d).1]
@[simp] theorem Dev.rated_seqs (d : Dev) (cls code inst gap : Nat) (mk : Nat → List Byte) : (d.rated cls code inst gap mk).seqs = d.seqs := by rw [(Dev.calm_rated cls code inst gap mk d).1]
@[simp] theorem Dev.rated_slots (d : Dev) (cls code inst gap : Nat) (mk : Nat → List Byte) : (d.rated cls code inst gap mk).slots = d.slots := by rw [(Dev.calm_rated cls code inst gap mk d).1]
@[simp] theorem Dev.rated_dsms (d : Dev) (cls code inst gap : Nat) (mk : Nat → List Byte) : (d.rated cls code inst gap mk).dsms = d.dsms := by rw [(Dev.calm_rated cls code inst gap mk d).1]
@[simp] theorem Dev.rated_cmps (d : Dev) (cls code inst gap : Nat) (mk : Nat → List Byte) : (d.rated cls code inst gap mk).cmps = d.cmps := by rw [(Dev.calm_rated cls code inst gap mk d).1]
@[simp] theorem Dev.rated_trps (d : Dev) (cls code inst gap : Nat) (mk : Nat → List Byte) : (d.rated cls code inst gap mk).trps = d.trps := by rw [(Dev.calm_rated cls code inst gap mk d).1]
@[simp] theorem Dev.rated_cascs (d : Dev) (cls code inst gap : Nat) (mk : Nat → List Byte) : (d.rated cls code inst gap mk).cascs = d.cascs := by rw [(Dev.calm_rated cls code inst gap mk d).1]
@[simp] theorem Dev.rated_pairs (d : Dev) (cls code inst gap : Nat) (mk : Nat → List Byte) : (d.rated cls code inst gap mk).pairs = d.pairs := by rw [(Dev.calm_rated cls code inst gap mk d).1]
@[simp] theorem Dev.rated_words (d : Dev) (cls code inst gap : Nat) (mk : Nat → List Byte) : (d.rated cls code inst gap mk).words = d.words := by rw [(Dev.calm_rated cls code inst gap mk d).1]
@[simp] theorem Dev.rated_red (d : Dev) (cls code inst gap : Nat) (mk : Nat → List Byte) : (d.rated cls code inst gap mk).red = d.red := by rw [(Dev.calm_rated cls code inst gap mk d).1]
@[simp] theorem Dev.rated_triads (d : Dev) (cls code inst gap : Nat) (mk : Nat → List Byte) : (d.rated cls code inst gap mk).triads = d.triads := by rw [(Dev.calm_rated cls code inst gap mk d).1]
@[simp] theorem Dev.rated_ports (d : Dev) (cls code inst gap : Nat) (mk : Nat → List Byte) : (d.rated cls code inst gap mk).ports = d.ports := by rw [(Dev.calm_rated cls code inst gap mk d).1]
@[simp] theorem Dev.rated_ques (d : Dev) (cls code inst gap : Nat) (mk : Nat → List Byte) : (d.rated cls code inst gap mk).ques = d.ques := by rw [(Dev.calm_rated cls code inst gap mk d).1]
@[simp] theorem Dev.rated_sig (d : Dev) (cls code inst gap : Nat) (mk : Nat → List Byte) : (d.rated cls code inst gap mk).sig = d.sig := by rw [(Dev.calm_rated cls code inst gap mk d).1]
@[simp] theorem Dev.rated_jrn (d : Dev) (cls code inst gap : Nat) (mk : Nat → List Byte) : (d.rated cls code inst gap mk).jrn = d.jrn := by rw [(Dev.calm_rated cls code inst gap mk d).1]
@[simp] theorem Dev.rated_lnk (d : Dev) (cls code inst gap : Nat) (mk : Nat → List Byte) : (d.rated cls code inst gap mk).lnk = d.lnk := by rw [(Dev.calm_rated cls code inst gap mk d).1]
@[simp] theorem Dev.rated_axus (d : Dev) (cls code inst gap : Nat) (mk : Nat → List Byte) : (d.rated cls code inst gap mk).axus = d.axus := by rw [(Dev.calm_rated cls code inst gap mk d).1]
@[simp] theorem Dev.rated_sents (d : Dev) (cls code inst gap : Nat) (mk : Nat → List Byte) : (d.rated cls code inst gap mk).sents = d.sents := by rw [(Dev.calm_rated cls code inst gap mk d).1]
@[simp] theorem Dev.rated_gioRaw (d : Dev) (cls code inst gap : Nat) (mk : Nat → List Byte) : (d.rated cls code inst gap mk).gioRaw = d.gioRaw := by rw [(Dev.calm_rated cls code inst gap mk d).1]
@[simp] theorem Dev.rated_cvus (d : Dev) (cls code inst gap : Nat) (mk : Nat → List Byte) : (d.rated cls code inst gap mk).cvus = d.cvus := by rw [(Dev.calm_rated cls code inst gap mk d).1]
@[simp] theorem Dev.rated_chgs (d : Dev) (cls code inst gap : Nat) (mk : Nat → List Byte) : (d.rated cls code inst gap mk).chgs = d.chgs := by rw [(Dev.calm_rated cls code inst gap mk d).1]
@[simp] theorem Dev.rated_thm (d : Dev) (cls code inst gap : Nat) (mk : Nat → List Byte) : (d.rated cls code inst gap mk).thm = d.thm := by rw [(Dev.calm_rated cls code inst gap mk d).1]
@[simp] theorem Dev.rated_bkg (d : Dev) (cls code inst gap : Nat) (mk : Nat → List Byte) : (d.rated cls code inst gap mk).bkg = d.bkg := by rw [(Dev.calm_rated cls code inst gap mk d).1]
@[simp] theorem Dev.rated_sec (d : Dev) (cls code inst gap : Nat) (mk : Nat → List Byte) : (d.rated cls code inst gap mk).sec = d.sec := by rw [(Dev.calm_rated cls code inst gap mk d).1]
@[simp] theorem Dev.rated_sup (d : Dev) (cls code inst gap : Nat) (mk : Nat → List Byte) : (d.rated cls code inst gap mk).sup = d.sup := by rw [(Dev.calm_rated cls code inst gap mk d).1]
@[simp] theorem Dev.rated_asked (d : Dev) (cls code inst gap : Nat) (mk : Nat → List Byte) : (d.rated cls code inst gap mk).asked = d.asked := by rw [(Dev.calm_rated cls code inst gap mk d).1]

/-! ### toSafeq -/

@[simp] theorem Dev.rd_toSafeq (d : Dev) (code : Nat) (x : Nat) (h : isEvtReg x = false) : (d.toSafeq code).rd x = d.rd x := (Dev.calm_toSafeq code d).2 x h
@[simp] theorem Dev.fld_toSafeq (d : Dev) (code : Nat) (x : Nat) (f : Fld) (h : isEvtReg x = false) : (d.toSafeq code).fld x f = d.fld x f := by
  simp [Dev.fld, Dev.rd_toSafeq _ code _ h]
@[simp] theorem Dev.isSet_toSafeq (d : Dev) (code : Nat) (x : Nat) (f : Fld) (h : isEvtReg x = false) : (d.toSafeq code).isSet x f = d.isSet x f := by
  simp [Dev.isSet, Dev.fld_toSafeq _ code _ _ h]
@[simp] theorem Dev.sysState_toSafeq (d : Dev) (code : Nat) : (d.toSafeq code).sysState = d.sysState := Dev.fld_toSafeq _ code _ _ (by decide)
@[simp] theorem Dev.inRun_toSafeq (d : Dev) (code : Nat) : (d.toSafeq code).inRun = d.inRun := by
  simp [Dev.inRun, Dev.sysState_toSafeq _ code]
@[simp] theorem Dev.toSafeq_por (d : Dev) (code : Nat) : (d.toSafeq code).por = d.por := by rw [(Dev.calm_toSafeq code d).1]
@[simp] theorem Dev.toSafeq_tk (d : Dev) (code : Nat) : (d.toSafeq code).tk = d.tk := by rw [(Dev.calm_toSafeq code d).1]
@[simp] theorem Dev.toSafeq_cal (d : Dev) (code : Nat) : (d.toSafeq code).cal = d.cal := by rw [(Dev.calm_toSafeq code d).1]
@[simp] theorem Dev.toSafeq_vcore (d : Dev) (code : Nat) : (d.toSafeq code).vcore = d.vcore := by rw [(Dev.calm_toSafeq code d).1]
@[simp] theorem Dev.toSafeq_boot (d : Dev) (code : Nat) : (d.toSafeq code).boot = d.boot := by rw [(Dev.calm_toSafeq code d).1]
@[simp] theorem Dev.toSafeq_img (d : Dev) (code : Nat) : (d.toSafeq code).img = d.img := by rw [(Dev.calm_toSafeq code d).1]
@[simp] theorem Dev.toSafeq_flash (d : Dev) (code : Nat) : (d.toSafeq code).flash = d.flash := by rw [(Dev.calm_toSafeq code d).1]
@[simp] theorem Dev.toSafeq_sram (d : Dev) (code : Nat) : (d.toSafeq code).sram = d.sram := by rw [(Dev.calm_toSafeq code d).1]
@[simp] theorem Dev.toSafeq_coef (d : Dev) (code : Nat) : (d.toSafeq code).coef = d.coef := by rw [(Dev.calm_toSafeq code d).1]
@[simp] theorem Dev.toSafeq_sigt (d : Dev) (code : Nat) : (d.toSafeq code).sigt = d.sigt := by rw [(Dev.calm_toSafeq code d).1]
@[simp] theorem Dev.toSafeq_mram (d : Dev) (code : Nat) : (d.toSafeq code).mram = d.mram := by rw [(Dev.calm_toSafeq code d).1]
@[simp] theorem Dev.toSafeq_legs (d : Dev) (code : Nat) : (d.toSafeq code).legs = d.legs := by rw [(Dev.calm_toSafeq code d).1]
@[simp] theorem Dev.toSafeq_convs (d : Dev) (code : Nat) : (d.toSafeq code).convs = d.convs := by rw [(Dev.calm_toSafeq code d).1]
@[simp] theorem Dev.toSafeq_seqs (d : Dev) (code : Nat) : (d.toSafeq code).seqs = d.seqs := by rw [(Dev.calm_toSafeq code d).1]
@[simp] theorem Dev.toSafeq_slots (d : Dev) (code : Nat) : (d.toSafeq code).slots = d.slots := by rw [(Dev.calm_toSafeq code d).1]
@[simp] theorem Dev.toSafeq_dsms (d : Dev) (code : Nat) : (d.toSafeq code).dsms = d.dsms := by rw [(Dev.calm_toSafeq code d).1]
@[simp] theorem Dev.toSafeq_cmps (d : Dev) (code : Nat) : (d.toSafeq code).cmps = d.cmps := by rw [(Dev.calm_toSafeq code d).1]
@[simp] theorem Dev.toSafeq_trps (d : Dev) (code : Nat) : (d.toSafeq code).trps = d.trps := by rw [(Dev.calm_toSafeq code d).1]
@[simp] theorem Dev.toSafeq_cascs (d : Dev) (code : Nat) : (d.toSafeq code).cascs = d.cascs := by rw [(Dev.calm_toSafeq code d).1]
@[simp] theorem Dev.toSafeq_pairs (d : Dev) (code : Nat) : (d.toSafeq code).pairs = d.pairs := by rw [(Dev.calm_toSafeq code d).1]
@[simp] theorem Dev.toSafeq_words (d : Dev) (code : Nat) : (d.toSafeq code).words = d.words := by rw [(Dev.calm_toSafeq code d).1]
@[simp] theorem Dev.toSafeq_red (d : Dev) (code : Nat) : (d.toSafeq code).red = d.red := by rw [(Dev.calm_toSafeq code d).1]
@[simp] theorem Dev.toSafeq_triads (d : Dev) (code : Nat) : (d.toSafeq code).triads = d.triads := by rw [(Dev.calm_toSafeq code d).1]
@[simp] theorem Dev.toSafeq_ports (d : Dev) (code : Nat) : (d.toSafeq code).ports = d.ports := by rw [(Dev.calm_toSafeq code d).1]
@[simp] theorem Dev.toSafeq_ques (d : Dev) (code : Nat) : (d.toSafeq code).ques = d.ques := by rw [(Dev.calm_toSafeq code d).1]
@[simp] theorem Dev.toSafeq_sig (d : Dev) (code : Nat) : (d.toSafeq code).sig = d.sig := by rw [(Dev.calm_toSafeq code d).1]
@[simp] theorem Dev.toSafeq_jrn (d : Dev) (code : Nat) : (d.toSafeq code).jrn = d.jrn := by rw [(Dev.calm_toSafeq code d).1]
@[simp] theorem Dev.toSafeq_lnk (d : Dev) (code : Nat) : (d.toSafeq code).lnk = d.lnk := by rw [(Dev.calm_toSafeq code d).1]
@[simp] theorem Dev.toSafeq_axus (d : Dev) (code : Nat) : (d.toSafeq code).axus = d.axus := by rw [(Dev.calm_toSafeq code d).1]
@[simp] theorem Dev.toSafeq_sents (d : Dev) (code : Nat) : (d.toSafeq code).sents = d.sents := by rw [(Dev.calm_toSafeq code d).1]
@[simp] theorem Dev.toSafeq_gioRaw (d : Dev) (code : Nat) : (d.toSafeq code).gioRaw = d.gioRaw := by rw [(Dev.calm_toSafeq code d).1]
@[simp] theorem Dev.toSafeq_cvus (d : Dev) (code : Nat) : (d.toSafeq code).cvus = d.cvus := by rw [(Dev.calm_toSafeq code d).1]
@[simp] theorem Dev.toSafeq_chgs (d : Dev) (code : Nat) : (d.toSafeq code).chgs = d.chgs := by rw [(Dev.calm_toSafeq code d).1]
@[simp] theorem Dev.toSafeq_thm (d : Dev) (code : Nat) : (d.toSafeq code).thm = d.thm := by rw [(Dev.calm_toSafeq code d).1]
@[simp] theorem Dev.toSafeq_bkg (d : Dev) (code : Nat) : (d.toSafeq code).bkg = d.bkg := by rw [(Dev.calm_toSafeq code d).1]
@[simp] theorem Dev.toSafeq_sec (d : Dev) (code : Nat) : (d.toSafeq code).sec = d.sec := by rw [(Dev.calm_toSafeq code d).1]
@[simp] theorem Dev.toSafeq_sup (d : Dev) (code : Nat) : (d.toSafeq code).sup = d.sup := by rw [(Dev.calm_toSafeq code d).1]
@[simp] theorem Dev.toSafeq_asked (d : Dev) (code : Nat) : (d.toSafeq code).asked = d.asked := by rw [(Dev.calm_toSafeq code d).1]

/-! ### evtC -/

@[simp] theorem Dev.rd_evtC (d : Dev) (cls code src : Nat) (data : List Nat) (x : Nat) (h : isEvtReg x = false) : (d.evtC cls code src data).rd x = d.rd x := (Dev.calm_evtC cls code src data d).2 x h
@[simp] theorem Dev.fld_evtC (d : Dev) (cls code src : Nat) (data : List Nat) (x : Nat) (f : Fld) (h : isEvtReg x = false) : (d.evtC cls code src data).fld x f = d.fld x f := by
  simp [Dev.fld, Dev.rd_evtC _ cls code src data _ h]
@[simp] theorem Dev.isSet_evtC (d : Dev) (cls code src : Nat) (data : List Nat) (x : Nat) (f : Fld) (h : isEvtReg x = false) : (d.evtC cls code src data).isSet x f = d.isSet x f := by
  simp [Dev.isSet, Dev.fld_evtC _ cls code src data _ _ h]
@[simp] theorem Dev.sysState_evtC (d : Dev) (cls code src : Nat) (data : List Nat) : (d.evtC cls code src data).sysState = d.sysState := Dev.fld_evtC _ cls code src data _ _ (by decide)
@[simp] theorem Dev.inRun_evtC (d : Dev) (cls code src : Nat) (data : List Nat) : (d.evtC cls code src data).inRun = d.inRun := by
  simp [Dev.inRun, Dev.sysState_evtC _ cls code src data]
@[simp] theorem Dev.evtC_por (d : Dev) (cls code src : Nat) (data : List Nat) : (d.evtC cls code src data).por = d.por := by rw [(Dev.calm_evtC cls code src data d).1]
@[simp] theorem Dev.evtC_tk (d : Dev) (cls code src : Nat) (data : List Nat) : (d.evtC cls code src data).tk = d.tk := by rw [(Dev.calm_evtC cls code src data d).1]
@[simp] theorem Dev.evtC_cal (d : Dev) (cls code src : Nat) (data : List Nat) : (d.evtC cls code src data).cal = d.cal := by rw [(Dev.calm_evtC cls code src data d).1]
@[simp] theorem Dev.evtC_vcore (d : Dev) (cls code src : Nat) (data : List Nat) : (d.evtC cls code src data).vcore = d.vcore := by rw [(Dev.calm_evtC cls code src data d).1]
@[simp] theorem Dev.evtC_boot (d : Dev) (cls code src : Nat) (data : List Nat) : (d.evtC cls code src data).boot = d.boot := by rw [(Dev.calm_evtC cls code src data d).1]
@[simp] theorem Dev.evtC_img (d : Dev) (cls code src : Nat) (data : List Nat) : (d.evtC cls code src data).img = d.img := by rw [(Dev.calm_evtC cls code src data d).1]
@[simp] theorem Dev.evtC_flash (d : Dev) (cls code src : Nat) (data : List Nat) : (d.evtC cls code src data).flash = d.flash := by rw [(Dev.calm_evtC cls code src data d).1]
@[simp] theorem Dev.evtC_sram (d : Dev) (cls code src : Nat) (data : List Nat) : (d.evtC cls code src data).sram = d.sram := by rw [(Dev.calm_evtC cls code src data d).1]
@[simp] theorem Dev.evtC_coef (d : Dev) (cls code src : Nat) (data : List Nat) : (d.evtC cls code src data).coef = d.coef := by rw [(Dev.calm_evtC cls code src data d).1]
@[simp] theorem Dev.evtC_sigt (d : Dev) (cls code src : Nat) (data : List Nat) : (d.evtC cls code src data).sigt = d.sigt := by rw [(Dev.calm_evtC cls code src data d).1]
@[simp] theorem Dev.evtC_mram (d : Dev) (cls code src : Nat) (data : List Nat) : (d.evtC cls code src data).mram = d.mram := by rw [(Dev.calm_evtC cls code src data d).1]
@[simp] theorem Dev.evtC_legs (d : Dev) (cls code src : Nat) (data : List Nat) : (d.evtC cls code src data).legs = d.legs := by rw [(Dev.calm_evtC cls code src data d).1]
@[simp] theorem Dev.evtC_convs (d : Dev) (cls code src : Nat) (data : List Nat) : (d.evtC cls code src data).convs = d.convs := by rw [(Dev.calm_evtC cls code src data d).1]
@[simp] theorem Dev.evtC_seqs (d : Dev) (cls code src : Nat) (data : List Nat) : (d.evtC cls code src data).seqs = d.seqs := by rw [(Dev.calm_evtC cls code src data d).1]
@[simp] theorem Dev.evtC_slots (d : Dev) (cls code src : Nat) (data : List Nat) : (d.evtC cls code src data).slots = d.slots := by rw [(Dev.calm_evtC cls code src data d).1]
@[simp] theorem Dev.evtC_dsms (d : Dev) (cls code src : Nat) (data : List Nat) : (d.evtC cls code src data).dsms = d.dsms := by rw [(Dev.calm_evtC cls code src data d).1]
@[simp] theorem Dev.evtC_cmps (d : Dev) (cls code src : Nat) (data : List Nat) : (d.evtC cls code src data).cmps = d.cmps := by rw [(Dev.calm_evtC cls code src data d).1]
@[simp] theorem Dev.evtC_trps (d : Dev) (cls code src : Nat) (data : List Nat) : (d.evtC cls code src data).trps = d.trps := by rw [(Dev.calm_evtC cls code src data d).1]
@[simp] theorem Dev.evtC_cascs (d : Dev) (cls code src : Nat) (data : List Nat) : (d.evtC cls code src data).cascs = d.cascs := by rw [(Dev.calm_evtC cls code src data d).1]
@[simp] theorem Dev.evtC_pairs (d : Dev) (cls code src : Nat) (data : List Nat) : (d.evtC cls code src data).pairs = d.pairs := by rw [(Dev.calm_evtC cls code src data d).1]
@[simp] theorem Dev.evtC_words (d : Dev) (cls code src : Nat) (data : List Nat) : (d.evtC cls code src data).words = d.words := by rw [(Dev.calm_evtC cls code src data d).1]
@[simp] theorem Dev.evtC_red (d : Dev) (cls code src : Nat) (data : List Nat) : (d.evtC cls code src data).red = d.red := by rw [(Dev.calm_evtC cls code src data d).1]
@[simp] theorem Dev.evtC_triads (d : Dev) (cls code src : Nat) (data : List Nat) : (d.evtC cls code src data).triads = d.triads := by rw [(Dev.calm_evtC cls code src data d).1]
@[simp] theorem Dev.evtC_ports (d : Dev) (cls code src : Nat) (data : List Nat) : (d.evtC cls code src data).ports = d.ports := by rw [(Dev.calm_evtC cls code src data d).1]
@[simp] theorem Dev.evtC_ques (d : Dev) (cls code src : Nat) (data : List Nat) : (d.evtC cls code src data).ques = d.ques := by rw [(Dev.calm_evtC cls code src data d).1]
@[simp] theorem Dev.evtC_sig (d : Dev) (cls code src : Nat) (data : List Nat) : (d.evtC cls code src data).sig = d.sig := by rw [(Dev.calm_evtC cls code src data d).1]
@[simp] theorem Dev.evtC_jrn (d : Dev) (cls code src : Nat) (data : List Nat) : (d.evtC cls code src data).jrn = d.jrn := by rw [(Dev.calm_evtC cls code src data d).1]
@[simp] theorem Dev.evtC_lnk (d : Dev) (cls code src : Nat) (data : List Nat) : (d.evtC cls code src data).lnk = d.lnk := by rw [(Dev.calm_evtC cls code src data d).1]
@[simp] theorem Dev.evtC_axus (d : Dev) (cls code src : Nat) (data : List Nat) : (d.evtC cls code src data).axus = d.axus := by rw [(Dev.calm_evtC cls code src data d).1]
@[simp] theorem Dev.evtC_sents (d : Dev) (cls code src : Nat) (data : List Nat) : (d.evtC cls code src data).sents = d.sents := by rw [(Dev.calm_evtC cls code src data d).1]
@[simp] theorem Dev.evtC_gioRaw (d : Dev) (cls code src : Nat) (data : List Nat) : (d.evtC cls code src data).gioRaw = d.gioRaw := by rw [(Dev.calm_evtC cls code src data d).1]
@[simp] theorem Dev.evtC_cvus (d : Dev) (cls code src : Nat) (data : List Nat) : (d.evtC cls code src data).cvus = d.cvus := by rw [(Dev.calm_evtC cls code src data d).1]
@[simp] theorem Dev.evtC_chgs (d : Dev) (cls code src : Nat) (data : List Nat) : (d.evtC cls code src data).chgs = d.chgs := by rw [(Dev.calm_evtC cls code src data d).1]
@[simp] theorem Dev.evtC_thm (d : Dev) (cls code src : Nat) (data : List Nat) : (d.evtC cls code src data).thm = d.thm := by rw [(Dev.calm_evtC cls code src data d).1]
@[simp] theorem Dev.evtC_bkg (d : Dev) (cls code src : Nat) (data : List Nat) : (d.evtC cls code src data).bkg = d.bkg := by rw [(Dev.calm_evtC cls code src data d).1]
@[simp] theorem Dev.evtC_sec (d : Dev) (cls code src : Nat) (data : List Nat) : (d.evtC cls code src data).sec = d.sec := by rw [(Dev.calm_evtC cls code src data d).1]
@[simp] theorem Dev.evtC_sup (d : Dev) (cls code src : Nat) (data : List Nat) : (d.evtC cls code src data).sup = d.sup := by rw [(Dev.calm_evtC cls code src data d).1]
@[simp] theorem Dev.evtC_asked (d : Dev) (cls code src : Nat) (data : List Nat) : (d.evtC cls code src data).asked = d.asked := by rw [(Dev.calm_evtC cls code src data d).1]

/-! ### evt -/

@[simp] theorem Dev.rd_evt (d : Dev) (code : Nat) (data : List Nat) (x : Nat) (h : isEvtReg x = false) : (d.evt code data).rd x = d.rd x := (Dev.calm_evt code data d).2 x h
@[simp] theorem Dev.fld_evt (d : Dev) (code : Nat) (data : List Nat) (x : Nat) (f : Fld) (h : isEvtReg x = false) : (d.evt code data).fld x f = d.fld x f := by
  simp [Dev.fld, Dev.rd_evt _ code data _ h]
@[simp] theorem Dev.isSet_evt (d : Dev) (code : Nat) (data : List Nat) (x : Nat) (f : Fld) (h : isEvtReg x = false) : (d.evt code data).isSet x f = d.isSet x f := by
  simp [Dev.isSet, Dev.fld_evt _ code data _ _ h]
@[simp] theorem Dev.sysState_evt (d : Dev) (code : Nat) (data : List Nat) : (d.evt code data).sysState = d.sysState := Dev.fld_evt _ code data _ _ (by decide)
@[simp] theorem Dev.inRun_evt (d : Dev) (code : Nat) (data : List Nat) : (d.evt code data).inRun = d.inRun := by
  simp [Dev.inRun, Dev.sysState_evt _ code data]
@[simp] theorem Dev.evt_por (d : Dev) (code : Nat) (data : List Nat) : (d.evt code data).por = d.por := by rw [(Dev.calm_evt code data d).1]
@[simp] theorem Dev.evt_tk (d : Dev) (code : Nat) (data : List Nat) : (d.evt code data).tk = d.tk := by rw [(Dev.calm_evt code data d).1]
@[simp] theorem Dev.evt_cal (d : Dev) (code : Nat) (data : List Nat) : (d.evt code data).cal = d.cal := by rw [(Dev.calm_evt code data d).1]
@[simp] theorem Dev.evt_vcore (d : Dev) (code : Nat) (data : List Nat) : (d.evt code data).vcore = d.vcore := by rw [(Dev.calm_evt code data d).1]
@[simp] theorem Dev.evt_boot (d : Dev) (code : Nat) (data : List Nat) : (d.evt code data).boot = d.boot := by rw [(Dev.calm_evt code data d).1]
@[simp] theorem Dev.evt_img (d : Dev) (code : Nat) (data : List Nat) : (d.evt code data).img = d.img := by rw [(Dev.calm_evt code data d).1]
@[simp] theorem Dev.evt_flash (d : Dev) (code : Nat) (data : List Nat) : (d.evt code data).flash = d.flash := by rw [(Dev.calm_evt code data d).1]
@[simp] theorem Dev.evt_sram (d : Dev) (code : Nat) (data : List Nat) : (d.evt code data).sram = d.sram := by rw [(Dev.calm_evt code data d).1]
@[simp] theorem Dev.evt_coef (d : Dev) (code : Nat) (data : List Nat) : (d.evt code data).coef = d.coef := by rw [(Dev.calm_evt code data d).1]
@[simp] theorem Dev.evt_sigt (d : Dev) (code : Nat) (data : List Nat) : (d.evt code data).sigt = d.sigt := by rw [(Dev.calm_evt code data d).1]
@[simp] theorem Dev.evt_mram (d : Dev) (code : Nat) (data : List Nat) : (d.evt code data).mram = d.mram := by rw [(Dev.calm_evt code data d).1]
@[simp] theorem Dev.evt_legs (d : Dev) (code : Nat) (data : List Nat) : (d.evt code data).legs = d.legs := by rw [(Dev.calm_evt code data d).1]
@[simp] theorem Dev.evt_convs (d : Dev) (code : Nat) (data : List Nat) : (d.evt code data).convs = d.convs := by rw [(Dev.calm_evt code data d).1]
@[simp] theorem Dev.evt_seqs (d : Dev) (code : Nat) (data : List Nat) : (d.evt code data).seqs = d.seqs := by rw [(Dev.calm_evt code data d).1]
@[simp] theorem Dev.evt_slots (d : Dev) (code : Nat) (data : List Nat) : (d.evt code data).slots = d.slots := by rw [(Dev.calm_evt code data d).1]
@[simp] theorem Dev.evt_dsms (d : Dev) (code : Nat) (data : List Nat) : (d.evt code data).dsms = d.dsms := by rw [(Dev.calm_evt code data d).1]
@[simp] theorem Dev.evt_cmps (d : Dev) (code : Nat) (data : List Nat) : (d.evt code data).cmps = d.cmps := by rw [(Dev.calm_evt code data d).1]
@[simp] theorem Dev.evt_trps (d : Dev) (code : Nat) (data : List Nat) : (d.evt code data).trps = d.trps := by rw [(Dev.calm_evt code data d).1]
@[simp] theorem Dev.evt_cascs (d : Dev) (code : Nat) (data : List Nat) : (d.evt code data).cascs = d.cascs := by rw [(Dev.calm_evt code data d).1]
@[simp] theorem Dev.evt_pairs (d : Dev) (code : Nat) (data : List Nat) : (d.evt code data).pairs = d.pairs := by rw [(Dev.calm_evt code data d).1]
@[simp] theorem Dev.evt_words (d : Dev) (code : Nat) (data : List Nat) : (d.evt code data).words = d.words := by rw [(Dev.calm_evt code data d).1]
@[simp] theorem Dev.evt_red (d : Dev) (code : Nat) (data : List Nat) : (d.evt code data).red = d.red := by rw [(Dev.calm_evt code data d).1]
@[simp] theorem Dev.evt_triads (d : Dev) (code : Nat) (data : List Nat) : (d.evt code data).triads = d.triads := by rw [(Dev.calm_evt code data d).1]
@[simp] theorem Dev.evt_ports (d : Dev) (code : Nat) (data : List Nat) : (d.evt code data).ports = d.ports := by rw [(Dev.calm_evt code data d).1]
@[simp] theorem Dev.evt_ques (d : Dev) (code : Nat) (data : List Nat) : (d.evt code data).ques = d.ques := by rw [(Dev.calm_evt code data d).1]
@[simp] theorem Dev.evt_sig (d : Dev) (code : Nat) (data : List Nat) : (d.evt code data).sig = d.sig := by rw [(Dev.calm_evt code data d).1]
@[simp] theorem Dev.evt_jrn (d : Dev) (code : Nat) (data : List Nat) : (d.evt code data).jrn = d.jrn := by rw [(Dev.calm_evt code data d).1]
@[simp] theorem Dev.evt_lnk (d : Dev) (code : Nat) (data : List Nat) : (d.evt code data).lnk = d.lnk := by rw [(Dev.calm_evt code data d).1]
@[simp] theorem Dev.evt_axus (d : Dev) (code : Nat) (data : List Nat) : (d.evt code data).axus = d.axus := by rw [(Dev.calm_evt code data d).1]
@[simp] theorem Dev.evt_sents (d : Dev) (code : Nat) (data : List Nat) : (d.evt code data).sents = d.sents := by rw [(Dev.calm_evt code data d).1]
@[simp] theorem Dev.evt_gioRaw (d : Dev) (code : Nat) (data : List Nat) : (d.evt code data).gioRaw = d.gioRaw := by rw [(Dev.calm_evt code data d).1]
@[simp] theorem Dev.evt_cvus (d : Dev) (code : Nat) (data : List Nat) : (d.evt code data).cvus = d.cvus := by rw [(Dev.calm_evt code data d).1]
@[simp] theorem Dev.evt_chgs (d : Dev) (code : Nat) (data : List Nat) : (d.evt code data).chgs = d.chgs := by rw [(Dev.calm_evt code data d).1]
@[simp] theorem Dev.evt_thm (d : Dev) (code : Nat) (data : List Nat) : (d.evt code data).thm = d.thm := by rw [(Dev.calm_evt code data d).1]
@[simp] theorem Dev.evt_bkg (d : Dev) (code : Nat) (data : List Nat) : (d.evt code data).bkg = d.bkg := by rw [(Dev.calm_evt code data d).1]
@[simp] theorem Dev.evt_sec (d : Dev) (code : Nat) (data : List Nat) : (d.evt code data).sec = d.sec := by rw [(Dev.calm_evt code data d).1]
@[simp] theorem Dev.evt_sup (d : Dev) (code : Nat) (data : List Nat) : (d.evt code data).sup = d.sup := by rw [(Dev.calm_evt code data d).1]
@[simp] theorem Dev.evt_asked (d : Dev) (code : Nat) (data : List Nat) : (d.evt code data).asked = d.asked := by rw [(Dev.calm_evt code data d).1]

/-! ### evtRated -/

@[simp] theorem Dev.rd_evtRated (d : Dev) (code inst : Nat) (name : List Nat) (x : Nat) (h : isEvtReg x = false) : (d.evtRated code inst name).rd x = d.rd x := (Dev.calm_evtRated code inst name d).2 x h
@[simp] theorem Dev.fld_evtRated (d : Dev) (code inst : Nat) (name : List Nat) (x : Nat) (f : Fld) (h : isEvtReg x = false) : (d.evtRated code inst name).fld x f = d.fld x f := by
  simp [Dev.fld, Dev.rd_evtRated _ code inst name _ h]
@[simp] theorem Dev.isSet_evtRated (d : Dev) (code inst : Nat) (name : List Nat) (x : Nat) (f : Fld) (h : isEvtReg x = false) : (d.evtRated code inst name).isSet x f = d.isSet x f := by
  simp [Dev.isSet, Dev.fld_evtRated _ code inst name _ _ h]
@[simp] theorem Dev.sysState_evtRated (d : Dev) (code inst : Nat) (name : List Nat) : (d.evtRated code inst name).sysState = d.sysState := Dev.fld_evtRated _ code inst name _ _ (by decide)
@[simp] theorem Dev.inRun_evtRated (d : Dev) (code inst : Nat) (name : List Nat) : (d.evtRated code inst name).inRun = d.inRun := by
  simp [Dev.inRun, Dev.sysState_evtRated _ code inst name]
@[simp] theorem Dev.evtRated_por (d : Dev) (code inst : Nat) (name : List Nat) : (d.evtRated code inst name).por = d.por := by rw [(Dev.calm_evtRated code inst name d).1]
@[simp] theorem Dev.evtRated_tk (d : Dev) (code inst : Nat) (name : List Nat) : (d.evtRated code inst name).tk = d.tk := by rw [(Dev.calm_evtRated code inst name d).1]
@[simp] theorem Dev.evtRated_cal (d : Dev) (code inst : Nat) (name : List Nat) : (d.evtRated code inst name).cal = d.cal := by rw [(Dev.calm_evtRated code inst name d).1]
@[simp] theorem Dev.evtRated_vcore (d : Dev) (code inst : Nat) (name : List Nat) : (d.evtRated code inst name).vcore = d.vcore := by rw [(Dev.calm_evtRated code inst name d).1]
@[simp] theorem Dev.evtRated_boot (d : Dev) (code inst : Nat) (name : List Nat) : (d.evtRated code inst name).boot = d.boot := by rw [(Dev.calm_evtRated code inst name d).1]
@[simp] theorem Dev.evtRated_img (d : Dev) (code inst : Nat) (name : List Nat) : (d.evtRated code inst name).img = d.img := by rw [(Dev.calm_evtRated code inst name d).1]
@[simp] theorem Dev.evtRated_flash (d : Dev) (code inst : Nat) (name : List Nat) : (d.evtRated code inst name).flash = d.flash := by rw [(Dev.calm_evtRated code inst name d).1]
@[simp] theorem Dev.evtRated_sram (d : Dev) (code inst : Nat) (name : List Nat) : (d.evtRated code inst name).sram = d.sram := by rw [(Dev.calm_evtRated code inst name d).1]
@[simp] theorem Dev.evtRated_coef (d : Dev) (code inst : Nat) (name : List Nat) : (d.evtRated code inst name).coef = d.coef := by rw [(Dev.calm_evtRated code inst name d).1]
@[simp] theorem Dev.evtRated_sigt (d : Dev) (code inst : Nat) (name : List Nat) : (d.evtRated code inst name).sigt = d.sigt := by rw [(Dev.calm_evtRated code inst name d).1]
@[simp] theorem Dev.evtRated_mram (d : Dev) (code inst : Nat) (name : List Nat) : (d.evtRated code inst name).mram = d.mram := by rw [(Dev.calm_evtRated code inst name d).1]
@[simp] theorem Dev.evtRated_legs (d : Dev) (code inst : Nat) (name : List Nat) : (d.evtRated code inst name).legs = d.legs := by rw [(Dev.calm_evtRated code inst name d).1]
@[simp] theorem Dev.evtRated_convs (d : Dev) (code inst : Nat) (name : List Nat) : (d.evtRated code inst name).convs = d.convs := by rw [(Dev.calm_evtRated code inst name d).1]
@[simp] theorem Dev.evtRated_seqs (d : Dev) (code inst : Nat) (name : List Nat) : (d.evtRated code inst name).seqs = d.seqs := by rw [(Dev.calm_evtRated code inst name d).1]
@[simp] theorem Dev.evtRated_slots (d : Dev) (code inst : Nat) (name : List Nat) : (d.evtRated code inst name).slots = d.slots := by rw [(Dev.calm_evtRated code inst name d).1]
@[simp] theorem Dev.evtRated_dsms (d : Dev) (code inst : Nat) (name : List Nat) : (d.evtRated code inst name).dsms = d.dsms := by rw [(Dev.calm_evtRated code inst name d).1]
@[simp] theorem Dev.evtRated_cmps (d : Dev) (code inst : Nat) (name : List Nat) : (d.evtRated code inst name).cmps = d.cmps := by rw [(Dev.calm_evtRated code inst name d).1]
@[simp] theorem Dev.evtRated_trps (d : Dev) (code inst : Nat) (name : List Nat) : (d.evtRated code inst name).trps = d.trps := by rw [(Dev.calm_evtRated code inst name d).1]
@[simp] theorem Dev.evtRated_cascs (d : Dev) (code inst : Nat) (name : List Nat) : (d.evtRated code inst name).cascs = d.cascs := by rw [(Dev.calm_evtRated code inst name d).1]
@[simp] theorem Dev.evtRated_pairs (d : Dev) (code inst : Nat) (name : List Nat) : (d.evtRated code inst name).pairs = d.pairs := by rw [(Dev.calm_evtRated code inst name d).1]
@[simp] theorem Dev.evtRated_words (d : Dev) (code inst : Nat) (name : List Nat) : (d.evtRated code inst name).words = d.words := by rw [(Dev.calm_evtRated code inst name d).1]
@[simp] theorem Dev.evtRated_red (d : Dev) (code inst : Nat) (name : List Nat) : (d.evtRated code inst name).red = d.red := by rw [(Dev.calm_evtRated code inst name d).1]
@[simp] theorem Dev.evtRated_triads (d : Dev) (code inst : Nat) (name : List Nat) : (d.evtRated code inst name).triads = d.triads := by rw [(Dev.calm_evtRated code inst name d).1]
@[simp] theorem Dev.evtRated_ports (d : Dev) (code inst : Nat) (name : List Nat) : (d.evtRated code inst name).ports = d.ports := by rw [(Dev.calm_evtRated code inst name d).1]
@[simp] theorem Dev.evtRated_ques (d : Dev) (code inst : Nat) (name : List Nat) : (d.evtRated code inst name).ques = d.ques := by rw [(Dev.calm_evtRated code inst name d).1]
@[simp] theorem Dev.evtRated_sig (d : Dev) (code inst : Nat) (name : List Nat) : (d.evtRated code inst name).sig = d.sig := by rw [(Dev.calm_evtRated code inst name d).1]
@[simp] theorem Dev.evtRated_jrn (d : Dev) (code inst : Nat) (name : List Nat) : (d.evtRated code inst name).jrn = d.jrn := by rw [(Dev.calm_evtRated code inst name d).1]
@[simp] theorem Dev.evtRated_lnk (d : Dev) (code inst : Nat) (name : List Nat) : (d.evtRated code inst name).lnk = d.lnk := by rw [(Dev.calm_evtRated code inst name d).1]
@[simp] theorem Dev.evtRated_axus (d : Dev) (code inst : Nat) (name : List Nat) : (d.evtRated code inst name).axus = d.axus := by rw [(Dev.calm_evtRated code inst name d).1]
@[simp] theorem Dev.evtRated_sents (d : Dev) (code inst : Nat) (name : List Nat) : (d.evtRated code inst name).sents = d.sents := by rw [(Dev.calm_evtRated code inst name d).1]
@[simp] theorem Dev.evtRated_gioRaw (d : Dev) (code inst : Nat) (name : List Nat) : (d.evtRated code inst name).gioRaw = d.gioRaw := by rw [(Dev.calm_evtRated code inst name d).1]
@[simp] theorem Dev.evtRated_cvus (d : Dev) (code inst : Nat) (name : List Nat) : (d.evtRated code inst name).cvus = d.cvus := by rw [(Dev.calm_evtRated code inst name d).1]
@[simp] theorem Dev.evtRated_chgs (d : Dev) (code inst : Nat) (name : List Nat) : (d.evtRated code inst name).chgs = d.chgs := by rw [(Dev.calm_evtRated code inst name d).1]
@[simp] theorem Dev.evtRated_thm (d : Dev) (code inst : Nat) (name : List Nat) : (d.evtRated code inst name).thm = d.thm := by rw [(Dev.calm_evtRated code inst name d).1]
@[simp] theorem Dev.evtRated_bkg (d : Dev) (code inst : Nat) (name : List Nat) : (d.evtRated code inst name).bkg = d.bkg := by rw [(Dev.calm_evtRated code inst name d).1]
@[simp] theorem Dev.evtRated_sec (d : Dev) (code inst : Nat) (name : List Nat) : (d.evtRated code inst name).sec = d.sec := by rw [(Dev.calm_evtRated code inst name d).1]
@[simp] theorem Dev.evtRated_sup (d : Dev) (code inst : Nat) (name : List Nat) : (d.evtRated code inst name).sup = d.sup := by rw [(Dev.calm_evtRated code inst name d).1]
@[simp] theorem Dev.evtRated_asked (d : Dev) (code inst : Nat) (name : List Nat) : (d.evtRated code inst name).asked = d.asked := by rw [(Dev.calm_evtRated code inst name d).1]

/-! ### lockedWrite -/

@[simp] theorem Dev.rd_lockedWrite (d : Dev) (t a : Nat) (x : Nat) (h : isEvtReg x = false) : (d.lockedWrite t a).rd x = d.rd x := (Dev.calm_lockedWrite t a d).2 x h
@[simp] theorem Dev.fld_lockedWrite (d : Dev) (t a : Nat) (x : Nat) (f : Fld) (h : isEvtReg x = false) : (d.lockedWrite t a).fld x f = d.fld x f := by
  simp [Dev.fld, Dev.rd_lockedWrite _ t a _ h]
@[simp] theorem Dev.isSet_lockedWrite (d : Dev) (t a : Nat) (x : Nat) (f : Fld) (h : isEvtReg x = false) : (d.lockedWrite t a).isSet x f = d.isSet x f := by
  simp [Dev.isSet, Dev.fld_lockedWrite _ t a _ _ h]
@[simp] theorem Dev.sysState_lockedWrite (d : Dev) (t a : Nat) : (d.lockedWrite t a).sysState = d.sysState := Dev.fld_lockedWrite _ t a _ _ (by decide)
@[simp] theorem Dev.inRun_lockedWrite (d : Dev) (t a : Nat) : (d.lockedWrite t a).inRun = d.inRun := by
  simp [Dev.inRun, Dev.sysState_lockedWrite _ t a]
@[simp] theorem Dev.lockedWrite_por (d : Dev) (t a : Nat) : (d.lockedWrite t a).por = d.por := by rw [(Dev.calm_lockedWrite t a d).1]
@[simp] theorem Dev.lockedWrite_tk (d : Dev) (t a : Nat) : (d.lockedWrite t a).tk = d.tk := by rw [(Dev.calm_lockedWrite t a d).1]
@[simp] theorem Dev.lockedWrite_cal (d : Dev) (t a : Nat) : (d.lockedWrite t a).cal = d.cal := by rw [(Dev.calm_lockedWrite t a d).1]
@[simp] theorem Dev.lockedWrite_vcore (d : Dev) (t a : Nat) : (d.lockedWrite t a).vcore = d.vcore := by rw [(Dev.calm_lockedWrite t a d).1]
@[simp] theorem Dev.lockedWrite_boot (d : Dev) (t a : Nat) : (d.lockedWrite t a).boot = d.boot := by rw [(Dev.calm_lockedWrite t a d).1]
@[simp] theorem Dev.lockedWrite_img (d : Dev) (t a : Nat) : (d.lockedWrite t a).img = d.img := by rw [(Dev.calm_lockedWrite t a d).1]
@[simp] theorem Dev.lockedWrite_flash (d : Dev) (t a : Nat) : (d.lockedWrite t a).flash = d.flash := by rw [(Dev.calm_lockedWrite t a d).1]
@[simp] theorem Dev.lockedWrite_sram (d : Dev) (t a : Nat) : (d.lockedWrite t a).sram = d.sram := by rw [(Dev.calm_lockedWrite t a d).1]
@[simp] theorem Dev.lockedWrite_coef (d : Dev) (t a : Nat) : (d.lockedWrite t a).coef = d.coef := by rw [(Dev.calm_lockedWrite t a d).1]
@[simp] theorem Dev.lockedWrite_sigt (d : Dev) (t a : Nat) : (d.lockedWrite t a).sigt = d.sigt := by rw [(Dev.calm_lockedWrite t a d).1]
@[simp] theorem Dev.lockedWrite_mram (d : Dev) (t a : Nat) : (d.lockedWrite t a).mram = d.mram := by rw [(Dev.calm_lockedWrite t a d).1]
@[simp] theorem Dev.lockedWrite_legs (d : Dev) (t a : Nat) : (d.lockedWrite t a).legs = d.legs := by rw [(Dev.calm_lockedWrite t a d).1]
@[simp] theorem Dev.lockedWrite_convs (d : Dev) (t a : Nat) : (d.lockedWrite t a).convs = d.convs := by rw [(Dev.calm_lockedWrite t a d).1]
@[simp] theorem Dev.lockedWrite_seqs (d : Dev) (t a : Nat) : (d.lockedWrite t a).seqs = d.seqs := by rw [(Dev.calm_lockedWrite t a d).1]
@[simp] theorem Dev.lockedWrite_slots (d : Dev) (t a : Nat) : (d.lockedWrite t a).slots = d.slots := by rw [(Dev.calm_lockedWrite t a d).1]
@[simp] theorem Dev.lockedWrite_dsms (d : Dev) (t a : Nat) : (d.lockedWrite t a).dsms = d.dsms := by rw [(Dev.calm_lockedWrite t a d).1]
@[simp] theorem Dev.lockedWrite_cmps (d : Dev) (t a : Nat) : (d.lockedWrite t a).cmps = d.cmps := by rw [(Dev.calm_lockedWrite t a d).1]
@[simp] theorem Dev.lockedWrite_trps (d : Dev) (t a : Nat) : (d.lockedWrite t a).trps = d.trps := by rw [(Dev.calm_lockedWrite t a d).1]
@[simp] theorem Dev.lockedWrite_cascs (d : Dev) (t a : Nat) : (d.lockedWrite t a).cascs = d.cascs := by rw [(Dev.calm_lockedWrite t a d).1]
@[simp] theorem Dev.lockedWrite_pairs (d : Dev) (t a : Nat) : (d.lockedWrite t a).pairs = d.pairs := by rw [(Dev.calm_lockedWrite t a d).1]
@[simp] theorem Dev.lockedWrite_words (d : Dev) (t a : Nat) : (d.lockedWrite t a).words = d.words := by rw [(Dev.calm_lockedWrite t a d).1]
@[simp] theorem Dev.lockedWrite_red (d : Dev) (t a : Nat) : (d.lockedWrite t a).red = d.red := by rw [(Dev.calm_lockedWrite t a d).1]
@[simp] theorem Dev.lockedWrite_triads (d : Dev) (t a : Nat) : (d.lockedWrite t a).triads = d.triads := by rw [(Dev.calm_lockedWrite t a d).1]
@[simp] theorem Dev.lockedWrite_ports (d : Dev) (t a : Nat) : (d.lockedWrite t a).ports = d.ports := by rw [(Dev.calm_lockedWrite t a d).1]
@[simp] theorem Dev.lockedWrite_ques (d : Dev) (t a : Nat) : (d.lockedWrite t a).ques = d.ques := by rw [(Dev.calm_lockedWrite t a d).1]
@[simp] theorem Dev.lockedWrite_sig (d : Dev) (t a : Nat) : (d.lockedWrite t a).sig = d.sig := by rw [(Dev.calm_lockedWrite t a d).1]
@[simp] theorem Dev.lockedWrite_jrn (d : Dev) (t a : Nat) : (d.lockedWrite t a).jrn = d.jrn := by rw [(Dev.calm_lockedWrite t a d).1]
@[simp] theorem Dev.lockedWrite_lnk (d : Dev) (t a : Nat) : (d.lockedWrite t a).lnk = d.lnk := by rw [(Dev.calm_lockedWrite t a d).1]
@[simp] theorem Dev.lockedWrite_axus (d : Dev) (t a : Nat) : (d.lockedWrite t a).axus = d.axus := by rw [(Dev.calm_lockedWrite t a d).1]
@[simp] theorem Dev.lockedWrite_sents (d : Dev) (t a : Nat) : (d.lockedWrite t a).sents = d.sents := by rw [(Dev.calm_lockedWrite t a d).1]
@[simp] theorem Dev.lockedWrite_gioRaw (d : Dev) (t a : Nat) : (d.lockedWrite t a).gioRaw = d.gioRaw := by rw [(Dev.calm_lockedWrite t a d).1]
@[simp] theorem Dev.lockedWrite_cvus (d : Dev) (t a : Nat) : (d.lockedWrite t a).cvus = d.cvus := by rw [(Dev.calm_lockedWrite t a d).1]
@[simp] theorem Dev.lockedWrite_chgs (d : Dev) (t a : Nat) : (d.lockedWrite t a).chgs = d.chgs := by rw [(Dev.calm_lockedWrite t a d).1]
@[simp] theorem Dev.lockedWrite_thm (d : Dev) (t a : Nat) : (d.lockedWrite t a).thm = d.thm := by rw [(Dev.calm_lockedWrite t a d).1]
@[simp] theorem Dev.lockedWrite_bkg (d : Dev) (t a : Nat) : (d.lockedWrite t a).bkg = d.bkg := by rw [(Dev.calm_lockedWrite t a d).1]
@[simp] theorem Dev.lockedWrite_sec (d : Dev) (t a : Nat) : (d.lockedWrite t a).sec = d.sec := by rw [(Dev.calm_lockedWrite t a d).1]
@[simp] theorem Dev.lockedWrite_sup (d : Dev) (t a : Nat) : (d.lockedWrite t a).sup = d.sup := by rw [(Dev.calm_lockedWrite t a d).1]
@[simp] theorem Dev.lockedWrite_asked (d : Dev) (t a : Nat) : (d.lockedWrite t a).asked = d.asked := by rw [(Dev.calm_lockedWrite t a d).1]

/-! ### unmapped -/

@[simp] theorem Dev.rd_unmapped (d : Dev) (t a : Nat) (w : Bool) (x : Nat) (h : isEvtReg x = false) : (d.unmapped t a w).rd x = d.rd x := (Dev.calm_unmapped t a w d).2 x h
@[simp] theorem Dev.fld_unmapped (d : Dev) (t a : Nat) (w : Bool) (x : Nat) (f : Fld) (h : isEvtReg x = false) : (d.unmapped t a w).fld x f = d.fld x f := by
  simp [Dev.fld, Dev.rd_unmapped _ t a w _ h]
@[simp] theorem Dev.isSet_unmapped (d : Dev) (t a : Nat) (w : Bool) (x : Nat) (f : Fld) (h : isEvtReg x = false) : (d.unmapped t a w).isSet x f = d.isSet x f := by
  simp [Dev.isSet, Dev.fld_unmapped _ t a w _ _ h]
@[simp] theorem Dev.sysState_unmapped (d : Dev) (t a : Nat) (w : Bool) : (d.unmapped t a w).sysState = d.sysState := Dev.fld_unmapped _ t a w _ _ (by decide)
@[simp] theorem Dev.inRun_unmapped (d : Dev) (t a : Nat) (w : Bool) : (d.unmapped t a w).inRun = d.inRun := by
  simp [Dev.inRun, Dev.sysState_unmapped _ t a w]
@[simp] theorem Dev.unmapped_por (d : Dev) (t a : Nat) (w : Bool) : (d.unmapped t a w).por = d.por := by rw [(Dev.calm_unmapped t a w d).1]
@[simp] theorem Dev.unmapped_tk (d : Dev) (t a : Nat) (w : Bool) : (d.unmapped t a w).tk = d.tk := by rw [(Dev.calm_unmapped t a w d).1]
@[simp] theorem Dev.unmapped_cal (d : Dev) (t a : Nat) (w : Bool) : (d.unmapped t a w).cal = d.cal := by rw [(Dev.calm_unmapped t a w d).1]
@[simp] theorem Dev.unmapped_vcore (d : Dev) (t a : Nat) (w : Bool) : (d.unmapped t a w).vcore = d.vcore := by rw [(Dev.calm_unmapped t a w d).1]
@[simp] theorem Dev.unmapped_boot (d : Dev) (t a : Nat) (w : Bool) : (d.unmapped t a w).boot = d.boot := by rw [(Dev.calm_unmapped t a w d).1]
@[simp] theorem Dev.unmapped_img (d : Dev) (t a : Nat) (w : Bool) : (d.unmapped t a w).img = d.img := by rw [(Dev.calm_unmapped t a w d).1]
@[simp] theorem Dev.unmapped_flash (d : Dev) (t a : Nat) (w : Bool) : (d.unmapped t a w).flash = d.flash := by rw [(Dev.calm_unmapped t a w d).1]
@[simp] theorem Dev.unmapped_sram (d : Dev) (t a : Nat) (w : Bool) : (d.unmapped t a w).sram = d.sram := by rw [(Dev.calm_unmapped t a w d).1]
@[simp] theorem Dev.unmapped_coef (d : Dev) (t a : Nat) (w : Bool) : (d.unmapped t a w).coef = d.coef := by rw [(Dev.calm_unmapped t a w d).1]
@[simp] theorem Dev.unmapped_sigt (d : Dev) (t a : Nat) (w : Bool) : (d.unmapped t a w).sigt = d.sigt := by rw [(Dev.calm_unmapped t a w d).1]
@[simp] theorem Dev.unmapped_mram (d : Dev) (t a : Nat) (w : Bool) : (d.unmapped t a w).mram = d.mram := by rw [(Dev.calm_unmapped t a w d).1]
@[simp] theorem Dev.unmapped_legs (d : Dev) (t a : Nat) (w : Bool) : (d.unmapped t a w).legs = d.legs := by rw [(Dev.calm_unmapped t a w d).1]
@[simp] theorem Dev.unmapped_convs (d : Dev) (t a : Nat) (w : Bool) : (d.unmapped t a w).convs = d.convs := by rw [(Dev.calm_unmapped t a w d).1]
@[simp] theorem Dev.unmapped_seqs (d : Dev) (t a : Nat) (w : Bool) : (d.unmapped t a w).seqs = d.seqs := by rw [(Dev.calm_unmapped t a w d).1]
@[simp] theorem Dev.unmapped_slots (d : Dev) (t a : Nat) (w : Bool) : (d.unmapped t a w).slots = d.slots := by rw [(Dev.calm_unmapped t a w d).1]
@[simp] theorem Dev.unmapped_dsms (d : Dev) (t a : Nat) (w : Bool) : (d.unmapped t a w).dsms = d.dsms := by rw [(Dev.calm_unmapped t a w d).1]
@[simp] theorem Dev.unmapped_cmps (d : Dev) (t a : Nat) (w : Bool) : (d.unmapped t a w).cmps = d.cmps := by rw [(Dev.calm_unmapped t a w d).1]
@[simp] theorem Dev.unmapped_trps (d : Dev) (t a : Nat) (w : Bool) : (d.unmapped t a w).trps = d.trps := by rw [(Dev.calm_unmapped t a w d).1]
@[simp] theorem Dev.unmapped_cascs (d : Dev) (t a : Nat) (w : Bool) : (d.unmapped t a w).cascs = d.cascs := by rw [(Dev.calm_unmapped t a w d).1]
@[simp] theorem Dev.unmapped_pairs (d : Dev) (t a : Nat) (w : Bool) : (d.unmapped t a w).pairs = d.pairs := by rw [(Dev.calm_unmapped t a w d).1]
@[simp] theorem Dev.unmapped_words (d : Dev) (t a : Nat) (w : Bool) : (d.unmapped t a w).words = d.words := by rw [(Dev.calm_unmapped t a w d).1]
@[simp] theorem Dev.unmapped_red (d : Dev) (t a : Nat) (w : Bool) : (d.unmapped t a w).red = d.red := by rw [(Dev.calm_unmapped t a w d).1]
@[simp] theorem Dev.unmapped_triads (d : Dev) (t a : Nat) (w : Bool) : (d.unmapped t a w).triads = d.triads := by rw [(Dev.calm_unmapped t a w d).1]
@[simp] theorem Dev.unmapped_ports (d : Dev) (t a : Nat) (w : Bool) : (d.unmapped t a w).ports = d.ports := by rw [(Dev.calm_unmapped t a w d).1]
@[simp] theorem Dev.unmapped_ques (d : Dev) (t a : Nat) (w : Bool) : (d.unmapped t a w).ques = d.ques := by rw [(Dev.calm_unmapped t a w d).1]
@[simp] theorem Dev.unmapped_sig (d : Dev) (t a : Nat) (w : Bool) : (d.unmapped t a w).sig = d.sig := by rw [(Dev.calm_unmapped t a w d).1]
@[simp] theorem Dev.unmapped_jrn (d : Dev) (t a : Nat) (w : Bool) : (d.unmapped t a w).jrn = d.jrn := by rw [(Dev.calm_unmapped t a w d).1]
@[simp] theorem Dev.unmapped_lnk (d : Dev) (t a : Nat) (w : Bool) : (d.unmapped t a w).lnk = d.lnk := by rw [(Dev.calm_unmapped t a w d).1]
@[simp] theorem Dev.unmapped_axus (d : Dev) (t a : Nat) (w : Bool) : (d.unmapped t a w).axus = d.axus := by rw [(Dev.calm_unmapped t a w d).1]
@[simp] theorem Dev.unmapped_sents (d : Dev) (t a : Nat) (w : Bool) : (d.unmapped t a w).sents = d.sents := by rw [(Dev.calm_unmapped t a w d).1]
@[simp] theorem Dev.unmapped_gioRaw (d : Dev) (t a : Nat) (w : Bool) : (d.unmapped t a w).gioRaw = d.gioRaw := by rw [(Dev.calm_unmapped t a w d).1]
@[simp] theorem Dev.unmapped_cvus (d : Dev) (t a : Nat) (w : Bool) : (d.unmapped t a w).cvus = d.cvus := by rw [(Dev.calm_unmapped t a w d).1]
@[simp] theorem Dev.unmapped_chgs (d : Dev) (t a : Nat) (w : Bool) : (d.unmapped t a w).chgs = d.chgs := by rw [(Dev.calm_unmapped t a w d).1]
@[simp] theorem Dev.unmapped_thm (d : Dev) (t a : Nat) (w : Bool) : (d.unmapped t a w).thm = d.thm := by rw [(Dev.calm_unmapped t a w d).1]
@[simp] theorem Dev.unmapped_bkg (d : Dev) (t a : Nat) (w : Bool) : (d.unmapped t a w).bkg = d.bkg := by rw [(Dev.calm_unmapped t a w d).1]
@[simp] theorem Dev.unmapped_sec (d : Dev) (t a : Nat) (w : Bool) : (d.unmapped t a w).sec = d.sec := by rw [(Dev.calm_unmapped t a w d).1]
@[simp] theorem Dev.unmapped_sup (d : Dev) (t a : Nat) (w : Bool) : (d.unmapped t a w).sup = d.sup := by rw [(Dev.calm_unmapped t a w d).1]
@[simp] theorem Dev.unmapped_asked (d : Dev) (t a : Nat) (w : Bool) : (d.unmapped t a w).asked = d.asked := by rw [(Dev.calm_unmapped t a w d).1]

/-! ## Conditional operations -/

theorem Dev.when_true (op : Dev → Dev) (d : Dev) : d.when true op = op d := rfl
theorem Dev.when_false (op : Dev → Dev) (d : Dev) : d.when false op = d := rfl
theorem Dev.whenSome_some {α : Type} (x : α) (op : α → Dev → Dev) (d : Dev) : d.whenSome (some x) op = op x d := rfl
theorem Dev.whenSome_nothing {α : Type} (op : α → Dev → Dev) (d : Dev) : d.whenSome none op = d := rfl
theorem Dev.forEach_nil (op : Nat → Dev → Dev) (d : Dev) : d.forEach [] op = d := rfl
theorem Dev.forEach_cons (x : Nat) (r : List Nat) (op : Nat → Dev → Dev) (d : Dev) : d.forEach (x :: r) op = (op x d).forEach r op := rfl

/-- What each round keeps, the whole keeps. -/
theorem Dev.forEach_ind (P : Dev → Prop) (op : Nat → Dev → Dev) (xs : List Nat) (h : ∀ n ∈ xs, ∀ d, P d → P (op n d)) :
    ∀ d, P d → P (Dev.forEach xs op d) := by
  induction xs with
  | nil => exact fun d hd => hd
  | cons x r ih => exact fun d hd => ih (fun n hn => h n (List.mem_cons_of_mem _ hn)) _ (h x (List.mem_cons_self ..) d hd)

/-! ## The record of an event -/

@[simp] theorem Dev.raiseLine_log (d : Dev) (t l : Nat) : (d.raiseLine t l).log = d.log := by
  unfold Dev.raiseLine; split <;> rfl

theorem Dev.raiseWhere_log (d : Dev) (p : Nat → W → Bool) : (d.raiseWhere p).log = d.log := by
  unfold Dev.raiseWhere
  generalize configLines = xs
  induction xs generalizing d with
  | nil => rfl
  | cons x r ih =>
    rw [List.foldl_cons, ih]
    split
    · exact Dev.raiseLine_log _ _ _
    · rfl

theorem Dev.logEvent_log (d : Dev) (cls code src : Nat) (data : List Byte) :
    (d.logEvent cls code src data).log =
      Tab.set (d.fld SYS_EVT_HEAD SYS_EVT_HEAD_HEAD) ⟨d.now, d.rd RTC_SEC, code, src, cls, data⟩ d.log := by
  unfold Dev.logEvent
  rw [Dev.raiseWhere_log]
  rfl

/-- An event is recorded at the index where the next record belongs (R72). -/
theorem logged_logEvent (d : Dev) (cls code src : Nat) (data : List Byte) : logged d (d.logEvent cls code src data) code := by
  unfold logged
  rw [Dev.logEvent_log, Tab.getD_set_self]

theorem Dev.rated_log (d : Dev) (cls code inst gap : Nat) (mk : Nat → List Byte) :
    (d.rated cls code inst gap mk).log = d.log ∨
      ∃ r, (d.rated cls code inst gap mk).log = Tab.set (d.fld SYS_EVT_HEAD SYS_EVT_HEAD_HEAD) r d.log := by
  unfold Dev.rated
  dsimp only
  repeat' split
  all_goals first
    | exact Or.inl rfl
    | exact Or.inr ⟨_, Dev.logEvent_log _ _ _ _ _⟩

theorem Dev.toSafeq_log (d : Dev) (c : Nat) :
    (d.toSafeq c).log = d.log ∨ ∃ r, (d.toSafeq c).log = Tab.set (d.fld SYS_EVT_HEAD SYS_EVT_HEAD_HEAD) r d.log := by
  unfold Dev.toSafeq
  split
  · exact Or.inl (Dev.raiseLine_log _ _ _)
  · exact Dev.rated_log _ _ _ _ _ _

theorem Dev.raiseLine_fld (d : Dev) (t l a : Nat) (f : Fld) (h : t < 4) (ha : ∀ k < 4, a ≠ COR_EVPEND0 k ∧ a ≠ COR_EVPEND1 k) :
    (d.raiseLine t l).fld a f = d.fld a f := by
  unfold Dev.raiseLine Dev.putBit
  split
  · exact Dev.fld_wr_ne _ _ _ _ _ (ha t h).1
  · exact Dev.fld_wr_ne _ _ _ _ _ (ha t h).2

theorem Dev.raiseWhere_fld (d : Dev) (p : Nat → W → Bool) (a : Nat) (f : Fld)
    (ha : ∀ k < 4, a ≠ COR_EVPEND0 k ∧ a ≠ COR_EVPEND1 k) : (d.raiseWhere p).fld a f = d.fld a f := by
  unfold Dev.raiseWhere
  have hc := configLines_lt
  generalize configLines = xs at hc
  induction xs generalizing d with
  | nil => rfl
  | cons x r ih =>
    rw [List.foldl_cons, ih _ (fun y hy => hc y (by simp [hy]))]
    split
    · exact Dev.raiseLine_fld _ _ _ _ _ (hc x (by simp)) ha
    · rfl

/-- The next record belongs after the one just made. -/
theorem Dev.head_logEvent (d : Dev) (cls code src : Nat) (data : List Byte) :
    (d.logEvent cls code src data).fld SYS_EVT_HEAD SYS_EVT_HEAD_HEAD = (d.fld SYS_EVT_HEAD SYS_EVT_HEAD_HEAD + 1) % 1024 := by
  unfold Dev.logEvent
  rw [Dev.raiseWhere_fld _ _ _ _ (by decide)]
  have h1 : SYS_EVT_HEAD ≠ SYS_EVT_CNT := by decide
  have h2 : SYS_EVT_HEAD_HEAD.lo + SYS_EVT_HEAD_HEAD.wd ≤ 32 := by decide
  unfold Dev.inc32
  rw [Dev.fld_wr_ne _ _ _ _ _ h1, Dev.fld_setF_self _ _ _ _ h2]
  show _ % 1024 % 1024 = _ % 1024
  rw [Nat.mod_mod]

theorem Dev.head_lt (d : Dev) : d.fld SYS_EVT_HEAD SYS_EVT_HEAD_HEAD < 1024 := by
  unfold Dev.fld W.fld bitsOf
  exact Nat.mod_lt _ (by decide)

theorem Dev.head_moves (d : Dev) (cls code src : Nat) (data : List Byte) :
    (d.logEvent cls code src data).fld SYS_EVT_HEAD SYS_EVT_HEAD_HEAD ≠ d.fld SYS_EVT_HEAD SYS_EVT_HEAD_HEAD := by
  rw [Dev.head_logEvent]
  have := d.head_lt
  omega

theorem logged_evtC (d : Dev) (cls code src : Nat) (data : List Nat) : logged d (d.evtC cls code src data) code := by
  unfold Dev.evtC
  dsimp only
  split
  · rcases Dev.toSafeq_log (d.logEvent cls code src (dat data)) code with h | ⟨r, h⟩
    · unfold logged
      rw [h]
      exact logged_logEvent d cls code src (dat data)
    · unfold logged
      rw [h, Tab.getD_set_ne _ _ _ _ _ (Dev.head_moves _ _ _ _ _).symm]
      exact logged_logEvent d cls code src (dat data)
  · exact logged_logEvent _ _ _ _ _

/-- The record of an event at the index where it belongs. -/
theorem logged_evt (d : Dev) (code : Nat) (data : List Nat) : logged d (d.evt code data) code := logged_evtC _ _ _ _ _

/-- Where the log and its head were left alone before, the record stands at the same index. -/
theorem logged_congr {d e f : Dev} {code : Nat} (h : logged e f code)
    (hh : e.fld SYS_EVT_HEAD SYS_EVT_HEAD_HEAD = d.fld SYS_EVT_HEAD SYS_EVT_HEAD_HEAD) : logged d f code := by
  unfold logged at *
  rw [← hh]; exact h

@[simp] theorem logged_evt_of (d f : Dev) (code : Nat) (data : List Nat)
    (h : f.fld SYS_EVT_HEAD SYS_EVT_HEAD_HEAD = d.fld SYS_EVT_HEAD SYS_EVT_HEAD_HEAD) : logged d (f.evt code data) code :=
  logged_congr (logged_evt f code data) h

@[simp] theorem logged_evtC_of (d f : Dev) (cls code src : Nat) (data : List Nat)
    (h : f.fld SYS_EVT_HEAD SYS_EVT_HEAD_HEAD = d.fld SYS_EVT_HEAD SYS_EVT_HEAD_HEAD) : logged d (f.evtC cls code src data) code :=
  logged_congr (logged_evtC f cls code src data) h

@[simp] theorem logged_mk (X d : Dev) {x0 x1 x2 x3 x4 x5 x7 x8 x9 x10 x11 x12 x13 x14 x15 x16 x17 x18 x19 x20 x21 x22 x23 x24 x25 x26 x27 x28 x29 x30 x31 x32 x33 x34 x35 x36 x37 x38 x39 x40 x41 x42} (code : Nat) : logged d (Dev.mk x0 x1 x2 x3 x4 x5 X.log x7 x8 x9 x10 x11 x12 x13 x14 x15 x16 x17 x18 x19 x20 x21 x22 x23 x24 x25 x26 x27 x28 x29 x30 x31 x32 x33 x34 x35 x36 x37 x38 x39 x40 x41 x42) code ↔ logged d X code := Iff.rfl
@[simp] theorem logged_wr (d e : Dev) (a : Nat) (v : W) (code : Nat) : logged d (e.wr a v) code ↔ logged d e code := Iff.rfl
@[simp] theorem logged_setF (d e : Dev) (a : Nat) (f : Fld) (v : Nat) (code : Nat) : logged d (e.setF a f v) code ↔ logged d e code := Iff.rfl
@[simp] theorem logged_putBit (d e : Dev) (a i : Nat) (b : Bool) (code : Nat) : logged d (e.putBit a i b) code ↔ logged d e code := Iff.rfl
@[simp] theorem logged_addSat (d e : Dev) (a : Nat) (f : Fld) (k : Nat) (code : Nat) : logged d (e.addSat a f k) code ↔ logged d e code := Iff.rfl
@[simp] theorem logged_incSat (d e : Dev) (a : Nat) (f : Fld) (code : Nat) : logged d (e.incSat a f) code ↔ logged d e code := Iff.rfl
@[simp] theorem logged_inc32 (d e : Dev) (a : Nat) (code : Nat) : logged d (e.inc32 a) code ↔ logged d e code := Iff.rfl
@[simp] theorem logged_wr64 (d e : Dev) (lo hi : Nat) (v : BitVec 64) (code : Nat) : logged d (e.wr64 lo hi v) code ↔ logged d e code := Iff.rfl
@[simp] theorem logged_setSys (d e : Dev) (st : Nat) (code : Nat) : logged d (e.setSys st) code ↔ logged d e code := Iff.rfl
@[simp] theorem logged_modTriad (d e : Dev) (t : Nat) (g : Triad → Triad) (code : Nat) : logged d (e.modTriad t g) code ↔ logged d e code := Iff.rfl
@[simp] theorem logged_raiseWhere (d e : Dev) (p : Nat → W → Bool) (code : Nat) : logged d (e.raiseWhere p) code ↔ logged d e code := by simp only [logged, Dev.raiseWhere_log]

theorem logged_of_log {d e f : Dev} {code : Nat} (h : logged d e code) (hl : f.log = e.log) : logged d f code := by
  unfold logged at *
  rw [hl]; exact h

end Sys2Proof.Machine
end

