-- ==== Sys2Proof/Laws/Analogue.lean ====
section
/-! SUPPORT. What the commands of the converters, the ΔΣ channels, the window comparators and the trip matrix do (chapters 05 and 06). -/

namespace Sys2Proof.Machine

theorem Dev.conv_modConv (d : Dev) (n : Nat) (g : Conv → Conv) : (d.modConv n g).conv n = g (d.conv n) := Tab.getD_set_self _ _ _ _
theorem Dev.adcSlot_modSlot (d : Dev) (k : Nat) (g : AdcSlot → AdcSlot) : (d.modSlot k g).adcSlot k = g (d.adcSlot k) := Tab.getD_set_self _ _ _ _

/-- ADC_SPARE_CAL_DONE. -/
theorem does_adcSpareCalDone (d : Dev) (ofs : Int) (gain : Nat) (inl : Int) (h0 : d.spareConv < 9) (h1 : ((d.calResult d.spareConv ofs gain inl).conv d.spareConv).lastBad = false) : let e := d.spareCalDone ofs gain inl; let m := (d.calResult d.spareConv ofs gain inl).setF ADC_STAT ADC_STAT_CALBUSY 0; e = m.whenSome m.swapSlot (fun k x => x.modSlot k (fun y => { y with wantSince := some x.now })) := by
  intro e m
  simp only [e]; unfold Dev.spareCalDone; dsimp only; rw [if_neg (Nat.not_le.2 h0), if_neg (by rw [h1]; decide)]

/-- ADC_SWAP_CHECK. -/
theorem does_adcSwapCheck (d : Dev) (k : Fin 8) (outgoing incoming : Int) (h0 : d.spareConv < 9) (h1 : d.slotConv k < 9) (h2 : d.isSet ADC_STAT ADC_STAT_CALBUSY = false) (h3 : d.slotFree k = true) (h4 : (d.adcSlot k).wantSince.isSome = true) (h5 : (outgoing - incoming).natAbs ≤ 8) : let e := d.swapCheck k outgoing incoming; e.slotConv k = d.spareConv ∧ e.spareConv = d.slotConv k ∧ e.isSet ADC_STAT ADC_STAT_CALBUSY = true ∧ (e.adcSlot k).wantSince = none := by
  intro e
  have hs : e = ({ ((((d.modConv (d.slotConv k) (fun c => { c with prev := some (125, 0, 0), settle := c.settle - 1, lastConv := d.now })).modConv d.spareConv (fun c => { c with prev := some (125, 0, 0), settle := c.settle - 1, lastConv := d.now })).modSlot k (fun x => { x with wantSince := none })).setF ADC_SLOTMAP ⟨4 * k.val, 4⟩ d.spareConv).setF ADC_STAT ADC_STAT_SPARE (d.slotConv k) with bkg := { d.bkg with calFirst := d.bkg.calFirst.filter (· ≠ d.slotConv k) } } : Dev).setF ADC_STAT ADC_STAT_CALBUSY 1 := by
    simp only [e]; unfold Dev.swapCheck; dsimp only
    rw [h2, h3, if_neg, if_pos h5]
    · rfl
    · intro hc
      simp only [Bool.or_eq_true, decide_eq_true_eq] at hc
      rcases hc with (((hc | hc) | hc) | hc) | hc
      · omega
      · omega
      · exact absurd hc (by decide)
      · exact absurd hc (by decide)
      · rw [Option.isNone_iff_eq_none] at hc
        rw [hc] at h4
        exact absurd h4 (by decide)
  have hk : 4 * k.val + 4 ≤ 32 := by omega
  rw [hs]
  refine ⟨?_, ?_, ?_, ?_⟩
  · unfold Dev.slotConv
    rw [Dev.fld_setF_ne _ _ _ _ _ _ (by decide), Dev.fld_mk, Dev.fld_setF_ne _ _ _ _ _ _ (by decide), Dev.fld_setF_self _ _ _ _ hk]
    exact Nat.mod_eq_of_lt (Nat.lt_trans h0 (show 9 < 2 ^ 4 by decide))
  · unfold Dev.spareConv
    rw [Dev.fld_setF_field _ _ _ _ _ (by decide) (by decide), Dev.fld_mk, Dev.fld_setF_self _ _ _ _ (by decide)]
    exact Nat.mod_eq_of_lt (Nat.lt_trans h1 (by decide))
  · rw [Dev.isSet_setF_self _ _ _ _ (by decide)]; rfl
  · exact congrArg AdcSlot.wantSince (Dev.adcSlot_modSlot ((d.modConv (d.slotConv k) (fun c => { c with prev := some (125, 0, 0), settle := c.settle - 1, lastConv := d.now })).modConv d.spareConv (fun c => { c with prev := some (125, 0, 0), settle := c.settle - 1, lastConv := d.now })) k.val (fun x => { x with wantSince := none }))

/-- SWAP_DEFERRED. -/
theorem does_swapDeferred (d : Dev) (k : Fin 8) (r : Time) (h0 : (d.adcSlot k).wantSince = some r) (h1 : 10 * msTicks ≤ d.since r) : let e := d.swapDeferred k; e.isSet ADC_FLT ADC_FLT_SWAPDEF = true ∧ e.bkg.deferred = d.bkg.deferred + 1 := by
  intro e
  simp only [e]; unfold Dev.swapDeferred; rw [h0]; dsimp only; rw [if_pos h1]
  rw [Dev.isSet_evtRated _ _ _ _ _ _ (by decide), Dev.evtRated_bkg, Dev.isSet_setF_self _ _ _ _ (by decide)]
  exact ⟨rfl, rfl⟩

/-- ADC_CAL_AGED. -/
theorem does_adcCalAged (d : Dev) (n : Fin 9) (h0 : 200 * msTicks ≤ d.since (d.conv n).calAt) : let e := d.calAgedConv n; e.isSet (ADC_CALAGE n) ADC_CALAGE_AGED = true ∧ onlyRegs [ADC_CALAGE n] d e ∧ sameMem d e := by
  intro e
  have hs : e = d.setF (ADC_CALAGE n) ADC_CALAGE_AGED 1 := by simp only [e]; unfold Dev.calAgedConv; rw [if_pos h0]
  rw [hs]
  exact ⟨by rw [Dev.isSet_setF_self _ _ _ _ (by decide)]; rfl, fun a ha _ => Dev.rd_setF_ne _ _ _ _ _ (by simpa using ha), rfl, rfl, rfl, rfl, rfl, rfl⟩

/-- ADC_SEQGO_WRITE. -/
theorem does_adcSeqgoWrite (d : Dev) (v : W) : let e := d.seqGo v; e = d.forEach (oneBits 32 v.toNat) (fun s x => x.seqTrigger s false) := by
  intro e
  rfl

/-- ADC_GROUP_START. -/
theorem does_adcGroupStart (d : Dev) (q : Fin 32) (h0 : d.groupReady q = true) : let e := d.groupStart q; (e.seqRun q).waiting = false ∧ (e.seqRun q).busy = d.group q (d.seqRun q).grp := by
  intro e
  have hs : (e.seqRun q).waiting = false ∧ (e.seqRun q).busy = d.group q (d.seqRun q).grp := by
    simp only [e]; unfold Dev.groupStart; rw [h0]
    simp only [Bool.not_true, Bool.false_eq_true, if_false]
    unfold Dev.modSeq Dev.seqRun
    dsimp only
    rw [Tab.getD_set_self]
    exact ⟨rfl, rfl⟩
  exact ⟨hs.1, hs.2⟩

/-- ADC_CONVERSION_DONE. -/
theorem does_adcConversionDone_urgent (d : Dev) (k : Fin 8) (nv : Int) (high : Bool) (t : Nat) (h0 : (d.adcSlot k).urgent = some t) : let e := d.convDone k nv high; e = d.urgDone k t nv high := by
  intro e
  simp only [e]; unfold Dev.convDone; rw [h0]

/-- ADC_CONVERSION_DONE. -/
theorem does_adcConversionDone (d : Dev) (k : Fin 8) (nv : Int) (high : Bool) (p : Nat × Nat) (h0 : (d.adcSlot k).urgent = none) (h1 : (d.adcSlot k).busy = some p) : let e := d.convDone k nv high; e = d.stepDone k p.1 p.2 nv high := by
  intro e
  simp only [e]; unfold Dev.convDone; rw [h0, h1]

/-- ADC_URGREQ_WRITE. -/
theorem does_adcUrgreqWrite (d : Dev) (triad : Fin 4) (k : Fin 8) (v : W) (h0 : (d.rdOwn triad (ADC_URGREQ k)).bit 31 = false) (h1 : v.bit 31 = true) (h2 : ((v.fld ADC_URGREQ_ACQ < 8 || v.fld ADC_URGREQ_GAIN = 3 || (v.fld ADC_URGREQ_DIFF = 1 && (v.fld ADC_URGREQ_INPUT % 2 = 1 || 96 ≤ v.fld ADC_URGREQ_INPUT)) || (96 ≤ v.fld ADC_URGREQ_INPUT && v.fld ADC_URGREQ_GAIN ≠ 0)) : Bool) = false) : let e := d.urgWrite triad k v; e = ((d.wrOwn triad (ADC_URGREQ k) (v &&& 0x80FF07FF)).wrOwn triad (ADC_URGRES k) 0).modSlot k (fun x => { x with queue := x.queue ++ [triad.val] }) ∧ (e.adcSlot k).queue = (d.adcSlot k).queue ++ [triad.val] := by
  intro e
  have hs : e = ((d.wrOwn triad (ADC_URGREQ k) (v &&& 0x80FF07FF)).wrOwn triad (ADC_URGRES k) 0).modSlot k (fun x => { x with queue := x.queue ++ [triad.val] }) := by
    simp only [e]; unfold Dev.urgWrite; dsimp only; rw [h0, h1, if_neg (by decide), if_neg (by decide), h2]
    rfl
  exact ⟨hs, by rw [hs, Dev.adcSlot_modSlot]; rfl⟩

/-- ADC_URGENT_START. -/
theorem does_adcUrgentStart (d : Dev) (k : Fin 8) (t : Nat) (r : List Nat) (h0 : (d.adcSlot k).queue = t :: r) (h1 : d.slotFree k = true) (h2 : (d.waiters k).all (fun s => !(d.seqRun s).sched) = true) (h3 : d.fits k (d.now.toNat + (d.rdOwn t (ADC_URGREQ k)).fld ADC_URGREQ_ACQ * 80 + convTicks) = true) : let e := d.urgStart k; e = (d.modSlot k (fun x => { x with urgent := some t, queue := r })).wakeFor (d.slotConv k) := by
  intro e
  simp only [e]; unfold Dev.urgStart; rw [h0]; dsimp only; rw [h1, h2, h3]; rfl

/-- ADC_POWER_DOWN. -/
theorem does_adcPowerDown (d : Dev) (n : Fin 9) (h0 : d.isSet ADC_PDCFG ADC_PDCFG_PDEN = true) (h1 : d.spareConv ≠ n) (h2 : d.fld ADC_PDCFG ADC_PDCFG_IDLE * usTicks ≤ d.since (d.conv n).lastConv) (h3 : (List.range 8).any (fun k => d.slotConv k = n && !d.slotFree k) = false) : let e := d.powerDown n; (e.conv n).down = true ∧ onlyRegs [] d e ∧ sameMem d e := by
  intro e
  have hs : e = d.modConv n (fun c => { c with down := true }) := by
    simp only [e]; unfold Dev.powerDown; dsimp only
    rw [if_pos]
    have hx : decide (d.spareConv = n.val) = false := decide_eq_false h1
    rw [h0, hx, h3]
    simpa using h2
  rw [hs, Dev.conv_modConv]
  exact ⟨rfl, fun _ _ _ => rfl, rfl, rfl, rfl, rfl, rfl, rfl⟩

/-- ADC_WAKE. -/
theorem does_adcWake (d : Dev) (n : Fin 9) : let e := d.modConv n (fun c => { c with down := false }); (e.conv n).down = false ∧ onlyRegs [] d e ∧ sameMem d e := by
  intro e
  simp only [e, Dev.conv_modConv]
  exact ⟨trivial, fun _ _ _ => rfl, rfl, rfl, rfl, rfl, rfl, rfl⟩

/-- DSM_WINDOW_RESULT. -/
theorem does_dsmWindowResult (d : Dev) (n : Fin 32) (y : Int) (h0 : d.isSet (DSM_STAT n) DSM_STAT_RUN = true) (h1 : d.dsmRuns n = true) : let e := d.windowResult n y; e = (d.setF (DSM_STAT n) DSM_STAT_RUN 0).dsmOutput n y ((d.dsm n).winStart + BitVec.ofNat 64 (d.fld (DSM_CFG n) DSM_CFG_ORDER * (d.fld (DSM_CFG n) DSM_CFG_DEC - 1) * d.dsmClk n / 2)) := by
  intro e
  simp only [e]; unfold Dev.windowResult; rw [h0, h1]; rfl

/-- DSM_CONT_OUTPUT. -/
theorem does_dsmContOutput (d : Dev) (n : Fin 32) (y : Int) (h0 : d.dsmRuns n = true) (h1 : d.isSet (DSM_CFG n) DSM_CFG_MODE = true) : let e := d.contOutput n y; e = d.dsmOutput n y d.now := by
  intro e
  simp only [e]; unfold Dev.contOutput; rw [h0, h1]; rfl

/-- DSM_FAST_OUTPUT. -/
theorem does_dsmFastOutput (d : Dev) (n : Fin 32) (y : Int) (h0 : d.dsmRuns n = true) (h1 : d.isSet (DSM_OCCFG n) DSM_OCCFG_OCEN = true) (h2 : decide (signedOf 8 (d.fld (DSM_OCCFG n) DSM_OCCFG_OCHI) < y ∨ y < signedOf 8 (d.fld (DSM_OCCFG n) DSM_OCCFG_OCLO)) = true) (h3 : d.isSet (DSM_STAT n) DSM_STAT_OC = false) (h4 : d.fld (DSM_OCCFG n) DSM_OCCFG_OCCNT + 1 ≤ (d.dsm n).ocRun + 1) : let e := d.fastOutput n y; e = ((((d.modDsm n (fun x => { x with ocRun := x.ocRun + 1, okRun := 0 })).setF (DSM_STAT n) DSM_STAT_OC 1).setF (DSM_FLT n) DSM_FLT_OCTRIP 1).evtRated EV_DSM_OVERCURRENT n [n.val]).evalGroups := by
  intro e
  have hg : (d.modDsm n (fun x => { x with ocRun := x.ocRun + 1, okRun := 0 })).dsm n = { d.dsm n with ocRun := (d.dsm n).ocRun + 1, okRun := 0 } := Tab.getD_set_self _ _ _ _
  have hO : (d.modDsm n (fun x => { x with ocRun := x.ocRun + 1, okRun := 0 })).isSet (DSM_STAT n) DSM_STAT_OC = false := h3
  simp only [e]; unfold Dev.fastOutput; dsimp only
  rw [h0, h1, if_neg (by decide), h2]
  simp only [if_true]
  rw [hO, hg, if_pos (by simpa using h4)]

/-- DSM_STUCK. -/
theorem does_dsmStuck (d : Dev) (n : Fin 32) (stuck : Bool) (h0 : d.dsmRuns n = true) (h1 : stuck = true) : let e := d.dsmStuck n stuck; e = (((d.setF (DSM_STAT n) DSM_STAT_STUCK 1).setF (DSM_FLT n) DSM_FLT_STUCK 1).evt EV_DSM_STUCK [n.val]).gust 6 n := by
  intro e
  simp only [e]; unfold Dev.dsmStuck; rw [h0, h1]; rfl

/-- DSM_STUCK. -/
theorem does_dsmStuck_ends (d : Dev) (n : Fin 32) (stuck : Bool) (h0 : d.dsmRuns n = true) (h1 : stuck = false) : let e := d.dsmStuck n stuck; e.isSet (DSM_STAT n) DSM_STAT_STUCK = false ∧ onlyRegs [DSM_STAT n] d e ∧ sameMem d e := by
  intro e
  have hs : e = d.setF (DSM_STAT n) DSM_STAT_STUCK 0 := by simp only [e]; unfold Dev.dsmStuck; rw [h0, h1]; rfl
  rw [hs]
  exact ⟨by rw [Dev.isSet_setF_self _ _ _ _ (by decide)]; rfl, fun a ha _ => Dev.rd_setF_ne _ _ _ _ _ (by simpa using ha), rfl, rfl, rfl, rfl, rfl, rfl⟩

/-- CMP_TRIP. -/
theorem does_cmpTrip (d : Dev) (n : Fin 64) (news : List (Bool × Bool)) (p : Bool × Bool) (r : List (Bool × Bool)) (h0 : news = p :: r) (h1 : d.windowRuns n = true) (h2 : d.isSet (CMP_STAT n) CMP_STAT_TRIPPED = false) (h3 : d.sampleBeyond n p = true) (h4 : filtM (d.fld (CMP_CFG n) CMP_CFG_FILT) ≤ (d.windowHist n news).countP id) : let e := d.windowTrips n news; let m := ((((d.setWindow n true).rawSides n p).setF (CMP_STAT n) CMP_STAT_SIDE_HI (b2n (p.1 && d.sideUsed n false))).setF (CMP_STAT n) CMP_STAT_SIDE_LO (b2n (p.2 && d.sideUsed n true))); e = ((((m.incSat (CMP_CNT n) CMP_CNT_TRIPS).setF (CMP_FLT n) CMP_FLT_TRIP 1).evtRated EV_CMP_TRIP n [n.val, if p.1 && d.sideUsed n false then 1 else 2]).evalGroups) := by
  intro e m
  subst h0
  simp only [e]; unfold Dev.windowTrips; dsimp only
  rw [h1, h2, h3, if_pos (by simpa using h4)]

/-- CMP_NORMAL. -/
theorem does_cmpNormal (d : Dev) (n : Fin 64) (news : List (Bool × Bool)) (p : Bool × Bool) (r : List (Bool × Bool)) (h0 : news = p :: r) (h1 : d.windowRuns n = true) (h2 : d.isSet (CMP_STAT n) CMP_STAT_TRIPPED = true) (h3 : d.sampleBeyond n p = false) (h4 : filtM (d.fld (CMP_CFG n) CMP_CFG_FILT) ≤ (d.windowHist n news).countP (fun b => !b)) : let e := d.windowNormal n news; e = ((d.setWindow n false).rawSides n p).evalGroups := by
  intro e
  subst h0
  simp only [e]; unfold Dev.windowNormal; dsimp only
  rw [h1, h2, h3, if_pos (by simpa using h4)]

/-- CMP_TEST_TICK. -/
theorem does_cmpTestTick (d : Dev) (n : Fin 64) (failed : Bool) (h0 : d.windowRuns n = true) (h1 : d.sideUsed n (2 ≤ (d.cmp n).turn) = true) : let e := d.testTick n failed; e = ((d.modCmp n (fun x => { x with turn := if failed then (d.cmp n).turn else d.nextCheck n (d.cmp n).turn })).checkEnds n (d.cmp n).turn failed (fun x => ((x.setF (CMP_FLT n) CMP_FLT_TESTFAIL 1).incSat (CMP_CNT n) CMP_CNT_TESTF).evt EV_CMP_TEST_FAIL [n.val, (d.cmp n).turn])).reqWindow n true failed := by
  intro e
  simp only [e]; unfold Dev.testTick; dsimp only
  rw [h0, if_neg (by decide), if_pos (by simpa using h1)]

/-- CMP_DAC_REREAD. -/
theorem does_cmpDacReread (d : Dev) (n : Fin 64) (err : Int) (q : Nat) (h0 : (d.cmp n).reread = some q) : let e := d.dacReread n err; e = d.dacReadback n q err := by
  intro e
  simp only [e]; unfold Dev.dacReread; rw [h0]

/-- CMP_DEGRADED_READ. -/
theorem does_cmpDegradedRead (d : Dev) (n : Fin 64) (code : Nat) (h0 : d.isSet (CMP_STAT n) CMP_STAT_DEGRADED = true) (h1 : (d.cmp n).degTripped = false) (h2 : filtM (d.fld (CMP_CFG n) CMP_CFG_FILT) ≤ ((d.sampleBeyond n (d.degradedSides n code) :: (d.cmp n).degHist).take (filtN (d.fld (CMP_CFG n) CMP_CFG_FILT))).countP (fun x => x == true)) : let e := d.degradedRead n code; let m := d.modCmp n (fun c => { c with degHist := List.replicate (filtN (d.fld (CMP_CFG n) CMP_CFG_FILT)) true, degTripped := true }); e = m.forEach (m.cmpFeeds n) (fun f x => x.gafferSafe f EV_CMP_DEGRADED) := by
  intro e m
  simp only [e]; unfold Dev.degradedRead; dsimp only
  rw [h0, if_neg (by decide), h1, if_pos (by simpa using h2)]

/-- TRIP_IN_ASSERT. -/
theorem does_tripInAssert (d : Dev) (i : Fin 4) (h0 : (d.fld TRP_EXTCFG TRP_EXTCFG_EN).testBit i = true) : let e := d.tripIn i true; e = (d.putBit TRP_STAT (16 + i.val) true).evalGroups := by
  intro e
  simp only [e]; unfold Dev.tripIn; rw [if_pos h0]

/-- TRIP_IN_DEASSERT. -/
theorem does_tripInDeassert (d : Dev) (i : Fin 4) (h0 : (d.fld TRP_EXTCFG TRP_EXTCFG_EN).testBit i = true) : let e := d.tripIn i false; e = (d.putBit TRP_STAT (16 + i.val) false).evalGroups := by
  intro e
  simp only [e]; unfold Dev.tripIn; rw [if_pos h0]

/-- TRP_SWTRIP_WRITE. -/
theorem does_trpSwtripWrite (d : Dev) (triad : Fin 4) (v : W) (h0 : triad = 0) : let e := d.swTrip triad v; e = (d.wr TRP_SWTRIP (v &&& 0xFFFF)).evalGroups := by
  intro e
  subst h0
  simp only [e]; unfold Dev.swTrip; rw [if_neg (by decide)]

/-- TRP_SWTRIP_WRITE. -/
theorem does_trpSwtripWrite_refused (d : Dev) (triad : Fin 4) (v : W) (h0 : triad ≠ 0) : let e := d.swTrip triad v; e = d.lockedWrite triad TRP_SWTRIP ∧ logged d e EV_SYS_LOCKED_WRITE ∧ onlyRegs [] d e := by
  intro e
  have hs : e = d.lockedWrite triad TRP_SWTRIP := by
    simp only [e]; unfold Dev.swTrip; have ht : (triad : Nat) ≠ 0 := fun h => h0 (Fin.ext h)
    rw [if_pos ht]
  rw [hs]
  exact ⟨rfl, by unfold Dev.lockedWrite; exact logged_evtC _ _ _ _ _, fun a _ ha => Dev.rd_lockedWrite _ _ _ _ ha⟩

/-- TRP_REL_WRITE. -/
theorem does_trpRelWrite (d : Dev) (triad : Fin 4) (v : W) (h0 : triad = 0) : let e := d.relWrite triad v; e = d.forEach (oneBits 16 v.toNat) (fun g x => x.t0Release g) := by
  intro e
  subst h0
  simp only [e]; unfold Dev.relWrite; rw [if_neg (by decide)]

/-- AUTO_RELEASE. -/
theorem does_autoRelease (d : Dev) (g : Fin 16) (r : Time) (h0 : d.latching = true) (h1 : d.asserted g = true) (h2 : d.isSet (TRP_GCFG g) TRP_GCFG_AUTOREL = true) (h3 : (d.trp g).falseSince = some r) (h4 : d.fld (TRP_GCFG g) TRP_GCFG_RELDLY * usTicks ≤ d.since r) (h5 : (d.trp g).hardSrc = false) (h6 : (d.trp g).autoStop = false) (h7 : d.trueSources g = []) : let e := d.autoRelease g; let m := d.releaseGroup g true; e = m.modTrp g (fun s => { s with autoStop := m.fld (TRP_GCFG g) TRP_GCFG_AUTOMAX ≤ m.autoRecent g, autoRels := s.autoRels.take 8 }) := by
  intro e m
  simp only [e]; unfold Dev.autoRelease; dsimp only
  rw [h0, h1, h2, h3, h5, h6, h7]
  dsimp only
  rw [if_pos (by simpa using h4)]

end Sys2Proof.Machine
end

