-- ==== Sys2Proof/Laws/Background.lean ====
section
/-! SUPPORT. What the commands of the background work do (chapter 18). -/

namespace Sys2Proof.Machine

theorem reqWord_nat (k t : Nat) (h : k < 8) (ht : t < 65536) : (reqWord k t).toNat = 0x80000000 + k * 0x10000 + t := by
  unfold reqWord
  rw [BitVec.toNat_ofNat]
  omega
theorem reqWord_kind (k t : Nat) (h : k < 8) (ht : t < 65536) : (reqWord k t).fld BKG_REQ_KIND = k := by
  show bitsOf (reqWord k t).toNat 16 4 = k
  rw [reqWord_nat k t h ht]
  unfold bitsOf
  omega
theorem reqWord_target (k t : Nat) (h : k < 8) (ht : t < 65536) : (reqWord k t).fld BKG_REQ_TARGET = t := by
  show bitsOf (reqWord k t).toNat 0 16 = t
  rw [reqWord_nat k t h ht]
  unfold bitsOf
  omega
theorem reqWord_go (k t : Nat) (h : k < 8) (ht : t < 65536) : (reqWord k t).bit 31 = true := by
  show Nat.testBit (reqWord k t).toNat 31 = true
  rw [reqWord_nat k t h ht, Nat.testBit_eq_decide_div_mod_eq]
  simp only [decide_eq_true_eq]
  omega
/-- A request of one kind that a triad may make: refused at once, or in force. -/
theorem Dev.bkgRequest_go (d : Dev) (t k n : Nat) (hk : k < 8) (hn : n < 65536) (h : d.reqGo t = false) :
    let m := (d.wrOwn t BKG_REQ (reqWord k n &&& 0x800FFFFF)).reqShow t brPending
    d.bkgRequest t (reqWord k n) = if m.reqRefused k n then (m.reqEnd t brRefused).evt EV_BKG_REFUSED [t] else m.reqGrant t k n := by
  intro m
  unfold Dev.bkgRequest
  rw [h, if_neg (by decide)]
  dsimp only
  rw [reqWord_kind k n hk hn, reqWord_target k n hk hn, reqWord_go k n hk hn]
  rfl

/-- MARVER_ROUND. -/
theorem does_marverRound (d : Dev) (reads : List (Fin 64 × Fin 2 × Int)) (us : Nat) (h0 : d.marvDue = true) : let e := d.marverRound (reads.map (fun p => (p.1.val, p.2.1.val, p.2.2))) us; e = d.marverRun (reads.map (fun p => (p.1.val, p.2.1.val, p.2.2))) us := by
  intro e
  simp only [e]; unfold Dev.marverRound
  rw [h0]
  rfl

/-- MARVER_LATE. -/
theorem does_marverLate (d : Dev) (h0 : d.now.toNat < d.bkg.marvEnd.toNat) (h1 : d.marvPer ≤ d.since d.bkg.marvStart) (h2 : d.bkg.lateRec = false) : let e := d.marverLate; let m := ({ d with bkg := { d.bkg with lateRec := true } } : Dev).setF BKG_FLT BKG_FLT_MARVLATE 1; e = m.evt EV_BKG_MARVER_LATE [] ∧ logged m e EV_BKG_MARVER_LATE ∧ e.isSet BKG_FLT BKG_FLT_MARVLATE = true ∧ e.bkg.lateRec = true := by
  intro e m
  simp only [e]; unfold Dev.marverLate
  rw [if_pos (by rw [h2]; simpa using ⟨h0, h1⟩)]
  refine ⟨rfl, logged_evt _ _ _, ?_, ?_⟩
  · rw [Dev.isSet_evt _ _ _ BKG_FLT _ (by decide), Dev.isSet_setF_self _ _ _ _ (by decide)]
    rfl
  · rw [Dev.evt_bkg]
    rfl

/-- SCRUB_CORRECTION. -/
theorem does_scrubCorrection (d : Dev) (m : Fin 5) (addr : Nat) : let e := d.memCorrected m addr; let w := (d.incSat (BKG_MEMCNT m) BKG_MEMCNT_CORR).setF BKG_FLT BKG_FLT_CORR 1; e = ({ w with bkg := { w.bkg with corr := w.bkg.corr + 1 } } : Dev).evtRated EV_BKG_MEM_CORRECTED m.val ([m.val, 0, 0, 0] ++ le4 addr) ∧ e.isSet BKG_FLT BKG_FLT_CORR = true ∧ e.bkg.corr = d.bkg.corr + 1 := by
  intro e w
  simp only [e]; unfold Dev.memCorrected; dsimp only
  refine ⟨rfl, ?_, ?_⟩
  · rw [Dev.isSet_evtRated _ _ _ _ _ _ (by decide), Dev.isSet_mk, Dev.isSet_setF_self _ _ _ _ (by decide)]
    rfl
  · rw [Dev.evtRated_bkg]
    rfl

/-- MEM_UNCORRECTABLE. -/
theorem does_memUncorrectable (d : Dev) (m : Fin 5) (addr : Nat) (k : Fin 4) : let e := d.memUncorrectable m addr k; let w := (d.incSat (BKG_MEMCNT m) BKG_MEMCNT_UNCORR).setF BKG_FLT BKG_FLT_UNCORR 1; e = (({ w with bkg := { w.bkg with uncorr := w.bkg.uncorr + 1 } } : Dev).evtC (if m.val = 2 then clsSafe else clsWarning) EV_BKG_MEM_UNCORRECTABLE srcHw ([m.val, 0, 0, 0] ++ le4 addr)).memError m addr k := by
  intro e w
  simp only [e]; unfold Dev.memUncorrectable
  rfl

/-- WEAR_CHECK. -/
theorem does_wearCheck (d : Dev) (h0 : d.inRun = true) (h1 : d.paused = false) (h2 : secTicks ≤ d.since d.bkg.wearAt) (h3 : 8000000000 ≤ d.jrn.passes.toNat) (h4 : d.bkg.worn = false) : let e := d.wearCheck; let m := ({ d with bkg := { d.bkg with wearAt := d.now, worn := true } } : Dev).setF BKG_FLT BKG_FLT_WEAR 1; e = m.evt EV_BKG_WEAR_WARN [] ∧ logged m e EV_BKG_WEAR_WARN := by
  intro e m
  simp only [e]; unfold Dev.wearCheck
  rw [h0, h1, if_neg (by simpa using h2)]
  dsimp only
  rw [h4, if_pos (by simpa using h3)]
  exact ⟨rfl, logged_evt _ _ _⟩

/-- WEAR_CHECK. -/
theorem does_wearCheck_ok (d : Dev) (h0 : d.inRun = true) (h1 : d.paused = false) (h2 : secTicks ≤ d.since d.bkg.wearAt) (h3 : d.jrn.passes.toNat < 8000000000) : let e := d.wearCheck; e = ({ d with bkg := { d.bkg with wearAt := d.now } } : Dev) := by
  intro e
  simp only [e]; unfold Dev.wearCheck
  rw [h0, h1, if_neg (by simpa using h2)]
  dsimp only
  rw [if_neg (by simp only [Bool.and_eq_true, decide_eq_true_eq, not_and]; omega)]

/-- BKG_REQ_ADC_CAL. -/
theorem does_bkgReqAdcCal (d : Dev) (triad : Fin 4) (target : Fin 65536) (h0 : d.reqGo triad = false) (h1 : ((d.wrOwn triad BKG_REQ (reqWord 1 target &&& 0x800FFFFF)).reqShow triad brPending).reqRefused 1 target = false) : let e := d.bkgRequest triad (reqWord 1 target); let m := (d.wrOwn triad BKG_REQ (reqWord 1 target &&& 0x800FFFFF)).reqShow triad brPending; e = m.reqGrant triad 1 target := by
  intro e m
  simp only [e]; skip
  rw [Dev.bkgRequest_go d triad 1 target (by decide) target.isLt h0, h1]
  rfl

/-- BKG_REQ_CMP_CHECK. -/
theorem does_bkgReqCmpCheck (d : Dev) (triad : Fin 4) (target : Fin 65536) (read : Option (Fin 2 × Int)) (h0 : d.reqGo triad = false) (h1 : ((d.wrOwn triad BKG_REQ (reqWord 2 target &&& 0x800FFFFF)).reqShow triad brPending).reqRefused 2 target = false) : let e := (d.bkgRequest triad (reqWord 2 target)).whenSome read (fun p d => if d.reqIs triad 2 target then d.dacReadback target p.1 p.2 else d); let m := (d.wrOwn triad BKG_REQ (reqWord 2 target &&& 0x800FFFFF)).reqShow triad brPending; e = (m.reqGrant triad 2 target).whenSome read (fun p x => if x.reqIs triad 2 target then x.dacReadback target p.1 p.2 else x) := by
  intro e m
  simp only [e]; skip
  rw [Dev.bkgRequest_go d triad 2 target (by decide) target.isLt h0, h1]
  rfl

/-- BKG_REQ_PAD_CHECK. -/
theorem does_bkgReqPadCheck (d : Dev) (triad : Fin 4) (target : Fin 65536) (h0 : d.reqGo triad = false) (h1 : ((d.wrOwn triad BKG_REQ (reqWord 3 target &&& 0x800FFFFF)).reqShow triad brPending).reqRefused 3 target = false) : let e := d.bkgRequest triad (reqWord 3 target); let m := (d.wrOwn triad BKG_REQ (reqWord 3 target &&& 0x800FFFFF)).reqShow triad brPending; e = m.reqGrant triad 3 target := by
  intro e m
  simp only [e]; skip
  rw [Dev.bkgRequest_go d triad 3 target (by decide) target.isLt h0, h1]
  rfl

/-- BKG_REQ_CEN_SELFTEST. -/
theorem does_bkgReqCenSelftest (d : Dev) (triad : Fin 4) (target : Fin 65536) (h0 : d.reqGo triad = false) (h1 : ((d.wrOwn triad BKG_REQ (reqWord 4 target &&& 0x800FFFFF)).reqShow triad brPending).reqRefused 4 target = false) : let e := d.bkgRequest triad (reqWord 4 target); let m := (d.wrOwn triad BKG_REQ (reqWord 4 target &&& 0x800FFFFF)).reqShow triad brPending; e = m.reqGrant triad 4 target := by
  intro e m
  simp only [e]; skip
  rw [Dev.bkgRequest_go d triad 4 target (by decide) target.isLt h0, h1]
  rfl

/-- BKG_REQ_CORE_SELFTEST. -/
theorem does_bkgReqCoreSelftest (d : Dev) (triad : Fin 4) (target : Fin 65536) (h0 : d.reqGo triad = false) (h1 : ((d.wrOwn triad BKG_REQ (reqWord 5 target &&& 0x800FFFFF)).reqShow triad brPending).reqRefused 5 target = false) : let e := d.bkgRequest triad (reqWord 5 target); let m := (d.wrOwn triad BKG_REQ (reqWord 5 target &&& 0x800FFFFF)).reqShow triad brPending; e = m.reqGrant triad 5 target := by
  intro e m
  simp only [e]; skip
  rw [Dev.bkgRequest_go d triad 5 target (by decide) target.isLt h0, h1]
  rfl

/-- BKG_REQ_SCRUB. -/
theorem does_bkgReqScrub (d : Dev) (triad : Fin 4) (target : Fin 65536) (h0 : d.reqGo triad = false) (h1 : ((d.wrOwn triad BKG_REQ (reqWord 6 target &&& 0x800FFFFF)).reqShow triad brPending).reqRefused 6 target = false) : let e := d.bkgRequest triad (reqWord 6 target); let m := (d.wrOwn triad BKG_REQ (reqWord 6 target &&& 0x800FFFFF)).reqShow triad brPending; e = m.reqGrant triad 6 target := by
  intro e m
  simp only [e]; skip
  rw [Dev.bkgRequest_go d triad 6 target (by decide) target.isLt h0, h1]
  rfl

/-- BKG_REQ_MARVER. -/
theorem does_bkgReqMarver (d : Dev) (triad : Fin 4) (target : Fin 65536) (h0 : d.reqGo triad = false) (h1 : ((d.wrOwn triad BKG_REQ (reqWord 7 target &&& 0x800FFFFF)).reqShow triad brPending).reqRefused 7 target = false) : let e := d.bkgRequest triad (reqWord 7 target); let m := (d.wrOwn triad BKG_REQ (reqWord 7 target &&& 0x800FFFFF)).reqShow triad brPending; e = m.reqGrant triad 7 target := by
  intro e m
  simp only [e]; skip
  rw [Dev.bkgRequest_go d triad 7 target (by decide) target.isLt h0, h1]
  rfl

/-- BKG_REQ_DEFERRED. -/
theorem does_bkgReqDeferred (d : Dev) (triad : Fin 4) (h0 : d.reqGo triad = true) (h1 : (d.rdOwn triad BKG_RES).fld BKG_RES_RESULT = brPending) (h2 : d.waitOver triad = true) : let e := d.bkgDeferred triad; e = d.reqDefer triad ∧ e.bkg.deferred = d.bkg.deferred + 1 := by
  intro e
  simp only [e]; unfold Dev.bkgDeferred
  dsimp only
  rw [h0, h1, h2, if_pos (by simp)]
  refine ⟨rfl, ?_⟩
  unfold Dev.reqDefer
  dsimp only
  rw [Dev.evtRated_bkg]
  rfl

/-- CORE_SELFTEST_PERIODIC. -/
theorem does_coreSelftestPeriodic (d : Dev) (q : Nat) (h0 : d.fld BKG_CFG BKG_CFG_CORPER ≠ 0) (h1 : d.inRun = true) (h2 : d.fld BKG_CFG BKG_CFG_CORPER * secTicks ≤ d.since d.bkg.coreAt) (h3 : ((List.range 12).map (fun i => (d.bkg.coreNext + i) % 12)).find? (fun c => !d.coreRefused c) = some q) (h4 : d.coreReady q = true) : let e := d.corePeriodic; e = ({ d with bkg := { d.bkg with coreNext := (q + 1) % 12, coreAt := d.now } } : Dev).coreStart q none := by
  intro e
  simp only [e]; unfold Dev.corePeriodic
  dsimp only
  rw [h1, if_neg (by rw [Bool.or_eq_true, Bool.or_eq_true]; simpa using ⟨h0, h2⟩), h3]
  dsimp only
  rw [h4]
  rfl

/-- CORE_SELFTEST_DONE. -/
theorem does_coreSelftestDone (d : Dev) (c : Fin 12) (pass : Bool) (who : Option Nat) (h0 : (List.range 4).find? (fun k => d.reqIs k 5 c) = none) (h1 : d.bkg.coreTest = some (c.val, who)) : let e := d.coreDone c pass; let m := ({ d with bkg := { d.bkg with coreTest := none } } : Dev).setF BKG_STAT BKG_STAT_CORETEST 0; e = (if pass then m.triadResync (c / 3) else m.gale 1 c gaTest 0xF).reqServed 5 c pass := by
  intro e m
  simp only [e]; unfold Dev.coreDone
  dsimp only
  rw [h0]
  dsimp only
  rw [h1]
  dsimp only
  rw [if_neg (by simp)]

/-- TELEMETRY_POST. -/
theorem does_telemetryPost (d : Dev) (h0 : d.bkg.telDue = true) (h1 : d.paused = false) : let e := d.telemetry; e = ({ d.telRecords with bkg := { d.telRecords.bkg with telDue := false, misses := [] } } : Dev) ∧ e.bkg.telDue = false := by
  intro e
  simp only [e]; unfold Dev.telemetry
  rw [h0, h1]
  exact ⟨rfl, rfl⟩

end Sys2Proof.Machine
end

