-- ==== Sys2Proof/Laws/Bytes.lean ====
section
/-! SUPPORT. Little-endian bytes of a number, and the lengths of byte strings. -/

namespace Sys2Proof.Machine

theorem leNat_leBytes (n v : Nat) : leNat (leBytes n v) = v % 256 ^ n := by
  have key : ∀ n o, ((List.range n).map (fun i => BitVec.ofNat 8 (v >>> (8 * (i + o))))).foldr (fun b acc => b.toNat + 256 * acc) 0 = v / 256 ^ o % 256 ^ n := by
    intro n
    induction n with
    | zero => intro o; simp [Nat.mod_one]
    | succ n ih =>
      intro o
      rw [List.range_succ_eq_map, List.map_cons, List.foldr_cons, List.map_map]
      have h := ih (o + 1)
      have hf : ((fun i => BitVec.ofNat 8 (v >>> (8 * (i + o)))) ∘ Nat.succ) = (fun i => BitVec.ofNat 8 (v >>> (8 * (i + (o + 1))))) := by
        funext i; simp only [Function.comp]; congr 2; omega
      rw [hf, h, Nat.zero_add]
      show v >>> (8 * o) % 256 + 256 * (v / 256 ^ (o + 1) % 256 ^ n) = _
      have e1 : (2 : Nat) ^ (8 * o) = 256 ^ o := by rw [Nat.pow_mul]
      rw [Nat.shiftRight_eq_div_pow, e1, Nat.pow_succ, ← Nat.div_div_eq_div_mul, Nat.pow_succ 256 n, Nat.mul_comm (256 ^ n) 256, Nat.mod_mul]
  have := key n 0
  simpa [leNat, leBytes] using this

theorem leBytes_length (n v : Nat) : (leBytes n v).length = n := by simp [leBytes]

theorem sliceB_length (bs : List Byte) (o n : Nat) : (sliceB bs o n).length = n := by
  simp only [sliceB, List.length_append, List.length_replicate, List.length_take, List.length_drop]; omega

end Sys2Proof.Machine
end

