-- ==== Sys2Proof/Laws/CoresInt.lean ====
section
/-! SUPPORT. What the integer, immediate, branch and jump instructions do (Tables COR-5 and COR-6), and the frame of an instruction. -/

namespace Sys2Proof.Machine

/-! ## The frame of an instruction -/

@[simp] theorem Dev.triad_putTriad (d : Dev) (t : Nat) (x : Triad) : (d.putTriad t x).triad t = x := Tab.getD_set_self _ _ _ _
theorem Dev.triad_putTriad_ne (d : Dev) (t k : Nat) (x : Triad) (h : k ≠ t) : (d.putTriad t x).triad k = d.triad k := Tab.getD_set_ne _ _ _ _ _ h
@[simp] theorem Dev.triad_modTriad (d : Dev) (t : Nat) (g : Triad → Triad) : (d.modTriad t g).triad t = g (d.triad t) := Tab.getD_set_self _ _ _ _
theorem Dev.triad_modTriad_ne (d : Dev) (t k : Nat) (g : Triad → Triad) (h : k ≠ t) : (d.modTriad t g).triad k = d.triad k := Tab.getD_set_ne _ _ _ _ _ h

/-- Where a triad may execute, an instruction is its body. -/
theorem Dev.instr_ready (d : Dev) (t : Nat) (body : Dev → Dev) (h : d.ready t) : d.instr t body = body d := by
  obtain ⟨h1, h2, h3⟩ := h
  unfold Dev.instr
  simp only [h1, h2, h3]
  rfl

theorem Dev.ready_live (d : Dev) (t : Nat) (h : d.ready t) : d.triadLive t = true := by
  unfold Dev.triadLive; rw [h.2.1]

/-- An instruction that changes registers only leaves everything else. -/
theorem Dev.finish_ready (d : Dev) (t : Nat) (f : Core → Core) (h : d.ready t) : onlyCore t d (d.finish t f) (f (d.triad t).core) := by
  unfold onlyCore Dev.finish
  rw [if_pos (d.ready_live t h)]
  unfold Dev.modTriad
  rw [h.2.1.symm]

theorem Dev.alu_ready (d : Dev) (t : Nat) (f : Core → Core) (h : d.ready t) : onlyCore t d (d.alu t f) (f (d.triad t).core).next := by
  unfold Dev.alu
  rw [Dev.instr_ready _ _ _ h]
  exact Dev.finish_ready _ _ _ h

theorem Dev.divide_ready (d : Dev) (t rd ra rb : Nat) (f : W → W → W) (h : d.ready t) (hb : (d.triad t).core.getW rb ≠ 0) :
    onlyCore t d (d.divide t rd ra rb f) (((d.triad t).core.setW rd (f ((d.triad t).core.getW ra) ((d.triad t).core.getW rb))).next) := by
  unfold Dev.divide
  rw [Dev.instr_ready _ _ _ h]
  dsimp only
  rw [if_neg hb]
  exact Dev.finish_ready _ _ _ h

theorem Dev.branch_ready (d : Dev) (t ra rb : Nat) (p : W → W → Bool) (disp : BitVec 16) (h : d.ready t) :
    onlyCore t d (d.branch t ra rb p disp) (if p ((d.triad t).core.getW ra) ((d.triad t).core.getW rb) then
      (d.triad t).core.goTo ((d.triad t).core.target16 disp) else (d.triad t).core.next) := by
  unfold Dev.branch
  rw [Dev.instr_ready _ _ _ h]
  exact Dev.finish_ready _ _ _ h

theorem Dev.jump_ready (d : Dev) (t : Nat) (f : Core → Core) (h : d.ready t) :
    onlyCore t d (d.instr t (fun d => d.finish t f)) (f (d.triad t).core) := by
  rw [Dev.instr_ready _ _ _ h]
  exact Dev.finish_ready _ _ _ h

/-! ## Registers -/

theorem Core.getW_zero (c : Core) : c.getW 0 = 0 := rfl

theorem Core.getW_setW (c : Core) (r k : Nat) (v : W) (hk : k < 32) : (c.setW r v).getW k = if k = r ∧ k ≠ 0 then v else c.getW k := by
  unfold Core.setW
  by_cases h0 : k = 0
  · subst h0; simp [Core.getW]
  · show (if k = 0 then (0 : W) else ((List.range 32).map (fun i => if i = r then (if r = 0 then 0 else v) else c.getW i)).getD k 0) = _
    rw [if_neg h0]
    simp only [List.getD_eq_getElem?_getD, List.getElem?_map, List.getElem?_range hk, Option.map_some, Option.getD_some]
    by_cases hr : k = r
    · subst hr; simp [h0]
    · simp [hr]

/-- w0 reads zero whatever is written to it. -/
theorem Core.getW_setW_zero (c : Core) (k : Nat) (v : W) (hk : k < 32) : (c.setW 0 v).getW k = c.getW k := by
  rw [Core.getW_setW _ _ _ _ hk]; simp

theorem Core.getF_setF (c : Core) (r k : Nat) (v : W) (hk : k < 32) : (c.setF r v).getF k = if k = r then v else c.getF k := by
  unfold Core.setF
  show ((List.range 32).map (fun i => if i = r then v else c.getF i)).getD k 0 = _
  simp only [List.getD_eq_getElem?_getD, List.getElem?_map, List.getElem?_range hk, Option.map_some, Option.getD_some]

/-- ADD. -/
theorem does_add (d : Dev) (k : Fin 4) (rd ra rb : Fin 32) (h0 : d.ready k) : let e := d.alu k (fun c => c.setW rd (c.getW ra + c.getW rb)); onlyCore k d e ((d.triad k).core.setW rd ((d.triad k).core.getW ra + (d.triad k).core.getW rb)).next := by
  intro e
  exact Dev.alu_ready _ _ _ h0

/-- SUB. -/
theorem does_sub (d : Dev) (k : Fin 4) (rd ra rb : Fin 32) (h0 : d.ready k) : let e := d.alu k (fun c => c.setW rd (c.getW ra - c.getW rb)); onlyCore k d e ((d.triad k).core.setW rd ((d.triad k).core.getW ra - (d.triad k).core.getW rb)).next := by
  intro e
  exact Dev.alu_ready _ _ _ h0

/-- AND. -/
theorem does_and (d : Dev) (k : Fin 4) (rd ra rb : Fin 32) (h0 : d.ready k) : let e := d.alu k (fun c => c.setW rd (c.getW ra &&& c.getW rb)); onlyCore k d e ((d.triad k).core.setW rd ((d.triad k).core.getW ra &&& (d.triad k).core.getW rb)).next := by
  intro e
  exact Dev.alu_ready _ _ _ h0

/-- OR. -/
theorem does_or (d : Dev) (k : Fin 4) (rd ra rb : Fin 32) (h0 : d.ready k) : let e := d.alu k (fun c => c.setW rd (c.getW ra ||| c.getW rb)); onlyCore k d e ((d.triad k).core.setW rd ((d.triad k).core.getW ra ||| (d.triad k).core.getW rb)).next := by
  intro e
  exact Dev.alu_ready _ _ _ h0

/-- XOR. -/
theorem does_xor (d : Dev) (k : Fin 4) (rd ra rb : Fin 32) (h0 : d.ready k) : let e := d.alu k (fun c => c.setW rd (c.getW ra ^^^ c.getW rb)); onlyCore k d e ((d.triad k).core.setW rd ((d.triad k).core.getW ra ^^^ (d.triad k).core.getW rb)).next := by
  intro e
  exact Dev.alu_ready _ _ _ h0

/-- SHL. -/
theorem does_shl (d : Dev) (k : Fin 4) (rd ra rb : Fin 32) (h0 : d.ready k) : let e := d.alu k (fun c => c.setW rd (c.getW ra <<< shamt (c.getW rb))); onlyCore k d e ((d.triad k).core.setW rd ((d.triad k).core.getW ra <<< shamt ((d.triad k).core.getW rb))).next := by
  intro e
  exact Dev.alu_ready _ _ _ h0

/-- SHR. -/
theorem does_shr (d : Dev) (k : Fin 4) (rd ra rb : Fin 32) (h0 : d.ready k) : let e := d.alu k (fun c => c.setW rd (c.getW ra >>> shamt (c.getW rb))); onlyCore k d e ((d.triad k).core.setW rd ((d.triad k).core.getW ra >>> shamt ((d.triad k).core.getW rb))).next := by
  intro e
  exact Dev.alu_ready _ _ _ h0

/-- SAR. -/
theorem does_sar (d : Dev) (k : Fin 4) (rd ra rb : Fin 32) (h0 : d.ready k) : let e := d.alu k (fun c => c.setW rd ((c.getW ra).sshiftRight (shamt (c.getW rb)))); onlyCore k d e ((d.triad k).core.setW rd (((d.triad k).core.getW ra).sshiftRight (shamt ((d.triad k).core.getW rb)))).next := by
  intro e
  exact Dev.alu_ready _ _ _ h0

/-- ROT. -/
theorem does_rot (d : Dev) (k : Fin 4) (rd ra rb : Fin 32) (h0 : d.ready k) : let e := d.alu k (fun c => c.setW rd ((c.getW ra).rotateLeft (shamt (c.getW rb)))); onlyCore k d e ((d.triad k).core.setW rd (((d.triad k).core.getW ra).rotateLeft (shamt ((d.triad k).core.getW rb)))).next := by
  intro e
  exact Dev.alu_ready _ _ _ h0

/-- SLT. -/
theorem does_slt (d : Dev) (k : Fin 4) (rd ra rb : Fin 32) (h0 : d.ready k) : let e := d.alu k (fun c => c.setW rd (bool32 ((c.getW ra).slt (c.getW rb)))); onlyCore k d e ((d.triad k).core.setW rd (bool32 (((d.triad k).core.getW ra).slt ((d.triad k).core.getW rb)))).next := by
  intro e
  exact Dev.alu_ready _ _ _ h0

/-- SLTU. -/
theorem does_sltu (d : Dev) (k : Fin 4) (rd ra rb : Fin 32) (h0 : d.ready k) : let e := d.alu k (fun c => c.setW rd (bool32 ((c.getW ra).ult (c.getW rb)))); onlyCore k d e ((d.triad k).core.setW rd (bool32 (((d.triad k).core.getW ra).ult ((d.triad k).core.getW rb)))).next := by
  intro e
  exact Dev.alu_ready _ _ _ h0

/-- MUL. -/
theorem does_mul (d : Dev) (k : Fin 4) (rd ra rb : Fin 32) (h0 : d.ready k) : let e := d.alu k (fun c => c.setW rd (c.getW ra * c.getW rb)); onlyCore k d e ((d.triad k).core.setW rd ((d.triad k).core.getW ra * (d.triad k).core.getW rb)).next := by
  intro e
  exact Dev.alu_ready _ _ _ h0

/-- MULH. -/
theorem does_mulh (d : Dev) (k : Fin 4) (rd ra rb : Fin 32) (h0 : d.ready k) : let e := d.alu k (fun c => c.setW rd (mulHi (c.getW ra) (c.getW rb))); onlyCore k d e ((d.triad k).core.setW rd (mulHi ((d.triad k).core.getW ra) ((d.triad k).core.getW rb))).next := by
  intro e
  exact Dev.alu_ready _ _ _ h0

/-- MULHU. -/
theorem does_mulhu (d : Dev) (k : Fin 4) (rd ra rb : Fin 32) (h0 : d.ready k) : let e := d.alu k (fun c => c.setW rd (mulHiU (c.getW ra) (c.getW rb))); onlyCore k d e ((d.triad k).core.setW rd (mulHiU ((d.triad k).core.getW ra) ((d.triad k).core.getW rb))).next := by
  intro e
  exact Dev.alu_ready _ _ _ h0

/-- ADDI. -/
theorem does_addi (d : Dev) (k : Fin 4) (rd ra : Fin 32) (imm : BitVec 16) (h0 : d.ready k) : let e := d.alu k (fun c => c.setW rd (c.getW ra + sext16 imm)); onlyCore k d e ((d.triad k).core.setW rd ((d.triad k).core.getW ra + sext16 imm)).next := by
  intro e
  exact Dev.alu_ready _ _ _ h0

/-- ANDI. -/
theorem does_andi (d : Dev) (k : Fin 4) (rd ra : Fin 32) (imm : BitVec 16) (h0 : d.ready k) : let e := d.alu k (fun c => c.setW rd (c.getW ra &&& zext16 imm)); onlyCore k d e ((d.triad k).core.setW rd ((d.triad k).core.getW ra &&& zext16 imm)).next := by
  intro e
  exact Dev.alu_ready _ _ _ h0

/-- ORI. -/
theorem does_ori (d : Dev) (k : Fin 4) (rd ra : Fin 32) (imm : BitVec 16) (h0 : d.ready k) : let e := d.alu k (fun c => c.setW rd (c.getW ra ||| zext16 imm)); onlyCore k d e ((d.triad k).core.setW rd ((d.triad k).core.getW ra ||| zext16 imm)).next := by
  intro e
  exact Dev.alu_ready _ _ _ h0

/-- XORI. -/
theorem does_xori (d : Dev) (k : Fin 4) (rd ra : Fin 32) (imm : BitVec 16) (h0 : d.ready k) : let e := d.alu k (fun c => c.setW rd (c.getW ra ^^^ zext16 imm)); onlyCore k d e ((d.triad k).core.setW rd ((d.triad k).core.getW ra ^^^ zext16 imm)).next := by
  intro e
  exact Dev.alu_ready _ _ _ h0

/-- SHLI. -/
theorem does_shli (d : Dev) (k : Fin 4) (rd ra : Fin 32) (imm : BitVec 16) (h0 : d.ready k) : let e := d.alu k (fun c => c.setW rd (c.getW ra <<< shamt (sext16 imm))); onlyCore k d e ((d.triad k).core.setW rd ((d.triad k).core.getW ra <<< shamt (sext16 imm))).next := by
  intro e
  exact Dev.alu_ready _ _ _ h0

/-- SHRI. -/
theorem does_shri (d : Dev) (k : Fin 4) (rd ra : Fin 32) (imm : BitVec 16) (h0 : d.ready k) : let e := d.alu k (fun c => c.setW rd (c.getW ra >>> shamt (sext16 imm))); onlyCore k d e ((d.triad k).core.setW rd ((d.triad k).core.getW ra >>> shamt (sext16 imm))).next := by
  intro e
  exact Dev.alu_ready _ _ _ h0

/-- SARI. -/
theorem does_sari (d : Dev) (k : Fin 4) (rd ra : Fin 32) (imm : BitVec 16) (h0 : d.ready k) : let e := d.alu k (fun c => c.setW rd ((c.getW ra).sshiftRight (shamt (sext16 imm)))); onlyCore k d e ((d.triad k).core.setW rd (((d.triad k).core.getW ra).sshiftRight (shamt (sext16 imm)))).next := by
  intro e
  exact Dev.alu_ready _ _ _ h0

/-- SLTI. -/
theorem does_slti (d : Dev) (k : Fin 4) (rd ra : Fin 32) (imm : BitVec 16) (h0 : d.ready k) : let e := d.alu k (fun c => c.setW rd (bool32 ((c.getW ra).slt (sext16 imm)))); onlyCore k d e ((d.triad k).core.setW rd (bool32 (((d.triad k).core.getW ra).slt (sext16 imm)))).next := by
  intro e
  exact Dev.alu_ready _ _ _ h0

/-- SLTIU. -/
theorem does_sltiu (d : Dev) (k : Fin 4) (rd ra : Fin 32) (imm : BitVec 16) (h0 : d.ready k) : let e := d.alu k (fun c => c.setW rd (bool32 ((c.getW ra).ult (sext16 imm)))); onlyCore k d e ((d.triad k).core.setW rd (bool32 (((d.triad k).core.getW ra).ult (sext16 imm)))).next := by
  intro e
  exact Dev.alu_ready _ _ _ h0

/-- LUI. -/
theorem does_lui (d : Dev) (k : Fin 4) (rd : Fin 32) (imm : BitVec 16) (h0 : d.ready k) : let e := d.alu k (fun c => c.setW rd (zext16 imm <<< 16)); onlyCore k d e ((d.triad k).core.setW rd (zext16 imm <<< 16)).next := by
  intro e
  exact Dev.alu_ready _ _ _ h0

/-- DIV. -/
theorem does_div (d : Dev) (k : Fin 4) (rd ra rb : Fin 32) (h0 : d.ready k) (h1 : (d.triad k).core.getW rb ≠ 0) : let e := d.divide k rd ra rb divS; onlyCore k d e ((d.triad k).core.setW rd (divS ((d.triad k).core.getW ra) ((d.triad k).core.getW rb))).next := by
  intro e
  exact Dev.divide_ready _ _ _ _ _ _ h0 h1

/-- DIVU. -/
theorem does_divu (d : Dev) (k : Fin 4) (rd ra rb : Fin 32) (h0 : d.ready k) (h1 : (d.triad k).core.getW rb ≠ 0) : let e := d.divide k rd ra rb (· / ·); onlyCore k d e ((d.triad k).core.setW rd (HDiv.hDiv ((d.triad k).core.getW ra) ((d.triad k).core.getW rb))).next := by
  intro e
  exact Dev.divide_ready _ _ _ _ _ _ h0 h1

/-- REM. -/
theorem does_rem (d : Dev) (k : Fin 4) (rd ra rb : Fin 32) (h0 : d.ready k) (h1 : (d.triad k).core.getW rb ≠ 0) : let e := d.divide k rd ra rb remS; onlyCore k d e ((d.triad k).core.setW rd (remS ((d.triad k).core.getW ra) ((d.triad k).core.getW rb))).next := by
  intro e
  exact Dev.divide_ready _ _ _ _ _ _ h0 h1

/-- REMU. -/
theorem does_remu (d : Dev) (k : Fin 4) (rd ra rb : Fin 32) (h0 : d.ready k) (h1 : (d.triad k).core.getW rb ≠ 0) : let e := d.divide k rd ra rb (· % ·); onlyCore k d e ((d.triad k).core.setW rd (HMod.hMod ((d.triad k).core.getW ra) ((d.triad k).core.getW rb))).next := by
  intro e
  exact Dev.divide_ready _ _ _ _ _ _ h0 h1

/-- BEQ. -/
theorem does_beq (d : Dev) (k : Fin 4) (ra rb : Fin 32) (disp : BitVec 16) (h0 : d.ready k) : let e := d.branch k ra rb (fun x y => x == y) disp; onlyCore k d e (if ((d.triad k).core.getW ra) = ((d.triad k).core.getW rb) then (d.triad k).core.goTo ((d.triad k).core.target16 disp) else (d.triad k).core.next) := by
  intro e
  have h := Dev.branch_ready d k ra rb (fun x y => x == y) disp h0
  simpa [e] using h

/-- BNE. -/
theorem does_bne (d : Dev) (k : Fin 4) (ra rb : Fin 32) (disp : BitVec 16) (h0 : d.ready k) : let e := d.branch k ra rb (fun x y => x != y) disp; onlyCore k d e (if ((d.triad k).core.getW ra) ≠ ((d.triad k).core.getW rb) then (d.triad k).core.goTo ((d.triad k).core.target16 disp) else (d.triad k).core.next) := by
  intro e
  have h := Dev.branch_ready d k ra rb (fun x y => x != y) disp h0
  simpa [e] using h

/-- BLT. -/
theorem does_blt (d : Dev) (k : Fin 4) (ra rb : Fin 32) (disp : BitVec 16) (h0 : d.ready k) : let e := d.branch k ra rb (fun x y => x.slt y) disp; onlyCore k d e (if ((d.triad k).core.getW ra).slt ((d.triad k).core.getW rb) then (d.triad k).core.goTo ((d.triad k).core.target16 disp) else (d.triad k).core.next) := by
  intro e
  have h := Dev.branch_ready d k ra rb (fun x y => x.slt y) disp h0
  simpa [e] using h

/-- BGE. -/
theorem does_bge (d : Dev) (k : Fin 4) (ra rb : Fin 32) (disp : BitVec 16) (h0 : d.ready k) : let e := d.branch k ra rb (fun x y => !x.slt y) disp; onlyCore k d e (if ¬ ((d.triad k).core.getW ra).slt ((d.triad k).core.getW rb) then (d.triad k).core.goTo ((d.triad k).core.target16 disp) else (d.triad k).core.next) := by
  intro e
  have h := Dev.branch_ready d k ra rb (fun x y => !x.slt y) disp h0
  simpa [e] using h

/-- BLTU. -/
theorem does_bltu (d : Dev) (k : Fin 4) (ra rb : Fin 32) (disp : BitVec 16) (h0 : d.ready k) : let e := d.branch k ra rb (fun x y => x.ult y) disp; onlyCore k d e (if ((d.triad k).core.getW ra).toNat < ((d.triad k).core.getW rb).toNat then (d.triad k).core.goTo ((d.triad k).core.target16 disp) else (d.triad k).core.next) := by
  intro e
  have h := Dev.branch_ready d k ra rb (fun x y => x.ult y) disp h0
  simpa [e, BitVec.ult, BitVec.slt] using h

/-- BGEU. -/
theorem does_bgeu (d : Dev) (k : Fin 4) (ra rb : Fin 32) (disp : BitVec 16) (h0 : d.ready k) : let e := d.branch k ra rb (fun x y => !x.ult y) disp; onlyCore k d e (if ((d.triad k).core.getW rb).toNat ≤ ((d.triad k).core.getW ra).toNat then (d.triad k).core.goTo ((d.triad k).core.target16 disp) else (d.triad k).core.next) := by
  intro e
  have h := Dev.branch_ready d k ra rb (fun x y => !x.ult y) disp h0
  simpa [e, BitVec.ult, BitVec.slt] using h

/-- J. -/
theorem does_j (d : Dev) (k : Fin 4) (disp : BitVec 26) (h0 : d.ready k) : let e := d.instr k (fun d => d.finish k (fun c => c.goTo (c.target26 disp))); onlyCore k d e ((d.triad k).core.goTo ((d.triad k).core.target26 disp)) := by
  intro e
  exact Dev.jump_ready _ _ _ h0

/-- JAL. -/
theorem does_jal (d : Dev) (k : Fin 4) (disp : BitVec 26) (h0 : d.ready k) : let e := d.instr k (fun d => d.finish k (fun c => (c.setW 1 (c.pc + 4)).goTo (c.target26 disp))); onlyCore k d e (((d.triad k).core.setW 1 ((d.triad k).core.pc + 4)).goTo ((d.triad k).core.target26 disp)) := by
  intro e
  exact Dev.jump_ready _ _ _ h0

/-- JALR. -/
theorem does_jalr (d : Dev) (k : Fin 4) (rd ra : Fin 32) (imm : BitVec 16) (h0 : d.ready k) : let e := d.instr k (fun d => d.finish k (fun c => (c.setW rd (c.pc + 4)).goTo ((c.getW ra + sext16 imm) &&& 0xFFFFFFFC#32))); onlyCore k d e (((d.triad k).core.setW rd ((d.triad k).core.pc + 4)).goTo (((d.triad k).core.getW ra + sext16 imm) &&& 0xFFFFFFFC#32)) := by
  intro e
  exact Dev.jump_ready _ _ _ h0

end Sys2Proof.Machine
end

