-- ==== Sys2Proof/Laws/CoresFloat.lean ====
section
/-! SUPPORT. What the floating-point instructions do (Table COR-6, R372). -/

namespace Sys2Proof.Machine

/-- FADD. -/
theorem does_fadd (d : Dev) (k : Fin 4) (rd ra rb : Fin 32) (h0 : d.ready k) : let e := d.fop k rd (fun c => fAdd (c.getF ra) (c.getF rb)); onlyCore k d e ((d.triad k).core.setF rd (fAdd ((d.triad k).core.getF ra) ((d.triad k).core.getF rb))).next := by
  intro e
  exact Dev.alu_ready _ _ _ h0

/-- FSUB. -/
theorem does_fsub (d : Dev) (k : Fin 4) (rd ra rb : Fin 32) (h0 : d.ready k) : let e := d.fop k rd (fun c => fSub (c.getF ra) (c.getF rb)); onlyCore k d e ((d.triad k).core.setF rd (fSub ((d.triad k).core.getF ra) ((d.triad k).core.getF rb))).next := by
  intro e
  exact Dev.alu_ready _ _ _ h0

/-- FMUL. -/
theorem does_fmul (d : Dev) (k : Fin 4) (rd ra rb : Fin 32) (h0 : d.ready k) : let e := d.fop k rd (fun c => fMul (c.getF ra) (c.getF rb)); onlyCore k d e ((d.triad k).core.setF rd (fMul ((d.triad k).core.getF ra) ((d.triad k).core.getF rb))).next := by
  intro e
  exact Dev.alu_ready _ _ _ h0

/-- FDIV. -/
theorem does_fdiv (d : Dev) (k : Fin 4) (rd ra rb : Fin 32) (h0 : d.ready k) : let e := d.fop k rd (fun c => fDiv (c.getF ra) (c.getF rb)); onlyCore k d e ((d.triad k).core.setF rd (fDiv ((d.triad k).core.getF ra) ((d.triad k).core.getF rb))).next := by
  intro e
  exact Dev.alu_ready _ _ _ h0

/-- FSQRT. -/
theorem does_fsqrt (d : Dev) (k : Fin 4) (rd ra : Fin 32) (h0 : d.ready k) : let e := d.fop k rd (fun c => fSqrt (c.getF ra)); onlyCore k d e ((d.triad k).core.setF rd (fSqrt ((d.triad k).core.getF ra))).next := by
  intro e
  exact Dev.alu_ready _ _ _ h0

/-- FMIN. -/
theorem does_fmin (d : Dev) (k : Fin 4) (rd ra rb : Fin 32) (h0 : d.ready k) : let e := d.fop k rd (fun c => fMin (c.getF ra) (c.getF rb)); onlyCore k d e ((d.triad k).core.setF rd (fMin ((d.triad k).core.getF ra) ((d.triad k).core.getF rb))).next := by
  intro e
  exact Dev.alu_ready _ _ _ h0

/-- FMAX. -/
theorem does_fmax (d : Dev) (k : Fin 4) (rd ra rb : Fin 32) (h0 : d.ready k) : let e := d.fop k rd (fun c => fMax (c.getF ra) (c.getF rb)); onlyCore k d e ((d.triad k).core.setF rd (fMax ((d.triad k).core.getF ra) ((d.triad k).core.getF rb))).next := by
  intro e
  exact Dev.alu_ready _ _ _ h0

/-- FEQ. -/
theorem does_feq (d : Dev) (k : Fin 4) (rd ra rb : Fin 32) (h0 : d.ready k) : let e := d.alu k (fun c => c.setW rd (bool32 (fEq (c.getF ra) (c.getF rb)))); onlyCore k d e ((d.triad k).core.setW rd (bool32 (fEq ((d.triad k).core.getF ra) ((d.triad k).core.getF rb)))).next := by
  intro e
  exact Dev.alu_ready _ _ _ h0

/-- FLT. -/
theorem does_flt (d : Dev) (k : Fin 4) (rd ra rb : Fin 32) (h0 : d.ready k) : let e := d.alu k (fun c => c.setW rd (bool32 (fLt (c.getF ra) (c.getF rb)))); onlyCore k d e ((d.triad k).core.setW rd (bool32 (fLt ((d.triad k).core.getF ra) ((d.triad k).core.getF rb)))).next := by
  intro e
  exact Dev.alu_ready _ _ _ h0

/-- FLE. -/
theorem does_fle (d : Dev) (k : Fin 4) (rd ra rb : Fin 32) (h0 : d.ready k) : let e := d.alu k (fun c => c.setW rd (bool32 (fLe (c.getF ra) (c.getF rb)))); onlyCore k d e ((d.triad k).core.setW rd (bool32 (fLe ((d.triad k).core.getF ra) ((d.triad k).core.getF rb)))).next := by
  intro e
  exact Dev.alu_ready _ _ _ h0

/-- FCVTWS. -/
theorem does_fcvtws (d : Dev) (k : Fin 4) (rd ra : Fin 32) (h0 : d.ready k) : let e := d.alu k (fun c => c.setW rd (fToInt32 (c.getF ra))); onlyCore k d e ((d.triad k).core.setW rd (fToInt32 ((d.triad k).core.getF ra))).next := by
  intro e
  exact Dev.alu_ready _ _ _ h0

/-- FCVTSW. -/
theorem does_fcvtsw (d : Dev) (k : Fin 4) (rd ra : Fin 32) (h0 : d.ready k) : let e := d.fop k rd (fun c => fOfInt (c.getW ra).toInt); onlyCore k d e ((d.triad k).core.setF rd (fOfInt ((d.triad k).core.getW ra).toInt)).next := by
  intro e
  exact Dev.alu_ready _ _ _ h0

/-- FMVWS. -/
theorem does_fmvws (d : Dev) (k : Fin 4) (rd ra : Fin 32) (h0 : d.ready k) : let e := d.alu k (fun c => c.setW rd (c.getF ra)); onlyCore k d e ((d.triad k).core.setW rd ((d.triad k).core.getF ra)).next := by
  intro e
  exact Dev.alu_ready _ _ _ h0

/-- FMVSW. -/
theorem does_fmvsw (d : Dev) (k : Fin 4) (rd ra : Fin 32) (h0 : d.ready k) : let e := d.fop k rd (fun c => c.getW ra); onlyCore k d e ((d.triad k).core.setF rd ((d.triad k).core.getW ra)).next := by
  intro e
  exact Dev.alu_ready _ _ _ h0

/-- FABS. -/
theorem does_fabs (d : Dev) (k : Fin 4) (rd ra : Fin 32) (h0 : d.ready k) : let e := d.fop k rd (fun c => fFlush (fAbs (c.getF ra))); onlyCore k d e ((d.triad k).core.setF rd (fFlush (fAbs ((d.triad k).core.getF ra)))).next := by
  intro e
  exact Dev.alu_ready _ _ _ h0

/-- FNEG. -/
theorem does_fneg (d : Dev) (k : Fin 4) (rd ra : Fin 32) (h0 : d.ready k) : let e := d.fop k rd (fun c => fFlush (fNeg (c.getF ra))); onlyCore k d e ((d.triad k).core.setF rd (fFlush (fNeg ((d.triad k).core.getF ra)))).next := by
  intro e
  exact Dev.alu_ready _ _ _ h0

end Sys2Proof.Machine
end

