-- ==== Sys2Proof/Laws/CoresMem.lean ====
section
/-! SUPPORT. What the loads, stores and atomics do in the local SRAM of their triad (Table COR-1, R267, R364). -/

namespace Sys2Proof.Machine

theorem Dev.accessFault_none {d : Dev} {t kind a n align : Nat} (h : d.accessFault t kind a n align = none) :
    a % align = 0 ∧ mapped kind a n = true ∧ d.permitted t kind a n = true := by
  unfold Dev.accessFault at h
  split at h
  · simp at h
  · rename_i h0
    split at h
    · rename_i h1
      rw [Bool.and_eq_true] at h1
      exact ⟨by simpa using h0, h1.1, h1.2⟩
    · simp at h

theorem onlyTriad_mod {t : Nat} {d e : Dev} {g : Triad → Triad} (h : onlyTriad t d e) : onlyTriad t d (e.modTriad t g) := by
  obtain ⟨x, rfl⟩ := h
  refine ⟨g ((d.putTriad t x).triad t), ?_⟩
  unfold Dev.modTriad Dev.putTriad
  dsimp only
  rw [Tab.set_set]

theorem onlyTriad_self (t : Nat) (d : Dev) (g : Triad → Triad) : onlyTriad t d (d.modTriad t g) := ⟨_, rfl⟩

theorem packW_word (m : Mem) (a : Nat) : (packW (Mem.getN 0 m a 4)).headD 0 = Mem.word m a := by
  have h : ∀ b0 b1 b2 b3 : Byte, packW [b0, b1, b2, b3] = [BitVec.ofNat 32 (leNat [b0, b1, b2, b3])] := by
    intros
    simp [packW, sliceB, List.range_succ]
  have h4 : Mem.getN 0 m a 4 = [Mem.get 0 m (a + 0), Mem.get 0 m (a + 1), Mem.get 0 m (a + 2), Mem.get 0 m (a + 3)] := rfl
  unfold Mem.word Mem.num
  rw [h4, h]
  rfl

theorem local_not_other {a : Nat} (h : inLocal a = true) :
    inPeriph a = false ∧ inShared a = false ∧ inCoef a = false ∧ inSig a = false ∧ inJrn a = false := by
  simp only [inLocal, decide_eq_true_eq] at h
  simp only [inPeriph, inShared, inCoef, inSig, inJrn, Bool.and_eq_false_iff, decide_eq_false_iff_not]
  omega

/-- A permitted access that begins in local SRAM ends there. -/
theorem local_end {kind a n : Nat} (h : mapped kind a n = true) (hl : inLocal a = true) : inLocal (a + (n - 1)) = true := by
  obtain ⟨h1, h2, h3, h4, h5⟩ := local_not_other hl
  unfold mapped at h
  dsimp only at h
  rw [hl, h1, h2, h3, h4, h5] at h
  split at h
  · simpa using h
  · simp only [Bool.true_and, Bool.false_and, Bool.or_false, Bool.and_eq_true] at h
    exact h.1

theorem Dev.loadN_local (d : Dev) (t a n : Nat) (h : inLocal (a + (n - 1)) = true) (hl : inLocal a = true) :
    (d.loadN t a n).1 = Mem.getN 0 (d.triad t).lram a n := by
  unfold Dev.loadN
  rw [if_neg (by simp [(local_not_other hl).1])]
  unfold Mem.getN
  apply List.map_congr_left
  intro i hi
  have hi := List.mem_range.1 hi
  have hb : inLocal (a + i) = true := by
    simp only [inLocal, decide_eq_true_eq] at h ⊢
    omega
  unfold Dev.peekByte
  rw [if_neg (by simp [(local_not_other hb).1]), if_pos hb]

/-- A load from local SRAM. -/
theorem Dev.load_local (d : Dev) (t ra n : Nat) (disp : BitVec 16) (put : Nat → Core → Core) (h : d.ready t)
    (ha : d.accessFault t ecLoad ((d.triad t).core.memAddr ra disp) n n = none) (hl : inLocal ((d.triad t).core.memAddr ra disp) = true) :
    onlyCore t d (d.load t ra n disp put) (put (Mem.num (d.triad t).lram ((d.triad t).core.memAddr ra disp) n) (d.triad t).core).next := by
  unfold Dev.load
  rw [Dev.instr_ready _ _ _ h]
  dsimp only
  rw [ha]
  unfold Dev.loadThen
  dsimp only
  rw [if_pos hl, Dev.loadN_local _ _ _ _ (local_end (Dev.accessFault_none ha).2.1 hl) hl]
  exact Dev.finish_ready _ _ _ h

/-- A store of bytes within one word of local SRAM. -/
theorem Dev.storeN_local (d : Dev) (t a : Nat) (bs : List Byte) (h0 : bs ≠ []) (h1 : a % 4 + bs.length ≤ 4) (hl : inLocal a = true) :
    d.storeN t a bs = d.modTriad t (fun x =>
      { x with undo := (a / 4 * 4, Mem.word x.lram (a / 4 * 4)) :: x.undo, lram := Mem.putN 0 a bs x.lram }) := by
  have hn : 0 < bs.length := List.length_pos_iff.2 h0
  have h2 : (a % 4 + bs.length + 3) / 4 = 1 := by omega
  have hw : inLocal (a / 4 * 4) = true := by
    simp only [inLocal, decide_eq_true_eq] at hl ⊢
    omega
  have h3 : a / 4 * 4 + a % 4 = a := by omega
  unfold Dev.storeN
  rw [h2]
  have h4 : (d.forEach (List.range 1) (fun i d =>
      let o := if i = 0 then a % 4 else 0
      let wa := a / 4 * 4 + 4 * i
      d.storePart t wa o ((bs.drop (wa + o - a)).take (4 - o)))) = d.storePart t (a / 4 * 4) (a % 4) bs := by
    show d.storePart t (a / 4 * 4 + 4 * 0) (a % 4) ((bs.drop (a / 4 * 4 + 4 * 0 + a % 4 - a)).take (4 - a % 4)) = _
    have h5 : a / 4 * 4 + 4 * 0 + a % 4 - a = 0 := by omega
    rw [h5, List.drop_zero, List.take_of_length_le (by omega), Nat.mul_zero, Nat.add_zero]
  dsimp only at h4 ⊢
  rw [h4]
  have hd : (List.range 1).any (fun i => d.dropsStore (a / 4 * 4 + 4 * i)) = false := by
    show (d.dropsStore (a / 4 * 4 + 4 * 0) || false) = false
    rw [Nat.mul_zero, Nat.add_zero]
    simp [Dev.dropsStore, (local_not_other hw).2.1, (local_not_other hw).2.2.2.1]
  rw [hd, if_neg Bool.false_ne_true]
  unfold Dev.storePart
  dsimp only
  rw [if_neg (by simp [(local_not_other hw).1]), if_pos hw, h3]
  unfold Dev.when
  rw [if_neg (by simp [(local_not_other hl).2.1])]

/-- A store to local SRAM with nothing to replay. -/
theorem Dev.store_local (d : Dev) (t ra n : Nat) (disp : BitVec 16) (val : Core → W) (h : d.ready t) (hr : (d.triad t).replay = [])
    (hn : n = 1 ∨ n = 2 ∨ n = 4)
    (ha : d.accessFault t ecStore ((d.triad t).core.memAddr ra disp) n n = none) (hl : inLocal ((d.triad t).core.memAddr ra disp) = true) :
    ((d.store t ra n disp val).triad t).lram =
        Mem.putN 0 ((d.triad t).core.memAddr ra disp) (leBytes n (val (d.triad t).core).toNat) (d.triad t).lram ∧
      ((d.store t ra n disp val).triad t).core = (d.triad t).core.next ∧ onlyTriad t d (d.store t ra n disp val) := by
  have hm := (Dev.accessFault_none ha).1
  have hs : d.store t ra n disp val = ((d.modTriad t (fun x => { x with effects := x.effects ++ [⟨ekStore + 16 * n, (d.triad t).core.memAddr ra disp, leNat (leBytes n (val (d.triad t).core).toNat)⟩] })).storeN t ((d.triad t).core.memAddr ra disp) (leBytes n (val (d.triad t).core).toNat)).finish t Core.next := by
    unfold Dev.store
    rw [Dev.instr_ready _ _ _ h]
    dsimp only
    rw [ha]
    unfold Dev.vote
    rw [hr]
    rfl
  rw [hs, Dev.storeN_local _ _ _ _ (by intro hc; have := congrArg List.length hc; rw [leBytes_length] at this; simp at this; omega)
    (by rw [leBytes_length]; rcases hn with rfl | rfl | rfl <;> omega) hl]
  unfold Dev.finish
  rw [if_pos (by unfold Dev.triadLive; rw [Dev.triad_modTriad, Dev.triad_modTriad]; dsimp only; rw [h.2.1])]
  refine ⟨by simp, by simp, ?_⟩
  exact onlyTriad_mod (onlyTriad_mod (onlyTriad_self _ _ _))

theorem Dev.atomic_local (d : Dev) (t rd ra rb : Nat) (f : W → W → W) (h : d.ready t) (hr : (d.triad t).replay = [])
    (ha : d.accessFault t ecLoad ((d.triad t).core.getW ra).toNat 4 4 = none) (hb : d.accessFault t ecStore ((d.triad t).core.getW ra).toNat 4 4 = none)
    (hl : inLocal ((d.triad t).core.getW ra).toNat = true) :
    ((d.atomic t rd ra rb f).triad t).lram = Mem.putWord ((d.triad t).core.getW ra).toNat
        (f (Mem.word (d.triad t).lram ((d.triad t).core.getW ra).toNat) ((d.triad t).core.getW rb)) (d.triad t).lram ∧
      ((d.atomic t rd ra rb f).triad t).core = ((d.triad t).core.setW rd (Mem.word (d.triad t).lram ((d.triad t).core.getW ra).toNat)).next ∧
      onlyTriad t d (d.atomic t rd ra rb f) := by
  have hm := (Dev.accessFault_none ha).1
  have he := local_end (Dev.accessFault_none ha).2.1 hl
  generalize hA : ((d.triad t).core.getW ra).toNat = a at *
  generalize hE : (⟨ekAtomic, a, (f 0 ((d.triad t).core.getW rb)).toNat⟩ : Effect) = ef
  generalize hD : d.modTriad t (fun x => { x with effects := x.effects ++ [ef] }) = d1
  have hl1 : (d1.triad t).lram = (d.triad t).lram := by subst hD; simp
  have hold : (packW (d1.loadN t a 4).1).headD 0 = Mem.word (d.triad t).lram a := by
    rw [Dev.loadN_local _ _ _ _ he hl, hl1]
    exact packW_word _ _
  have hs : d.atomic t rd ra rb f = (d1.storeN t a (leBytes 4 (f (Mem.word (d.triad t).lram a) ((d.triad t).core.getW rb)).toNat)).finish t
      (fun c => (c.setW rd (Mem.word (d.triad t).lram a)).next) := by
    unfold Dev.atomic
    rw [Dev.instr_ready _ _ _ h]
    dsimp only
    rw [hA, ha, hb]
    simp only [Option.or_none]
    rw [if_neg (by simp [(local_not_other hl).2.1])]
    unfold Dev.vote
    rw [hr, hE]
    dsimp only
    rw [hD]
    simp only [hl, if_true, Bool.or_true]
    rw [hold]
    have hk : (d1.loadN t a 4).2 = d1 := by
      unfold Dev.loadN
      rw [if_neg (by simp [(local_not_other hl).1])]
    rw [hk]
  rw [hs, Dev.storeN_local _ _ _ _ (by intro hc; have := congrArg List.length hc; rw [leBytes_length] at this; simp at this)
    (by rw [leBytes_length]; omega) hl]
  subst hD
  unfold Dev.finish
  rw [if_pos (by unfold Dev.triadLive; rw [Dev.triad_modTriad, Dev.triad_modTriad]; dsimp only; rw [h.2.1])]
  refine ⟨by simp [Mem.putWord], by simp, ?_⟩
  exact onlyTriad_mod (onlyTriad_mod (onlyTriad_self _ _ _))

/-- LDB. -/
theorem does_ldb (d : Dev) (k : Fin 4) (rd ra : Fin 32) (disp : BitVec 16) (h0 : d.ready k) (h1 : d.accessFault k ecLoad ((d.triad k).core.memAddr ra disp) 1 1 = none) (h2 : inLocal ((d.triad k).core.memAddr ra disp) = true) : let e := d.load k ra 1 disp (fun v c => c.setW rd ((BitVec.ofNat 8 v).signExtend 32)); onlyCore k d e ((d.triad k).core.setW rd ((BitVec.ofNat 8 (Mem.num (d.triad k).lram ((d.triad k).core.memAddr ra disp) 1)).signExtend 32)).next := by
  intro e
  exact Dev.load_local _ _ _ _ _ _ h0 h1 h2

/-- LDBU. -/
theorem does_ldbu (d : Dev) (k : Fin 4) (rd ra : Fin 32) (disp : BitVec 16) (h0 : d.ready k) (h1 : d.accessFault k ecLoad ((d.triad k).core.memAddr ra disp) 1 1 = none) (h2 : inLocal ((d.triad k).core.memAddr ra disp) = true) : let e := d.load k ra 1 disp (fun v c => c.setW rd (BitVec.ofNat 32 v)); onlyCore k d e ((d.triad k).core.setW rd (BitVec.ofNat 32 (Mem.num (d.triad k).lram ((d.triad k).core.memAddr ra disp) 1))).next := by
  intro e
  exact Dev.load_local _ _ _ _ _ _ h0 h1 h2

/-- LDH. -/
theorem does_ldh (d : Dev) (k : Fin 4) (rd ra : Fin 32) (disp : BitVec 16) (h0 : d.ready k) (h1 : d.accessFault k ecLoad ((d.triad k).core.memAddr ra disp) 2 2 = none) (h2 : inLocal ((d.triad k).core.memAddr ra disp) = true) : let e := d.load k ra 2 disp (fun v c => c.setW rd ((BitVec.ofNat 16 v).signExtend 32)); onlyCore k d e ((d.triad k).core.setW rd ((BitVec.ofNat 16 (Mem.num (d.triad k).lram ((d.triad k).core.memAddr ra disp) 2)).signExtend 32)).next := by
  intro e
  exact Dev.load_local _ _ _ _ _ _ h0 h1 h2

/-- LDHU. -/
theorem does_ldhu (d : Dev) (k : Fin 4) (rd ra : Fin 32) (disp : BitVec 16) (h0 : d.ready k) (h1 : d.accessFault k ecLoad ((d.triad k).core.memAddr ra disp) 2 2 = none) (h2 : inLocal ((d.triad k).core.memAddr ra disp) = true) : let e := d.load k ra 2 disp (fun v c => c.setW rd (BitVec.ofNat 32 v)); onlyCore k d e ((d.triad k).core.setW rd (BitVec.ofNat 32 (Mem.num (d.triad k).lram ((d.triad k).core.memAddr ra disp) 2))).next := by
  intro e
  exact Dev.load_local _ _ _ _ _ _ h0 h1 h2

/-- LDW. -/
theorem does_ldw (d : Dev) (k : Fin 4) (rd ra : Fin 32) (disp : BitVec 16) (h0 : d.ready k) (h1 : d.accessFault k ecLoad ((d.triad k).core.memAddr ra disp) 4 4 = none) (h2 : inLocal ((d.triad k).core.memAddr ra disp) = true) : let e := d.load k ra 4 disp (fun v c => c.setW rd (BitVec.ofNat 32 v)); onlyCore k d e ((d.triad k).core.setW rd (BitVec.ofNat 32 (Mem.num (d.triad k).lram ((d.triad k).core.memAddr ra disp) 4))).next := by
  intro e
  exact Dev.load_local _ _ _ _ _ _ h0 h1 h2

/-- FLW. -/
theorem does_flw (d : Dev) (k : Fin 4) (rd ra : Fin 32) (disp : BitVec 16) (h0 : d.ready k) (h1 : d.accessFault k ecLoad ((d.triad k).core.memAddr ra disp) 4 4 = none) (h2 : inLocal ((d.triad k).core.memAddr ra disp) = true) : let e := d.load k ra 4 disp (fun v c => c.setF rd (BitVec.ofNat 32 v)); onlyCore k d e ((d.triad k).core.setF rd (BitVec.ofNat 32 (Mem.num (d.triad k).lram ((d.triad k).core.memAddr ra disp) 4))).next := by
  intro e
  exact Dev.load_local _ _ _ _ _ _ h0 h1 h2

/-- STB. -/
theorem does_stb (d : Dev) (k : Fin 4) (rs ra : Fin 32) (disp : BitVec 16) (h0 : d.ready k) (h1 : (d.triad k).replay = []) (h2 : d.accessFault k ecStore ((d.triad k).core.memAddr ra disp) 1 1 = none) (h3 : inLocal ((d.triad k).core.memAddr ra disp) = true) : let e := d.store k ra 1 disp (fun c => c.getW rs); (e.triad k).lram = Mem.putN 0 ((d.triad k).core.memAddr ra disp) (leBytes 1 ((d.triad k).core.getW rs).toNat) (d.triad k).lram ∧ (e.triad k).core = (d.triad k).core.next ∧ onlyTriad k d e := by
  intro e
  exact Dev.store_local _ _ _ 1 _ _ h0 h1 (by decide) h2 h3

/-- STH. -/
theorem does_sth (d : Dev) (k : Fin 4) (rs ra : Fin 32) (disp : BitVec 16) (h0 : d.ready k) (h1 : (d.triad k).replay = []) (h2 : d.accessFault k ecStore ((d.triad k).core.memAddr ra disp) 2 2 = none) (h3 : inLocal ((d.triad k).core.memAddr ra disp) = true) : let e := d.store k ra 2 disp (fun c => c.getW rs); (e.triad k).lram = Mem.putN 0 ((d.triad k).core.memAddr ra disp) (leBytes 2 ((d.triad k).core.getW rs).toNat) (d.triad k).lram ∧ (e.triad k).core = (d.triad k).core.next ∧ onlyTriad k d e := by
  intro e
  exact Dev.store_local _ _ _ 2 _ _ h0 h1 (by decide) h2 h3

/-- STW. -/
theorem does_stw (d : Dev) (k : Fin 4) (rs ra : Fin 32) (disp : BitVec 16) (h0 : d.ready k) (h1 : (d.triad k).replay = []) (h2 : d.accessFault k ecStore ((d.triad k).core.memAddr ra disp) 4 4 = none) (h3 : inLocal ((d.triad k).core.memAddr ra disp) = true) : let e := d.store k ra 4 disp (fun c => c.getW rs); (e.triad k).lram = Mem.putN 0 ((d.triad k).core.memAddr ra disp) (leBytes 4 ((d.triad k).core.getW rs).toNat) (d.triad k).lram ∧ (e.triad k).core = (d.triad k).core.next ∧ onlyTriad k d e := by
  intro e
  exact Dev.store_local _ _ _ 4 _ _ h0 h1 (by decide) h2 h3

/-- FSW. -/
theorem does_fsw (d : Dev) (k : Fin 4) (rs ra : Fin 32) (disp : BitVec 16) (h0 : d.ready k) (h1 : (d.triad k).replay = []) (h2 : d.accessFault k ecStore ((d.triad k).core.memAddr ra disp) 4 4 = none) (h3 : inLocal ((d.triad k).core.memAddr ra disp) = true) : let e := d.store k ra 4 disp (fun c => c.getF rs); (e.triad k).lram = Mem.putN 0 ((d.triad k).core.memAddr ra disp) (leBytes 4 ((d.triad k).core.getF rs).toNat) (d.triad k).lram ∧ (e.triad k).core = (d.triad k).core.next ∧ onlyTriad k d e := by
  intro e
  exact Dev.store_local _ _ _ 4 _ _ h0 h1 (by decide) h2 h3

/-- SWAPW. -/
theorem does_swapw (d : Dev) (k : Fin 4) (rd ra rb : Fin 32) (h0 : d.ready k) (h1 : (d.triad k).replay = []) (h2 : d.accessFault k ecLoad ((d.triad k).core.getW ra).toNat 4 4 = none) (h3 : d.accessFault k ecStore ((d.triad k).core.getW ra).toNat 4 4 = none) (h4 : inLocal ((d.triad k).core.getW ra).toNat = true) : let e := d.atomic k rd ra rb (fun _ v => v); (e.triad k).lram = Mem.putWord ((d.triad k).core.getW ra).toNat ((d.triad k).core.getW rb) (d.triad k).lram ∧ (e.triad k).core = ((d.triad k).core.setW rd (Mem.word (d.triad k).lram ((d.triad k).core.getW ra).toNat)).next ∧ onlyTriad k d e := by
  intro e
  exact Dev.atomic_local _ _ _ _ _ _ h0 h1 h2 h3 h4

/-- ADDW. -/
theorem does_addw (d : Dev) (k : Fin 4) (rd ra rb : Fin 32) (h0 : d.ready k) (h1 : (d.triad k).replay = []) (h2 : d.accessFault k ecLoad ((d.triad k).core.getW ra).toNat 4 4 = none) (h3 : d.accessFault k ecStore ((d.triad k).core.getW ra).toNat 4 4 = none) (h4 : inLocal ((d.triad k).core.getW ra).toNat = true) : let e := d.atomic k rd ra rb (fun old v => old + v); (e.triad k).lram = Mem.putWord ((d.triad k).core.getW ra).toNat (Mem.word (d.triad k).lram ((d.triad k).core.getW ra).toNat + (d.triad k).core.getW rb) (d.triad k).lram ∧ (e.triad k).core = ((d.triad k).core.setW rd (Mem.word (d.triad k).lram ((d.triad k).core.getW ra).toNat)).next ∧ onlyTriad k d e := by
  intro e
  exact Dev.atomic_local _ _ _ _ _ _ h0 h1 h2 h3 h4

end Sys2Proof.Machine
end

