-- ==== Sys2Proof/Laws/CoresSys.lean ====
section
/-! SUPPORT. What the system and special instructions, the events and the waits of a core do (R365–R377, Table COR-7). -/

namespace Sys2Proof.Machine

theorem Dev.vote_fresh (d : Dev) (t : Nat) (ef : Effect) (h : d.fresh t) : d.vote t ef = (some true, d.acted t ef) := by
  unfold Dev.vote
  rw [h.1]
  rfl

theorem Dev.acted_triad (d : Dev) (t : Nat) (ef : Effect) :
    (d.acted t ef).triad t = { d.triad t with effects := (d.triad t).effects ++ [ef] } := Tab.getD_set_self _ _ _ _

theorem Dev.logged_fresh (d : Dev) (t n : Nat) (get : Dev → List W × Dev) (h : (d.triad t).replayReads = []) :
    d.logged t n get = ((get d).1, (get d).2.modTriad t (fun x => { x with reads := x.reads ++ (get d).1 })) := by
  unfold Dev.logged
  dsimp only
  rw [if_neg (by rw [h]; simp only [List.length_nil, Bool.and_eq_true, decide_eq_true_eq, not_and]; omega)]

theorem Dev.setF_triad (d : Dev) (a : Nat) (f : Fld) (v t : Nat) : (d.setF a f v).triad t = d.triad t := rfl

theorem Dev.takeLine_core (d : Dev) (t n : Nat) :
    ((d.takeLine t n).triad t).core = (d.triad t).core.vector n (d.rd (COR_VBASE t)) := by
  unfold Dev.takeLine
  dsimp only
  rw [Dev.setF_triad, Dev.triad_modTriad]

theorem Dev.takeLine_only (d : Dev) (t n : Nat) : onlyTriad t (d.setF (COR_STAT t) COR_STAT_LINE n) (d.takeLine t n) := by
  unfold Dev.takeLine Dev.modTriad Dev.putTriad onlyTriad
  exact ⟨_, rfl⟩

theorem Dev.countFault_triad (d : Dev) (t line cause addr k : Nat) : (d.countFault t line cause addr).triad k = d.triad k := by
  unfold Dev.countFault Dev.triad
  dsimp only
  simp

theorem Dev.fault_core (d : Dev) (t line cause addr : Nat) (h : (d.triad t).core.fh = false) :
    ((d.fault t line cause addr).triad t).core =
      { (d.triad t).core.vector line ((d.countFault t line cause addr).rd (COR_VBASE t)) with
        ecause := BitVec.ofNat 32 cause, eaddr := BitVec.ofNat 32 addr } := by
  unfold Dev.fault
  dsimp only
  rw [h]
  unfold Dev.modCore
  simp only [Bool.false_eq_true, if_false, Dev.triad_modTriad]
  rw [Dev.takeLine_core, Dev.countFault_triad]

theorem Dev.awaitLine_fresh (d : Dev) (t : Nat) (lo hi : W) (h : d.fresh t) :
    d.awaitLine t lo hi = match d.pendingIn t lo hi with
      | none => (none, d)
      | some n => (some n, (d.modTriad t (fun x => { x with reads := x.reads ++ [BitVec.ofNat 32 n] })).consumeLine t n) := by
  have he : d.eventNext t = none := by
    unfold Dev.eventNext
    dsimp only
    rw [h.1]
  unfold Dev.awaitLine
  rw [he, h.2]
  dsimp only [Option.isSome_none]
  simp only [Bool.false_eq_true, if_false]
  cases d.pendingIn t lo hi with
  | none => rfl
  | some n => dsimp only; rw [Dev.logged_fresh _ _ _ _ h.2]

/-- TRAP. -/
theorem does_trap (d : Dev) (k : Fin 4) (code : BitVec 10) (h0 : d.ready k) : let e := d.trap k code; (e.triad k).core = { (d.triad k).core.next.vector 3 (d.rd (COR_VBASE k)) with ecause := BitVec.ofNat 32 ecTrap, eaddr := code.setWidth 32 } ∧ onlyTriad k (d.setF (COR_STAT k) COR_STAT_LINE 3) e := by
  intro e
  simp only [e]
  unfold Dev.trap
  rw [Dev.instr_ready _ _ _ h0]
  unfold Dev.modCore
  refine ⟨?_, ?_⟩
  · rw [Dev.triad_modTriad, Dev.takeLine_core, Dev.triad_modTriad]
    rfl
  · exact onlyTriad_mod (by
      obtain ⟨x, hx⟩ := Dev.takeLine_only (d.modTriad k (fun x => { x with core := x.core.next })) k 3
      rw [hx]
      refine ⟨x, ?_⟩
      unfold Dev.modTriad Dev.putTriad Dev.setF Dev.wr
      dsimp only
      rw [Tab.set_set]
      rfl)

/-- RETE. -/
theorem does_rete (d : Dev) (k : Fin 4) (h0 : d.ready k) (h1 : (d.triad k).core.sup = true) : let e := d.rete k; onlyCore k d e ({ (d.triad k).core with status := (d.triad k).core.statusBack }.goTo (d.triad k).core.epc) := by
  intro e
  simp only [e]
  unfold Dev.rete
  rw [Dev.instr_ready _ _ _ h0]
  rw [if_pos h1]
  exact Dev.finish_ready _ _ _ h0

/-- MFSR. -/
theorem does_mfsr (d : Dev) (k : Fin 4) (rd sr : Fin 32) (v : W) (h0 : d.ready k) (h1 : (d.triad k).core.special k sr = some v) (h2 : (d.triad k).core.sup = true ∨ openSpecial sr = true) : let e := d.mfsr k rd sr; onlyCore k d e ((d.triad k).core.setW rd v).next := by
  intro e
  simp only [e]
  unfold Dev.mfsr
  rw [Dev.instr_ready _ _ _ h0]
  dsimp only
  rw [h1]
  dsimp only
  rw [if_pos (by simpa using h2)]
  exact Dev.finish_ready _ _ _ h0

/-- MTSR. -/
theorem does_mtsr (d : Dev) (k : Fin 4) (ra sr : Fin 32) (h0 : d.ready k) (h1 : ((d.triad k).core.special k sr).isSome = true) (h2 : (d.triad k).core.sup = true) : let e := d.mtsr k ra sr; onlyCore k d e ((d.triad k).core.setSpecial sr ((d.triad k).core.getW ra)).next := by
  intro e
  simp only [e]
  unfold Dev.mtsr
  rw [Dev.instr_ready _ _ _ h0]
  dsimp only
  rw [if_neg (by cases h : (d.triad k).core.special k sr <;> simp_all), if_pos h2]
  exact Dev.finish_ready _ _ _ h0

/-- SIGRD. -/
theorem does_sigrd (d : Dev) (k : Fin 4) (rd ra : Fin 32) (h0 : d.ready k) (h1 : d.fresh k) (h2 : rd.val ≤ 29) (h3 : ((d.triad k).core.getW ra).toNat ≤ 0xFFFF) : let e := d.sigrd k rd ra; (e.triad k).core = ((((d.triad k).core.setW rd (BitVec.ofNat 32 (d.sigVal ((d.triad k).core.getW ra).toNat))).setW (rd + 1) (BitVec.ofNat 32 (d.sigVal ((d.triad k).core.getW ra).toNat / 2 ^ 32))).setW (rd + 2) (d.sigStamp ((d.triad k).core.getW ra).toNat)).next ∧ onlyTriad k d e := by
  intro e
  have hs : e = ((d.acted k ⟨ekSigrd, ((d.triad k).core.getW ra).toNat, 0⟩).modTriad k (fun x => { x with reads := x.reads ++ [BitVec.ofNat 32 (d.sigVal ((d.triad k).core.getW ra).toNat), BitVec.ofNat 32 (d.sigVal ((d.triad k).core.getW ra).toNat / 2 ^ 32), d.sigStamp ((d.triad k).core.getW ra).toNat] })).finish k
      (fun c => (((c.setW rd (BitVec.ofNat 32 (d.sigVal ((d.triad k).core.getW ra).toNat))).setW (rd + 1) (BitVec.ofNat 32 (d.sigVal ((d.triad k).core.getW ra).toNat / 2 ^ 32))).setW (rd + 2) (d.sigStamp ((d.triad k).core.getW ra).toNat)).next) := by
    simp only [e]
    unfold Dev.sigrd
    rw [Dev.instr_ready _ _ _ h0]
    dsimp only
    rw [if_neg (by omega), if_neg (by omega), Dev.vote_fresh _ _ _ h1]
    dsimp only
    rw [Dev.logged_fresh _ _ _ _ (by rw [Dev.acted_triad]; exact h1.2)]
    rfl
  rw [hs]
  unfold Dev.finish
  rw [if_pos (by unfold Dev.triadLive; rw [Dev.triad_modTriad, Dev.acted_triad]; dsimp only; rw [h0.2.1])]
  refine ⟨?_, onlyTriad_mod (onlyTriad_mod (onlyTriad_self _ _ _))⟩
  rw [Dev.triad_modTriad, Dev.triad_modTriad, Dev.acted_triad]

/-- SIGWR. -/
theorem does_sigwr (d : Dev) (k : Fin 4) (rd ra : Fin 32) (h0 : d.ready k) (h1 : d.fresh k) (h2 : rd.val ≤ 30) (h3 : ((d.triad k).core.getW ra).toNat ≤ 0xFFFF) : let e := d.sigwr k rd ra; e = ((d.acted k ⟨ekSigwr, ((d.triad k).core.getW ra).toNat, ((d.triad k).core.getW (rd + 1)).toNat * 2 ^ 32 + ((d.triad k).core.getW rd).toNat⟩).sigStore k ((d.triad k).core.getW ra).toNat ((d.triad k).core.getW rd) ((d.triad k).core.getW (rd + 1))).finish k Core.next := by
  intro e
  simp only [e]
  unfold Dev.sigwr
  rw [Dev.instr_ready _ _ _ h0]
  dsimp only
  rw [if_neg (by omega), if_neg (by omega), Dev.vote_fresh _ _ _ h1]
  dsimp only
  unfold Dev.when
  rw [if_pos rfl]

/-- QPOST. -/
theorem does_qpost (d : Dev) (k : Fin 4) (rd ra rb : Fin 32) (h0 : d.ready k) (h1 : d.fresh k) (h2 : rd.val ≤ 30) (h3 : ((d.triad k).core.getW ra).toNat ≤ 31) (h4 : d.accessFault k ecLoad ((d.triad k).core.getW rb).toNat 96 1 = none) (h5 : inLocal ((d.triad k).core.getW rb).toNat = true) (h6 : (((d.acted k ⟨ekPost, ((d.triad k).core.getW ra).toNat, leNat (d.loadN k ((d.triad k).core.getW rb).toNat 96).1⟩).postNow k ((d.triad k).core.getW ra).toNat (d.loadN k ((d.triad k).core.getW rb).toNat 96).1).1.headD 0) ≠ begun) : let e := d.qpost k rd ra rb; let r := (d.acted k ⟨ekPost, ((d.triad k).core.getW ra).toNat, leNat (d.loadN k ((d.triad k).core.getW rb).toNat 96).1⟩).postNow k ((d.triad k).core.getW ra).toNat (d.loadN k ((d.triad k).core.getW rb).toNat 96).1; e = (r.2.modTriad k (fun x => { x with reads := x.reads ++ r.1 })).finish k (fun c => ((c.setW rd (r.1.headD 0)).setW (rd + 1) (r.1.getD 1 0)).next) := by
  intro e r
  simp only [e]
  unfold Dev.qpost
  rw [Dev.instr_ready _ _ _ h0]
  dsimp only
  rw [if_neg (by omega), if_neg (by omega), h4]
  unfold Dev.loadThen
  dsimp only
  rw [if_pos h5, Dev.vote_fresh _ _ _ h1]
  dsimp only
  rw [Dev.logged_fresh _ _ _ _ (by rw [Dev.acted_triad]; exact h1.2)]
  dsimp only
  rw [if_neg h6]

/-- QTAKE. -/
theorem does_qtake (d : Dev) (k : Fin 4) (rd ra rb : Fin 32) (h0 : d.ready k) (h1 : d.fresh k) (h2 : ((d.triad k).core.getW ra).toNat ≤ 31) (h3 : d.accessFault k ecStore ((d.triad k).core.getW rb).toNat 96 1 = none) (h4 : (((d.acted k ⟨ekTake, ((d.triad k).core.getW ra).toNat, ((d.triad k).core.getW rb).toNat⟩).takeNow ((d.triad k).core.getW ra).toNat ((d.triad k).core.getW rb).toNat k).1.headD 0) ≠ begun) : let e := d.qtake k rd ra rb; let r := (d.acted k ⟨ekTake, ((d.triad k).core.getW ra).toNat, ((d.triad k).core.getW rb).toNat⟩).takeNow ((d.triad k).core.getW ra).toNat ((d.triad k).core.getW rb).toNat k; e = (((r.2.modTriad k (fun x => { x with reads := x.reads ++ r.1 })).when (decide (1 < r.1.length)) (fun y => y.storeN k ((d.triad k).core.getW rb).toNat (unpackW 96 (r.1.drop 1)))).finish k (fun c => (c.setW rd (r.1.headD 0)).next)) := by
  intro e r
  simp only [e]
  unfold Dev.qtake
  rw [Dev.instr_ready _ _ _ h0]
  dsimp only
  rw [if_neg (by omega), h3]
  dsimp only
  rw [Dev.vote_fresh _ _ _ h1]
  dsimp only
  have hr : ((d.acted k ⟨ekTake, ((d.triad k).core.getW ra).toNat, ((d.triad k).core.getW rb).toNat⟩).triad k).replayReads = [] := by
    rw [Dev.acted_triad]; exact h1.2
  rw [hr]
  dsimp only
  rw [Dev.logged_fresh _ _ _ _ hr]
  dsimp only
  rw [if_neg h4]
  simp only [Bool.true_or, Bool.and_true, r]

/-- AWAIT. -/
theorem does_await_none (d : Dev) (k : Fin 4) (rd ra rb : Fin 32) (h0 : d.ready k) (h1 : d.fresh k) (h2 : (d.triad k).core.getW ra ≠ 0 ∨ (d.triad k).core.getW rb ≠ 0) (h3 : d.pendingIn k ((d.triad k).core.getW ra) ((d.triad k).core.getW rb) = none) : let e := d.await k rd ra rb; e = d.modTriad k (fun x => { x with wait := .await rd ((d.triad k).core.getW ra) ((d.triad k).core.getW rb) }) := by
  intro e
  simp only [e]
  unfold Dev.await
  rw [Dev.instr_ready _ _ _ h0]
  dsimp only
  rw [if_neg (by simp only [Bool.and_eq_true, decide_eq_true_eq, not_and]; intro hx; rcases h2 with h | h; exact absurd hx h; exact h)]
  rw [Dev.awaitLine_fresh _ _ _ _ h1, h3]

/-- AWAIT. -/
theorem does_await (d : Dev) (k : Fin 4) (rd ra rb : Fin 32) (n : Nat) (h0 : d.ready k) (h1 : d.fresh k) (h2 : (d.triad k).core.getW ra ≠ 0 ∨ (d.triad k).core.getW rb ≠ 0) (h3 : d.pendingIn k ((d.triad k).core.getW ra) ((d.triad k).core.getW rb) = some n) : let e := d.await k rd ra rb; e = ((d.modTriad k (fun x => { x with reads := x.reads ++ [BitVec.ofNat 32 n] })).consumeLine k n).awaited k rd n := by
  intro e
  simp only [e]
  unfold Dev.await
  rw [Dev.instr_ready _ _ _ h0]
  dsimp only
  rw [if_neg (by simp only [Bool.and_eq_true, decide_eq_true_eq, not_and]; intro hx; rcases h2 with h | h; exact absurd hx h; exact h)]
  rw [Dev.awaitLine_fresh _ _ _ _ h1, h3]

/-- CKPT. -/
theorem does_ckpt (d : Dev) (k : Fin 4) (minority : Option (Fin 3)) (split : Bool) (h0 : d.ready k) (h1 : d.fresh k) : let e := d.ckpt k minority split; e = ((d.acted k ⟨ekCkpt, 0, 0⟩).finish k Core.next).triadCheckpoint k minority split := by
  intro e
  simp only [e]
  unfold Dev.ckpt
  rw [Dev.instr_ready _ _ _ h0]
  rw [Dev.vote_fresh _ _ _ h1]

/-- SYNC. -/
theorem does_sync (d : Dev) (k : Fin 4) (h0 : d.ready k) (h1 : d.fresh k) : let e := d.sync k; (e.triad k).wait = .sync ∧ (e.triad k).core = (d.triad k).core ∧ onlyTriad k d e := by
  intro e
  simp only [e]
  unfold Dev.sync
  rw [Dev.instr_ready _ _ _ h0]
  rw [Dev.vote_fresh _ _ _ h1]
  dsimp only
  refine ⟨?_, ?_, onlyTriad_mod (onlyTriad_self _ _ _)⟩ <;> rw [Dev.triad_modTriad]
  rw [Dev.acted_triad]

/-- UNDEFINED_ENCODING. -/
theorem does_undefinedEncoding (d : Dev) (k : Fin 4) (h0 : d.ready k) (h1 : (d.triad k).core.fh = false) : let e := d.instr k (fun d => d.illegal k ecUndefined); (e.triad k).core = { (d.triad k).core.vector 2 ((d.countFault k 2 ecUndefined (d.triad k).core.pc.toNat).rd (COR_VBASE k)) with ecause := BitVec.ofNat 32 ecUndefined, eaddr := (d.triad k).core.pc } := by
  intro e
  simp only [e]
  rw [Dev.instr_ready _ _ _ h0]
  unfold Dev.illegal
  rw [Dev.fault_core _ _ _ _ _ h1, BitVec.ofNat_toNat, BitVec.setWidth_eq]

/-- AWAIT_WAKE. -/
theorem does_awaitWake (d : Dev) (k : Fin 4) (rd : Nat) (lo hi : W) (n : Nat) (h0 : (d.triad k).wait = .await rd lo hi) (h1 : d.fresh k) (h2 : d.pendingIn k lo hi = some n) : let e := d.awaitWake k; e = ((d.modTriad k (fun x => { x with reads := x.reads ++ [BitVec.ofNat 32 n] })).consumeLine k n).awaited k rd n := by
  intro e
  simp only [e]
  unfold Dev.awaitWake
  rw [h0]
  dsimp only
  rw [Dev.awaitLine_fresh _ _ _ _ h1, h2]

/-- ASSURED_QUEUE_COMPLETE. -/
theorem does_assuredQueueComplete (d : Dev) (k : Fin 4) (rd : Nat) (v q : W) (h0 : (d.triad k).wait = .assured rd (some v) (some q)) : let e := d.assuredComplete k; (e.triad k).core = (((d.triad k).core.setW rd v).setW (rd + 1) q).next ∧ (e.triad k).wait = .none ∧ onlyTriad k d e := by
  intro e
  simp only [e]
  unfold Dev.assuredComplete
  rw [h0]
  unfold Dev.finish
  dsimp only
  rw [if_pos (by unfold Dev.triadLive; rw [Dev.triad_modTriad]; dsimp only; rw [h0])]
  refine ⟨?_, ?_, onlyTriad_mod (onlyTriad_self _ _ _)⟩ <;> rw [Dev.triad_modTriad]
  rw [Dev.triad_modTriad]

/-- SYNC_COMPLETE. -/
theorem does_syncComplete (d : Dev) (k : Fin 4) (h0 : (d.triad k).wait = .sync) : let e := d.syncComplete k; (e.triad k).core = (d.triad k).core.next ∧ (e.triad k).wait = .none ∧ onlyTriad k d e := by
  intro e
  simp only [e]
  unfold Dev.syncComplete
  rw [if_pos h0]
  unfold Dev.finish
  rw [if_pos (by unfold Dev.triadLive; rw [h0])]
  refine ⟨?_, ?_, onlyTriad_self _ _ _⟩ <;> rw [Dev.triad_modTriad]

/-- EVENT_TAKEN. -/
theorem does_eventTaken (d : Dev) (k : Fin 4) (n : Nat) (h0 : d.takesEvents k = true) (h1 : (d.triad k).replay = []) (h2 : d.eventDue k = some n) : let e := d.eventTaken k; e = ((d.acted k ⟨ekEvent, n, (d.triad k).core.icnt.toNat⟩).consumeLine k n).takeLine k n ∧ (e.triad k).core = (d.triad k).core.vector n ((d.consumeLine k n).rd (COR_VBASE k)) := by
  intro e
  have hs : e = ((d.acted k ⟨ekEvent, n, (d.triad k).core.icnt.toNat⟩).consumeLine k n).takeLine k n := by
    simp only [e]
    unfold Dev.eventTaken
    rw [h0, h1, h2]
    rfl
  refine ⟨hs, ?_⟩
  rw [hs, Dev.takeLine_core]
  have hc : ∀ x : Dev, ((x.consumeLine k n).triad k) = x.triad k := by
    intro x
    unfold Dev.consumeLine
    split
    · rfl
    · unfold Dev.dropLine; split <;> rfl
  have hr : ((d.acted k ⟨ekEvent, n, (d.triad k).core.icnt.toNat⟩).consumeLine k n).rd (COR_VBASE k) = (d.consumeLine k n).rd (COR_VBASE k) := by
    unfold Dev.consumeLine
    show (if d.levelLine k n = true then _ else _ : Dev).rd _ = _
    split
    · rfl
    · unfold Dev.dropLine; split <;> rfl
  rw [hc, Dev.acted_triad, hr]

/-- COR_TIMER_FIRE. -/
theorem does_corTimerFire (d : Dev) (k : Fin 4) (n : Fin 4) (h0 : d.inRun = true) (h1 : (d.rd (COR_TPER k n)).toNat ≠ 0) (h2 : d.epoch.toNat + (d.rd (COR_TPHS k n)).toNat ≤ d.now.toNat) (h3 : (d.now.toNat - (d.epoch.toNat + (d.rd (COR_TPHS k n)).toNat)) % (d.rd (COR_TPER k n)).toNat = 0) (h4 : (Tab.getD 0 d.tk.notBefore (timerKey k n)).toNat ≤ d.now.toNat) : let e := d.timerFire k n; e = d.raiseWhere (fun t' w => t' = k.val && w.fld COR_EVSRC_KIND = 4 && w.fld COR_EVSRC_ARG0 % 4 = n.val) := by
  intro e
  simp only [e]
  unfold Dev.timerFire
  dsimp only
  rw [if_neg (by simp only [h0, h3, Bool.true_and]; simp [h1, h2]; exact h4)]

/-- COR_SWEV. -/
theorem does_corSwev (d : Dev) (w : Fin 4) (v : W) (h0 : v.bit 31 = true) (h1 : 16 ≤ v.fld COR_SWEV_LINE) (h2 : (d.rd (COR_EVSRC w (v.fld COR_SWEV_LINE))).fld COR_EVSRC_KIND = 5) : let e := d.swev w v; e = d.raiseLine w (v.fld COR_SWEV_LINE) := by
  intro e
  simp only [e]
  unfold Dev.swev
  dsimp only
  rw [if_pos (by rw [h0, h2]; simpa using h1)]

end Sys2Proof.Machine
end

