-- ==== Sys2Proof/Laws/Engines.lean ====
section
/-! SUPPORT. What the commands of the control engines, the axis and converter units and the general I/O do (chapters 07, 08, 09 and 10). -/

namespace Sys2Proof.Machine

theorem Dev.rd64_wr64 (d : Dev) (lo hi : Nat) (v : BitVec 64) (h : lo ≠ hi) : (d.wr64 lo hi v).rd64 lo hi = v := by
  unfold Dev.wr64 Dev.rd64
  rw [Dev.rd_wr_self, Dev.rd_wr_ne _ _ _ _ h, Dev.rd_wr_self]
  apply BitVec.eq_of_toNat_eq
  simp only [BitVec.toNat_ofNat, BitVec.toNat_setWidth, BitVec.toNat_ushiftRight, Nat.shiftRight_eq_div_pow]
  omega

/-- CEN_GO_WRITE. -/
theorem does_cenGoWrite (d : Dev) (p : Fin 16) (v : W) : let e := d.cenGo p v; e = d.forEach (oneBits 4 v.toNat) (fun c x => if x.cascTrig (4 * p + c) = 3 then x.cascTrigger (4 * p + c) x.now else x) := by
  intro e
  simp only [e]; unfold Dev.cenGo
  rfl

/-- CEN_ACTIVATION_START. -/
theorem does_cenActivationStart (d : Dev) (i : Fin 64) (differ : Bool) (h0 : d.mayStart i = true) (h1 : differ = false ∨ d.isSet (CEN_CFG (pairOf i)) CEN_CFG_SPLIT = true) : let e := d.activate i differ; e = (d.startCascade i).runCascade i := by
  intro e
  simp only [e]; unfold Dev.activate
  have hx : (differ && !d.isSet (CEN_CFG (pairOf i)) CEN_CFG_SPLIT) = false := by
    rcases h1 with h | h <;> rw [h] <;> simp
  rw [h0, hx]
  rfl

/-- CEN_ACTIVATION_START. -/
theorem does_cenActivationStart_differ (d : Dev) (i : Fin 64) (differ : Bool) (h0 : d.mayStart i = true) (h1 : differ = true) (h2 : d.isSet (CEN_CFG (pairOf i)) CEN_CFG_SPLIT = false) : let e := d.activate i differ; e = (d.startCascade i).pairRestart (pairOf i) := by
  intro e
  simp only [e]; unfold Dev.activate
  rw [h0, h1, h2]
  rfl

/-- CEN_AGREEMENT. -/
theorem does_cenAgreement (d : Dev) (i : Fin 64) (sigDiffer : Bool) (q : Nat) (h0 : d.cascRun i = true) (h1 : d.now.toNat ≤ d.cascDeadline i) (h2 : d.cascOwner i = some q) (h3 : sigDiffer = false) : let e := d.agree i sigDiffer; e = ((d.deliverCascade i q).takeBank i).chainCascades i := by
  intro e
  simp only [e]; unfold Dev.agree; dsimp only
  rw [h0, h2, h3]
  dsimp only
  rw [if_neg (by simpa using h1)]
  rfl

/-- LATENT_REEXECUTION. -/
theorem does_latentReexecution (d : Dev) (p : Fin 16) (same : Bool) (q : Nat) (h0 : (d.pairOfD p).reexec = some q) (h1 : same = true) : let e := d.reexecuted p same; let m := d.modPair p (fun x => { x with reexec := none }); e = ((((m.takeBank q).setF (CEN_FLT p) CEN_FLT_LATENT 1).incSat (CEN_CNT p) CEN_CNT_LATENT).evt EV_CEN_LATENT [p.val, cascOf q]).gustPair p := by
  intro e m
  simp only [e]; unfold Dev.reexecuted
  rw [h0]
  dsimp only
  rw [h1, if_pos (show true = true from rfl)]

/-- LATENT_REEXECUTION. -/
theorem does_latentReexecution_differs (d : Dev) (p : Fin 16) (same : Bool) (q : Nat) (h0 : (d.pairOfD p).reexec = some q) (h1 : same = false) : let e := d.reexecuted p same; e = (d.modPair p (fun x => { x with reexec := none })).pairRestart p := by
  intro e
  simp only [e]; unfold Dev.reexecuted
  rw [h0]
  dsimp only
  rw [h1, if_neg (show ¬ false = true by decide)]

/-- CEN_RESTART_DONE. -/
theorem does_cenRestartDone (d : Dev) (p : Fin 16) (known : Bool) (h0 : d.isSet (CEN_STAT p) CEN_STAT_RESTARTING = true) (h1 : known = true) : let e := d.restartDone p known; let m := (((d.setF (CEN_STAT p) CEN_STAT_RESTARTING 0).modPair p (fun x => { x with discarded := [] })).setF (CEN_FLT p) CEN_FLT_MISMATCH 1).incSat (CEN_CNT p) CEN_CNT_RESTARTS; e = (m.evt EV_CEN_PAIR_MISMATCH [p.val, 0xFF, 0xFF]).gustPair p := by
  intro e m
  simp only [e]; unfold Dev.restartDone
  rw [h0, if_neg (show ¬ (!true) = true by decide)]
  dsimp only
  rw [h1]
  simp only [Bool.not_true]
  rw [Dev.when_false]

/-- CEN_DEADLINE_MISS. -/
theorem does_cenDeadlineMiss (d : Dev) (i : Fin 64) (h0 : d.cascPend i = true ∨ d.cascRun i = true) (h1 : d.cascDeadline i ≤ d.now.toNat) : let e := d.deadlineMiss i; e = ((d.setPend i false).setRun i false).cascMiss i := by
  intro e
  simp only [e]; unfold Dev.deadlineMiss
  rw [if_pos]
  simp only [Bool.and_eq_true, Bool.or_eq_true, decide_eq_true_eq]
  exact ⟨h0, h1⟩

/-- CEN_SELFTEST. -/
theorem does_cenSelftest (d : Dev) (p : Fin 16) (fail0 fail1 : Bool) (h0 : d.isSet (CEN_CFG p) CEN_CFG_STEN = true ∨ d.reqWanted 4 p = true) : let e := if d.isSet (CEN_CFG p) CEN_CFG_STEN || d.reqWanted 4 p then d.engineTest p fail0 fail1 else d; e = d.engineTest p fail0 fail1 := by
  intro e
  simp only [e]; skip
  rw [if_pos (by simpa using h0)]

/-- SELFTEST_DEFERRED. -/
theorem does_selftestDeferred (d : Dev) (p : Fin 16) (h0 : d.isSet (CEN_CFG p) CEN_CFG_STEN = true) (h1 : d.bit CEN_RETIRED (2 * p) = false ∨ d.bit CEN_RETIRED (2 * p + 1) = false) : let e := d.engineTestDeferred p; let m : Dev := { d with bkg := { d.bkg with deferred := d.bkg.deferred + 1 } }; e = ((m.setF (CEN_FLT p) CEN_FLT_DEFERRED 1).incSat (CEN_CNT p) CEN_CNT_DEFER).evt EV_CEN_SELFTEST_DEFERRED [p.val, 0xFF, 0xFF] := by
  intro e m
  simp only [e]; unfold Dev.engineTestDeferred
  rw [if_pos]
  rw [h0]
  rcases h1 with h | h <;> rw [h] <;> simp

/-- AXU_FORWARD_PASS. -/
theorem does_axuForwardPass (d : Dev) (u : Fin 16) (q : Nat) (h0 : d.axuOwner u = some q) (h1 : d.forwardDue u q = true) : let e := d.forwardPass u; e = d.forwardRun u q := by
  intro e
  simp only [e]; unfold Dev.forwardPass
  rw [h0]
  dsimp only
  rw [h1, Dev.when_true]

/-- AXU_INVERSE_STAGE. -/
theorem does_axuInverseStage (d : Dev) (u : Fin 16) (q : Nat) (h0 : d.axuOwner u = some q) (h1 : (d.axu u).invDue = true) (h2 : d.isSet (AXU_STAT u) AXU_STAT_ENABLED = true) (h3 : (d.modAxu u (fun a => { a with invDue := false })).axuPhase u ≠ phPolarity) : let e := d.inverseStage u; e = (d.modAxu u (fun a => { a with invDue := false })).inverse u q ((d.axu u).agreed.getD 0 f0) ((d.axu u).agreed.getD 1 f0) ((d.axu u).agreed.getD 2 f0) ((d.axu u).agreed.getD 3 f0) false := by
  intro e
  simp only [e]; unfold Dev.inverseStage
  rw [h0]
  dsimp only
  rw [h1, h2, if_neg (by decide), if_neg h3]

/-- MEASURE_DONE. -/
theorem does_measureDone (d : Dev) (u : Fin 16) (q : Nat) (h0 : d.axuOwner u = some q) (h1 : (d.funcD q).axuA = some u.val) (h2 : d.axuPhase u = phMeasure) (h3 : d.fld (AXU_FSCFG u) AXU_FSCFG_MEASN ≤ (d.axu u).meas.length) (h4 : (d.axu u).measStill = true) : let e := d.withUnit u (fun f d => d.measureDone u f (d.fnPer f)); e = d.measured u q 0 f0 false := by
  intro e
  simp only [e]; skip
  unfold Dev.withUnit
  rw [h0]
  dsimp only
  rw [if_pos h1]
  unfold Dev.measureDone; dsimp only
  rw [h2, if_neg (by simpa using h3), if_neg (show ¬ phMeasure = phMeasAsc by decide), h4, if_pos (show true = true from rfl)]

/-- POLARITY_TEST_DONE. -/
theorem does_polarityTestDone (d : Dev) (u : Fin 16) (q : Nat) (h0 : d.axuOwner u = some q) (h1 : (d.funcD q).axuA = some u.val) (h2 : d.axuPhase u = phPolarity) (h3 : 4 * d.fld (AXU_POLCFG u) AXU_POLCFG_POLN ≤ (d.axu u).polN) (h4 : fGe (fSub ((d.axu u).polI.getD (d.fld (AXU_POLCFG u) AXU_POLCFG_POLN) f0) ((d.axu u).polI.getD 0 f0)) (fMul (fNeg (fSub ((d.axu u).polI.getD (3 * d.fld (AXU_POLCFG u) AXU_POLCFG_POLN) f0) ((d.axu u).polI.getD (2 * d.fld (AXU_POLCFG u) AXU_POLCFG_POLN) f0))) (fOfRatio (100 + d.fld (AXU_POLCFG u) AXU_POLCFG_MRG) 100)) = true) : let e := d.withUnit u (fun f d => d.polarityDone u f); e = ((((d.wr (AXU_POLIP u) (fSub ((d.axu u).polI.getD (d.fld (AXU_POLCFG u) AXU_POLCFG_POLN) f0) ((d.axu u).polI.getD 0 f0))).wr (AXU_POLIN u) (fNeg (fSub ((d.axu u).polI.getD (3 * d.fld (AXU_POLCFG u) AXU_POLCFG_POLN) f0) ((d.axu u).polI.getD (2 * d.fld (AXU_POLCFG u) AXU_POLCFG_POLN) f0)))).setPhase u phTrack).reached u) := by
  intro e
  simp only [e]; skip
  unfold Dev.withUnit
  rw [h0]
  dsimp only
  rw [if_pos h1]
  unfold Dev.polarityDone; dsimp only
  rw [if_neg (by rw [h2]; simpa using h3), if_pos h4]

/-- REACQUIRE_ATTEMPT. -/
theorem does_reacquireAttempt (d : Dev) (u : Fin 16) (q : Nat) (h0 : d.axuOwner u = some q) (h1 : (d.funcD q).axuA = some u.val) (h2 : d.axuPhase u = phLost) (h3 : d.inSafe q = true) (h4 : d.isSet (RED_FNSTATE q) RED_FNSTATE_LATCHED = false) (h5 : d.fld (AXU_FSCFG u) AXU_FSCFG_RETRYDLY * msTicks ≤ d.since (d.axu u).failAt) : let e := d.withUnit u (fun f d => d.reacquire u f); e = (d.setPhase u (if d.fld (RED_FNSTATE q) RED_FNSTATE_STATE = sfAscLow then phMeasAsc else phMeasure)).modAxu u (fun a => { a with reacq := true, res := [], fwdDone := false }) := by
  intro e
  simp only [e]; skip
  unfold Dev.withUnit
  rw [h0]
  dsimp only
  rw [if_pos h1]
  unfold Dev.reacquire
  rw [if_pos (by rw [h2, h3, h4]; simpa using h5)]

/-- TRACK_SECOND. -/
theorem does_trackSecond (d : Dev) (u : Fin 16) (r : Time) (h0 : (d.axu u).trackAt = some r) (h1 : d.axuPhase u = phTrack) (h2 : secTicks ≤ d.since r) : let e := d.trackSecond u; e = (d.setF (AXU_POSSTAT u) AXU_POSSTAT_TRIES 0).modAxu u (fun a => { a with trackAt := none, reacq := false }) ∧ e.fld (AXU_POSSTAT u) AXU_POSSTAT_TRIES = 0 ∧ (e.axu u).trackAt = none := by
  intro e
  simp only [e]; unfold Dev.trackSecond
  rw [h0]
  dsimp only
  rw [if_pos (by rw [h1]; simpa using h2)]
  refine ⟨rfl, ?_, ?_⟩
  · show (d.setF (AXU_POSSTAT u) AXU_POSSTAT_TRIES 0).fld (AXU_POSSTAT u) AXU_POSSTAT_TRIES = 0
    rw [Dev.fld_setF_self _ _ _ _ (by decide)]
    rfl
  · unfold Dev.modAxu Dev.axu
    dsimp only
    rw [Tab.getD_set_self]

/-- HALL_EDGE. -/
theorem does_hallEdge (d : Dev) (u : Fin 16) (n : Fin 24) (q : Nat) (h0 : d.posSrc u = srcHall ∨ d.posSrc u = srcHallEmf) (h1 : d.isSet (AXU_CFG u) AXU_CFG_BOUND = true) (h2 : (d.hallPins u).contains n.val = true) (h3 : d.hallSector u (d.hallCode u) = some q) (h4 : (d.axu u).hall.sector = none) : let e := d.hallEdge u n; e = d.modAxu u (fun a => { a with hall := { (d.axu u).hall with sector := some q, angle := d.sectorMid u q, stop := d.sectorMid u q, speed := 0, dir := 0, stamps := [] } }) ∧ (e.axu u).hall.sector = some q := by
  intro e
  simp only [e]; unfold Dev.hallEdge
  rw [if_neg (by rw [decide_eq_true (⟨h0, h1, h2⟩ : (d.posSrc u = srcHall ∨ d.posSrc u = srcHallEmf) ∧ d.isSet (AXU_CFG u) AXU_CFG_BOUND = true ∧ (d.hallPins u).contains n.val = true)]; decide)]
  dsimp only
  rw [h3, h4]
  refine ⟨rfl, ?_⟩
  unfold Dev.modAxu Dev.axu
  dsimp only
  rw [Tab.getD_set_self]

/-- HALL_EDGE. -/
theorem does_hallEdge_invalid (d : Dev) (u : Fin 16) (n : Fin 24) (h0 : d.posSrc u = srcHall ∨ d.posSrc u = srcHallEmf) (h1 : d.isSet (AXU_CFG u) AXU_CFG_BOUND = true) (h2 : (d.hallPins u).contains n.val = true) (h3 : d.hallSector u (d.hallCode u) = none) : let e := d.hallEdge u n; e = d.modAxu u (fun a => { a with hall := { (d.axu u).hall with bad := true } }) := by
  intro e
  simp only [e]; unfold Dev.hallEdge
  rw [if_neg (by rw [decide_eq_true (⟨h0, h1, h2⟩ : (d.posSrc u = srcHall ∨ d.posSrc u = srcHallEmf) ∧ d.isSet (AXU_CFG u) AXU_CFG_BOUND = true ∧ (d.hallPins u).contains n.val = true)]; decide)]
  dsimp only
  rw [h3]

/-- HALL_TIMEOUT. -/
theorem does_hallTimeout (d : Dev) (u : Fin 16) (q : Nat) (r : Time) (z : List Time) (h0 : (d.axu u).hall.sector = some q) (h1 : (d.axu u).hall.stamps = r :: z) (h2 : 100 * msTicks ≤ d.since r) : let e := d.hallTimeout u; e = d.modAxu u (fun a => { a with hall := { (d.axu u).hall with speed := f0, angle := d.sectorMid u q, stop := d.sectorMid u q } }) := by
  intro e
  simp only [e]; unfold Dev.hallTimeout; dsimp only
  rw [h0, h1]
  dsimp only
  rw [if_pos (by rw [decide_eq_true h2]; rfl)]

/-- GIO_EDGE. -/
theorem does_gioEdge (d : Dev) (n : Fin 24) (high : Bool) (stamp : Time) (h0 : d.fld (GIO_CFG n) GIO_CFG_MODE = 0) (h1 : d.bit GIO_IN n ≠ xor high (d.isSet (GIO_CFG n) GIO_CFG_INV)) : let e := d.gioEdge n high stamp; e.bit GIO_IN n = xor high (d.isSet (GIO_CFG n) GIO_CFG_INV) ∧ e.bit GIO_EDGE n = true ∧ e.rd64 (GIO_STAMP_LO n) (GIO_STAMP_HI n) = stamp ∧ sameMem d e := by
  intro e
  simp only [e]; skip
  have hs : d.gioEdge n high stamp = ((({ d with gioRaw := withBits d.gioRaw n 1 (b2n high) } : Dev).putBit GIO_IN n (xor high (d.isSet (GIO_CFG n) GIO_CFG_INV))).putBit GIO_EDGE n true).wr64 (GIO_STAMP_LO n) (GIO_STAMP_HI n) stamp := by
    have h0' : ({ d with gioRaw := withBits d.gioRaw n 1 (b2n high) } : Dev).fld (GIO_CFG n) GIO_CFG_MODE = 0 := h0
    have h1' : ({ d with gioRaw := withBits d.gioRaw n 1 (b2n high) } : Dev).bit GIO_IN n ≠ xor high (({ d with gioRaw := withBits d.gioRaw n 1 (b2n high) } : Dev).isSet (GIO_CFG n) GIO_CFG_INV) := h1
    unfold Dev.gioEdge
    dsimp only
    rw [h0', if_neg (by rw [decide_eq_false h1']; decide), if_neg (by simp)]
    rfl
  have hn : n.val < 32 := by omega
  have h2 : ∀ m : Fin 24, GIO_IN ≠ GIO_STAMP_LO m ∧ GIO_IN ≠ GIO_STAMP_HI m ∧ GIO_EDGE ≠ GIO_STAMP_LO m ∧ GIO_EDGE ≠ GIO_STAMP_HI m ∧ GIO_STAMP_LO m ≠ GIO_STAMP_HI m := by decide
  obtain ⟨a, b, c, f, g⟩ := h2 n
  rw [hs]
  refine ⟨?_, ?_, ?_, ⟨rfl, rfl, rfl, rfl, rfl, rfl⟩⟩
  · rw [Dev.bit_wr64_ne _ _ _ _ _ _ a b, Dev.bit_putBit_ne _ _ _ _ _ _ (by decide), Dev.bit_putBit _ _ _ _ _ hn, if_pos rfl]
  · rw [Dev.bit_wr64_ne _ _ _ _ _ _ c f, Dev.bit_putBit _ _ _ _ _ hn, if_pos rfl]
  · exact Dev.rd64_wr64 _ _ _ _ g

/-- SENT_FRAME. -/
theorem does_sentFrame (d : Dev) (m : Fin 8) (sync : Nat) (status : Fin 16) (nibs : List Nat) (crc : Nat) (tf : Time) (h0 : d.fld (GIO_CFG (16 + m)) GIO_CFG_MODE = 3) (h1 : 4 * ((sync : Int) - (56 * 800 * d.fld (GIO_SENTCFG m) GIO_SENTCFG_TICK : Nat)).natAbs ≤ 56 * 800 * d.fld (GIO_SENTCFG m) GIO_SENTCFG_TICK) (h2 : (d.sent m).lastSync = none) (h3 : nibs.length = d.fld (GIO_SENTCFG m) GIO_SENTCFG_NIBS) (h4 : sentCrc (d.isSet (GIO_SENTCFG m) GIO_SENTCFG_LEGACY) nibs = crc) : let e := d.sentFrame m sync status nibs crc tf; let x := d.modSent m (fun s => { s with lastSync := some sync }); let w := BitVec.ofNat 32 (0x80000000 + status.val % 16 * 0x1000000 + ofNibs (nibs.take 3) * 4096 + ofNibs (if x.isSet (GIO_SENTCFG m) GIO_SENTCFG_REV2 then (nibs.drop 3).reverse else nibs.drop 3)); e = ((((x.wr (GIO_SENTFAST m) w).wr64 (GIO_SENTSTAMP_LO m) (GIO_SENTSTAMP_HI m) tf).modSent m (fun s => { s with lastValid := some tf })).slowBits m (status.val.testBit 3) (status.val.testBit 2)) := by
  intro e x w
  simp only [e]; unfold Dev.sentFrame; dsimp only
  rw [if_neg (by rw [h0]; decide)]
  have hf : x.fld (GIO_SENTCFG m) GIO_SENTCFG_NIBS = d.fld (GIO_SENTCFG m) GIO_SENTCFG_NIBS := rfl
  have hl : x.isSet (GIO_SENTCFG m) GIO_SENTCFG_LEGACY = d.isSet (GIO_SENTCFG m) GIO_SENTCFG_LEGACY := rfl
  rw [h2]
  dsimp only
  have hn : decide (4 * ((sync : Int) - 56 * 800 * d.fld (GIO_SENTCFG m) GIO_SENTCFG_TICK).natAbs ≤ (56 * 800 * d.fld (GIO_SENTCFG m) GIO_SENTCFG_TICK : Int)) = true := by
    rw [decide_eq_true_eq]
    generalize d.fld (GIO_SENTCFG m) GIO_SENTCFG_TICK = k at h1 ⊢
    omega
  rw [hn]
  show (if (!(true && true) || decide (nibs.length ≠ x.fld (GIO_SENTCFG m) GIO_SENTCFG_NIBS)) = true then _ else _) = _
  rw [hf, h3, if_neg (by simp)]
  show (if sentCrc (x.isSet (GIO_SENTCFG m) GIO_SENTCFG_LEGACY) nibs ≠ crc then _ else _) = _
  rw [hl, h4, if_neg (by simp)]

/-- CVU_FORWARD_PASS. -/
theorem does_cvuForwardPass (d : Dev) (u : Fin 8) (q : Nat) (h0 : d.cvuOwner u = some q) (h1 : d.cvuOn u = true) (h2 : (d.cvu u).fwdDone = false) (h3 : (d.cvu u).loopNow = true) (h4 : d.cvuFresh u = true) : let e := d.cvuForward u; e = d.cvuForwardRun u q := by
  intro e
  simp only [e]; unfold Dev.cvuForward
  rw [h0]
  dsimp only
  rw [h1, h2, h3, h4]
  rfl

/-- CVU_INVERSE_STAGE. -/
theorem does_cvuInverseStage (d : Dev) (u : Fin 8) (q : Nat) (h0 : d.cvuOwner u = some q) (h1 : (d.cvu u).invDue = true) (h2 : d.cvuOn u = true) (h3 : ((d.cvuTaken u).cvu u).committed = false) (h4 : ((d.cvuTaken u).cvu u).bound.toNat ≤ ((d.cvuTaken u).cvu u).ts.toNat) (h5 : (d.cvuTaken u).cvuUnfit u q = false) : let e := d.cvuInverse u; e = (d.cvuTaken u).cvuCommit u q := by
  intro e
  simp only [e]; unfold Dev.cvuInverse
  rw [h0]
  dsimp only
  rw [h1, h2, if_neg (by decide), h3, if_neg (by decide), if_neg (Nat.not_lt.2 h4), h5]
  rfl

/-- CVU_PHASE_DECISION. -/
theorem does_cvuPhaseDecision (d : Dev) (u : Fin 8) (h0 : d.cvuOn u = true) (h1 : d.isSet (CVU_CFG u) CVU_CFG_PHMEN = true) (h2 : (d.cvu u).phaseEnd.toNat ≤ d.now.toNat) (h3 : d.phaseCount u (d.phaseMean u).1 ≠ d.fld (CVU_STAT u) CVU_STAT_NACT) : let e := d.phaseDecision u; e = ((((d.phaseMean u).2.phaseRestart u).setF (CVU_STAT u) CVU_STAT_NACT (d.phaseCount u (d.phaseMean u).1)).incSat (CVU_CNT u) CVU_CNT_PHCHG).evt EV_CVU_PHASE_CHANGE [u.val] := by
  intro e
  simp only [e]; unfold Dev.phaseDecision
  rw [h0, h1, if_neg (by simpa using h2)]
  dsimp only
  rw [if_neg h3]

/-- CVU_CM_PULSE_END. -/
theorem does_cvuCmPulseEnd (d : Dev) (u : Fin 8) (p : Fin 8) (q : Nat) (h0 : d.cvuOwner u = some q) (h1 : p.val < (d.fnLegs q).length) (h2 : d.cmMayEnd u p ((d.fnLegs q).getD p 0) (d.fnPer q) = true) : let e := d.cmPulseEnd u p; e = d.cmCut u p ((d.fnLegs q).getD p 0) (d.fnPer q) := by
  intro e
  simp only [e]; unfold Dev.cmPulseEnd
  rw [h0]
  dsimp only
  rw [h2, if_neg (by simpa using h1)]

/-- GRID_LOST. -/
theorem does_gridLost (d : Dev) (u : Fin 8) (r : Time) (h0 : d.isSet (CVU_STAT u) CVU_STAT_PLLOCK = true) (h1 : (d.cvu u).badSince = some r) (h2 : 10 * msTicks ≤ d.since r) : let e := d.gridLost u; let m := ((((d.setF (CVU_STAT u) CVU_STAT_PLLOCK 0).setF (CVU_FLT u) CVU_FLT_PLLLOSS 1).modCvu u (fun c => { c with lockRun := 0, relockAt := none, parkGrid := true })).evt EV_CVU_GRID_LOST [u.val]); e = m.whenSome (m.cvuOwner u) (fun f x => x.parkStage f) := by
  intro e m
  simp only [e]; unfold Dev.gridLost
  rw [h0, h1]
  dsimp only
  rw [if_pos (by simpa using h2)]

/-- CVU_UNPARK. -/
theorem does_cvuUnpark (d : Dev) (u : Fin 8) (q : Nat) (r : Time) (h0 : d.cvuOwner u = some q) (h1 : (d.cvu u).relockAt = some r) (h2 : (d.cvu u).parkGrid = true) (h3 : d.isSet (CVU_STAT u) CVU_STAT_PLLOCK = true) (h4 : 100 * msTicks ≤ d.since r) (h5 : [0, 1].any (fun c => d.chgNames c q) = false) : let e := d.gridUnpark u; e = d.modCvu u (fun c => { c with parkGrid := false }) ∧ (e.cvu u).parkGrid = false := by
  intro e
  simp only [e]; unfold Dev.gridUnpark
  rw [h0, h1]
  dsimp only
  rw [h2, h3, h5, if_pos (by simpa using h4)]
  refine ⟨rfl, ?_⟩
  unfold Dev.modCvu Dev.cvu
  dsimp only
  rw [Tab.getD_set_self]

end Sys2Proof.Machine
end

