-- ==== Sys2Proof/Laws/Events.lean ====
section
/-! SUPPORT. The record that an event leaves, what recording it spares, the safety queue, the registers while time passes,
the parts of a safe state's entry, the bytes of an audit record, and the queue of commands under each command. -/

namespace Sys2Proof.Machine

/-! ## The queue -/

/-- Every command answers a next state and leaves the queue as it is. -/
theorem exec_answers (c : Instr) (s : State) : ∃ e, exec c s = .next ⟨s.pending, e⟩ := by
  cases c <;> exact ⟨_, rfl⟩

/-! ## Reset -/

/-- The memories of the reset state have their canonical form. -/
theorem reset_memories : State.reset.dev.memOk := by
  unfold Dev.memOk
  decide

/-! ## Tables -/

theorem Tab.has_erase_self {α : Type} (t : Tab α) (k : Nat) : Tab.has (Tab.erase k t) k = false := by
  induction t with
  | nil => rfl
  | cons p r ih =>
    obtain ⟨k', v'⟩ := p
    unfold Tab.erase
    split
    · exact ih
    · rename_i h
      simp only [Tab.has, List.any_cons, Bool.or_eq_false_iff] at ih ⊢
      exact ⟨by simpa using h, ih⟩

theorem Tab.has_erase_ne {α : Type} (t : Tab α) (k j : Nat) (h : j ≠ k) : Tab.has (Tab.erase k t) j = Tab.has t j := by
  induction t with
  | nil => rfl
  | cons p r ih =>
    obtain ⟨k', v'⟩ := p
    unfold Tab.erase
    simp only [Tab.has, List.any_cons] at ih ⊢
    split
    · rename_i h'; subst h'
      rw [ih]
      have : (k' == j) = false := by simpa using Ne.symm h
      simp [this]
    · simp only [List.any_cons, ih]

theorem Tab.has_set {α : Type} (t : Tab α) (k j : Nat) (v : α) : Tab.has (Tab.set k v t) j = (k == j || Tab.has t j) := by
  induction t with
  | nil => simp [Tab.set, Tab.has]
  | cons p r ih =>
    obtain ⟨k', v'⟩ := p
    unfold Tab.set
    simp only [Tab.has, List.any_cons] at ih ⊢
    split
    · simp
    · split
      · rename_i h'; subst h'; simp [List.any_cons]
      · rw [List.any_cons, ih, Bool.or_left_comm]

theorem Tab.getD_none {α : Type} (x : α) (t : Tab α) (k : Nat) (h : Tab.has t k = false) : Tab.getD x t k = x := by
  induction t with
  | nil => rfl
  | cons p r ih =>
    obtain ⟨k', v'⟩ := p
    simp only [Tab.has, List.any_cons, Bool.or_eq_false_iff] at h ih
    have : ¬ k' = k := by simpa using h.1
    simp [Tab.getD, this, ih h.2]

/-! ## Events -/

theorem record_logEvent (d : Dev) (cls code src : Nat) (data : List Byte) :
    record d (d.logEvent cls code src data) = ⟨d.now, d.rd RTC_SEC, code, src, cls, data⟩ := by
  unfold record
  rw [Dev.logEvent_log, Tab.getD_set_self]

theorem record_evtC (d : Dev) (cls code src : Nat) (data : List Nat) : record d (d.evtC cls code src data) = eventRec d cls code src data := by
  unfold Dev.evtC
  dsimp only
  split
  · rcases Dev.toSafeq_log (d.logEvent cls code src (dat data)) code with h | ⟨r, h⟩
    · unfold record
      rw [h]
      exact record_logEvent d cls code src (dat data)
    · unfold record
      rw [h, Tab.getD_set_ne _ _ _ _ _ (Dev.head_moves _ _ _ _ _).symm]
      exact record_logEvent d cls code src (dat data)
  · exact record_logEvent _ _ _ _ _

theorem onlyRegs_calm {d e : Dev} (h : d.calm e) : onlyRegs [] d e := fun a _ ha => h.2 a ha

theorem sameMem_calm {d e : Dev} (h : d.calm e) : sameMem d e := by
  rw [h.1]; exact ⟨rfl, rfl, rfl, rfl, rfl, rfl⟩

theorem onlyEvent_evtC (d : Dev) (cls code src : Nat) (data : List Nat) : onlyEvent d (d.evtC cls code src data) cls code src data :=
  ⟨record_evtC _ _ _ _ _, onlyRegs_calm (Dev.calm_evtC _ _ _ _ _), sameMem_calm (Dev.calm_evtC _ _ _ _ _)⟩

theorem isEvtReg_cases (a : Nat) (h : isEvtReg a = true) : ∃ r, regDesc a = some r ∧ r.acc ≠ .cl := by
  simp only [isEvtReg, Bool.or_eq_true, List.any_eq_true, decide_eq_true_eq, List.mem_range] at h
  rcases h with (rfl | rfl) | ⟨t, ht, rfl | rfl⟩
  · exact ⟨_, rfl, by decide⟩
  · exact ⟨_, rfl, by decide⟩
  all_goals
    have : t = 0 ∨ t = 1 ∨ t = 2 ∨ t = 3 := by omega
    rcases this with rfl | rfl | rfl | rfl <;> exact ⟨_, rfl, by decide⟩

theorem Dev.evt_plain (code : Nat) (data : List Nat) (d : Dev) (h : toGaffer (evClass code) code = false) :
    d.evt code data = d.logEvent (evClass code) code srcHw (dat data) := by
  unfold Dev.evt Dev.evtC; dsimp only; rw [h]; rfl

theorem Dev.raiseWhere_rd (d : Dev) (p : Nat → W → Bool) (a : Nat)
    (ha : ∀ k < 4, a ≠ COR_EVPEND0 k ∧ a ≠ COR_EVPEND1 k) : (d.raiseWhere p).rd a = d.rd a := by
  unfold Dev.raiseWhere
  have hc := configLines_lt
  generalize configLines = xs at hc
  induction xs generalizing d with
  | nil => rfl
  | cons x r ih =>
    rw [List.foldl_cons, ih _ (fun y hy => hc y (by simp [hy]))]
    split
    · unfold Dev.raiseLine Dev.putBit
      have := ha x.1 (hc x (by simp))
      split
      · exact Dev.rd_wr_ne _ _ _ _ this.1
      · exact Dev.rd_wr_ne _ _ _ _ this.2
    · rfl

theorem Dev.raiseWhere_gales (d : Dev) (p : Nat → W → Bool) : (d.raiseWhere p).gales = d.gales := by
  unfold Dev.raiseWhere
  generalize configLines = xs
  induction xs generalizing d with
  | nil => rfl
  | cons x r ih =>
    rw [List.foldl_cons, ih]
    split
    · unfold Dev.raiseLine Dev.putBit; split <;> rfl
    · rfl

theorem Dev.raiseWhere_safeq (d : Dev) (p : Nat → W → Bool) : (d.raiseWhere p).safeq = d.safeq := by
  unfold Dev.raiseWhere
  generalize configLines = xs
  induction xs generalizing d with
  | nil => rfl
  | cons x r ih =>
    rw [List.foldl_cons, ih]
    split
    · unfold Dev.raiseLine Dev.putBit; split <;> rfl
    · rfl

/-! ## Time -/

theorem Dev.at_hiLatch (d : Dev) (T : Time) : (d.at T).tk.hiLatch = d.tk.hiLatch := by
  unfold Dev.at Dev.setTime Dev.rtcAdvance
  dsimp only
  repeat' split
  all_goals rfl

theorem Dev.rd_at (d : Dev) (T : Time) (a : Nat) (h : a ≠ RTC_SEC) (h' : a ≠ RTC_SUB) : (d.at T).rd a = d.rd a := by
  unfold Dev.at Dev.setTime Dev.rtcAdvance
  dsimp only
  repeat' split
  all_goals simp [Dev.rd_wr_ne _ _ _ _ h, Dev.rd_wr_ne _ _ _ _ h']

theorem Dev.bit_at (d : Dev) (T : Time) (a i : Nat) (h : a ≠ RTC_SEC) (h' : a ≠ RTC_SUB) : (d.at T).bit a i = d.bit a i := by
  unfold Dev.bit; rw [Dev.rd_at _ _ _ h h']

/-! ## Safe states -/

/-- The event log and the configuration stay, and every register outside `as` reads as before. -/
def Dev.quiet (as : Nat → Bool) (d e : Dev) : Prop := e.log = d.log ∧ e.img = d.img ∧ ∀ a, as a = false → e.rd a = d.rd a

theorem Dev.quiet_trans {as : Nat → Bool} {d e f : Dev} (h : d.quiet as e) (h' : e.quiet as f) : d.quiet as f :=
  ⟨h'.1.trans h.1, h'.2.1.trans h.2.1, fun a ha => (h'.2.2 a ha).trans (h.2.2 a ha)⟩

theorem Dev.quiet_forEach {as : Nat → Bool} (xs : List Nat) (op : Nat → Dev → Dev) (d : Dev) (h : ∀ n ∈ xs, ∀ d : Dev, d.quiet as (op n d)) :
    d.quiet as (d.forEach xs op) := by
  induction xs generalizing d with
  | nil => exact ⟨rfl, rfl, fun _ _ => rfl⟩
  | cons x r ih => exact Dev.quiet_trans (h x (by simp) d) (ih _ (fun n hn => h n (by simp [hn])))

theorem Dev.quiet_wr {as : Nat → Bool} (d : Dev) (a : Nat) (v : W) (h : as a = true) : d.quiet as (d.wr a v) :=
  ⟨rfl, rfl, fun b hb => Dev.rd_wr_ne _ _ _ _ (by rintro rfl; simp [h] at hb)⟩
/-- The windows of the drive units: legs, cascades, power converters and axes. -/
abbrev inDrive (a : Nat) : Bool := 0x40100000 ≤ a && a < 0x40200000

theorem Dev.quiet_refl {as : Nat → Bool} (d : Dev) : d.quiet as d := ⟨rfl, rfl, fun _ _ => rfl⟩

theorem Dev.quiet_whenSome {as : Nat → Bool} {α : Type} (o : Option α) (op : α → Dev → Dev) (d : Dev) (h : ∀ x, o = some x → d.quiet as (op x d)) :
    d.quiet as (d.whenSome o op) := by
  cases o with
  | none => exact ⟨rfl, rfl, fun _ _ => rfl⟩
  | some x => exact h x rfl

theorem Dev.quiet_sendFn (d : Dev) (f : Nat) : d.quiet inDrive (d.sendFn f) := by
  unfold Dev.sendFn Dev.linkSend
  repeat' split
  all_goals exact ⟨rfl, rfl, fun _ _ => rfl⟩

theorem Dev.quiet_legRefresh (d : Dev) (n : Nat) (h : n < 48) : d.quiet inDrive (d.legRefresh n) :=
  Dev.quiet_wr _ _ _ (by unfold inDrive; simp only [LEG_STAT, CEN_CSTAT, CEN_STAT, AXU_STAT, CVU_STAT, AXU_POSSTAT, Bool.and_eq_true, decide_eq_true_eq]; omega)

theorem Dev.quiet_stopCascades (d : Dev) (f : Nat) (h : FuncRec.units (d.funcD f)) : d.quiet inDrive (d.stopCascades f) := by
  unfold Dev.stopCascades
  apply Dev.quiet_forEach
  intro n hn d'
  obtain ⟨c, hc, rfl⟩ := List.mem_map.1 hn
  have h64 := h.2.1 c hc
  have ha : pairOf c.1 < 16 := by unfold pairOf; omega
  have hb : cascOf c.1 < 4 := by unfold cascOf; omega
  refine Dev.quiet_trans (Dev.quiet_trans (Dev.quiet_wr _ _ _ ?_) (Dev.quiet_wr _ _ _ ?_)) (Dev.quiet_wr _ _ _ ?_) <;>
    (unfold inDrive; simp only [LEG_STAT, CEN_CSTAT, CEN_STAT, AXU_STAT, CVU_STAT, AXU_POSSTAT, Bool.and_eq_true, decide_eq_true_eq]; omega)

theorem Dev.quiet_stopUnits (d : Dev) (f : Nat) (h : FuncRec.units (d.funcD f)) : d.quiet inDrive (d.stopUnits f) := by
  unfold Dev.stopUnits
  dsimp only
  have h1 : d.quiet inDrive (d.forEach (d.fnAxus f) (fun u d => (((d.setF (AXU_STAT u) AXU_STAT_ENABLED 0).setF (AXU_STAT u) AXU_STAT_FWD_BUSY 0).setF
      (AXU_STAT u) AXU_STAT_INV_BUSY 0).modAxu u (fun a => { a with invDue := false, committed := false }))) := by
    refine Dev.quiet_forEach _ _ _ ?_
    intro u hu d'
    have hu16 : u < 16 := by
      simp only [Dev.fnAxus, List.mem_append, Option.mem_toList] at hu
      exact h.2.2.1 u hu
    refine Dev.quiet_trans (Dev.quiet_trans (Dev.quiet_wr _ _ _ ?_) (Dev.quiet_wr _ _ _ ?_)) (Dev.quiet_trans (Dev.quiet_wr _ _ _ ?_) ⟨rfl, rfl, fun _ _ => rfl⟩) <;>
      (unfold inDrive; simp only [LEG_STAT, CEN_CSTAT, CEN_STAT, AXU_STAT, CVU_STAT, AXU_POSSTAT, Bool.and_eq_true, decide_eq_true_eq]; omega)
  refine Dev.quiet_trans h1 (Dev.quiet_whenSome _ _ _ ?_)
  · intro u hu
    have hu8 : u < 8 := by
      refine h.2.2.2 u ?_
      rw [← hu]
      unfold Dev.funcD
      rw [h1.2.1]
    refine Dev.quiet_trans (Dev.quiet_wr _ _ _ ?_) ⟨rfl, rfl, fun _ _ => rfl⟩
    unfold inDrive; simp only [LEG_STAT, CEN_CSTAT, CEN_STAT, AXU_STAT, CVU_STAT, AXU_POSSTAT, Bool.and_eq_true, decide_eq_true_eq]; omega

theorem Dev.quiet_modAxu {as : Nat → Bool} (d : Dev) (u : Nat) (g : Axu → Axu) : d.quiet as (d.modAxu u g) := ⟨rfl, rfl, fun _ _ => rfl⟩

theorem Dev.quiet_setF {as : Nat → Bool} (d : Dev) (a : Nat) (f : Fld) (v : Nat) (h : as a = true) : d.quiet as (d.setF a f v) := Dev.quiet_wr _ _ _ h

theorem inDrive_pos (u : Nat) (h : u < 16) : inDrive (AXU_POSSTAT u) = true := by
  unfold inDrive; simp only [AXU_POSSTAT, Bool.and_eq_true, decide_eq_true_eq]; omega

theorem Dev.quiet_posIdle (d : Dev) (f : Nat) (h : FuncRec.units (d.funcD f)) : d.quiet inDrive (d.posIdle f) := by
  unfold Dev.posIdle
  refine Dev.quiet_forEach _ _ _ ?_
  intro u hu d'
  have hu16 : u < 16 := by
    simp only [Dev.fnAxus, List.mem_append, Option.mem_toList] at hu
    exact h.2.2.1 u hu
  split
  · exact Dev.quiet_refl _
  · exact Dev.quiet_trans (Dev.quiet_trans (Dev.quiet_setF _ _ _ _ (inDrive_pos u hu16)) (Dev.quiet_setF _ _ _ _ (inDrive_pos u hu16))) (Dev.quiet_modAxu _ _ _)

theorem Dev.quiet_fld {d e : Dev} (h : d.quiet inDrive e) (a : Nat) (f : Fld) (ha : inDrive a = false) : e.fld a f = d.fld a f := by
  unfold Dev.fld; rw [h.2.2 a ha]

theorem Dev.calm_img {d e : Dev} (h : d.calm e) : e.img = d.img := by rw [h.1]

theorem safe_head (d1 : Dev) (r st cause : Nat) (hs : st < 5) (hc : cause < 65536) :
    let d2 := (((d1.setF r RED_FNSTATE_SAFE 1).setF r RED_FNSTATE_STATE st).setF r RED_FNSTATE_CAUSE cause).setF r RED_FNSTATE_ENABLED 0
    d2.fld r RED_FNSTATE_SAFE = 1 ∧ d2.fld r RED_FNSTATE_STATE = st ∧ d2.fld r RED_FNSTATE_CAUSE = cause ∧
        d2.fld r RED_FNSTATE_ENABLED = 0 ∧ d2.log = d1.log ∧ d2.img = d1.img := by
  refine ⟨?_, ?_, ?_, ?_, rfl, rfl⟩
  · rw [Dev.fld_setF_field _ _ _ _ _ (by decide) (by decide), Dev.fld_setF_field _ _ _ _ _ (by decide) (by decide), Dev.fld_setF_field _ _ _ _ _ (by decide) (by decide), Dev.fld_setF_self _ _ _ _ (by decide)]; rfl
  · rw [Dev.fld_setF_field _ _ _ _ _ (by decide) (by decide), Dev.fld_setF_field _ _ _ _ _ (by decide) (by decide), Dev.fld_setF_self _ _ _ _ (by decide)]
    exact Nat.mod_eq_of_lt (by show st < 8; omega)
  · rw [Dev.fld_setF_field _ _ _ _ _ (by decide) (by decide), Dev.fld_setF_self _ _ _ _ (by decide)]
    exact Nat.mod_eq_of_lt hc
  · rw [Dev.fld_setF_self _ _ _ _ (by decide)]; rfl

theorem safe_tail (d2 : Dev) (r : Nat) (b : Bool) (x : Red) :
    let e : Dev := { (d2.setF r RED_FNSTATE_BRKOFF 0).when b (fun d => d.setF r RED_FNSTATE_LATCHED 1) with red := x }
    e.log = d2.log ∧ e.img = d2.img ∧ ∀ g : Fld, (g.lo + g.wd ≤ 27 ∨ 30 ≤ g.lo) → e.fld r g = d2.fld r g := by
  intro e
  refine ⟨?_, ?_, fun g hg => ?_⟩
  · show (Dev.when _ _ _).log = _
    unfold Dev.when; split <;> rfl
  · show (Dev.when _ _ _).img = _
    unfold Dev.when; split <;> rfl
  · show (Dev.when _ _ _).fld r g = _
    unfold Dev.when
    split
    · rw [Dev.fld_setF_field _ _ _ _ _ (by decide) (by rcases hg with h | h <;> simp only [RED_FNSTATE_LATCHED] <;> omega), Dev.fld_setF_field _ _ _ _ _ (by decide) (by rcases hg with h | h <;> simp only [RED_FNSTATE_BRKOFF] <;> omega)]
    · rw [Dev.fld_setF_field _ _ _ _ _ (by decide) (by rcases hg with h | h <;> simp only [RED_FNSTATE_BRKOFF] <;> omega)]

/-! ## The bytes of an audit record -/

theorem shaBlock_length (h b : List W) (hl : h.length = 8) : (shaBlock h b).length = 8 := by
  have key : ∀ (xs : List (W × W)) (f : List W → W × W → List W), (∀ v x, v.length = 8 → (f v x).length = 8) → ∀ v, v.length = 8 → (xs.foldl f v).length = 8 := by
    intro xs f hf
    induction xs with
    | nil => intro v hv; exact hv
    | cons x r ih => intro v hv; exact ih _ (hf v x hv)
  unfold shaBlock
  dsimp only
  rw [List.length_map, List.length_zip, key _ _ (fun v x hv => rfl) _ hl, hl]; rfl

theorem shaBlocks_length (n : Nat) : ∀ (h ws : List W), h.length = 8 → (shaBlocks n h ws).length = 8 := by
  induction n with
  | zero => intro h ws hl; exact hl
  | succ n ih => intro h ws hl; exact ih _ _ (shaBlock_length _ _ hl)

theorem sha256_length (bs : List Byte) : (sha256 bs).length = 32 := by
  unfold sha256
  dsimp only
  have h8 := shaBlocks_length ((bs ++ [0x80#8] ++ List.replicate ((119 - bs.length % 64) % 64) 0 ++ beBytes 8 (8 * bs.length)).length / 64) shaInit
    (beWords (bs ++ [0x80#8] ++ List.replicate ((119 - bs.length % 64) % 64) 0 ++ beBytes 8 (8 * bs.length))) rfl
  generalize shaBlocks _ _ _ = ws at h8
  have : ∀ ws : List W, (ws.flatMap (fun w => beBytes 4 w.toNat)).length = 4 * ws.length := by
    intro ws
    induction ws with
    | nil => rfl
    | cons w r ih =>
      have hb : (beBytes 4 w.toNat).length = 4 := by simp [beBytes, leBytes_length]
      rw [List.flatMap_cons, List.length_append, ih, List.length_cons, hb]; omega
  rw [this, h8]

theorem Dev.auditBytes_length (d : Dev) (action role port key session target : Nat) (before after : List Byte) :
    (d.auditBytes action role port key session target before after).length = 64 := by
  have h := sha256_length
  unfold Dev.auditBytes
  generalize sha256 = sh at h
  generalize crc32 = cr
  simp only [List.length_append, leBytes_length, sliceB_length, List.length_take]
  rw [h]; rfl

theorem Dev.auditBytes_index (d : Dev) (action role port key session target : Nat) (before after : List Byte) :
    (d.auditBytes action role port key session target before after).take 4 = leBytes 4 d.sec.audHead := by
  unfold Dev.auditBytes
  generalize sha256 = sh
  generalize crc32 = cr
  simp only [List.append_assoc]
  exact List.take_left' (leBytes_length _ _)

end Sys2Proof.Machine
end

