-- ==== Sys2Proof/Laws/Kept.lean ====
section
/-! SUPPORT. What every operation keeps: the canonical form of the memories and tables, the capacities of the bounded lists,
and an STIME that does not run backward while power-on reset is not asserted. One lemma per operation. -/

namespace Sys2Proof.Machine

/-- The memories, the bounded lists and the tables are in order, and either power-on reset is asserted or STIME is at
least `z`. -/
def Dev.kept (z : Nat) (d : Dev) : Prop :=
  d.memOk ∧ d.roomOk ∧ d.tabsOk ∧ (d.por = true ∨ z ≤ d.tk.stime.toNat)

/-- A change of none of the fields that `kept` names keeps it. -/
theorem Dev.kept_of {z : Nat} {d e : Dev} (h : d.kept z) (h1 : e.flash = d.flash) (h2 : e.sram = d.sram) (h3 : e.coef = d.coef)
    (h4 : e.sigt = d.sigt) (h5 : e.mram = d.mram) (h6 : e.triads = d.triads) (h7 : e.safeq = d.safeq)
    (h8 : e.red.cull = d.red.cull) (h9 : e.red.cullA = d.red.cullA) (h10 : e.red.cullB = d.red.cullB)
    (h11 : e.sec.table = d.sec.table) (h12 : e.sec.sessions = d.sec.sessions) (h13 : e.regs = d.regs) (h14 : e.log = d.log)
    (h15 : e.por = d.por) (h16 : e.tk.stime = d.tk.stime) : e.kept z := by
  unfold Dev.kept Dev.memOk Dev.roomOk Dev.tabsOk at *
  rw [h1, h2, h3, h4, h5, h6, h7, h8, h9, h10, h11, h12, h13, h14, h15, h16]
  exact h

/-- The same for a device written out field by field, as a record update is. -/
theorem Dev.kept_mk {z : Nat} {d : Dev} {por : Bool} {tk : TimeKeeper} {cal : Calendar} {vcore : Vcore} {regs : Tab W}
    {rates : Tab RateRec} {log : Tab EventRec} {gales : List EventRec} {boot : Boot} {img : Image} {flash : Mem} {sram :
    Mem} {coef : Mem} {sigt : Mem} {mram : Mem} {legs : Tab Leg} {convs : Tab Conv} {seqs : Tab SeqRun} {slots : Tab
    AdcSlot} {dsms : Tab Dsm} {cmps : Tab Cmp} {trps : Tab Trp} {cascs : Tab Casc} {pairs : Tab Pair} {words : Tab (List W)}
    {red : Red} {triads : Tab Triad} {safeq : List Nat} {ports : Tab Port} {ques : Tab Que} {sig : Sig} {jrn : Jrn} {lnk :
    Lnk} {axus : Tab Axu} {sents : Tab Sent} {gioRaw : Nat} {cvus : Tab Cvu} {chgs : Tab Chg} {thm : Thm} {bkg : Bkg} {sec :
    Sec} {sup : Sup} {asked : Nat} (h : d.kept z)
    (he : (flash, sram, coef, sigt, mram, triads, safeq, red.cull, red.cullA, red.cullB, sec.table, sec.sessions, regs, log, por,
      tk.stime) = (d.flash, d.sram, d.coef, d.sigt, d.mram, d.triads, d.safeq, d.red.cull, d.red.cullA, d.red.cullB, d.sec.table,
      d.sec.sessions, d.regs, d.log, d.por, d.tk.stime)) :
    (Dev.mk por tk cal vcore regs rates log gales boot img flash sram coef sigt mram legs convs seqs slots dsms cmps
    trps cascs pairs words red triads safeq ports ques sig jrn lnk axus sents gioRaw cvus chgs thm bkg sec sup asked).kept z := by
  simp only [Prod.mk.injEq] at he
  obtain ⟨h1, h2, h3, h4, h5, h6, h7, h8, h9, h10, h11, h12, h13, h14, h15, h16⟩ := he
  exact Dev.kept_of h h1 h2 h3 h4 h5 h6 h7 h8 h9 h10 h11 h12 h13 h14 h15 h16

/-- A change of the memories that leaves them in order, and of nothing else that `kept` names. -/
theorem Dev.kept_mem {z : Nat} {d e : Dev} (h : d.kept z) (hm : e.memOk) (h7 : e.safeq = d.safeq)
    (h8 : e.red.cull = d.red.cull) (h9 : e.red.cullA = d.red.cullA) (h10 : e.red.cullB = d.red.cullB)
    (h11 : e.sec.table = d.sec.table) (h12 : e.sec.sessions = d.sec.sessions) (h13 : e.regs = d.regs) (h14 : e.log = d.log)
    (h15 : e.por = d.por) (h16 : e.tk.stime = d.tk.stime) : e.kept z := by
  unfold Dev.kept Dev.roomOk Dev.tabsOk at *
  rw [h7, h8, h9, h10, h11, h12, h13, h14, h15, h16]
  exact ⟨hm, h.2⟩

theorem Dev.kept_flash {z : Nat} {d : Dev} {m : Mem} (h : d.kept z) (hm : Mem.wf 0xFF m = true) : Dev.kept z { d with flash := m } :=
  ⟨⟨hm, h.1.2.1, h.1.2.2.1, h.1.2.2.2.1, h.1.2.2.2.2.1, h.1.2.2.2.2.2⟩, h.2⟩

theorem Dev.kept_sram {z : Nat} {d : Dev} {m : Mem} (h : d.kept z) (hm : Mem.wf 0 m = true) : Dev.kept z { d with sram := m } :=
  ⟨⟨h.1.1, hm, h.1.2.2.1, h.1.2.2.2.1, h.1.2.2.2.2.1, h.1.2.2.2.2.2⟩, h.2⟩

theorem Dev.kept_coef {z : Nat} {d : Dev} {m : Mem} (h : d.kept z) (hm : Mem.wf 0 m = true) : Dev.kept z { d with coef := m } :=
  ⟨⟨h.1.1, h.1.2.1, hm, h.1.2.2.2.1, h.1.2.2.2.2.1, h.1.2.2.2.2.2⟩, h.2⟩

theorem Dev.kept_sigt {z : Nat} {d : Dev} {m : Mem} (h : d.kept z) (hm : Mem.wf 0 m = true) : Dev.kept z { d with sigt := m } :=
  ⟨⟨h.1.1, h.1.2.1, h.1.2.2.1, hm, h.1.2.2.2.2.1, h.1.2.2.2.2.2⟩, h.2⟩

theorem Dev.kept_mram {z : Nat} {d : Dev} {m : Mem} (h : d.kept z) (hm : Mem.wf 0 m = true) : Dev.kept z { d with mram := m } :=
  ⟨⟨h.1.1, h.1.2.1, h.1.2.2.1, h.1.2.2.2.1, hm, h.1.2.2.2.2.2⟩, h.2⟩

theorem Dev.kept_ite {z : Nat} {c : Prop} [Decidable c] {a b : Dev} (ha : a.kept z) (hb : b.kept z) :
    (if c then a else b).kept z := by
  split
  · exact ha
  · exact hb

theorem Dev.kept_foldl {z : Nat} {α : Type} {f : Dev → α → Dev} {xs : List α} {d : Dev} (h : ∀ d x, Dev.kept z d → (f d x).kept z)
    (hd : d.kept z) : (xs.foldl f d).kept z := by
  induction xs generalizing d with
  | nil => exact hd
  | cons x r ih => exact ih (h d x hd)

theorem Dev.kept_forEach {z : Nat} {xs : List Nat} {op : Nat → Dev → Dev} {d : Dev} (h : ∀ n d, Dev.kept z d → (op n d).kept z)
    (hd : d.kept z) : (d.forEach xs op).kept z := Dev.kept_foldl (fun d n => h n d) hd

theorem Dev.kept_when {z : Nat} {c : Bool} {op : Dev → Dev} {d : Dev} (h : ∀ d, Dev.kept z d → (op d).kept z) (hd : d.kept z) :
    (d.when c op).kept z := Dev.kept_ite (h d hd) hd

theorem Dev.kept_whenSome {z : Nat} {α : Type} {o : Option α} {op : α → Dev → Dev} {d : Dev}
    (h : ∀ x d, Dev.kept z d → (op x d).kept z) (hd : d.kept z) : (d.whenSome o op).kept z := by
  unfold Dev.whenSome
  split
  · exact h _ _ hd
  · exact hd

theorem Dev.kept_wr {z : Nat} {d : Dev} {a : Nat} {v : W} (h : d.kept z) : (d.wr a v).kept z :=
  ⟨h.1, h.2.1, ⟨Tab.wf_set _ _ _ h.2.2.1.1, h.2.2.1.2⟩, h.2.2.2⟩

theorem Dev.wf_lram (d : Dev) (h : d.memOk) (t : Nat) : Mem.wf 0 (d.triad t).lram = true := by
  unfold Dev.triad
  have h6 := h.2.2.2.2.2
  generalize d.triads = xs at h6
  induction xs with
  | nil => rfl
  | cons p r ih =>
    unfold Tab.getD
    split
    · exact h6 p (List.mem_cons_self ..)
    · exact ih (fun q hq => h6 q (List.mem_cons_of_mem _ hq))

theorem Dev.kept_triad {z : Nat} {d : Dev} (h : d.kept z) (t : Nat) : Mem.wf 0 (d.triad t).lram = true :=
  Dev.wf_lram d h.1 t

theorem Dev.kept_putTriad {z : Nat} {d : Dev} {t : Nat} {x : Triad} (hx : Mem.wf 0 x.lram = true) (h : d.kept z) :
    (d.putTriad t x).kept z := by
  obtain ⟨⟨m1, m2, m3, m4, m5, m6⟩, r, k, p⟩ := h
  refine ⟨⟨m1, m2, m3, m4, m5, fun q hq => ?_⟩, r, k, p⟩
  rcases Tab.mem_set hq with rfl | hq
  · exact hx
  · exact m6 q hq

theorem Dev.kept_modTriad {z : Nat} {d : Dev} {t : Nat} {g : Triad → Triad} (hg : ∀ x, (g x).lram = x.lram) (h : d.kept z) :
    (d.modTriad t g).kept z := Dev.kept_putTriad (by rw [hg]; exact Dev.kept_triad h t) h

/-- The device is kept, where there is one. -/
def Dev.keptSome (z : Nat) (o : Option Dev) : Prop := ∀ e, o = some e → e.kept z

end Sys2Proof.Machine
end

