-- ==== Sys2Proof/Laws/KeptOps.lean ====
section
/-! SUPPORT. What every operation keeps. -/

namespace Sys2Proof.Machine

theorem Dev.kept_setF {z : Nat} {d : Dev} {a : Nat} {f : Fld} {v : Nat} (h : d.kept z) : (Dev.setF d a f v).kept z := by
  unfold Dev.setF
  repeat' (first
    | with_reducible assumption
    | with_reducible apply Dev.kept_wr)

theorem Dev.kept_putBit {z : Nat} {d : Dev} {a i : Nat} {b : Bool} (h : d.kept z) : (Dev.putBit d a i b).kept z := by
  unfold Dev.putBit
  repeat' (first
    | with_reducible assumption
    | with_reducible apply Dev.kept_wr)

theorem Dev.kept_addSat {z : Nat} {d : Dev} {a : Nat} {f : Fld} {k : Nat} (h : d.kept z) : (Dev.addSat d a f k).kept z := by
  unfold Dev.addSat
  repeat' (first
    | with_reducible assumption
    | with_reducible apply Dev.kept_setF)

theorem Dev.kept_incSat {z : Nat} {d : Dev} {a : Nat} {f : Fld} (h : d.kept z) : (Dev.incSat d a f).kept z := by
  unfold Dev.incSat
  repeat' (first
    | with_reducible assumption
    | with_reducible apply Dev.kept_addSat)

theorem Dev.kept_inc32 {z : Nat} {d : Dev} {a : Nat} (h : d.kept z) : (Dev.inc32 d a).kept z := by
  unfold Dev.inc32
  repeat' (first
    | with_reducible assumption
    | with_reducible apply Dev.kept_wr)

theorem Dev.kept_wr64 {z : Nat} {d : Dev} {lo hi : Nat} {v : BitVec 64} (h : d.kept z) : (Dev.wr64 d lo hi v).kept z := by
  unfold Dev.wr64
  repeat' (first
    | with_reducible assumption
    | with_reducible apply Dev.kept_wr)

theorem Dev.kept_wrOwn {z : Nat} {d : Dev} {t a : Nat} {v : W} (h : d.kept z) : (Dev.wrOwn d t a v).kept z := by
  unfold Dev.wrOwn
  repeat' (first
    | with_reducible assumption
    | with_reducible apply Dev.kept_wr)

theorem Dev.kept_rtcAdvance {z : Nat} {n : Nat} {d : Dev} (h : d.kept z) : (Dev.rtcAdvance n d).kept z := by
  unfold Dev.rtcAdvance
  repeat' (first
    | with_reducible assumption
    | with_reducible apply Dev.kept_wr
    | with_reducible apply Dev.kept_ite
    | fail_if_no_progress with_reducible refine Dev.kept_mk ?_ rfl)

theorem Dev.kept_setTime {z : Nat} {t : Time} {d : Dev} (h : d.kept z) (ht : z ≤ t.toNat) : (d.setTime t).kept z :=
  ⟨h.1, h.2.1, h.2.2.1, Or.inr ht⟩

theorem Dev.kept_at {z : Nat} {t : Time} {d : Dev} (h : d.kept z) : (d.at t).kept z := by
  unfold Dev.at
  split
  · exact h
  · rename_i hc
    refine Dev.kept_setTime (Dev.kept_rtcAdvance h) ?_
    have hp : d.por = false := by
      cases hb : d.por
      · rfl
      · exact absurd (Or.inl hb) hc
    have hz : z ≤ d.tk.stime.toNat := by
      rcases h.2.2.2 with h1 | h1
      · rw [hp] at h1; exact absurd h1 (by decide)
      · exact h1
    have : ¬ t.toNat ≤ d.tk.stime.toNat := fun h => hc (Or.inr h)
    omega

theorem Dev.kept_setSys {z : Nat} {d : Dev} {st : Nat} (h : d.kept z) : (Dev.setSys d st).kept z := by
  unfold Dev.setSys
  repeat' (first
    | with_reducible assumption
    | with_reducible apply Dev.kept_setF)

theorem Dev.kept_raiseLine {z : Nat} {t l : Nat} {d : Dev} (h : d.kept z) : (Dev.raiseLine t l d).kept z := by
  unfold Dev.raiseLine
  repeat' (first
    | with_reducible assumption
    | with_reducible apply Dev.kept_putBit
    | with_reducible apply Dev.kept_ite)

theorem Dev.kept_dropLine {z : Nat} {t l : Nat} {d : Dev} (h : d.kept z) : (Dev.dropLine t l d).kept z := by
  unfold Dev.dropLine
  repeat' (first
    | with_reducible assumption
    | with_reducible apply Dev.kept_putBit
    | with_reducible apply Dev.kept_ite)

theorem Dev.kept_raiseWhere {z : Nat} {p : Nat → W → Bool} {d : Dev} (h : d.kept z) : (Dev.raiseWhere p d).kept z := by
  unfold Dev.raiseWhere
  repeat' (first
    | with_reducible assumption
    | intro h
    | with_reducible apply Dev.kept_foldl
    | with_reducible apply Dev.kept_raiseLine
    | with_reducible apply Dev.kept_ite)

theorem Dev.kept_logEvent {z : Nat} {cls : Nat} {code : Nat} {src : Nat} {data : List Byte} {d : Dev} (h : d.kept z) :
    (d.logEvent cls code src data).kept z := by
  unfold Dev.logEvent
  apply Dev.kept_raiseWhere
  apply Dev.kept_inc32
  apply Dev.kept_setF
  obtain ⟨m, r, k, p⟩ := h
  refine ⟨m, r, ⟨k.1, Tab.wf_set _ _ _ k.2.1, fun q hq => ?_⟩, p⟩
  rcases Tab.mem_set hq with rfl | hq
  · exact Nat.mod_lt _ (by decide)
  · exact k.2.2 q hq

theorem Dev.kept_rated {z : Nat} {cls code inst gap : Nat} {mk : Nat → List Byte} {d : Dev} (h : d.kept z) : (Dev.rated cls code inst gap mk d).kept z := by
  unfold Dev.rated
  repeat' (first
    | with_reducible assumption
    | with_reducible apply Dev.kept_logEvent
    | with_reducible apply Dev.kept_ite
    | split
    | dsimp only
    | fail_if_no_progress with_reducible refine Dev.kept_mk ?_ rfl)

theorem Dev.kept_toSafeq {z : Nat} {code : Nat} {d : Dev} (h : d.kept z) : (d.toSafeq code).kept z := by
  unfold Dev.toSafeq
  split
  · rename_i hl
    apply Dev.kept_raiseLine
    obtain ⟨m, ⟨_, r⟩, k, p⟩ := h
    refine ⟨m, ⟨?_, r⟩, k, p⟩
    show (d.safeq ++ [code]).length ≤ 256
    rw [List.length_append]
    exact hl
  · exact Dev.kept_rated h

theorem Dev.kept_evtC {z : Nat} {cls code src : Nat} {data : List Nat} {d : Dev} (h : d.kept z) : (Dev.evtC cls code src data d).kept z := by
  unfold Dev.evtC
  repeat' (first
    | with_reducible assumption
    | with_reducible apply Dev.kept_logEvent
    | with_reducible apply Dev.kept_toSafeq
    | with_reducible apply Dev.kept_ite)

theorem Dev.kept_evt {z : Nat} {code : Nat} {data : List Nat} {d : Dev} (h : d.kept z) : (Dev.evt code data d).kept z := by
  unfold Dev.evt
  repeat' (first
    | with_reducible assumption
    | with_reducible apply Dev.kept_evtC)

theorem Dev.kept_evtRated {z : Nat} {code inst : Nat} {name : List Nat} {d : Dev} (h : d.kept z) : (Dev.evtRated code inst name d).kept z := by
  unfold Dev.evtRated
  repeat' (first
    | with_reducible assumption
    | intro h
    | with_reducible apply Dev.kept_rated
    | with_reducible apply Dev.kept_toSafeq
    | with_reducible apply Dev.kept_ite)

theorem Dev.kept_lockedWrite {z : Nat} {t a : Nat} {d : Dev} (h : d.kept z) : (Dev.lockedWrite t a d).kept z := by
  unfold Dev.lockedWrite
  repeat' (first
    | with_reducible assumption
    | with_reducible apply Dev.kept_evtC)

theorem Dev.kept_unmapped {z : Nat} {t a : Nat} {write : Bool} {d : Dev} (h : d.kept z) : (Dev.unmapped t a write d).kept z := by
  unfold Dev.unmapped
  repeat' (first
    | with_reducible assumption
    | with_reducible apply Dev.kept_evtC)

theorem Dev.kept_ask {z : Nat} {kind : Nat} {d : Dev} (h : d.kept z) : (Dev.ask kind d).2.kept z := by
  unfold Dev.ask
  repeat' (first
    | with_reducible assumption
    | fail_if_no_progress with_reducible refine Dev.kept_mk ?_ rfl)

end Sys2Proof.Machine
end

