-- ==== Sys2Proof/Laws/KeptRequest.lean ====
section
/-! SUPPORT. What every operation keeps. -/

namespace Sys2Proof.Machine

theorem Dev.kept_reqShow {z : Nat} {t result : Nat} {d : Dev} (h : d.kept z) : (Dev.reqShow t result d).kept z := by
  unfold Dev.reqShow
  repeat' (first
    | with_reducible assumption
    | with_reducible apply Dev.kept_wrOwn)

theorem Dev.kept_reqEnd {z : Nat} {t result : Nat} {d : Dev} (h : d.kept z) : (Dev.reqEnd t result d).kept z := by
  unfold Dev.reqEnd
  repeat' (first
    | with_reducible assumption
    | with_reducible apply Dev.kept_wrOwn)

theorem Dev.kept_reqServed {z : Nat} {kind target : Nat} {pass : Bool} {d : Dev} (h : d.kept z) : (Dev.reqServed kind target pass d).kept z := by
  unfold Dev.reqServed
  repeat' (first
    | with_reducible assumption
    | intro h
    | with_reducible apply Dev.kept_forEach
    | with_reducible apply Dev.kept_when
    | with_reducible apply Dev.kept_reqEnd
    | with_reducible apply Dev.kept_ite)

theorem Dev.kept_reqDefer {z : Nat} {t : Nat} {d : Dev} (h : d.kept z) : (Dev.reqDefer t d).kept z := by
  unfold Dev.reqDefer
  repeat' (first
    | with_reducible assumption
    | with_reducible apply Dev.kept_wrOwn
    | with_reducible apply Dev.kept_setF
    | with_reducible apply Dev.kept_evtRated
    | fail_if_no_progress with_reducible refine Dev.kept_mk ?_ rfl)

theorem Dev.kept_reqWindow {z : Nat} {n : Nat} {tick failed : Bool} {d : Dev} (h : d.kept z) : (Dev.reqWindow n tick failed d).kept z := by
  unfold Dev.reqWindow
  repeat' (first
    | with_reducible assumption
    | intro h
    | with_reducible apply Dev.kept_forEach
    | with_reducible apply Dev.kept_reqEnd
    | with_reducible apply Dev.kept_ite
    | fail_if_no_progress with_reducible refine Dev.kept_mk ?_ rfl)

theorem Dev.kept_unpoison {z : Nat} {a n : Nat} {d : Dev} (h : d.kept z) : (Dev.unpoison a n d).kept z := by
  unfold Dev.unpoison
  repeat' (first
    | with_reducible assumption
    | intro h
    | with_reducible apply Dev.kept_ite
    | fail_if_no_progress with_reducible refine Dev.kept_mk ?_ rfl)

end Sys2Proof.Machine
end

