-- ==== Sys2Proof/Laws/KeptSafe.lean ====
section
/-! SUPPORT. What every operation keeps. -/

namespace Sys2Proof.Machine

theorem Dev.kept_linkSend {z : Nat} {m : LinkMsg} {d : Dev} (h : d.kept z) : (Dev.linkSend m d).kept z := by
  unfold Dev.linkSend
  repeat' (first
    | with_reducible assumption
    | with_reducible apply Dev.kept_ite
    | fail_if_no_progress with_reducible refine Dev.kept_mk ?_ rfl)

theorem Dev.kept_sendFn {z : Nat} {f : Nat} {d : Dev} (h : d.kept z) : (Dev.sendFn f d).kept z := by
  unfold Dev.sendFn
  repeat' (first
    | with_reducible assumption
    | with_reducible apply Dev.kept_linkSend
    | with_reducible apply Dev.kept_ite)

theorem Dev.kept_legRefresh {z : Nat} {n : Nat} {d : Dev} (h : d.kept z) : (Dev.legRefresh n d).kept z := by
  unfold Dev.legRefresh
  repeat' (first
    | with_reducible assumption
    | with_reducible apply Dev.kept_setF)

theorem Dev.kept_putLeg {z : Nat} {n : Nat} {l : Leg} {d : Dev} (h : d.kept z) : (Dev.putLeg n l d).kept z := by
  unfold Dev.putLeg
  repeat' (first
    | with_reducible assumption
    | fail_if_no_progress with_reducible refine Dev.kept_mk ?_ rfl)

theorem Dev.kept_modLeg {z : Nat} {n : Nat} {g : Leg → Leg} {d : Dev} (h : d.kept z) : (Dev.modLeg n g d).kept z := by
  unfold Dev.modLeg
  repeat' (first
    | with_reducible assumption
    | with_reducible apply Dev.kept_putLeg)

theorem Dev.kept_legHiZ {z : Nat} {n : Nat} {d : Dev} (h : d.kept z) : (Dev.legHiZ n d).kept z := by
  unfold Dev.legHiZ
  repeat' (first
    | with_reducible assumption
    | with_reducible apply Dev.kept_setF
    | with_reducible apply Dev.kept_legRefresh)

theorem Dev.kept_glReply {z : Nat} {n : Nat} {err noack : Bool} {status data : Nat} {d : Dev} (h : d.kept z) : (Dev.glReply n err noack status data d).kept z := by
  unfold Dev.glReply
  repeat' (first
    | with_reducible assumption
    | with_reducible apply Dev.kept_wr
    | with_reducible apply Dev.kept_setF)

theorem Dev.kept_undrive {z : Nat} {n : Nat} {d : Dev} (h : d.kept z) : (Dev.undrive n d).kept z := by
  unfold Dev.undrive
  repeat' (first
    | with_reducible assumption
    | intro h
    | with_reducible apply Dev.kept_when
    | with_reducible apply Dev.kept_modLeg
    | with_reducible apply Dev.kept_glReply
    | with_reducible apply Dev.kept_legHiZ
    | fail_if_no_progress with_reducible refine Dev.kept_mk ?_ rfl)

theorem Dev.kept_setPend {z : Nat} {i : Nat} {b : Bool} {d : Dev} (h : d.kept z) : (Dev.setPend i b d).kept z := by
  unfold Dev.setPend
  repeat' (first
    | with_reducible assumption
    | with_reducible apply Dev.kept_putBit)

theorem Dev.kept_setRun {z : Nat} {i : Nat} {b : Bool} {d : Dev} (h : d.kept z) : (Dev.setRun i b d).kept z := by
  unfold Dev.setRun
  repeat' (first
    | with_reducible assumption
    | with_reducible apply Dev.kept_putBit)

theorem Dev.kept_modCasc {z : Nat} {i : Nat} {g : Casc → Casc} {d : Dev} (h : d.kept z) : (Dev.modCasc i g d).kept z := by
  unfold Dev.modCasc
  repeat' (first
    | with_reducible assumption
    | fail_if_no_progress with_reducible refine Dev.kept_mk ?_ rfl)

theorem Dev.kept_stopCascades {z : Nat} {f : Nat} {d : Dev} (h : d.kept z) : (Dev.stopCascades f d).kept z := by
  unfold Dev.stopCascades
  repeat' (first
    | with_reducible assumption
    | intro h
    | with_reducible apply Dev.kept_forEach
    | with_reducible apply Dev.kept_setF
    | with_reducible apply Dev.kept_setPend
    | with_reducible apply Dev.kept_setRun)

theorem Dev.kept_modAxu {z : Nat} {u : Nat} {g : Axu → Axu} {d : Dev} (h : d.kept z) : (Dev.modAxu u g d).kept z := by
  unfold Dev.modAxu
  repeat' (first
    | with_reducible assumption
    | fail_if_no_progress with_reducible refine Dev.kept_mk ?_ rfl)

theorem Dev.kept_modCvu {z : Nat} {u : Nat} {g : Cvu → Cvu} {d : Dev} (h : d.kept z) : (Dev.modCvu u g d).kept z := by
  unfold Dev.modCvu
  repeat' (first
    | with_reducible assumption
    | fail_if_no_progress with_reducible refine Dev.kept_mk ?_ rfl)

theorem Dev.kept_stopUnits {z : Nat} {f : Nat} {d : Dev} (h : d.kept z) : (Dev.stopUnits f d).kept z := by
  unfold Dev.stopUnits
  repeat' (first
    | with_reducible assumption
    | intro h
    | with_reducible apply Dev.kept_forEach
    | with_reducible apply Dev.kept_whenSome
    | with_reducible apply Dev.kept_setF
    | with_reducible apply Dev.kept_modAxu
    | with_reducible apply Dev.kept_modCvu
    | fail_if_no_progress with_reducible refine Dev.kept_mk ?_ rfl)

theorem Dev.kept_posIdle {z : Nat} {f : Nat} {d : Dev} (h : d.kept z) : (Dev.posIdle f d).kept z := by
  unfold Dev.posIdle
  repeat' (first
    | with_reducible assumption
    | intro h
    | with_reducible apply Dev.kept_forEach
    | with_reducible apply Dev.kept_setF
    | with_reducible apply Dev.kept_modAxu
    | with_reducible apply Dev.kept_ite
    | fail_if_no_progress with_reducible refine Dev.kept_mk ?_ rfl)

theorem Dev.kept_safeRecord {z : Nat} {f st cause : Nat} {applied : Bool} {d : Dev} (h : d.kept z) : (Dev.safeRecord f st cause applied d).kept z := by
  unfold Dev.safeRecord
  repeat' (first
    | with_reducible assumption
    | with_reducible apply Dev.kept_evt)

theorem Dev.kept_enterSafe {z : Nat} {f st cause : Nat} {d : Dev} (h : d.kept z) : (Dev.enterSafe f st cause d).kept z := by
  unfold Dev.enterSafe
  repeat' (first
    | with_reducible assumption
    | intro h
    | with_reducible apply Dev.kept_forEach
    | with_reducible apply Dev.kept_when
    | with_reducible apply Dev.kept_safeRecord
    | with_reducible apply Dev.kept_setF
    | with_reducible apply Dev.kept_stopCascades
    | with_reducible apply Dev.kept_stopUnits
    | with_reducible apply Dev.kept_posIdle
    | with_reducible apply Dev.kept_modLeg
    | with_reducible apply Dev.kept_legRefresh
    | with_reducible apply Dev.kept_sendFn
    | fail_if_no_progress with_reducible refine Dev.kept_mk ?_ rfl)

theorem Dev.kept_safeCommand {z : Nat} {f st cause : Nat} {d : Dev} (h : d.kept z) : (Dev.safeCommand f st cause d).kept z := by
  unfold Dev.safeCommand
  repeat' (first
    | with_reducible assumption
    | intro h
    | with_reducible apply Dev.kept_when
    | with_reducible apply Dev.kept_enterSafe
    | with_reducible apply Dev.kept_safeRecord
    | with_reducible apply Dev.kept_setF
    | with_reducible apply Dev.kept_sendFn
    | with_reducible apply Dev.kept_ite)

theorem Dev.kept_gafferSafe {z : Nat} {f cause : Nat} {d : Dev} (h : d.kept z) : (Dev.gafferSafe f cause d).kept z := by
  unfold Dev.gafferSafe
  repeat' (first
    | with_reducible assumption
    | intro h
    | with_reducible apply Dev.kept_safeCommand)

theorem Dev.kept_gafferAll {z : Nat} {cause : Nat} {d : Dev} (h : d.kept z) : (Dev.gafferAll cause d).kept z := by
  unfold Dev.gafferAll
  repeat' (first
    | with_reducible assumption
    | intro h
    | with_reducible apply Dev.kept_forEach
    | with_reducible apply Dev.kept_gafferSafe)

theorem Dev.kept_gafferOwner {z : Nat} {o : Option Nat} {cause : Nat} {d : Dev} (h : d.kept z) : (Dev.gafferOwner o cause d).kept z := by
  unfold Dev.gafferOwner
  repeat' (first
    | with_reducible assumption
    | intro h
    | with_reducible apply Dev.kept_whenSome
    | with_reducible apply Dev.kept_gafferSafe)

end Sys2Proof.Machine
end

