-- ==== Sys2Proof/Laws/KeptTrip.lean ====
section
/-! SUPPORT. What every operation keeps. -/

namespace Sys2Proof.Machine

theorem Dev.kept_modTrp {z : Nat} {g : Nat} {f : Trp → Trp} {d : Dev} (h : d.kept z) : (Dev.modTrp g f d).kept z :=
  Dev.kept_of h rfl rfl rfl rfl rfl rfl rfl rfl rfl rfl rfl rfl rfl rfl rfl rfl

theorem Dev.kept_tripLegs {z : Nat} {f : Nat} {d : Dev} (h : d.kept z) : (Dev.tripLegs f d).kept z := by
  unfold Dev.tripLegs
  repeat' (first
    | with_reducible assumption
    | intro h
    | with_reducible apply Dev.kept_forEach
    | with_reducible apply Dev.kept_setF
    | with_reducible apply Dev.kept_legRefresh)

theorem Dev.kept_assertGroup {z : Nat} {g x : Nat} {d : Dev} (h : d.kept z) : (Dev.assertGroup g x d).kept z := by
  unfold Dev.assertGroup
  repeat' (first
    | with_reducible assumption
    | intro h
    | with_reducible apply Dev.kept_wr
    | with_reducible apply Dev.kept_whenSome
    | with_reducible apply Dev.kept_putBit
    | with_reducible apply Dev.kept_wr64
    | with_reducible apply Dev.kept_incSat
    | with_reducible apply Dev.kept_tripLegs
    | with_reducible apply Dev.kept_posIdle
    | with_reducible apply Dev.kept_evt
    | fail_if_no_progress with_reducible refine Dev.kept_mk ?_ rfl)

theorem Dev.kept_evalGroup {z : Nat} {g : Nat} {d : Dev} (h : d.kept z) : (Dev.evalGroup g d).kept z := by
  unfold Dev.evalGroup
  repeat' (first
    | with_reducible assumption
    | intro h
    | with_reducible apply Dev.kept_modTrp
    | with_reducible apply Dev.kept_assertGroup
    | with_reducible apply Dev.kept_putBit
    | with_reducible apply Dev.kept_ite
    | split
    | dsimp only
    | fail_if_no_progress with_reducible refine Dev.kept_mk ?_ rfl)

theorem Dev.kept_evalGroups {z : Nat} {d : Dev} (h : d.kept z) : (Dev.evalGroups d).kept z := by
  unfold Dev.evalGroups
  repeat' (first
    | with_reducible assumption
    | intro h
    | with_reducible apply Dev.kept_forEach
    | with_reducible apply Dev.kept_evalGroup)

theorem Dev.kept_startLatching {z : Nat} {d : Dev} (h : d.kept z) : (Dev.startLatching d).kept z := by
  unfold Dev.startLatching
  repeat' (first
    | with_reducible assumption
    | intro h
    | with_reducible apply Dev.kept_forEach
    | with_reducible apply Dev.kept_putBit
    | with_reducible apply Dev.kept_modTrp
    | with_reducible apply Dev.kept_evalGroups)

theorem Dev.kept_releaseGroup {z : Nat} {g : Nat} {auto : Bool} {d : Dev} (h : d.kept z) : (Dev.releaseGroup g auto d).kept z := by
  unfold Dev.releaseGroup
  repeat' (first
    | with_reducible assumption
    | intro h
    | with_reducible apply Dev.kept_when
    | with_reducible apply Dev.kept_putBit
    | with_reducible apply Dev.kept_modTrp
    | with_reducible apply Dev.kept_incSat
    | with_reducible apply Dev.kept_evt
    | with_reducible apply Dev.kept_ite
    | fail_if_no_progress with_reducible refine Dev.kept_mk ?_ rfl)

end Sys2Proof.Machine
end

