-- ==== Sys2Proof/Laws/KeptJournal.lean ====
section
/-! SUPPORT. What every operation keeps. -/

namespace Sys2Proof.Machine

theorem Dev.kept_jrnFill {z : Nat} {d : Dev} (h : d.kept z) : (Dev.jrnFill d).kept z := by
  unfold Dev.jrnFill
  repeat' (first
    | with_reducible assumption
    | with_reducible apply Dev.kept_setF
    | with_reducible apply Dev.kept_evt
    | with_reducible apply Dev.kept_ite
    | fail_if_no_progress with_reducible refine Dev.kept_mk ?_ rfl)

theorem ringPut_wf (bs : List Byte) : ∀ (off : Nat) (m : Mem), Mem.wf 0 m = true → Mem.wf 0 (ringPut off bs m) = true := by
  induction bs with
  | nil => exact fun _ _ h => h
  | cons b r ih => exact fun off m h => ih _ _ (Mem.wf_put _ _ _ _ h)

theorem Dev.kept_jrnPut {z : Nat} {kind que seq : Nat} {body : List Byte} {d : Dev} (h : d.kept z) :
    (Dev.jrnPut kind que seq body d).kept z := by
  unfold Dev.jrnPut
  dsimp only
  generalize jrnRecord kind que d.jrn.jepoch d.jrn.jpos seq d.now body = r
  have hw := ringPut_wf r d.jrn.head d.mram h.1.2.2.2.2.1
  generalize ringPut d.jrn.head r d.mram = m at hw
  exact Dev.kept_of (Dev.kept_mram h hw) rfl rfl rfl rfl rfl rfl rfl rfl rfl rfl rfl rfl rfl rfl rfl rfl

theorem Dev.kept_jrnForward {z : Nat} {need : Nat} {n : Nat} {d : Dev} (h : d.kept z) : (Dev.jrnForward need n d).kept z := by
  induction n generalizing d with
  | zero => exact h
  | succ n ih =>
    unfold Dev.jrnForward
    dsimp only
    have h1 : Dev.kept z { d with jrn := d.jrn.advanceTail } := Dev.kept_of h rfl rfl rfl rfl rfl rfl rfl rfl rfl rfl rfl rfl rfl rfl rfl rfl
    split
    · exact h1
    · split
      · exact h1
      · refine ih ?_
        with_reducible refine Dev.kept_mk ?_ rfl
        with_reducible apply Dev.kept_jrnPut
        exact h1

theorem Dev.kept_jrnCommit {z : Nat} {kind que seq : Nat} {body : List Byte} {live : Option JLive} {d : Dev} (h : d.kept z) : (Dev.jrnCommit kind que seq body live d).kept z := by
  unfold Dev.jrnCommit
  repeat' (first
    | with_reducible assumption
    | intro h
    | with_reducible apply Dev.kept_jrnForward
    | with_reducible apply Dev.kept_jrnPut
    | with_reducible apply Dev.kept_jrnFill
    | fail_if_no_progress with_reducible refine Dev.kept_mk ?_ rfl)

theorem Dev.kept_jrnEnd {z : Nat} {q seq : Nat} {d : Dev} (h : d.kept z) : (Dev.jrnEnd q seq d).kept z := by
  unfold Dev.jrnEnd
  repeat' (first
    | with_reducible assumption
    | intro h
    | fail_if_no_progress with_reducible refine Dev.kept_mk ?_ rfl)

theorem Dev.kept_jrnRequest {z : Nat} {kind que seq : Nat} {body : List Byte} {next : JThen} {d : Dev} (h : d.kept z) : (Dev.jrnRequest kind que seq body next d).kept z := by
  unfold Dev.jrnRequest
  repeat' (first
    | with_reducible assumption
    | fail_if_no_progress with_reducible refine Dev.kept_mk ?_ rfl)

theorem Dev.kept_jrnFlush {z : Nat} {d : Dev} (h : d.kept z) : (Dev.jrnFlush d).kept z := by
  unfold Dev.jrnFlush
  repeat' (first
    | with_reducible assumption
    | intro h
    | with_reducible apply Dev.kept_foldl
    | with_reducible apply Dev.kept_jrnCommit
    | with_reducible apply Dev.kept_setF
    | fail_if_no_progress with_reducible refine Dev.kept_mk ?_ rfl)

end Sys2Proof.Machine
end

