-- ==== Sys2Proof/Laws/KeptAudit.lean ====
section
/-! SUPPORT. What every operation keeps. -/

namespace Sys2Proof.Machine

theorem Dev.kept_audit {z : Nat} {action role port key session target : Nat} {before after : List Byte} {d : Dev} (h : d.kept z) :
    (Dev.audit action role port key session target before after d).kept z := by
  unfold Dev.audit
  dsimp only
  generalize hm : Mem.putN 0 _ _ d.mram = m
  have hw : Mem.wf 0 m = true := hm ▸ Mem.wf_putN _ _ _ _ h.1.2.2.2.2.1
  exact Dev.kept_of (Dev.kept_mram h hw) rfl rfl rfl rfl rfl rfl rfl rfl rfl rfl rfl rfl rfl rfl rfl rfl

theorem Dev.kept_auditCheck {z : Nat} {index : Nat} {d : Dev} (h : d.kept z) : (Dev.auditCheck index d).kept z := by
  unfold Dev.auditCheck
  repeat' (first
    | with_reducible assumption
    | with_reducible apply Dev.kept_setF
    | with_reducible apply Dev.kept_evt
    | with_reducible apply Dev.kept_ite)

theorem Dev.kept_answer {z : Nat} {port ctag : Nat} {msg : List Byte} {d : Dev} (h : d.kept z) : (Dev.answer port ctag msg d).kept z := by
  unfold Dev.answer
  repeat' (first
    | with_reducible assumption
    | intro h
    | with_reducible apply Dev.kept_foldl
    | with_reducible apply Dev.kept_linkSend
    | with_reducible apply Dev.kept_ite
    | fail_if_no_progress with_reducible refine Dev.kept_mk ?_ rfl)

theorem Dev.kept_putSessions {z : Nat} {xs : List Session} {d : Dev} (h : d.kept z) (hx : xs.length ≤ 4) :
    (Dev.putSessions xs d).kept z := by
  unfold Dev.putSessions
  apply Dev.kept_setF
  obtain ⟨m, ⟨r1, r2, r3, r4, r5, _⟩, k, p⟩ := h
  exact ⟨m, ⟨r1, r2, r3, r4, r5, hx⟩, k, p⟩

theorem Dev.kept_closeSession {z : Nat} {x : Session} {d : Dev} (h : d.kept z) : (Dev.closeSession x d).kept z := by
  unfold Dev.closeSession
  apply Dev.kept_evt
  have h1 := Dev.kept_audit (action := 4) (role := x.role) (port := x.port) (key := x.key) (session := x.id) (target := 0)
    (before := noDigest) (after := noDigest) h
  generalize Dev.audit 4 x.role x.port x.key x.id 0 noDigest noDigest d = d1 at h1
  have h2 := Dev.kept_putSessions h1 (Nat.le_trans (List.length_filter_le (fun s => s.id ≠ x.id) _) h1.2.1.2.2.2.2.2)
  generalize Dev.putSessions (d1.sec.sessions.filter (fun s => s.id ≠ x.id)) d1 = d2 at h2
  dsimp only
  split
  · exact Dev.kept_ite (Dev.kept_of h2 rfl rfl rfl rfl rfl rfl rfl rfl rfl rfl rfl rfl rfl rfl rfl rfl) h2
  · exact h2

theorem Dev.kept_closeWhere {z : Nat} {p : Session → Bool} {d : Dev} (h : d.kept z) : (Dev.closeWhere p d).kept z := by
  unfold Dev.closeWhere
  repeat' (first
    | with_reducible assumption
    | intro h
    | with_reducible apply Dev.kept_foldl
    | with_reducible apply Dev.kept_closeSession)

theorem Dev.kept_failedAttempt {z : Nat} {role shown port key session : Nat} {d : Dev} (h : d.kept z) : (Dev.failedAttempt role shown port key session d).kept z := by
  unfold Dev.failedAttempt
  repeat' (first
    | with_reducible assumption
    | with_reducible apply Dev.kept_audit
    | with_reducible apply Dev.kept_setF
    | with_reducible apply Dev.kept_evt
    | with_reducible apply Dev.kept_ite
    | fail_if_no_progress with_reducible refine Dev.kept_mk ?_ rfl)

end Sys2Proof.Machine
end

