-- ==== Sys2Proof/Laws/KeptRetire.lean ====
section
/-! SUPPORT. What every operation keeps. -/

namespace Sys2Proof.Machine

theorem Dev.kept_clearBlocks {z : Nat} {d : Dev} (h : d.kept z) : (Dev.clearBlocks d).kept z := by
  obtain ⟨⟨m1, m2, _, _, m5, _⟩, ⟨_, _, r3, r4, r5, _⟩, ⟨k1, k2, k3⟩, p⟩ := h
  refine ⟨⟨m1, m2, rfl, rfl, m5, ?_⟩, ⟨?_, ?_, r3, r4, r5, ?_⟩, ⟨Tab.wf_filter _ _ k1, k2, k3⟩, p⟩
  · exact fun q hq => absurd hq (List.not_mem_nil)
  · exact Nat.zero_le _
  · exact ⟨Nat.zero_le _, List.nodup_nil⟩
  · exact Nat.zero_le _

theorem cullOk_map (g : Cull → Cull) (hg : ∀ c, (g c).res = c.res) (xs : List Cull) (h : cullOk xs) : cullOk (xs.map g) := by
  refine ⟨by rw [List.length_map]; exact h.1, ?_⟩
  rw [List.map_map, show (Cull.res ∘ g) = Cull.res from funext hg]
  exact h.2

theorem cullOk_filter (f : Cull → Bool) (xs : List Cull) (h : cullOk xs) : cullOk (xs.filter f) :=
  ⟨Nat.le_trans (List.length_filter_le _ _) h.1, h.2.sublist (List.Sublist.map _ (List.filter_sublist))⟩

theorem Dev.kept_cull {z : Nat} {d : Dev} {xs : List Cull} (h : d.kept z) (hx : cullOk xs) :
    Dev.kept z { d with red := { d.red with cull := xs } } := by
  obtain ⟨m, ⟨r1, _, r⟩, k⟩ := h
  exact ⟨m, ⟨r1, hx, r⟩, k⟩

theorem Dev.kept_persistCull {z : Nat} {d : Dev} (h : d.kept z) : (Dev.persistCull d).kept z := by
  obtain ⟨m, ⟨r1, r2, _, _, r⟩, k⟩ := h
  have hx := cullOk_map (fun c => { c with persisted := true }) (fun _ => rfl) _ r2
  exact ⟨m, ⟨r1, hx, hx, hx, r⟩, k⟩

theorem Dev.kept_restart {z : Nat} {bit : Nat} {d : Dev} (h : d.kept z) : (Dev.restart bit d).kept z := by
  unfold Dev.restart
  repeat' (first
    | with_reducible assumption
    | intro h
    | with_reducible apply Dev.kept_wr
    | with_reducible apply Dev.kept_persistCull
    | with_reducible apply Dev.kept_closeWhere
    | with_reducible apply Dev.kept_clearBlocks
    | with_reducible apply Dev.kept_setSys
    | fail_if_no_progress with_reducible refine Dev.kept_mk ?_ rfl)

theorem Dev.kept_fatal {z : Nat} {cause : Nat} {d : Dev} (h : d.kept z) : (Dev.fatal cause d).kept z := by
  unfold Dev.fatal
  repeat' (first
    | with_reducible assumption
    | intro h
    | with_reducible apply Dev.kept_forEach
    | with_reducible apply Dev.kept_gafferSafe
    | with_reducible apply Dev.kept_at
    | with_reducible apply Dev.kept_jrnFlush
    | with_reducible apply Dev.kept_restart)

theorem Dev.kept_setTmode {z : Nat} {t m : Nat} {d : Dev} (h : d.kept z) : (Dev.setTmode t m d).kept z := by
  unfold Dev.setTmode
  repeat' (first
    | with_reducible assumption
    | with_reducible apply Dev.kept_setF)

theorem Dev.kept_haltTriad {z : Nat} {t : Nat} {d : Dev} (h : d.kept z) : (Dev.haltTriad t d).kept z := by
  unfold Dev.haltTriad
  repeat' (first
    | with_reducible assumption
    | intro h
    | with_reducible refine Dev.kept_modTriad (fun _ => rfl) ?_
    | with_reducible apply Dev.kept_fatal
    | with_reducible apply Dev.kept_setTmode
    | with_reducible apply Dev.kept_setF
    | with_reducible apply Dev.kept_evt
    | with_reducible apply Dev.kept_gafferAll
    | with_reducible apply Dev.kept_ite
    | fail_if_no_progress with_reducible refine Dev.kept_mk ?_ rfl)

theorem Dev.kept_spareTaken {z : Nat} {kind i : Nat} {e : SpareEnt} {d : Dev} (h : d.kept z) :
    (Dev.spareTaken kind i e d).kept z := by
  unfold Dev.spareTaken
  apply Dev.kept_evt
  refine Dev.kept_cull h (cullOk_map _ (fun c => ?_) _ h.2.1.2.1)
  split <;> rfl

theorem Dev.kept_noSubst {z : Nat} {o : Option Nat} {cause : Nat} {d : Dev} (h : d.kept z) : (Dev.noSubst o cause d).kept z := by
  unfold Dev.noSubst
  repeat' (first
    | with_reducible assumption
    | intro h
    | with_reducible apply Dev.kept_whenSome
    | with_reducible apply Dev.kept_gafferSafe
    | with_reducible apply Dev.kept_setF
    | with_reducible apply Dev.kept_sendFn)

theorem Dev.kept_stopEngines {z : Nat} {p : Nat} {copies : List Nat} {d : Dev} (h : d.kept z) : (Dev.stopEngines p copies d).kept z := by
  unfold Dev.stopEngines
  repeat' (first
    | with_reducible assumption
    | intro h
    | with_reducible apply Dev.kept_forEach
    | with_reducible apply Dev.kept_when
    | with_reducible apply Dev.kept_putBit
    | with_reducible apply Dev.kept_setF
    | with_reducible apply Dev.kept_setPend
    | with_reducible apply Dev.kept_setRun
    | with_reducible apply Dev.kept_ite)

theorem Dev.kept_retireEngines {z : Nat} {p : Nat} {copies : List Nat} {d : Dev} (h : d.kept z) : (Dev.retireEngines p copies d).kept z := by
  unfold Dev.retireEngines
  repeat' (first
    | with_reducible assumption
    | intro h
    | with_reducible apply Dev.kept_forEach
    | with_reducible apply Dev.kept_stopEngines
    | with_reducible apply Dev.kept_evt
    | with_reducible apply Dev.kept_noSubst
    | split
    | dsimp only
    | fail_if_no_progress with_reducible refine Dev.kept_mk ?_ rfl)

theorem Dev.kept_markLeg {z : Nat} {n : Nat} {d : Dev} (h : d.kept z) : (Dev.markLeg n d).kept z := by
  unfold Dev.markLeg
  repeat' (first
    | with_reducible assumption
    | with_reducible apply Dev.kept_putBit
    | with_reducible apply Dev.kept_setF
    | with_reducible apply Dev.kept_ite)

theorem Dev.kept_substLeg {z : Nat} {n s : Nat} {d : Dev} (h : d.kept z) : (Dev.substLeg n s d).kept z := by
  unfold Dev.substLeg
  repeat' (first
    | with_reducible assumption
    | intro h
    | with_reducible apply Dev.kept_wr
    | with_reducible apply Dev.kept_setF
    | with_reducible apply Dev.kept_ite
    | fail_if_no_progress with_reducible refine Dev.kept_mk ?_ rfl)

theorem Dev.kept_retireLeg {z : Nat} {n : Nat} {d : Dev} (h : d.kept z) : (Dev.retireLeg n d).kept z := by
  unfold Dev.retireLeg
  dsimp only
  have h1 := Dev.kept_evt (code := EV_LEG_RETIRED) (data := [n]) (Dev.kept_undrive (n := n) (Dev.kept_markLeg (n := n) h))
  split
  · exact Dev.kept_gafferOwner (Dev.kept_spareTaken (Dev.kept_substLeg h1))
  · exact Dev.kept_noSubst h1

theorem Dev.kept_retireConv {z : Nat} {n : Nat} {d : Dev} (h : d.kept z) : (Dev.retireConv n d).kept z := by
  unfold Dev.retireConv
  repeat' (first
    | with_reducible assumption
    | intro h
    | with_reducible apply Dev.kept_putBit
    | with_reducible apply Dev.kept_evt
    | with_reducible apply Dev.kept_setF
    | with_reducible apply Dev.kept_ite
    | split
    | dsimp only
    | fail_if_no_progress with_reducible refine Dev.kept_mk ?_ rfl)

theorem Dev.kept_markCmp {z : Nat} {n : Nat} {d : Dev} (h : d.kept z) : (Dev.markCmp n d).kept z := by
  unfold Dev.markCmp
  repeat' (first
    | with_reducible assumption
    | with_reducible apply Dev.kept_putBit
    | with_reducible apply Dev.kept_setF
    | with_reducible apply Dev.kept_ite)

theorem Dev.kept_substCmp {z : Nat} {n s : Nat} {d : Dev} (h : d.kept z) : (Dev.substCmp n s d).kept z := by
  unfold Dev.substCmp
  repeat' (first
    | with_reducible assumption
    | intro h
    | with_reducible apply Dev.kept_forEach
    | with_reducible apply Dev.kept_putBit
    | with_reducible apply Dev.kept_setF
    | with_reducible apply Dev.kept_ite)

theorem Dev.kept_degradeCmp {z : Nat} {n ain : Nat} {tripped : Bool} {d : Dev} (h : d.kept z) : (Dev.degradeCmp n ain tripped d).kept z := by
  unfold Dev.degradeCmp
  repeat' (first
    | with_reducible assumption
    | with_reducible apply Dev.kept_setF
    | fail_if_no_progress with_reducible refine Dev.kept_mk ?_ rfl)

theorem Dev.kept_retireCmp {z : Nat} {n why : Nat} {d : Dev} (h : d.kept z) : (Dev.retireCmp n why d).kept z := by
  unfold Dev.retireCmp
  repeat' (first
    | with_reducible assumption
    | intro h
    | with_reducible apply Dev.kept_forEach
    | with_reducible apply Dev.kept_whenSome
    | with_reducible apply Dev.kept_markCmp
    | with_reducible apply Dev.kept_evt
    | with_reducible apply Dev.kept_substCmp
    | with_reducible apply Dev.kept_spareTaken
    | with_reducible apply Dev.kept_degradeCmp
    | with_reducible apply Dev.kept_gafferSafe
    | with_reducible apply Dev.kept_noSubst
    | with_reducible apply Dev.kept_setF
    | with_reducible apply Dev.kept_safeCommand
    | with_reducible apply Dev.kept_evalGroups
    | with_reducible apply Dev.kept_ite
    | split
    | dsimp only)

theorem Dev.kept_substDsm {z : Nat} {n s : Nat} {d : Dev} (h : d.kept z) : (Dev.substDsm n s d).kept z := by
  unfold Dev.substDsm
  repeat' (first
    | with_reducible assumption
    | intro h
    | with_reducible apply Dev.kept_wr
    | with_reducible apply Dev.kept_forEach
    | with_reducible apply Dev.kept_setF
    | with_reducible apply Dev.kept_putBit
    | with_reducible apply Dev.kept_ite)

theorem Dev.kept_retireDsm {z : Nat} {n : Nat} {d : Dev} (h : d.kept z) : (Dev.retireDsm n d).kept z := by
  unfold Dev.retireDsm
  repeat' (first
    | with_reducible assumption
    | with_reducible apply Dev.kept_setF
    | with_reducible apply Dev.kept_evalGroups
    | with_reducible apply Dev.kept_noSubst
    | with_reducible apply Dev.kept_substDsm
    | with_reducible apply Dev.kept_spareTaken
    | with_reducible apply Dev.kept_gafferOwner
    | split
    | dsimp only)

theorem Dev.kept_substInput {z : Nat} {n : Nat} {e : SpareEnt} {d : Dev} (h : d.kept z) : (Dev.substInput n e d).kept z := by
  unfold Dev.substInput
  repeat' (first
    | with_reducible assumption
    | intro h
    | with_reducible apply Dev.kept_forEach
    | with_reducible apply Dev.kept_setF
    | with_reducible apply Dev.kept_ite)

theorem Dev.kept_retireInput {z : Nat} {n : Nat} {d : Dev} (h : d.kept z) : (Dev.retireInput n d).kept z := by
  unfold Dev.retireInput
  repeat' (first
    | with_reducible assumption
    | with_reducible apply Dev.kept_substInput
    | with_reducible apply Dev.kept_spareTaken
    | with_reducible apply Dev.kept_gafferOwner
    | split
    | dsimp only)

theorem Dev.kept_retireCore {z : Nat} {i : Nat} {d : Dev} (h : d.kept z) : (Dev.retireCore i d).kept z := by
  unfold Dev.retireCore
  repeat' (first
    | with_reducible assumption
    | with_reducible apply Dev.kept_putBit
    | with_reducible apply Dev.kept_setTmode
    | with_reducible apply Dev.kept_setF
    | with_reducible apply Dev.kept_evt
    | with_reducible apply Dev.kept_haltTriad
    | with_reducible apply Dev.kept_ite)

theorem cullOk_append (xs : List Cull) (c : Cull) (h : cullOk xs) (hc : xs.any (fun x => x.res = c.res) = false)
    (hl : xs.length < 256) : cullOk (xs ++ [c]) := by
  refine ⟨by rw [List.length_append]; exact hl, ?_⟩
  rw [List.map_append]
  refine List.nodup_append.2 ⟨h.2, by simp, fun a ha b hb he => ?_⟩
  obtain ⟨y, hy, rfl⟩ := List.mem_map.1 ha
  rw [List.mem_map] at hb
  obtain ⟨w, hw, rfl⟩ := hb
  rw [List.mem_singleton] at hw
  subst hw
  rw [List.any_eq_false] at hc
  exact hc y hy (by simpa using he)

theorem Dev.kept_cullAdd {z : Nat} {kind i reason : Nat} {d : Dev} (h : d.kept z) : (Dev.cullAdd kind i reason d).kept z := by
  unfold Dev.cullAdd
  dsimp only
  apply Dev.kept_evt
  have h1 : Dev.kept z ((d.setF (RED_GUST kind i) RED_GUST_RETIRED 1).setF RED_FLT RED_FLT_GALE 1) := Dev.kept_setF (Dev.kept_setF h)
  generalize (d.setF (RED_GUST kind i) RED_GUST_RETIRED 1).setF RED_FLT RED_FLT_GALE 1 = d1 at h1
  split
  · exact h1
  · rename_i ha
    split
    · rename_i hl
      apply Dev.kept_setF
      exact Dev.kept_cull h1 (cullOk_append _ _ h1.2.1.2.1 (by simpa using ha) hl)
    · exact Dev.kept_setF (Dev.kept_setF h1)

theorem Dev.kept_gale {z : Nat} {kind i reason why : Nat} {d : Dev} (h : d.kept z) : (Dev.gale kind i reason why d).kept z := by
  unfold Dev.gale
  repeat' (first
    | with_reducible assumption
    | with_reducible apply Dev.kept_cullAdd
    | with_reducible apply Dev.kept_retireEngines
    | with_reducible apply Dev.kept_retireCore
    | with_reducible apply Dev.kept_retireLeg
    | with_reducible apply Dev.kept_retireConv
    | with_reducible apply Dev.kept_retireCmp
    | with_reducible apply Dev.kept_retireDsm
    | with_reducible apply Dev.kept_retireInput
    | with_reducible apply Dev.kept_ite
    | split
    | dsimp only)

theorem Dev.kept_gust {z : Nat} {kind i : Nat} {d : Dev} (h : d.kept z) : (Dev.gust kind i d).kept z := by
  unfold Dev.gust
  repeat' (first
    | with_reducible assumption
    | with_reducible apply Dev.kept_incSat
    | with_reducible apply Dev.kept_setF
    | with_reducible apply Dev.kept_gale
    | with_reducible apply Dev.kept_ite
    | fail_if_no_progress with_reducible refine Dev.kept_mk ?_ rfl)

theorem Dev.kept_gustPair {z : Nat} {p : Nat} {d : Dev} (h : d.kept z) : (Dev.gustPair p d).kept z := by
  unfold Dev.gustPair
  repeat' (first
    | with_reducible assumption
    | with_reducible apply Dev.kept_gust)

end Sys2Proof.Machine
end

