-- ==== Sys2Proof/Laws/KeptSensor.lean ====
section
/-! SUPPORT. What every operation keeps. -/

namespace Sys2Proof.Machine

theorem Dev.kept_hallEdge {z : Nat} {u n : Nat} {d : Dev} (h : d.kept z) : (Dev.hallEdge u n d).kept z := by
  unfold Dev.hallEdge
  repeat' (first
    | with_reducible assumption
    | intro h
    | with_reducible apply Dev.kept_modAxu
    | with_reducible apply Dev.kept_ite
    | split
    | dsimp only
    | fail_if_no_progress with_reducible refine Dev.kept_mk ?_ rfl)

theorem Dev.kept_hallTimeout {z : Nat} {u : Nat} {d : Dev} (h : d.kept z) : (Dev.hallTimeout u d).kept z := by
  unfold Dev.hallTimeout
  repeat' (first
    | with_reducible assumption
    | intro h
    | with_reducible apply Dev.kept_modAxu
    | with_reducible apply Dev.kept_ite
    | split
    | dsimp only
    | fail_if_no_progress with_reducible refine Dev.kept_mk ?_ rfl)

end Sys2Proof.Machine
end

