-- ==== Sys2Proof/Laws/KeptEnable.lean ====
section
/-! SUPPORT. What every operation keeps. -/

namespace Sys2Proof.Machine

theorem Dev.kept_setRole {z : Nat} {r : Nat} {d : Dev} (h : d.kept z) : (Dev.setRole r d).kept z := by
  unfold Dev.setRole
  repeat' (first
    | with_reducible assumption
    | intro h
    | with_reducible apply Dev.kept_when
    | with_reducible apply Dev.kept_setF
    | with_reducible apply Dev.kept_evt
    | with_reducible apply Dev.kept_closeWhere
    | with_reducible apply Dev.kept_ite
    | fail_if_no_progress with_reducible refine Dev.kept_mk ?_ rfl)

theorem Dev.kept_setToken {z : Nat} {b : Bool} {d : Dev} (h : d.kept z) : (Dev.setToken b d).kept z := by
  unfold Dev.setToken
  repeat' (first
    | with_reducible assumption
    | with_reducible apply Dev.kept_setF)

theorem Dev.kept_disableFn {z : Nat} {f : Nat} {d : Dev} (h : d.kept z) : (Dev.disableFn f d).kept z := by
  unfold Dev.disableFn
  repeat' (first
    | with_reducible assumption
    | intro h
    | with_reducible apply Dev.kept_forEach
    | with_reducible apply Dev.kept_when
    | with_reducible apply Dev.kept_setF
    | with_reducible apply Dev.kept_stopCascades
    | with_reducible apply Dev.kept_stopUnits
    | with_reducible apply Dev.kept_posIdle
    | with_reducible apply Dev.kept_legRefresh
    | with_reducible apply Dev.kept_sendFn
    | fail_if_no_progress with_reducible refine Dev.kept_mk ?_ rfl)

theorem Dev.kept_releaseToken {z : Nat} {cause : Nat} {d : Dev} (h : d.kept z) : (Dev.releaseToken cause d).kept z := by
  unfold Dev.releaseToken
  repeat' (first
    | with_reducible assumption
    | intro h
    | with_reducible apply Dev.kept_forEach
    | with_reducible apply Dev.kept_undrive
    | with_reducible apply Dev.kept_setToken
    | with_reducible apply Dev.kept_evt
    | with_reducible apply Dev.kept_setRole
    | with_reducible apply Dev.kept_disableFn
    | with_reducible apply Dev.kept_ite
    | fail_if_no_progress with_reducible refine Dev.kept_mk ?_ rfl)

theorem Dev.kept_dsmRestart {z : Nat} {n : Nat} {d : Dev} (h : d.kept z) : (Dev.dsmRestart n d).kept z := by
  unfold Dev.dsmRestart
  repeat' (first
    | with_reducible assumption
    | with_reducible apply Dev.kept_setF
    | fail_if_no_progress with_reducible refine Dev.kept_mk ?_ rfl)

theorem Dev.kept_realign {z : Nat} {d : Dev} (h : d.kept z) : (Dev.realign d).kept z := by
  unfold Dev.realign
  repeat' (first
    | with_reducible assumption
    | intro h
    | with_reducible apply Dev.kept_forEach
    | with_reducible apply Dev.kept_dsmRestart)

theorem Dev.kept_enableCascades {z : Nat} {f : Nat} {d : Dev} (h : d.kept z) : (Dev.enableCascades f d).kept z := by
  unfold Dev.enableCascades
  repeat' (first
    | with_reducible assumption
    | intro h
    | with_reducible apply Dev.kept_forEach
    | with_reducible apply Dev.kept_modCasc
    | with_reducible apply Dev.kept_setF
    | with_reducible apply Dev.kept_setPend
    | with_reducible apply Dev.kept_setRun
    | fail_if_no_progress with_reducible refine Dev.kept_mk ?_ rfl)

theorem Dev.kept_setPhase {z : Nat} {u ph : Nat} {d : Dev} (h : d.kept z) : (Dev.setPhase u ph d).kept z := by
  unfold Dev.setPhase
  repeat' (first
    | with_reducible assumption
    | intro h
    | with_reducible apply Dev.kept_setF
    | with_reducible apply Dev.kept_modAxu
    | with_reducible apply Dev.kept_ite
    | fail_if_no_progress with_reducible refine Dev.kept_mk ?_ rfl)

theorem Dev.kept_enableAxu {z : Nat} {f u : Nat} {d : Dev} (h : d.kept z) : (Dev.enableAxu f u d).kept z := by
  unfold Dev.enableAxu
  repeat' (first
    | with_reducible assumption
    | intro h
    | with_reducible apply Dev.kept_wr
    | with_reducible apply Dev.kept_forEach
    | with_reducible apply Dev.kept_setF
    | with_reducible apply Dev.kept_modAxu
    | with_reducible apply Dev.kept_setPhase
    | with_reducible apply Dev.kept_ite
    | fail_if_no_progress with_reducible refine Dev.kept_mk ?_ rfl)

theorem Dev.kept_enableCvu {z : Nat} {u : Nat} {d : Dev} (h : d.kept z) : (Dev.enableCvu u d).kept z := by
  unfold Dev.enableCvu
  repeat' (first
    | with_reducible assumption
    | intro h
    | with_reducible apply Dev.kept_setF
    | with_reducible apply Dev.kept_modCvu
    | fail_if_no_progress with_reducible refine Dev.kept_mk ?_ rfl)

theorem Dev.kept_fnOutcome {z : Nat} {f st : Nat} {done : Bool} {d : Dev} (h : d.kept z) : (Dev.fnOutcome f st done d).kept z := by
  unfold Dev.fnOutcome
  repeat' (first
    | with_reducible assumption
    | with_reducible apply Dev.kept_evt
    | with_reducible apply Dev.kept_ite)

theorem Dev.kept_enableOutcome {z : Nat} {f : Nat} {done : Bool} {d : Dev} (h : d.kept z) : (Dev.enableOutcome f done d).kept z := by
  unfold Dev.enableOutcome
  repeat' (first
    | with_reducible assumption
    | with_reducible apply Dev.kept_reqEnable
    | with_reducible apply Dev.kept_fnOutcome
    | with_reducible apply Dev.kept_ite
    | fail_if_no_progress with_reducible refine Dev.kept_mk ?_ rfl)

theorem Dev.kept_completeEnable {z : Nat} {f : Nat} {d : Dev} (h : d.kept z) : (Dev.completeEnable f d).kept z := by
  unfold Dev.completeEnable
  repeat' (first
    | with_reducible assumption
    | intro h
    | with_reducible apply Dev.kept_forEach
    | with_reducible apply Dev.kept_when
    | with_reducible apply Dev.kept_whenSome
    | with_reducible apply Dev.kept_setF
    | with_reducible apply Dev.kept_enableCascades
    | with_reducible apply Dev.kept_enableAxu
    | with_reducible apply Dev.kept_enableCvu
    | with_reducible apply Dev.kept_modLeg
    | with_reducible apply Dev.kept_legRefresh
    | with_reducible apply Dev.kept_evt
    | with_reducible apply Dev.kept_sendFn
    | with_reducible apply Dev.kept_enableOutcome
    | fail_if_no_progress with_reducible refine Dev.kept_mk ?_ rfl)

theorem Dev.kept_tryEnable {z : Nat} {f : Nat} {d : Dev} (h : d.kept z) : (Dev.tryEnable f d).kept z := by
  unfold Dev.tryEnable
  repeat' (first
    | with_reducible assumption
    | intro h
    | with_reducible apply Dev.kept_when
    | with_reducible apply Dev.kept_completeEnable)

end Sys2Proof.Machine
end

