-- ==== Sys2Proof/Laws/KeptLeg.lean ====
section
/-! SUPPORT. What every operation keeps. -/

namespace Sys2Proof.Machine

theorem Dev.kept_legLoad {z : Nat} {n : Nat} {was : Drive} {d : Dev} (h : d.kept z) : (Dev.legLoad n was d).kept z := by
  unfold Dev.legLoad
  repeat' (first
    | with_reducible assumption
    | intro h
    | with_reducible apply Dev.kept_wr
    | with_reducible apply Dev.kept_modLeg
    | with_reducible apply Dev.kept_setF
    | with_reducible apply Dev.kept_ite
    | split
    | dsimp only
    | fail_if_no_progress with_reducible refine Dev.kept_mk ?_ rfl)

theorem Dev.kept_lineSwap {z : Nat} {n : Nat} {d : Dev} (h : d.kept z) : (Dev.lineSwap n d).kept z := by
  unfold Dev.lineSwap
  repeat' (first
    | with_reducible assumption
    | with_reducible apply Dev.kept_putLeg
    | with_reducible apply Dev.kept_setF
    | fail_if_no_progress with_reducible refine Dev.kept_mk ?_ rfl)

theorem Dev.kept_calGust {z : Nat} {n ev : Nat} {d : Dev} (h : d.kept z) : (Dev.calGust n ev d).kept z := by
  unfold Dev.calGust
  repeat' (first
    | with_reducible assumption
    | with_reducible apply Dev.kept_setF
    | with_reducible apply Dev.kept_evt
    | with_reducible apply Dev.kept_gust)

theorem Dev.kept_padCheck {z : Nat} {n : Nat} {eh el : Int} {d : Dev} (h : d.kept z) : (Dev.padCheck n eh el d).kept z := by
  unfold Dev.padCheck
  repeat' (first
    | with_reducible assumption
    | intro h
    | with_reducible apply Dev.kept_wr
    | with_reducible apply Dev.kept_when
    | with_reducible apply Dev.kept_modLeg
    | with_reducible apply Dev.kept_calGust
    | with_reducible apply Dev.kept_reqServed
    | fail_if_no_progress with_reducible refine Dev.kept_mk ?_ rfl)

theorem Dev.kept_legMismatch {z : Nat} {n : Nat} {d : Dev} (h : d.kept z) : (Dev.legMismatch n d).kept z := by
  unfold Dev.legMismatch
  repeat' (first
    | with_reducible assumption
    | intro h
    | with_reducible apply Dev.kept_when
    | with_reducible apply Dev.kept_putLeg
    | with_reducible apply Dev.kept_setF
    | with_reducible apply Dev.kept_legRefresh
    | with_reducible apply Dev.kept_incSat
    | with_reducible apply Dev.kept_evt
    | with_reducible apply Dev.kept_gust
    | with_reducible apply Dev.kept_gale
    | split
    | dsimp only
    | fail_if_no_progress with_reducible refine Dev.kept_mk ?_ rfl)

theorem Dev.kept_glNext {z : Nat} {n : Nat} {d : Dev} (h : d.kept z) : (Dev.glNext n d).kept z := by
  unfold Dev.glNext
  repeat' (first
    | with_reducible assumption
    | intro h
    | with_reducible apply Dev.kept_modLeg
    | with_reducible apply Dev.kept_ite
    | split
    | dsimp only
    | fail_if_no_progress with_reducible refine Dev.kept_mk ?_ rfl)

theorem Dev.kept_startSequence {z : Nat} {n : Nat} {d : Dev} (h : d.kept z) : (Dev.startSequence n d).kept z := by
  unfold Dev.startSequence
  repeat' (first
    | with_reducible assumption
    | intro h
    | with_reducible apply Dev.kept_modLeg
    | with_reducible apply Dev.kept_legRefresh
    | with_reducible apply Dev.kept_glNext
    | fail_if_no_progress with_reducible refine Dev.kept_mk ?_ rfl)

theorem Dev.kept_startQuick {z : Nat} {n : Nat} {d : Dev} (h : d.kept z) : (Dev.startQuick n d).kept z := by
  unfold Dev.startQuick
  repeat' (first
    | with_reducible assumption
    | intro h
    | with_reducible apply Dev.kept_modLeg
    | with_reducible apply Dev.kept_glNext
    | fail_if_no_progress with_reducible refine Dev.kept_mk ?_ rfl)

theorem Dev.kept_startEnable {z : Nat} {f : Nat} {d : Dev} (h : d.kept z) : (Dev.startEnable f d).kept z := by
  unfold Dev.startEnable
  repeat' (first
    | with_reducible assumption
    | intro h
    | with_reducible apply Dev.kept_forEach
    | with_reducible apply Dev.kept_startSequence
    | with_reducible apply Dev.kept_tryEnable
    | with_reducible apply Dev.kept_ite
    | fail_if_no_progress with_reducible refine Dev.kept_mk ?_ rfl)

theorem Dev.kept_sequenceStop {z : Nat} {n : Nat} {rerun : Bool} {d : Dev} (h : d.kept z) : (Dev.sequenceStop n rerun d).kept z := by
  unfold Dev.sequenceStop
  repeat' (first
    | with_reducible assumption
    | intro h
    | with_reducible apply Dev.kept_forEach
    | with_reducible apply Dev.kept_whenSome
    | with_reducible apply Dev.kept_modLeg
    | with_reducible apply Dev.kept_setF
    | with_reducible apply Dev.kept_legHiZ
    | with_reducible apply Dev.kept_evtC
    | with_reducible apply Dev.kept_gafferOwner
    | with_reducible apply Dev.kept_enableOutcome
    | with_reducible apply Dev.kept_ite
    | split
    | dsimp only
    | fail_if_no_progress with_reducible refine Dev.kept_mk ?_ rfl)

theorem Dev.kept_pollResult {z : Nat} {n a status data : Nat} {d : Dev} (h : d.kept z) : (Dev.pollResult n a status data d).kept z := by
  unfold Dev.pollResult
  repeat' (first
    | with_reducible assumption
    | intro h
    | with_reducible apply Dev.kept_when
    | with_reducible apply Dev.kept_setF
    | with_reducible apply Dev.kept_evt
    | with_reducible apply Dev.kept_startSequence
    | with_reducible apply Dev.kept_ite
    | split
    | dsimp only
    | fail_if_no_progress with_reducible refine Dev.kept_mk ?_ rfl)

theorem Dev.kept_sequenceResult {z : Nat} {n status data : Nat} {e : EnSeq} {d : Dev} (h : d.kept z) : (Dev.sequenceResult n status data e d).kept z := by
  unfold Dev.sequenceResult
  repeat' (first
    | with_reducible assumption
    | intro h
    | with_reducible apply Dev.kept_modLeg
    | with_reducible apply Dev.kept_sequenceStop
    | with_reducible apply Dev.kept_ite
    | split
    | dsimp only
    | fail_if_no_progress with_reducible refine Dev.kept_mk ?_ rfl)

theorem Dev.kept_glGood {z : Nat} {n : Nat} {q : GlReq} {status data : Nat} {d : Dev} (h : d.kept z) : (Dev.glGood n q status data d).kept z := by
  unfold Dev.glGood
  repeat' (first
    | with_reducible assumption
    | intro h
    | with_reducible apply Dev.kept_modLeg
    | with_reducible apply Dev.kept_pollResult
    | with_reducible apply Dev.kept_sequenceResult
    | with_reducible apply Dev.kept_glReply
    | with_reducible apply Dev.kept_glNext
    | split
    | dsimp only
    | fail_if_no_progress with_reducible refine Dev.kept_mk ?_ rfl)

theorem Dev.kept_glBad {z : Nat} {n : Nat} {q : GlReq} {noack : Bool} {d : Dev} (h : d.kept z) : (Dev.glBad n q noack d).kept z := by
  unfold Dev.glBad
  repeat' (first
    | with_reducible assumption
    | intro h
    | with_reducible apply Dev.kept_when
    | with_reducible apply Dev.kept_modLeg
    | with_reducible apply Dev.kept_incSat
    | with_reducible apply Dev.kept_setF
    | with_reducible apply Dev.kept_evt
    | with_reducible apply Dev.kept_gust
    | with_reducible apply Dev.kept_sequenceStop
    | with_reducible apply Dev.kept_glReply
    | with_reducible apply Dev.kept_glNext
    | with_reducible apply Dev.kept_ite
    | split
    | dsimp only
    | fail_if_no_progress with_reducible refine Dev.kept_mk ?_ rfl)

theorem Dev.kept_legBoundary {z : Nat} {n : Nat} {upset : Bool} {d : Dev} (h : d.kept z) : (Dev.legBoundary n upset d).kept z := by
  unfold Dev.legBoundary
  repeat' (first
    | with_reducible assumption
    | intro h
    | with_reducible apply Dev.kept_when
    | with_reducible apply Dev.kept_modLeg
    | with_reducible apply Dev.kept_setF
    | with_reducible apply Dev.kept_lineSwap
    | with_reducible apply Dev.kept_legLoad
    | with_reducible apply Dev.kept_legRefresh
    | with_reducible apply Dev.kept_legMismatch
    | split
    | dsimp only
    | fail_if_no_progress with_reducible refine Dev.kept_mk ?_ rfl)

theorem Dev.kept_fnBoundary {z : Nat} {f : Nat} {quiet : Bool} {upset : List Nat} {pads : List (Nat × Int × Int)} {d : Dev} (h : d.kept z) : (Dev.fnBoundary f quiet upset pads d).kept z := by
  unfold Dev.fnBoundary
  repeat' (first
    | with_reducible assumption
    | intro h
    | with_reducible apply Dev.kept_forEach
    | with_reducible apply Dev.kept_foldl
    | with_reducible apply Dev.kept_when
    | with_reducible apply Dev.kept_whenSome
    | with_reducible apply Dev.kept_legBoundary
    | with_reducible apply Dev.kept_padCheck
    | with_reducible apply Dev.kept_setF
    | with_reducible apply Dev.kept_evtRated
    | with_reducible apply Dev.kept_ite)

theorem Dev.kept_commitLeg {z : Nat} {n a b : Nat} {shift : W} {park : Bool} {d : Dev} (h : d.kept z) : (Dev.commitLeg n a b shift park d).kept z := by
  unfold Dev.commitLeg
  repeat' (first
    | with_reducible assumption
    | intro h
    | with_reducible apply Dev.kept_wr
    | with_reducible apply Dev.kept_modLeg
    | fail_if_no_progress with_reducible refine Dev.kept_mk ?_ rfl)

theorem Dev.kept_rerunPulled {z : Nat} {f : Nat} {d : Dev} (h : d.kept z) : (Dev.rerunPulled f d).kept z := by
  unfold Dev.rerunPulled
  repeat' (first
    | with_reducible assumption
    | intro h
    | with_reducible apply Dev.kept_forEach
    | with_reducible apply Dev.kept_modLeg
    | with_reducible apply Dev.kept_startSequence
    | with_reducible apply Dev.kept_ite
    | fail_if_no_progress with_reducible refine Dev.kept_mk ?_ rfl)

theorem Dev.kept_parityError {z : Nat} {n : Nat} {d : Dev} (h : d.kept z) : (Dev.parityError n d).kept z := by
  unfold Dev.parityError
  repeat' (first
    | with_reducible assumption
    | with_reducible apply Dev.kept_legMismatch
    | with_reducible apply Dev.kept_ite
    | split
    | dsimp only)

theorem Dev.kept_shadowIgnored {z : Nat} {triad n : Nat} {d : Dev} (h : d.kept z) : (Dev.shadowIgnored triad n d).kept z := by
  unfold Dev.shadowIgnored
  repeat' (first
    | with_reducible assumption
    | with_reducible apply Dev.kept_evtC)

theorem Dev.kept_shaWrite {z : Nat} {triad n : Nat} {b : Bool} {v : W} {d : Dev} (h : d.kept z) : (Dev.shaWrite triad n b v d).kept z := by
  unfold Dev.shaWrite
  repeat' (first
    | with_reducible assumption
    | with_reducible apply Dev.kept_wr
    | with_reducible apply Dev.kept_shadowIgnored
    | with_reducible apply Dev.kept_ite)

theorem Dev.kept_shiftWrite {z : Nat} {triad n : Nat} {v : W} {d : Dev} (h : d.kept z) : (Dev.shiftWrite triad n v d).kept z := by
  unfold Dev.shiftWrite
  repeat' (first
    | with_reducible assumption
    | intro h
    | with_reducible apply Dev.kept_wr
    | with_reducible apply Dev.kept_modLeg
    | with_reducible apply Dev.kept_shadowIgnored
    | with_reducible apply Dev.kept_ite
    | fail_if_no_progress with_reducible refine Dev.kept_mk ?_ rfl)

theorem Dev.kept_lineCalDone {z : Nat} {n : Nat} {gl : Bool} {resid : Int} {mono : Bool} {span : Nat} {d : Dev} (h : d.kept z) : (Dev.lineCalDone n gl resid mono span d).kept z := by
  unfold Dev.lineCalDone
  repeat' (first
    | with_reducible assumption
    | intro h
    | with_reducible apply Dev.kept_modLeg
    | with_reducible apply Dev.kept_lineSwap
    | with_reducible apply Dev.kept_incSat
    | with_reducible apply Dev.kept_calGust
    | with_reducible apply Dev.kept_ite
    | fail_if_no_progress with_reducible refine Dev.kept_mk ?_ rfl)

theorem Dev.kept_calAged {z : Nat} {n : Nat} {gl : Bool} {d : Dev} (h : d.kept z) : (Dev.calAged n gl d).kept z := by
  unfold Dev.calAged
  repeat' (first
    | with_reducible assumption
    | with_reducible apply Dev.kept_setF
    | with_reducible apply Dev.kept_evt
    | with_reducible apply Dev.kept_ite)

theorem Dev.kept_lineAgeLimit {z : Nat} {n : Nat} {gl : Bool} {d : Dev} (h : d.kept z) : (Dev.lineAgeLimit n gl d).kept z := by
  unfold Dev.lineAgeLimit
  repeat' (first
    | with_reducible assumption
    | with_reducible apply Dev.kept_gale
    | with_reducible apply Dev.kept_ite)

theorem Dev.kept_glPoll {z : Nat} {n : Nat} {d : Dev} (h : d.kept z) : (Dev.glPoll n d).kept z := by
  unfold Dev.glPoll
  repeat' (first
    | with_reducible assumption
    | intro h
    | with_reducible apply Dev.kept_modLeg
    | with_reducible apply Dev.kept_glNext
    | with_reducible apply Dev.kept_ite
    | fail_if_no_progress with_reducible refine Dev.kept_mk ?_ rfl)

theorem Dev.kept_glResponse {z : Nat} {n : Nat} {bs : List Byte} {late : Bool} {d : Dev} (h : d.kept z) : (Dev.glResponse n bs late d).kept z := by
  unfold Dev.glResponse
  repeat' (first
    | with_reducible assumption
    | with_reducible apply Dev.kept_glGood
    | with_reducible apply Dev.kept_glBad
    | with_reducible apply Dev.kept_ite
    | split
    | dsimp only)

theorem Dev.kept_glNoack {z : Nat} {n : Nat} {d : Dev} (h : d.kept z) : (Dev.glNoack n d).kept z := by
  unfold Dev.glNoack
  repeat' (first
    | with_reducible assumption
    | with_reducible apply Dev.kept_glBad
    | split
    | dsimp only)

theorem Dev.kept_faultPull {z : Nat} {n : Nat} {d : Dev} (h : d.kept z) : (Dev.faultPull n d).kept z := by
  unfold Dev.faultPull
  repeat' (first
    | with_reducible assumption
    | intro h
    | with_reducible apply Dev.kept_modLeg
    | with_reducible apply Dev.kept_setF
    | with_reducible apply Dev.kept_evt
    | with_reducible apply Dev.kept_evalGroups
    | with_reducible apply Dev.kept_ite
    | fail_if_no_progress with_reducible refine Dev.kept_mk ?_ rfl)

theorem Dev.kept_faultPullEnd {z : Nat} {n : Nat} {d : Dev} (h : d.kept z) : (Dev.faultPullEnd n d).kept z := by
  unfold Dev.faultPullEnd
  repeat' (first
    | with_reducible assumption
    | intro h
    | with_reducible apply Dev.kept_modLeg
    | with_reducible apply Dev.kept_evalGroups
    | with_reducible apply Dev.kept_glNext
    | with_reducible apply Dev.kept_ite
    | fail_if_no_progress with_reducible refine Dev.kept_mk ?_ rfl)

theorem Dev.kept_sequenceDone {z : Nat} {n : Nat} {eh el : Int} {d : Dev} (h : d.kept z) : (Dev.sequenceDone n eh el d).kept z := by
  unfold Dev.sequenceDone
  repeat' (first
    | with_reducible assumption
    | intro h
    | with_reducible apply Dev.kept_whenSome
    | with_reducible apply Dev.kept_padCheck
    | with_reducible apply Dev.kept_modLeg
    | with_reducible apply Dev.kept_setF
    | with_reducible apply Dev.kept_legRefresh
    | with_reducible apply Dev.kept_glNext
    | with_reducible apply Dev.kept_tryEnable
    | with_reducible apply Dev.kept_ite
    | split
    | dsimp only
    | fail_if_no_progress with_reducible refine Dev.kept_mk ?_ rfl)

theorem Dev.kept_contention {z : Nat} {n : Nat} {d : Dev} (h : d.kept z) : (Dev.contention n d).kept z := by
  unfold Dev.contention
  repeat' (first
    | with_reducible assumption
    | intro h
    | with_reducible apply Dev.kept_when
    | with_reducible apply Dev.kept_releaseToken
    | with_reducible apply Dev.kept_setF
    | with_reducible apply Dev.kept_evt
    | with_reducible apply Dev.kept_gafferAll
    | with_reducible apply Dev.kept_ite
    | fail_if_no_progress with_reducible refine Dev.kept_mk ?_ rfl)

theorem Dev.kept_glRequest {z : Nat} {triad n : Nat} {v : W} {d : Dev} (h : d.kept z) : (Dev.glRequest triad n v d).kept z := by
  unfold Dev.glRequest
  repeat' (first
    | with_reducible assumption
    | with_reducible apply Dev.kept_wr
    | with_reducible apply Dev.kept_lockedWrite
    | with_reducible apply Dev.kept_glReply
    | with_reducible apply Dev.kept_glNext
    | with_reducible apply Dev.kept_ite
    | split
    | dsimp only
    | fail_if_no_progress with_reducible refine Dev.kept_mk ?_ rfl)

end Sys2Proof.Machine
end

