-- ==== Sys2Proof/Laws/KeptCmp.lean ====
section
/-! SUPPORT. What every operation keeps. -/

namespace Sys2Proof.Machine

theorem Dev.kept_modCmp {z : Nat} {n : Nat} {g : Cmp → Cmp} {d : Dev} (h : d.kept z) : (Dev.modCmp n g d).kept z := by
  unfold Dev.modCmp
  repeat' (first
    | with_reducible assumption
    | fail_if_no_progress with_reducible refine Dev.kept_mk ?_ rfl)

theorem Dev.kept_setWindow {z : Nat} {n : Nat} {tripped : Bool} {d : Dev} (h : d.kept z) : (Dev.setWindow n tripped d).kept z := by
  unfold Dev.setWindow
  repeat' (first
    | with_reducible assumption
    | intro h
    | with_reducible apply Dev.kept_setF
    | with_reducible apply Dev.kept_putBit
    | with_reducible apply Dev.kept_modCmp
    | with_reducible apply Dev.kept_ite
    | fail_if_no_progress with_reducible refine Dev.kept_mk ?_ rfl)

theorem Dev.kept_startWindow {z : Nat} {n : Nat} {d : Dev} (h : d.kept z) : (Dev.startWindow n d).kept z := by
  unfold Dev.startWindow
  repeat' (first
    | with_reducible assumption
    | with_reducible apply Dev.kept_setWindow
    | with_reducible apply Dev.kept_ite)

theorem Dev.kept_rawSides {z : Nat} {n : Nat} {s : Bool × Bool} {d : Dev} (h : d.kept z) : (Dev.rawSides n s d).kept z := by
  unfold Dev.rawSides
  repeat' (first
    | with_reducible assumption
    | with_reducible apply Dev.kept_setF)

theorem Dev.kept_windowTrips {z : Nat} {n : Nat} {news : List (Bool × Bool)} {d : Dev} (h : d.kept z) : (Dev.windowTrips n news d).kept z := by
  unfold Dev.windowTrips
  repeat' (first
    | with_reducible assumption
    | with_reducible apply Dev.kept_setWindow
    | with_reducible apply Dev.kept_rawSides
    | with_reducible apply Dev.kept_setF
    | with_reducible apply Dev.kept_incSat
    | with_reducible apply Dev.kept_evtRated
    | with_reducible apply Dev.kept_evalGroups
    | with_reducible apply Dev.kept_ite
    | split
    | dsimp only)

theorem Dev.kept_windowNormal {z : Nat} {n : Nat} {news : List (Bool × Bool)} {d : Dev} (h : d.kept z) : (Dev.windowNormal n news d).kept z := by
  unfold Dev.windowNormal
  repeat' (first
    | with_reducible assumption
    | intro h
    | with_reducible apply Dev.kept_setWindow
    | with_reducible apply Dev.kept_rawSides
    | with_reducible apply Dev.kept_evalGroups
    | with_reducible apply Dev.kept_ite
    | split
    | dsimp only)

theorem Dev.kept_checkEnds {z : Nat} {n c : Nat} {failed : Bool} {record : Dev → Dev} {d : Dev}
    (hr : ∀ d, Dev.kept z d → (record d).kept z) (h : d.kept z) : (Dev.checkEnds n c failed record d).kept z := by
  unfold Dev.checkEnds
  dsimp only
  refine Dev.kept_ite (Dev.kept_when (fun d h => Dev.kept_gale h) (Dev.kept_gust (hr _ ?_))) ?_ <;>
    exact Dev.kept_setF (Dev.kept_modCmp h)

theorem Dev.kept_testTick {z : Nat} {n : Nat} {failed : Bool} {d : Dev} (h : d.kept z) : (Dev.testTick n failed d).kept z := by
  unfold Dev.testTick
  repeat' (first
    | with_reducible assumption
    | intro h
    | with_reducible apply Dev.kept_modCmp
    | with_reducible apply Dev.kept_checkEnds
    | with_reducible apply Dev.kept_setF
    | with_reducible apply Dev.kept_incSat
    | with_reducible apply Dev.kept_evt
    | with_reducible apply Dev.kept_reqWindow
    | with_reducible apply Dev.kept_ite
    | fail_if_no_progress with_reducible refine Dev.kept_mk ?_ rfl)

theorem Dev.kept_convUsed {z : Nat} {c input : Nat} {d : Dev} (h : d.kept z) : (Dev.convUsed c input d).kept z := by
  unfold Dev.convUsed
  repeat' (first
    | with_reducible assumption
    | with_reducible apply Dev.kept_ite
    | fail_if_no_progress with_reducible refine Dev.kept_mk ?_ rfl)

theorem Dev.kept_dacReadback {z : Nat} {n side : Nat} {err : Int} {d : Dev} (h : d.kept z) : (Dev.dacReadback n side err d).kept z := by
  unfold Dev.dacReadback
  repeat' (first
    | with_reducible assumption
    | intro h
    | with_reducible apply Dev.kept_convUsed
    | with_reducible apply Dev.kept_setF
    | with_reducible apply Dev.kept_modCmp
    | with_reducible apply Dev.kept_checkEnds
    | with_reducible apply Dev.kept_incSat
    | with_reducible apply Dev.kept_evt
    | with_reducible apply Dev.kept_reqWindow
    | with_reducible apply Dev.kept_ite
    | split
    | dsimp only
    | fail_if_no_progress with_reducible refine Dev.kept_mk ?_ rfl)

theorem Dev.kept_dacReread {z : Nat} {n : Nat} {err : Int} {d : Dev} (h : d.kept z) : (Dev.dacReread n err d).kept z := by
  unfold Dev.dacReread
  repeat' (first
    | with_reducible assumption
    | with_reducible apply Dev.kept_dacReadback
    | split
    | dsimp only)

theorem Dev.kept_degradedRead {z : Nat} {n code : Nat} {d : Dev} (h : d.kept z) : (Dev.degradedRead n code d).kept z := by
  unfold Dev.degradedRead
  repeat' (first
    | with_reducible assumption
    | intro h
    | with_reducible apply Dev.kept_forEach
    | with_reducible apply Dev.kept_modCmp
    | with_reducible apply Dev.kept_gafferSafe
    | with_reducible apply Dev.kept_ite
    | fail_if_no_progress with_reducible refine Dev.kept_mk ?_ rfl)

theorem Dev.kept_tripIn {z : Nat} {i : Nat} {level : Bool} {d : Dev} (h : d.kept z) : (Dev.tripIn i level d).kept z := by
  unfold Dev.tripIn
  repeat' (first
    | with_reducible assumption
    | with_reducible apply Dev.kept_putBit
    | with_reducible apply Dev.kept_evalGroups
    | with_reducible apply Dev.kept_ite)

theorem Dev.kept_swTrip {z : Nat} {triad : Nat} {v : W} {d : Dev} (h : d.kept z) : (Dev.swTrip triad v d).kept z := by
  unfold Dev.swTrip
  repeat' (first
    | with_reducible assumption
    | with_reducible apply Dev.kept_wr
    | with_reducible apply Dev.kept_lockedWrite
    | with_reducible apply Dev.kept_evalGroups
    | with_reducible apply Dev.kept_ite)

theorem Dev.kept_t0Release {z : Nat} {g : Nat} {d : Dev} (h : d.kept z) : (Dev.t0Release g d).kept z := by
  unfold Dev.t0Release
  repeat' (first
    | with_reducible assumption
    | intro h
    | with_reducible apply Dev.kept_whenSome
    | with_reducible apply Dev.kept_evt
    | with_reducible apply Dev.kept_releaseGroup
    | with_reducible apply Dev.kept_rerunPulled
    | with_reducible apply Dev.kept_ite
    | split
    | dsimp only)

theorem Dev.kept_relWrite {z : Nat} {triad : Nat} {v : W} {d : Dev} (h : d.kept z) : (Dev.relWrite triad v d).kept z := by
  unfold Dev.relWrite
  repeat' (first
    | with_reducible assumption
    | intro h
    | with_reducible apply Dev.kept_forEach
    | with_reducible apply Dev.kept_lockedWrite
    | with_reducible apply Dev.kept_t0Release
    | with_reducible apply Dev.kept_ite)

theorem Dev.kept_autoRelease {z : Nat} {g : Nat} {d : Dev} (h : d.kept z) : (Dev.autoRelease g d).kept z := by
  unfold Dev.autoRelease
  repeat' (first
    | with_reducible assumption
    | intro h
    | with_reducible apply Dev.kept_releaseGroup
    | with_reducible apply Dev.kept_modTrp
    | with_reducible apply Dev.kept_ite
    | split
    | dsimp only
    | fail_if_no_progress with_reducible refine Dev.kept_mk ?_ rfl)

end Sys2Proof.Machine
end

