-- ==== Sys2Proof/Laws/KeptQue.lean ====
section
/-! SUPPORT. What every operation keeps. -/

namespace Sys2Proof.Machine

theorem Dev.kept_modQue {z : Nat} {q : Nat} {g : Que → Que} {d : Dev} (h : d.kept z) : (Dev.modQue q g d).kept z := by
  unfold Dev.modQue
  repeat' (first
    | with_reducible assumption
    | fail_if_no_progress with_reducible refine Dev.kept_mk ?_ rfl)

theorem Dev.kept_putDesc {z : Nat} {q i : Nat} {x : Desc} {d : Dev} (h : d.kept z) : (Dev.putDesc q i x d).kept z := by
  unfold Dev.putDesc
  apply Dev.kept_unpoison
  exact Dev.kept_sram h (Mem.wf_putN _ _ _ _ h.1.2.1)

theorem Dev.kept_queLines {z : Nat} {q : Nat} {d : Dev} (h : d.kept z) : (Dev.queLines q d).kept z := by
  unfold Dev.queLines
  repeat' (first
    | with_reducible assumption
    | intro h
    | with_reducible apply Dev.kept_foldl
    | with_reducible apply Dev.kept_raiseLine
    | with_reducible apply Dev.kept_dropLine
    | with_reducible apply Dev.kept_ite)

theorem Dev.kept_setFill {z : Nat} {q n : Nat} {d : Dev} (h : d.kept z) : (Dev.setFill q n d).kept z := by
  unfold Dev.setFill
  repeat' (first
    | with_reducible assumption
    | with_reducible apply Dev.kept_setF
    | with_reducible apply Dev.kept_queLines)

theorem Dev.kept_nextSeq {z : Nat} {q : Nat} {d : Dev} (h : d.kept z) : (Dev.nextSeq q d).2.kept z := by
  unfold Dev.nextSeq
  repeat' (first
    | with_reducible assumption
    | with_reducible apply Dev.kept_wr64)

theorem Dev.kept_qEnded {z : Nat} {q : Nat} {kind : Nat} {seq : Nat} {next : JThen} {d : Dev} (h : d.kept z) : (Dev.qEnded q kind seq next d).kept z := by
  unfold Dev.qEnded
  repeat' (first
    | with_reducible assumption
    | with_reducible apply Dev.kept_jrnRequest
    | with_reducible apply Dev.kept_ite)

theorem Dev.kept_qAdvance {z : Nat} {q : Nat} {d : Dev} (h : d.kept z) : (Dev.qAdvance q d).kept z := by
  unfold Dev.qAdvance
  repeat' (first
    | with_reducible assumption
    | intro h
    | with_reducible apply Dev.kept_wr
    | with_reducible apply Dev.kept_setF
    | with_reducible apply Dev.kept_modQue
    | with_reducible apply Dev.kept_setFill
    | fail_if_no_progress with_reducible refine Dev.kept_mk ?_ rfl)

theorem Dev.kept_linkHead {z : Nat} {q : Nat} {d : Dev} (h : d.kept z) : (Dev.linkHead q d).kept z := by
  unfold Dev.linkHead
  repeat' (first
    | with_reducible assumption
    | with_reducible apply Dev.kept_setF
    | with_reducible apply Dev.kept_linkSend
    | with_reducible apply Dev.kept_ite)

theorem Dev.kept_settleHead {z : Nat} {q : Nat} {n : Nat} {d : Dev} (h : d.kept z) : (Dev.settleHead q n d).kept z := by
  induction n generalizing d with
  | zero => exact h
  | succ n ih =>
    unfold Dev.settleHead
    dsimp only
    split
    · exact h
    · split
      · exact ih (Dev.kept_qAdvance h)
      · split
        · exact ih (Dev.kept_qEnded (Dev.kept_qAdvance (Dev.kept_putDesc h)))
        · exact Dev.kept_linkHead h

theorem Dev.kept_qPush {z : Nat} {q : Nat} {x : Desc} {d : Dev} (h : d.kept z) : (Dev.qPush q x d).kept z := by
  unfold Dev.qPush
  repeat' (first
    | with_reducible assumption
    | with_reducible apply Dev.kept_wr
    | with_reducible apply Dev.kept_putDesc
    | with_reducible apply Dev.kept_setFill
    | with_reducible apply Dev.kept_settleHead)

theorem Dev.kept_qComplete {z : Nat} {q status : Nat} {late : Bool} {d : Dev} (h : d.kept z) : (Dev.qComplete q status late d).kept z := by
  unfold Dev.qComplete
  repeat' (first
    | with_reducible assumption
    | intro h
    | with_reducible apply Dev.kept_when
    | with_reducible apply Dev.kept_putDesc
    | with_reducible apply Dev.kept_qAdvance
    | with_reducible apply Dev.kept_inc32
    | with_reducible apply Dev.kept_qEnded
    | with_reducible apply Dev.kept_settleHead
    | with_reducible apply Dev.kept_ite
    | fail_if_no_progress with_reducible refine Dev.kept_mk ?_ rfl)

theorem Dev.kept_post {z : Nat} {poster q : Nat} {x : Desc} {d : Dev} (h : d.kept z) : (Dev.post poster q x d).2.2.kept z := by
  unfold Dev.post
  split
  · exact Dev.kept_evtRated (Dev.kept_setF h)
  · split
    · exact Dev.kept_incSat h
    · have h1 := Dev.kept_nextSeq (q := q) h
      generalize Dev.nextSeq q d = p at h1
      obtain ⟨s, d1⟩ := p
      dsimp only at h1 ⊢
      split
      · exact Dev.kept_jrnRequest (Dev.kept_modQue h1)
      · exact Dev.kept_qPush h1

theorem Dev.kept_sigPut {z : Nat} {a : Nat} {bs : List Byte} {d : Dev} (h : d.kept z) : (Dev.sigPut a bs d).kept z :=
  Dev.kept_sigt h (Mem.wf_putN _ _ _ _ h.1.2.2.2.1)

theorem Dev.kept_sigWrite {z : Nat} {i : Nat} {lo hi : Option W} {stamp : W} {writer : Nat} {d : Dev} (h : d.kept z) : (Dev.sigWrite i lo hi stamp writer d).kept z := by
  unfold Dev.sigWrite
  repeat' (first
    | with_reducible assumption
    | intro h
    | with_reducible apply Dev.kept_when
    | with_reducible apply Dev.kept_whenSome
    | with_reducible apply Dev.kept_sigPut
    | with_reducible apply Dev.kept_raiseWhere
    | fail_if_no_progress with_reducible refine Dev.kept_mk ?_ rfl)

theorem Dev.kept_applyMap {z : Nat} {m : Nat} {sm : SigMap} {x : Desc} {d : Dev} (h : d.kept z) : (Dev.applyMap m sm x d).kept z := by
  unfold Dev.applyMap
  repeat' (first
    | with_reducible assumption
    | intro h
    | with_reducible apply Dev.kept_foldl
    | with_reducible apply Dev.kept_sigWrite
    | with_reducible apply Dev.kept_incSat
    | with_reducible apply Dev.kept_addSat
    | with_reducible apply Dev.kept_setF
    | with_reducible apply Dev.kept_evtRated
    | with_reducible apply Dev.kept_ite)

theorem Dev.kept_applyMaps {z : Nat} {q : Nat} {x : Desc} {d : Dev} (h : d.kept z) : (Dev.applyMaps q x d).kept z := by
  unfold Dev.applyMaps
  repeat' (first
    | with_reducible assumption
    | intro h
    | with_reducible apply Dev.kept_foldl
    | with_reducible apply Dev.kept_applyMap
    | with_reducible apply Dev.kept_ite)

theorem Dev.kept_sigTake {z : Nat} {q : Nat} {x : Desc} {d : Dev} (h : d.kept z) : (Dev.sigTake q x d).kept z := by
  unfold Dev.sigTake
  repeat' (first
    | with_reducible assumption
    | with_reducible apply Dev.kept_qAdvance
    | with_reducible apply Dev.kept_qEnded)

theorem Dev.kept_stored {z : Nat} {q : Nat} {x : Desc} {d : Dev} (h : d.kept z) : (Dev.stored q x d).kept z := by
  unfold Dev.stored
  repeat' (first
    | with_reducible assumption
    | with_reducible apply Dev.kept_qPush
    | with_reducible apply Dev.kept_inc32
    | with_reducible apply Dev.kept_applyMaps
    | with_reducible apply Dev.kept_sigTake
    | with_reducible apply Dev.kept_ite)

theorem Dev.kept_storeFrame {z : Nat} {q port : Nat} {f : Frame} {stamp : W} {self : Bool} {d : Dev} (h : d.kept z) : (Dev.storeFrame q port f stamp self d).kept z := by
  unfold Dev.storeFrame
  repeat' (first
    | with_reducible assumption
    | intro h
    | with_reducible apply Dev.kept_when
    | with_reducible apply Dev.kept_incSat
    | with_reducible apply Dev.kept_setF
    | with_reducible apply Dev.kept_rated
    | with_reducible apply Dev.kept_nextSeq
    | with_reducible apply Dev.kept_ask
    | with_reducible apply Dev.kept_modQue
    | with_reducible apply Dev.kept_jrnRequest
    | with_reducible apply Dev.kept_store
    | with_reducible apply Dev.kept_stored
    | with_reducible apply Dev.kept_ite
    | split
    | dsimp only
    | fail_if_no_progress with_reducible refine Dev.kept_mk ?_ rfl)

end Sys2Proof.Machine
end

