-- ==== Sys2Proof/Laws/KeptCasc.lean ====
section
/-! SUPPORT. What every operation keeps. -/

namespace Sys2Proof.Machine

theorem Dev.kept_vcoreRestore {z : Nat} {d : Dev} (h : d.kept z) : (Dev.vcoreRestore d).kept z := by
  unfold Dev.vcoreRestore
  repeat' (first
    | with_reducible assumption
    | with_reducible apply Dev.kept_setF)

theorem Dev.kept_vcoreSlack {z : Nat} {left dl : Nat} {d : Dev} (h : d.kept z) : (Dev.vcoreSlack left dl d).kept z := by
  unfold Dev.vcoreSlack
  repeat' (first
    | with_reducible assumption
    | with_reducible apply Dev.kept_setF
    | with_reducible apply Dev.kept_ite
    | split
    | dsimp only
    | fail_if_no_progress with_reducible refine Dev.kept_mk ?_ rfl)

theorem Dev.kept_cenRated {z : Nat} {code i : Nat} {d : Dev} (h : d.kept z) : (Dev.cenRated code i d).kept z := by
  unfold Dev.cenRated
  repeat' (first
    | with_reducible assumption
    | with_reducible apply Dev.kept_evtRated)

theorem Dev.kept_overrun {z : Nat} {i : Nat} {flag : Bool} {d : Dev} (h : d.kept z) : (Dev.overrun i flag d).kept z := by
  unfold Dev.overrun
  repeat' (first
    | with_reducible assumption
    | intro h
    | with_reducible apply Dev.kept_when
    | with_reducible apply Dev.kept_incSat
    | with_reducible apply Dev.kept_setF
    | with_reducible apply Dev.kept_cenRated)

theorem Dev.kept_modPair {z : Nat} {p : Nat} {g : Pair → Pair} {d : Dev} (h : d.kept z) : (Dev.modPair p g d).kept z := by
  unfold Dev.modPair
  repeat' (first
    | with_reducible assumption
    | fail_if_no_progress with_reducible refine Dev.kept_mk ?_ rfl)

theorem Dev.kept_countMiss {z : Nat} {i : Nat} {d : Dev} (h : d.kept z) : (Dev.countMiss i d).kept z := by
  unfold Dev.countMiss
  repeat' (first
    | with_reducible assumption
    | intro h
    | with_reducible apply Dev.kept_whenSome
    | with_reducible apply Dev.kept_putBit
    | with_reducible apply Dev.kept_incSat
    | with_reducible apply Dev.kept_cenRated
    | with_reducible apply Dev.kept_vcoreRestore
    | fail_if_no_progress with_reducible refine Dev.kept_mk ?_ rfl)

theorem Dev.kept_missLimit {z : Nat} {i : Nat} {d : Dev} (h : d.kept z) : (Dev.missLimit i d).kept z := by
  unfold Dev.missLimit
  repeat' (first
    | with_reducible assumption
    | intro h
    | with_reducible apply Dev.kept_evt
    | with_reducible apply Dev.kept_gustPair
    | with_reducible apply Dev.kept_gafferSafe
    | with_reducible apply Dev.kept_ite
    | split
    | dsimp only)

theorem Dev.kept_cascTriggerWith {z : Nat} {miss : Nat → Dev → Dev} {i : Nat} {ref : Time} {d : Dev}
    (hm : ∀ n d, Dev.kept z d → (miss n d).kept z) (h : d.kept z) : (Dev.cascTriggerWith miss i ref d).kept z := by
  unfold Dev.cascTriggerWith
  dsimp only
  refine Dev.kept_ite h (Dev.kept_ite (Dev.kept_ite h (hm _ _ (Dev.kept_modPair h))) (Dev.kept_ite (Dev.kept_overrun h) (Dev.kept_ite (Dev.kept_overrun h) ?_)))
  exact Dev.kept_modCasc (Dev.kept_setPend h)

end Sys2Proof.Machine
end

