-- ==== Sys2Proof/Laws/KeptInverse.lean ====
section
/-! SUPPORT. What every operation keeps. -/

namespace Sys2Proof.Machine

theorem Dev.kept_axuNonfinite {z : Nat} {u f : Nat} {d : Dev} (h : d.kept z) : (Dev.axuNonfinite u f d).kept z := by
  unfold Dev.axuNonfinite
  repeat' (first
    | with_reducible assumption
    | with_reducible apply Dev.kept_setF
    | with_reducible apply Dev.kept_evt
    | with_reducible apply Dev.kept_gafferSafe)

theorem Dev.kept_axuLate {z : Nat} {u : Nat} {d : Dev} (h : d.kept z) : (Dev.axuLate u d).kept z := by
  unfold Dev.axuLate
  repeat' (first
    | with_reducible assumption
    | with_reducible apply Dev.kept_setF
    | with_reducible apply Dev.kept_incSat
    | with_reducible apply Dev.kept_evtRated)

theorem Dev.kept_inverse {z : Nat} {u f : Nat} {vd vq vx vy : W} {test : Bool} {d : Dev} (h : d.kept z) : (Dev.inverse u f vd vq vx vy test d).kept z := by
  unfold Dev.inverse
  repeat' (first
    | with_reducible assumption
    | intro h
    | with_reducible apply Dev.kept_wr
    | with_reducible apply Dev.kept_foldl
    | with_reducible apply Dev.kept_when
    | with_reducible apply Dev.kept_axuLate
    | with_reducible apply Dev.kept_axuNonfinite
    | with_reducible apply Dev.kept_commitLeg
    | with_reducible apply Dev.kept_setF
    | with_reducible apply Dev.kept_incSat
    | with_reducible apply Dev.kept_evtRated
    | with_reducible apply Dev.kept_modAxu
    | with_reducible apply Dev.kept_ite
    | fail_if_no_progress with_reducible refine Dev.kept_mk ?_ rfl)

theorem Dev.kept_axuHeld {z : Nat} {u f : Nat} {d : Dev} (h : d.kept z) : (Dev.axuHeld u f d).kept z := by
  unfold Dev.axuHeld
  repeat' (first
    | with_reducible assumption
    | with_reducible apply Dev.kept_setF
    | with_reducible apply Dev.kept_incSat
    | with_reducible apply Dev.kept_evtRated
    | with_reducible apply Dev.kept_inverse
    | with_reducible apply Dev.kept_ite)

theorem Dev.kept_cvuHeld {z : Nat} {u : Nat} {d : Dev} (h : d.kept z) : (Dev.cvuHeld u d).kept z := by
  unfold Dev.cvuHeld
  repeat' (first
    | with_reducible assumption
    | with_reducible apply Dev.kept_setF
    | with_reducible apply Dev.kept_incSat
    | with_reducible apply Dev.kept_evtRated)

theorem Dev.kept_unitHeld {z : Nat} {i : Nat} {d : Dev} (h : d.kept z) : (Dev.unitHeld i d).kept z := by
  unfold Dev.unitHeld
  repeat' (first
    | with_reducible assumption
    | intro h
    | with_reducible apply Dev.kept_when
    | with_reducible apply Dev.kept_whenSome
    | with_reducible apply Dev.kept_axuHeld
    | with_reducible apply Dev.kept_cvuHeld
    | split
    | dsimp only)

theorem Dev.kept_cascMiss {z : Nat} {i : Nat} {d : Dev} (h : d.kept z) : (Dev.cascMiss i d).kept z := by
  unfold Dev.cascMiss
  repeat' (first
    | with_reducible assumption
    | with_reducible apply Dev.kept_countMiss
    | with_reducible apply Dev.kept_unitHeld
    | with_reducible apply Dev.kept_missLimit)

theorem Dev.kept_cascTrigger {z : Nat} {i : Nat} {ref : Time} {d : Dev} (h : d.kept z) : (Dev.cascTrigger i ref d).kept z := by
  unfold Dev.cascTrigger
  repeat' (first
    | with_reducible assumption
    | with_reducible apply Dev.kept_cascTriggerWith
    | with_reducible apply Dev.kept_cascMiss)

theorem Dev.kept_deliverWords {z : Nat} {f : Nat} {ws : List W} {d : Dev} (h : d.kept z) : (Dev.deliverWords f ws d).kept z := by
  unfold Dev.deliverWords
  repeat' (first
    | with_reducible assumption
    | intro h
    | with_reducible apply Dev.kept_forEach
    | with_reducible apply Dev.kept_cascTrigger
    | fail_if_no_progress with_reducible refine Dev.kept_mk ?_ rfl)

end Sys2Proof.Machine
end

