-- ==== Sys2Proof/Laws/KeptAdc.lean ====
section
/-! SUPPORT. What every operation keeps. -/

namespace Sys2Proof.Machine

theorem Dev.kept_modConv {z : Nat} {n : Nat} {g : Conv → Conv} {d : Dev} (h : d.kept z) : (Dev.modConv n g d).kept z := by
  unfold Dev.modConv
  repeat' (first
    | with_reducible assumption
    | fail_if_no_progress with_reducible refine Dev.kept_mk ?_ rfl)

theorem Dev.kept_modSeq {z : Nat} {s : Nat} {g : SeqRun → SeqRun} {d : Dev} (h : d.kept z) : (Dev.modSeq s g d).kept z := by
  unfold Dev.modSeq
  repeat' (first
    | with_reducible assumption
    | fail_if_no_progress with_reducible refine Dev.kept_mk ?_ rfl)

theorem Dev.kept_modSlot {z : Nat} {k : Nat} {g : AdcSlot → AdcSlot} {d : Dev} (h : d.kept z) : (Dev.modSlot k g d).kept z := by
  unfold Dev.modSlot
  repeat' (first
    | with_reducible assumption
    | fail_if_no_progress with_reducible refine Dev.kept_mk ?_ rfl)

theorem Dev.kept_awaitGroup {z : Nat} {s g : Nat} {due : Time} {d : Dev} (h : d.kept z) : (Dev.awaitGroup s g due d).kept z := by
  unfold Dev.awaitGroup
  repeat' (first
    | with_reducible assumption
    | intro h
    | with_reducible apply Dev.kept_modSeq
    | with_reducible apply Dev.kept_setF
    | fail_if_no_progress with_reducible refine Dev.kept_mk ?_ rfl)

theorem Dev.kept_seqStart {z : Nat} {s : Nat} {sched : Bool} {due : Time} {d : Dev} (h : d.kept z) : (Dev.seqStart s sched due d).kept z := by
  unfold Dev.seqStart
  repeat' (first
    | with_reducible assumption
    | intro h
    | with_reducible apply Dev.kept_setF
    | with_reducible apply Dev.kept_modSeq
    | with_reducible apply Dev.kept_awaitGroup
    | fail_if_no_progress with_reducible refine Dev.kept_mk ?_ rfl)

theorem Dev.kept_seqOverrun {z : Nat} {s : Nat} {d : Dev} (h : d.kept z) : (Dev.seqOverrun s d).kept z := by
  unfold Dev.seqOverrun
  repeat' (first
    | with_reducible assumption
    | with_reducible apply Dev.kept_incSat
    | with_reducible apply Dev.kept_setF
    | with_reducible apply Dev.kept_evtRated)

theorem Dev.kept_seqRestart {z : Nat} {s : Nat} {d : Dev} (h : d.kept z) : (Dev.seqRestart s d).kept z := by
  unfold Dev.seqRestart
  repeat' (first
    | with_reducible assumption
    | intro h
    | with_reducible apply Dev.kept_modSeq
    | with_reducible apply Dev.kept_awaitGroup
    | fail_if_no_progress with_reducible refine Dev.kept_mk ?_ rfl)

theorem Dev.kept_seqTrigger {z : Nat} {s : Nat} {sched : Bool} {d : Dev} (h : d.kept z) : (Dev.seqTrigger s sched d).kept z := by
  unfold Dev.seqTrigger
  repeat' (first
    | with_reducible assumption
    | intro h
    | with_reducible apply Dev.kept_seqStart
    | with_reducible apply Dev.kept_modSeq
    | with_reducible apply Dev.kept_seqOverrun
    | with_reducible apply Dev.kept_setF
    | with_reducible apply Dev.kept_seqRestart
    | with_reducible apply Dev.kept_ite
    | split
    | dsimp only
    | fail_if_no_progress with_reducible refine Dev.kept_mk ?_ rfl)

theorem Dev.kept_seqGo {z : Nat} {v : W} {d : Dev} (h : d.kept z) : (Dev.seqGo v d).kept z := by
  unfold Dev.seqGo
  repeat' (first
    | with_reducible assumption
    | intro h
    | with_reducible apply Dev.kept_forEach
    | with_reducible apply Dev.kept_seqTrigger)

theorem Dev.kept_wakeFor {z : Nat} {n : Nat} {d : Dev} (h : d.kept z) : (Dev.wakeFor n d).kept z := by
  unfold Dev.wakeFor
  repeat' (first
    | with_reducible assumption
    | intro h
    | with_reducible apply Dev.kept_modConv
    | with_reducible apply Dev.kept_ite
    | fail_if_no_progress with_reducible refine Dev.kept_mk ?_ rfl)

theorem Dev.kept_groupStart {z : Nat} {s : Nat} {d : Dev} (h : d.kept z) : (Dev.groupStart s d).kept z := by
  unfold Dev.groupStart
  repeat' (first
    | with_reducible assumption
    | intro h
    | with_reducible apply Dev.kept_forEach
    | with_reducible apply Dev.kept_modSlot
    | with_reducible apply Dev.kept_wakeFor
    | with_reducible apply Dev.kept_modSeq
    | with_reducible apply Dev.kept_ite
    | fail_if_no_progress with_reducible refine Dev.kept_mk ?_ rfl)

theorem Dev.kept_resultWord {z : Nat} {d : Dev} {k input gain ref acq : Nat} {diff urg late : Bool} {nv : Int} {high : Bool}
    (h : d.kept z) : (Dev.resultWord d k input gain ref acq diff urg late nv high).2.kept z := by
  unfold Dev.resultWord
  dsimp only
  split
  · exact Dev.kept_setF h
  · exact Dev.kept_modConv h

theorem Dev.kept_deliverResult {z : Nat} {dkind idx skind src step : Nat} {word : W} {stamp : Time} {d : Dev} (h : d.kept z) : (Dev.deliverResult dkind idx skind src step word stamp d).kept z := by
  unfold Dev.deliverResult
  repeat' (first
    | with_reducible assumption
    | intro h
    | with_reducible apply Dev.kept_foldl
    | with_reducible apply Dev.kept_modAxu
    | with_reducible apply Dev.kept_modCvu
    | with_reducible apply Dev.kept_ite
    | fail_if_no_progress with_reducible refine Dev.kept_mk ?_ rfl)

theorem Dev.kept_engineRun {z : Nat} {s : Nat} {d : Dev} (h : d.kept z) : (Dev.engineRun s d).kept z := by
  unfold Dev.engineRun
  repeat' (first
    | with_reducible assumption
    | intro h
    | with_reducible apply Dev.kept_forEach
    | with_reducible apply Dev.kept_cascMiss
    | with_reducible apply Dev.kept_modSeq
    | with_reducible apply Dev.kept_deliverWords
    | with_reducible apply Dev.kept_ite
    | split
    | dsimp only
    | fail_if_no_progress with_reducible refine Dev.kept_mk ?_ rfl)

theorem Dev.kept_forwardStep {z : Nat} {s i : Nat} {word : W} {d : Dev} (h : d.kept z) : (Dev.forwardStep s i word d).kept z := by
  unfold Dev.forwardStep
  repeat' (first
    | with_reducible assumption
    | intro h
    | with_reducible apply Dev.kept_engineRun
    | with_reducible apply Dev.kept_deliverResult
    | with_reducible apply Dev.kept_ite)

theorem Dev.kept_groupEnd {z : Nat} {s : Nat} {d : Dev} (h : d.kept z) : (Dev.groupEnd s d).kept z := by
  unfold Dev.groupEnd
  repeat' (first
    | with_reducible assumption
    | intro h
    | with_reducible apply Dev.kept_restart
    | with_reducible apply Dev.kept_seqRestart
    | with_reducible apply Dev.kept_awaitGroup
    | with_reducible apply Dev.kept_setF
    | with_reducible apply Dev.kept_modSeq
    | with_reducible apply Dev.kept_seqStart
    | with_reducible apply Dev.kept_seqTrigger
    | with_reducible apply Dev.kept_ite
    | fail_if_no_progress with_reducible refine Dev.kept_mk ?_ rfl)

theorem Dev.kept_stepDone {z : Nat} {k s i : Nat} {nv : Int} {high : Bool} {d : Dev} (h : d.kept z) : (Dev.stepDone k s i nv high d).kept z := by
  unfold Dev.stepDone
  repeat' (first
    | with_reducible assumption
    | intro h
    | with_reducible apply Dev.kept_wr
    | with_reducible apply Dev.kept_when
    | with_reducible apply Dev.kept_resultWord
    | with_reducible apply Dev.kept_wr64
    | with_reducible apply Dev.kept_modSlot
    | with_reducible apply Dev.kept_modSeq
    | with_reducible apply Dev.kept_restart
    | with_reducible apply Dev.kept_forwardStep
    | with_reducible apply Dev.kept_groupEnd
    | with_reducible apply Dev.kept_ite
    | fail_if_no_progress with_reducible refine Dev.kept_mk ?_ rfl)

theorem Dev.kept_urgRefused {z : Nat} {k cause : Nat} {d : Dev} (h : d.kept z) : (Dev.urgRefused k cause d).kept z := by
  unfold Dev.urgRefused
  repeat' (first
    | with_reducible assumption
    | with_reducible apply Dev.kept_setF
    | with_reducible apply Dev.kept_evt)

theorem Dev.kept_urgWrite {z : Nat} {triad k : Nat} {v : W} {d : Dev} (h : d.kept z) : (Dev.urgWrite triad k v d).kept z := by
  unfold Dev.urgWrite
  repeat' (first
    | with_reducible assumption
    | intro h
    | with_reducible apply Dev.kept_urgRefused
    | with_reducible apply Dev.kept_wrOwn
    | with_reducible apply Dev.kept_modSlot
    | with_reducible apply Dev.kept_ite
    | fail_if_no_progress with_reducible refine Dev.kept_mk ?_ rfl)

theorem Dev.kept_urgStart {z : Nat} {k : Nat} {d : Dev} (h : d.kept z) : (Dev.urgStart k d).kept z := by
  unfold Dev.urgStart
  repeat' (first
    | with_reducible assumption
    | intro h
    | with_reducible apply Dev.kept_modSlot
    | with_reducible apply Dev.kept_wakeFor
    | with_reducible apply Dev.kept_ite
    | split
    | dsimp only
    | fail_if_no_progress with_reducible refine Dev.kept_mk ?_ rfl)

theorem Dev.kept_urgDone {z : Nat} {k t : Nat} {nv : Int} {high : Bool} {d : Dev} (h : d.kept z) : (Dev.urgDone k t nv high d).kept z := by
  unfold Dev.urgDone
  repeat' (first
    | with_reducible assumption
    | intro h
    | with_reducible apply Dev.kept_resultWord
    | with_reducible apply Dev.kept_modSlot
    | with_reducible apply Dev.kept_wrOwn
    | fail_if_no_progress with_reducible refine Dev.kept_mk ?_ rfl)

theorem Dev.kept_convDone {z : Nat} {k : Nat} {nv : Int} {high : Bool} {d : Dev} (h : d.kept z) : (Dev.convDone k nv high d).kept z := by
  unfold Dev.convDone
  repeat' (first
    | with_reducible assumption
    | with_reducible apply Dev.kept_urgDone
    | with_reducible apply Dev.kept_stepDone
    | split
    | dsimp only)

theorem Dev.kept_calResult {z : Nat} {n : Nat} {ofs : Int} {gain : Nat} {inl : Int} {d : Dev} (h : d.kept z) : (Dev.calResult n ofs gain inl d).kept z := by
  unfold Dev.calResult
  repeat' (first
    | with_reducible assumption
    | intro h
    | with_reducible apply Dev.kept_wr
    | with_reducible apply Dev.kept_when
    | with_reducible apply Dev.kept_modConv
    | with_reducible apply Dev.kept_setF
    | with_reducible apply Dev.kept_reqServed
    | with_reducible apply Dev.kept_evt
    | with_reducible apply Dev.kept_gust
    | with_reducible apply Dev.kept_gale
    | with_reducible apply Dev.kept_ite
    | fail_if_no_progress with_reducible refine Dev.kept_mk ?_ rfl)

theorem Dev.kept_spareCalDone {z : Nat} {ofs : Int} {gain : Nat} {inl : Int} {d : Dev} (h : d.kept z) : (Dev.spareCalDone ofs gain inl d).kept z := by
  unfold Dev.spareCalDone
  repeat' (first
    | with_reducible assumption
    | intro h
    | with_reducible apply Dev.kept_whenSome
    | with_reducible apply Dev.kept_calResult
    | with_reducible apply Dev.kept_setF
    | with_reducible apply Dev.kept_modSlot
    | with_reducible apply Dev.kept_ite
    | fail_if_no_progress with_reducible refine Dev.kept_mk ?_ rfl)

theorem Dev.kept_swapCheck {z : Nat} {k : Nat} {out inc : Int} {d : Dev} (h : d.kept z) : (Dev.swapCheck k out inc d).kept z := by
  unfold Dev.swapCheck
  repeat' (first
    | with_reducible assumption
    | intro h
    | with_reducible apply Dev.kept_modConv
    | with_reducible apply Dev.kept_modSlot
    | with_reducible apply Dev.kept_setF
    | with_reducible apply Dev.kept_evt
    | with_reducible apply Dev.kept_gust
    | with_reducible apply Dev.kept_ite
    | fail_if_no_progress with_reducible refine Dev.kept_mk ?_ rfl)

theorem Dev.kept_swapDeferred {z : Nat} {k : Nat} {d : Dev} (h : d.kept z) : (Dev.swapDeferred k d).kept z := by
  unfold Dev.swapDeferred
  repeat' (first
    | with_reducible assumption
    | with_reducible apply Dev.kept_setF
    | with_reducible apply Dev.kept_evtRated
    | with_reducible apply Dev.kept_ite
    | split
    | dsimp only
    | fail_if_no_progress with_reducible refine Dev.kept_mk ?_ rfl)

theorem Dev.kept_calAgedConv {z : Nat} {n : Nat} {d : Dev} (h : d.kept z) : (Dev.calAgedConv n d).kept z := by
  unfold Dev.calAgedConv
  repeat' (first
    | with_reducible assumption
    | with_reducible apply Dev.kept_setF
    | with_reducible apply Dev.kept_ite)

theorem Dev.kept_powerDown {z : Nat} {n : Nat} {d : Dev} (h : d.kept z) : (Dev.powerDown n d).kept z := by
  unfold Dev.powerDown
  repeat' (first
    | with_reducible assumption
    | intro h
    | with_reducible apply Dev.kept_modConv
    | with_reducible apply Dev.kept_ite
    | fail_if_no_progress with_reducible refine Dev.kept_mk ?_ rfl)

theorem Dev.kept_modDsm {z : Nat} {n : Nat} {g : Dsm → Dsm} {d : Dev} (h : d.kept z) : (Dev.modDsm n g d).kept z := by
  unfold Dev.modDsm
  repeat' (first
    | with_reducible assumption
    | fail_if_no_progress with_reducible refine Dev.kept_mk ?_ rfl)

theorem Dev.kept_dsmWindow {z : Nat} {n : Nat} {d : Dev} (h : d.kept z) : (Dev.dsmWindow n d).kept z := by
  unfold Dev.dsmWindow
  repeat' (first
    | with_reducible assumption
    | intro h
    | with_reducible apply Dev.kept_incSat
    | with_reducible apply Dev.kept_setF
    | with_reducible apply Dev.kept_evtRated
    | with_reducible apply Dev.kept_modDsm
    | with_reducible apply Dev.kept_ite
    | fail_if_no_progress with_reducible refine Dev.kept_mk ?_ rfl)

theorem Dev.kept_dsmOutput {z : Nat} {n : Nat} {y : Int} {stamp : Time} {d : Dev} (h : d.kept z) : (Dev.dsmOutput n y stamp d).kept z := by
  unfold Dev.dsmOutput
  repeat' (first
    | with_reducible assumption
    | with_reducible apply Dev.kept_wr
    | with_reducible apply Dev.kept_wr64
    | with_reducible apply Dev.kept_setF
    | with_reducible apply Dev.kept_deliverResult)

theorem Dev.kept_windowResult {z : Nat} {n : Nat} {y : Int} {d : Dev} (h : d.kept z) : (Dev.windowResult n y d).kept z := by
  unfold Dev.windowResult
  repeat' (first
    | with_reducible assumption
    | with_reducible apply Dev.kept_setF
    | with_reducible apply Dev.kept_dsmOutput
    | with_reducible apply Dev.kept_ite)

theorem Dev.kept_contOutput {z : Nat} {n : Nat} {y : Int} {d : Dev} (h : d.kept z) : (Dev.contOutput n y d).kept z := by
  unfold Dev.contOutput
  repeat' (first
    | with_reducible assumption
    | with_reducible apply Dev.kept_dsmOutput
    | with_reducible apply Dev.kept_ite)

theorem Dev.kept_fastOutput {z : Nat} {n : Nat} {y : Int} {d : Dev} (h : d.kept z) : (Dev.fastOutput n y d).kept z := by
  unfold Dev.fastOutput
  repeat' (first
    | with_reducible assumption
    | intro h
    | with_reducible apply Dev.kept_modDsm
    | with_reducible apply Dev.kept_setF
    | with_reducible apply Dev.kept_evtRated
    | with_reducible apply Dev.kept_evalGroups
    | with_reducible apply Dev.kept_ite
    | fail_if_no_progress with_reducible refine Dev.kept_mk ?_ rfl)

theorem Dev.kept_dsmStuck {z : Nat} {n : Nat} {stuck : Bool} {d : Dev} (h : d.kept z) : (Dev.dsmStuck n stuck d).kept z := by
  unfold Dev.dsmStuck
  repeat' (first
    | with_reducible assumption
    | with_reducible apply Dev.kept_setF
    | with_reducible apply Dev.kept_evt
    | with_reducible apply Dev.kept_gust
    | with_reducible apply Dev.kept_ite)

theorem Dev.kept_dsmEnable {z : Nat} {n : Nat} {d : Dev} (h : d.kept z) : (Dev.dsmEnable n d).kept z := by
  unfold Dev.dsmEnable
  repeat' (first
    | with_reducible assumption
    | intro h
    | with_reducible apply Dev.kept_dsmRestart
    | with_reducible apply Dev.kept_setF
    | with_reducible apply Dev.kept_modDsm
    | with_reducible apply Dev.kept_ite
    | fail_if_no_progress with_reducible refine Dev.kept_mk ?_ rfl)

end Sys2Proof.Machine
end

