-- ==== Sys2Proof/Laws/KeptCen.lean ====
section
/-! SUPPORT. What every operation keeps. -/

namespace Sys2Proof.Machine

theorem Dev.kept_pairRestart {z : Nat} {p : Nat} {d : Dev} (h : d.kept z) : (Dev.pairRestart p d).kept z := by
  unfold Dev.pairRestart
  repeat' (first
    | with_reducible assumption
    | intro h
    | with_reducible apply Dev.kept_forEach
    | with_reducible apply Dev.kept_setF
    | with_reducible apply Dev.kept_modPair
    | with_reducible apply Dev.kept_setPend
    | with_reducible apply Dev.kept_setRun
    | with_reducible apply Dev.kept_modCasc
    | with_reducible apply Dev.kept_cascMiss
    | fail_if_no_progress with_reducible refine Dev.kept_mk ?_ rfl)

theorem Dev.kept_startCascade {z : Nat} {i : Nat} {d : Dev} (h : d.kept z) : (Dev.startCascade i d).kept z := by
  unfold Dev.startCascade
  repeat' (first
    | with_reducible assumption
    | intro h
    | with_reducible apply Dev.kept_setPend
    | with_reducible apply Dev.kept_setRun
    | with_reducible apply Dev.kept_modCasc
    | fail_if_no_progress with_reducible refine Dev.kept_mk ?_ rfl)

theorem Dev.kept_runCascade {z : Nat} {i : Nat} {d : Dev} (h : d.kept z) : (Dev.runCascade i d).kept z := by
  unfold Dev.runCascade
  repeat' (first
    | with_reducible assumption
    | intro h
    | with_reducible apply Dev.kept_when
    | with_reducible apply Dev.kept_modCasc
    | with_reducible apply Dev.kept_setF
    | with_reducible apply Dev.kept_cenRated
    | with_reducible apply Dev.kept_ite
    | fail_if_no_progress with_reducible refine Dev.kept_mk ?_ rfl)

theorem Dev.kept_activate {z : Nat} {i : Nat} {differ : Bool} {d : Dev} (h : d.kept z) : (Dev.activate i differ d).kept z := by
  unfold Dev.activate
  repeat' (first
    | with_reducible assumption
    | with_reducible apply Dev.kept_startCascade
    | with_reducible apply Dev.kept_pairRestart
    | with_reducible apply Dev.kept_runCascade
    | with_reducible apply Dev.kept_ite)

theorem Dev.kept_deliverOut {z : Nat} {f i o : Nat} {d : Dev} (h : d.kept z) : (Dev.deliverOut f i o d).kept z := by
  unfold Dev.deliverOut
  repeat' (first
    | with_reducible assumption
    | intro h
    | with_reducible apply Dev.kept_wr
    | with_reducible apply Dev.kept_whenSome
    | with_reducible apply Dev.kept_modAxu
    | with_reducible apply Dev.kept_modCvu
    | with_reducible apply Dev.kept_commitLeg
    | with_reducible apply Dev.kept_sigWrite
    | split
    | dsimp only
    | fail_if_no_progress with_reducible refine Dev.kept_mk ?_ rfl)

theorem Dev.kept_startInverse {z : Nat} {f i : Nat} {d : Dev} (h : d.kept z) : (Dev.startInverse f i d).kept z := by
  unfold Dev.startInverse
  repeat' (first
    | with_reducible assumption
    | intro h
    | with_reducible apply Dev.kept_whenSome
    | with_reducible apply Dev.kept_modAxu
    | with_reducible apply Dev.kept_modCvu
    | with_reducible apply Dev.kept_ite
    | fail_if_no_progress with_reducible refine Dev.kept_mk ?_ rfl)

theorem Dev.kept_takeBank {z : Nat} {i : Nat} {d : Dev} (h : d.kept z) : (Dev.takeBank i d).kept z := by
  unfold Dev.takeBank
  repeat' (first
    | with_reducible assumption
    | intro h
    | with_reducible apply Dev.kept_modCasc
    | with_reducible apply Dev.kept_setF
    | fail_if_no_progress with_reducible refine Dev.kept_mk ?_ rfl)

theorem Dev.kept_deliverCascade {z : Nat} {i f : Nat} {d : Dev} (h : d.kept z) : (Dev.deliverCascade i f d).kept z := by
  unfold Dev.deliverCascade
  repeat' (first
    | with_reducible assumption
    | intro h
    | with_reducible apply Dev.kept_wr
    | with_reducible apply Dev.kept_forEach
    | with_reducible apply Dev.kept_setRun
    | with_reducible apply Dev.kept_deliverOut
    | with_reducible apply Dev.kept_startInverse
    | with_reducible apply Dev.kept_wr64
    | with_reducible apply Dev.kept_inc32
    | with_reducible apply Dev.kept_setF
    | with_reducible apply Dev.kept_vcoreSlack)

theorem Dev.kept_chainCascades {z : Nat} {i : Nat} {d : Dev} (h : d.kept z) : (Dev.chainCascades i d).kept z := by
  unfold Dev.chainCascades
  repeat' (first
    | with_reducible assumption
    | intro h
    | with_reducible apply Dev.kept_forEach
    | with_reducible apply Dev.kept_cascTrigger)

theorem Dev.kept_agree {z : Nat} {i : Nat} {sigDiffer : Bool} {d : Dev} (h : d.kept z) : (Dev.agree i sigDiffer d).kept z := by
  unfold Dev.agree
  repeat' (first
    | with_reducible assumption
    | intro h
    | with_reducible apply Dev.kept_deliverCascade
    | with_reducible apply Dev.kept_modPair
    | with_reducible apply Dev.kept_takeBank
    | with_reducible apply Dev.kept_chainCascades
    | with_reducible apply Dev.kept_ite
    | split
    | dsimp only
    | fail_if_no_progress with_reducible refine Dev.kept_mk ?_ rfl)

theorem Dev.kept_reexecuted {z : Nat} {p : Nat} {same : Bool} {d : Dev} (h : d.kept z) : (Dev.reexecuted p same d).kept z := by
  unfold Dev.reexecuted
  repeat' (first
    | with_reducible assumption
    | intro h
    | with_reducible apply Dev.kept_modPair
    | with_reducible apply Dev.kept_takeBank
    | with_reducible apply Dev.kept_setF
    | with_reducible apply Dev.kept_incSat
    | with_reducible apply Dev.kept_evt
    | with_reducible apply Dev.kept_gustPair
    | with_reducible apply Dev.kept_pairRestart
    | with_reducible apply Dev.kept_ite
    | split
    | dsimp only
    | fail_if_no_progress with_reducible refine Dev.kept_mk ?_ rfl)

theorem Dev.kept_restartDone {z : Nat} {p : Nat} {known : Bool} {d : Dev} (h : d.kept z) : (Dev.restartDone p known d).kept z := by
  unfold Dev.restartDone
  repeat' (first
    | with_reducible assumption
    | intro h
    | with_reducible apply Dev.kept_when
    | with_reducible apply Dev.kept_setF
    | with_reducible apply Dev.kept_modPair
    | with_reducible apply Dev.kept_incSat
    | with_reducible apply Dev.kept_evt
    | with_reducible apply Dev.kept_gustPair
    | with_reducible apply Dev.kept_gale
    | with_reducible apply Dev.kept_ite
    | fail_if_no_progress with_reducible refine Dev.kept_mk ?_ rfl)

theorem Dev.kept_deadlineMiss {z : Nat} {i : Nat} {d : Dev} (h : d.kept z) : (Dev.deadlineMiss i d).kept z := by
  unfold Dev.deadlineMiss
  repeat' (first
    | with_reducible assumption
    | with_reducible apply Dev.kept_setPend
    | with_reducible apply Dev.kept_setRun
    | with_reducible apply Dev.kept_cascMiss
    | with_reducible apply Dev.kept_ite)

theorem Dev.kept_cenGo {z : Nat} {p : Nat} {v : W} {d : Dev} (h : d.kept z) : (Dev.cenGo p v d).kept z := by
  unfold Dev.cenGo
  repeat' (first
    | with_reducible assumption
    | intro h
    | with_reducible apply Dev.kept_forEach
    | with_reducible apply Dev.kept_cascTrigger
    | with_reducible apply Dev.kept_ite)

theorem Dev.kept_copyTested {z : Nat} {p c : Nat} {failed : Bool} {d : Dev} (h : d.kept z) : (Dev.copyTested p c failed d).kept z := by
  unfold Dev.copyTested
  repeat' (first
    | with_reducible assumption
    | intro h
    | with_reducible apply Dev.kept_when
    | with_reducible apply Dev.kept_modPair
    | with_reducible apply Dev.kept_gust
    | with_reducible apply Dev.kept_gale
    | with_reducible apply Dev.kept_ite
    | fail_if_no_progress with_reducible refine Dev.kept_mk ?_ rfl)

theorem Dev.kept_engineTest {z : Nat} {p : Nat} {fail0 fail1 : Bool} {d : Dev} (h : d.kept z) : (Dev.engineTest p fail0 fail1 d).kept z := by
  unfold Dev.engineTest
  repeat' (first
    | with_reducible assumption
    | intro h
    | with_reducible apply Dev.kept_when
    | with_reducible apply Dev.kept_setF
    | with_reducible apply Dev.kept_addSat
    | with_reducible apply Dev.kept_evt
    | with_reducible apply Dev.kept_copyTested
    | with_reducible apply Dev.kept_reqServed
    | with_reducible apply Dev.kept_ite)

theorem Dev.kept_engineTestDeferred {z : Nat} {p : Nat} {d : Dev} (h : d.kept z) : (Dev.engineTestDeferred p d).kept z := by
  unfold Dev.engineTestDeferred
  repeat' (first
    | with_reducible assumption
    | with_reducible apply Dev.kept_setF
    | with_reducible apply Dev.kept_incSat
    | with_reducible apply Dev.kept_evt
    | with_reducible apply Dev.kept_ite
    | fail_if_no_progress with_reducible refine Dev.kept_mk ?_ rfl)

end Sys2Proof.Machine
end

