-- ==== Sys2Proof/Laws/KeptAxu.lean ====
section
/-! SUPPORT. What every operation keeps. -/

namespace Sys2Proof.Machine

theorem Dev.kept_feedbackLost {z : Nat} {f code : Nat} {srcs : List (Nat × Nat)} {data : List Nat} {d : Dev} (h : d.kept z) : (Dev.feedbackLost f code srcs data d).kept z := by
  unfold Dev.feedbackLost
  repeat' (first
    | with_reducible assumption
    | intro h
    | with_reducible apply Dev.kept_forEach
    | with_reducible apply Dev.kept_evt
    | with_reducible apply Dev.kept_gafferSafe
    | with_reducible apply Dev.kept_gale
    | with_reducible apply Dev.kept_ite)

theorem Dev.kept_substituted {z : Nat} {u f : Nat} {d : Dev} (h : d.kept z) : (Dev.substituted u f d).kept z := by
  unfold Dev.substituted
  repeat' (first
    | with_reducible assumption
    | with_reducible apply Dev.kept_setF
    | with_reducible apply Dev.kept_incSat
    | with_reducible apply Dev.kept_evtRated
    | with_reducible apply Dev.kept_feedbackLost
    | with_reducible apply Dev.kept_ite)

theorem Dev.kept_zeroSum {z : Nat} {u f : Nat} {d : Dev} (h : d.kept z) : (Dev.zeroSum u f d).kept z := by
  unfold Dev.zeroSum
  repeat' (first
    | with_reducible assumption
    | intro h
    | with_reducible apply Dev.kept_modAxu
    | with_reducible apply Dev.kept_setF
    | with_reducible apply Dev.kept_evt
    | with_reducible apply Dev.kept_gafferSafe
    | with_reducible apply Dev.kept_ite
    | fail_if_no_progress with_reducible refine Dev.kept_mk ?_ rfl)

theorem Dev.kept_carrierStep {z : Nat} {u per : Nat} {id iq vd vq : W} {d : Dev} (h : d.kept z) : (Dev.carrierStep u per id iq vd vq d).kept z := by
  unfold Dev.carrierStep
  repeat' (first
    | with_reducible assumption
    | intro h
    | with_reducible apply Dev.kept_wr
    | with_reducible apply Dev.kept_modAxu
    | with_reducible apply Dev.kept_ite
    | fail_if_no_progress with_reducible refine Dev.kept_mk ?_ rfl)

theorem Dev.kept_observe {z : Nat} {u per : Nat} {id iq vd vq : W} {d : Dev} (h : d.kept z) : (Dev.observe u per id iq vd vq d).kept z := by
  unfold Dev.observe
  repeat' (first
    | with_reducible assumption
    | intro h
    | with_reducible apply Dev.kept_wr
    | with_reducible apply Dev.kept_modAxu
    | fail_if_no_progress with_reducible refine Dev.kept_mk ?_ rfl)

theorem Dev.kept_ramp {z : Nat} {u ticks : Nat} {d : Dev} (h : d.kept z) : (Dev.ramp u ticks d).kept z := by
  unfold Dev.ramp
  repeat' (first
    | with_reducible assumption
    | intro h
    | with_reducible apply Dev.kept_wr
    | with_reducible apply Dev.kept_when
    | with_reducible apply Dev.kept_setF
    | with_reducible apply Dev.kept_evtRated
    | with_reducible apply Dev.kept_modAxu
    | with_reducible apply Dev.kept_ite
    | fail_if_no_progress with_reducible refine Dev.kept_mk ?_ rfl)

theorem Dev.kept_rampFollow {z : Nat} {u : Nat} {d : Dev} (h : d.kept z) : (Dev.rampFollow u d).kept z := by
  unfold Dev.rampFollow
  repeat' (first
    | with_reducible assumption
    | with_reducible apply Dev.kept_wr)

theorem Dev.kept_axuAux {z : Nat} {u ticks : Nat} {d : Dev} (h : d.kept z) : (Dev.axuAux u ticks d).kept z := by
  unfold Dev.axuAux
  repeat' (first
    | with_reducible assumption
    | intro h
    | with_reducible apply Dev.kept_when
    | with_reducible apply Dev.kept_modAxu
    | with_reducible apply Dev.kept_ramp
    | with_reducible apply Dev.kept_ite
    | fail_if_no_progress with_reducible refine Dev.kept_mk ?_ rfl)

theorem Dev.kept_posFault {z : Nat} {u f : Nat} {d : Dev} (h : d.kept z) : (Dev.posFault u f d).kept z := by
  unfold Dev.posFault
  repeat' (first
    | with_reducible assumption
    | with_reducible apply Dev.kept_setPhase
    | with_reducible apply Dev.kept_setF
    | with_reducible apply Dev.kept_evt
    | with_reducible apply Dev.kept_safeCommand)

theorem Dev.kept_attemptFails {z : Nat} {u f : Nat} {d : Dev} (h : d.kept z) : (Dev.attemptFails u f d).kept z := by
  unfold Dev.attemptFails
  repeat' (first
    | with_reducible assumption
    | intro h
    | with_reducible apply Dev.kept_setF
    | with_reducible apply Dev.kept_modAxu
    | with_reducible apply Dev.kept_setPhase
    | with_reducible apply Dev.kept_posFault
    | with_reducible apply Dev.kept_ite
    | fail_if_no_progress with_reducible refine Dev.kept_mk ?_ rfl)

theorem Dev.kept_posFails {z : Nat} {u f code : Nat} {flag : Fld} {d : Dev} (h : d.kept z) : (Dev.posFails u f code flag d).kept z := by
  unfold Dev.posFails
  repeat' (first
    | with_reducible assumption
    | with_reducible apply Dev.kept_setF
    | with_reducible apply Dev.kept_evt
    | with_reducible apply Dev.kept_safeCommand
    | with_reducible apply Dev.kept_attemptFails
    | with_reducible apply Dev.kept_ite)

theorem Dev.kept_posLost {z : Nat} {u f : Nat} {d : Dev} (h : d.kept z) : (Dev.posLost u f d).kept z := by
  unfold Dev.posLost
  repeat' (first
    | with_reducible assumption
    | intro h
    | with_reducible apply Dev.kept_when
    | with_reducible apply Dev.kept_setPhase
    | with_reducible apply Dev.kept_setF
    | with_reducible apply Dev.kept_incSat
    | with_reducible apply Dev.kept_modAxu
    | with_reducible apply Dev.kept_evt
    | with_reducible apply Dev.kept_safeCommand
    | with_reducible apply Dev.kept_attemptFails
    | split
    | dsimp only
    | fail_if_no_progress with_reducible refine Dev.kept_mk ?_ rfl)

theorem Dev.kept_posResume {z : Nat} {u f ph : Nat} {d : Dev} (h : d.kept z) : (Dev.posResume u f ph d).kept z := by
  unfold Dev.posResume
  repeat' (first
    | with_reducible assumption
    | intro h
    | with_reducible apply Dev.kept_completeEnable
    | with_reducible apply Dev.kept_setPhase
    | with_reducible apply Dev.kept_modAxu
    | with_reducible apply Dev.kept_ite
    | fail_if_no_progress with_reducible refine Dev.kept_mk ?_ rfl)

theorem Dev.kept_reached {z : Nat} {u : Nat} {d : Dev} (h : d.kept z) : (Dev.reached u d).kept z := by
  unfold Dev.reached
  repeat' (first
    | with_reducible assumption
    | intro h
    | with_reducible apply Dev.kept_when
    | with_reducible apply Dev.kept_evt)

theorem Dev.kept_measured {z : Nat} {u f : Nat} {th w : W} {asc : Bool} {d : Dev} (h : d.kept z) : (Dev.measured u f th w asc d).kept z := by
  unfold Dev.measured
  repeat' (first
    | with_reducible assumption
    | intro h
    | with_reducible apply Dev.kept_setF
    | with_reducible apply Dev.kept_modAxu
    | with_reducible apply Dev.kept_posResume
    | with_reducible apply Dev.kept_incSat
    | with_reducible apply Dev.kept_evt
    | with_reducible apply Dev.kept_rampFollow
    | with_reducible apply Dev.kept_reached
    | with_reducible apply Dev.kept_safeCommand
    | with_reducible apply Dev.kept_setPhase
    | with_reducible apply Dev.kept_posFails
    | with_reducible apply Dev.kept_ite
    | fail_if_no_progress with_reducible refine Dev.kept_mk ?_ rfl)

theorem Dev.kept_measureDone {z : Nat} {u f per : Nat} {d : Dev} (h : d.kept z) : (Dev.measureDone u f per d).kept z := by
  unfold Dev.measureDone
  repeat' (first
    | with_reducible assumption
    | with_reducible apply Dev.kept_measured
    | with_reducible apply Dev.kept_ite)

theorem Dev.kept_polarityDone {z : Nat} {u f : Nat} {d : Dev} (h : d.kept z) : (Dev.polarityDone u f d).kept z := by
  unfold Dev.polarityDone
  repeat' (first
    | with_reducible assumption
    | intro h
    | with_reducible apply Dev.kept_wr
    | with_reducible apply Dev.kept_setPhase
    | with_reducible apply Dev.kept_reached
    | with_reducible apply Dev.kept_modAxu
    | with_reducible apply Dev.kept_incSat
    | with_reducible apply Dev.kept_posFails
    | with_reducible apply Dev.kept_ite
    | fail_if_no_progress with_reducible refine Dev.kept_mk ?_ rfl)

theorem Dev.kept_reacquire {z : Nat} {u f : Nat} {d : Dev} (h : d.kept z) : (Dev.reacquire u f d).kept z := by
  unfold Dev.reacquire
  repeat' (first
    | with_reducible assumption
    | intro h
    | with_reducible apply Dev.kept_setPhase
    | with_reducible apply Dev.kept_modAxu
    | with_reducible apply Dev.kept_ite
    | fail_if_no_progress with_reducible refine Dev.kept_mk ?_ rfl)

theorem Dev.kept_trackSecond {z : Nat} {u : Nat} {d : Dev} (h : d.kept z) : (Dev.trackSecond u d).kept z := by
  unfold Dev.trackSecond
  repeat' (first
    | with_reducible assumption
    | intro h
    | with_reducible apply Dev.kept_setF
    | with_reducible apply Dev.kept_modAxu
    | with_reducible apply Dev.kept_ite
    | split
    | dsimp only
    | fail_if_no_progress with_reducible refine Dev.kept_mk ?_ rfl)

theorem Dev.kept_pll {z : Nat} {u per : Nat} {w e : W} {d : Dev} (h : d.kept z) : (Dev.pll u per w e d).kept z := by
  unfold Dev.pll
  repeat' (first
    | with_reducible assumption
    | intro h
    | with_reducible apply Dev.kept_wr
    | with_reducible apply Dev.kept_modAxu
    | fail_if_no_progress with_reducible refine Dev.kept_mk ?_ rfl)

theorem Dev.kept_sensorBad {z : Nat} {u : Nat} {d : Dev} (h : d.kept z) : (Dev.sensorBad u d).kept z := by
  unfold Dev.sensorBad
  repeat' (first
    | with_reducible assumption
    | with_reducible apply Dev.kept_incSat
    | with_reducible apply Dev.kept_setF
    | with_reducible apply Dev.kept_evtRated
    | with_reducible apply Dev.kept_ite)

theorem Dev.kept_countLoss {z : Nat} {u : Nat} {high : Bool} {d : Dev} (h : d.kept z) : (Dev.countLoss u high d).kept z := by
  unfold Dev.countLoss
  repeat' (first
    | with_reducible assumption
    | intro h
    | with_reducible apply Dev.kept_when
    | with_reducible apply Dev.kept_modAxu
    | with_reducible apply Dev.kept_incSat
    | with_reducible apply Dev.kept_setF
    | with_reducible apply Dev.kept_ite
    | fail_if_no_progress with_reducible refine Dev.kept_mk ?_ rfl)

theorem Dev.kept_positionStep {z : Nat} {u f per : Nat} {sets : List (W × W)} {sub : Bool} {ts : Time} {d : Dev} (h : d.kept z) : (Dev.positionStep u f per sets sub ts d).kept z := by
  unfold Dev.positionStep
  repeat' (first
    | with_reducible assumption
    | intro h
    | with_reducible apply Dev.kept_wr
    | with_reducible apply Dev.kept_when
    | with_reducible apply Dev.kept_modAxu
    | with_reducible apply Dev.kept_rampFollow
    | with_reducible apply Dev.kept_carrierStep
    | with_reducible apply Dev.kept_observe
    | with_reducible apply Dev.kept_pll
    | with_reducible apply Dev.kept_sensorBad
    | with_reducible apply Dev.kept_countLoss
    | with_reducible apply Dev.kept_posLost
    | with_reducible apply Dev.kept_ramp
    | with_reducible apply Dev.kept_setPhase
    | with_reducible apply Dev.kept_posFails
    | with_reducible apply Dev.kept_ite
    | fail_if_no_progress with_reducible refine Dev.kept_mk ?_ rfl)

theorem Dev.kept_takeVdc {z : Nat} {u : Nat} {d : Dev} (h : d.kept z) : (Dev.takeVdc u d).kept z := by
  unfold Dev.takeVdc
  repeat' (first
    | with_reducible assumption
    | intro h
    | with_reducible apply Dev.kept_modAxu
    | with_reducible apply Dev.kept_ite
    | split
    | dsimp only
    | fail_if_no_progress with_reducible refine Dev.kept_mk ?_ rfl)

theorem Dev.kept_polarityCommit {z : Nat} {u f : Nat} {d : Dev} (h : d.kept z) : (Dev.polarityCommit u f d).kept z := by
  unfold Dev.polarityCommit
  repeat' (first
    | with_reducible assumption
    | intro h
    | with_reducible apply Dev.kept_inverse
    | with_reducible apply Dev.kept_modAxu
    | with_reducible apply Dev.kept_ite
    | fail_if_no_progress with_reducible refine Dev.kept_mk ?_ rfl)

theorem Dev.kept_forwardDeliver {z : Nat} {u f : Nat} {sets : List (W × W)} {iphs : List (List W)} {sub : Bool} {prev : W × W × W × W} {d : Dev} (h : d.kept z) : (Dev.forwardDeliver u f sets iphs sub prev d).kept z := by
  unfold Dev.forwardDeliver
  repeat' (first
    | with_reducible assumption
    | intro h
    | with_reducible apply Dev.kept_wr
    | with_reducible apply Dev.kept_foldl
    | with_reducible apply Dev.kept_modAxu
    | with_reducible apply Dev.kept_axuNonfinite
    | with_reducible apply Dev.kept_polarityCommit
    | with_reducible apply Dev.kept_deliverWords
    | with_reducible apply Dev.kept_ite
    | split
    | dsimp only
    | fail_if_no_progress with_reducible refine Dev.kept_mk ?_ rfl)

theorem Dev.kept_forwardRun {z : Nat} {u f : Nat} {d : Dev} (h : d.kept z) : (Dev.forwardRun u f d).kept z := by
  unfold Dev.forwardRun
  repeat' (first
    | with_reducible assumption
    | intro h
    | with_reducible apply Dev.kept_forEach
    | with_reducible apply Dev.kept_setF
    | with_reducible apply Dev.kept_modAxu
    | with_reducible apply Dev.kept_wr64
    | with_reducible apply Dev.kept_takeVdc
    | with_reducible apply Dev.kept_substituted
    | with_reducible apply Dev.kept_zeroSum
    | with_reducible apply Dev.kept_positionStep
    | with_reducible apply Dev.kept_forwardDeliver
    | with_reducible apply Dev.kept_ite
    | split
    | dsimp only
    | fail_if_no_progress with_reducible refine Dev.kept_mk ?_ rfl)

theorem Dev.kept_forwardPass {z : Nat} {u : Nat} {d : Dev} (h : d.kept z) : (Dev.forwardPass u d).kept z := by
  unfold Dev.forwardPass
  repeat' (first
    | with_reducible assumption
    | intro h
    | with_reducible apply Dev.kept_when
    | with_reducible apply Dev.kept_forwardRun
    | split
    | dsimp only)

theorem Dev.kept_inverseStage {z : Nat} {u : Nat} {d : Dev} (h : d.kept z) : (Dev.inverseStage u d).kept z := by
  unfold Dev.inverseStage
  repeat' (first
    | with_reducible assumption
    | intro h
    | with_reducible apply Dev.kept_modAxu
    | with_reducible apply Dev.kept_inverse
    | with_reducible apply Dev.kept_ite
    | split
    | dsimp only
    | fail_if_no_progress with_reducible refine Dev.kept_mk ?_ rfl)

theorem Dev.kept_axuBoundary {z : Nat} {f : Nat} {d : Dev} (h : d.kept z) : (Dev.axuBoundary f d).kept z := by
  unfold Dev.axuBoundary
  repeat' (first
    | with_reducible assumption
    | intro h
    | with_reducible apply Dev.kept_forEach
    | with_reducible apply Dev.kept_when
    | with_reducible apply Dev.kept_whenSome
    | with_reducible apply Dev.kept_axuLate
    | with_reducible apply Dev.kept_substituted
    | with_reducible apply Dev.kept_modAxu
    | with_reducible apply Dev.kept_ite
    | fail_if_no_progress with_reducible refine Dev.kept_mk ?_ rfl)

theorem Dev.kept_withUnit {z : Nat} {u : Nat} {op : Nat → Dev → Dev} {d : Dev} (hop : ∀ n d, Dev.kept z d → (op n d).kept z)
    (h : d.kept z) : (Dev.withUnit u op d).kept z := by
  unfold Dev.withUnit
  split
  · exact Dev.kept_ite (hop _ _ h) h
  · exact h

end Sys2Proof.Machine
end

