-- ==== Sys2Proof/Laws/KeptCvu.lean ====
section
/-! SUPPORT. What every operation keeps. -/

namespace Sys2Proof.Machine

theorem Dev.kept_modChg {z : Nat} {c : Nat} {g : Chg → Chg} {d : Dev} (h : d.kept z) : (Dev.modChg c g d).kept z := by
  unfold Dev.modChg
  repeat' (first
    | with_reducible assumption
    | fail_if_no_progress with_reducible refine Dev.kept_mk ?_ rfl)

theorem Dev.kept_parkStage {z : Nat} {f : Nat} {d : Dev} (h : d.kept z) : (Dev.parkStage f d).kept z := by
  unfold Dev.parkStage
  repeat' (first
    | with_reducible assumption
    | intro h
    | with_reducible apply Dev.kept_forEach
    | with_reducible apply Dev.kept_modLeg
    | with_reducible apply Dev.kept_ite
    | fail_if_no_progress with_reducible refine Dev.kept_mk ?_ rfl)

theorem Dev.kept_gridPll {z : Nat} {u f : Nat} {ts : Time} {d : Dev} (h : d.kept z) : (Dev.gridPll u f ts d).kept z := by
  unfold Dev.gridPll
  repeat' (first
    | with_reducible assumption
    | intro h
    | with_reducible apply Dev.kept_wr
    | with_reducible apply Dev.kept_modCvu
    | with_reducible apply Dev.kept_setF
    | with_reducible apply Dev.kept_ite
    | fail_if_no_progress with_reducible refine Dev.kept_mk ?_ rfl)

theorem Dev.kept_cvuObserve {z : Nat} {u : Nat} {ws : List W} {d : Dev} (h : d.kept z) : (Dev.cvuObserve u ws d).kept z := by
  unfold Dev.cvuObserve
  repeat' (first
    | with_reducible assumption
    | intro h
    | with_reducible apply Dev.kept_wr
    | with_reducible apply Dev.kept_forEach
    | with_reducible apply Dev.kept_foldl
    | with_reducible apply Dev.kept_setF
    | with_reducible apply Dev.kept_modCvu
    | with_reducible apply Dev.kept_modChg
    | with_reducible apply Dev.kept_ite
    | fail_if_no_progress with_reducible refine Dev.kept_mk ?_ rfl)

theorem Dev.kept_cvuSubstituted {z : Nat} {u f : Nat} {roles : List Nat} {d : Dev} (h : d.kept z) : (Dev.cvuSubstituted u f roles d).kept z := by
  unfold Dev.cvuSubstituted
  repeat' (first
    | with_reducible assumption
    | intro h
    | with_reducible apply Dev.kept_setF
    | with_reducible apply Dev.kept_incSat
    | with_reducible apply Dev.kept_evtRated
    | with_reducible apply Dev.kept_feedbackLost
    | with_reducible apply Dev.kept_ite
    | split
    | dsimp only)

theorem Dev.kept_cvuForwardRun {z : Nat} {u f : Nat} {d : Dev} (h : d.kept z) : (Dev.cvuForwardRun u f d).kept z := by
  unfold Dev.cvuForwardRun
  repeat' (first
    | with_reducible assumption
    | intro h
    | with_reducible apply Dev.kept_foldl
    | with_reducible apply Dev.kept_when
    | with_reducible apply Dev.kept_setF
    | with_reducible apply Dev.kept_wr64
    | with_reducible apply Dev.kept_modCvu
    | with_reducible apply Dev.kept_cvuSubstituted
    | with_reducible apply Dev.kept_gridPll
    | with_reducible apply Dev.kept_cvuObserve
    | with_reducible apply Dev.kept_deliverWords
    | with_reducible apply Dev.kept_ite
    | split
    | dsimp only
    | fail_if_no_progress with_reducible refine Dev.kept_mk ?_ rfl)

theorem Dev.kept_cvuForward {z : Nat} {u : Nat} {d : Dev} (h : d.kept z) : (Dev.cvuForward u d).kept z := by
  unfold Dev.cvuForward
  repeat' (first
    | with_reducible assumption
    | with_reducible apply Dev.kept_cvuForwardRun
    | with_reducible apply Dev.kept_ite
    | split
    | dsimp only)

theorem Dev.kept_cvuLate {z : Nat} {u : Nat} {d : Dev} (h : d.kept z) : (Dev.cvuLate u d).kept z := by
  unfold Dev.cvuLate
  repeat' (first
    | with_reducible assumption
    | with_reducible apply Dev.kept_setF
    | with_reducible apply Dev.kept_incSat
    | with_reducible apply Dev.kept_evtRated)

theorem Dev.kept_cvuNonfinite {z : Nat} {u f : Nat} {d : Dev} (h : d.kept z) : (Dev.cvuNonfinite u f d).kept z := by
  unfold Dev.cvuNonfinite
  repeat' (first
    | with_reducible assumption
    | with_reducible apply Dev.kept_setF
    | with_reducible apply Dev.kept_evt
    | with_reducible apply Dev.kept_gafferSafe)

theorem Dev.kept_cvuCommit {z : Nat} {u f : Nat} {d : Dev} (h : d.kept z) : (Dev.cvuCommit u f d).kept z := by
  unfold Dev.cvuCommit
  repeat' (first
    | with_reducible assumption
    | intro h
    | with_reducible apply Dev.kept_foldl
    | with_reducible apply Dev.kept_when
    | with_reducible apply Dev.kept_commitLeg
    | with_reducible apply Dev.kept_modCvu
    | with_reducible apply Dev.kept_setF
    | with_reducible apply Dev.kept_ite
    | fail_if_no_progress with_reducible refine Dev.kept_mk ?_ rfl)

theorem Dev.kept_cvuTaken {z : Nat} {u : Nat} {d : Dev} (h : d.kept z) : (Dev.cvuTaken u d).kept z := by
  unfold Dev.cvuTaken
  repeat' (first
    | with_reducible assumption
    | intro h
    | with_reducible apply Dev.kept_wr
    | with_reducible apply Dev.kept_modCvu
    | fail_if_no_progress with_reducible refine Dev.kept_mk ?_ rfl)

theorem Dev.kept_cvuInverse {z : Nat} {u : Nat} {d : Dev} (h : d.kept z) : (Dev.cvuInverse u d).kept z := by
  unfold Dev.cvuInverse
  repeat' (first
    | with_reducible assumption
    | with_reducible apply Dev.kept_cvuTaken
    | with_reducible apply Dev.kept_cvuLate
    | with_reducible apply Dev.kept_cvuNonfinite
    | with_reducible apply Dev.kept_cvuCommit
    | with_reducible apply Dev.kept_ite
    | split
    | dsimp only)

theorem Dev.kept_phaseMean {z : Nat} {d : Dev} {u : Nat} (h : d.kept z) : (Dev.phaseMean d u).2.kept z := by
  unfold Dev.phaseMean
  dsimp only
  split
  · exact Dev.kept_ask h
  · exact h

theorem Dev.kept_phaseRestart {z : Nat} {u : Nat} {d : Dev} (h : d.kept z) : (Dev.phaseRestart u d).kept z := by
  unfold Dev.phaseRestart
  repeat' (first
    | with_reducible assumption
    | intro h
    | with_reducible apply Dev.kept_modCvu
    | fail_if_no_progress with_reducible refine Dev.kept_mk ?_ rfl)

theorem Dev.kept_phaseDecision {z : Nat} {u : Nat} {d : Dev} (h : d.kept z) : (Dev.phaseDecision u d).kept z := by
  unfold Dev.phaseDecision
  repeat' (first
    | with_reducible assumption
    | with_reducible apply Dev.kept_phaseMean
    | with_reducible apply Dev.kept_phaseRestart
    | with_reducible apply Dev.kept_setF
    | with_reducible apply Dev.kept_incSat
    | with_reducible apply Dev.kept_evt
    | with_reducible apply Dev.kept_ite)

theorem Dev.kept_cmCut {z : Nat} {u p n per : Nat} {d : Dev} (h : d.kept z) : (Dev.cmCut u p n per d).kept z := by
  unfold Dev.cmCut
  repeat' (first
    | with_reducible assumption
    | intro h
    | with_reducible apply Dev.kept_modLeg
    | with_reducible apply Dev.kept_modCvu
    | with_reducible apply Dev.kept_ite
    | fail_if_no_progress with_reducible refine Dev.kept_mk ?_ rfl)

theorem Dev.kept_cmPulseEnd {z : Nat} {u p : Nat} {d : Dev} (h : d.kept z) : (Dev.cmPulseEnd u p d).kept z := by
  unfold Dev.cmPulseEnd
  repeat' (first
    | with_reducible assumption
    | with_reducible apply Dev.kept_cmCut
    | with_reducible apply Dev.kept_ite
    | split
    | dsimp only)

theorem Dev.kept_cvuPeriodEnds {z : Nat} {f : Nat} {d : Dev} (h : d.kept z) : (Dev.cvuPeriodEnds f d).kept z := by
  unfold Dev.cvuPeriodEnds
  repeat' (first
    | with_reducible assumption
    | intro h
    | with_reducible apply Dev.kept_when
    | with_reducible apply Dev.kept_whenSome
    | with_reducible apply Dev.kept_cvuLate
    | with_reducible apply Dev.kept_modCvu
    | with_reducible apply Dev.kept_setF
    | with_reducible apply Dev.kept_ite
    | fail_if_no_progress with_reducible refine Dev.kept_mk ?_ rfl)

theorem Dev.kept_cmCarry {z : Nat} {u p n per : Nat} {d : Dev} (h : d.kept z) : (Dev.cmCarry u p n per d).kept z := by
  unfold Dev.cmCarry
  repeat' (first
    | with_reducible assumption
    | intro h
    | with_reducible apply Dev.kept_modLeg
    | with_reducible apply Dev.kept_ite
    | fail_if_no_progress with_reducible refine Dev.kept_mk ?_ rfl)

theorem Dev.kept_cvuPeriodBegins {z : Nat} {f : Nat} {d : Dev} (h : d.kept z) : (Dev.cvuPeriodBegins f d).kept z := by
  unfold Dev.cvuPeriodBegins
  repeat' (first
    | with_reducible assumption
    | intro h
    | with_reducible apply Dev.kept_foldl
    | with_reducible apply Dev.kept_when
    | with_reducible apply Dev.kept_whenSome
    | with_reducible apply Dev.kept_cmCarry
    | with_reducible apply Dev.kept_setF
    | with_reducible apply Dev.kept_modCvu
    | with_reducible apply Dev.kept_ite
    | fail_if_no_progress with_reducible refine Dev.kept_mk ?_ rfl)

theorem Dev.kept_gridLost {z : Nat} {u : Nat} {d : Dev} (h : d.kept z) : (Dev.gridLost u d).kept z := by
  unfold Dev.gridLost
  repeat' (first
    | with_reducible assumption
    | intro h
    | with_reducible apply Dev.kept_whenSome
    | with_reducible apply Dev.kept_setF
    | with_reducible apply Dev.kept_modCvu
    | with_reducible apply Dev.kept_evt
    | with_reducible apply Dev.kept_parkStage
    | with_reducible apply Dev.kept_ite
    | split
    | dsimp only
    | fail_if_no_progress with_reducible refine Dev.kept_mk ?_ rfl)

theorem Dev.kept_gridUnpark {z : Nat} {u : Nat} {d : Dev} (h : d.kept z) : (Dev.gridUnpark u d).kept z := by
  unfold Dev.gridUnpark
  repeat' (first
    | with_reducible assumption
    | intro h
    | with_reducible apply Dev.kept_modCvu
    | with_reducible apply Dev.kept_ite
    | split
    | dsimp only
    | fail_if_no_progress with_reducible refine Dev.kept_mk ?_ rfl)

end Sys2Proof.Machine
end

