-- ==== Sys2Proof/Laws/KeptChg.lean ====
section
/-! SUPPORT. What every operation keeps. -/

namespace Sys2Proof.Machine

theorem Dev.kept_track {z : Nat} {c code : Nat} {b : Bool} {d : Dev} (h : d.kept z) : (Dev.track c code b d).kept z := by
  unfold Dev.track
  repeat' (first
    | with_reducible assumption
    | intro h
    | with_reducible apply Dev.kept_modChg
    | with_reducible apply Dev.kept_ite
    | fail_if_no_progress with_reducible refine Dev.kept_mk ?_ rfl)

theorem Dev.kept_startRamp {z : Nat} {c : Nat} {stages : List Nat} {d : Dev} (h : d.kept z) : (Dev.startRamp c stages d).kept z := by
  unfold Dev.startRamp
  repeat' (first
    | with_reducible assumption
    | intro h
    | with_reducible apply Dev.kept_forEach
    | with_reducible apply Dev.kept_modCvu
    | with_reducible apply Dev.kept_modChg
    | with_reducible apply Dev.kept_setF
    | fail_if_no_progress with_reducible refine Dev.kept_mk ?_ rfl)

theorem Dev.kept_endRamp {z : Nat} {c : Nat} {d : Dev} (h : d.kept z) : (Dev.endRamp c d).kept z := by
  unfold Dev.endRamp
  repeat' (first
    | with_reducible assumption
    | intro h
    | with_reducible apply Dev.kept_forEach
    | with_reducible apply Dev.kept_when
    | with_reducible apply Dev.kept_modChg
    | with_reducible apply Dev.kept_modCvu
    | with_reducible apply Dev.kept_parkStage
    | fail_if_no_progress with_reducible refine Dev.kept_mk ?_ rfl)

theorem Dev.kept_chgSources {z : Nat} {c : Nat} {m : ChgMeas} {d : Dev} (h : d.kept z) : (Dev.chgSources c m d).kept z := by
  unfold Dev.chgSources
  repeat' (first
    | with_reducible assumption
    | intro h
    | with_reducible apply Dev.kept_wr
    | with_reducible apply Dev.kept_forEach
    | with_reducible apply Dev.kept_when
    | with_reducible apply Dev.kept_track
    | with_reducible apply Dev.kept_setF
    | with_reducible apply Dev.kept_evt
    | with_reducible apply Dev.kept_startRamp
    | with_reducible apply Dev.kept_parkStage
    | with_reducible apply Dev.kept_modCvu
    | with_reducible apply Dev.kept_ask
    | with_reducible apply Dev.kept_modChg
    | with_reducible apply Dev.kept_ite
    | fail_if_no_progress with_reducible refine Dev.kept_mk ?_ rfl)

theorem Dev.kept_chgCut {z : Nat} {c : Nat} {m : ChgMeas} {d : Dev} (h : d.kept z) : (Dev.chgCut c m d).kept z := by
  unfold Dev.chgCut
  repeat' (first
    | with_reducible assumption
    | intro h
    | with_reducible apply Dev.kept_wr
    | with_reducible apply Dev.kept_modChg
    | with_reducible apply Dev.kept_setF
    | with_reducible apply Dev.kept_ite
    | fail_if_no_progress with_reducible refine Dev.kept_mk ?_ rfl)

theorem Dev.kept_chgTimer {z : Nat} {c : Nat} {m : ChgMeas} {d : Dev} (h : d.kept z) : (Dev.chgTimer c m d).kept z := by
  unfold Dev.chgTimer
  repeat' (first
    | with_reducible assumption
    | intro h
    | with_reducible apply Dev.kept_wr
    | with_reducible apply Dev.kept_setF
    | with_reducible apply Dev.kept_modChg
    | with_reducible apply Dev.kept_ite
    | fail_if_no_progress with_reducible refine Dev.kept_mk ?_ rfl)

theorem Dev.kept_chgEnergy {z : Nat} {c : Nat} {m : ChgMeas} {d : Dev} (h : d.kept z) : (Dev.chgEnergy c m d).kept z := by
  unfold Dev.chgEnergy
  repeat' (first
    | with_reducible assumption
    | intro h
    | with_reducible apply Dev.kept_wr
    | with_reducible apply Dev.kept_modChg
    | with_reducible apply Dev.kept_ite
    | fail_if_no_progress with_reducible refine Dev.kept_mk ?_ rfl)

theorem Dev.kept_lampRefresh {z : Nat} {c : Nat} {d : Dev} (h : d.kept z) : (Dev.lampRefresh c d).kept z := by
  unfold Dev.lampRefresh
  repeat' (first
    | with_reducible assumption
    | with_reducible apply Dev.kept_setF
    | with_reducible apply Dev.kept_ite)

theorem Dev.kept_toPhase {z : Nat} {c ph : Nat} {d : Dev} (h : d.kept z) : (Dev.toPhase c ph d).kept z := by
  unfold Dev.toPhase
  repeat' (first
    | with_reducible assumption
    | intro h
    | with_reducible apply Dev.kept_wr
    | with_reducible apply Dev.kept_forEach
    | with_reducible apply Dev.kept_when
    | with_reducible apply Dev.kept_setF
    | with_reducible apply Dev.kept_lampRefresh
    | with_reducible apply Dev.kept_evt
    | with_reducible apply Dev.kept_modChg
    | with_reducible apply Dev.kept_parkStage
    | with_reducible apply Dev.kept_ite
    | fail_if_no_progress with_reducible refine Dev.kept_mk ?_ rfl)

theorem Dev.kept_chgFault {z : Nat} {c reason : Nat} {d : Dev} (h : d.kept z) : (Dev.chgFault c reason d).kept z := by
  unfold Dev.chgFault
  repeat' (first
    | with_reducible assumption
    | intro h
    | with_reducible apply Dev.kept_setF
    | with_reducible apply Dev.kept_toPhase
    | with_reducible apply Dev.kept_modChg
    | with_reducible apply Dev.kept_endRamp
    | with_reducible apply Dev.kept_evt
    | split
    | dsimp only
    | fail_if_no_progress with_reducible refine Dev.kept_mk ?_ rfl)

theorem Dev.kept_suspend {z : Nat} {c reason : Nat} {d : Dev} (h : d.kept z) : (Dev.suspend c reason d).kept z := by
  unfold Dev.suspend
  repeat' (first
    | with_reducible assumption
    | with_reducible apply Dev.kept_setF
    | with_reducible apply Dev.kept_toPhase
    | with_reducible apply Dev.kept_evt)

theorem Dev.kept_topoffOver {z : Nat} {c : Nat} {d : Dev} (h : d.kept z) : (Dev.topoffOver c d).kept z := by
  unfold Dev.topoffOver
  repeat' (first
    | with_reducible assumption
    | with_reducible apply Dev.kept_toPhase
    | with_reducible apply Dev.kept_evt
    | with_reducible apply Dev.kept_ite)

theorem Dev.kept_chgExit {z : Nat} {c : Nat} {m : ChgMeas} {d : Dev} (h : d.kept z) : (Dev.chgExit c m d).kept z := by
  unfold Dev.chgExit
  repeat' (first
    | with_reducible assumption
    | intro h
    | with_reducible apply Dev.kept_modChg
    | with_reducible apply Dev.kept_toPhase
    | with_reducible apply Dev.kept_topoffOver
    | with_reducible apply Dev.kept_evt
    | with_reducible apply Dev.kept_ite
    | fail_if_no_progress with_reducible refine Dev.kept_mk ?_ rfl)

theorem Dev.kept_chgDecide {z : Nat} {c : Nat} {m : ChgMeas} {d : Dev} (h : d.kept z) : (Dev.chgDecide c m d).kept z := by
  unfold Dev.chgDecide
  repeat' (first
    | with_reducible assumption
    | intro h
    | with_reducible apply Dev.kept_when
    | with_reducible apply Dev.kept_chgFault
    | with_reducible apply Dev.kept_modChg
    | with_reducible apply Dev.kept_chgExit
    | with_reducible apply Dev.kept_toPhase
    | with_reducible apply Dev.kept_suspend
    | with_reducible apply Dev.kept_ite
    | split
    | dsimp only
    | fail_if_no_progress with_reducible refine Dev.kept_mk ?_ rfl)

theorem Dev.kept_chgWrite {z : Nat} {c : Nat} {m : ChgMeas} {d : Dev} (h : d.kept z) : (Dev.chgWrite c m d).kept z := by
  unfold Dev.chgWrite
  repeat' (first
    | with_reducible assumption
    | intro h
    | with_reducible apply Dev.kept_wr
    | with_reducible apply Dev.kept_when
    | with_reducible apply Dev.kept_modCvu
    | with_reducible apply Dev.kept_ite
    | fail_if_no_progress with_reducible refine Dev.kept_mk ?_ rfl)

theorem Dev.kept_chgRun {z : Nat} {c : Nat} {d : Dev} (h : d.kept z) : (Dev.chgRun c d).kept z := by
  unfold Dev.chgRun
  repeat' (first
    | with_reducible assumption
    | intro h
    | with_reducible apply Dev.kept_wr
    | with_reducible apply Dev.kept_modChg
    | with_reducible apply Dev.kept_setF
    | with_reducible apply Dev.kept_chgSources
    | with_reducible apply Dev.kept_track
    | with_reducible apply Dev.kept_chgCut
    | with_reducible apply Dev.kept_chgTimer
    | with_reducible apply Dev.kept_chgEnergy
    | with_reducible apply Dev.kept_chgDecide
    | with_reducible apply Dev.kept_chgWrite
    | with_reducible apply Dev.kept_ite
    | fail_if_no_progress with_reducible refine Dev.kept_mk ?_ rfl)

theorem Dev.kept_chgStep {z : Nat} {c : Nat} {d : Dev} (h : d.kept z) : (Dev.chgStep c d).kept z := by
  unfold Dev.chgStep
  repeat' (first
    | with_reducible assumption
    | with_reducible apply Dev.kept_chgRun
    | with_reducible apply Dev.kept_ite)

theorem Dev.kept_chgCtrl {z : Nat} {c : Nat} {v : W} {d : Dev} (h : d.kept z) : (Dev.chgCtrl c v d).kept z := by
  unfold Dev.chgCtrl
  repeat' (first
    | with_reducible assumption
    | intro h
    | with_reducible apply Dev.kept_when
    | with_reducible apply Dev.kept_modChg
    | fail_if_no_progress with_reducible refine Dev.kept_mk ?_ rfl)

theorem Dev.kept_chgAck {z : Nat} {c : Nat} {d : Dev} (h : d.kept z) : (Dev.chgAck c d).kept z := by
  unfold Dev.chgAck
  repeat' (first
    | with_reducible assumption
    | with_reducible apply Dev.kept_toPhase
    | with_reducible apply Dev.kept_evt
    | with_reducible apply Dev.kept_ite)

theorem Dev.kept_handoverEnd {z : Nat} {c : Nat} {d : Dev} (h : d.kept z) : (Dev.handoverEnd c d).kept z := by
  unfold Dev.handoverEnd
  repeat' (first
    | with_reducible assumption
    | intro h
    | with_reducible apply Dev.kept_endRamp
    | with_reducible apply Dev.kept_evt
    | with_reducible apply Dev.kept_modChg
    | with_reducible apply Dev.kept_toPhase
    | with_reducible apply Dev.kept_suspend
    | with_reducible apply Dev.kept_ite
    | split
    | dsimp only
    | fail_if_no_progress with_reducible refine Dev.kept_mk ?_ rfl)

theorem Dev.kept_handoverDone {z : Nat} {c : Nat} {d : Dev} (h : d.kept z) : (Dev.handoverDone c d).kept z := by
  unfold Dev.handoverDone
  repeat' (first
    | with_reducible assumption
    | with_reducible apply Dev.kept_handoverEnd
    | with_reducible apply Dev.kept_ite)

theorem Dev.kept_mpptPower {z : Nat} {c : Nat} {d : Dev} (h : d.kept z) : (Dev.mpptPower c d).2.kept z := by
  unfold Dev.mpptPower
  split
  · exact Dev.kept_ask h
  · exact h

theorem Dev.kept_mpptMove {z : Nat} {c : Nat} {p : W} {up : Bool} {d : Dev} (h : d.kept z) : (Dev.mpptMove c p up d).kept z := by
  unfold Dev.mpptMove
  repeat' (first
    | with_reducible assumption
    | intro h
    | with_reducible apply Dev.kept_wr
    | with_reducible apply Dev.kept_modChg
    | with_reducible apply Dev.kept_ite
    | fail_if_no_progress with_reducible refine Dev.kept_mk ?_ rfl)

theorem Dev.kept_mppt {z : Nat} {c : Nat} {d : Dev} (h : d.kept z) : (Dev.mppt c d).kept z := by
  unfold Dev.mppt
  repeat' (first
    | with_reducible assumption
    | with_reducible apply Dev.kept_mpptPower
    | with_reducible apply Dev.kept_mpptMove
    | with_reducible apply Dev.kept_ite)

theorem Dev.kept_lampFault {z : Nat} {c : Nat} {short : Bool} {d : Dev} (h : d.kept z) : (Dev.lampFault c short d).kept z := by
  unfold Dev.lampFault
  repeat' (first
    | with_reducible assumption
    | intro h
    | with_reducible apply Dev.kept_when
    | with_reducible apply Dev.kept_setF
    | with_reducible apply Dev.kept_modChg
    | with_reducible apply Dev.kept_rated
    | with_reducible apply Dev.kept_ite
    | fail_if_no_progress with_reducible refine Dev.kept_mk ?_ rfl)

theorem Dev.kept_lampRetry {z : Nat} {c : Nat} {d : Dev} (h : d.kept z) : (Dev.lampRetry c d).kept z := by
  unfold Dev.lampRetry
  repeat' (first
    | with_reducible assumption
    | intro h
    | with_reducible apply Dev.kept_modChg
    | with_reducible apply Dev.kept_ite
    | split
    | dsimp only
    | fail_if_no_progress with_reducible refine Dev.kept_mk ?_ rfl)

theorem Dev.kept_lampWrite {z : Nat} {triad c : Nat} {v : W} {d : Dev} (h : d.kept z) : (Dev.lampWrite triad c v d).kept z := by
  unfold Dev.lampWrite
  repeat' (first
    | with_reducible assumption
    | with_reducible apply Dev.kept_wr
    | with_reducible apply Dev.kept_lockedWrite
    | with_reducible apply Dev.kept_lampRefresh
    | with_reducible apply Dev.kept_ite)

end Sys2Proof.Machine
end

