-- ==== Sys2Proof/Laws/KeptRed.lean ====
section
/-! SUPPORT. What every operation keeps. -/

namespace Sys2Proof.Machine

theorem Dev.kept_checkpoint {z : Nat} {t : Nat} {d : Dev} (h : d.kept z) : (Dev.checkpoint t d).kept z := by
  unfold Dev.checkpoint
  repeat' (first
    | with_reducible assumption
    | intro h
    | with_reducible refine Dev.kept_modTriad (fun _ => rfl) ?_
    | with_reducible apply Dev.kept_wr64
    | fail_if_no_progress with_reducible refine Dev.kept_mk ?_ rfl)

theorem Dev.kept_minority {z : Nat} {t c : Nat} {d : Dev} (h : d.kept z) : (Dev.minority t c d).kept z := by
  unfold Dev.minority
  repeat' (first
    | with_reducible assumption
    | with_reducible apply Dev.kept_putBit
    | with_reducible apply Dev.kept_setTmode)

theorem Dev.kept_triadMinority {z : Nat} {t c : Nat} {d : Dev} (h : d.kept z) : (Dev.triadMinority t c d).kept z := by
  unfold Dev.triadMinority
  repeat' (first
    | with_reducible assumption
    | with_reducible apply Dev.kept_minority
    | with_reducible apply Dev.kept_setF
    | with_reducible apply Dev.kept_evt
    | with_reducible apply Dev.kept_gust
    | with_reducible apply Dev.kept_ite)

theorem Dev.kept_triadResync {z : Nat} {t : Nat} {d : Dev} (h : d.kept z) : (Dev.triadResync t d).kept z := by
  unfold Dev.triadResync
  repeat' (first
    | with_reducible assumption
    | intro h
    | with_reducible apply Dev.kept_checkpoint
    | with_reducible apply Dev.kept_setF
    | with_reducible apply Dev.kept_setTmode
    | with_reducible apply Dev.kept_incSat
    | with_reducible apply Dev.kept_evt
    | with_reducible apply Dev.kept_ite
    | split
    | dsimp only)

theorem undoWords_wf (undo : List (Nat × W)) : ∀ m : Mem, Mem.wf 0 m = true → Mem.wf 0 (undoWords undo m) = true := by
  induction undo with
  | nil => exact fun _ h => h
  | cons p r ih => exact fun m h => ih _ (Mem.wf_putWord _ _ _ h)

theorem Dev.kept_goBack {z : Nat} {t : Nat} {d : Dev} (h : d.kept z) : (Dev.goBack t d).kept z := by
  unfold Dev.goBack
  dsimp only
  have h1 := Dev.kept_incSat (a := RED_TCNT t) (f := RED_TCNT_RESTARTS) (Dev.kept_setF (a := RED_TSTAT t) (f := RED_TSTAT_RESTARTING) (v := 1) h)
  refine Dev.kept_ite (Dev.kept_evt (Dev.kept_setF ?_)) ?_ <;>
    exact Dev.kept_putTriad (undoWords_wf _ _ (Dev.kept_triad h1 t)) h1

theorem Dev.kept_testUndone {z : Nat} {t : Nat} {d : Dev} (h : d.kept z) : (Dev.testUndone t d).kept z := by
  unfold Dev.testUndone
  repeat' (first
    | with_reducible assumption
    | intro h
    | with_reducible apply Dev.kept_whenSome
    | with_reducible apply Dev.kept_setF
    | with_reducible apply Dev.kept_reqShow
    | with_reducible apply Dev.kept_ite
    | split
    | dsimp only
    | fail_if_no_progress with_reducible refine Dev.kept_mk ?_ rfl)

theorem Dev.kept_disagreeCharge {z : Nat} {t : Nat} {cores katFails : List Nat} {before : Nat} {d : Dev} (h : d.kept z) : (Dev.disagreeCharge t cores katFails before d).kept z := by
  unfold Dev.disagreeCharge
  repeat' (first
    | with_reducible assumption
    | intro h
    | with_reducible apply Dev.kept_forEach
    | with_reducible apply Dev.kept_when
    | with_reducible apply Dev.kept_setF
    | with_reducible apply Dev.kept_evt
    | with_reducible apply Dev.kept_gust
    | with_reducible apply Dev.kept_gale)

theorem Dev.kept_triadDisagree {z : Nat} {t : Nat} {katFails : List Nat} {d : Dev} (h : d.kept z) : (Dev.triadDisagree t katFails d).kept z := by
  unfold Dev.triadDisagree
  repeat' (first
    | with_reducible assumption
    | with_reducible apply Dev.kept_testUndone
    | with_reducible apply Dev.kept_disagreeCharge
    | with_reducible apply Dev.kept_haltTriad
    | with_reducible apply Dev.kept_goBack
    | with_reducible apply Dev.kept_ite)

theorem Dev.kept_triadRestart {z : Nat} {t : Nat} {katFails : List (Fin 3)} {d : Dev} (h : d.kept z) : (Dev.triadRestart t katFails d).kept z := by
  unfold Dev.triadRestart
  repeat' (first
    | with_reducible assumption
    | with_reducible apply Dev.kept_triadDisagree
    | with_reducible apply Dev.kept_ite)

theorem Dev.kept_triadCheckpoint {z : Nat} {t : Nat} {minority : Option (Fin 3)} {split : Bool} {d : Dev} (h : d.kept z) : (Dev.triadCheckpoint t minority split d).kept z := by
  unfold Dev.triadCheckpoint
  repeat' (first
    | with_reducible assumption
    | with_reducible apply Dev.kept_triadDisagree
    | with_reducible apply Dev.kept_checkpoint
    | with_reducible apply Dev.kept_minority
    | with_reducible apply Dev.kept_setF
    | with_reducible apply Dev.kept_incSat
    | with_reducible apply Dev.kept_evt
    | with_reducible apply Dev.kept_gust
    | with_reducible apply Dev.kept_ite
    | split
    | dsimp only)

theorem Dev.kept_replayDone {z : Nat} {t : Nat} {d : Dev} (h : d.kept z) : (Dev.replayDone t d).kept z := by
  unfold Dev.replayDone
  repeat' (first
    | with_reducible assumption
    | intro h
    | with_reducible refine Dev.kept_modTriad (fun _ => rfl) ?_
    | with_reducible apply Dev.kept_when
    | with_reducible apply Dev.kept_setF
    | with_reducible apply Dev.kept_ite
    | fail_if_no_progress with_reducible refine Dev.kept_mk ?_ rfl)

theorem Dev.kept_gustDown {z : Nat} {k : Nat} {d : Dev} (h : d.kept z) : (Dev.gustDown k d).kept z := by
  unfold Dev.gustDown
  repeat' (first
    | with_reducible assumption
    | with_reducible apply Dev.kept_setF)

theorem Dev.kept_gustDecay {z : Nat} {d : Dev} (h : d.kept z) : (Dev.gustDecay d).kept z := by
  unfold Dev.gustDecay
  repeat' (first
    | with_reducible assumption
    | intro h
    | with_reducible apply Dev.kept_forEach
    | with_reducible apply Dev.kept_gustDown
    | with_reducible apply Dev.kept_ite)

theorem Dev.kept_gustClear {z : Nat} {res : Nat} {d : Dev} (h : d.kept z) : (Dev.gustClear res d).kept z := by
  unfold Dev.gustClear
  repeat' (first
    | with_reducible assumption
    | intro h
    | with_reducible apply Dev.kept_forEach
    | with_reducible apply Dev.kept_setF
    | with_reducible apply Dev.kept_evt
    | fail_if_no_progress with_reducible refine Dev.kept_mk ?_ rfl)

theorem Dev.kept_cullClear {z : Nat} {res : Nat} {d : Dev} (h : d.kept z) : (Dev.cullClear res d).kept z := by
  unfold Dev.cullClear
  dsimp only
  apply Dev.kept_evt
  apply Dev.kept_setF
  obtain ⟨m, ⟨r1, r2, r3, r4, r⟩, k⟩ := h
  exact ⟨m, ⟨r1, cullOk_filter _ _ r2, cullOk_filter _ _ r3, cullOk_filter _ _ r4, r⟩, k⟩

theorem Dev.kept_cullPersist {z : Nat} {d : Dev} (h : d.kept z) : (Dev.cullPersist d).kept z := by
  unfold Dev.cullPersist
  repeat' (first
    | with_reducible assumption
    | intro h
    | with_reducible apply Dev.kept_persistCull
    | with_reducible apply Dev.kept_ite)

theorem Dev.kept_cmdEnter {z : Nat} {f st cause : Nat} {d : Dev} (h : d.kept z) : (Dev.cmdEnter f st cause d).kept z := by
  unfold Dev.cmdEnter
  repeat' (first
    | with_reducible assumption
    | intro h
    | with_reducible apply Dev.kept_reqSafe
    | with_reducible apply Dev.kept_safeCommand
    | with_reducible apply Dev.kept_fnOutcome
    | with_reducible apply Dev.kept_ite
    | fail_if_no_progress with_reducible refine Dev.kept_mk ?_ rfl)

theorem Dev.kept_cmdEnable {z : Nat} {f : Nat} {d : Dev} (h : d.kept z) : (Dev.cmdEnable f d).kept z := by
  unfold Dev.cmdEnable
  repeat' (first
    | with_reducible assumption
    | intro h
    | with_reducible apply Dev.kept_reqEnable
    | with_reducible apply Dev.kept_evt
    | with_reducible apply Dev.kept_enableOutcome
    | with_reducible apply Dev.kept_startEnable
    | with_reducible apply Dev.kept_ite)

theorem Dev.kept_disableOutcome {z : Nat} {f : Nat} {d : Dev} (h : d.kept z) : (Dev.disableOutcome f d).kept z := by
  unfold Dev.disableOutcome
  repeat' (first
    | with_reducible assumption
    | with_reducible apply Dev.kept_reqDisable
    | with_reducible apply Dev.kept_fnOutcome
    | with_reducible apply Dev.kept_ite
    | fail_if_no_progress with_reducible refine Dev.kept_mk ?_ rfl)

theorem Dev.kept_cmdDisable {z : Nat} {f : Nat} {d : Dev} (h : d.kept z) : (Dev.cmdDisable f d).kept z := by
  unfold Dev.cmdDisable
  repeat' (first
    | with_reducible assumption
    | intro h
    | with_reducible apply Dev.kept_when
    | with_reducible apply Dev.kept_disableFn
    | with_reducible apply Dev.kept_enableOutcome
    | with_reducible apply Dev.kept_disableOutcome
    | with_reducible apply Dev.kept_ite)

theorem Dev.kept_ackAxis {z : Nat} {u : Nat} {d : Dev} (h : d.kept z) : (Dev.ackAxis u d).kept z := by
  unfold Dev.ackAxis
  repeat' (first
    | with_reducible assumption
    | with_reducible apply Dev.kept_setF
    | with_reducible apply Dev.kept_setPhase
    | with_reducible apply Dev.kept_ite)

theorem Dev.kept_cmdAck {z : Nat} {f : Nat} {d : Dev} (h : d.kept z) : (Dev.cmdAck f d).kept z := by
  unfold Dev.cmdAck
  repeat' (first
    | with_reducible assumption
    | intro h
    | with_reducible apply Dev.kept_forEach
    | with_reducible apply Dev.kept_setF
    | with_reducible apply Dev.kept_ackAxis
    | with_reducible apply Dev.kept_sendFn
    | with_reducible apply Dev.kept_ite
    | fail_if_no_progress with_reducible refine Dev.kept_mk ?_ rfl)

theorem Dev.kept_fnCmd {z : Nat} {triad : Nat} {all : Bool} {f : Nat} {op : Nat → Dev → Dev} {d : Dev}
    (hop : ∀ n d, Dev.kept z d → (op n d).kept z) (h : d.kept z) : (Dev.fnCmd triad all f op d).kept z := by
  unfold Dev.fnCmd
  exact Dev.kept_ite (Dev.kept_lockedWrite h) (Dev.kept_forEach hop h)

theorem Dev.kept_fnRequest {z : Nat} {f st : Nat} {d : Dev} (h : d.kept z) : (Dev.fnRequest f st d).kept z := by
  unfold Dev.fnRequest
  repeat' (first
    | with_reducible assumption
    | with_reducible apply Dev.kept_evt)

theorem Dev.kept_reqEnable {z : Nat} {f st : Nat} {d : Dev} (h : d.kept z) : (Dev.reqEnable f st d).kept z := by
  unfold Dev.reqEnable
  repeat' (first
    | with_reducible assumption
    | with_reducible apply Dev.kept_fnRequest
    | fail_if_no_progress with_reducible refine Dev.kept_mk ?_ rfl)

theorem Dev.kept_reqDisable {z : Nat} {f st : Nat} {d : Dev} (h : d.kept z) : (Dev.reqDisable f st d).kept z := by
  unfold Dev.reqDisable
  repeat' (first
    | with_reducible assumption
    | with_reducible apply Dev.kept_fnRequest
    | fail_if_no_progress with_reducible refine Dev.kept_mk ?_ rfl)

theorem Dev.kept_reqSafe {z : Nat} {f st : Nat} {d : Dev} (h : d.kept z) : (Dev.reqSafe f st d).kept z := by
  unfold Dev.reqSafe
  repeat' (first
    | with_reducible assumption
    | intro h
    | with_reducible apply Dev.kept_fnRequest
    | with_reducible apply Dev.kept_fnOutcome
    | with_reducible apply Dev.kept_ite
    | fail_if_no_progress with_reducible refine Dev.kept_mk ?_ rfl)

theorem Dev.kept_brakeTimeout {z : Nat} {f : Nat} {d : Dev} (h : d.kept z) : (Dev.brakeTimeout f d).kept z := by
  unfold Dev.brakeTimeout
  repeat' (first
    | with_reducible assumption
    | intro h
    | with_reducible apply Dev.kept_forEach
    | with_reducible apply Dev.kept_setF
    | with_reducible apply Dev.kept_legRefresh
    | with_reducible apply Dev.kept_sendFn
    | with_reducible apply Dev.kept_ite)

theorem Dev.kept_t0Kick {z : Nat} {triad : Nat} {v : W} {d : Dev} (h : d.kept z) : (Dev.t0Kick triad v d).kept z := by
  unfold Dev.t0Kick
  repeat' (first
    | with_reducible assumption
    | with_reducible apply Dev.kept_lockedWrite
    | with_reducible apply Dev.kept_ite
    | fail_if_no_progress with_reducible refine Dev.kept_mk ?_ rfl)

theorem Dev.kept_t0Missed {z : Nat} {d : Dev} (h : d.kept z) : (Dev.t0Missed d).kept z := by
  unfold Dev.t0Missed
  repeat' (first
    | with_reducible assumption
    | with_reducible apply Dev.kept_setF
    | with_reducible apply Dev.kept_fatal
    | with_reducible apply Dev.kept_goBack
    | with_reducible apply Dev.kept_ite
    | fail_if_no_progress with_reducible refine Dev.kept_mk ?_ rfl)

theorem Dev.kept_wdgMiss {z : Nat} {n : Nat} {early : Bool} {d : Dev} (h : d.kept z) : (Dev.wdgMiss n early d).kept z := by
  unfold Dev.wdgMiss
  repeat' (first
    | with_reducible assumption
    | intro h
    | with_reducible apply Dev.kept_forEach
    | with_reducible apply Dev.kept_setF
    | with_reducible apply Dev.kept_incSat
    | with_reducible apply Dev.kept_evt
    | with_reducible apply Dev.kept_gafferSafe
    | fail_if_no_progress with_reducible refine Dev.kept_mk ?_ rfl)

theorem Dev.kept_wdgKick {z : Nat} {triad n : Nat} {v : W} {d : Dev} (h : d.kept z) : (Dev.wdgKick triad n v d).kept z := by
  unfold Dev.wdgKick
  repeat' (first
    | with_reducible assumption
    | with_reducible apply Dev.kept_lockedWrite
    | with_reducible apply Dev.kept_wdgMiss
    | with_reducible apply Dev.kept_ite
    | fail_if_no_progress with_reducible refine Dev.kept_mk ?_ rfl)

theorem Dev.kept_wdgLate {z : Nat} {n : Nat} {d : Dev} (h : d.kept z) : (Dev.wdgLate n d).kept z := by
  unfold Dev.wdgLate
  repeat' (first
    | with_reducible assumption
    | with_reducible apply Dev.kept_wdgMiss
    | with_reducible apply Dev.kept_ite)

theorem Dev.kept_safeqPop {z : Nat} {d : Dev} (h : d.kept z) : (Dev.safeqPop d).2.kept z := by
  unfold Dev.safeqPop
  split
  · exact h
  · rename_i c r hq
    refine Dev.kept_when (fun d h => Dev.kept_dropLine h) ?_
    obtain ⟨m, ⟨r1, r⟩, k⟩ := h
    refine ⟨m, ⟨?_, r⟩, k⟩
    rw [hq, List.length_cons] at r1
    exact Nat.le_trans (Nat.le_succ _) r1

end Sys2Proof.Machine
end

