-- ==== Sys2Proof/Laws/KeptSig.lean ====
section
/-! SUPPORT. What every operation keeps. -/

namespace Sys2Proof.Machine

theorem Dev.kept_postEgress {z : Nat} {e : Nat} {fwd : Bool} {x : Desc} {d : Dev} (h : d.kept z) :
    (Dev.postEgress e fwd x d).kept z := by
  unfold Dev.postEgress
  split
  · exact Dev.kept_setF h
  · rename_i q _
    have h1 := Dev.kept_post (poster := 4) (q := q) (x := x) h
    generalize d.post 4 q x = p at h1
    split
    · exact Dev.kept_incSat (Dev.kept_setF h1)
    · exact Dev.kept_when (fun d h => Dev.kept_incSat h) h1

theorem Dev.kept_noRoute {z : Nat} {e : Nat} {d : Dev} (h : d.kept z) : (Dev.noRoute e d).kept z := by
  unfold Dev.noRoute
  repeat' (first
    | with_reducible assumption
    | with_reducible apply Dev.kept_incSat
    | with_reducible apply Dev.kept_setF
    | with_reducible apply Dev.kept_evt)

theorem Dev.kept_domSend {z : Nat} {kind dst n : Nat} {body : List Byte} {d : Dev} (h : d.kept z) : (Dev.domSend kind dst n body d).kept z := by
  unfold Dev.domSend
  repeat' (first
    | with_reducible assumption
    | intro h
    | with_reducible apply Dev.kept_forEach
    | with_reducible apply Dev.kept_ask
    | with_reducible apply Dev.kept_postEgress
    | with_reducible apply Dev.kept_noRoute
    | with_reducible apply Dev.kept_ite
    | split
    | dsimp only)

theorem Dev.kept_reply {z : Nat} {src dque sque code : Nat} {loc : Bool} {seq : Nat} {d : Dev} (h : d.kept z) : (Dev.reply src dque sque code loc seq d).kept z := by
  unfold Dev.reply
  repeat' (first
    | with_reducible assumption
    | with_reducible apply Dev.kept_domSend)

theorem Dev.kept_forward {z : Nat} {e : Nat} {x : Desc} {d : Dev} (h : d.kept z) : (Dev.forward e x d).kept z := by
  unfold Dev.forward
  repeat' (first
    | with_reducible assumption
    | intro h
    | with_reducible apply Dev.kept_forEach
    | with_reducible apply Dev.kept_incSat
    | with_reducible apply Dev.kept_setF
    | with_reducible apply Dev.kept_evtRated
    | with_reducible apply Dev.kept_postEgress
    | with_reducible apply Dev.kept_noRoute
    | with_reducible apply Dev.kept_reply
    | with_reducible apply Dev.kept_ite
    | split
    | dsimp only
    | fail_if_no_progress with_reducible refine Dev.kept_mk ?_ rfl)

theorem Dev.kept_mapResult {z : Nat} {code : Nat} {d : Dev} (h : d.kept z) : (Dev.mapResult code d).kept z := by
  unfold Dev.mapResult
  repeat' (first
    | with_reducible assumption
    | with_reducible apply Dev.kept_wr)

theorem Dev.kept_mapPosted {z : Nat} {p : Option Nat × Nat × Dev} (h : p.2.2.kept z) : (mapPosted p).kept z := by
  unfold mapPosted
  split
  · exact Dev.kept_mapResult h
  · exact Dev.kept_mapResult (Dev.kept_setF h)
  · exact h

theorem Dev.kept_mapTx {z : Nat} {v : W} {d : Dev} (h : d.kept z) : (Dev.mapTx v d).kept z := by
  unfold Dev.mapTx
  refine Dev.kept_ite h ?_
  dsimp only
  have h1 : Dev.kept z (d.wr SIG_MAPRES 0) := Dev.kept_wr h
  generalize d.wr SIG_MAPRES 0 = d1 at h1
  split
  · split
    · exact Dev.kept_mapPosted (Dev.kept_post (Dev.kept_incSat h1))
    · exact Dev.kept_mapResult h1
  · exact Dev.kept_mapResult h1

theorem Dev.kept_publish {z : Nat} {xs : List Nat} {d : Dev} (h : d.kept z) : (Dev.publish xs d).kept z := by
  unfold Dev.publish
  repeat' (first
    | with_reducible assumption
    | intro h
    | with_reducible apply Dev.kept_foldl
    | with_reducible apply Dev.kept_domSend)

theorem Dev.kept_publishRound {z : Nat} {d : Dev} (h : d.kept z) : (Dev.publishRound d).kept z := by
  unfold Dev.publishRound
  repeat' (first
    | with_reducible assumption
    | with_reducible apply Dev.kept_publish
    | with_reducible apply Dev.kept_ite
    | fail_if_no_progress with_reducible refine Dev.kept_mk ?_ rfl)

theorem Dev.kept_onDomain {z : Nat} {q k : Nat} {f : Desc → Dev → Dev} {d : Dev} (hf : ∀ x d, Dev.kept z d → (f x d).kept z)
    (h : d.kept z) : (Dev.onDomain q k f d).kept z := by
  unfold Dev.onDomain
  split
  · exact hf _ _ (Dev.kept_sigTake h)
  · exact h

theorem Dev.kept_published {z : Nat} {x : Desc} {d : Dev} (h : d.kept z) : (Dev.published x d).kept z := by
  unfold Dev.published
  repeat' (first
    | with_reducible assumption
    | intro h
    | with_reducible apply Dev.kept_foldl
    | with_reducible apply Dev.kept_whenSome
    | with_reducible apply Dev.kept_sigWrite)

theorem Dev.kept_setStream {z : Nat} {src sq seq : Nat} {d : Dev} (h : d.kept z) : (Dev.setStream src sq seq d).kept z := by
  unfold Dev.setStream
  repeat' (first
    | with_reducible assumption
    | intro h
    | with_reducible apply Dev.kept_setF
    | with_reducible apply Dev.kept_incSat
    | with_reducible apply Dev.kept_evt
    | with_reducible apply Dev.kept_ite
    | fail_if_no_progress with_reducible refine Dev.kept_mk ?_ rfl)

theorem Dev.kept_cmdAccept {z : Nat} {x : Desc} {d : Dev} (h : d.kept z) : (Dev.cmdAccept x d).kept z := by
  unfold Dev.cmdAccept
  repeat' (first
    | with_reducible assumption
    | intro h
    | with_reducible apply Dev.kept_nextSeq
    | with_reducible apply Dev.kept_modQue
    | with_reducible apply Dev.kept_jrnRequest
    | split
    | dsimp only
    | fail_if_no_progress with_reducible refine Dev.kept_mk ?_ rfl)

theorem Dev.kept_commandIn {z : Nat} {x : Desc} {d : Dev} (h : d.kept z) : (Dev.commandIn x d).kept z := by
  unfold Dev.commandIn
  repeat' (first
    | with_reducible assumption
    | intro h
    | with_reducible apply Dev.kept_whenSome
    | with_reducible apply Dev.kept_reply
    | with_reducible apply Dev.kept_incSat
    | with_reducible apply Dev.kept_setStream
    | with_reducible apply Dev.kept_cmdAccept
    | with_reducible apply Dev.kept_ite)

theorem Dev.kept_contendAgain {z : Nat} {q : Nat} {d : Dev} (h : d.kept z) : (Dev.contendAgain q d).kept z := by
  unfold Dev.contendAgain
  repeat' (first
    | with_reducible assumption
    | intro h
    | with_reducible apply Dev.kept_putDesc
    | with_reducible apply Dev.kept_modQue
    | fail_if_no_progress with_reducible refine Dev.kept_mk ?_ rfl)

theorem Dev.kept_replyIn {z : Nat} {x : Desc} {d : Dev} (h : d.kept z) : (Dev.replyIn x d).kept z := by
  unfold Dev.replyIn
  repeat' (first
    | with_reducible assumption
    | with_reducible apply Dev.kept_qComplete
    | with_reducible apply Dev.kept_evt
    | with_reducible apply Dev.kept_contendAgain
    | with_reducible apply Dev.kept_ite
    | split
    | dsimp only)

theorem Dev.kept_replyTo {z : Nat} {q : Nat} {d : Dev} (h : d.kept z) : (Dev.replyTo q d).kept z := by
  unfold Dev.replyTo
  repeat' (first
    | with_reducible assumption
    | with_reducible apply Dev.kept_contendAgain
    | with_reducible apply Dev.kept_ite
    | split
    | dsimp only)

theorem Dev.kept_hear {z : Nat} {src : Nat} {epoch : W} {d : Dev} (h : d.kept z) : (Dev.hear src epoch d).kept z := by
  unfold Dev.hear
  repeat' (first
    | with_reducible assumption
    | intro h
    | with_reducible apply Dev.kept_ite
    | fail_if_no_progress with_reducible refine Dev.kept_mk ?_ rfl)

theorem Dev.kept_heartbeat {z : Nat} {d : Dev} (h : d.kept z) : (Dev.heartbeat d).kept z := by
  unfold Dev.heartbeat
  repeat' (first
    | with_reducible assumption
    | with_reducible apply Dev.kept_domSend)

theorem Dev.kept_sendHeartbeat {z : Nat} {d : Dev} (h : d.kept z) : (Dev.sendHeartbeat d).kept z := by
  unfold Dev.sendHeartbeat
  repeat' (first
    | with_reducible assumption
    | with_reducible apply Dev.kept_hear
    | with_reducible apply Dev.kept_heartbeat
    | with_reducible apply Dev.kept_ite)

theorem Dev.kept_closeWindow {z : Nat} {d : Dev} (h : d.kept z) : (Dev.closeWindow d).kept z := by
  unfold Dev.closeWindow
  repeat' (first
    | with_reducible assumption
    | intro h
    | with_reducible apply Dev.kept_wr
    | with_reducible apply Dev.kept_forEach
    | fail_if_no_progress with_reducible refine Dev.kept_mk ?_ rfl)

theorem Dev.kept_aggregate {z : Nat} {d : Dev} (h : d.kept z) : (Dev.aggregate d).kept z := by
  unfold Dev.aggregate
  repeat' (first
    | with_reducible assumption
    | with_reducible apply Dev.kept_closeWindow
    | with_reducible apply Dev.kept_domSend)

theorem Dev.kept_sendAggregate {z : Nat} {d : Dev} (h : d.kept z) : (Dev.sendAggregate d).kept z := by
  unfold Dev.sendAggregate
  repeat' (first
    | with_reducible assumption
    | with_reducible apply Dev.kept_hear
    | with_reducible apply Dev.kept_aggregate
    | with_reducible apply Dev.kept_ite)

theorem Dev.kept_setAgree {z : Nat} {agree : Bool} {d : Dev} (h : d.kept z) : (Dev.setAgree agree d).kept z := by
  unfold Dev.setAgree
  repeat' (first
    | with_reducible assumption
    | intro h
    | with_reducible apply Dev.kept_when
    | with_reducible apply Dev.kept_setF
    | with_reducible apply Dev.kept_evt
    | with_reducible apply Dev.kept_evtC
    | with_reducible apply Dev.kept_gafferAll
    | with_reducible apply Dev.kept_ite)

theorem Dev.kept_announce {z : Nat} {d : Dev} (h : d.kept z) : (Dev.announce d).kept z := by
  unfold Dev.announce
  repeat' (first
    | with_reducible assumption
    | with_reducible apply Dev.kept_wr
    | with_reducible apply Dev.kept_closeWindow
    | with_reducible apply Dev.kept_setAgree
    | with_reducible apply Dev.kept_domSend
    | fail_if_no_progress with_reducible refine Dev.kept_mk ?_ rfl)

theorem Dev.kept_sendAnnounce {z : Nat} {d : Dev} (h : d.kept z) : (Dev.sendAnnounce d).kept z := by
  unfold Dev.sendAnnounce
  repeat' (first
    | with_reducible assumption
    | with_reducible apply Dev.kept_announce
    | with_reducible apply Dev.kept_ite)

theorem Dev.kept_announced {z : Nat} {x : Desc} {d : Dev} (h : d.kept z) : (Dev.announced x d).kept z := by
  unfold Dev.announced
  repeat' (first
    | with_reducible assumption
    | with_reducible apply Dev.kept_wr
    | with_reducible apply Dev.kept_setAgree
    | fail_if_no_progress with_reducible refine Dev.kept_mk ?_ rfl)

theorem Dev.kept_rootSilent {z : Nat} {d : Dev} (h : d.kept z) : (Dev.rootSilent d).kept z := by
  unfold Dev.rootSilent
  repeat' (first
    | with_reducible assumption
    | with_reducible apply Dev.kept_setF
    | with_reducible apply Dev.kept_evt
    | with_reducible apply Dev.kept_ite
    | split
    | dsimp only
    | fail_if_no_progress with_reducible refine Dev.kept_mk ?_ rfl)

theorem Dev.kept_aggregateIn {z : Nat} {x : Desc} {d : Dev} (h : d.kept z) : (Dev.aggregateIn x d).kept z := by
  unfold Dev.aggregateIn
  repeat' (first
    | with_reducible assumption
    | intro h
    | with_reducible apply Dev.kept_ite
    | fail_if_no_progress with_reducible refine Dev.kept_mk ?_ rfl)

end Sys2Proof.Machine
end

