-- ==== Sys2Proof/Laws/KeptBus.lean ====
section
/-! SUPPORT. What every operation keeps. -/

namespace Sys2Proof.Machine

theorem Dev.kept_modPort {z : Nat} {n : Nat} {g : Port → Port} {d : Dev} (h : d.kept z) : (Dev.modPort n g d).kept z := by
  unfold Dev.modPort
  repeat' (first
    | with_reducible assumption
    | fail_if_no_progress with_reducible refine Dev.kept_mk ?_ rfl)

theorem Dev.kept_setBus {z : Nat} {n st : Nat} {d : Dev} (h : d.kept z) : (Dev.setBus n st d).kept z := by
  unfold Dev.setBus
  repeat' (first
    | with_reducible assumption
    | with_reducible apply Dev.kept_setF)

theorem Dev.kept_errState {z : Nat} {n : Nat} {d : Dev} (h : d.kept z) : (Dev.errState n d).kept z := by
  unfold Dev.errState
  repeat' (first
    | with_reducible assumption
    | with_reducible apply Dev.kept_setF
    | with_reducible apply Dev.kept_setBus
    | with_reducible apply Dev.kept_evt
    | with_reducible apply Dev.kept_ite)

theorem Dev.kept_noteError {z : Nat} {n code : Nat} {dataPhase : Bool} {d : Dev} (h : d.kept z) : (Dev.noteError n code dataPhase d).kept z := by
  unfold Dev.noteError
  repeat' (first
    | with_reducible assumption
    | with_reducible apply Dev.kept_incSat
    | with_reducible apply Dev.kept_setF)

theorem Dev.kept_startRecovery {z : Nat} {n : Nat} {d : Dev} (h : d.kept z) : (Dev.startRecovery n d).kept z := by
  unfold Dev.startRecovery
  repeat' (first
    | with_reducible assumption
    | intro h
    | with_reducible apply Dev.kept_modPort
    | with_reducible apply Dev.kept_setBus
    | with_reducible apply Dev.kept_setF
    | with_reducible apply Dev.kept_incSat
    | fail_if_no_progress with_reducible refine Dev.kept_mk ?_ rfl)

theorem Dev.kept_busOff {z : Nat} {n : Nat} {q : Nat} {d : Dev} (h : d.kept z) : (Dev.busOff n q d).kept z := by
  unfold Dev.busOff
  repeat' (first
    | with_reducible assumption
    | intro h
    | with_reducible apply Dev.kept_when
    | with_reducible apply Dev.kept_setBus
    | with_reducible apply Dev.kept_setF
    | with_reducible apply Dev.kept_evt
    | with_reducible apply Dev.kept_modPort
    | with_reducible apply Dev.kept_startRecovery
    | with_reducible apply Dev.kept_ite
    | fail_if_no_progress with_reducible refine Dev.kept_mk ?_ rfl)

theorem Dev.kept_offer {z : Nat} {n : Nat} {fr : Frame} {stamp : W} {self : Bool} {d : Dev} (h : d.kept z) : (Dev.offer n fr stamp self d).kept z := by
  unfold Dev.offer
  repeat' (first
    | with_reducible assumption
    | intro h
    | with_reducible apply Dev.kept_incSat
    | with_reducible apply Dev.kept_inc32
    | with_reducible apply Dev.kept_storeFrame
    | with_reducible apply Dev.kept_ite
    | split
    | dsimp only)

theorem Dev.kept_rxGood {z : Nat} {n : Nat} {d : Dev} (h : d.kept z) : (Dev.rxGood n d).kept z := by
  unfold Dev.rxGood
  repeat' (first
    | with_reducible assumption
    | with_reducible apply Dev.kept_setF
    | with_reducible apply Dev.kept_errState
    | with_reducible apply Dev.kept_ask
    | with_reducible apply Dev.kept_ite
    | split
    | dsimp only)

theorem Dev.kept_rateFound {z : Nat} {n : Nat} {d : Dev} (h : d.kept z) : (Dev.rateFound n d).kept z := by
  unfold Dev.rateFound
  repeat' (first
    | with_reducible assumption
    | intro h
    | with_reducible apply Dev.kept_modPort
    | with_reducible apply Dev.kept_setF
    | with_reducible apply Dev.kept_evt
    | with_reducible apply Dev.kept_setBus
    | fail_if_no_progress with_reducible refine Dev.kept_mk ?_ rfl)

theorem Dev.kept_rxError {z : Nat} {n code : Nat} {dataPhase eight : Bool} {d : Dev} (h : d.kept z) : (Dev.rxError n code dataPhase eight d).kept z := by
  unfold Dev.rxError
  repeat' (first
    | with_reducible assumption
    | with_reducible apply Dev.kept_incSat
    | with_reducible apply Dev.kept_noteError
    | with_reducible apply Dev.kept_setF
    | with_reducible apply Dev.kept_errState
    | with_reducible apply Dev.kept_ite)

theorem Dev.kept_frameIn {z : Nat} {n : Nat} {fr : Frame} {sof : Time} {d : Dev} (h : d.kept z) : (Dev.frameIn n fr sof d).kept z := by
  unfold Dev.frameIn
  repeat' (first
    | with_reducible assumption
    | intro h
    | with_reducible apply Dev.kept_rxError
    | with_reducible apply Dev.kept_modPort
    | with_reducible apply Dev.kept_setBus
    | with_reducible apply Dev.kept_setF
    | with_reducible apply Dev.kept_evtRated
    | with_reducible apply Dev.kept_rateFound
    | with_reducible apply Dev.kept_rxGood
    | with_reducible apply Dev.kept_inc32
    | with_reducible apply Dev.kept_offer
    | with_reducible apply Dev.kept_forward
    | with_reducible apply Dev.kept_ite
    | fail_if_no_progress with_reducible refine Dev.kept_mk ?_ rfl)

theorem Dev.kept_txStart {z : Nat} {n : Nat} {sof : Time} {d : Dev} (h : d.kept z) : (Dev.txStart n sof d).kept z := by
  unfold Dev.txStart
  repeat' (first
    | with_reducible assumption
    | intro h
    | with_reducible apply Dev.kept_settleHead
    | with_reducible apply Dev.kept_modPort
    | with_reducible apply Dev.kept_setF
    | with_reducible apply Dev.kept_ite
    | split
    | dsimp only
    | fail_if_no_progress with_reducible refine Dev.kept_mk ?_ rfl)

theorem Dev.kept_txOver {z : Nat} {n q : Nat} {d : Dev} (h : d.kept z) : (Dev.txOver n q d).kept z := by
  unfold Dev.txOver
  repeat' (first
    | with_reducible assumption
    | intro h
    | with_reducible apply Dev.kept_modPort
    | with_reducible apply Dev.kept_setF
    | with_reducible apply Dev.kept_ite
    | fail_if_no_progress with_reducible refine Dev.kept_mk ?_ rfl)

theorem Dev.kept_arbLost {z : Nat} {n : Nat} {d : Dev} (h : d.kept z) : (Dev.arbLost n d).kept z := by
  unfold Dev.arbLost
  repeat' (first
    | with_reducible assumption
    | intro h
    | with_reducible apply Dev.kept_whenSome
    | with_reducible apply Dev.kept_txOver)

theorem Dev.kept_waitDone {z : Nat} {n q : Nat} {d : Dev} (h : d.kept z) : (Dev.waitDone n q d).kept z := by
  unfold Dev.waitDone
  repeat' (first
    | with_reducible assumption
    | intro h
    | with_reducible apply Dev.kept_setF
    | with_reducible apply Dev.kept_modPort
    | with_reducible apply Dev.kept_ite
    | fail_if_no_progress with_reducible refine Dev.kept_mk ?_ rfl)

theorem Dev.kept_noteTdc {z : Nat} {n tdcv : Nat} {d : Dev} (h : d.kept z) : (Dev.noteTdc n tdcv d).kept z := by
  unfold Dev.noteTdc
  repeat' (first
    | with_reducible assumption
    | with_reducible apply Dev.kept_wr
    | with_reducible apply Dev.kept_setF
    | with_reducible apply Dev.kept_evtRated
    | with_reducible apply Dev.kept_ite)

theorem Dev.kept_secSent {z : Nat} {n tdc : Nat} {d : Dev} (h : d.kept z) : (Dev.secSent n tdc d).kept z := by
  unfold Dev.secSent
  repeat' (first
    | with_reducible assumption
    | intro h
    | with_reducible apply Dev.kept_when
    | with_reducible apply Dev.kept_txOver
    | with_reducible apply Dev.kept_inc32
    | with_reducible apply Dev.kept_setF
    | with_reducible apply Dev.kept_errState
    | with_reducible apply Dev.kept_noteTdc
    | split
    | dsimp only
    | fail_if_no_progress with_reducible refine Dev.kept_mk ?_ rfl)

theorem Dev.kept_queSent {z : Nat} {n q : Nat} {stamp : W} {tdc : Nat} {d : Dev} (h : d.kept z) : (Dev.queSent n q stamp tdc d).kept z := by
  unfold Dev.queSent
  repeat' (first
    | with_reducible assumption
    | intro h
    | with_reducible apply Dev.kept_when
    | with_reducible apply Dev.kept_putDesc
    | with_reducible apply Dev.kept_txOver
    | with_reducible apply Dev.kept_waitDone
    | with_reducible apply Dev.kept_inc32
    | with_reducible apply Dev.kept_setF
    | with_reducible apply Dev.kept_errState
    | with_reducible apply Dev.kept_noteTdc
    | with_reducible apply Dev.kept_modQue
    | with_reducible apply Dev.kept_qComplete
    | with_reducible apply Dev.kept_offer
    | with_reducible apply Dev.kept_ite
    | fail_if_no_progress with_reducible refine Dev.kept_mk ?_ rfl)

theorem Dev.kept_txComplete {z : Nat} {n : Nat} {tdc : Nat} {d : Dev} (h : d.kept z) : (Dev.txComplete n tdc d).kept z := by
  unfold Dev.txComplete
  repeat' (first
    | with_reducible assumption
    | with_reducible apply Dev.kept_secSent
    | with_reducible apply Dev.kept_queSent
    | with_reducible apply Dev.kept_ite
    | split
    | dsimp only)

theorem Dev.kept_retry {z : Nat} {n q : Nat} {d : Dev} (h : d.kept z) : (Dev.retry n q d).kept z := by
  unfold Dev.retry
  repeat' (first
    | with_reducible assumption
    | with_reducible apply Dev.kept_putDesc
    | with_reducible apply Dev.kept_waitDone
    | with_reducible apply Dev.kept_qComplete
    | with_reducible apply Dev.kept_incSat
    | with_reducible apply Dev.kept_setF
    | with_reducible apply Dev.kept_evtRated
    | with_reducible apply Dev.kept_ite
    | fail_if_no_progress with_reducible refine Dev.kept_mk ?_ rfl)

theorem Dev.kept_cancelFailed {z : Nat} {n q : Nat} {off : Bool} {d : Dev} (h : d.kept z) : (Dev.cancelFailed n q off d).kept z := by
  unfold Dev.cancelFailed
  repeat' (first
    | with_reducible assumption
    | with_reducible apply Dev.kept_waitDone
    | with_reducible apply Dev.kept_qComplete
    | with_reducible apply Dev.kept_incSat
    | with_reducible apply Dev.kept_busOff
    | with_reducible apply Dev.kept_ite)

theorem Dev.kept_txCount {z : Nat} {n q code : Nat} {dataPhase exempt : Bool} {d : Dev} (h : d.kept z) : (Dev.txCount n q code dataPhase exempt d).kept z := by
  unfold Dev.txCount
  repeat' (first
    | with_reducible assumption
    | with_reducible apply Dev.kept_noteError
    | with_reducible apply Dev.kept_txOver
    | with_reducible apply Dev.kept_setF
    | with_reducible apply Dev.kept_errState
    | with_reducible apply Dev.kept_ite)

theorem Dev.kept_txError {z : Nat} {n code : Nat} {dataPhase exempt : Bool} {d : Dev} (h : d.kept z) : (Dev.txError n code dataPhase exempt d).kept z := by
  unfold Dev.txError
  repeat' (first
    | with_reducible assumption
    | intro h
    | with_reducible apply Dev.kept_when
    | with_reducible apply Dev.kept_noteError
    | with_reducible apply Dev.kept_txOver
    | with_reducible apply Dev.kept_txCount
    | with_reducible apply Dev.kept_busOff
    | with_reducible apply Dev.kept_cancelFailed
    | with_reducible apply Dev.kept_retry
    | with_reducible apply Dev.kept_ite
    | split
    | dsimp only)

theorem Dev.kept_busRecovered {z : Nat} {n : Nat} {d : Dev} (h : d.kept z) : (Dev.busRecovered n d).kept z := by
  unfold Dev.busRecovered
  repeat' (first
    | with_reducible assumption
    | intro h
    | with_reducible apply Dev.kept_wr
    | with_reducible apply Dev.kept_modPort
    | with_reducible apply Dev.kept_setBus
    | with_reducible apply Dev.kept_evt
    | with_reducible apply Dev.kept_ite
    | fail_if_no_progress with_reducible refine Dev.kept_mk ?_ rfl)

theorem Dev.kept_busCtrl {z : Nat} {n : Nat} {v : W} {d : Dev} (h : d.kept z) : (Dev.busCtrl n v d).kept z := by
  unfold Dev.busCtrl
  repeat' (first
    | with_reducible assumption
    | with_reducible apply Dev.kept_startRecovery
    | with_reducible apply Dev.kept_ite)

theorem Dev.kept_abdDwell {z : Nat} {n : Nat} {d : Dev} (h : d.kept z) : (Dev.abdDwell n d).kept z := by
  unfold Dev.abdDwell
  repeat' (first
    | with_reducible assumption
    | intro h
    | with_reducible apply Dev.kept_modPort
    | with_reducible apply Dev.kept_setF
    | with_reducible apply Dev.kept_evt
    | with_reducible apply Dev.kept_ite
    | fail_if_no_progress with_reducible refine Dev.kept_mk ?_ rfl)

theorem Dev.kept_startAbd {z : Nat} {n : Nat} {d : Dev} (h : d.kept z) : (Dev.startAbd n d).kept z := by
  unfold Dev.startAbd
  repeat' (first
    | with_reducible assumption
    | intro h
    | with_reducible apply Dev.kept_modPort
    | with_reducible apply Dev.kept_setBus
    | with_reducible apply Dev.kept_ite
    | fail_if_no_progress with_reducible refine Dev.kept_mk ?_ rfl)

theorem Dev.kept_integrated {z : Nat} {n : Nat} {d : Dev} (h : d.kept z) : (Dev.integrated n d).kept z := by
  unfold Dev.integrated
  repeat' (first
    | with_reducible assumption
    | intro h
    | with_reducible apply Dev.kept_modPort
    | with_reducible apply Dev.kept_setBus
    | with_reducible apply Dev.kept_ite
    | fail_if_no_progress with_reducible refine Dev.kept_mk ?_ rfl)

theorem Dev.kept_unwait {z : Nat} {q : Nat} {d : Dev} (h : d.kept z) : (Dev.unwait q d).kept z := by
  unfold Dev.unwait
  repeat' (first
    | with_reducible assumption
    | intro h
    | with_reducible apply Dev.kept_forEach
    | with_reducible apply Dev.kept_waitDone
    | with_reducible apply Dev.kept_ite)

theorem Dev.kept_queExpired {z : Nat} {q : Nat} {d : Dev} (h : d.kept z) : (Dev.queExpired q d).kept z := by
  unfold Dev.queExpired
  repeat' (first
    | with_reducible assumption
    | with_reducible apply Dev.kept_unwait
    | with_reducible apply Dev.kept_qComplete
    | with_reducible apply Dev.kept_incSat
    | with_reducible apply Dev.kept_setF
    | with_reducible apply Dev.kept_evtRated
    | with_reducible apply Dev.kept_ite)

theorem Dev.kept_cancelResult {z : Nat} {q code : Nat} {d : Dev} (h : d.kept z) : (Dev.cancelResult q code d).kept z := by
  unfold Dev.cancelResult
  repeat' (first
    | with_reducible assumption
    | with_reducible apply Dev.kept_wr)

theorem Dev.kept_queCancel {z : Nat} {q : Nat} {v : W} {d : Dev} (h : d.kept z) : (Dev.queCancel q v d).kept z := by
  unfold Dev.queCancel
  repeat' (first
    | with_reducible assumption
    | intro h
    | with_reducible apply Dev.kept_setF
    | with_reducible apply Dev.kept_evt
    | with_reducible apply Dev.kept_cancelResult
    | with_reducible apply Dev.kept_modQue
    | with_reducible apply Dev.kept_incSat
    | with_reducible apply Dev.kept_unwait
    | with_reducible apply Dev.kept_qComplete
    | with_reducible apply Dev.kept_putDesc
    | with_reducible apply Dev.kept_ite
    | fail_if_no_progress with_reducible refine Dev.kept_mk ?_ rfl)

theorem Dev.kept_badIndex {z : Nat} {triad q : Nat} {rdIx : Bool} {d : Dev} (h : d.kept z) : (Dev.badIndex triad q rdIx d).kept z := by
  unfold Dev.badIndex
  repeat' (first
    | with_reducible assumption
    | with_reducible apply Dev.kept_setF
    | with_reducible apply Dev.kept_lockedWrite
    | with_reducible apply Dev.kept_ite)

theorem Dev.kept_coverPosts {z : Nat} {q : Nat} {n : Nat} {d : Dev} (h : d.kept z) : (Dev.coverPosts q n d).kept z := by
  induction n generalizing d with
  | zero => exact h
  | succ n ih =>
    unfold Dev.coverPosts
    dsimp only
    have h1 := Dev.kept_nextSeq (q := q) h
    generalize Dev.nextSeq q d = p at h1
    obtain ⟨s, d1⟩ := p
    exact ih (Dev.kept_qPush h1)

theorem Dev.kept_indexWrite {z : Nat} {triad q : Nat} {rdIx : Bool} {v : W} {d : Dev} (h : d.kept z) : (Dev.indexWrite triad q rdIx v d).kept z := by
  unfold Dev.indexWrite
  repeat' (first
    | with_reducible assumption
    | with_reducible apply Dev.kept_wr
    | with_reducible apply Dev.kept_badIndex
    | with_reducible apply Dev.kept_setFill
    | with_reducible apply Dev.kept_coverPosts
    | with_reducible apply Dev.kept_ite)

end Sys2Proof.Machine
end

