-- ==== Sys2Proof/Laws/KeptLimit.lean ====
section
/-! SUPPORT. What every operation keeps. -/

namespace Sys2Proof.Machine

theorem Dev.kept_holdBound {z : Nat} {b : Bound} {d : Dev} (h : d.kept z) : (Dev.holdBound b d).kept z := by
  unfold Dev.holdBound
  repeat' (first
    | with_reducible assumption
    | intro h
    | fail_if_no_progress with_reducible refine Dev.kept_mk ?_ rfl)

theorem Dev.kept_sigWord {z : Nat} {a : Nat} {v : W} {writer : Nat} {d : Dev} (h : d.kept z) : (Dev.sigWord a v writer d).kept z := by
  unfold Dev.sigWord
  repeat' (first
    | with_reducible assumption
    | with_reducible apply Dev.kept_sigWrite
    | with_reducible apply Dev.kept_sigPut
    | split
    | dsimp only)

theorem Dev.kept_limitWrite {z : Nat} {a : Nat} {fmask value : W} {d : Dev} (h : d.kept z) : (Dev.limitWrite a fmask value d).kept z := by
  unfold Dev.limitWrite
  repeat' (first
    | with_reducible assumption
    | with_reducible apply Dev.kept_wr
    | with_reducible apply Dev.kept_sigWord
    | with_reducible apply Dev.kept_ite)

theorem Dev.kept_putTable {z : Nat} {xs : List PEnt} {d : Dev} (h : d.kept z) (hx : xs.length ≤ 256) : (Dev.putTable xs d).kept z := by
  unfold Dev.putTable
  apply Dev.kept_setF
  obtain ⟨m, ⟨r1, r2, r3, r4, _, r⟩, k⟩ := h
  exact ⟨m, ⟨r1, r2, r3, r4, hx, r⟩, k⟩

theorem Dev.kept_persist {z : Nat} {e : PEnt} {d : Dev} (h : d.kept z) : (Dev.persist e d).kept z := by
  have hl := h.2.1.2.2.2.2.1
  unfold Dev.persist
  split
  · exact h
  · rename_i hf
    split
    · exact Dev.kept_putTable h (by rw [List.length_map]; exact hl)
    · rename_i ha
      refine Dev.kept_putTable h ?_
      rw [List.length_append]
      unfold Dev.tableFull at hf
      have ha' : d.sec.table.any (fun x => x.same e) = false := by simpa using ha
      rw [ha'] at hf
      simp only [Bool.not_false, Bool.and_true, decide_eq_true_eq] at hf
      simp only [List.length_singleton]
      omega

theorem Dev.kept_applyLimit {z : Nat} {here : Bool} {body : List Byte} {d : Dev} (h : d.kept z) : (Dev.applyLimit here body d).kept z := by
  unfold Dev.applyLimit
  repeat' (first
    | with_reducible assumption
    | intro h
    | with_reducible apply Dev.kept_audit
    | with_reducible apply Dev.kept_limitWrite
    | with_reducible apply Dev.kept_persist
    | with_reducible apply Dev.kept_ite)

end Sys2Proof.Machine
end

