-- ==== Sys2Proof/Laws/KeptReplay.lean ====
section
/-! SUPPORT. What every operation keeps. -/

namespace Sys2Proof.Machine

theorem Dev.kept_liveEnd {z : Nat} {kind que seq : Nat} {body : List Byte} {d : Dev} (h : d.kept z) : (Dev.liveEnd kind que seq body d).kept z := by
  unfold Dev.liveEnd
  repeat' (first
    | with_reducible assumption
    | intro h
    | with_reducible apply Dev.kept_jrnEnd
    | with_reducible apply Dev.kept_ite
    | fail_if_no_progress with_reducible refine Dev.kept_mk ?_ rfl)

theorem Dev.kept_commitRecord {z : Nat} {kind que seq : Nat} {body : List Byte} {loc : Bool} {d : Dev} (h : d.kept z) : (Dev.commitRecord kind que seq body loc d).kept z := by
  unfold Dev.commitRecord
  repeat' (first
    | with_reducible assumption
    | with_reducible apply Dev.kept_liveEnd
    | with_reducible apply Dev.kept_jrnCommit)

theorem Dev.kept_recoverRec {z : Nat} {r : RingRec} {d : Dev} (h : d.kept z) : (Dev.recoverRec r d).kept z := by
  unfold Dev.recoverRec
  repeat' (first
    | with_reducible assumption
    | intro h
    | with_reducible apply Dev.kept_whenSome
    | with_reducible apply Dev.kept_liveEnd
    | with_reducible apply Dev.kept_jrnEnd
    | with_reducible apply Dev.kept_ite
    | fail_if_no_progress with_reducible refine Dev.kept_mk ?_ rfl)

theorem Dev.kept_jrnRecover {z : Nat} {bad : List Nat} {d : Dev} (h : d.kept z) : (Dev.jrnRecover bad d).kept z := by
  unfold Dev.jrnRecover
  repeat' (first
    | with_reducible assumption
    | intro h
    | with_reducible apply Dev.kept_foldl
    | with_reducible apply Dev.kept_recoverRec
    | with_reducible apply Dev.kept_setF
    | with_reducible apply Dev.kept_evt
    | with_reducible apply Dev.kept_jrnFill
    | with_reducible apply Dev.kept_ite
    | fail_if_no_progress with_reducible refine Dev.kept_mk ?_ rfl)

theorem Dev.kept_setRing {z : Nat} {q : Nat} {xs : List Desc} {d : Dev} (h : d.kept z) : (Dev.setRing q xs d).kept z := by
  unfold Dev.setRing
  repeat' (first
    | with_reducible assumption
    | intro h
    | with_reducible apply Dev.kept_wr
    | with_reducible apply Dev.kept_foldl
    | with_reducible apply Dev.kept_putDesc
    | with_reducible apply Dev.kept_modQue
    | with_reducible apply Dev.kept_setF
    | with_reducible apply Dev.kept_setFill
    | fail_if_no_progress with_reducible refine Dev.kept_mk ?_ rfl)

theorem Dev.kept_jrnReplay {z : Nat} {d : Dev} (h : d.kept z) : (Dev.jrnReplay d).kept z := by
  unfold Dev.jrnReplay
  repeat' (first
    | with_reducible assumption
    | intro h
    | with_reducible apply Dev.kept_wr
    | with_reducible apply Dev.kept_forEach
    | with_reducible apply Dev.kept_foldl
    | with_reducible apply Dev.kept_wr64
    | with_reducible apply Dev.kept_setRing
    | with_reducible apply Dev.kept_evt
    | with_reducible apply Dev.kept_ite
    | fail_if_no_progress with_reducible refine Dev.kept_mk ?_ rfl)

end Sys2Proof.Machine
end

