-- ==== Sys2Proof/Laws/KeptLnk.lean ====
section
/-! SUPPORT. What every operation keeps. -/

namespace Sys2Proof.Machine

theorem Dev.kept_modLnk {z : Nat} {g : Lnk → Lnk} {d : Dev} (h : d.kept z) : (Dev.modLnk g d).kept z := by
  unfold Dev.modLnk
  repeat' (first
    | with_reducible assumption
    | fail_if_no_progress with_reducible refine Dev.kept_mk ?_ rfl)

theorem Dev.kept_linkHeads {z : Nat} {d : Dev} (h : d.kept z) : (Dev.linkHeads d).kept z := by
  unfold Dev.linkHeads
  repeat' (first
    | with_reducible assumption
    | intro h
    | with_reducible apply Dev.kept_forEach
    | with_reducible apply Dev.kept_linkHead)

theorem Dev.kept_resync {z : Nat} {d : Dev} (h : d.kept z) : (Dev.resync d).kept z := by
  unfold Dev.resync
  repeat' (first
    | with_reducible assumption
    | intro h
    | with_reducible apply Dev.kept_modLnk
    | with_reducible apply Dev.kept_setRole
    | fail_if_no_progress with_reducible refine Dev.kept_mk ?_ rfl)

theorem Dev.kept_linkDown {z : Nat} {d : Dev} (h : d.kept z) : (Dev.linkDown d).kept z := by
  unfold Dev.linkDown
  repeat' (first
    | with_reducible assumption
    | intro h
    | with_reducible apply Dev.kept_forEach
    | with_reducible apply Dev.kept_setF
    | with_reducible apply Dev.kept_evt
    | with_reducible apply Dev.kept_modLnk
    | with_reducible apply Dev.kept_setRole
    | with_reducible apply Dev.kept_resync
    | with_reducible apply Dev.kept_ite
    | fail_if_no_progress with_reducible refine Dev.kept_mk ?_ rfl)

theorem Dev.kept_sendHello {z : Nat} {d : Dev} (h : d.kept z) : (Dev.sendHello d).kept z := by
  unfold Dev.sendHello
  repeat' (first
    | with_reducible assumption
    | with_reducible apply Dev.kept_linkSend
    | with_reducible apply Dev.kept_hello
    | with_reducible apply Dev.kept_ite)

theorem Dev.kept_linkStart {z : Nat} {l latency : Nat} {d : Dev} (h : d.kept z) : (Dev.linkStart l latency d).kept z := by
  unfold Dev.linkStart
  repeat' (first
    | with_reducible assumption
    | intro h
    | with_reducible apply Dev.kept_forEach
    | with_reducible apply Dev.kept_when
    | with_reducible apply Dev.kept_setF
    | with_reducible apply Dev.kept_modLnk
    | with_reducible apply Dev.kept_evt
    | with_reducible apply Dev.kept_sendHello
    | with_reducible apply Dev.kept_linkHeads
    | with_reducible apply Dev.kept_ite
    | fail_if_no_progress with_reducible refine Dev.kept_mk ?_ rfl)

theorem Dev.kept_linkTrained {z : Nat} {lanes latency : Nat} {d : Dev} (h : d.kept z) : (Dev.linkTrained lanes latency d).kept z := by
  unfold Dev.linkTrained
  repeat' (first
    | with_reducible assumption
    | with_reducible apply Dev.kept_linkStart
    | with_reducible apply Dev.kept_ite)

theorem Dev.kept_laneDegraded {z : Nat} {k errs : Nat} {d : Dev} (h : d.kept z) : (Dev.laneDegraded k errs d).kept z := by
  unfold Dev.laneDegraded
  repeat' (first
    | with_reducible assumption
    | with_reducible apply Dev.kept_setF
    | with_reducible apply Dev.kept_evt
    | with_reducible apply Dev.kept_linkDown
    | with_reducible apply Dev.kept_ite)

theorem Dev.kept_linkRetry {z : Nat} {d : Dev} (h : d.kept z) : (Dev.linkRetry d).kept z := by
  unfold Dev.linkRetry
  repeat' (first
    | with_reducible assumption
    | with_reducible apply Dev.kept_setF
    | with_reducible apply Dev.kept_ite)

theorem Dev.kept_onLink {z : Nat} {seq : Nat} {f : Dev → Dev} {d : Dev} (hf : ∀ d, Dev.kept z d → (f d).kept z) (h : d.kept z) :
    (Dev.onLink seq f d).kept z := by
  unfold Dev.onLink
  exact Dev.kept_ite (hf _ (Dev.kept_modLnk h)) h

theorem Dev.kept_linkDone {z : Nat} {d : Dev} {x : LinkTx} (h : d.kept z) : (Dev.linkDone d x).kept z := by
  unfold Dev.linkDone
  repeat' (first
    | with_reducible assumption
    | intro h
    | with_reducible apply Dev.kept_setF
    | with_reducible apply Dev.kept_modQue
    | with_reducible apply Dev.kept_qComplete
    | with_reducible apply Dev.kept_ite
    | split
    | dsimp only
    | fail_if_no_progress with_reducible refine Dev.kept_mk ?_ rfl)

theorem Dev.kept_dropAcked {z : Nat} {upTo : Nat} {d : Dev} (h : d.kept z) : (Dev.dropAcked upTo d).kept z := by
  unfold Dev.dropAcked
  repeat' (first
    | with_reducible assumption
    | intro h
    | with_reducible apply Dev.kept_when
    | with_reducible apply Dev.kept_modLnk
    | split
    | dsimp only
    | fail_if_no_progress with_reducible refine Dev.kept_mk ?_ rfl)

theorem Dev.kept_linkAcked {z : Nat} {upTo : Nat} {d : Dev} (h : d.kept z) : (Dev.linkAcked upTo d).kept z := by
  unfold Dev.linkAcked
  repeat' (first
    | with_reducible assumption
    | intro h
    | with_reducible apply Dev.kept_foldl
    | with_reducible apply Dev.kept_linkDone
    | with_reducible apply Dev.kept_dropAcked
    | with_reducible apply Dev.kept_ite)

theorem Dev.kept_resendAll {z : Nat} {d : Dev} (h : d.kept z) : (Dev.resendAll d).kept z := by
  unfold Dev.resendAll
  repeat' (first
    | with_reducible assumption
    | intro h
    | with_reducible apply Dev.kept_modLnk
    | with_reducible apply Dev.kept_setF
    | with_reducible apply Dev.kept_ite
    | fail_if_no_progress with_reducible refine Dev.kept_mk ?_ rfl)

theorem Dev.kept_linkResend {z : Nat} {d : Dev} (h : d.kept z) : (Dev.linkResend d).kept z := by
  unfold Dev.linkResend
  repeat' (first
    | with_reducible assumption
    | intro h
    | with_reducible apply Dev.kept_resendAll
    | with_reducible apply Dev.kept_linkDown
    | with_reducible apply Dev.kept_ite)

theorem Dev.kept_nextJepoch {z : Nat} {d : Dev} (h : d.kept z) : (Dev.nextJepoch d).kept z := by
  unfold Dev.nextJepoch
  repeat' (first
    | with_reducible assumption
    | with_reducible apply Dev.kept_jrnRequest
    | fail_if_no_progress with_reducible refine Dev.kept_mk ?_ rfl)

theorem Dev.kept_claimToken {z : Nat} {d : Dev} (h : d.kept z) : (Dev.claimToken d).kept z := by
  unfold Dev.claimToken
  repeat' (first
    | with_reducible assumption
    | with_reducible apply Dev.kept_nextJepoch
    | with_reducible apply Dev.kept_setToken
    | with_reducible apply Dev.kept_setRole
    | with_reducible apply Dev.kept_startLatching)

theorem Dev.kept_candidateClaim {z : Nat} {d : Dev} (h : d.kept z) : (Dev.candidateClaim d).kept z := by
  unfold Dev.candidateClaim
  repeat' (first
    | with_reducible assumption
    | with_reducible apply Dev.kept_claimToken
    | with_reducible apply Dev.kept_ite)

theorem Dev.kept_helloNote {z : Nat} {dig0 dig1 epoch : W} {sys : Nat} {tk : Option Time} {d : Dev} (h : d.kept z) : (Dev.helloNote dig0 dig1 epoch sys tk d).kept z := by
  unfold Dev.helloNote
  repeat' (first
    | with_reducible assumption
    | intro h
    | with_reducible apply Dev.kept_wr
    | with_reducible apply Dev.kept_modLnk
    | fail_if_no_progress with_reducible refine Dev.kept_mk ?_ rfl)

theorem Dev.kept_pairMismatch {z : Nat} {d : Dev} (h : d.kept z) : (Dev.pairMismatch d).kept z := by
  unfold Dev.pairMismatch
  repeat' (first
    | with_reducible assumption
    | with_reducible apply Dev.kept_setF
    | with_reducible apply Dev.kept_evt)

theorem Dev.kept_decideRole {z : Nat} {je jp role : Nat} {d : Dev} (h : d.kept z) : (Dev.decideRole je jp role d).kept z := by
  unfold Dev.decideRole
  repeat' (first
    | with_reducible assumption
    | intro h
    | with_reducible apply Dev.kept_when
    | with_reducible apply Dev.kept_evt
    | with_reducible apply Dev.kept_resync
    | with_reducible apply Dev.kept_modLnk
    | with_reducible apply Dev.kept_candidateClaim
    | with_reducible apply Dev.kept_ite
    | fail_if_no_progress with_reducible refine Dev.kept_mk ?_ rfl)

theorem Dev.kept_hello {z : Nat} {dig0 dig1 epoch : W} {side : Bool} {je jp role sys : Nat} {tk : Option Time} {d : Dev} (h : d.kept z) : (Dev.hello dig0 dig1 epoch side je jp role sys tk d).kept z := by
  unfold Dev.hello
  repeat' (first
    | with_reducible assumption
    | intro h
    | with_reducible apply Dev.kept_helloNote
    | with_reducible apply Dev.kept_pairMismatch
    | with_reducible apply Dev.kept_setRole
    | with_reducible apply Dev.kept_modLnk
    | with_reducible apply Dev.kept_candidateClaim
    | with_reducible apply Dev.kept_decideRole
    | with_reducible apply Dev.kept_ite
    | split
    | dsimp only
    | fail_if_no_progress with_reducible refine Dev.kept_mk ?_ rfl)

theorem Dev.kept_soloClaim {z : Nat} {d : Dev} (h : d.kept z) : (Dev.soloClaim d).kept z := by
  unfold Dev.soloClaim
  repeat' (first
    | with_reducible assumption
    | with_reducible apply Dev.kept_claimToken
    | with_reducible apply Dev.kept_ite)

theorem Dev.kept_sendHb {z : Nat} {d : Dev} (h : d.kept z) : (Dev.sendHb d).kept z := by
  unfold Dev.sendHb
  repeat' (first
    | with_reducible assumption
    | with_reducible apply Dev.kept_linkSend)

theorem Dev.kept_checkCaughtUp {z : Nat} {d : Dev} (h : d.kept z) : (Dev.checkCaughtUp d).kept z := by
  unfold Dev.checkCaughtUp
  repeat' (first
    | with_reducible assumption
    | intro h
    | with_reducible apply Dev.kept_modLnk
    | with_reducible apply Dev.kept_ite
    | fail_if_no_progress with_reducible refine Dev.kept_mk ?_ rfl)

theorem Dev.kept_catchUp {z : Nat} {je jp : Nat} {d : Dev} (h : d.kept z) : (Dev.catchUp je jp d).kept z := by
  unfold Dev.catchUp
  repeat' (first
    | with_reducible assumption
    | intro h
    | with_reducible apply Dev.kept_foldl
    | with_reducible apply Dev.kept_linkSend
    | with_reducible apply Dev.kept_modLnk
    | split
    | dsimp only
    | fail_if_no_progress with_reducible refine Dev.kept_mk ?_ rfl)

theorem Dev.kept_hbNote {z : Nat} {role : Nat} {tok : Bool} {st : Time} {je jp sys : Nat} {warn : Bool} {d : Dev} (h : d.kept z) : (Dev.hbNote role tok st je jp sys warn d).kept z := by
  unfold Dev.hbNote
  repeat' (first
    | with_reducible assumption
    | intro h
    | with_reducible apply Dev.kept_wr
    | with_reducible apply Dev.kept_when
    | with_reducible apply Dev.kept_wr64
    | with_reducible apply Dev.kept_modLnk
    | with_reducible apply Dev.kept_catchUp
    | fail_if_no_progress with_reducible refine Dev.kept_mk ?_ rfl)

theorem Dev.kept_hbRole {z : Nat} {role : Nat} {tok : Bool} {d : Dev} (h : d.kept z) : (Dev.hbRole role tok d).kept z := by
  unfold Dev.hbRole
  repeat' (first
    | with_reducible assumption
    | with_reducible apply Dev.kept_setRole
    | with_reducible apply Dev.kept_setF
    | with_reducible apply Dev.kept_evt
    | with_reducible apply Dev.kept_checkCaughtUp
    | with_reducible apply Dev.kept_ite)

theorem Dev.kept_hbIn {z : Nat} {role : Nat} {tok : Bool} {st : Time} {je jp sys : Nat} {warn : Bool} {d : Dev} (h : d.kept z) : (Dev.hbIn role tok st je jp sys warn d).kept z := by
  unfold Dev.hbIn
  repeat' (first
    | with_reducible assumption
    | with_reducible apply Dev.kept_hbNote
    | with_reducible apply Dev.kept_hbRole)

theorem Dev.kept_tokenWire {z : Nat} {d : Dev} (h : d.kept z) : (Dev.tokenWire d).kept z := by
  unfold Dev.tokenWire
  repeat' (first
    | with_reducible assumption
    | with_reducible apply Dev.kept_releaseToken
    | with_reducible apply Dev.kept_setF
    | with_reducible apply Dev.kept_evt
    | with_reducible apply Dev.kept_ite)

theorem Dev.kept_peerLost {z : Nat} {d : Dev} (h : d.kept z) : (Dev.peerLost d).kept z := by
  unfold Dev.peerLost
  repeat' (first
    | with_reducible assumption
    | intro h
    | with_reducible apply Dev.kept_setF
    | with_reducible apply Dev.kept_modLnk
    | with_reducible apply Dev.kept_ite
    | fail_if_no_progress with_reducible refine Dev.kept_mk ?_ rfl)

theorem Dev.kept_peerSeen {z : Nat} {d : Dev} (h : d.kept z) : (Dev.peerSeen d).kept z := by
  unfold Dev.peerSeen
  repeat' (first
    | with_reducible assumption
    | intro h
    | with_reducible apply Dev.kept_setF
    | with_reducible apply Dev.kept_modLnk
    | fail_if_no_progress with_reducible refine Dev.kept_mk ?_ rfl)

theorem Dev.kept_tokenRace {z : Nat} {d : Dev} (h : d.kept z) : (Dev.tokenRace d).kept z := by
  unfold Dev.tokenRace
  repeat' (first
    | with_reducible assumption
    | intro h
    | with_reducible apply Dev.kept_when
    | with_reducible apply Dev.kept_peerSeen
    | with_reducible apply Dev.kept_releaseToken
    | with_reducible apply Dev.kept_setF
    | with_reducible apply Dev.kept_evt
    | with_reducible apply Dev.kept_ite)

theorem Dev.kept_mirrorSkip {z : Nat} {d : Dev} (h : d.kept z) : (Dev.mirrorSkip d).kept z := by
  unfold Dev.mirrorSkip
  repeat' (first
    | with_reducible assumption
    | intro h
    | with_reducible apply Dev.kept_modLnk
    | with_reducible apply Dev.kept_setF
    | with_reducible apply Dev.kept_incSat
    | with_reducible apply Dev.kept_evt
    | split
    | dsimp only
    | fail_if_no_progress with_reducible refine Dev.kept_mk ?_ rfl)

theorem Dev.kept_supercycle {z : Nat} {d : Dev} (h : d.kept z) : (Dev.supercycle d).kept z := by
  unfold Dev.supercycle
  repeat' (first
    | with_reducible assumption
    | intro h
    | with_reducible apply Dev.kept_foldl
    | with_reducible apply Dev.kept_modLnk
    | with_reducible apply Dev.kept_mirrorSkip
    | with_reducible apply Dev.kept_linkSend
    | with_reducible apply Dev.kept_setF
    | with_reducible apply Dev.kept_resync
    | with_reducible apply Dev.kept_ite
    | fail_if_no_progress with_reducible refine Dev.kept_mk ?_ rfl)

theorem Dev.kept_snapLine {z : Nat} {a : Nat} {d : Dev} (h : d.kept z) : (Dev.snapLine a d).kept z := by
  unfold Dev.snapLine
  repeat' (first
    | with_reducible assumption
    | intro h
    | with_reducible apply Dev.kept_mirrorSkip
    | with_reducible apply Dev.kept_modLnk
    | with_reducible apply Dev.kept_ite
    | fail_if_no_progress with_reducible refine Dev.kept_mk ?_ rfl)

theorem Dev.kept_mirEnd {z : Nat} {sc : Nat} {good : Bool} {blk : StateBlock} {d : Dev} (h : d.kept z) : (Dev.mirEnd sc good blk d).kept z := by
  unfold Dev.mirEnd
  repeat' (first
    | with_reducible assumption
    | intro h
    | with_reducible apply Dev.kept_modLnk
    | with_reducible apply Dev.kept_ite
    | fail_if_no_progress with_reducible refine Dev.kept_mk ?_ rfl)

theorem Dev.kept_applyStaged {z : Nat} {d : Dev} (h : d.kept z) : (Dev.applyStaged d).kept z := by
  unfold Dev.applyStaged
  split
  · exact h
  · apply Dev.kept_setF
    apply Dev.kept_setF
    apply Dev.kept_modLnk
    refine Dev.kept_foldl (fun d p h => ?_) h
    split
    · exact Dev.kept_sigt h (Mem.wf_putN _ _ _ _ h.1.2.2.2.1)
    · exact Dev.kept_unpoison (Dev.kept_sram h (Mem.wf_putN _ _ _ _ h.1.2.1))

theorem Dev.kept_syncStep {z : Nat} {d : Dev} (h : d.kept z) : (Dev.syncStep d).kept z := by
  unfold Dev.syncStep
  repeat' (first
    | with_reducible assumption
    | intro h
    | with_reducible apply Dev.kept_evt
    | with_reducible apply Dev.kept_setRole
    | with_reducible apply Dev.kept_modLnk
    | with_reducible apply Dev.kept_ite
    | fail_if_no_progress with_reducible refine Dev.kept_mk ?_ rfl)

theorem Dev.kept_mirApplied {z : Nat} {d : Dev} (h : d.kept z) : (Dev.mirApplied d).kept z := by
  unfold Dev.mirApplied
  repeat' (first
    | with_reducible assumption
    | with_reducible apply Dev.kept_applyStaged
    | with_reducible apply Dev.kept_linkSend
    | with_reducible apply Dev.kept_checkCaughtUp
    | with_reducible apply Dev.kept_syncStep
    | split
    | dsimp only)

theorem Dev.kept_jrnDiscard {z : Nat} {jp : Nat} {d : Dev} (h : d.kept z) : (Dev.jrnDiscard jp d).kept z := by
  unfold Dev.jrnDiscard
  repeat' (first
    | with_reducible assumption
    | intro h
    | with_reducible apply Dev.kept_evt
    | split
    | dsimp only
    | fail_if_no_progress with_reducible refine Dev.kept_mk ?_ rfl)

theorem Dev.kept_jrnTake {z : Nat} {jp kind que seq : Nat} {body : List Byte} {d : Dev} (h : d.kept z) : (Dev.jrnTake jp kind que seq body d).kept z := by
  unfold Dev.jrnTake
  repeat' (first
    | with_reducible assumption
    | intro h
    | with_reducible apply Dev.kept_when
    | with_reducible apply Dev.kept_commitRecord
    | with_reducible apply Dev.kept_applyLimit
    | with_reducible apply Dev.kept_linkSend
    | with_reducible apply Dev.kept_jack
    | with_reducible apply Dev.kept_checkCaughtUp
    | fail_if_no_progress with_reducible refine Dev.kept_mk ?_ rfl)

theorem Dev.kept_jrnMirrored {z : Nat} {jp kind que seq : Nat} {body : List Byte} {d : Dev} (h : d.kept z) : (Dev.jrnMirrored jp kind que seq body d).kept z := by
  unfold Dev.jrnMirrored
  repeat' (first
    | with_reducible assumption
    | intro h
    | with_reducible apply Dev.kept_when
    | with_reducible apply Dev.kept_jrnDiscard
    | with_reducible apply Dev.kept_resync
    | with_reducible apply Dev.kept_jrnTake
    | with_reducible apply Dev.kept_ite)

theorem Dev.kept_applyBlock {z : Nat} {b : StateBlock} {d : Dev} (h : d.kept z) : (Dev.applyBlock b d).kept z := by
  unfold Dev.applyBlock
  repeat' (first
    | with_reducible assumption
    | intro h
    | with_reducible apply Dev.kept_wr
    | with_reducible apply Dev.kept_foldl
    | with_reducible apply Dev.kept_modAxu
    | with_reducible apply Dev.kept_setF
    | with_reducible apply Dev.kept_modLeg
    | with_reducible apply Dev.kept_ite
    | fail_if_no_progress with_reducible refine Dev.kept_mk ?_ rfl)

theorem Dev.kept_chgResume {z : Nat} {c : Nat} {d : Dev} (h : d.kept z) : (Dev.chgResume c d).kept z := by
  unfold Dev.chgResume
  repeat' (first
    | with_reducible assumption
    | intro h
    | with_reducible apply Dev.kept_when
    | with_reducible apply Dev.kept_modChg
    | with_reducible apply Dev.kept_toPhase
    | fail_if_no_progress with_reducible refine Dev.kept_mk ?_ rfl)

theorem Dev.kept_takeover {z : Nat} {cause : Nat} {d : Dev} (h : d.kept z) : (Dev.takeover cause d).kept z := by
  unfold Dev.takeover
  repeat' (first
    | with_reducible assumption
    | intro h
    | with_reducible apply Dev.kept_wr
    | with_reducible apply Dev.kept_forEach
    | with_reducible apply Dev.kept_whenSome
    | with_reducible apply Dev.kept_setRole
    | with_reducible apply Dev.kept_applyStaged
    | with_reducible apply Dev.kept_applyBlock
    | with_reducible apply Dev.kept_wr64
    | with_reducible apply Dev.kept_realign
    | with_reducible apply Dev.kept_nextJepoch
    | with_reducible apply Dev.kept_setToken
    | with_reducible apply Dev.kept_incSat
    | with_reducible apply Dev.kept_evt
    | with_reducible apply Dev.kept_startQuick
    | with_reducible apply Dev.kept_tryEnable
    | with_reducible apply Dev.kept_chgResume
    | with_reducible apply Dev.kept_startLatching
    | with_reducible apply Dev.kept_jrnReplay
    | with_reducible apply Dev.kept_ite
    | split
    | dsimp only
    | fail_if_no_progress with_reducible refine Dev.kept_mk ?_ rfl)

theorem Dev.kept_releaseIn {z : Nat} {d : Dev} (h : d.kept z) : (Dev.releaseIn d).kept z := by
  unfold Dev.releaseIn
  repeat' (first
    | with_reducible assumption
    | with_reducible apply Dev.kept_takeover
    | with_reducible apply Dev.kept_ite)

theorem Dev.kept_hbLoss {z : Nat} {d : Dev} (h : d.kept z) : (Dev.hbLoss d).kept z := by
  unfold Dev.hbLoss
  repeat' (first
    | with_reducible assumption
    | intro h
    | with_reducible apply Dev.kept_takeover
    | with_reducible apply Dev.kept_modLnk
    | with_reducible apply Dev.kept_evt
    | with_reducible apply Dev.kept_ite
    | fail_if_no_progress with_reducible refine Dev.kept_mk ?_ rfl)

theorem Dev.kept_yieldWrite {z : Nat} {triad : Nat} {v : W} {d : Dev} (h : d.kept z) : (Dev.yieldWrite triad v d).kept z := by
  unfold Dev.yieldWrite
  repeat' (first
    | with_reducible assumption
    | intro h
    | with_reducible apply Dev.kept_lockedWrite
    | with_reducible apply Dev.kept_modLnk
    | with_reducible apply Dev.kept_evt
    | with_reducible apply Dev.kept_ite
    | fail_if_no_progress with_reducible refine Dev.kept_mk ?_ rfl)

theorem Dev.kept_retrainWrite {z : Nat} {triad : Nat} {v : W} {d : Dev} (h : d.kept z) : (Dev.retrainWrite triad v d).kept z := by
  unfold Dev.retrainWrite
  repeat' (first
    | with_reducible assumption
    | with_reducible apply Dev.kept_lockedWrite
    | with_reducible apply Dev.kept_linkDown
    | with_reducible apply Dev.kept_linkRetry
    | with_reducible apply Dev.kept_ite)

theorem Dev.kept_appliedIn {z : Nat} {sc : Nat} {d : Dev} (h : d.kept z) : (Dev.appliedIn sc d).kept z := by
  unfold Dev.appliedIn
  repeat' (first
    | with_reducible assumption
    | with_reducible apply Dev.kept_releaseToken
    | with_reducible apply Dev.kept_linkSend
    | with_reducible apply Dev.kept_ite)

theorem Dev.kept_linkFrame {z : Nat} {q : Nat} {fr : Frame} {d : Dev} (h : d.kept z) : (Dev.linkFrame q fr d).kept z := by
  unfold Dev.linkFrame
  repeat' (first
    | with_reducible assumption
    | with_reducible apply Dev.kept_storeFrame
    | with_reducible apply Dev.kept_forward
    | with_reducible apply Dev.kept_ite)

end Sys2Proof.Machine
end

