-- ==== Sys2Proof/Laws/KeptThm.lean ====
section
/-! SUPPORT. What every operation keeps. -/

namespace Sys2Proof.Machine

theorem Dev.kept_sensorState {z : Nat} {reg name : Nat} {s : Sensor} {split : Bool} {d : Dev} (h : d.kept z) :
    (Dev.sensorState reg name s split d).2.kept z := by
  unfold Dev.sensorState
  dsimp only
  have h1 := Dev.kept_setF (a := reg) (f := ⟨0, 16⟩) (v := unsignedOf 16 (s.last.getD 0)) h
  generalize d.setF reg ⟨0, 16⟩ (unsignedOf 16 (s.last.getD 0)) = d1 at h1
  repeat' split
  · exact Dev.kept_when (fun d h => Dev.kept_evt (Dev.kept_setF h)) (Dev.kept_putBit h1)
  · exact h1
  · exact Dev.kept_evt (Dev.kept_putBit h1)
  · exact h1
  · exact h1

theorem Dev.kept_toLevel {z : Nat} {l region : Nat} {temp : Int} {d : Dev} (h : d.kept z) : (Dev.toLevel l region temp d).kept z := by
  unfold Dev.toLevel
  repeat' (first
    | with_reducible assumption
    | with_reducible apply Dev.kept_setF
    | with_reducible apply Dev.kept_putBit
    | with_reducible apply Dev.kept_evt
    | with_reducible apply Dev.kept_ite)

theorem Dev.kept_pause {z : Nat} {temp : Int} {d : Dev} (h : d.kept z) : (Dev.pause temp d).kept z := by
  unfold Dev.pause
  repeat' (first
    | with_reducible assumption
    | with_reducible apply Dev.kept_setF
    | with_reducible apply Dev.kept_ite)

theorem Dev.kept_kUpdate {z : Nat} {d : Dev} (h : d.kept z) : (Dev.kUpdate d).kept z := by
  unfold Dev.kUpdate
  repeat' (first
    | with_reducible assumption
    | intro h
    | with_reducible apply Dev.kept_wr
    | with_reducible apply Dev.kept_forEach
    | with_reducible apply Dev.kept_ite
    | fail_if_no_progress with_reducible refine Dev.kept_mk ?_ rfl)

theorem Dev.kept_kStep {z : Nat} {f : Nat} {d : Dev} (h : d.kept z) : (Dev.kStep f d).kept z := by
  unfold Dev.kStep
  repeat' (first
    | with_reducible assumption
    | with_reducible apply Dev.kept_wr
    | with_reducible apply Dev.kept_ite)

theorem Dev.kept_kRise {z : Nat} {d : Dev} (h : d.kept z) : (Dev.kRise d).kept z := by
  unfold Dev.kRise
  repeat' (first
    | with_reducible assumption
    | intro h
    | with_reducible apply Dev.kept_forEach
    | with_reducible apply Dev.kept_kStep
    | with_reducible apply Dev.kept_ite
    | fail_if_no_progress with_reducible refine Dev.kept_mk ?_ rfl)

theorem Dev.kept_thmShutdown {z : Nat} {region : Nat} {temp : Int} {d : Dev} (h : d.kept z) : (Dev.thmShutdown region temp d).kept z := by
  unfold Dev.thmShutdown
  repeat' (first
    | with_reducible assumption
    | intro h
    | with_reducible refine Dev.kept_modTriad (fun _ => rfl) ?_
    | with_reducible apply Dev.kept_forEach
    | with_reducible apply Dev.kept_whenSome
    | with_reducible apply Dev.kept_undrive
    | with_reducible apply Dev.kept_setToken
    | with_reducible apply Dev.kept_setF
    | with_reducible apply Dev.kept_disableFn
    | with_reducible apply Dev.kept_txOver
    | with_reducible apply Dev.kept_setBus
    | with_reducible apply Dev.kept_modPort
    | with_reducible apply Dev.kept_jrnFlush
    | with_reducible apply Dev.kept_evt
    | with_reducible apply Dev.kept_setTmode
    | with_reducible apply Dev.kept_setSys
    | fail_if_no_progress with_reducible refine Dev.kept_mk ?_ rfl)

theorem Dev.kept_padTemps {z : Nat} {d : Dev} (h : d.kept z) : (Dev.padTemps d).kept z := by
  unfold Dev.padTemps
  repeat' (first
    | with_reducible assumption
    | intro h
    | with_reducible apply Dev.kept_forEach
    | with_reducible apply Dev.kept_modLeg
    | with_reducible apply Dev.kept_ite
    | fail_if_no_progress with_reducible refine Dev.kept_mk ?_ rfl)

theorem Dev.kept_dieTake {z : Nat} {rs : List (Option (Nat × Int))} {d : Dev} (h : d.kept z) : (Dev.dieTake rs d).kept z := by
  unfold Dev.dieTake
  dsimp only
  apply Dev.kept_setF
  apply Dev.kept_setF
  refine Dev.kept_forEach (fun n d h => Dev.kept_setF h) ?_
  refine Dev.kept_forEach (fun n d h => ?_) ?_
  · exact Dev.kept_of (Dev.kept_sensorState h) rfl rfl rfl rfl rfl rfl rfl rfl rfl rfl rfl rfl rfl rfl rfl rfl
  · refine Dev.kept_forEach (fun n d h => ?_) ?_
    · exact Dev.kept_of h rfl rfl rfl rfl rfl rfl rfl rfl rfl rfl rfl rfl rfl rfl rfl rfl
    · exact Dev.kept_of h rfl rfl rfl rfl rfl rfl rfl rfl rfl rfl rfl rfl rfl rfl rfl rfl

theorem Dev.kept_dieAct {z : Nat} {hot : Nat} {temp : Int} {d : Dev} (h : d.kept z) : (Dev.dieAct hot temp d).kept z := by
  unfold Dev.dieAct
  repeat' (first
    | with_reducible assumption
    | with_reducible apply Dev.kept_padTemps
    | with_reducible apply Dev.kept_thmShutdown
    | with_reducible apply Dev.kept_toLevel
    | with_reducible apply Dev.kept_pause
    | with_reducible apply Dev.kept_kUpdate
    | with_reducible apply Dev.kept_ite
    | fail_if_no_progress with_reducible refine Dev.kept_mk ?_ rfl)

theorem Dev.kept_dieSample {z : Nat} {rs : List (Option (Nat × Int))} {d : Dev} (h : d.kept z) : (Dev.dieSample rs d).kept z := by
  unfold Dev.dieSample
  repeat' (first
    | with_reducible assumption
    | with_reducible apply Dev.kept_dieTake
    | with_reducible apply Dev.kept_dieAct
    | with_reducible apply Dev.kept_ite)

theorem Dev.kept_ntcLevel {z : Nat} {n : Nat} {d : Dev} (h : d.kept z) : (Dev.ntcLevel n d).kept z := by
  unfold Dev.ntcLevel
  repeat' (first
    | with_reducible assumption
    | with_reducible apply Dev.kept_setF
    | with_reducible apply Dev.kept_evt
    | with_reducible apply Dev.kept_ite
    | fail_if_no_progress with_reducible refine Dev.kept_mk ?_ rfl)

theorem Dev.kept_ntcTake {z : Nat} {n : Nat} {r : Option Int} {d : Dev} (h : d.kept z) : (Dev.ntcTake n r d).kept z := by
  unfold Dev.ntcTake
  repeat' (first
    | with_reducible assumption
    | intro h
    | with_reducible apply Dev.kept_whenSome
    | with_reducible apply Dev.kept_sensorState
    | split
    | dsimp only
    | fail_if_no_progress with_reducible refine Dev.kept_mk ?_ rfl)

theorem Dev.kept_ntcSample {z : Nat} {n : Nat} {r : Option Int} {d : Dev} (h : d.kept z) : (Dev.ntcSample n r d).kept z := by
  unfold Dev.ntcSample
  repeat' (first
    | with_reducible assumption
    | with_reducible apply Dev.kept_ntcTake
    | with_reducible apply Dev.kept_ntcLevel
    | with_reducible apply Dev.kept_kUpdate
    | with_reducible apply Dev.kept_ite)

end Sys2Proof.Machine
end

