-- ==== Sys2Proof/Laws/KeptBkg.lean ====
section
/-! SUPPORT. What every operation keeps. -/

namespace Sys2Proof.Machine

theorem Dev.kept_memCorrected {z : Nat} {m addr : Nat} {d : Dev} (h : d.kept z) : (Dev.memCorrected m addr d).kept z := by
  unfold Dev.memCorrected
  repeat' (first
    | with_reducible assumption
    | with_reducible apply Dev.kept_incSat
    | with_reducible apply Dev.kept_setF
    | with_reducible apply Dev.kept_evtRated
    | fail_if_no_progress with_reducible refine Dev.kept_mk ?_ rfl)

theorem Dev.kept_memError {z : Nat} {m addr k : Nat} {d : Dev} (h : d.kept z) : (Dev.memError m addr k d).kept z := by
  unfold Dev.memError
  repeat' (first
    | with_reducible assumption
    | intro h
    | with_reducible apply Dev.kept_forEach
    | with_reducible apply Dev.kept_triadDisagree
    | with_reducible apply Dev.kept_noSubst
    | with_reducible apply Dev.kept_sigPut
    | with_reducible apply Dev.kept_setF
    | with_reducible apply Dev.kept_evt
    | with_reducible apply Dev.kept_ite
    | split
    | dsimp only
    | fail_if_no_progress with_reducible refine Dev.kept_mk ?_ rfl)

theorem Dev.kept_memUncorrectable {z : Nat} {m addr k : Nat} {d : Dev} (h : d.kept z) : (Dev.memUncorrectable m addr k d).kept z := by
  unfold Dev.memUncorrectable
  repeat' (first
    | with_reducible assumption
    | with_reducible apply Dev.kept_incSat
    | with_reducible apply Dev.kept_setF
    | with_reducible apply Dev.kept_evtC
    | with_reducible apply Dev.kept_memError
    | with_reducible apply Dev.kept_ite
    | fail_if_no_progress with_reducible refine Dev.kept_mk ?_ rfl)

theorem Dev.kept_marverRun {z : Nat} {reads : List (Nat × Nat × Int)} {us : Nat} {d : Dev} (h : d.kept z) : (Dev.marverRun reads us d).kept z := by
  unfold Dev.marverRun
  repeat' (first
    | with_reducible assumption
    | intro h
    | with_reducible apply Dev.kept_forEach
    | with_reducible apply Dev.kept_foldl
    | with_reducible apply Dev.kept_when
    | with_reducible apply Dev.kept_modLeg
    | with_reducible apply Dev.kept_dacReadback
    | with_reducible apply Dev.kept_setF
    | with_reducible apply Dev.kept_reqEnd
    | fail_if_no_progress with_reducible refine Dev.kept_mk ?_ rfl)

theorem Dev.kept_marverRound {z : Nat} {reads : List (Nat × Nat × Int)} {us : Nat} {d : Dev} (h : d.kept z) : (Dev.marverRound reads us d).kept z := by
  unfold Dev.marverRound
  repeat' (first
    | with_reducible assumption
    | with_reducible apply Dev.kept_marverRun
    | with_reducible apply Dev.kept_ite)

theorem Dev.kept_marverLate {z : Nat} {d : Dev} (h : d.kept z) : (Dev.marverLate d).kept z := by
  unfold Dev.marverLate
  repeat' (first
    | with_reducible assumption
    | with_reducible apply Dev.kept_setF
    | with_reducible apply Dev.kept_evt
    | with_reducible apply Dev.kept_ite
    | fail_if_no_progress with_reducible refine Dev.kept_mk ?_ rfl)

theorem Dev.kept_wearCheck {z : Nat} {d : Dev} (h : d.kept z) : (Dev.wearCheck d).kept z := by
  unfold Dev.wearCheck
  repeat' (first
    | with_reducible assumption
    | with_reducible apply Dev.kept_setF
    | with_reducible apply Dev.kept_evt
    | with_reducible apply Dev.kept_ite
    | fail_if_no_progress with_reducible refine Dev.kept_mk ?_ rfl)

theorem Dev.kept_coreStart {z : Nat} {c : Nat} {who : Option Nat} {d : Dev} (h : d.kept z) : (Dev.coreStart c who d).kept z := by
  unfold Dev.coreStart
  repeat' (first
    | with_reducible assumption
    | intro h
    | with_reducible apply Dev.kept_whenSome
    | with_reducible apply Dev.kept_minority
    | with_reducible apply Dev.kept_setF
    | with_reducible apply Dev.kept_reqShow
    | fail_if_no_progress with_reducible refine Dev.kept_mk ?_ rfl)

theorem Dev.kept_coreDone {z : Nat} {c : Nat} {pass : Bool} {d : Dev} (h : d.kept z) : (Dev.coreDone c pass d).kept z := by
  unfold Dev.coreDone
  repeat' (first
    | with_reducible assumption
    | intro h
    | with_reducible apply Dev.kept_when
    | with_reducible apply Dev.kept_coreStart
    | with_reducible apply Dev.kept_setF
    | with_reducible apply Dev.kept_triadResync
    | with_reducible apply Dev.kept_gale
    | with_reducible apply Dev.kept_reqServed
    | with_reducible apply Dev.kept_ite
    | split
    | dsimp only
    | fail_if_no_progress with_reducible refine Dev.kept_mk ?_ rfl)

theorem Dev.kept_corePeriodic {z : Nat} {d : Dev} (h : d.kept z) : (Dev.corePeriodic d).kept z := by
  unfold Dev.corePeriodic
  repeat' (first
    | with_reducible assumption
    | intro h
    | with_reducible apply Dev.kept_coreStart
    | with_reducible apply Dev.kept_ite
    | split
    | dsimp only
    | fail_if_no_progress with_reducible refine Dev.kept_mk ?_ rfl)

theorem Dev.kept_reqBegin {z : Nat} {t kind target : Nat} {d : Dev} (h : d.kept z) : (Dev.reqBegin t kind target d).kept z := by
  unfold Dev.reqBegin
  repeat' (first
    | with_reducible assumption
    | intro h
    | with_reducible apply Dev.kept_modLeg
    | with_reducible apply Dev.kept_coreStart
    | with_reducible apply Dev.kept_reqShow
    | with_reducible apply Dev.kept_reqEnd
    | with_reducible apply Dev.kept_ite
    | split
    | dsimp only
    | fail_if_no_progress with_reducible refine Dev.kept_mk ?_ rfl)

theorem Dev.kept_reqGrant {z : Nat} {t kind target : Nat} {d : Dev} (h : d.kept z) : (Dev.reqGrant t kind target d).kept z := by
  unfold Dev.reqGrant
  repeat' (first
    | with_reducible assumption
    | with_reducible apply Dev.kept_reqBegin
    | with_reducible apply Dev.kept_reqDefer
    | with_reducible apply Dev.kept_ite
    | fail_if_no_progress with_reducible refine Dev.kept_mk ?_ rfl)

theorem Dev.kept_bkgRequest {z : Nat} {t : Nat} {v : W} {d : Dev} (h : d.kept z) : (Dev.bkgRequest t v d).kept z := by
  unfold Dev.bkgRequest
  repeat' (first
    | with_reducible assumption
    | with_reducible apply Dev.kept_wrOwn
    | with_reducible apply Dev.kept_reqShow
    | with_reducible apply Dev.kept_reqEnd
    | with_reducible apply Dev.kept_evt
    | with_reducible apply Dev.kept_reqGrant
    | with_reducible apply Dev.kept_ite)

theorem Dev.kept_bkgDeferred {z : Nat} {t : Nat} {d : Dev} (h : d.kept z) : (Dev.bkgDeferred t d).kept z := by
  unfold Dev.bkgDeferred
  repeat' (first
    | with_reducible assumption
    | with_reducible apply Dev.kept_reqDefer
    | with_reducible apply Dev.kept_ite)

theorem Dev.kept_scrubTick {z : Nat} {d : Dev} (h : d.kept z) : (Dev.scrubTick d).kept z := by
  unfold Dev.scrubTick
  repeat' (first
    | with_reducible assumption
    | intro h
    | with_reducible apply Dev.kept_forEach
    | with_reducible apply Dev.kept_ask
    | with_reducible apply Dev.kept_incSat
    | with_reducible apply Dev.kept_setF
    | with_reducible apply Dev.kept_reqServed
    | with_reducible apply Dev.kept_ite
    | split
    | dsimp only
    | fail_if_no_progress with_reducible refine Dev.kept_mk ?_ rfl)

theorem Dev.kept_idle {z : Nat} {d : Dev} (h : d.kept z) : (Dev.idle d).kept z := by
  unfold Dev.idle
  repeat' (first
    | with_reducible assumption
    | with_reducible apply Dev.kept_at
    | with_reducible apply Dev.kept_scrubTick)

theorem Dev.kept_telRecord {z : Nat} {kind : Nat} {body : List Byte} {d : Dev} (h : d.kept z) : (Dev.telRecord kind body d).kept z := by
  unfold Dev.telRecord
  repeat' (first
    | with_reducible assumption
    | with_reducible apply Dev.kept_incSat
    | with_reducible apply Dev.kept_setF
    | with_reducible apply Dev.kept_evtRated
    | with_reducible apply Dev.kept_nextSeq
    | with_reducible apply Dev.kept_qPush
    | with_reducible apply Dev.kept_ite
    | split
    | dsimp only
    | fail_if_no_progress with_reducible refine Dev.kept_mk ?_ rfl)

theorem Dev.kept_telRecords {z : Nat} {d : Dev} (h : d.kept z) : (Dev.telRecords d).kept z := by
  unfold Dev.telRecords
  repeat' (first
    | with_reducible assumption
    | intro h
    | with_reducible apply Dev.kept_forEach
    | with_reducible apply Dev.kept_telRecord)

theorem Dev.kept_telemetry {z : Nat} {d : Dev} (h : d.kept z) : (Dev.telemetry d).kept z := by
  unfold Dev.telemetry
  repeat' (first
    | with_reducible assumption
    | with_reducible apply Dev.kept_telRecords
    | with_reducible apply Dev.kept_ite
    | fail_if_no_progress with_reducible refine Dev.kept_mk ?_ rfl)

theorem Dev.kept_telSlot {z : Nat} {d : Dev} (h : d.kept z) : (Dev.telSlot d).kept z := by
  unfold Dev.telSlot
  repeat' (first
    | with_reducible assumption
    | with_reducible apply Dev.kept_ite
    | fail_if_no_progress with_reducible refine Dev.kept_mk ?_ rfl)

end Sys2Proof.Machine
end

