-- ==== Sys2Proof/Laws/KeptSup.lean ====
section
/-! SUPPORT. What every operation keeps. -/

namespace Sys2Proof.Machine

theorem Dev.kept_feeds {z : Nat} {va vb : Nat} {d : Dev} (h : d.kept z) : (Dev.feeds va vb d).kept z := by
  unfold Dev.feeds
  repeat' (first
    | with_reducible assumption
    | with_reducible apply Dev.kept_setF
    | with_reducible apply Dev.kept_ite)

theorem Dev.kept_supEvt {z : Nat} {code f va vb : Nat} {d : Dev} (h : d.kept z) : (Dev.supEvt code f va vb d).kept z := by
  unfold Dev.supEvt
  repeat' (first
    | with_reducible assumption
    | with_reducible apply Dev.kept_evt)

theorem Dev.kept_feedWired {z : Nat} {f va vb : Nat} {d : Dev} (h : d.kept z) : (Dev.feedWired f va vb d).kept z := by
  unfold Dev.feedWired
  repeat' (first
    | with_reducible assumption
    | with_reducible apply Dev.kept_ite
    | fail_if_no_progress with_reducible refine Dev.kept_mk ?_ rfl)

theorem Dev.kept_feedsValid {z : Nat} {va vb : Nat} {d : Dev} (h : d.kept z) : (Dev.feedsValid va vb d).kept z := by
  unfold Dev.feedsValid
  repeat' (first
    | with_reducible assumption
    | intro h
    | with_reducible apply Dev.kept_ite
    | fail_if_no_progress with_reducible refine Dev.kept_mk ?_ rfl)

theorem Dev.kept_feedMissing {z : Nat} {f va vb : Nat} {d : Dev} (h : d.kept z) : (Dev.feedMissing f va vb d).kept z := by
  unfold Dev.feedMissing
  repeat' (first
    | with_reducible assumption
    | intro h
    | with_reducible apply Dev.kept_ite
    | fail_if_no_progress with_reducible refine Dev.kept_mk ?_ rfl)

theorem Dev.kept_powerOff {z : Nat} {d : Dev} (h : d.kept z) : (Dev.powerOff d).kept z := by
  obtain ⟨⟨m1, _, m3, m4, m5, m6⟩, r, ⟨_, _, _⟩, _⟩ := Dev.kept_clearBlocks h
  exact ⟨⟨m1, rfl, m3, m4, m5, m6⟩, r, ⟨Tab.wf_filter _ _ h.2.2.1.1, rfl, fun q hq => absurd hq (List.not_mem_nil)⟩, Or.inl rfl⟩

theorem Dev.kept_porAssert {z : Nat} {va vb : Nat} {d : Dev} (h : d.kept z) : (Dev.porAssert va vb d).kept z := by
  unfold Dev.porAssert
  repeat' (first
    | with_reducible assumption
    | with_reducible apply Dev.kept_wr
    | with_reducible apply Dev.kept_setF
    | with_reducible apply Dev.kept_setSys
    | with_reducible apply Dev.kept_powerOff
    | with_reducible apply Dev.kept_ite
    | fail_if_no_progress with_reducible refine Dev.kept_mk ?_ rfl)

theorem Dev.kept_railFault {z : Nat} {r : Nat} {d : Dev} (h : d.kept z) : (Dev.railFault r d).kept z := by
  unfold Dev.railFault
  repeat' (first
    | with_reducible assumption
    | intro h
    | with_reducible apply Dev.kept_wr
    | with_reducible apply Dev.kept_when
    | with_reducible apply Dev.kept_powerOff
    | with_reducible apply Dev.kept_setF
    | with_reducible apply Dev.kept_setSys
    | with_reducible apply Dev.kept_ite)

theorem Dev.kept_regs {z : Nat} {d : Dev} {xs : Tab W} (h : d.kept z) (hx : Tab.wf xs = true) : Dev.kept z { d with regs := xs } :=
  ⟨h.1, h.2.1, ⟨hx, h.2.2.1.2⟩, h.2.2.2⟩

theorem Dev.kept_powerUp {cycles va vb : Nat} {d : Dev} (h : d.kept 0) : (Dev.powerUp cycles va vb d).kept 0 := by
  unfold Dev.powerUp
  dsimp only
  have h0 : Dev.kept 0 { d with por := false, boot := { (default : Boot) with step := .waitRef } } :=
    ⟨h.1, h.2.1, h.2.2.1, Or.inr (Nat.zero_le _)⟩
  generalize ({ d with por := false, boot := { (default : Boot) with step := .waitRef } } : Dev) = d0 at h0
  have h1 : Dev.kept 0 ((d0.feeds va vb).forEach [0, 1] (fun f d => d.when (7000 < feedOf f va vb) (fun d => d.setF SUP_STAT (okField f) 1))) :=
    Dev.kept_forEach (fun n d h => Dev.kept_when (fun d h => Dev.kept_setF h) h) (Dev.kept_feeds h0)
  generalize (d0.feeds va vb).forEach [0, 1] (fun f d => d.when (7000 < feedOf f va vb) (fun d => d.setF SUP_STAT (okField f) 1)) = d1 at h1
  refine Dev.kept_ite (Dev.kept_evt (Dev.kept_setF (Dev.kept_setF (Dev.kept_wr (Dev.kept_wr ?_))))) (Dev.kept_rtcAdvance h1)
  exact Dev.kept_of (Dev.kept_regs h1 (Tab.wf_filter _ _ h1.2.2.1.1)) rfl rfl rfl rfl rfl rfl rfl rfl rfl rfl rfl rfl rfl rfl rfl rfl

theorem Dev.kept_porRelease {cycles va vb : Nat} {d : Dev} (h : d.kept 0) : (Dev.porRelease cycles va vb d).kept 0 := by
  unfold Dev.porRelease
  refine Dev.kept_ite h ?_
  dsimp only
  with_reducible refine Dev.kept_mk ?_ rfl
  exact Dev.kept_whenSome (fun f d h => Dev.kept_supEvt h) (Dev.kept_evt (Dev.kept_powerUp h))

theorem Dev.kept_dipStorm {z : Nat} {va vb : Nat} {d : Dev} (h : d.kept z) : (Dev.dipStorm va vb d).kept z := by
  unfold Dev.dipStorm
  repeat' (first
    | with_reducible assumption
    | with_reducible apply Dev.kept_setF
    | with_reducible apply Dev.kept_supEvt
    | with_reducible apply Dev.kept_ite
    | split
    | dsimp only
    | fail_if_no_progress with_reducible refine Dev.kept_mk ?_ rfl)

theorem Dev.kept_commitWarned {z : Nat} {d : Dev} (h : d.kept z) : (Dev.commitWarned d).kept z := by
  unfold Dev.commitWarned
  repeat' (first
    | with_reducible assumption
    | with_reducible apply Dev.kept_setF
    | with_reducible apply Dev.kept_evt
    | with_reducible apply Dev.kept_ite)

theorem Dev.kept_feedsFall {z : Nat} {va vb : Nat} {d : Dev} (h : d.kept z) : (Dev.feedsFall va vb d).kept z := by
  unfold Dev.feedsFall
  repeat' (first
    | with_reducible assumption
    | intro h
    | with_reducible apply Dev.kept_forEach
    | with_reducible apply Dev.kept_when
    | with_reducible apply Dev.kept_feeds
    | with_reducible apply Dev.kept_setF)

theorem Dev.kept_warnRest {z : Nat} {va vb : Nat} {d : Dev} (h : d.kept z) : (Dev.warnRest va vb d).kept z := by
  unfold Dev.warnRest
  repeat' (first
    | with_reducible assumption
    | intro h
    | with_reducible apply Dev.kept_forEach
    | with_reducible apply Dev.kept_when
    | with_reducible apply Dev.kept_incSat
    | with_reducible apply Dev.kept_setF
    | with_reducible apply Dev.kept_dipStorm
    | with_reducible apply Dev.kept_vcoreRestore
    | with_reducible apply Dev.kept_modChg
    | with_reducible apply Dev.kept_reqDefer
    | with_reducible apply Dev.kept_commitWarned
    | fail_if_no_progress with_reducible refine Dev.kept_mk ?_ rfl)

theorem Dev.kept_supWarning {z : Nat} {va vb : Nat} {d : Dev} (h : d.kept z) : (Dev.supWarning va vb d).kept z := by
  unfold Dev.supWarning
  repeat' (first
    | with_reducible assumption
    | with_reducible apply Dev.kept_feedsFall
    | with_reducible apply Dev.kept_setF
    | with_reducible apply Dev.kept_wr64
    | with_reducible apply Dev.kept_supEvt
    | with_reducible apply Dev.kept_warnRest
    | with_reducible apply Dev.kept_ite
    | fail_if_no_progress with_reducible refine Dev.kept_mk ?_ rfl)

theorem Dev.kept_recoveryStart {z : Nat} {va vb : Nat} {d : Dev} (h : d.kept z) : (Dev.recoveryStart va vb d).kept z := by
  unfold Dev.recoveryStart
  repeat' (first
    | with_reducible assumption
    | intro h
    | with_reducible apply Dev.kept_forEach
    | with_reducible apply Dev.kept_when
    | with_reducible apply Dev.kept_feeds
    | with_reducible apply Dev.kept_setF
    | with_reducible apply Dev.kept_ite
    | fail_if_no_progress with_reducible refine Dev.kept_mk ?_ rfl)

theorem Dev.kept_recoveryAbort {z : Nat} {va vb : Nat} {d : Dev} (h : d.kept z) : (Dev.recoveryAbort va vb d).kept z := by
  unfold Dev.recoveryAbort
  repeat' (first
    | with_reducible assumption
    | with_reducible apply Dev.kept_feedsFall
    | with_reducible apply Dev.kept_setF
    | with_reducible apply Dev.kept_ite)

theorem Dev.kept_recovered {z : Nat} {va vb : Nat} {d : Dev} (h : d.kept z) : (Dev.recovered va vb d).kept z := by
  unfold Dev.recovered
  repeat' (first
    | with_reducible assumption
    | intro h
    | with_reducible apply Dev.kept_forEach
    | with_reducible apply Dev.kept_feeds
    | with_reducible apply Dev.kept_setF
    | with_reducible apply Dev.kept_supEvt
    | with_reducible apply Dev.kept_modChg
    | with_reducible apply Dev.kept_ite
    | fail_if_no_progress with_reducible refine Dev.kept_mk ?_ rfl)

theorem Dev.kept_stormClear {z : Nat} {d : Dev} (h : d.kept z) : (Dev.stormClear d).kept z := by
  unfold Dev.stormClear
  repeat' (first
    | with_reducible assumption
    | with_reducible apply Dev.kept_setF
    | with_reducible apply Dev.kept_ite)

theorem Dev.kept_feedLost {z : Nat} {f va vb : Nat} {d : Dev} (h : d.kept z) : (Dev.feedLost f va vb d).kept z := by
  unfold Dev.feedLost
  repeat' (first
    | with_reducible assumption
    | with_reducible apply Dev.kept_feeds
    | with_reducible apply Dev.kept_setF
    | with_reducible apply Dev.kept_supEvt
    | with_reducible apply Dev.kept_ite)

theorem Dev.kept_feedReturn {z : Nat} {f va vb : Nat} {d : Dev} (h : d.kept z) : (Dev.feedReturn f va vb d).kept z := by
  unfold Dev.feedReturn
  repeat' (first
    | with_reducible assumption
    | with_reducible apply Dev.kept_feeds
    | with_reducible apply Dev.kept_setF
    | with_reducible apply Dev.kept_supEvt
    | with_reducible apply Dev.kept_ite)

theorem Dev.kept_overvoltage {z : Nat} {f va vb : Nat} {d : Dev} (h : d.kept z) : (Dev.overvoltage f va vb d).kept z := by
  unfold Dev.overvoltage
  repeat' (first
    | with_reducible assumption
    | with_reducible apply Dev.kept_feeds
    | with_reducible apply Dev.kept_setF
    | with_reducible apply Dev.kept_supEvt
    | with_reducible apply Dev.kept_ite
    | fail_if_no_progress with_reducible refine Dev.kept_mk ?_ rfl)

theorem Dev.kept_ovReconnect {z : Nat} {f va vb : Nat} {d : Dev} (h : d.kept z) : (Dev.ovReconnect f va vb d).kept z := by
  unfold Dev.ovReconnect
  repeat' (first
    | with_reducible assumption
    | with_reducible apply Dev.kept_feeds
    | with_reducible apply Dev.kept_setF
    | with_reducible apply Dev.kept_ite
    | fail_if_no_progress with_reducible refine Dev.kept_mk ?_ rfl)

theorem Dev.kept_vbkupMeasure {z : Nat} {mv : Nat} {d : Dev} (h : d.kept z) : (Dev.vbkupMeasure mv d).kept z := by
  unfold Dev.vbkupMeasure
  repeat' (first
    | with_reducible assumption
    | with_reducible apply Dev.kept_setF
    | fail_if_no_progress with_reducible refine Dev.kept_mk ?_ rfl)

end Sys2Proof.Machine
end

