-- ==== Sys2Proof/Laws/KeptTkp.lean ====
section
/-! SUPPORT. What every operation keeps. -/

namespace Sys2Proof.Machine

theorem Dev.kept_refDev {z : Nat} {dev : Int} {d : Dev} (h : d.kept z) : (Dev.refDev dev d).kept z := by
  unfold Dev.refDev
  repeat' (first
    | with_reducible assumption
    | with_reducible apply Dev.kept_setF)

theorem Dev.kept_refQualified {z : Nat} {dev : Int} {d : Dev} (h : d.kept z) : (Dev.refQualified dev d).kept z := by
  unfold Dev.refQualified
  repeat' (first
    | with_reducible assumption
    | with_reducible apply Dev.kept_refDev
    | with_reducible apply Dev.kept_setF
    | with_reducible apply Dev.kept_setSys
    | with_reducible apply Dev.kept_ite
    | fail_if_no_progress with_reducible refine Dev.kept_mk ?_ rfl)

theorem Dev.kept_refTimeout {z : Nat} {dev : Int} {d : Dev} (h : d.kept z) : (Dev.refTimeout dev d).kept z := by
  unfold Dev.refTimeout
  repeat' (first
    | with_reducible assumption
    | with_reducible apply Dev.kept_refDev
    | with_reducible apply Dev.kept_setF
    | with_reducible apply Dev.kept_evt
    | with_reducible apply Dev.kept_ite
    | fail_if_no_progress with_reducible refine Dev.kept_mk ?_ rfl)

theorem Dev.kept_refFail {z : Nat} {noEdge : Bool} {dev : Int} {d : Dev} (h : d.kept z) : (Dev.refFail noEdge dev d).kept z := by
  unfold Dev.refFail
  repeat' (first
    | with_reducible assumption
    | intro h
    | with_reducible apply Dev.kept_forEach
    | with_reducible apply Dev.kept_whenSome
    | with_reducible apply Dev.kept_refDev
    | with_reducible apply Dev.kept_setF
    | with_reducible apply Dev.kept_evt
    | with_reducible apply Dev.kept_gafferAll
    | with_reducible apply Dev.kept_txOver
    | with_reducible apply Dev.kept_closeWhere
    | with_reducible apply Dev.kept_linkDown
    | with_reducible apply Dev.kept_ite)

theorem Dev.kept_readStimeLo {z : Nat} {t : Nat} {d : Dev} (h : d.kept z) : (Dev.readStimeLo t d).2.kept z := by
  unfold Dev.readStimeLo
  repeat' (first
    | with_reducible assumption
    | fail_if_no_progress with_reducible refine Dev.kept_mk ?_ rfl)

theorem Dev.kept_readStimeHi {z : Nat} {t : Nat} {d : Dev} (h : d.kept z) : (Dev.readStimeHi t d).2.kept z := by
  unfold Dev.readStimeHi
  split
  · exact Dev.kept_of h rfl rfl rfl rfl rfl rfl rfl rfl rfl rfl rfl rfl rfl rfl rfl rfl
  · exact h

theorem Dev.kept_slotEnables {z : Nat} {triad : Nat} {hi : Bool} {v : W} {d : Dev} (h : d.kept z) : (Dev.slotEnables triad hi v d).kept z := by
  unfold Dev.slotEnables
  repeat' (first
    | with_reducible assumption
    | intro h
    | with_reducible apply Dev.kept_wr
    | with_reducible apply Dev.kept_forEach
    | with_reducible apply Dev.kept_lockedWrite
    | with_reducible apply Dev.kept_ite
    | fail_if_no_progress with_reducible refine Dev.kept_mk ?_ rfl)

theorem Dev.kept_freshWindow {z : Nat} {d : Dev} (h : d.kept z) : (Dev.freshWindow d).kept z := by
  unfold Dev.freshWindow
  repeat' (first
    | with_reducible assumption
    | fail_if_no_progress with_reducible refine Dev.kept_mk ?_ rfl)

theorem Dev.kept_vcoreStart {z : Nat} {d : Dev} (h : d.kept z) : (Dev.vcoreStart d).kept z := by
  unfold Dev.vcoreStart
  repeat' (first
    | with_reducible assumption
    | with_reducible apply Dev.kept_freshWindow
    | with_reducible apply Dev.kept_ite
    | split
    | dsimp only
    | fail_if_no_progress with_reducible refine Dev.kept_mk ?_ rfl)

theorem Dev.kept_vcoreWindow {z : Nat} {d : Dev} (h : d.kept z) : (Dev.vcoreWindow d).kept z := by
  unfold Dev.vcoreWindow
  repeat' (first
    | with_reducible assumption
    | intro h
    | with_reducible apply Dev.kept_when
    | with_reducible apply Dev.kept_whenSome
    | with_reducible apply Dev.kept_setF
    | with_reducible apply Dev.kept_freshWindow
    | with_reducible apply Dev.kept_ite
    | split
    | dsimp only
    | fail_if_no_progress with_reducible refine Dev.kept_mk ?_ rfl)

theorem Dev.kept_rtcOscFail {z : Nat} {d : Dev} (h : d.kept z) : (Dev.rtcOscFail d).kept z := by
  unfold Dev.rtcOscFail
  repeat' (first
    | with_reducible assumption
    | with_reducible apply Dev.kept_setF
    | with_reducible apply Dev.kept_evt
    | with_reducible apply Dev.kept_ite)

theorem Dev.kept_vbkupLoss {z : Nat} {d : Dev} (h : d.kept z) : (Dev.vbkupLoss d).kept z := by
  unfold Dev.vbkupLoss
  repeat' (first
    | with_reducible assumption
    | with_reducible apply Dev.kept_ite
    | fail_if_no_progress with_reducible refine Dev.kept_mk ?_ rfl)

theorem Dev.kept_setRtc {z : Nat} {x : Session} {v : W} {d : Dev} (h : d.kept z) : (Dev.setRtc x v d).kept z := by
  unfold Dev.setRtc
  repeat' (first
    | with_reducible assumption
    | with_reducible apply Dev.kept_wr
    | with_reducible apply Dev.kept_audit
    | fail_if_no_progress with_reducible refine Dev.kept_mk ?_ rfl)

theorem Dev.kept_rtcSetsec {z : Nat} {sid : Nat} {v : W} {audits : Bool} {d : Dev} (h : d.kept z) : (Dev.rtcSetsec sid v audits d).kept z := by
  unfold Dev.rtcSetsec
  repeat' (first
    | with_reducible assumption
    | intro h
    | with_reducible apply Dev.kept_whenSome
    | with_reducible apply Dev.kept_setRtc
    | with_reducible apply Dev.kept_ite)

theorem Dev.kept_rtcLoad {z : Nat} {d : Dev} (h : d.kept z) : (Dev.rtcLoad d).kept z := by
  unfold Dev.rtcLoad
  repeat' (first
    | with_reducible assumption
    | with_reducible apply Dev.kept_wr
    | with_reducible apply Dev.kept_setF
    | with_reducible apply Dev.kept_evt
    | with_reducible apply Dev.kept_ite
    | fail_if_no_progress with_reducible refine Dev.kept_mk ?_ rfl)

theorem Dev.kept_rtcCapGo {z : Nat} {v : W} {d : Dev} (h : d.kept z) : (Dev.rtcCapGo v d).kept z := by
  unfold Dev.rtcCapGo
  repeat' (first
    | with_reducible assumption
    | with_reducible apply Dev.kept_setF
    | with_reducible apply Dev.kept_ite
    | fail_if_no_progress with_reducible refine Dev.kept_mk ?_ rfl)

theorem Dev.kept_rtcCapDone {z : Nat} {edge : Time} {d : Dev} (h : d.kept z) : (Dev.rtcCapDone edge d).kept z := by
  unfold Dev.rtcCapDone
  repeat' (first
    | with_reducible assumption
    | with_reducible apply Dev.kept_wr
    | with_reducible apply Dev.kept_wr64
    | with_reducible apply Dev.kept_setF
    | with_reducible apply Dev.kept_ite
    | fail_if_no_progress with_reducible refine Dev.kept_mk ?_ rfl)

theorem Dev.kept_readRtcSub {z : Nat} {t : Nat} {d : Dev} (h : d.kept z) : (Dev.readRtcSub t d).2.kept z := by
  unfold Dev.readRtcSub
  repeat' (first
    | with_reducible assumption
    | fail_if_no_progress with_reducible refine Dev.kept_mk ?_ rfl)

theorem Dev.kept_readRtcSec {z : Nat} {t : Nat} {d : Dev} (h : d.kept z) : (Dev.readRtcSec t d).2.kept z := by
  unfold Dev.readRtcSec
  split
  · exact Dev.kept_of h rfl rfl rfl rfl rfl rfl rfl rfl rfl rfl rfl rfl rfl rfl rfl rfl
  · exact h

end Sys2Proof.Machine
end

