-- ==== Sys2Proof/Laws/KeptSec.lean ====
section
/-! SUPPORT. What every operation keeps. -/

namespace Sys2Proof.Machine

theorem Dev.kept_putKeys {z : Nat} {ks : List SecKey} {d : Dev} (h : d.kept z) : (Dev.putKeys ks d).kept z := by
  unfold Dev.putKeys
  repeat' (first
    | with_reducible assumption
    | intro h
    | with_reducible apply Dev.kept_wr
    | with_reducible apply Dev.kept_setF
    | fail_if_no_progress with_reducible refine Dev.kept_mk ?_ rfl)

theorem Dev.kept_denied {z : Nat} {port ctag reason : Nat} {d : Dev} (h : d.kept z) : (Dev.denied port ctag reason d).kept z := by
  unfold Dev.denied
  repeat' (first
    | with_reducible assumption
    | with_reducible apply Dev.kept_answer)

theorem Dev.kept_challenge {z : Nat} {port ctag role key : Nat} {cnonce : List Byte} {d : Dev} (h : d.kept z) : (Dev.challenge port ctag role key cnonce d).kept z := by
  unfold Dev.challenge
  repeat' (first
    | with_reducible assumption
    | with_reducible apply Dev.kept_answer
    | fail_if_no_progress with_reducible refine Dev.kept_mk ?_ rfl)

theorem Dev.kept_secOpenMsg {z : Nat} {port ctag role key : Nat} {cnonce : List Byte} {d : Dev} (h : d.kept z) : (Dev.secOpenMsg port ctag role key cnonce d).kept z := by
  unfold Dev.secOpenMsg
  repeat' (first
    | with_reducible assumption
    | with_reducible apply Dev.kept_denied
    | with_reducible apply Dev.kept_challenge
    | with_reducible apply Dev.kept_ite
    | split
    | dsimp only)

theorem Dev.kept_dropChal {z : Nat} {id : Nat} {d : Dev} (h : d.kept z) : (Dev.dropChal id d).kept z := by
  unfold Dev.dropChal
  repeat' (first
    | with_reducible assumption
    | intro h
    | fail_if_no_progress with_reducible refine Dev.kept_mk ?_ rfl)

theorem Dev.kept_openSession {z : Nat} {c : Chal} {d : Dev} (hn : d.sec.sessions.length < 4) (h : d.kept z) :
    (Dev.openSession c d).kept z := by
  unfold Dev.openSession
  dsimp only
  apply Dev.kept_answer
  apply Dev.kept_evt
  refine Dev.kept_putSessions (Dev.kept_audit (Dev.kept_of h rfl rfl rfl rfl rfl rfl rfl rfl rfl rfl rfl rfl rfl rfl rfl rfl)) ?_
  rw [List.length_append]
  exact hn

theorem Dev.kept_secProve {z : Nat} {port ctag id : Nat} {proof : List Byte} {d : Dev} (h : d.kept z) :
    (Dev.secProve port ctag id proof d).kept z := by
  unfold Dev.secProve
  split
  · exact h
  · dsimp only
    have h1 := Dev.kept_dropChal (id := id) h
    generalize d.dropChal id = d1 at h1
    refine Dev.kept_ite (Dev.kept_denied (Dev.kept_failedAttempt h1)) ?_
    split
    · exact Dev.kept_denied h1
    · rename_i hb
      refine Dev.kept_openSession ?_ h1
      unfold Dev.secBusy at hb
      simp only [Bool.or_eq_true, decide_eq_true_eq, not_or, Nat.not_le] at hb
      exact hb.1

theorem Dev.kept_proveTimeout {z : Nat} {id : Nat} {d : Dev} (h : d.kept z) : (Dev.proveTimeout id d).kept z := by
  unfold Dev.proveTimeout
  repeat' (first
    | with_reducible assumption
    | intro h
    | with_reducible apply Dev.kept_dropChal
    | with_reducible apply Dev.kept_failedAttempt
    | with_reducible apply Dev.kept_ite
    | split
    | dsimp only)

theorem Dev.kept_makerFirst {z : Nat} {port key : Nat} {pub cert : List Byte} {audits : Bool} {d : Dev} (h : d.kept z) : (Dev.makerFirst port key pub cert audits d).kept z := by
  unfold Dev.makerFirst
  repeat' (first
    | with_reducible assumption
    | with_reducible apply Dev.kept_audit
    | with_reducible apply Dev.kept_putKeys
    | with_reducible apply Dev.kept_failedAttempt
    | with_reducible apply Dev.kept_ite)

theorem Dev.kept_idleTimeout {z : Nat} {id : Nat} {d : Dev} (h : d.kept z) : (Dev.idleTimeout id d).kept z := by
  unfold Dev.idleTimeout
  repeat' (first
    | with_reducible assumption
    | intro h
    | with_reducible apply Dev.kept_idle
    | with_reducible apply Dev.kept_closeSession
    | with_reducible apply Dev.kept_ite
    | split
    | dsimp only)

theorem Dev.kept_lockoutExpire {z : Nat} {role : Nat} {d : Dev} (h : d.kept z) : (Dev.lockoutExpire role d).kept z := by
  unfold Dev.lockoutExpire
  repeat' (first
    | with_reducible assumption
    | with_reducible apply Dev.kept_setF
    | with_reducible apply Dev.kept_ite)

theorem Dev.kept_result {z : Nat} {x : Session} {code : Nat} {data : List Byte} {d : Dev} (h : d.kept z) : (Dev.result x code data d).kept z := by
  unfold Dev.result
  repeat' (first
    | with_reducible assumption
    | with_reducible apply Dev.kept_answer)

theorem Dev.kept_setSession {z : Nat} {sid : Nat} {y : Session} {d : Dev} (h : d.kept z) : (Dev.setSession sid y d).kept z := by
  unfold Dev.setSession
  refine Dev.kept_putSessions h ?_
  rw [List.length_map]
  exact h.2.1.2.2.2.2.2

theorem Dev.kept_request {z : Nat} {port ctag sid ctr op : Nat} {args auth : List Byte} {act : Session → Dev → Dev} {d : Dev}
    (ha : ∀ x d, Dev.kept z d → (act x d).kept z) (h : d.kept z) : (Dev.request port ctag sid ctr op args auth act d).kept z := by
  unfold Dev.request
  split
  · exact h
  · dsimp only
    refine Dev.kept_ite (Dev.kept_closeSession (Dev.kept_failedAttempt (Dev.kept_result h)))
      (Dev.kept_ite (ha _ _ (Dev.kept_setSession h)) (Dev.kept_result (Dev.kept_setSession h)))

theorem Dev.kept_change {z : Nat} {x : Session} {op target : Nat} {before after : List Byte} {f : Dev → Dev} {d : Dev}
    (hf : ∀ d, Dev.kept z d → (f d).kept z) (h : d.kept z) : (Dev.change x op target before after f d).kept z := by
  unfold Dev.change
  exact Dev.kept_result (hf _ (Dev.kept_audit h))

theorem Dev.kept_audited {z : Nat} {audits : Bool} {act : Session → Dev → Dev} {x : Session} {d : Dev}
    (ha : ∀ d, Dev.kept z d → (act x d).kept z) (h : d.kept z) : (Dev.audited audits act x d).kept z := by
  unfold Dev.audited
  exact Dev.kept_ite (ha _ h) (Dev.kept_result h)

theorem Dev.kept_secRead {z : Nat} {addr len : Nat} {x : Session} {d : Dev} (h : d.kept z) : (Dev.secRead addr len x d).kept z := by
  unfold Dev.secRead
  repeat' (first
    | with_reducible assumption
    | intro h
    | with_reducible apply Dev.kept_result
    | with_reducible apply Dev.kept_ite)

theorem Dev.kept_secReadAudit {z : Nat} {index count : Nat} {x : Session} {d : Dev} (h : d.kept z) : (Dev.secReadAudit index count x d).kept z := by
  unfold Dev.secReadAudit
  repeat' (first
    | with_reducible assumption
    | intro h
    | with_reducible apply Dev.kept_forEach
    | with_reducible apply Dev.kept_result
    | with_reducible apply Dev.kept_auditCheck
    | with_reducible apply Dev.kept_ite)

theorem Dev.kept_secSetLimit {z : Nat} {addr : Nat} {fmask value : W} {audits : Bool} {x : Session} {d : Dev} (h : d.kept z) : (Dev.secSetLimit addr fmask value audits x d).kept z := by
  unfold Dev.secSetLimit
  repeat' (first
    | with_reducible assumption
    | with_reducible apply Dev.kept_result
    | with_reducible apply Dev.kept_jrnRequest
    | with_reducible apply Dev.kept_ite
    | split
    | dsimp only)

theorem Dev.kept_boundEnc {z : Nat} {addr : Nat} {fmask : W} {level : Nat} {d : Dev} (h : d.kept z) : (Dev.boundEnc addr fmask level d).2.kept z := by
  unfold Dev.boundEnc
  repeat' (first
    | with_reducible assumption
    | with_reducible apply Dev.kept_ask
    | split
    | dsimp only)

theorem Dev.kept_secSetBound {z : Nat} {addr : Nat} {fmask : W} {level : Nat} {min max : W} {x : Session} {d : Dev} (h : d.kept z) : (Dev.secSetBound addr fmask level min max x d).kept z := by
  unfold Dev.secSetBound
  repeat' (first
    | with_reducible assumption
    | intro h
    | with_reducible apply Dev.kept_result
    | with_reducible apply Dev.kept_boundEnc
    | with_reducible apply Dev.kept_change
    | with_reducible apply Dev.kept_holdBound
    | with_reducible apply Dev.kept_persist
    | with_reducible apply Dev.kept_ite)

theorem Dev.kept_secCalWrite {z : Nat} {addr : Nat} {value : W} {x : Session} {d : Dev} (h : d.kept z) : (Dev.secCalWrite addr value x d).kept z := by
  unfold Dev.secCalWrite
  repeat' (first
    | with_reducible assumption
    | intro h
    | with_reducible apply Dev.kept_wr
    | with_reducible apply Dev.kept_result
    | with_reducible apply Dev.kept_change
    | with_reducible apply Dev.kept_persist
    | with_reducible apply Dev.kept_ite
    | split
    | dsimp only)

theorem Dev.kept_secResetLimits {z : Nat} {x : Session} {d : Dev} (h : d.kept z) : (Dev.secResetLimits x d).kept z := by
  unfold Dev.secResetLimits
  exact Dev.kept_change (fun d h => Dev.kept_putTable h (Nat.zero_le _)) h

theorem Dev.kept_secAck {z : Nat} {target : Nat} {audits : Bool} {x : Session} {d : Dev} (h : d.kept z) : (Dev.secAck target audits x d).kept z := by
  unfold Dev.secAck
  repeat' (first
    | with_reducible assumption
    | with_reducible apply Dev.kept_result
    | with_reducible apply Dev.kept_jrnRequest
    | with_reducible apply Dev.kept_ite)

theorem Dev.kept_secSetRtc {z : Nat} {v : W} {x : Session} {d : Dev} (h : d.kept z) : (Dev.secSetRtc v x d).kept z := by
  unfold Dev.secSetRtc
  exact Dev.kept_result (Dev.kept_setRtc h)

theorem Dev.kept_flashPut {z : Nat} {slot o : Nat} {bs : List Byte} {d : Dev} (h : d.kept z) : (Dev.flashPut slot o bs d).kept z :=
  Dev.kept_flash h (Mem.wf_putN _ _ _ _ h.1.1)

theorem Dev.kept_flashErase {z : Nat} {slot : Nat} {d : Dev} (h : d.kept z) : (Dev.flashErase slot d).kept z :=
  Dev.kept_flash h (Mem.wf_filter _ _ _ h.1.1)

theorem Dev.kept_slotBegin {z : Nat} {slot len : Nat} {sha : List Byte} {x : Session} {d : Dev} (h : d.kept z) : (Dev.slotBegin slot len sha x d).kept z := by
  unfold Dev.slotBegin
  repeat' (first
    | with_reducible assumption
    | with_reducible apply Dev.kept_result
    | with_reducible apply Dev.kept_flashErase
    | with_reducible apply Dev.kept_ite
    | fail_if_no_progress with_reducible refine Dev.kept_mk ?_ rfl)

theorem Dev.kept_slotData {z : Nat} {off : Nat} {bs : List Byte} {x : Session} {d : Dev} (h : d.kept z) : (Dev.slotData off bs x d).kept z := by
  unfold Dev.slotData
  repeat' (first
    | with_reducible assumption
    | with_reducible apply Dev.kept_result
    | with_reducible apply Dev.kept_flashPut
    | with_reducible apply Dev.kept_ite
    | split
    | dsimp only
    | fail_if_no_progress with_reducible refine Dev.kept_mk ?_ rfl)

theorem Dev.kept_slotClose {z : Nat} {w : SlotW} {x : Session} {d : Dev} (h : d.kept z) : (Dev.slotClose w x d).kept z := by
  unfold Dev.slotClose
  repeat' (first
    | with_reducible assumption
    | intro h
    | with_reducible apply Dev.kept_change
    | with_reducible apply Dev.kept_flashPut
    | fail_if_no_progress with_reducible refine Dev.kept_mk ?_ rfl)

theorem Dev.kept_slotEnd {z : Nat} {x : Session} {d : Dev} (h : d.kept z) : (Dev.slotEnd x d).kept z := by
  unfold Dev.slotEnd
  repeat' (first
    | with_reducible assumption
    | with_reducible apply Dev.kept_result
    | with_reducible apply Dev.kept_slotClose
    | with_reducible apply Dev.kept_ite
    | split
    | dsimp only
    | fail_if_no_progress with_reducible refine Dev.kept_mk ?_ rfl)

theorem Dev.kept_restartRefused {z : Nat} {cond : Nat} {d : Dev} (h : d.kept z) : (Dev.restartRefused cond d).kept z := by
  unfold Dev.restartRefused
  repeat' (first
    | with_reducible assumption
    | with_reducible apply Dev.kept_evt)

theorem Dev.kept_secRestart {z : Nat} {x : Session} {d : Dev} (h : d.kept z) : (Dev.secRestart x d).kept z := by
  unfold Dev.secRestart
  split
  · exact Dev.kept_result (Dev.kept_restartRefused h)
  · exact Dev.kept_restart (Dev.kept_change (fun d h => h) h)

theorem Dev.kept_keyInstall {z : Nat} {key role : Nat} {bs : List Byte} {certId : Nat} {cert : List Byte} {x : Session} {d : Dev} (h : d.kept z) : (Dev.keyInstall key role bs certId cert x d).kept z := by
  unfold Dev.keyInstall
  repeat' (first
    | with_reducible assumption
    | intro h
    | with_reducible apply Dev.kept_result
    | with_reducible apply Dev.kept_change
    | with_reducible apply Dev.kept_putKeys
    | with_reducible apply Dev.kept_ite)

theorem Dev.kept_keyRevoke {z : Nat} {key : Nat} {x : Session} {d : Dev} (h : d.kept z) : (Dev.keyRevoke key x d).kept z := by
  unfold Dev.keyRevoke
  repeat' (first
    | with_reducible assumption
    | intro h
    | with_reducible apply Dev.kept_result
    | with_reducible apply Dev.kept_change
    | with_reducible apply Dev.kept_putKeys
    | with_reducible apply Dev.kept_closeWhere
    | with_reducible apply Dev.kept_ite
    | split
    | dsimp only)

theorem Dev.kept_secGustClear {z : Nat} {res : Nat} {x : Session} {d : Dev} (h : d.kept z) : (Dev.secGustClear res x d).kept z := by
  unfold Dev.secGustClear
  repeat' (first
    | with_reducible assumption
    | intro h
    | with_reducible apply Dev.kept_result
    | with_reducible apply Dev.kept_change
    | with_reducible apply Dev.kept_gustClear
    | with_reducible apply Dev.kept_ite)

theorem Dev.kept_secCullClear {z : Nat} {res : Nat} {x : Session} {d : Dev} (h : d.kept z) : (Dev.secCullClear res x d).kept z := by
  unfold Dev.secCullClear
  repeat' (first
    | with_reducible assumption
    | intro h
    | with_reducible apply Dev.kept_result
    | with_reducible apply Dev.kept_change
    | with_reducible apply Dev.kept_cullClear
    | with_reducible apply Dev.kept_ite)

theorem Dev.kept_lockoutClear {z : Nat} {role : Nat} {x : Session} {d : Dev} (h : d.kept z) : (Dev.lockoutClear role x d).kept z := by
  unfold Dev.lockoutClear
  repeat' (first
    | with_reducible assumption
    | intro h
    | with_reducible apply Dev.kept_change
    | with_reducible apply Dev.kept_setF
    | with_reducible apply Dev.kept_result
    | with_reducible apply Dev.kept_ite
    | fail_if_no_progress with_reducible refine Dev.kept_mk ?_ rfl)

theorem Dev.kept_factestBegin {z : Nat} {x : Session} {d : Dev} (h : d.kept z) : (Dev.factestBegin x d).kept z := by
  unfold Dev.factestBegin
  repeat' (first
    | with_reducible assumption
    | with_reducible apply Dev.kept_audit
    | with_reducible apply Dev.kept_setF
    | fail_if_no_progress with_reducible refine Dev.kept_mk ?_ rfl)

theorem Dev.kept_secFactest {z : Nat} {test : Option (Nat × Nat × Bool)} {x : Session} {d : Dev} (h : d.kept z) : (Dev.secFactest test x d).kept z := by
  unfold Dev.secFactest
  repeat' (first
    | with_reducible assumption
    | intro h
    | with_reducible apply Dev.kept_result
    | with_reducible apply Dev.kept_factestBegin
    | with_reducible apply Dev.kept_ite
    | split
    | dsimp only)

theorem Dev.kept_secClose {z : Nat} {x : Session} {d : Dev} (h : d.kept z) : (Dev.secClose x d).kept z := by
  unfold Dev.secClose
  repeat' (first
    | with_reducible assumption
    | with_reducible apply Dev.kept_result
    | with_reducible apply Dev.kept_closeSession)

end Sys2Proof.Machine
end

