-- ==== Sys2Proof/Laws/KeptDeliver.lean ====
section
/-! SUPPORT. What every operation keeps. -/

namespace Sys2Proof.Machine

theorem Dev.kept_assuredResult {z : Nat} {t code : Nat} {d : Dev} (h : d.kept z) : (Dev.assuredResult t code d).kept z := by
  unfold Dev.assuredResult
  refine Dev.kept_modTriad (fun x => ?_) h
  split <;> rfl

theorem Dev.kept_unpost {z : Nat} {q : Nat} {d : Dev} (h : d.kept z) : (Dev.unpost q d).kept z := by
  unfold Dev.unpost
  repeat' (first
    | with_reducible assumption
    | intro h
    | with_reducible apply Dev.kept_modQue
    | fail_if_no_progress with_reducible refine Dev.kept_mk ?_ rfl)

theorem Dev.kept_ackDone {z : Nat} {x : Session} {target : Nat} {d : Dev} (h : d.kept z) : (Dev.ackDone x target d).kept z := by
  unfold Dev.ackDone
  repeat' (first
    | with_reducible assumption
    | with_reducible apply Dev.kept_audit
    | with_reducible apply Dev.kept_chgAck
    | with_reducible apply Dev.kept_ite
    | fail_if_no_progress with_reducible refine Dev.kept_mk ?_ rfl)

theorem Dev.kept_recordDone {z : Nat} {r : JReq} {loc : Bool} {d : Dev} (h : d.kept z) : (Dev.recordDone r loc d).kept z := by
  unfold Dev.recordDone
  repeat' (first
    | with_reducible assumption
    | intro h
    | with_reducible apply Dev.kept_when
    | with_reducible apply Dev.kept_whenSome
    | with_reducible apply Dev.kept_post
    | with_reducible apply Dev.kept_unpost
    | with_reducible apply Dev.kept_qPush
    | with_reducible apply Dev.kept_assuredResult
    | with_reducible apply Dev.kept_store
    | with_reducible apply Dev.kept_stored
    | with_reducible apply Dev.kept_setStream
    | with_reducible apply Dev.kept_reply
    | with_reducible apply Dev.kept_applyLimit
    | with_reducible apply Dev.kept_result
    | with_reducible apply Dev.kept_ackDone
    | with_reducible apply Dev.kept_ite
    | split
    | dsimp only
    | fail_if_no_progress with_reducible refine Dev.kept_mk ?_ rfl)

theorem Dev.kept_journalCommit {z : Nat} {d : Dev} (h : d.kept z) : (Dev.journalCommit d).kept z := by
  unfold Dev.journalCommit
  repeat' (first
    | with_reducible assumption
    | intro h
    | with_reducible apply Dev.kept_when
    | with_reducible apply Dev.kept_commitRecord
    | with_reducible apply Dev.kept_linkSend
    | with_reducible apply Dev.kept_modLnk
    | with_reducible apply Dev.kept_recordDone
    | with_reducible apply Dev.kept_commitWarned
    | with_reducible apply Dev.kept_ite
    | split
    | dsimp only
    | fail_if_no_progress with_reducible refine Dev.kept_mk ?_ rfl)

theorem Dev.kept_jack {z : Nat} {jp : Nat} {d : Dev} (h : d.kept z) : (Dev.jack jp d).kept z := by
  unfold Dev.jack
  repeat' (first
    | with_reducible assumption
    | intro h
    | with_reducible apply Dev.kept_foldl
    | with_reducible apply Dev.kept_recordDone
    | fail_if_no_progress with_reducible refine Dev.kept_mk ?_ rfl)

theorem Dev.kept_jackTimeout {z : Nat} {d : Dev} (h : d.kept z) : (Dev.jackTimeout d).kept z := by
  unfold Dev.jackTimeout
  repeat' (first
    | with_reducible assumption
    | intro h
    | with_reducible apply Dev.kept_foldl
    | with_reducible apply Dev.kept_when
    | with_reducible apply Dev.kept_setRole
    | with_reducible apply Dev.kept_setF
    | with_reducible apply Dev.kept_evt
    | with_reducible apply Dev.kept_recordDone
    | with_reducible apply Dev.kept_ite
    | fail_if_no_progress with_reducible refine Dev.kept_mk ?_ rfl)

end Sys2Proof.Machine
end

