-- ==== Sys2Proof/Laws/KeptBoot.lean ====
section
/-! SUPPORT. What every operation keeps. -/

namespace Sys2Proof.Machine

theorem Dev.kept_toStep {z : Nat} {x : BootStep} {d : Dev} (h : d.kept z) : (Dev.toStep x d).kept z := by
  unfold Dev.toStep
  repeat' (first
    | with_reducible assumption
    | fail_if_no_progress with_reducible refine Dev.kept_mk ?_ rfl)

theorem Dev.kept_clearApplied {z : Nat} {d : Dev} (h : d.kept z) : (Dev.clearApplied d).kept z := by
  unfold Dev.clearApplied
  dsimp only
  have h1 := Dev.kept_regs (Dev.kept_clearBlocks h) (Tab.wf_filter (fun p => keptByRestart p.1 || p.1 / 0x10000 = 0x4001) _ h.2.2.1.1)
  refine Dev.kept_putTable (Dev.kept_putKeys (Dev.kept_of h1 ?_ ?_ ?_ ?_ ?_ ?_ ?_ ?_ ?_ ?_ ?_ ?_ ?_ ?_ ?_ ?_)) h.2.1.2.2.2.2.1 <;> rfl

theorem Dev.kept_nocfg {z : Nat} {reason : Nat} {d : Dev} (h : d.kept z) : (Dev.nocfg reason d).kept z := by
  unfold Dev.nocfg
  repeat' (first
    | with_reducible assumption
    | intro h
    | with_reducible refine Dev.kept_modTriad (fun _ => rfl) ?_
    | with_reducible apply Dev.kept_forEach
    | with_reducible apply Dev.kept_setSys
    | with_reducible apply Dev.kept_toStep
    | with_reducible apply Dev.kept_modPort
    | with_reducible apply Dev.kept_setBus
    | with_reducible apply Dev.kept_evt
    | fail_if_no_progress with_reducible refine Dev.kept_mk ?_ rfl)

theorem Dev.kept_reportReject {z : Nat} {slot : Nat} {r : Reject} {d : Dev} (h : d.kept z) : (Dev.reportReject slot r d).kept z := by
  unfold Dev.reportReject
  repeat' (first
    | with_reducible assumption
    | with_reducible apply Dev.kept_wr
    | with_reducible apply Dev.kept_evt
    | fail_if_no_progress with_reducible refine Dev.kept_mk ?_ rfl)

theorem Dev.kept_reject {z : Nat} {r : Reject} {d : Dev} (h : d.kept z) : (Dev.reject r d).kept z := by
  unfold Dev.reject
  repeat' (first
    | with_reducible assumption
    | with_reducible apply Dev.kept_clearApplied
    | with_reducible apply Dev.kept_reportReject
    | with_reducible apply Dev.kept_setSys
    | with_reducible apply Dev.kept_nocfg
    | with_reducible apply Dev.kept_ite
    | fail_if_no_progress with_reducible refine Dev.kept_mk ?_ rfl)

theorem Dev.kept_pauseBoot {z : Nat} {d : Dev} (h : d.kept z) : (Dev.pauseBoot d).kept z := by
  unfold Dev.pauseBoot
  repeat' (first
    | with_reducible assumption
    | with_reducible apply Dev.kept_clearApplied
    | with_reducible apply Dev.kept_evt
    | fail_if_no_progress with_reducible refine Dev.kept_mk ?_ rfl)

theorem Dev.kept_atStep {z : Nat} {x : BootStep} {op : Dev → Dev} {d : Dev} (hop : ∀ d, Dev.kept z d → (op d).kept z) (h : d.kept z) :
    (Dev.atStep x op d).kept z := by
  unfold Dev.atStep
  exact Dev.kept_ite h (Dev.kept_ite (Dev.kept_pauseBoot (hop _ h)) (hop _ h))

theorem Dev.kept_startResume {z : Nat} {d : Dev} (h : d.kept z) : (Dev.startResume d).kept z := by
  unfold Dev.startResume
  repeat' (first
    | with_reducible assumption
    | with_reducible apply Dev.kept_wr
    | with_reducible apply Dev.kept_setSys
    | with_reducible apply Dev.kept_toStep
    | with_reducible apply Dev.kept_ite)

theorem Dev.kept_flashProbe {z : Nat} {mode : Nat} {d : Dev} (h : d.kept z) : (Dev.flashProbe mode d).kept z := by
  unfold Dev.flashProbe
  repeat' (first
    | with_reducible assumption
    | intro h
    | with_reducible apply Dev.kept_when
    | with_reducible apply Dev.kept_reportReject
    | with_reducible apply Dev.kept_nocfg
    | with_reducible apply Dev.kept_setF
    | with_reducible apply Dev.kept_evt
    | with_reducible apply Dev.kept_setSys
    | with_reducible apply Dev.kept_toStep
    | with_reducible apply Dev.kept_ite)

theorem Dev.kept_readKeys {z : Nat} {okA okB : Bool} {d : Dev} (h : d.kept z) : (Dev.readKeys okA okB d).kept z := by
  unfold Dev.readKeys
  exact Dev.kept_ite (Dev.kept_putKeys h) (Dev.kept_evt (Dev.kept_setF (Dev.kept_putKeys h)))

theorem Dev.kept_headerCheck {z : Nat} {okA okB : Bool} {d : Dev} (h : d.kept z) : (Dev.headerCheck okA okB d).kept z := by
  unfold Dev.headerCheck
  dsimp only
  have h1 := Dev.kept_putTable (Dev.kept_readKeys (okA := okA) (okB := okB) h) h.2.1.2.2.2.2.1
  generalize (d.readKeys okA okB).putTable d.sec.table = d1 at h1
  have ht : ∀ (c : Nat) (o : Bool) (b : BootStep), Dev.kept z { d1 with boot := { d1.boot with candidate := c, firstCand := c, otherGood := o, step := b } } :=
    fun c o b => Dev.kept_of h1 rfl rfl rfl rfl rfl rfl rfl rfl rfl rfl rfl rfl rfl rfl rfl rfl
  split
  · exact Dev.kept_nocfg (Dev.kept_reportReject (Dev.kept_reportReject h1))
  · exact ht _ _ _
  · exact ht _ _ _
  · exact Dev.kept_ite (Dev.kept_evt (ht _ _ _)) (ht _ _ _)

theorem Dev.kept_bodyRead {z : Nat} {d : Dev} (h : d.kept z) : (Dev.bodyRead d).kept z := by
  unfold Dev.bodyRead
  repeat' (first
    | with_reducible assumption
    | with_reducible apply Dev.kept_toStep
    | with_reducible apply Dev.kept_reject
    | with_reducible apply Dev.kept_ite)

theorem Dev.kept_signatureVerify {z : Nat} {d : Dev} (h : d.kept z) : (Dev.signatureVerify d).kept z := by
  unfold Dev.signatureVerify
  repeat' (first
    | with_reducible assumption
    | with_reducible apply Dev.kept_reject
    | with_reducible apply Dev.kept_toStep
    | with_reducible apply Dev.kept_ite
    | split
    | dsimp only)

theorem Dev.kept_firstPassDone {z : Nat} {d : Dev} (h : d.kept z) : (Dev.firstPassDone d).kept z := by
  unfold Dev.firstPassDone
  repeat' (first
    | with_reducible assumption
    | with_reducible apply Dev.kept_setSys
    | with_reducible apply Dev.kept_toStep
    | with_reducible apply Dev.kept_secondPass
    | with_reducible apply Dev.kept_reject
    | split
    | dsimp only
    | fail_if_no_progress with_reducible refine Dev.kept_mk ?_ rfl)

theorem Dev.kept_blkSig {z : Nat} {a : Nat} {v : W} {d : Dev} (h : d.kept z) : (Dev.blkSig a v d).kept z := by
  unfold Dev.blkSig
  repeat' (first
    | with_reducible assumption
    | with_reducible apply Dev.kept_sigWord)

theorem Dev.kept_applyFunc {z : Nat} {f : Nat} {r : FuncRec} {d : Dev} (h : d.kept z) : (Dev.applyFunc f r d).kept z := by
  unfold Dev.applyFunc
  repeat' (first
    | with_reducible assumption
    | intro h
    | with_reducible apply Dev.kept_wr
    | with_reducible apply Dev.kept_forEach
    | with_reducible apply Dev.kept_foldl
    | with_reducible apply Dev.kept_whenSome
    | with_reducible apply Dev.kept_setF
    | fail_if_no_progress with_reducible refine Dev.kept_mk ?_ rfl)

theorem Dev.kept_applyCharge {z : Nat} {r : Rec} {d : Dev} (h : d.kept z) : (Dev.applyCharge r d).kept z := by
  unfold Dev.applyCharge
  repeat' (first
    | with_reducible assumption
    | intro h
    | with_reducible apply Dev.kept_wr
    | with_reducible apply Dev.kept_foldl
    | with_reducible apply Dev.kept_setF
    | fail_if_no_progress with_reducible refine Dev.kept_mk ?_ rfl)

theorem Dev.kept_applyQueue {z : Nat} {r : Rec} {d : Dev} (h : d.kept z) : (Dev.applyQueue r d).kept z := by
  unfold Dev.applyQueue
  repeat' (first
    | with_reducible assumption
    | with_reducible apply Dev.kept_wr
    | with_reducible apply Dev.kept_setF)

theorem Dev.kept_applyMirror {z : Nat} {r : Rec} {d : Dev} (h : d.kept z) : (Dev.applyMirror r d).kept z := by
  unfold Dev.applyMirror
  repeat' (first
    | with_reducible assumption
    | with_reducible apply Dev.kept_wr
    | with_reducible apply Dev.kept_setF
    | split
    | dsimp only
    | fail_if_no_progress with_reducible refine Dev.kept_mk ?_ rfl)

theorem Dev.kept_applySplit {z : Nat} {pairs : Nat} {d : Dev} (h : d.kept z) : (Dev.applySplit pairs d).kept z := by
  unfold Dev.applySplit
  repeat' (first
    | with_reducible assumption
    | intro h
    | with_reducible apply Dev.kept_forEach
    | with_reducible apply Dev.kept_setF
    | fail_if_no_progress with_reducible refine Dev.kept_mk ?_ rfl)

theorem Dev.kept_applyRec {z : Nat} {d : Dev} {r : Rec} (h : d.kept z) : (Dev.applyRec d r).kept z := by
  unfold Dev.applyRec
  split
  · exact Dev.kept_wr h
  · refine Dev.kept_foldl (fun d p h => Dev.kept_ite (Dev.kept_blkSig h) (Dev.kept_wr h)) h
  · dsimp only
    have h1 := Dev.kept_putTriad (t := r.num 0 1) (x := { (d.triad (r.num 0 1)) with lram := Mem.putN 0 (r.num 4 4) (sliceB r.payload 0x54 (r.num 0x0C 4)) (d.triad (r.num 0 1)).lram })
      (Mem.wf_putN _ _ _ _ (Dev.kept_triad h _)) h
    exact Dev.kept_ite (Dev.kept_of h1 rfl rfl rfl rfl rfl rfl rfl rfl rfl rfl rfl rfl rfl rfl rfl rfl) h1
  · exact Dev.kept_coef h (Mem.wf_putN _ _ _ _ h.1.2.2.1)
  · exact Dev.kept_applyFunc h
  · exact Dev.kept_of h rfl rfl rfl rfl rfl rfl rfl rfl rfl rfl rfl rfl rfl rfl rfl rfl
  · exact Dev.kept_of h rfl rfl rfl rfl rfl rfl rfl rfl rfl rfl rfl rfl rfl rfl rfl rfl
  · exact Dev.kept_of h rfl rfl rfl rfl rfl rfl rfl rfl rfl rfl rfl rfl rfl rfl rfl rfl
  · exact Dev.kept_applyQueue h
  · exact Dev.kept_holdBound (Dev.kept_of h rfl rfl rfl rfl rfl rfl rfl rfl rfl rfl rfl rfl rfl rfl rfl rfl)
  · exact Dev.kept_of h rfl rfl rfl rfl rfl rfl rfl rfl rfl rfl rfl rfl rfl rfl rfl rfl
  · exact Dev.kept_of h rfl rfl rfl rfl rfl rfl rfl rfl rfl rfl rfl rfl rfl rfl rfl rfl
  · exact Dev.kept_applyMirror h
  · exact Dev.kept_applyCharge h
  · exact Dev.kept_applySplit h
  · exact h

theorem Dev.kept_spareWindows {z : Nat} {d : Dev} (h : d.kept z) : (Dev.spareWindows d).kept z := by
  unfold Dev.spareWindows
  repeat' (first
    | with_reducible assumption
    | intro h
    | with_reducible apply Dev.kept_wr
    | with_reducible apply Dev.kept_foldl
    | with_reducible apply Dev.kept_ite)

theorem Dev.kept_readCull {z : Nat} {okA okB : Bool} {d : Dev} (h : d.kept z) : (Dev.readCull okA okB d).kept z := by
  have hl : ∀ xs : List Cull, cullOk xs → Dev.kept z
      (({ d with red := { d.red with cull := xs, cullA := xs, cullB := xs, cullAok := true, cullBok := true } } : Dev).setF RED_STAT RED_STAT_CULLCNT xs.length) := by
    intro xs hx
    apply Dev.kept_setF
    obtain ⟨m, ⟨r1, _, _, _, r⟩, k⟩ := h
    exact ⟨m, ⟨r1, hx, hx, hx, r⟩, k⟩
  unfold Dev.readCull
  dsimp only
  exact Dev.kept_ite (hl _ h.2.1.2.2.1) (Dev.kept_ite (hl _ h.2.1.2.2.2.1) (Dev.kept_evt (hl _ ⟨Nat.zero_le _, List.nodup_nil⟩)))

theorem Dev.kept_applyAll {z : Nat} {side : Bool} {d : Dev} (h : d.kept z) : (Dev.applyAll side d).kept z := by
  unfold Dev.applyAll
  repeat' (first
    | with_reducible assumption
    | intro h
    | with_reducible apply Dev.kept_wr
    | with_reducible apply Dev.kept_forEach
    | with_reducible apply Dev.kept_foldl
    | with_reducible apply Dev.kept_when
    | with_reducible apply Dev.kept_setF
    | with_reducible apply Dev.kept_applyRec
    | with_reducible apply Dev.kept_spareWindows
    | with_reducible apply Dev.kept_startWindow
    | with_reducible apply Dev.kept_queLines
    | with_reducible apply Dev.kept_dsmEnable
    | with_reducible apply Dev.kept_evalGroups
    | fail_if_no_progress with_reducible refine Dev.kept_mk ?_ rfl)

theorem Dev.kept_secondPass {z : Nat} {side okA okB : Bool} {d : Dev} (h : d.kept z) : (Dev.secondPass side okA okB d).kept z := by
  unfold Dev.secondPass
  repeat' (first
    | with_reducible assumption
    | with_reducible apply Dev.kept_readCull
    | with_reducible apply Dev.kept_evt
    | with_reducible apply Dev.kept_nocfg
    | with_reducible apply Dev.kept_applyAll
    | with_reducible apply Dev.kept_toStep
    | with_reducible apply Dev.kept_thirdPass
    | with_reducible apply Dev.kept_ite)

theorem Dev.kept_unavailable {z : Nat} {fs : List Nat} {d : Dev} (h : d.kept z) : (Dev.unavailable fs d).kept z := by
  unfold Dev.unavailable
  repeat' (first
    | with_reducible assumption
    | intro h
    | with_reducible apply Dev.kept_forEach
    | with_reducible apply Dev.kept_setF)

theorem Dev.kept_markCulled {z : Nat} {res : Nat} {d : Dev} (h : d.kept z) : (Dev.markCulled res d).kept z := by
  unfold Dev.markCulled
  repeat' (first
    | with_reducible assumption
    | intro h
    | with_reducible refine Dev.kept_modTriad (fun _ => rfl) ?_
    | with_reducible apply Dev.kept_whenSome
    | with_reducible apply Dev.kept_setF
    | with_reducible apply Dev.kept_putBit
    | with_reducible apply Dev.kept_setTmode
    | with_reducible apply Dev.kept_stopEngines
    | with_reducible apply Dev.kept_unavailable
    | with_reducible apply Dev.kept_markLeg
    | with_reducible apply Dev.kept_substLeg
    | with_reducible apply Dev.kept_markCmp
    | with_reducible apply Dev.kept_substCmp
    | with_reducible apply Dev.kept_degradeCmp
    | with_reducible apply Dev.kept_substDsm
    | with_reducible apply Dev.kept_substInput
    | with_reducible apply Dev.kept_ite
    | split
    | dsimp only
    | fail_if_no_progress with_reducible refine Dev.kept_mk ?_ rfl)

theorem Dev.kept_bootCandidate {z : Nat} {d : Dev} (h : d.kept z) : (Dev.bootCandidate d).kept z := by
  unfold Dev.bootCandidate
  repeat' (first
    | with_reducible assumption
    | intro h
    | with_reducible apply Dev.kept_wr
    | with_reducible apply Dev.kept_when
    | with_reducible apply Dev.kept_setF
    | with_reducible apply Dev.kept_evt
    | with_reducible apply Dev.kept_ite)

theorem Dev.kept_markAll {z : Nat} {d : Dev} (h : d.kept z) : (Dev.markAll d).kept z := by
  unfold Dev.markAll
  repeat' (first
    | with_reducible assumption
    | intro h
    | with_reducible apply Dev.kept_forEach
    | with_reducible apply Dev.kept_markCulled
    | with_reducible apply Dev.kept_evalGroups)

theorem Dev.kept_thirdPass {z : Nat} {d : Dev} (h : d.kept z) : (Dev.thirdPass d).kept z := by
  unfold Dev.thirdPass
  repeat' (first
    | with_reducible assumption
    | with_reducible apply Dev.kept_reject
    | with_reducible apply Dev.kept_bootCandidate
    | with_reducible apply Dev.kept_markAll
    | with_reducible apply Dev.kept_setSys
    | with_reducible apply Dev.kept_toStep
    | with_reducible apply Dev.kept_ite)

theorem Dev.kept_calibrateAll {z : Nat} {d : Dev} (h : d.kept z) : (Dev.calibrateAll d).kept z := by
  unfold Dev.calibrateAll
  repeat' (first
    | with_reducible assumption
    | intro h
    | with_reducible apply Dev.kept_forEach
    | with_reducible apply Dev.kept_modLeg
    | with_reducible apply Dev.kept_modConv
    | fail_if_no_progress with_reducible refine Dev.kept_mk ?_ rfl)

theorem Dev.kept_startCalibration {z : Nat} {fails : List (Nat × Nat × Nat)} {d : Dev} (h : d.kept z) : (Dev.startCalibration fails d).kept z := by
  unfold Dev.startCalibration
  repeat' (first
    | with_reducible assumption
    | intro h
    | with_reducible apply Dev.kept_foldl
    | with_reducible apply Dev.kept_calibrateAll
    | with_reducible apply Dev.kept_gale
    | with_reducible apply Dev.kept_toStep
    | with_reducible apply Dev.kept_ite)

theorem Dev.kept_journalRecovery {z : Nat} {bad : List Nat} {d : Dev} (h : d.kept z) : (Dev.journalRecovery bad d).kept z := by
  unfold Dev.journalRecovery
  repeat' (first
    | with_reducible assumption
    | with_reducible apply Dev.kept_jrnRecover
    | with_reducible apply Dev.kept_jrnReplay
    | with_reducible apply Dev.kept_toStep)

theorem Dev.kept_dropLimit {z : Nat} {e : PEnt} {d : Dev} (h : d.kept z) : (Dev.dropLimit e d).kept z := by
  unfold Dev.dropLimit
  exact Dev.kept_evt (Dev.kept_setF (Dev.kept_putTable h (Nat.le_trans (List.length_filter_le _ _) h.2.1.2.2.2.2.1)))

theorem Dev.kept_reapply {z : Nat} {e : PEnt} {d : Dev} (h : d.kept z) : (Dev.reapply e d).kept z := by
  unfold Dev.reapply
  repeat' (first
    | with_reducible assumption
    | with_reducible apply Dev.kept_wr
    | with_reducible apply Dev.kept_dropLimit
    | with_reducible apply Dev.kept_holdBound
    | with_reducible apply Dev.kept_limitWrite
    | with_reducible apply Dev.kept_ite
    | split
    | dsimp only)

theorem Dev.kept_reapplyLimits {z : Nat} {d : Dev} (h : d.kept z) : (Dev.reapplyLimits d).kept z := by
  unfold Dev.reapplyLimits
  repeat' (first
    | with_reducible assumption
    | intro h
    | with_reducible apply Dev.kept_foldl
    | with_reducible apply Dev.kept_reapply)

theorem Dev.kept_checkFeeds {z : Nat} {d : Dev} (h : d.kept z) : (Dev.checkFeeds d).kept z := by
  unfold Dev.checkFeeds
  repeat' (first
    | with_reducible assumption
    | intro h
    | with_reducible apply Dev.kept_forEach
    | with_reducible apply Dev.kept_setF
    | with_reducible apply Dev.kept_supEvt
    | with_reducible apply Dev.kept_ite)

theorem Dev.kept_startTriad {z : Nat} {t : Nat} {d : Dev} (h : d.kept z) : (Dev.startTriad t d).kept z := by
  unfold Dev.startTriad
  repeat' (first
    | with_reducible assumption
    | intro h
    | with_reducible apply Dev.kept_wr
    | with_reducible refine Dev.kept_modTriad (fun _ => rfl) ?_
    | with_reducible apply Dev.kept_checkpoint
    | with_reducible apply Dev.kept_ite
    | fail_if_no_progress with_reducible refine Dev.kept_mk ?_ rfl)

theorem Dev.kept_enterKeys {z : Nat} {d : Dev} (h : d.kept z) : (Dev.enterKeys d).kept z := by
  unfold Dev.enterKeys
  exact Dev.kept_ite h (Dev.kept_putKeys h)

theorem Dev.kept_lockedTriads {z : Nat} {d : Dev} (h : d.kept z) : (Dev.lockedTriads d).kept z := by
  unfold Dev.lockedTriads
  repeat' (first
    | with_reducible assumption
    | intro h
    | with_reducible apply Dev.kept_forEach
    | with_reducible apply Dev.kept_reapplyLimits
    | with_reducible apply Dev.kept_checkFeeds
    | with_reducible apply Dev.kept_setF
    | with_reducible apply Dev.kept_startTriad)

theorem Dev.kept_stateReady {z : Nat} {d : Dev} (h : d.kept z) : (Dev.stateReady d).kept z := by
  unfold Dev.stateReady
  repeat' (first
    | with_reducible assumption
    | intro h
    | with_reducible apply Dev.kept_forEach
    | with_reducible apply Dev.kept_when
    | with_reducible apply Dev.kept_setF
    | with_reducible apply Dev.kept_setSys
    | with_reducible apply Dev.kept_toStep
    | with_reducible apply Dev.kept_modPort
    | with_reducible apply Dev.kept_setBus
    | with_reducible apply Dev.kept_evt
    | fail_if_no_progress with_reducible refine Dev.kept_mk ?_ rfl)

theorem Dev.kept_configLock {z : Nat} {d : Dev} (h : d.kept z) : (Dev.configLock d).kept z := by
  unfold Dev.configLock
  repeat' (first
    | with_reducible assumption
    | with_reducible apply Dev.kept_lockedTriads
    | with_reducible apply Dev.kept_stateReady
    | with_reducible apply Dev.kept_enterKeys
    | with_reducible apply Dev.kept_ite
    | fail_if_no_progress with_reducible refine Dev.kept_mk ?_ rfl)

theorem Dev.kept_runBegins {z : Nat} {d : Dev} (h : d.kept z) : (Dev.runBegins d).kept z := by
  unfold Dev.runBegins
  repeat' (first
    | with_reducible assumption
    | intro h
    | with_reducible apply Dev.kept_forEach
    | with_reducible apply Dev.kept_realign
    | with_reducible apply Dev.kept_modLnk
    | with_reducible apply Dev.kept_candidateClaim
    | with_reducible apply Dev.kept_setToken
    | with_reducible apply Dev.kept_startLatching
    | with_reducible apply Dev.kept_startAbd
    | with_reducible apply Dev.kept_ite
    | fail_if_no_progress with_reducible refine Dev.kept_mk ?_ rfl)

theorem Dev.kept_enterRun {z : Nat} {d : Dev} (h : d.kept z) : (Dev.enterRun d).kept z := by
  unfold Dev.enterRun
  repeat' (first
    | with_reducible assumption
    | with_reducible apply Dev.kept_wr64
    | with_reducible apply Dev.kept_setSys
    | with_reducible apply Dev.kept_putBit
    | with_reducible apply Dev.kept_runBegins
    | with_reducible apply Dev.kept_ite)

theorem Dev.kept_runWrite {z : Nat} {triad : Nat} {d : Dev} (h : d.kept z) : (Dev.runWrite triad d).kept z := by
  unfold Dev.runWrite
  repeat' (first
    | with_reducible assumption
    | with_reducible apply Dev.kept_enterRun
    | with_reducible apply Dev.kept_lockedWrite
    | with_reducible apply Dev.kept_ite)

theorem Dev.kept_restartWrite {z : Nat} {triad key : Nat} {d : Dev} (h : d.kept z) : (Dev.restartWrite triad key d).kept z := by
  unfold Dev.restartWrite
  refine Dev.kept_ite (Dev.kept_lockedWrite h) (Dev.kept_ite (Dev.kept_restartRefused h) ?_)
  split
  · exact Dev.kept_restartRefused h
  · exact Dev.kept_restart h

theorem Dev.kept_sysCtrl {z : Nat} {triad : Nat} {v : W} {d : Dev} (h : d.kept z) : (Dev.sysCtrl triad v d).kept z := by
  unfold Dev.sysCtrl
  repeat' (first
    | with_reducible assumption
    | intro h
    | with_reducible apply Dev.kept_when
    | with_reducible apply Dev.kept_lockedWrite
    | with_reducible apply Dev.kept_restartWrite
    | with_reducible apply Dev.kept_enterRun
    | with_reducible apply Dev.kept_ite)

theorem Dev.kept_slotWriteCheck {z : Nat} {d : Dev} (h : d.kept z) : (Dev.slotWriteCheck d).kept z := by
  unfold Dev.slotWriteCheck
  repeat' (first
    | with_reducible assumption
    | with_reducible apply Dev.kept_evt
    | with_reducible apply Dev.kept_ite
    | split
    | dsimp only
    | fail_if_no_progress with_reducible refine Dev.kept_mk ?_ rfl)

end Sys2Proof.Machine
end

