-- ==== Sys2Proof/Laws/KeptGio.lean ====
section
/-! SUPPORT. What every operation keeps. -/

namespace Sys2Proof.Machine

theorem Dev.kept_gioEdge {z : Nat} {n : Nat} {high : Bool} {stamp : Time} {d : Dev} (h : d.kept z) : (Dev.gioEdge n high stamp d).kept z := by
  unfold Dev.gioEdge
  repeat' (first
    | with_reducible assumption
    | intro h
    | with_reducible apply Dev.kept_forEach
    | with_reducible apply Dev.kept_putBit
    | with_reducible apply Dev.kept_wr64
    | with_reducible apply Dev.kept_seqTrigger
    | with_reducible apply Dev.kept_ite
    | fail_if_no_progress with_reducible refine Dev.kept_mk ?_ rfl)

theorem Dev.kept_modSent {z : Nat} {m : Nat} {g : Sent → Sent} {d : Dev} (h : d.kept z) : (Dev.modSent m g d).kept z := by
  unfold Dev.modSent
  repeat' (first
    | with_reducible assumption
    | fail_if_no_progress with_reducible refine Dev.kept_mk ?_ rfl)

theorem Dev.kept_slowMessage {z : Nat} {m : Nat} {enh good : Bool} {id data : Nat} {d : Dev} (h : d.kept z) : (Dev.slowMessage m enh good id data d).kept z := by
  unfold Dev.slowMessage
  repeat' (first
    | with_reducible assumption
    | intro h
    | with_reducible apply Dev.kept_wr
    | with_reducible apply Dev.kept_modSent
    | with_reducible apply Dev.kept_incSat
    | with_reducible apply Dev.kept_ite
    | fail_if_no_progress with_reducible refine Dev.kept_mk ?_ rfl)

theorem Dev.kept_slowBits {z : Nat} {m : Nat} {b3 b2 : Bool} {d : Dev} (h : d.kept z) : (Dev.slowBits m b3 b2 d).kept z := by
  unfold Dev.slowBits
  repeat' (first
    | with_reducible assumption
    | intro h
    | with_reducible apply Dev.kept_modSent
    | with_reducible apply Dev.kept_slowMessage
    | with_reducible apply Dev.kept_ite
    | split
    | dsimp only
    | fail_if_no_progress with_reducible refine Dev.kept_mk ?_ rfl)

theorem Dev.kept_sentFrame {z : Nat} {m sync status : Nat} {nibs : List Nat} {crc : Nat} {tf : Time} {d : Dev} (h : d.kept z) : (Dev.sentFrame m sync status nibs crc tf d).kept z := by
  unfold Dev.sentFrame
  repeat' (first
    | with_reducible assumption
    | intro h
    | with_reducible apply Dev.kept_wr
    | with_reducible apply Dev.kept_modSent
    | with_reducible apply Dev.kept_incSat
    | with_reducible apply Dev.kept_evt
    | with_reducible apply Dev.kept_evtRated
    | with_reducible apply Dev.kept_wr64
    | with_reducible apply Dev.kept_slowBits
    | with_reducible apply Dev.kept_ite
    | split
    | dsimp only
    | fail_if_no_progress with_reducible refine Dev.kept_mk ?_ rfl)

end Sys2Proof.Machine
end

