-- ==== Sys2Proof/Laws/KeptSlots.lean ====
section
/-! SUPPORT. What every operation keeps. -/

namespace Sys2Proof.Machine

theorem Dev.kept_noteTrigger {z : Nat} {kind idx n : Nat} {d : Dev} (h : d.kept z) : (Dev.noteTrigger kind idx n d).kept z := by
  unfold Dev.noteTrigger
  repeat' (first
    | with_reducible assumption
    | fail_if_no_progress with_reducible refine Dev.kept_mk ?_ rfl)

theorem Dev.kept_boundaryTarget {z : Nat} {f : Nat} {upset : List Nat} {pads : List (Nat × Int × Int)} {d : Dev} (h : d.kept z) : (Dev.boundaryTarget f upset pads d).kept z := by
  unfold Dev.boundaryTarget
  repeat' (first
    | with_reducible assumption
    | with_reducible apply Dev.kept_cvuPeriodEnds
    | with_reducible apply Dev.kept_axuBoundary
    | with_reducible apply Dev.kept_fnBoundary
    | with_reducible apply Dev.kept_cvuPeriodBegins)

theorem Dev.kept_slotTarget {z : Nat} {n kind idx : Nat} {upset : List Nat} {pads : List (Nat × Int × Int)} {d : Dev} (h : d.kept z) : (Dev.slotTarget n kind idx upset pads d).kept z := by
  unfold Dev.slotTarget
  repeat' (first
    | with_reducible assumption
    | with_reducible apply Dev.kept_boundaryTarget
    | with_reducible apply Dev.kept_seqTrigger
    | with_reducible apply Dev.kept_dsmWindow
    | with_reducible apply Dev.kept_cascTrigger
    | with_reducible apply Dev.kept_axuAux
    | with_reducible apply Dev.kept_ite
    | split
    | dsimp only
    | fail_if_no_progress with_reducible refine Dev.kept_mk ?_ rfl)

theorem Dev.kept_fireTarget {z : Nat} {n kind idx : Nat} {upset : List Nat} {pads : List (Nat × Int × Int)} {d : Dev} (h : d.kept z) : (Dev.fireTarget n kind idx upset pads d).kept z := by
  unfold Dev.fireTarget
  repeat' (first
    | with_reducible assumption
    | intro h
    | with_reducible apply Dev.kept_putBit
    | with_reducible apply Dev.kept_evt
    | with_reducible apply Dev.kept_noteTrigger
    | with_reducible apply Dev.kept_slotTarget
    | with_reducible apply Dev.kept_ite
    | split
    | dsimp only)

theorem Dev.kept_slotFire {z : Nat} {n : Nat} {upset : List Nat} {pads : List (Nat × Int × Int)} {d : Dev} (h : d.kept z) : (Dev.slotFire n upset pads d).kept z := by
  unfold Dev.slotFire
  repeat' (first
    | with_reducible assumption
    | intro h
    | with_reducible apply Dev.kept_foldl
    | with_reducible apply Dev.kept_noteTrigger
    | with_reducible apply Dev.kept_inc32
    | with_reducible apply Dev.kept_supercycle
    | with_reducible apply Dev.kept_telSlot
    | with_reducible apply Dev.kept_fireTarget
    | with_reducible apply Dev.kept_ite)

end Sys2Proof.Machine
end

