-- ==== Sys2Proof/Laws/KeptAccess.lean ====
section
/-! SUPPORT. What every operation keeps. -/

namespace Sys2Proof.Machine

theorem Dev.kept_loadReg {z : Nat} {t a : Nat} {d : Dev} (h : d.kept z) : (Dev.loadReg t a d).2.kept z := by
  unfold Dev.loadReg
  repeat' (first
    | with_reducible assumption
    | with_reducible apply Dev.kept_unmapped
    | with_reducible apply Dev.kept_readStimeLo
    | with_reducible apply Dev.kept_readStimeHi
    | with_reducible apply Dev.kept_readRtcSub
    | with_reducible apply Dev.kept_readRtcSec
    | with_reducible apply Dev.kept_safeqPop
    | with_reducible apply Dev.kept_ite
    | split
    | dsimp only
    | fail_if_no_progress with_reducible refine Dev.kept_mk ?_ rfl)

theorem Dev.kept_levelLines {z : Nat} {t : Nat} {d : Dev} (h : d.kept z) : (Dev.levelLines t d).kept z := by
  unfold Dev.levelLines
  repeat' (first
    | with_reducible assumption
    | intro h
    | with_reducible apply Dev.kept_forEach
    | with_reducible apply Dev.kept_when
    | with_reducible apply Dev.kept_raiseLine
    | with_reducible apply Dev.kept_queLines)

theorem Dev.kept_swev {z : Nat} {w : Nat} {v : W} {d : Dev} (h : d.kept z) : (Dev.swev w v d).kept z := by
  unfold Dev.swev
  repeat' (first
    | with_reducible assumption
    | with_reducible apply Dev.kept_raiseLine
    | with_reducible apply Dev.kept_ite)

theorem Dev.kept_timerWrite {z : Nat} {w k a : Nat} {v : W} {d : Dev} (h : d.kept z) : (Dev.timerWrite w k a v d).kept z := by
  unfold Dev.timerWrite
  repeat' (first
    | with_reducible assumption
    | with_reducible apply Dev.kept_wr
    | fail_if_no_progress with_reducible refine Dev.kept_mk ?_ rfl)

theorem Dev.kept_fnCmdWord {z : Nat} {t : Nat} {v : W} {d : Dev} (h : d.kept z) : (Dev.fnCmdWord t v d).kept z := by
  unfold Dev.fnCmdWord
  repeat' (first
    | with_reducible assumption
    | intro h
    | with_reducible apply Dev.kept_when
    | with_reducible apply Dev.kept_fnCmd
    | with_reducible apply Dev.kept_cmdEnter
    | with_reducible apply Dev.kept_cmdEnable
    | with_reducible apply Dev.kept_cmdDisable
    | with_reducible apply Dev.kept_cmdAck
    | with_reducible apply Dev.kept_lockedWrite
    | split
    | dsimp only)

theorem Dev.kept_fnReqWord {z : Nat} {v : W} {d : Dev} (h : d.kept z) : (Dev.fnReqWord v d).kept z := by
  unfold Dev.fnReqWord
  repeat' (first
    | with_reducible assumption
    | with_reducible apply Dev.kept_reqEnable
    | with_reducible apply Dev.kept_reqDisable
    | with_reducible apply Dev.kept_reqSafe
    | split
    | dsimp only)

theorem Dev.kept_lnkCtrl {z : Nat} {t : Nat} {v : W} {d : Dev} (h : d.kept z) : (Dev.lnkCtrl t v d).kept z := by
  unfold Dev.lnkCtrl
  repeat' (first
    | with_reducible assumption
    | with_reducible apply Dev.kept_lockedWrite
    | with_reducible apply Dev.kept_yieldWrite
    | with_reducible apply Dev.kept_retrainWrite
    | with_reducible apply Dev.kept_ite)

theorem Dev.kept_storeCor {z : Nat} {t a : Nat} {v : W} {d : Dev} (h : d.kept z) : (Dev.storeCor t a v d).kept z := by
  unfold Dev.storeCor
  repeat' (first
    | with_reducible assumption
    | with_reducible apply Dev.kept_wr
    | with_reducible apply Dev.kept_swev
    | with_reducible apply Dev.kept_lockedWrite
    | with_reducible apply Dev.kept_levelLines
    | with_reducible apply Dev.kept_timerWrite
    | with_reducible apply Dev.kept_ite)

theorem Dev.kept_storePlain {z : Nat} {t a : Nat} {r : RegDesc} {v : W} {d : Dev} (h : d.kept z) : (Dev.storePlain t a r v d).kept z := by
  unfold Dev.storePlain
  repeat' (first
    | with_reducible assumption
    | with_reducible apply Dev.kept_wr
    | with_reducible apply Dev.kept_lockedWrite
    | with_reducible apply Dev.kept_ite
    | split
    | dsimp only)

theorem Dev.keptSome_ite {z : Nat} {c : Prop} [Decidable c] {a b : Option Dev} (ha : Dev.keptSome z a) (hb : Dev.keptSome z b) :
    Dev.keptSome z (if c then a else b) := by
  split
  · exact ha
  · exact hb

theorem Dev.keptSome_none {z : Nat} : Dev.keptSome z none := fun _ h => nomatch h

theorem Dev.keptSome_some {z : Nat} {d : Dev} (h : d.kept z) : Dev.keptSome z (some d) := fun _ he => Option.some.inj he ▸ h

theorem Dev.kept_storeDrive {z : Nat} {t a : Nat} {v : W} {d : Dev} (h : d.kept z) : Dev.keptSome z (Dev.storeDrive t a v d) := by
  unfold Dev.storeDrive
  repeat' (first
    | with_reducible refine Dev.keptSome_ite ?_ ?_
    | with_reducible exact Dev.keptSome_none
    | with_reducible refine Dev.keptSome_some (Dev.kept_shaWrite h)
    | with_reducible refine Dev.keptSome_some (Dev.kept_shiftWrite h)
    | with_reducible refine Dev.keptSome_some (Dev.kept_glRequest h)
    | with_reducible refine Dev.keptSome_some (Dev.kept_seqGo h)
    | with_reducible refine Dev.keptSome_some (Dev.kept_urgWrite h)
    | with_reducible refine Dev.keptSome_some (Dev.kept_relWrite h)
    | with_reducible refine Dev.keptSome_some (Dev.kept_swTrip h)
    | with_reducible refine Dev.keptSome_some (Dev.kept_cenGo h)
    | with_reducible refine Dev.keptSome_some (Dev.kept_chgCtrl h)
    | with_reducible refine Dev.keptSome_some (Dev.kept_lampWrite h))

theorem Dev.kept_storeSystem {z : Nat} {t a : Nat} {v : W} {d : Dev} (h : d.kept z) : Dev.keptSome z (Dev.storeSystem t a v d) := by
  unfold Dev.storeSystem
  repeat' (first
    | with_reducible refine Dev.keptSome_ite ?_ ?_
    | with_reducible exact Dev.keptSome_none
    | with_reducible refine Dev.keptSome_some (Dev.kept_sysCtrl h)
    | with_reducible refine Dev.keptSome_some (Dev.kept_slotEnables h)
    | with_reducible refine Dev.keptSome_some (Dev.kept_rtcCapGo h)
    | with_reducible refine Dev.keptSome_some (Dev.kept_t0Kick h)
    | with_reducible refine Dev.keptSome_some (Dev.kept_fnCmdWord h)
    | with_reducible refine Dev.keptSome_some (Dev.kept_fnReqWord h)
    | with_reducible refine Dev.keptSome_some (Dev.kept_wdgKick h)
    | with_reducible refine Dev.keptSome_some (Dev.kept_lnkCtrl h)
    | with_reducible refine Dev.keptSome_some (Dev.kept_busCtrl h)
    | with_reducible refine Dev.keptSome_some (Dev.kept_indexWrite h)
    | with_reducible refine Dev.keptSome_some (Dev.kept_queCancel h)
    | with_reducible refine Dev.keptSome_some (Dev.kept_mapTx h)
    | with_reducible refine Dev.keptSome_some (Dev.kept_bkgRequest h)
    | with_reducible refine Dev.keptSome_some (Dev.kept_wrOwn h))

theorem Dev.kept_storeReg {z : Nat} {t a : Nat} {v : W} {d : Dev} (h : d.kept z) : (Dev.storeReg t a v d).kept z := by
  unfold Dev.storeReg
  split
  · exact Dev.kept_unmapped h
  · refine Dev.kept_ite (Dev.kept_lockedWrite h) (Dev.kept_ite (Dev.kept_storeCor h) ?_)
    cases h1 : Dev.storeDrive t a v d with
    | some e => exact Dev.kept_storeDrive h e h1
    | none =>
      cases h2 : Dev.storeSystem t a v d with
      | some e => exact Dev.kept_storeSystem h e h2
      | none => exact Dev.kept_storePlain h

theorem Dev.kept_registerWrite {z : Nat} {t a : Nat} {v : W} {d : Dev} (h : d.kept z) : (Dev.registerWrite t a v d).kept z := by
  unfold Dev.registerWrite
  repeat' (first
    | with_reducible assumption
    | with_reducible apply Dev.kept_storeReg
    | with_reducible apply Dev.kept_ite)

theorem Dev.kept_unmappedAccess {z : Nat} {t a : Nat} {write : Bool} {d : Dev} (h : d.kept z) : (Dev.unmappedAccess t a write d).kept z := by
  unfold Dev.unmappedAccess
  repeat' (first
    | with_reducible assumption
    | with_reducible apply Dev.kept_unmapped
    | with_reducible apply Dev.kept_ite)

end Sys2Proof.Machine
end

