-- ==== Sys2Proof/Laws/KeptCores.lean ====
section
/-! SUPPORT. What every operation keeps. -/

namespace Sys2Proof.Machine

theorem Dev.kept_modCore {z : Nat} {t : Nat} {f : Core → Core} {d : Dev} (h : d.kept z) : (Dev.modCore t f d).kept z := by
  unfold Dev.modCore
  repeat' (first
    | with_reducible assumption
    | intro h
    | with_reducible refine Dev.kept_modTriad (fun _ => rfl) ?_
    | fail_if_no_progress with_reducible refine Dev.kept_mk ?_ rfl)

theorem Dev.kept_finish {z : Nat} {t : Nat} {f : Core → Core} {d : Dev} (h : d.kept z) : (Dev.finish t f d).kept z := by
  unfold Dev.finish
  repeat' (first
    | with_reducible assumption
    | intro h
    | with_reducible refine Dev.kept_modTriad (fun _ => rfl) ?_
    | with_reducible apply Dev.kept_ite
    | fail_if_no_progress with_reducible refine Dev.kept_mk ?_ rfl)

theorem Dev.kept_takeLine {z : Nat} {t n : Nat} {d : Dev} (h : d.kept z) : (Dev.takeLine t n d).kept z := by
  unfold Dev.takeLine
  repeat' (first
    | with_reducible assumption
    | intro h
    | with_reducible refine Dev.kept_modTriad (fun _ => rfl) ?_
    | with_reducible apply Dev.kept_setF
    | fail_if_no_progress with_reducible refine Dev.kept_mk ?_ rfl)

theorem Dev.kept_countFault {z : Nat} {t line cause addr : Nat} {d : Dev} (h : d.kept z) : (Dev.countFault t line cause addr d).kept z := by
  unfold Dev.countFault
  repeat' (first
    | with_reducible assumption
    | intro h
    | with_reducible apply Dev.kept_wr
    | with_reducible apply Dev.kept_incSat
    | with_reducible apply Dev.kept_setF
    | with_reducible apply Dev.kept_rated
    | with_reducible apply Dev.kept_ite)

theorem Dev.kept_fault {z : Nat} {t line cause addr : Nat} {d : Dev} (h : d.kept z) : (Dev.fault t line cause addr d).kept z := by
  unfold Dev.fault
  repeat' (first
    | with_reducible assumption
    | intro h
    | with_reducible apply Dev.kept_countFault
    | with_reducible apply Dev.kept_evt
    | with_reducible apply Dev.kept_haltTriad
    | with_reducible apply Dev.kept_takeLine
    | with_reducible apply Dev.kept_modCore
    | with_reducible apply Dev.kept_ite
    | fail_if_no_progress with_reducible refine Dev.kept_mk ?_ rfl)

theorem Dev.kept_consumeLine {z : Nat} {t n : Nat} {d : Dev} (h : d.kept z) : (Dev.consumeLine t n d).kept z := by
  unfold Dev.consumeLine
  repeat' (first
    | with_reducible assumption
    | with_reducible apply Dev.kept_dropLine
    | with_reducible apply Dev.kept_ite)

theorem Dev.kept_vote {z : Nat} {t : Nat} {e : Effect} {d : Dev} (h : d.kept z) : (Dev.vote t e d).2.kept z := by
  unfold Dev.vote
  repeat' (first
    | with_reducible assumption
    | intro h
    | with_reducible refine Dev.kept_modTriad (fun _ => rfl) ?_
    | with_reducible apply Dev.kept_incSat
    | with_reducible apply Dev.kept_triadDisagree
    | with_reducible apply Dev.kept_ite
    | split
    | dsimp only
    | fail_if_no_progress with_reducible refine Dev.kept_mk ?_ rfl)

theorem Dev.kept_logged {z : Nat} {t n : Nat} {get : Dev → List W × Dev} {d : Dev} (hg : ∀ d, Dev.kept z d → (get d).2.kept z)
    (h : d.kept z) : (Dev.logged t n get d).2.kept z := by
  unfold Dev.logged
  dsimp only
  split
  · exact Dev.kept_modTriad (fun _ => rfl) h
  · exact Dev.kept_modTriad (fun _ => rfl) (hg _ h)

theorem Dev.kept_loadN {z : Nat} {t a n : Nat} {d : Dev} (h : d.kept z) : (Dev.loadN t a n d).2.kept z := by
  have hf : ∀ (xs : List Nat) (p : List Byte × Dev), Dev.kept z p.2 →
      Dev.kept z (xs.foldl (fun (p : List Byte × Dev) i =>
        let (v, d) := p.2.loadReg t (a / 4 * 4 + 4 * i)
        (p.1 ++ leBytes 4 v.toNat, d)) p).2 := by
    intro xs
    induction xs with
    | nil => exact fun p hp => hp
    | cons x r ih => exact fun p hp => ih _ (Dev.kept_loadReg hp)
  unfold Dev.loadN
  split
  · exact hf _ ([], d) h
  · exact h

theorem Dev.kept_storePart {z : Nat} {t wa o : Nat} {bs : List Byte} {d : Dev} (h : d.kept z) : (Dev.storePart t wa o bs d).kept z := by
  unfold Dev.storePart
  dsimp only
  refine Dev.kept_ite (Dev.kept_storeReg h) (Dev.kept_ite ?_ (Dev.kept_ite h (Dev.kept_ite h (Dev.kept_ite ?_ (Dev.kept_ite ?_
    (Dev.kept_ite (Dev.kept_ite (Dev.kept_sigWord (Dev.kept_snapLine h)) (Dev.kept_lockedWrite h))
      (Dev.kept_ite (Dev.kept_lockedWrite (Dev.kept_setF h)) h)))))))
  · exact Dev.kept_putTriad (Mem.wf_putN _ _ _ _ (Dev.kept_triad h _)) h
  · have h1 := Dev.kept_snapLine (a := wa) h
    exact Dev.kept_sram h1 (Mem.wf_putN _ _ _ _ h1.1.2.1)
  · exact Dev.kept_ite (Dev.kept_lockedWrite h) (Dev.kept_coef h (Mem.wf_putN _ _ _ _ h.1.2.2.1))

theorem Dev.kept_storeN {z : Nat} {t a : Nat} {bs : List Byte} {d : Dev} (h : d.kept z) : (Dev.storeN t a bs d).kept z := by
  unfold Dev.storeN
  repeat' (first
    | with_reducible assumption
    | intro h
    | with_reducible apply Dev.kept_forEach
    | with_reducible apply Dev.kept_when
    | with_reducible apply Dev.kept_storePart
    | with_reducible apply Dev.kept_incSat
    | with_reducible apply Dev.kept_unpoison
    | with_reducible apply Dev.kept_ite)

theorem Dev.kept_loadThen {z : Nat} {t a n : Nat} {k : List Byte → Dev → Dev} {d : Dev}
    (hk : ∀ bs d, Dev.kept z d → (k bs d).kept z) (h : d.kept z) : (Dev.loadThen t a n k d).kept z := by
  unfold Dev.loadThen
  refine Dev.kept_ite (hk _ _ h) (Dev.kept_ite (Dev.kept_fault h) ?_)
  have h1 := Dev.kept_vote (t := t) (e := ⟨ekLoad, a, n⟩) h
  generalize d.vote t ⟨ekLoad, a, n⟩ = p at h1
  obtain ⟨o, d1⟩ := p
  cases o with
  | none => exact h1
  | some b =>
    have h2 := Dev.kept_logged (t := t) (n := (n + 3) / 4) (get := fun d => (packW (d.loadN t a n).1, (d.loadN t a n).2))
      (fun d h => Dev.kept_loadN h) h1
    exact hk _ _ h2

theorem Dev.kept_instr {z : Nat} {t : Nat} {body : Dev → Dev} {d : Dev} (hb : ∀ d, Dev.kept z d → (body d).kept z) (h : d.kept z) :
    (Dev.instr t body d).kept z := by
  unfold Dev.instr
  dsimp only
  refine Dev.kept_ite h ?_
  split
  · exact Dev.kept_fault h
  · exact hb _ h

theorem Dev.kept_alu {z : Nat} {t : Nat} {f : Core → Core} {d : Dev} (h : d.kept z) : (Dev.alu t f d).kept z := by
  unfold Dev.alu
  repeat' (first
    | with_reducible assumption
    | intro h
    | with_reducible apply Dev.kept_instr
    | with_reducible apply Dev.kept_finish)

theorem Dev.kept_illegal {z : Nat} {t cause : Nat} {d : Dev} (h : d.kept z) : (Dev.illegal t cause d).kept z := by
  unfold Dev.illegal
  repeat' (first
    | with_reducible assumption
    | with_reducible apply Dev.kept_fault)

theorem Dev.kept_operand {z : Nat} {t cause : Nat} {d : Dev} (h : d.kept z) : (Dev.operand t cause d).kept z := by
  unfold Dev.operand
  repeat' (first
    | with_reducible assumption
    | with_reducible apply Dev.kept_fault)

theorem Dev.kept_divide {z : Nat} {t rd ra rb : Nat} {f : W → W → W} {d : Dev} (h : d.kept z) : (Dev.divide t rd ra rb f d).kept z := by
  unfold Dev.divide
  repeat' (first
    | with_reducible assumption
    | intro h
    | with_reducible apply Dev.kept_instr
    | with_reducible apply Dev.kept_operand
    | with_reducible apply Dev.kept_finish
    | with_reducible apply Dev.kept_ite)

theorem Dev.kept_branch {z : Nat} {t : Nat} {ra rb : Nat} {p : W → W → Bool} {disp : BitVec 16} {d : Dev} (h : d.kept z) : (Dev.branch t ra rb p disp d).kept z := by
  unfold Dev.branch
  repeat' (first
    | with_reducible assumption
    | intro h
    | with_reducible apply Dev.kept_instr
    | with_reducible apply Dev.kept_finish
    | with_reducible apply Dev.kept_ite)

theorem Dev.kept_load {z : Nat} {t ra n : Nat} {disp : BitVec 16} {put : Nat → Core → Core} {d : Dev} (h : d.kept z) :
    (Dev.load t ra n disp put d).kept z := by
  unfold Dev.load
  refine Dev.kept_instr (fun d h => ?_) h
  dsimp only
  split
  · exact Dev.kept_fault h
  · exact Dev.kept_loadThen (fun bs d h => Dev.kept_finish h) h

theorem Dev.kept_voted {z : Nat} {t : Nat} {e : Effect} {d : Dev} (h : d.kept z) (o : Option Bool) (d1 : Dev)
    (hp : d.vote t e = (o, d1)) : d1.kept z := by
  have h1 := Dev.kept_vote (t := t) (e := e) h
  rw [hp] at h1
  exact h1

theorem Dev.kept_store {z : Nat} {t ra n : Nat} {disp : BitVec 16} {val : Core → W} {d : Dev} (h : d.kept z) :
    (Dev.store t ra n disp val d).kept z := by
  unfold Dev.store
  refine Dev.kept_instr (fun d h => ?_) h
  dsimp only
  split
  · exact Dev.kept_fault h
  · split
    · rename_i hp
      exact Dev.kept_voted h _ _ hp
    · rename_i hp
      have h1 := Dev.kept_voted h _ _ hp
      exact Dev.kept_finish (Dev.kept_ite (Dev.kept_storeN h1) h1)

theorem Dev.kept_atomic {z : Nat} {t rd ra rb : Nat} {f : W → W → W} {d : Dev} (h : d.kept z) : (Dev.atomic t rd ra rb f d).kept z := by
  unfold Dev.atomic
  refine Dev.kept_instr (fun d h => ?_) h
  dsimp only
  split
  · exact Dev.kept_fault h
  · refine Dev.kept_ite (Dev.kept_fault h) ?_
    split
    · rename_i hp
      exact Dev.kept_voted h _ _ hp
    · rename_i hp
      have h1 := Dev.kept_voted h _ _ hp
      apply Dev.kept_finish
      have h2 : ∀ p : List W × Dev, p.2.kept z → ∀ (b : Bool) (x : List W → List Byte),
          Dev.kept z (if b = true then p.2.storeN t ((d.triad t).core.getW ra).toNat (x p.1) else p.2) :=
        fun p hp b x => Dev.kept_ite (Dev.kept_storeN hp) hp
      refine h2 _ ?_ _ (fun ws => leBytes 4 (f (ws.headD 0) ((d.triad t).core.getW rb)).toNat)
      split
      · exact Dev.kept_loadN h1
      · refine Dev.kept_logged (fun d h => ?_) h1
        exact Dev.kept_loadN h

theorem Dev.kept_fop {z : Nat} {t rd : Nat} {f : Core → W} {d : Dev} (h : d.kept z) : (Dev.fop t rd f d).kept z := by
  unfold Dev.fop
  repeat' (first
    | with_reducible assumption
    | intro h
    | with_reducible apply Dev.kept_alu
    | with_reducible apply Dev.kept_setF)

theorem Dev.kept_trap {z : Nat} {t : Nat} {code : BitVec 10} {d : Dev} (h : d.kept z) : (Dev.trap t code d).kept z := by
  unfold Dev.trap
  repeat' (first
    | with_reducible assumption
    | intro h
    | with_reducible apply Dev.kept_instr
    | with_reducible apply Dev.kept_modCore
    | with_reducible apply Dev.kept_takeLine
    | fail_if_no_progress with_reducible refine Dev.kept_mk ?_ rfl)

theorem Dev.kept_rete {z : Nat} {t : Nat} {d : Dev} (h : d.kept z) : (Dev.rete t d).kept z := by
  unfold Dev.rete
  repeat' (first
    | with_reducible assumption
    | intro h
    | with_reducible apply Dev.kept_instr
    | with_reducible apply Dev.kept_finish
    | with_reducible apply Dev.kept_illegal
    | with_reducible apply Dev.kept_ite
    | fail_if_no_progress with_reducible refine Dev.kept_mk ?_ rfl)

theorem Dev.kept_mfsr {z : Nat} {t rd n : Nat} {d : Dev} (h : d.kept z) : (Dev.mfsr t rd n d).kept z := by
  unfold Dev.mfsr
  refine Dev.kept_instr (fun d h => ?_) h
  dsimp only
  split
  · exact Dev.kept_illegal h
  · exact Dev.kept_ite (Dev.kept_finish h) (Dev.kept_illegal h)

theorem Dev.kept_mtsr {z : Nat} {t ra n : Nat} {d : Dev} (h : d.kept z) : (Dev.mtsr t ra n d).kept z := by
  unfold Dev.mtsr
  repeat' (first
    | with_reducible assumption
    | intro h
    | with_reducible apply Dev.kept_instr
    | with_reducible apply Dev.kept_illegal
    | with_reducible apply Dev.kept_finish
    | with_reducible apply Dev.kept_ite)

theorem Dev.kept_sigrd {z : Nat} {t rd ra : Nat} {d : Dev} (h : d.kept z) : (Dev.sigrd t rd ra d).kept z := by
  unfold Dev.sigrd
  refine Dev.kept_instr (fun d h => ?_) h
  dsimp only
  refine Dev.kept_ite (Dev.kept_illegal h) (Dev.kept_ite (Dev.kept_operand h) ?_)
  split
  · rename_i hp
    exact Dev.kept_voted h _ _ hp
  · rename_i hp
    have h1 := Dev.kept_voted h _ _ hp
    exact Dev.kept_finish (Dev.kept_logged (fun d h => h) h1)

theorem Dev.kept_sigStore {z : Nat} {t i : Nat} {lo hi : W} {d : Dev} (h : d.kept z) : (Dev.sigStore t i lo hi d).kept z := by
  unfold Dev.sigStore
  repeat' (first
    | with_reducible assumption
    | with_reducible apply Dev.kept_incSat
    | with_reducible apply Dev.kept_snapLine
    | with_reducible apply Dev.kept_sigWrite
    | with_reducible apply Dev.kept_ite)

theorem Dev.kept_sigwr {z : Nat} {t rd ra : Nat} {d : Dev} (h : d.kept z) : (Dev.sigwr t rd ra d).kept z := by
  unfold Dev.sigwr
  refine Dev.kept_instr (fun d h => ?_) h
  dsimp only
  refine Dev.kept_ite (Dev.kept_illegal h) (Dev.kept_ite (Dev.kept_operand h) ?_)
  split
  · rename_i hp
    exact Dev.kept_voted h _ _ hp
  · rename_i hp
    have h1 := Dev.kept_voted h _ _ hp
    exact Dev.kept_finish (Dev.kept_when (fun d h => Dev.kept_sigStore h) h1)

theorem Dev.kept_postNow {z : Nat} {t q : Nat} {img : List Byte} {d : Dev} (h : d.kept z) : (Dev.postNow t q img d).2.kept z := by
  unfold Dev.postNow
  dsimp only
  split
  · exact Dev.kept_ask (kind := 20) h
  · have h1 := Dev.kept_post (poster := t) (q := q) (x := Desc.ofBytes img) h
    generalize d.post t q (Desc.ofBytes img) = p at h1
    obtain ⟨o, s, d1⟩ := p
    cases o with
    | none => exact h1
    | some c =>
      dsimp only
      split
      · exact h1
      · exact Dev.kept_ask (kind := 20) h1

theorem Dev.kept_awaitRecord {z : Nat} {t rd : Nat} {seq : Option W} {replayed : Bool} {d : Dev} (h : d.kept z) :
    (Dev.awaitRecord t rd seq replayed d).kept z := by
  unfold Dev.awaitRecord
  refine Dev.kept_modTriad (fun x => ?_) h
  split
  · rfl
  · split
    · rfl
    · split <;> rfl

theorem Dev.kept_qpost {z : Nat} {t rd ra rb : Nat} {d : Dev} (h : d.kept z) : (Dev.qpost t rd ra rb d).kept z := by
  unfold Dev.qpost
  refine Dev.kept_instr (fun d h => ?_) h
  dsimp only
  refine Dev.kept_ite (Dev.kept_illegal h) (Dev.kept_ite (Dev.kept_operand h) ?_)
  split
  · exact Dev.kept_fault h
  · refine Dev.kept_loadThen (fun img d h => ?_) h
    split
    · rename_i hp
      exact Dev.kept_voted h _ _ hp
    · rename_i hp
      have h1 := Dev.kept_voted h _ _ hp
      have h2 : ∀ q, Dev.kept z (Dev.logged t 2 (fun d => d.postNow t q img) _).2 := fun q => Dev.kept_logged (fun d h => Dev.kept_postNow h) h1
      exact Dev.kept_ite (Dev.kept_awaitRecord (h2 _)) (Dev.kept_finish (h2 _))

theorem Dev.kept_takeNow {z : Nat} {q a : Nat} {t : Nat} {d : Dev} (h : d.kept z) : (Dev.takeNow q a t d).2.kept z := by
  unfold Dev.takeNow
  split
  · exact h
  · split
    · exact h
    · exact Dev.kept_qEnded (Dev.kept_qAdvance h)

theorem Dev.kept_qtake {z : Nat} {t rd ra rb : Nat} {d : Dev} (h : d.kept z) : (Dev.qtake t rd ra rb d).kept z := by
  unfold Dev.qtake
  refine Dev.kept_instr (fun d h => ?_) h
  dsimp only
  refine Dev.kept_ite (Dev.kept_operand h) ?_
  split
  · exact Dev.kept_fault h
  · split
    · rename_i hp
      exact Dev.kept_voted h _ _ hp
    · rename_i fresh d1 hp
      have h1 := Dev.kept_voted h _ _ hp
      have h3 : ∀ (p : List W × Dev), p.2.kept z → Dev.kept z (if p.1.headD 0 = begun then
          (p.2.when (decide (1 < p.1.length) && (fresh || inLocal ((d.triad t).core.getW rb).toNat))
            (fun d' => d'.storeN t ((d.triad t).core.getW rb).toNat (unpackW 96 (p.1.drop 1)))).awaitRecord t rd none (!fresh)
          else (p.2.when (decide (1 < p.1.length) && (fresh || inLocal ((d.triad t).core.getW rb).toNat))
            (fun d' => d'.storeN t ((d.triad t).core.getW rb).toNat (unpackW 96 (p.1.drop 1)))).finish t (fun c => (c.setW rd (p.1.headD 0)).next)) := by
        intro p hp
        exact Dev.kept_ite (Dev.kept_awaitRecord (Dev.kept_when (fun d h => Dev.kept_storeN h) hp))
          (Dev.kept_finish (Dev.kept_when (fun d h => Dev.kept_storeN h) hp))
      refine h3 _ ?_
      split
      · exact Dev.kept_logged (fun d h => h) h1
      · exact Dev.kept_logged (fun d h => Dev.kept_takeNow h) h1

theorem Dev.kept_awaited {z : Nat} {t rd n : Nat} {d : Dev} (h : d.kept z) : (Dev.awaited t rd n d).kept z := by
  unfold Dev.awaited
  repeat' (first
    | with_reducible assumption
    | intro h
    | with_reducible apply Dev.kept_finish)

theorem Dev.kept_awaitLine {z : Nat} {t : Nat} {lo hi : W} {d : Dev} (h : d.kept z) : (Dev.awaitLine t lo hi d).2.kept z := by
  unfold Dev.awaitLine
  repeat' (first
    | with_reducible assumption
    | intro h
    | with_reducible refine Dev.kept_modTriad (fun _ => rfl) ?_
    | with_reducible apply Dev.kept_logged
    | with_reducible apply Dev.kept_consumeLine
    | with_reducible apply Dev.kept_ite
    | split
    | dsimp only
    | fail_if_no_progress with_reducible refine Dev.kept_mk ?_ rfl)

theorem Dev.kept_await {z : Nat} {t rd ra rb : Nat} {d : Dev} (h : d.kept z) : (Dev.await t rd ra rb d).kept z := by
  unfold Dev.await
  refine Dev.kept_instr (fun d h => ?_) h
  dsimp only
  refine Dev.kept_ite (Dev.kept_operand h) ?_
  have h1 := Dev.kept_awaitLine (t := t) (lo := (d.triad t).core.getW ra) (hi := (d.triad t).core.getW rb) h
  generalize d.awaitLine t ((d.triad t).core.getW ra) ((d.triad t).core.getW rb) = p at h1
  obtain ⟨o, d1⟩ := p
  cases o with
  | none => exact Dev.kept_modTriad (fun _ => rfl) h1
  | some n => exact Dev.kept_awaited h1

theorem Dev.kept_ckpt {z : Nat} {t : Nat} {minority : Option (Fin 3)} {split : Bool} {d : Dev} (h : d.kept z) :
    (Dev.ckpt t minority split d).kept z := by
  unfold Dev.ckpt
  refine Dev.kept_instr (fun d h => ?_) h
  split
  · rename_i hp
    exact Dev.kept_voted h _ _ hp
  · rename_i hp
    exact Dev.kept_triadCheckpoint (Dev.kept_finish (Dev.kept_voted h _ _ hp))

theorem Dev.kept_sync {z : Nat} {t : Nat} {d : Dev} (h : d.kept z) : (Dev.sync t d).kept z := by
  unfold Dev.sync
  refine Dev.kept_instr (fun d h => ?_) h
  split
  · rename_i hp
    exact Dev.kept_voted h _ _ hp
  · rename_i hp
    exact Dev.kept_modTriad (fun _ => rfl) (Dev.kept_voted h _ _ hp)

theorem Dev.kept_awaitWake {z : Nat} {t : Nat} {d : Dev} (h : d.kept z) : (Dev.awaitWake t d).kept z := by
  unfold Dev.awaitWake
  split
  · rename_i rd lo hi _
    have h1 := Dev.kept_awaitLine (t := t) (lo := lo) (hi := hi) h
    generalize d.awaitLine t lo hi = p at h1
    obtain ⟨o, d1⟩ := p
    cases o with
    | none => exact h1
    | some n => exact Dev.kept_awaited h1
  · exact h

theorem Dev.kept_assuredComplete {z : Nat} {t : Nat} {d : Dev} (h : d.kept z) : (Dev.assuredComplete t d).kept z := by
  unfold Dev.assuredComplete
  repeat' (first
    | with_reducible assumption
    | intro h
    | with_reducible refine Dev.kept_modTriad (fun _ => rfl) ?_
    | with_reducible apply Dev.kept_finish
    | split
    | dsimp only
    | fail_if_no_progress with_reducible refine Dev.kept_mk ?_ rfl)

theorem Dev.kept_syncComplete {z : Nat} {t : Nat} {d : Dev} (h : d.kept z) : (Dev.syncComplete t d).kept z := by
  unfold Dev.syncComplete
  repeat' (first
    | with_reducible assumption
    | with_reducible apply Dev.kept_sync
    | with_reducible apply Dev.kept_finish
    | with_reducible apply Dev.kept_ite)

theorem Dev.kept_eventTaken {z : Nat} {t : Nat} {d : Dev} (h : d.kept z) : (Dev.eventTaken t d).kept z := by
  unfold Dev.eventTaken
  repeat' (first
    | with_reducible assumption
    | intro h
    | with_reducible refine Dev.kept_modTriad (fun _ => rfl) ?_
    | with_reducible apply Dev.kept_takeLine
    | with_reducible apply Dev.kept_consumeLine
    | with_reducible apply Dev.kept_ite
    | split
    | dsimp only
    | fail_if_no_progress with_reducible refine Dev.kept_mk ?_ rfl)

theorem Dev.kept_timerFire {z : Nat} {t k : Nat} {d : Dev} (h : d.kept z) : (Dev.timerFire t k d).kept z := by
  unfold Dev.timerFire
  repeat' (first
    | with_reducible assumption
    | intro h
    | with_reducible apply Dev.kept_raiseWhere
    | with_reducible apply Dev.kept_ite)

end Sys2Proof.Machine
end

