-- ==== Sys2Proof/Laws/Keeps.lean ====
section
/-! SUPPORT. What every command keeps: the memories, the bounded lists and the tables in order, and an STIME that does not
run backward. One lemma per command. -/

namespace Sys2Proof.Machine

theorem keeps_onAny {z : Nat} {s₀ s₁ : State} {t : Time} {f : Dev → Dev} (hf : ∀ d, Dev.kept z d → (f d).kept z) (h : s₀.dev.kept z)
    (hu : s₀.onAny t f = .next s₁) : s₁.dev.kept z := by
  obtain rfl := Host.Outcome.next.inj hu
  exact hf _ (Dev.kept_at h)

theorem keeps_on {z : Nat} {s₀ s₁ : State} {t : Time} {f : Dev → Dev} (hf : ∀ d, Dev.kept z d → (f d).kept z) (h : s₀.dev.kept z)
    (hu : s₀.on t f = .next s₁) : s₁.dev.kept z :=
  keeps_onAny (fun d h => Dev.kept_ite h (hf d h)) h hu

theorem keeps_onNow {z : Nat} {s₀ s₁ : State} {f : Dev → Dev} (hf : ∀ d, Dev.kept z d → (f d).kept z) (h : s₀.dev.kept z)
    (hu : s₀.onNow f = .next s₁) : s₁.dev.kept z := by
  obtain rfl := Host.Outcome.next.inj hu
  exact hf _ h

theorem keeps_registerWrite {z : Nat} {s₀ s₁ : State} {t : Time} {triad  : Fin 4} {a  : Nat} {v  : W} (h : s₀.dev.kept z)
    (hu : exec (.registerWrite t triad a v) s₀ = .next s₁) : s₁.dev.kept z := keeps_on (fun _ h => Dev.kept_registerWrite h) h hu

theorem keeps_unmappedAccess {z : Nat} {s₀ s₁ : State} {t : Time} {triad  : Fin 4} {a  : Nat} {write  : Bool} (h : s₀.dev.kept z)
    (hu : exec (.unmappedAccess t triad a write) s₀ = .next s₁) : s₁.dev.kept z := keeps_on (fun _ h => Dev.kept_unmappedAccess h) h hu

theorem keeps_corSwev {z : Nat} {s₀ s₁ : State} {t : Time} {w  : Fin 4} {v  : W} (h : s₀.dev.kept z)
    (hu : exec (.corSwev t w v) s₀ = .next s₁) : s₁.dev.kept z := keeps_on (fun _ h => Dev.kept_swev h) h hu

theorem keeps_adcSpareCalDone {z : Nat} {s₀ s₁ : State} {t : Time} {ofs  : Int} {gain  : Nat} {inl  : Int} (h : s₀.dev.kept z)
    (hu : exec (.adcSpareCalDone t ofs gain inl) s₀ = .next s₁) : s₁.dev.kept z := keeps_on (fun _ h => Dev.kept_spareCalDone h) h hu

theorem keeps_adcSwapCheck {z : Nat} {s₀ s₁ : State} {t : Time} {k  : Fin 8} {outgoing incoming  : Int} (h : s₀.dev.kept z)
    (hu : exec (.adcSwapCheck t k outgoing incoming) s₀ = .next s₁) : s₁.dev.kept z := keeps_on (fun _ h => Dev.kept_swapCheck h) h hu

theorem keeps_swapDeferred {z : Nat} {s₀ s₁ : State} {t : Time} {k  : Fin 8} (h : s₀.dev.kept z)
    (hu : exec (.swapDeferred t k) s₀ = .next s₁) : s₁.dev.kept z := keeps_on (fun _ h => Dev.kept_swapDeferred h) h hu

theorem keeps_adcCalAged {z : Nat} {s₀ s₁ : State} {t : Time} {n  : Fin 9} (h : s₀.dev.kept z)
    (hu : exec (.adcCalAged t n) s₀ = .next s₁) : s₁.dev.kept z := keeps_on (fun _ h => Dev.kept_calAgedConv h) h hu

theorem keeps_adcSeqgoWrite {z : Nat} {s₀ s₁ : State} {t : Time} {v  : W} (h : s₀.dev.kept z)
    (hu : exec (.adcSeqgoWrite t v) s₀ = .next s₁) : s₁.dev.kept z := keeps_on (fun _ h => Dev.kept_seqGo h) h hu

theorem keeps_adcGroupStart {z : Nat} {s₀ s₁ : State} {t : Time} {q  : Fin 32} (h : s₀.dev.kept z)
    (hu : exec (.adcGroupStart t q) s₀ = .next s₁) : s₁.dev.kept z := keeps_on (fun _ h => Dev.kept_groupStart h) h hu

theorem keeps_adcConversionDone {z : Nat} {s₀ s₁ : State} {t : Time} {k  : Fin 8} {nv  : Int} {high  : Bool} (h : s₀.dev.kept z)
    (hu : exec (.adcConversionDone t k nv high) s₀ = .next s₁) : s₁.dev.kept z := keeps_on (fun _ h => Dev.kept_convDone h) h hu

theorem keeps_adcUrgreqWrite {z : Nat} {s₀ s₁ : State} {t : Time} {triad  : Fin 4} {k  : Fin 8} {v  : W} (h : s₀.dev.kept z)
    (hu : exec (.adcUrgreqWrite t triad k v) s₀ = .next s₁) : s₁.dev.kept z := keeps_on (fun _ h => Dev.kept_urgWrite h) h hu

theorem keeps_adcUrgentStart {z : Nat} {s₀ s₁ : State} {t : Time} {k  : Fin 8} (h : s₀.dev.kept z)
    (hu : exec (.adcUrgentStart t k) s₀ = .next s₁) : s₁.dev.kept z := keeps_on (fun _ h => Dev.kept_urgStart h) h hu

theorem keeps_adcPowerDown {z : Nat} {s₀ s₁ : State} {t : Time} {n  : Fin 9} (h : s₀.dev.kept z)
    (hu : exec (.adcPowerDown t n) s₀ = .next s₁) : s₁.dev.kept z := keeps_on (fun _ h => Dev.kept_powerDown h) h hu

theorem keeps_adcWake {z : Nat} {s₀ s₁ : State} {t : Time} {n  : Fin 9} (h : s₀.dev.kept z)
    (hu : exec (.adcWake t n) s₀ = .next s₁) : s₁.dev.kept z := by
  refine keeps_on (f := fun d => d.modConv n (fun c => { c with down := false })) (fun d h => ?_) h hu
  repeat' (first | with_reducible exact h | intro h | with_reducible apply Dev.kept_modConv)

theorem keeps_dsmWindowResult {z : Nat} {s₀ s₁ : State} {t : Time} {n  : Fin 32} {y  : Int} (h : s₀.dev.kept z)
    (hu : exec (.dsmWindowResult t n y) s₀ = .next s₁) : s₁.dev.kept z := keeps_on (fun _ h => Dev.kept_windowResult h) h hu

theorem keeps_dsmContOutput {z : Nat} {s₀ s₁ : State} {t : Time} {n  : Fin 32} {y  : Int} (h : s₀.dev.kept z)
    (hu : exec (.dsmContOutput t n y) s₀ = .next s₁) : s₁.dev.kept z := keeps_on (fun _ h => Dev.kept_contOutput h) h hu

theorem keeps_dsmFastOutput {z : Nat} {s₀ s₁ : State} {t : Time} {n  : Fin 32} {y  : Int} (h : s₀.dev.kept z)
    (hu : exec (.dsmFastOutput t n y) s₀ = .next s₁) : s₁.dev.kept z := keeps_on (fun _ h => Dev.kept_fastOutput h) h hu

theorem keeps_dsmStuck {z : Nat} {s₀ s₁ : State} {t : Time} {n  : Fin 32} {stuck  : Bool} (h : s₀.dev.kept z)
    (hu : exec (.dsmStuck t n stuck) s₀ = .next s₁) : s₁.dev.kept z := keeps_on (fun _ h => Dev.kept_dsmStuck h) h hu

theorem keeps_axuForwardPass {z : Nat} {s₀ s₁ : State} {t : Time} {u  : Fin 16} (h : s₀.dev.kept z)
    (hu : exec (.axuForwardPass t u) s₀ = .next s₁) : s₁.dev.kept z := keeps_on (fun _ h => Dev.kept_forwardPass h) h hu

theorem keeps_axuInverseStage {z : Nat} {s₀ s₁ : State} {t : Time} {u  : Fin 16} (h : s₀.dev.kept z)
    (hu : exec (.axuInverseStage t u) s₀ = .next s₁) : s₁.dev.kept z := keeps_on (fun _ h => Dev.kept_inverseStage h) h hu

theorem keeps_measureDone {z : Nat} {s₀ s₁ : State} {t : Time} {u  : Fin 16} (h : s₀.dev.kept z)
    (hu : exec (.measureDone t u) s₀ = .next s₁) : s₁.dev.kept z := by
  refine keeps_on (f := fun d => d.withUnit u (fun f d => d.measureDone u f (d.fnPer f))) (fun d h => ?_) h hu
  repeat' (first | with_reducible exact h | intro h | with_reducible apply Dev.kept_withUnit | with_reducible apply Dev.kept_measureDone)

theorem keeps_polarityTestDone {z : Nat} {s₀ s₁ : State} {t : Time} {u  : Fin 16} (h : s₀.dev.kept z)
    (hu : exec (.polarityTestDone t u) s₀ = .next s₁) : s₁.dev.kept z := by
  refine keeps_on (f := fun d => d.withUnit u (fun f d => d.polarityDone u f)) (fun d h => ?_) h hu
  repeat' (first | with_reducible exact h | intro h | with_reducible apply Dev.kept_withUnit | with_reducible apply Dev.kept_polarityDone)

theorem keeps_reacquireAttempt {z : Nat} {s₀ s₁ : State} {t : Time} {u  : Fin 16} (h : s₀.dev.kept z)
    (hu : exec (.reacquireAttempt t u) s₀ = .next s₁) : s₁.dev.kept z := by
  refine keeps_on (f := fun d => d.withUnit u (fun f d => d.reacquire u f)) (fun d h => ?_) h hu
  repeat' (first | with_reducible exact h | intro h | with_reducible apply Dev.kept_withUnit | with_reducible apply Dev.kept_reacquire)

theorem keeps_trackSecond {z : Nat} {s₀ s₁ : State} {t : Time} {u  : Fin 16} (h : s₀.dev.kept z)
    (hu : exec (.trackSecond t u) s₀ = .next s₁) : s₁.dev.kept z := keeps_on (fun _ h => Dev.kept_trackSecond h) h hu

theorem keeps_hallEdge {z : Nat} {s₀ s₁ : State} {t : Time} {u  : Fin 16} {n  : Fin 24} (h : s₀.dev.kept z)
    (hu : exec (.hallEdge t u n) s₀ = .next s₁) : s₁.dev.kept z := keeps_on (fun _ h => Dev.kept_hallEdge h) h hu

theorem keeps_hallTimeout {z : Nat} {s₀ s₁ : State} {t : Time} {u  : Fin 16} (h : s₀.dev.kept z)
    (hu : exec (.hallTimeout t u) s₀ = .next s₁) : s₁.dev.kept z := keeps_on (fun _ h => Dev.kept_hallTimeout h) h hu

theorem keeps_marverRound {z : Nat} {s₀ s₁ : State} {t : Time} {reads  : List (Fin 64 × Fin 2 × Int)} {us  : Nat} (h : s₀.dev.kept z)
    (hu : exec (.marverRound t reads us) s₀ = .next s₁) : s₁.dev.kept z := by
  have hu : execMarverRound t reads us s₀ = .next s₁ := hu
  unfold execMarverRound at hu
  refine keeps_on (fun d h => ?_) h hu
  repeat' (first | with_reducible exact h | intro h | with_reducible apply Dev.kept_marverRound)

theorem keeps_marverLate {z : Nat} {s₀ s₁ : State} {t : Time} (h : s₀.dev.kept z)
    (hu : exec (.marverLate t) s₀ = .next s₁) : s₁.dev.kept z := keeps_on (fun _ h => Dev.kept_marverLate h) h hu

theorem keeps_scrubCorrection {z : Nat} {s₀ s₁ : State} {t : Time} {m  : Fin 5} {addr  : Nat} (h : s₀.dev.kept z)
    (hu : exec (.scrubCorrection t m addr) s₀ = .next s₁) : s₁.dev.kept z := keeps_on (fun _ h => Dev.kept_memCorrected h) h hu

theorem keeps_memUncorrectable {z : Nat} {s₀ s₁ : State} {t : Time} {m  : Fin 5} {addr  : Nat} {k  : Fin 4} (h : s₀.dev.kept z)
    (hu : exec (.memUncorrectable t m addr k) s₀ = .next s₁) : s₁.dev.kept z := keeps_on (fun _ h => Dev.kept_memUncorrectable h) h hu

theorem keeps_wearCheck {z : Nat} {s₀ s₁ : State} {t : Time} (h : s₀.dev.kept z)
    (hu : exec (.wearCheck t) s₀ = .next s₁) : s₁.dev.kept z := keeps_on (fun _ h => Dev.kept_wearCheck h) h hu

theorem keeps_bkgReqAdcCal {z : Nat} {s₀ s₁ : State} {t : Time} {triad  : Fin 4} {target  : Fin 65536} (h : s₀.dev.kept z)
    (hu : exec (.bkgReqAdcCal t triad target) s₀ = .next s₁) : s₁.dev.kept z := keeps_on (fun _ h => Dev.kept_bkgRequest h) h hu

theorem keeps_bkgReqCmpCheck {z : Nat} {s₀ s₁ : State} {t : Time} {triad  : Fin 4} {target  : Fin 65536} {read  : Option (Fin 2 × Int)} (h : s₀.dev.kept z)
    (hu : exec (.bkgReqCmpCheck t triad target read) s₀ = .next s₁) : s₁.dev.kept z := by
  refine keeps_on (f := fun d => (d.bkgRequest triad (reqWord 2 target)).whenSome read (fun p d => if d.reqIs triad 2 target then d.dacReadback target p.1 p.2 else d)) (fun d h => ?_) h hu
  repeat' (first | with_reducible exact h | intro h | with_reducible apply Dev.kept_whenSome | with_reducible apply Dev.kept_bkgRequest | with_reducible apply Dev.kept_dacReadback | with_reducible apply Dev.kept_ite)

theorem keeps_bkgReqPadCheck {z : Nat} {s₀ s₁ : State} {t : Time} {triad  : Fin 4} {target  : Fin 65536} (h : s₀.dev.kept z)
    (hu : exec (.bkgReqPadCheck t triad target) s₀ = .next s₁) : s₁.dev.kept z := keeps_on (fun _ h => Dev.kept_bkgRequest h) h hu

theorem keeps_bkgReqCenSelftest {z : Nat} {s₀ s₁ : State} {t : Time} {triad  : Fin 4} {target  : Fin 65536} (h : s₀.dev.kept z)
    (hu : exec (.bkgReqCenSelftest t triad target) s₀ = .next s₁) : s₁.dev.kept z := keeps_on (fun _ h => Dev.kept_bkgRequest h) h hu

theorem keeps_bkgReqCoreSelftest {z : Nat} {s₀ s₁ : State} {t : Time} {triad  : Fin 4} {target  : Fin 65536} (h : s₀.dev.kept z)
    (hu : exec (.bkgReqCoreSelftest t triad target) s₀ = .next s₁) : s₁.dev.kept z := keeps_on (fun _ h => Dev.kept_bkgRequest h) h hu

theorem keeps_bkgReqScrub {z : Nat} {s₀ s₁ : State} {t : Time} {triad  : Fin 4} {target  : Fin 65536} (h : s₀.dev.kept z)
    (hu : exec (.bkgReqScrub t triad target) s₀ = .next s₁) : s₁.dev.kept z := keeps_on (fun _ h => Dev.kept_bkgRequest h) h hu

theorem keeps_bkgReqMarver {z : Nat} {s₀ s₁ : State} {t : Time} {triad  : Fin 4} {target  : Fin 65536} (h : s₀.dev.kept z)
    (hu : exec (.bkgReqMarver t triad target) s₀ = .next s₁) : s₁.dev.kept z := keeps_on (fun _ h => Dev.kept_bkgRequest h) h hu

theorem keeps_bkgReqDeferred {z : Nat} {s₀ s₁ : State} {t : Time} {triad  : Fin 4} (h : s₀.dev.kept z)
    (hu : exec (.bkgReqDeferred t triad) s₀ = .next s₁) : s₁.dev.kept z := keeps_on (fun _ h => Dev.kept_bkgDeferred h) h hu

theorem keeps_coreSelftestPeriodic {z : Nat} {s₀ s₁ : State} {t : Time} (h : s₀.dev.kept z)
    (hu : exec (.coreSelftestPeriodic t) s₀ = .next s₁) : s₁.dev.kept z := keeps_on (fun _ h => Dev.kept_corePeriodic h) h hu

theorem keeps_coreSelftestDone {z : Nat} {s₀ s₁ : State} {t : Time} {c  : Fin 12} {pass  : Bool} (h : s₀.dev.kept z)
    (hu : exec (.coreSelftestDone t c pass) s₀ = .next s₁) : s₁.dev.kept z := keeps_on (fun _ h => Dev.kept_coreDone h) h hu

theorem keeps_telemetryPost {z : Nat} {s₀ s₁ : State} {t : Time} (h : s₀.dev.kept z)
    (hu : exec (.telemetryPost t) s₀ = .next s₁) : s₁.dev.kept z := keeps_on (fun _ h => Dev.kept_telemetry h) h hu

theorem keeps_flashProbe {z : Nat} {s₀ s₁ : State} {t : Time} {mode  : Fin 3} (h : s₀.dev.kept z)
    (hu : exec (.flashProbe t mode) s₀ = .next s₁) : s₁.dev.kept z := by
  refine keeps_on (f := fun d => d.atStep .probe (fun d => d.flashProbe mode)) (fun d h => ?_) h hu
  repeat' (first | with_reducible exact h | intro h | with_reducible apply Dev.kept_atStep | with_reducible apply Dev.kept_flashProbe)

theorem keeps_headerCheck {z : Nat} {s₀ s₁ : State} {t : Time} {okA okB  : Bool} (h : s₀.dev.kept z)
    (hu : exec (.headerCheck t okA okB) s₀ = .next s₁) : s₁.dev.kept z := by
  refine keeps_on (f := fun d => d.atStep .headers (fun d => d.headerCheck okA okB)) (fun d h => ?_) h hu
  repeat' (first | with_reducible exact h | intro h | with_reducible apply Dev.kept_atStep | with_reducible apply Dev.kept_headerCheck)

theorem keeps_bodyReadDone {z : Nat} {s₀ s₁ : State} {t : Time} (h : s₀.dev.kept z)
    (hu : exec (.bodyReadDone t) s₀ = .next s₁) : s₁.dev.kept z := by
  refine keeps_on (f := fun d => d.atStep .body (fun d => d.bodyRead)) (fun d h => ?_) h hu
  repeat' (first | with_reducible exact h | intro h | with_reducible apply Dev.kept_atStep | with_reducible apply Dev.kept_bodyRead)

theorem keeps_signatureVerify {z : Nat} {s₀ s₁ : State} {t : Time} (h : s₀.dev.kept z)
    (hu : exec (.signatureVerify t) s₀ = .next s₁) : s₁.dev.kept z := by
  refine keeps_on (f := fun d => d.atStep .signature (fun d => d.signatureVerify)) (fun d h => ?_) h hu
  repeat' (first | with_reducible exact h | intro h | with_reducible apply Dev.kept_atStep | with_reducible apply Dev.kept_signatureVerify)

theorem keeps_firstPass {z : Nat} {s₀ s₁ : State} {t : Time} (h : s₀.dev.kept z)
    (hu : exec (.firstPass t) s₀ = .next s₁) : s₁.dev.kept z := by
  refine keeps_on (f := fun d => d.atStep .firstPass (fun d => d.firstPassDone)) (fun d h => ?_) h hu
  repeat' (first | with_reducible exact h | intro h | with_reducible apply Dev.kept_atStep | with_reducible apply Dev.kept_firstPassDone)

theorem keeps_secondPass {z : Nat} {s₀ s₁ : State} {t : Time} {side okA okB  : Bool} (h : s₀.dev.kept z)
    (hu : exec (.secondPass t side okA okB) s₀ = .next s₁) : s₁.dev.kept z := by
  refine keeps_on (f := fun d => d.atStep .secondPass (fun d => d.secondPass side okA okB)) (fun d h => ?_) h hu
  repeat' (first | with_reducible exact h | intro h | with_reducible apply Dev.kept_atStep | with_reducible apply Dev.kept_secondPass)

theorem keeps_thirdPass {z : Nat} {s₀ s₁ : State} {t : Time} (h : s₀.dev.kept z)
    (hu : exec (.thirdPass t) s₀ = .next s₁) : s₁.dev.kept z := by
  refine keeps_on (f := fun d => d.atStep .thirdPass (fun d => d.thirdPass)) (fun d h => ?_) h hu
  repeat' (first | with_reducible exact h | intro h | with_reducible apply Dev.kept_atStep | with_reducible apply Dev.kept_thirdPass)

theorem keeps_startCalibration {z : Nat} {s₀ s₁ : State} {t : Time} {fails  : List (Nat × Nat × Nat)} (h : s₀.dev.kept z)
    (hu : exec (.startCalibration t fails) s₀ = .next s₁) : s₁.dev.kept z := by
  refine keeps_on (f := fun d => d.atStep .calibrate (fun d => d.startCalibration fails)) (fun d h => ?_) h hu
  repeat' (first | with_reducible exact h | intro h | with_reducible apply Dev.kept_atStep | with_reducible apply Dev.kept_startCalibration)

theorem keeps_journalRecovery {z : Nat} {s₀ s₁ : State} {t : Time} {bad  : List Nat} (h : s₀.dev.kept z)
    (hu : exec (.journalRecovery t bad) s₀ = .next s₁) : s₁.dev.kept z := by
  refine keeps_on (f := fun d => d.atStep .journal (fun d => d.journalRecovery bad)) (fun d h => ?_) h hu
  repeat' (first | with_reducible exact h | intro h | with_reducible apply Dev.kept_atStep | with_reducible apply Dev.kept_journalRecovery)

theorem keeps_configLock {z : Nat} {s₀ s₁ : State} {t : Time} (h : s₀.dev.kept z)
    (hu : exec (.configLock t) s₀ = .next s₁) : s₁.dev.kept z := by
  refine keeps_on (f := fun d => d.atStep .lock (fun d => d.configLock)) (fun d h => ?_) h hu
  repeat' (first | with_reducible exact h | intro h | with_reducible apply Dev.kept_atStep | with_reducible apply Dev.kept_configLock)

theorem keeps_startResume {z : Nat} {s₀ s₁ : State} {t : Time} (h : s₀.dev.kept z)
    (hu : exec (.startResume t) s₀ = .next s₁) : s₁.dev.kept z := keeps_on (fun _ h => Dev.kept_startResume h) h hu

theorem keeps_run {z : Nat} {s₀ s₁ : State} {t : Time} {triad  : Fin 4} (h : s₀.dev.kept z)
    (hu : exec (.run t triad) s₀ = .next s₁) : s₁.dev.kept z := keeps_on (fun _ h => Dev.kept_runWrite h) h hu

theorem keeps_sysCtrlRestart {z : Nat} {s₀ s₁ : State} {t : Time} {triad  : Fin 4} {key  : Nat} (h : s₀.dev.kept z)
    (hu : exec (.sysCtrlRestart t triad key) s₀ = .next s₁) : s₁.dev.kept z := keeps_on (fun _ h => Dev.kept_restartWrite h) h hu

theorem keeps_slotWriteCheck {z : Nat} {s₀ s₁ : State} {t : Time} (h : s₀.dev.kept z)
    (hu : exec (.slotWriteCheck t) s₀ = .next s₁) : s₁.dev.kept z := keeps_on (fun _ h => Dev.kept_slotWriteCheck h) h hu

theorem keeps_busFrameReceived {z : Nat} {s₀ s₁ : State} {t : Time} {n  : Fin 6} {fr  : Frame} {sof  : Time} (h : s₀.dev.kept z)
    (hu : exec (.busFrameReceived t n fr sof) s₀ = .next s₁) : s₁.dev.kept z := keeps_on (fun _ h => Dev.kept_frameIn h) h hu

theorem keeps_busTxStart {z : Nat} {s₀ s₁ : State} {t : Time} {n  : Fin 6} {sof  : Time} (h : s₀.dev.kept z)
    (hu : exec (.busTxStart t n sof) s₀ = .next s₁) : s₁.dev.kept z := keeps_on (fun _ h => Dev.kept_txStart h) h hu

theorem keeps_arbitrationLost {z : Nat} {s₀ s₁ : State} {t : Time} {n  : Fin 6} (h : s₀.dev.kept z)
    (hu : exec (.arbitrationLost t n) s₀ = .next s₁) : s₁.dev.kept z := keeps_on (fun _ h => Dev.kept_arbLost h) h hu

theorem keeps_busTxComplete {z : Nat} {s₀ s₁ : State} {t : Time} {n  : Fin 6} {tdc  : Nat} (h : s₀.dev.kept z)
    (hu : exec (.busTxComplete t n tdc) s₀ = .next s₁) : s₁.dev.kept z := keeps_on (fun _ h => Dev.kept_txComplete h) h hu

theorem keeps_busTxError {z : Nat} {s₀ s₁ : State} {t : Time} {n  : Fin 6} {code  : Fin 8} {dataPhase exempt  : Bool} (h : s₀.dev.kept z)
    (hu : exec (.busTxError t n code dataPhase exempt) s₀ = .next s₁) : s₁.dev.kept z := keeps_on (fun _ h => Dev.kept_txError h) h hu

theorem keeps_busRecovered {z : Nat} {s₀ s₁ : State} {t : Time} {n  : Fin 6} (h : s₀.dev.kept z)
    (hu : exec (.busRecovered t n) s₀ = .next s₁) : s₁.dev.kept z := keeps_on (fun _ h => Dev.kept_busRecovered h) h hu

theorem keeps_busRecover {z : Nat} {s₀ s₁ : State} {t : Time} {n  : Fin 6} {v  : W} (h : s₀.dev.kept z)
    (hu : exec (.busRecover t n v) s₀ = .next s₁) : s₁.dev.kept z := keeps_on (fun _ h => Dev.kept_busCtrl h) h hu

theorem keeps_abdDwell {z : Nat} {s₀ s₁ : State} {t : Time} {n  : Fin 6} (h : s₀.dev.kept z)
    (hu : exec (.abdDwell t n) s₀ = .next s₁) : s₁.dev.kept z := keeps_on (fun _ h => Dev.kept_abdDwell h) h hu

theorem keeps_queExpired {z : Nat} {s₀ s₁ : State} {t : Time} {q  : Fin 32} (h : s₀.dev.kept z)
    (hu : exec (.queExpired t q) s₀ = .next s₁) : s₁.dev.kept z := keeps_on (fun _ h => Dev.kept_queExpired h) h hu

theorem keeps_queCancel {z : Nat} {s₀ s₁ : State} {t : Time} {q  : Fin 32} {v  : W} (h : s₀.dev.kept z)
    (hu : exec (.queCancel t q v) s₀ = .next s₁) : s₁.dev.kept z := keeps_on (fun _ h => Dev.kept_queCancel h) h hu

theorem keeps_queIndexWrite {z : Nat} {s₀ s₁ : State} {t : Time} {triad  : Fin 4} {q  : Fin 32} {rdIx  : Bool} {v  : W} (h : s₀.dev.kept z)
    (hu : exec (.queIndexWrite t triad q rdIx v) s₀ = .next s₁) : s₁.dev.kept z := keeps_on (fun _ h => Dev.kept_indexWrite h) h hu

theorem keeps_busRxError {z : Nat} {s₀ s₁ : State} {t : Time} {n  : Fin 6} {code  : Fin 8} {dataPhase eight  : Bool} (h : s₀.dev.kept z)
    (hu : exec (.busRxError t n code dataPhase eight) s₀ = .next s₁) : s₁.dev.kept z := keeps_on (fun _ h => Dev.kept_rxError h) h hu

theorem keeps_busIntegrationDone {z : Nat} {s₀ s₁ : State} {t : Time} {n  : Fin 6} (h : s₀.dev.kept z)
    (hu : exec (.busIntegrationDone t n) s₀ = .next s₁) : s₁.dev.kept z := keeps_on (fun _ h => Dev.kept_integrated h) h hu

theorem keeps_cenGoWrite {z : Nat} {s₀ s₁ : State} {t : Time} {p  : Fin 16} {v  : W} (h : s₀.dev.kept z)
    (hu : exec (.cenGoWrite t p v) s₀ = .next s₁) : s₁.dev.kept z := keeps_on (fun _ h => Dev.kept_cenGo h) h hu

theorem keeps_cenActivationStart {z : Nat} {s₀ s₁ : State} {t : Time} {i  : Fin 64} {differ  : Bool} (h : s₀.dev.kept z)
    (hu : exec (.cenActivationStart t i differ) s₀ = .next s₁) : s₁.dev.kept z := keeps_on (fun _ h => Dev.kept_activate h) h hu

theorem keeps_cenAgreement {z : Nat} {s₀ s₁ : State} {t : Time} {i  : Fin 64} {sigDiffer  : Bool} (h : s₀.dev.kept z)
    (hu : exec (.cenAgreement t i sigDiffer) s₀ = .next s₁) : s₁.dev.kept z := keeps_on (fun _ h => Dev.kept_agree h) h hu

theorem keeps_latentReexecution {z : Nat} {s₀ s₁ : State} {t : Time} {p  : Fin 16} {same  : Bool} (h : s₀.dev.kept z)
    (hu : exec (.latentReexecution t p same) s₀ = .next s₁) : s₁.dev.kept z := keeps_on (fun _ h => Dev.kept_reexecuted h) h hu

theorem keeps_cenRestartDone {z : Nat} {s₀ s₁ : State} {t : Time} {p  : Fin 16} {known  : Bool} (h : s₀.dev.kept z)
    (hu : exec (.cenRestartDone t p known) s₀ = .next s₁) : s₁.dev.kept z := keeps_on (fun _ h => Dev.kept_restartDone h) h hu

theorem keeps_cenDeadlineMiss {z : Nat} {s₀ s₁ : State} {t : Time} {i  : Fin 64} (h : s₀.dev.kept z)
    (hu : exec (.cenDeadlineMiss t i) s₀ = .next s₁) : s₁.dev.kept z := keeps_on (fun _ h => Dev.kept_deadlineMiss h) h hu

theorem keeps_cenSelftest {z : Nat} {s₀ s₁ : State} {t : Time} {p  : Fin 16} {fail0 fail1  : Bool} (h : s₀.dev.kept z)
    (hu : exec (.cenSelftest t p fail0 fail1) s₀ = .next s₁) : s₁.dev.kept z := by
  refine keeps_on (f := fun d => if d.isSet (CEN_CFG p) CEN_CFG_STEN || d.reqWanted 4 p then d.engineTest p fail0 fail1 else d) (fun d h => ?_) h hu
  repeat' (first | with_reducible exact h | with_reducible apply Dev.kept_engineTest | with_reducible apply Dev.kept_ite)

theorem keeps_selftestDeferred {z : Nat} {s₀ s₁ : State} {t : Time} {p  : Fin 16} (h : s₀.dev.kept z)
    (hu : exec (.selftestDeferred t p) s₀ = .next s₁) : s₁.dev.kept z := keeps_on (fun _ h => Dev.kept_engineTestDeferred h) h hu

theorem keeps_chgStep {z : Nat} {s₀ s₁ : State} {t : Time} {c  : Fin 2} (h : s₀.dev.kept z)
    (hu : exec (.chgStep t c) s₀ = .next s₁) : s₁.dev.kept z := keeps_on (fun _ h => Dev.kept_chgStep h) h hu

theorem keeps_chgStart {z : Nat} {s₀ s₁ : State} {t : Time} {c  : Fin 2} (h : s₀.dev.kept z)
    (hu : exec (.chgStart t c) s₀ = .next s₁) : s₁.dev.kept z := keeps_on (fun _ h => Dev.kept_chgCtrl h) h hu

theorem keeps_chgStop {z : Nat} {s₀ s₁ : State} {t : Time} {c  : Fin 2} (h : s₀.dev.kept z)
    (hu : exec (.chgStop t c) s₀ = .next s₁) : s₁.dev.kept z := keeps_on (fun _ h => Dev.kept_chgCtrl h) h hu

theorem keeps_chgAck {z : Nat} {s₀ s₁ : State} {t : Time} {sid  : Nat} {c  : Fin 2} (h : s₀.dev.kept z)
    (hu : exec (.chgAck t sid c) s₀ = .next s₁) : s₁.dev.kept z := by
  refine keeps_on (f := fun d => if d.ackSession sid then d.chgAck c else d) (fun d h => ?_) h hu
  repeat' (first | with_reducible exact h | with_reducible apply Dev.kept_chgAck | with_reducible apply Dev.kept_ite)

theorem keeps_handoverComplete {z : Nat} {s₀ s₁ : State} {t : Time} {c  : Fin 2} (h : s₀.dev.kept z)
    (hu : exec (.handoverComplete t c) s₀ = .next s₁) : s₁.dev.kept z := keeps_on (fun _ h => Dev.kept_handoverDone h) h hu

theorem keeps_mpptUpdate {z : Nat} {s₀ s₁ : State} {t : Time} {c  : Fin 2} (h : s₀.dev.kept z)
    (hu : exec (.mpptUpdate t c) s₀ = .next s₁) : s₁.dev.kept z := keeps_on (fun _ h => Dev.kept_mppt h) h hu

theorem keeps_lampFault {z : Nat} {s₀ s₁ : State} {t : Time} {c  : Fin 2} {short  : Bool} (h : s₀.dev.kept z)
    (hu : exec (.lampFault t c short) s₀ = .next s₁) : s₁.dev.kept z := keeps_on (fun _ h => Dev.kept_lampFault h) h hu

theorem keeps_lampRetry {z : Nat} {s₀ s₁ : State} {t : Time} {c  : Fin 2} (h : s₀.dev.kept z)
    (hu : exec (.lampRetry t c) s₀ = .next s₁) : s₁.dev.kept z := keeps_on (fun _ h => Dev.kept_lampRetry h) h hu

theorem keeps_chgLampWrite {z : Nat} {s₀ s₁ : State} {t : Time} {triad  : Fin 4} {c  : Fin 2} {v  : W} (h : s₀.dev.kept z)
    (hu : exec (.chgLampWrite t triad c v) s₀ = .next s₁) : s₁.dev.kept z := keeps_on (fun _ h => Dev.kept_lampWrite h) h hu

theorem keeps_cmpTrip {z : Nat} {s₀ s₁ : State} {t : Time} {n  : Fin 64} {news  : List (Bool × Bool)} (h : s₀.dev.kept z)
    (hu : exec (.cmpTrip t n news) s₀ = .next s₁) : s₁.dev.kept z := keeps_on (fun _ h => Dev.kept_windowTrips h) h hu

theorem keeps_cmpNormal {z : Nat} {s₀ s₁ : State} {t : Time} {n  : Fin 64} {news  : List (Bool × Bool)} (h : s₀.dev.kept z)
    (hu : exec (.cmpNormal t n news) s₀ = .next s₁) : s₁.dev.kept z := keeps_on (fun _ h => Dev.kept_windowNormal h) h hu

theorem keeps_cmpTestTick {z : Nat} {s₀ s₁ : State} {t : Time} {n  : Fin 64} {failed  : Bool} (h : s₀.dev.kept z)
    (hu : exec (.cmpTestTick t n failed) s₀ = .next s₁) : s₁.dev.kept z := keeps_on (fun _ h => Dev.kept_testTick h) h hu

theorem keeps_cmpDacReread {z : Nat} {s₀ s₁ : State} {t : Time} {n  : Fin 64} {err  : Int} (h : s₀.dev.kept z)
    (hu : exec (.cmpDacReread t n err) s₀ = .next s₁) : s₁.dev.kept z := keeps_on (fun _ h => Dev.kept_dacReread h) h hu

theorem keeps_cmpDegradedRead {z : Nat} {s₀ s₁ : State} {t : Time} {n  : Fin 64} {code  : Nat} (h : s₀.dev.kept z)
    (hu : exec (.cmpDegradedRead t n code) s₀ = .next s₁) : s₁.dev.kept z := keeps_on (fun _ h => Dev.kept_degradedRead h) h hu

theorem keeps_tripInAssert {z : Nat} {s₀ s₁ : State} {t : Time} {i  : Fin 4} (h : s₀.dev.kept z)
    (hu : exec (.tripInAssert t i) s₀ = .next s₁) : s₁.dev.kept z := keeps_on (fun _ h => Dev.kept_tripIn h) h hu

theorem keeps_tripInDeassert {z : Nat} {s₀ s₁ : State} {t : Time} {i  : Fin 4} (h : s₀.dev.kept z)
    (hu : exec (.tripInDeassert t i) s₀ = .next s₁) : s₁.dev.kept z := keeps_on (fun _ h => Dev.kept_tripIn h) h hu

theorem keeps_trpSwtripWrite {z : Nat} {s₀ s₁ : State} {t : Time} {triad  : Fin 4} {v  : W} (h : s₀.dev.kept z)
    (hu : exec (.trpSwtripWrite t triad v) s₀ = .next s₁) : s₁.dev.kept z := keeps_on (fun _ h => Dev.kept_swTrip h) h hu

theorem keeps_trpRelWrite {z : Nat} {s₀ s₁ : State} {t : Time} {triad  : Fin 4} {v  : W} (h : s₀.dev.kept z)
    (hu : exec (.trpRelWrite t triad v) s₀ = .next s₁) : s₁.dev.kept z := keeps_on (fun _ h => Dev.kept_relWrite h) h hu

theorem keeps_autoRelease {z : Nat} {s₀ s₁ : State} {t : Time} {g  : Fin 16} (h : s₀.dev.kept z)
    (hu : exec (.autoRelease t g) s₀ = .next s₁) : s₁.dev.kept z := keeps_on (fun _ h => Dev.kept_autoRelease h) h hu

theorem keeps_eventTaken {z : Nat} {s₀ s₁ : State} {t : Time} {k  : Fin 4} (h : s₀.dev.kept z)
    (hu : exec (.eventTaken t k) s₀ = .next s₁) : s₁.dev.kept z := keeps_on (fun _ h => Dev.kept_eventTaken h) h hu

theorem keeps_corTimerFire {z : Nat} {s₀ s₁ : State} {t : Time} {k  : Fin 4} {n  : Fin 4} (h : s₀.dev.kept z)
    (hu : exec (.corTimerFire t k n) s₀ = .next s₁) : s₁.dev.kept z := keeps_on (fun _ h => Dev.kept_timerFire h) h hu

theorem keeps_awaitWake {z : Nat} {s₀ s₁ : State} {t : Time} {k  : Fin 4} (h : s₀.dev.kept z)
    (hu : exec (.awaitWake t k) s₀ = .next s₁) : s₁.dev.kept z := keeps_on (fun _ h => Dev.kept_awaitWake h) h hu

theorem keeps_assuredQueueComplete {z : Nat} {s₀ s₁ : State} {t : Time} {k  : Fin 4} (h : s₀.dev.kept z)
    (hu : exec (.assuredQueueComplete t k) s₀ = .next s₁) : s₁.dev.kept z := keeps_on (fun _ h => Dev.kept_assuredComplete h) h hu

theorem keeps_syncComplete {z : Nat} {s₀ s₁ : State} {t : Time} {k  : Fin 4} (h : s₀.dev.kept z)
    (hu : exec (.syncComplete t k) s₀ = .next s₁) : s₁.dev.kept z := keeps_on (fun _ h => Dev.kept_syncComplete h) h hu

theorem keeps_add {z : Nat} {s₀ s₁ : State} {k  : Fin 4} {rd ra rb  : Fin 32} (h : s₀.dev.kept z)
    (hu : exec (.add k rd ra rb) s₀ = .next s₁) : s₁.dev.kept z := by
  refine keeps_onNow (f := fun d => d.alu k (fun c => c.setW rd (c.getW ra + c.getW rb))) (fun d h => ?_) h hu
  repeat' (first | with_reducible exact h | intro h | with_reducible apply Dev.kept_alu)

theorem keeps_sub {z : Nat} {s₀ s₁ : State} {k  : Fin 4} {rd ra rb  : Fin 32} (h : s₀.dev.kept z)
    (hu : exec (.sub k rd ra rb) s₀ = .next s₁) : s₁.dev.kept z := by
  refine keeps_onNow (f := fun d => d.alu k (fun c => c.setW rd (c.getW ra - c.getW rb))) (fun d h => ?_) h hu
  repeat' (first | with_reducible exact h | intro h | with_reducible apply Dev.kept_alu)

theorem keeps_and {z : Nat} {s₀ s₁ : State} {k  : Fin 4} {rd ra rb  : Fin 32} (h : s₀.dev.kept z)
    (hu : exec (.and_ k rd ra rb) s₀ = .next s₁) : s₁.dev.kept z := by
  refine keeps_onNow (f := fun d => d.alu k (fun c => c.setW rd (c.getW ra &&& c.getW rb))) (fun d h => ?_) h hu
  repeat' (first | with_reducible exact h | intro h | with_reducible apply Dev.kept_alu)

theorem keeps_or {z : Nat} {s₀ s₁ : State} {k  : Fin 4} {rd ra rb  : Fin 32} (h : s₀.dev.kept z)
    (hu : exec (.or_ k rd ra rb) s₀ = .next s₁) : s₁.dev.kept z := by
  refine keeps_onNow (f := fun d => d.alu k (fun c => c.setW rd (c.getW ra ||| c.getW rb))) (fun d h => ?_) h hu
  repeat' (first | with_reducible exact h | intro h | with_reducible apply Dev.kept_alu)

theorem keeps_xor {z : Nat} {s₀ s₁ : State} {k  : Fin 4} {rd ra rb  : Fin 32} (h : s₀.dev.kept z)
    (hu : exec (.xor_ k rd ra rb) s₀ = .next s₁) : s₁.dev.kept z := by
  refine keeps_onNow (f := fun d => d.alu k (fun c => c.setW rd (c.getW ra ^^^ c.getW rb))) (fun d h => ?_) h hu
  repeat' (first | with_reducible exact h | intro h | with_reducible apply Dev.kept_alu)

theorem keeps_shl {z : Nat} {s₀ s₁ : State} {k  : Fin 4} {rd ra rb  : Fin 32} (h : s₀.dev.kept z)
    (hu : exec (.shl k rd ra rb) s₀ = .next s₁) : s₁.dev.kept z := by
  refine keeps_onNow (f := fun d => d.alu k (fun c => c.setW rd (c.getW ra <<< shamt (c.getW rb)))) (fun d h => ?_) h hu
  repeat' (first | with_reducible exact h | intro h | with_reducible apply Dev.kept_alu)

theorem keeps_shr {z : Nat} {s₀ s₁ : State} {k  : Fin 4} {rd ra rb  : Fin 32} (h : s₀.dev.kept z)
    (hu : exec (.shr k rd ra rb) s₀ = .next s₁) : s₁.dev.kept z := by
  refine keeps_onNow (f := fun d => d.alu k (fun c => c.setW rd (c.getW ra >>> shamt (c.getW rb)))) (fun d h => ?_) h hu
  repeat' (first | with_reducible exact h | intro h | with_reducible apply Dev.kept_alu)

theorem keeps_sar {z : Nat} {s₀ s₁ : State} {k  : Fin 4} {rd ra rb  : Fin 32} (h : s₀.dev.kept z)
    (hu : exec (.sar k rd ra rb) s₀ = .next s₁) : s₁.dev.kept z := by
  refine keeps_onNow (f := fun d => d.alu k (fun c => c.setW rd ((c.getW ra).sshiftRight (shamt (c.getW rb))))) (fun d h => ?_) h hu
  repeat' (first | with_reducible exact h | intro h | with_reducible apply Dev.kept_alu)

theorem keeps_rot {z : Nat} {s₀ s₁ : State} {k  : Fin 4} {rd ra rb  : Fin 32} (h : s₀.dev.kept z)
    (hu : exec (.rot k rd ra rb) s₀ = .next s₁) : s₁.dev.kept z := by
  refine keeps_onNow (f := fun d => d.alu k (fun c => c.setW rd ((c.getW ra).rotateLeft (shamt (c.getW rb))))) (fun d h => ?_) h hu
  repeat' (first | with_reducible exact h | intro h | with_reducible apply Dev.kept_alu)

theorem keeps_slt {z : Nat} {s₀ s₁ : State} {k  : Fin 4} {rd ra rb  : Fin 32} (h : s₀.dev.kept z)
    (hu : exec (.slt k rd ra rb) s₀ = .next s₁) : s₁.dev.kept z := by
  refine keeps_onNow (f := fun d => d.alu k (fun c => c.setW rd (bool32 ((c.getW ra).slt (c.getW rb))))) (fun d h => ?_) h hu
  repeat' (first | with_reducible exact h | intro h | with_reducible apply Dev.kept_alu)

theorem keeps_sltu {z : Nat} {s₀ s₁ : State} {k  : Fin 4} {rd ra rb  : Fin 32} (h : s₀.dev.kept z)
    (hu : exec (.sltu k rd ra rb) s₀ = .next s₁) : s₁.dev.kept z := by
  refine keeps_onNow (f := fun d => d.alu k (fun c => c.setW rd (bool32 ((c.getW ra).ult (c.getW rb))))) (fun d h => ?_) h hu
  repeat' (first | with_reducible exact h | intro h | with_reducible apply Dev.kept_alu)

theorem keeps_mul {z : Nat} {s₀ s₁ : State} {k  : Fin 4} {rd ra rb  : Fin 32} (h : s₀.dev.kept z)
    (hu : exec (.mul k rd ra rb) s₀ = .next s₁) : s₁.dev.kept z := by
  refine keeps_onNow (f := fun d => d.alu k (fun c => c.setW rd (c.getW ra * c.getW rb))) (fun d h => ?_) h hu
  repeat' (first | with_reducible exact h | intro h | with_reducible apply Dev.kept_alu)

theorem keeps_mulh {z : Nat} {s₀ s₁ : State} {k  : Fin 4} {rd ra rb  : Fin 32} (h : s₀.dev.kept z)
    (hu : exec (.mulh k rd ra rb) s₀ = .next s₁) : s₁.dev.kept z := by
  refine keeps_onNow (f := fun d => d.alu k (fun c => c.setW rd (mulHi (c.getW ra) (c.getW rb)))) (fun d h => ?_) h hu
  repeat' (first | with_reducible exact h | intro h | with_reducible apply Dev.kept_alu)

theorem keeps_mulhu {z : Nat} {s₀ s₁ : State} {k  : Fin 4} {rd ra rb  : Fin 32} (h : s₀.dev.kept z)
    (hu : exec (.mulhu k rd ra rb) s₀ = .next s₁) : s₁.dev.kept z := by
  refine keeps_onNow (f := fun d => d.alu k (fun c => c.setW rd (mulHiU (c.getW ra) (c.getW rb)))) (fun d h => ?_) h hu
  repeat' (first | with_reducible exact h | intro h | with_reducible apply Dev.kept_alu)

theorem keeps_div {z : Nat} {s₀ s₁ : State} {k  : Fin 4} {rd ra rb  : Fin 32} (h : s₀.dev.kept z)
    (hu : exec (.div k rd ra rb) s₀ = .next s₁) : s₁.dev.kept z := keeps_onNow (fun _ h => Dev.kept_divide h) h hu

theorem keeps_divu {z : Nat} {s₀ s₁ : State} {k  : Fin 4} {rd ra rb  : Fin 32} (h : s₀.dev.kept z)
    (hu : exec (.divu k rd ra rb) s₀ = .next s₁) : s₁.dev.kept z := keeps_onNow (fun _ h => Dev.kept_divide h) h hu

theorem keeps_rem {z : Nat} {s₀ s₁ : State} {k  : Fin 4} {rd ra rb  : Fin 32} (h : s₀.dev.kept z)
    (hu : exec (.rem k rd ra rb) s₀ = .next s₁) : s₁.dev.kept z := keeps_onNow (fun _ h => Dev.kept_divide h) h hu

theorem keeps_remu {z : Nat} {s₀ s₁ : State} {k  : Fin 4} {rd ra rb  : Fin 32} (h : s₀.dev.kept z)
    (hu : exec (.remu k rd ra rb) s₀ = .next s₁) : s₁.dev.kept z := keeps_onNow (fun _ h => Dev.kept_divide h) h hu

theorem keeps_addi {z : Nat} {s₀ s₁ : State} {k  : Fin 4} {rd ra  : Fin 32} {imm  : BitVec 16} (h : s₀.dev.kept z)
    (hu : exec (.addi k rd ra imm) s₀ = .next s₁) : s₁.dev.kept z := by
  refine keeps_onNow (f := fun d => d.alu k (fun c => c.setW rd (c.getW ra + sext16 imm))) (fun d h => ?_) h hu
  repeat' (first | with_reducible exact h | intro h | with_reducible apply Dev.kept_alu)

theorem keeps_andi {z : Nat} {s₀ s₁ : State} {k  : Fin 4} {rd ra  : Fin 32} {imm  : BitVec 16} (h : s₀.dev.kept z)
    (hu : exec (.andi k rd ra imm) s₀ = .next s₁) : s₁.dev.kept z := by
  refine keeps_onNow (f := fun d => d.alu k (fun c => c.setW rd (c.getW ra &&& zext16 imm))) (fun d h => ?_) h hu
  repeat' (first | with_reducible exact h | intro h | with_reducible apply Dev.kept_alu)

theorem keeps_ori {z : Nat} {s₀ s₁ : State} {k  : Fin 4} {rd ra  : Fin 32} {imm  : BitVec 16} (h : s₀.dev.kept z)
    (hu : exec (.ori k rd ra imm) s₀ = .next s₁) : s₁.dev.kept z := by
  refine keeps_onNow (f := fun d => d.alu k (fun c => c.setW rd (c.getW ra ||| zext16 imm))) (fun d h => ?_) h hu
  repeat' (first | with_reducible exact h | intro h | with_reducible apply Dev.kept_alu)

theorem keeps_xori {z : Nat} {s₀ s₁ : State} {k  : Fin 4} {rd ra  : Fin 32} {imm  : BitVec 16} (h : s₀.dev.kept z)
    (hu : exec (.xori k rd ra imm) s₀ = .next s₁) : s₁.dev.kept z := by
  refine keeps_onNow (f := fun d => d.alu k (fun c => c.setW rd (c.getW ra ^^^ zext16 imm))) (fun d h => ?_) h hu
  repeat' (first | with_reducible exact h | intro h | with_reducible apply Dev.kept_alu)

theorem keeps_shli {z : Nat} {s₀ s₁ : State} {k  : Fin 4} {rd ra  : Fin 32} {imm  : BitVec 16} (h : s₀.dev.kept z)
    (hu : exec (.shli k rd ra imm) s₀ = .next s₁) : s₁.dev.kept z := by
  refine keeps_onNow (f := fun d => d.alu k (fun c => c.setW rd (c.getW ra <<< shamt (sext16 imm)))) (fun d h => ?_) h hu
  repeat' (first | with_reducible exact h | intro h | with_reducible apply Dev.kept_alu)

theorem keeps_shri {z : Nat} {s₀ s₁ : State} {k  : Fin 4} {rd ra  : Fin 32} {imm  : BitVec 16} (h : s₀.dev.kept z)
    (hu : exec (.shri k rd ra imm) s₀ = .next s₁) : s₁.dev.kept z := by
  refine keeps_onNow (f := fun d => d.alu k (fun c => c.setW rd (c.getW ra >>> shamt (sext16 imm)))) (fun d h => ?_) h hu
  repeat' (first | with_reducible exact h | intro h | with_reducible apply Dev.kept_alu)

theorem keeps_sari {z : Nat} {s₀ s₁ : State} {k  : Fin 4} {rd ra  : Fin 32} {imm  : BitVec 16} (h : s₀.dev.kept z)
    (hu : exec (.sari k rd ra imm) s₀ = .next s₁) : s₁.dev.kept z := by
  refine keeps_onNow (f := fun d => d.alu k (fun c => c.setW rd ((c.getW ra).sshiftRight (shamt (sext16 imm))))) (fun d h => ?_) h hu
  repeat' (first | with_reducible exact h | intro h | with_reducible apply Dev.kept_alu)

theorem keeps_slti {z : Nat} {s₀ s₁ : State} {k  : Fin 4} {rd ra  : Fin 32} {imm  : BitVec 16} (h : s₀.dev.kept z)
    (hu : exec (.slti k rd ra imm) s₀ = .next s₁) : s₁.dev.kept z := by
  refine keeps_onNow (f := fun d => d.alu k (fun c => c.setW rd (bool32 ((c.getW ra).slt (sext16 imm))))) (fun d h => ?_) h hu
  repeat' (first | with_reducible exact h | intro h | with_reducible apply Dev.kept_alu)

theorem keeps_sltiu {z : Nat} {s₀ s₁ : State} {k  : Fin 4} {rd ra  : Fin 32} {imm  : BitVec 16} (h : s₀.dev.kept z)
    (hu : exec (.sltiu k rd ra imm) s₀ = .next s₁) : s₁.dev.kept z := by
  refine keeps_onNow (f := fun d => d.alu k (fun c => c.setW rd (bool32 ((c.getW ra).ult (sext16 imm))))) (fun d h => ?_) h hu
  repeat' (first | with_reducible exact h | intro h | with_reducible apply Dev.kept_alu)

theorem keeps_lui {z : Nat} {s₀ s₁ : State} {k  : Fin 4} {rd  : Fin 32} {imm  : BitVec 16} (h : s₀.dev.kept z)
    (hu : exec (.lui k rd imm) s₀ = .next s₁) : s₁.dev.kept z := by
  refine keeps_onNow (f := fun d => d.alu k (fun c => c.setW rd (zext16 imm <<< 16))) (fun d h => ?_) h hu
  repeat' (first | with_reducible exact h | intro h | with_reducible apply Dev.kept_alu)

theorem keeps_ldb {z : Nat} {s₀ s₁ : State} {k  : Fin 4} {rd ra  : Fin 32} {disp  : BitVec 16} (h : s₀.dev.kept z)
    (hu : exec (.ldb k rd ra disp) s₀ = .next s₁) : s₁.dev.kept z := by
  refine keeps_onNow (f := fun d => d.load k ra 1 disp (fun v c => c.setW rd ((BitVec.ofNat 8 v).signExtend 32))) (fun d h => ?_) h hu
  repeat' (first | with_reducible exact h | intro h | with_reducible apply Dev.kept_load)

theorem keeps_ldbu {z : Nat} {s₀ s₁ : State} {k  : Fin 4} {rd ra  : Fin 32} {disp  : BitVec 16} (h : s₀.dev.kept z)
    (hu : exec (.ldbu k rd ra disp) s₀ = .next s₁) : s₁.dev.kept z := by
  refine keeps_onNow (f := fun d => d.load k ra 1 disp (fun v c => c.setW rd (BitVec.ofNat 32 v))) (fun d h => ?_) h hu
  repeat' (first | with_reducible exact h | intro h | with_reducible apply Dev.kept_load)

theorem keeps_ldh {z : Nat} {s₀ s₁ : State} {k  : Fin 4} {rd ra  : Fin 32} {disp  : BitVec 16} (h : s₀.dev.kept z)
    (hu : exec (.ldh k rd ra disp) s₀ = .next s₁) : s₁.dev.kept z := by
  refine keeps_onNow (f := fun d => d.load k ra 2 disp (fun v c => c.setW rd ((BitVec.ofNat 16 v).signExtend 32))) (fun d h => ?_) h hu
  repeat' (first | with_reducible exact h | intro h | with_reducible apply Dev.kept_load)

theorem keeps_ldhu {z : Nat} {s₀ s₁ : State} {k  : Fin 4} {rd ra  : Fin 32} {disp  : BitVec 16} (h : s₀.dev.kept z)
    (hu : exec (.ldhu k rd ra disp) s₀ = .next s₁) : s₁.dev.kept z := by
  refine keeps_onNow (f := fun d => d.load k ra 2 disp (fun v c => c.setW rd (BitVec.ofNat 32 v))) (fun d h => ?_) h hu
  repeat' (first | with_reducible exact h | intro h | with_reducible apply Dev.kept_load)

theorem keeps_ldw {z : Nat} {s₀ s₁ : State} {k  : Fin 4} {rd ra  : Fin 32} {disp  : BitVec 16} (h : s₀.dev.kept z)
    (hu : exec (.ldw k rd ra disp) s₀ = .next s₁) : s₁.dev.kept z := by
  refine keeps_onNow (f := fun d => d.load k ra 4 disp (fun v c => c.setW rd (BitVec.ofNat 32 v))) (fun d h => ?_) h hu
  repeat' (first | with_reducible exact h | intro h | with_reducible apply Dev.kept_load)

theorem keeps_flw {z : Nat} {s₀ s₁ : State} {k  : Fin 4} {rd ra  : Fin 32} {disp  : BitVec 16} (h : s₀.dev.kept z)
    (hu : exec (.flw k rd ra disp) s₀ = .next s₁) : s₁.dev.kept z := by
  refine keeps_onNow (f := fun d => d.load k ra 4 disp (fun v c => c.setF rd (BitVec.ofNat 32 v))) (fun d h => ?_) h hu
  repeat' (first | with_reducible exact h | intro h | with_reducible apply Dev.kept_load | with_reducible apply Dev.kept_setF)

theorem keeps_stb {z : Nat} {s₀ s₁ : State} {k  : Fin 4} {rs ra  : Fin 32} {disp  : BitVec 16} (h : s₀.dev.kept z)
    (hu : exec (.stb k rs ra disp) s₀ = .next s₁) : s₁.dev.kept z := by
  refine keeps_onNow (f := fun d => d.store k ra 1 disp (fun c => c.getW rs)) (fun d h => ?_) h hu
  repeat' (first | with_reducible exact h | intro h | with_reducible apply Dev.kept_store)

theorem keeps_sth {z : Nat} {s₀ s₁ : State} {k  : Fin 4} {rs ra  : Fin 32} {disp  : BitVec 16} (h : s₀.dev.kept z)
    (hu : exec (.sth k rs ra disp) s₀ = .next s₁) : s₁.dev.kept z := by
  refine keeps_onNow (f := fun d => d.store k ra 2 disp (fun c => c.getW rs)) (fun d h => ?_) h hu
  repeat' (first | with_reducible exact h | intro h | with_reducible apply Dev.kept_store)

theorem keeps_stw {z : Nat} {s₀ s₁ : State} {k  : Fin 4} {rs ra  : Fin 32} {disp  : BitVec 16} (h : s₀.dev.kept z)
    (hu : exec (.stw k rs ra disp) s₀ = .next s₁) : s₁.dev.kept z := by
  refine keeps_onNow (f := fun d => d.store k ra 4 disp (fun c => c.getW rs)) (fun d h => ?_) h hu
  repeat' (first | with_reducible exact h | intro h | with_reducible apply Dev.kept_store)

theorem keeps_fsw {z : Nat} {s₀ s₁ : State} {k  : Fin 4} {rs ra  : Fin 32} {disp  : BitVec 16} (h : s₀.dev.kept z)
    (hu : exec (.fsw k rs ra disp) s₀ = .next s₁) : s₁.dev.kept z := by
  refine keeps_onNow (f := fun d => d.store k ra 4 disp (fun c => c.getF rs)) (fun d h => ?_) h hu
  repeat' (first | with_reducible exact h | intro h | with_reducible apply Dev.kept_store)

theorem keeps_swapw {z : Nat} {s₀ s₁ : State} {k  : Fin 4} {rd ra rb  : Fin 32} (h : s₀.dev.kept z)
    (hu : exec (.swapw k rd ra rb) s₀ = .next s₁) : s₁.dev.kept z := by
  refine keeps_onNow (f := fun d => d.atomic k rd ra rb (fun _ v => v)) (fun d h => ?_) h hu
  repeat' (first | with_reducible exact h | intro h | with_reducible apply Dev.kept_atomic)

theorem keeps_addw {z : Nat} {s₀ s₁ : State} {k  : Fin 4} {rd ra rb  : Fin 32} (h : s₀.dev.kept z)
    (hu : exec (.addw k rd ra rb) s₀ = .next s₁) : s₁.dev.kept z := by
  refine keeps_onNow (f := fun d => d.atomic k rd ra rb (fun old v => old + v)) (fun d h => ?_) h hu
  repeat' (first | with_reducible exact h | intro h | with_reducible apply Dev.kept_atomic)

theorem keeps_beq {z : Nat} {s₀ s₁ : State} {k  : Fin 4} {ra rb  : Fin 32} {disp  : BitVec 16} (h : s₀.dev.kept z)
    (hu : exec (.beq k ra rb disp) s₀ = .next s₁) : s₁.dev.kept z := by
  refine keeps_onNow (f := fun d => d.branch k ra rb (fun x y => x == y) disp) (fun d h => ?_) h hu
  repeat' (first | with_reducible exact h | intro h | with_reducible apply Dev.kept_branch)

theorem keeps_bne {z : Nat} {s₀ s₁ : State} {k  : Fin 4} {ra rb  : Fin 32} {disp  : BitVec 16} (h : s₀.dev.kept z)
    (hu : exec (.bne k ra rb disp) s₀ = .next s₁) : s₁.dev.kept z := by
  refine keeps_onNow (f := fun d => d.branch k ra rb (fun x y => x != y) disp) (fun d h => ?_) h hu
  repeat' (first | with_reducible exact h | intro h | with_reducible apply Dev.kept_branch)

theorem keeps_blt {z : Nat} {s₀ s₁ : State} {k  : Fin 4} {ra rb  : Fin 32} {disp  : BitVec 16} (h : s₀.dev.kept z)
    (hu : exec (.blt k ra rb disp) s₀ = .next s₁) : s₁.dev.kept z := by
  refine keeps_onNow (f := fun d => d.branch k ra rb (fun x y => x.slt y) disp) (fun d h => ?_) h hu
  repeat' (first | with_reducible exact h | intro h | with_reducible apply Dev.kept_branch)

theorem keeps_bge {z : Nat} {s₀ s₁ : State} {k  : Fin 4} {ra rb  : Fin 32} {disp  : BitVec 16} (h : s₀.dev.kept z)
    (hu : exec (.bge k ra rb disp) s₀ = .next s₁) : s₁.dev.kept z := by
  refine keeps_onNow (f := fun d => d.branch k ra rb (fun x y => !x.slt y) disp) (fun d h => ?_) h hu
  repeat' (first | with_reducible exact h | intro h | with_reducible apply Dev.kept_branch)

theorem keeps_bltu {z : Nat} {s₀ s₁ : State} {k  : Fin 4} {ra rb  : Fin 32} {disp  : BitVec 16} (h : s₀.dev.kept z)
    (hu : exec (.bltu k ra rb disp) s₀ = .next s₁) : s₁.dev.kept z := by
  refine keeps_onNow (f := fun d => d.branch k ra rb (fun x y => x.ult y) disp) (fun d h => ?_) h hu
  repeat' (first | with_reducible exact h | intro h | with_reducible apply Dev.kept_branch)

theorem keeps_bgeu {z : Nat} {s₀ s₁ : State} {k  : Fin 4} {ra rb  : Fin 32} {disp  : BitVec 16} (h : s₀.dev.kept z)
    (hu : exec (.bgeu k ra rb disp) s₀ = .next s₁) : s₁.dev.kept z := by
  refine keeps_onNow (f := fun d => d.branch k ra rb (fun x y => !x.ult y) disp) (fun d h => ?_) h hu
  repeat' (first | with_reducible exact h | intro h | with_reducible apply Dev.kept_branch)

theorem keeps_j {z : Nat} {s₀ s₁ : State} {k  : Fin 4} {disp  : BitVec 26} (h : s₀.dev.kept z)
    (hu : exec (.j k disp) s₀ = .next s₁) : s₁.dev.kept z := by
  refine keeps_onNow (f := fun d => d.instr k (fun d => d.finish k (fun c => c.goTo (c.target26 disp)))) (fun d h => ?_) h hu
  repeat' (first | with_reducible exact h | intro h | with_reducible apply Dev.kept_instr | with_reducible apply Dev.kept_finish)

theorem keeps_jal {z : Nat} {s₀ s₁ : State} {k  : Fin 4} {disp  : BitVec 26} (h : s₀.dev.kept z)
    (hu : exec (.jal k disp) s₀ = .next s₁) : s₁.dev.kept z := by
  refine keeps_onNow (f := fun d => d.instr k (fun d => d.finish k (fun c => (c.setW 1 (c.pc + 4)).goTo (c.target26 disp)))) (fun d h => ?_) h hu
  repeat' (first | with_reducible exact h | intro h | with_reducible apply Dev.kept_instr | with_reducible apply Dev.kept_finish)

theorem keeps_jalr {z : Nat} {s₀ s₁ : State} {k  : Fin 4} {rd ra  : Fin 32} {imm  : BitVec 16} (h : s₀.dev.kept z)
    (hu : exec (.jalr k rd ra imm) s₀ = .next s₁) : s₁.dev.kept z := by
  refine keeps_onNow (f := fun d => d.instr k (fun d => d.finish k (fun c => (c.setW rd (c.pc + 4)).goTo ((c.getW ra + sext16 imm) &&& 0xFFFFFFFC#32)))) (fun d h => ?_) h hu
  repeat' (first | with_reducible exact h | intro h | with_reducible apply Dev.kept_instr | with_reducible apply Dev.kept_finish)

theorem keeps_fadd {z : Nat} {s₀ s₁ : State} {k  : Fin 4} {rd ra rb  : Fin 32} (h : s₀.dev.kept z)
    (hu : exec (.fadd k rd ra rb) s₀ = .next s₁) : s₁.dev.kept z := by
  refine keeps_onNow (f := fun d => d.fop k rd (fun c => fAdd (c.getF ra) (c.getF rb))) (fun d h => ?_) h hu
  repeat' (first | with_reducible exact h | intro h | with_reducible apply Dev.kept_fop)

theorem keeps_fsub {z : Nat} {s₀ s₁ : State} {k  : Fin 4} {rd ra rb  : Fin 32} (h : s₀.dev.kept z)
    (hu : exec (.fsub k rd ra rb) s₀ = .next s₁) : s₁.dev.kept z := by
  refine keeps_onNow (f := fun d => d.fop k rd (fun c => fSub (c.getF ra) (c.getF rb))) (fun d h => ?_) h hu
  repeat' (first | with_reducible exact h | intro h | with_reducible apply Dev.kept_fop)

theorem keeps_fmul {z : Nat} {s₀ s₁ : State} {k  : Fin 4} {rd ra rb  : Fin 32} (h : s₀.dev.kept z)
    (hu : exec (.fmul k rd ra rb) s₀ = .next s₁) : s₁.dev.kept z := by
  refine keeps_onNow (f := fun d => d.fop k rd (fun c => fMul (c.getF ra) (c.getF rb))) (fun d h => ?_) h hu
  repeat' (first | with_reducible exact h | intro h | with_reducible apply Dev.kept_fop)

theorem keeps_fdiv {z : Nat} {s₀ s₁ : State} {k  : Fin 4} {rd ra rb  : Fin 32} (h : s₀.dev.kept z)
    (hu : exec (.fdiv k rd ra rb) s₀ = .next s₁) : s₁.dev.kept z := by
  refine keeps_onNow (f := fun d => d.fop k rd (fun c => fDiv (c.getF ra) (c.getF rb))) (fun d h => ?_) h hu
  repeat' (first | with_reducible exact h | intro h | with_reducible apply Dev.kept_fop)

theorem keeps_fmin {z : Nat} {s₀ s₁ : State} {k  : Fin 4} {rd ra rb  : Fin 32} (h : s₀.dev.kept z)
    (hu : exec (.fmin k rd ra rb) s₀ = .next s₁) : s₁.dev.kept z := by
  refine keeps_onNow (f := fun d => d.fop k rd (fun c => fMin (c.getF ra) (c.getF rb))) (fun d h => ?_) h hu
  repeat' (first | with_reducible exact h | intro h | with_reducible apply Dev.kept_fop)

theorem keeps_fmax {z : Nat} {s₀ s₁ : State} {k  : Fin 4} {rd ra rb  : Fin 32} (h : s₀.dev.kept z)
    (hu : exec (.fmax k rd ra rb) s₀ = .next s₁) : s₁.dev.kept z := by
  refine keeps_onNow (f := fun d => d.fop k rd (fun c => fMax (c.getF ra) (c.getF rb))) (fun d h => ?_) h hu
  repeat' (first | with_reducible exact h | intro h | with_reducible apply Dev.kept_fop)

theorem keeps_fsqrt {z : Nat} {s₀ s₁ : State} {k  : Fin 4} {rd ra  : Fin 32} (h : s₀.dev.kept z)
    (hu : exec (.fsqrt k rd ra) s₀ = .next s₁) : s₁.dev.kept z := by
  refine keeps_onNow (f := fun d => d.fop k rd (fun c => fSqrt (c.getF ra))) (fun d h => ?_) h hu
  repeat' (first | with_reducible exact h | intro h | with_reducible apply Dev.kept_fop)

theorem keeps_feq {z : Nat} {s₀ s₁ : State} {k  : Fin 4} {rd ra rb  : Fin 32} (h : s₀.dev.kept z)
    (hu : exec (.feq k rd ra rb) s₀ = .next s₁) : s₁.dev.kept z := by
  refine keeps_onNow (f := fun d => d.alu k (fun c => c.setW rd (bool32 (fEq (c.getF ra) (c.getF rb))))) (fun d h => ?_) h hu
  repeat' (first | with_reducible exact h | intro h | with_reducible apply Dev.kept_alu)

theorem keeps_flt {z : Nat} {s₀ s₁ : State} {k  : Fin 4} {rd ra rb  : Fin 32} (h : s₀.dev.kept z)
    (hu : exec (.flt k rd ra rb) s₀ = .next s₁) : s₁.dev.kept z := by
  refine keeps_onNow (f := fun d => d.alu k (fun c => c.setW rd (bool32 (fLt (c.getF ra) (c.getF rb))))) (fun d h => ?_) h hu
  repeat' (first | with_reducible exact h | intro h | with_reducible apply Dev.kept_alu)

theorem keeps_fle {z : Nat} {s₀ s₁ : State} {k  : Fin 4} {rd ra rb  : Fin 32} (h : s₀.dev.kept z)
    (hu : exec (.fle k rd ra rb) s₀ = .next s₁) : s₁.dev.kept z := by
  refine keeps_onNow (f := fun d => d.alu k (fun c => c.setW rd (bool32 (fLe (c.getF ra) (c.getF rb))))) (fun d h => ?_) h hu
  repeat' (first | with_reducible exact h | intro h | with_reducible apply Dev.kept_alu)

theorem keeps_fcvtws {z : Nat} {s₀ s₁ : State} {k  : Fin 4} {rd ra  : Fin 32} (h : s₀.dev.kept z)
    (hu : exec (.fcvtws k rd ra) s₀ = .next s₁) : s₁.dev.kept z := by
  refine keeps_onNow (f := fun d => d.alu k (fun c => c.setW rd (fToInt32 (c.getF ra)))) (fun d h => ?_) h hu
  repeat' (first | with_reducible exact h | intro h | with_reducible apply Dev.kept_alu)

theorem keeps_fcvtsw {z : Nat} {s₀ s₁ : State} {k  : Fin 4} {rd ra  : Fin 32} (h : s₀.dev.kept z)
    (hu : exec (.fcvtsw k rd ra) s₀ = .next s₁) : s₁.dev.kept z := by
  refine keeps_onNow (f := fun d => d.fop k rd (fun c => fOfInt (c.getW ra).toInt)) (fun d h => ?_) h hu
  repeat' (first | with_reducible exact h | intro h | with_reducible apply Dev.kept_fop)

theorem keeps_fmvws {z : Nat} {s₀ s₁ : State} {k  : Fin 4} {rd ra  : Fin 32} (h : s₀.dev.kept z)
    (hu : exec (.fmvws k rd ra) s₀ = .next s₁) : s₁.dev.kept z := by
  refine keeps_onNow (f := fun d => d.alu k (fun c => c.setW rd (c.getF ra))) (fun d h => ?_) h hu
  repeat' (first | with_reducible exact h | intro h | with_reducible apply Dev.kept_alu)

theorem keeps_fmvsw {z : Nat} {s₀ s₁ : State} {k  : Fin 4} {rd ra  : Fin 32} (h : s₀.dev.kept z)
    (hu : exec (.fmvsw k rd ra) s₀ = .next s₁) : s₁.dev.kept z := by
  refine keeps_onNow (f := fun d => d.fop k rd (fun c => c.getW ra)) (fun d h => ?_) h hu
  repeat' (first | with_reducible exact h | intro h | with_reducible apply Dev.kept_fop)

theorem keeps_fabs {z : Nat} {s₀ s₁ : State} {k  : Fin 4} {rd ra  : Fin 32} (h : s₀.dev.kept z)
    (hu : exec (.fabs k rd ra) s₀ = .next s₁) : s₁.dev.kept z := by
  refine keeps_onNow (f := fun d => d.fop k rd (fun c => fFlush (fAbs (c.getF ra)))) (fun d h => ?_) h hu
  repeat' (first | with_reducible exact h | intro h | with_reducible apply Dev.kept_fop)

theorem keeps_fneg {z : Nat} {s₀ s₁ : State} {k  : Fin 4} {rd ra  : Fin 32} (h : s₀.dev.kept z)
    (hu : exec (.fneg k rd ra) s₀ = .next s₁) : s₁.dev.kept z := by
  refine keeps_onNow (f := fun d => d.fop k rd (fun c => fFlush (fNeg (c.getF ra)))) (fun d h => ?_) h hu
  repeat' (first | with_reducible exact h | intro h | with_reducible apply Dev.kept_fop)

theorem keeps_trap {z : Nat} {s₀ s₁ : State} {k  : Fin 4} {code  : BitVec 10} (h : s₀.dev.kept z)
    (hu : exec (.trap k code) s₀ = .next s₁) : s₁.dev.kept z := keeps_onNow (fun _ h => Dev.kept_trap h) h hu

theorem keeps_rete {z : Nat} {s₀ s₁ : State} {k  : Fin 4} (h : s₀.dev.kept z)
    (hu : exec (.rete k) s₀ = .next s₁) : s₁.dev.kept z := keeps_onNow (fun _ h => Dev.kept_rete h) h hu

theorem keeps_mfsr {z : Nat} {s₀ s₁ : State} {k  : Fin 4} {rd sr  : Fin 32} (h : s₀.dev.kept z)
    (hu : exec (.mfsr k rd sr) s₀ = .next s₁) : s₁.dev.kept z := keeps_onNow (fun _ h => Dev.kept_mfsr h) h hu

theorem keeps_mtsr {z : Nat} {s₀ s₁ : State} {k  : Fin 4} {ra sr  : Fin 32} (h : s₀.dev.kept z)
    (hu : exec (.mtsr k ra sr) s₀ = .next s₁) : s₁.dev.kept z := keeps_onNow (fun _ h => Dev.kept_mtsr h) h hu

theorem keeps_sigrd {z : Nat} {s₀ s₁ : State} {k  : Fin 4} {rd ra  : Fin 32} (h : s₀.dev.kept z)
    (hu : exec (.sigrd k rd ra) s₀ = .next s₁) : s₁.dev.kept z := keeps_onNow (fun _ h => Dev.kept_sigrd h) h hu

theorem keeps_sigwr {z : Nat} {s₀ s₁ : State} {k  : Fin 4} {rd ra  : Fin 32} (h : s₀.dev.kept z)
    (hu : exec (.sigwr k rd ra) s₀ = .next s₁) : s₁.dev.kept z := keeps_onNow (fun _ h => Dev.kept_sigwr h) h hu

theorem keeps_qpost {z : Nat} {s₀ s₁ : State} {k  : Fin 4} {rd ra rb  : Fin 32} (h : s₀.dev.kept z)
    (hu : exec (.qpost k rd ra rb) s₀ = .next s₁) : s₁.dev.kept z := keeps_onNow (fun _ h => Dev.kept_qpost h) h hu

theorem keeps_qtake {z : Nat} {s₀ s₁ : State} {k  : Fin 4} {rd ra rb  : Fin 32} (h : s₀.dev.kept z)
    (hu : exec (.qtake k rd ra rb) s₀ = .next s₁) : s₁.dev.kept z := keeps_onNow (fun _ h => Dev.kept_qtake h) h hu

theorem keeps_await {z : Nat} {s₀ s₁ : State} {k  : Fin 4} {rd ra rb  : Fin 32} (h : s₀.dev.kept z)
    (hu : exec (.await k rd ra rb) s₀ = .next s₁) : s₁.dev.kept z := keeps_onNow (fun _ h => Dev.kept_await h) h hu

theorem keeps_ckpt {z : Nat} {s₀ s₁ : State} {k  : Fin 4} {minority  : Option (Fin 3)} {split  : Bool} (h : s₀.dev.kept z)
    (hu : exec (.ckpt k minority split) s₀ = .next s₁) : s₁.dev.kept z := keeps_onNow (fun _ h => Dev.kept_ckpt h) h hu

theorem keeps_sync {z : Nat} {s₀ s₁ : State} {k  : Fin 4} (h : s₀.dev.kept z)
    (hu : exec (.sync k) s₀ = .next s₁) : s₁.dev.kept z := keeps_onNow (fun _ h => Dev.kept_sync h) h hu

theorem keeps_undefinedEncoding {z : Nat} {s₀ s₁ : State} {k  : Fin 4} (h : s₀.dev.kept z)
    (hu : exec (.undefinedEncoding k) s₀ = .next s₁) : s₁.dev.kept z := by
  refine keeps_onNow (f := fun d => d.instr k (fun d => d.illegal k ecUndefined)) (fun d h => ?_) h hu
  repeat' (first | with_reducible exact h | intro h | with_reducible apply Dev.kept_instr | with_reducible apply Dev.kept_illegal)

theorem keeps_cvuForwardPass {z : Nat} {s₀ s₁ : State} {t : Time} {u  : Fin 8} (h : s₀.dev.kept z)
    (hu : exec (.cvuForwardPass t u) s₀ = .next s₁) : s₁.dev.kept z := keeps_on (fun _ h => Dev.kept_cvuForward h) h hu

theorem keeps_cvuInverseStage {z : Nat} {s₀ s₁ : State} {t : Time} {u  : Fin 8} (h : s₀.dev.kept z)
    (hu : exec (.cvuInverseStage t u) s₀ = .next s₁) : s₁.dev.kept z := keeps_on (fun _ h => Dev.kept_cvuInverse h) h hu

theorem keeps_cvuPhaseDecision {z : Nat} {s₀ s₁ : State} {t : Time} {u  : Fin 8} (h : s₀.dev.kept z)
    (hu : exec (.cvuPhaseDecision t u) s₀ = .next s₁) : s₁.dev.kept z := keeps_on (fun _ h => Dev.kept_phaseDecision h) h hu

theorem keeps_cvuCmPulseEnd {z : Nat} {s₀ s₁ : State} {t : Time} {u  : Fin 8} {p  : Fin 8} (h : s₀.dev.kept z)
    (hu : exec (.cvuCmPulseEnd t u p) s₀ = .next s₁) : s₁.dev.kept z := keeps_on (fun _ h => Dev.kept_cmPulseEnd h) h hu

theorem keeps_gridLost {z : Nat} {s₀ s₁ : State} {t : Time} {u  : Fin 8} (h : s₀.dev.kept z)
    (hu : exec (.gridLost t u) s₀ = .next s₁) : s₁.dev.kept z := keeps_on (fun _ h => Dev.kept_gridLost h) h hu

theorem keeps_cvuUnpark {z : Nat} {s₀ s₁ : State} {t : Time} {u  : Fin 8} (h : s₀.dev.kept z)
    (hu : exec (.cvuUnpark t u) s₀ = .next s₁) : s₁.dev.kept z := keeps_on (fun _ h => Dev.kept_gridUnpark h) h hu

theorem keeps_journalCommit {z : Nat} {s₀ s₁ : State} {t : Time} (h : s₀.dev.kept z)
    (hu : exec (.journalCommit t) s₀ = .next s₁) : s₁.dev.kept z := keeps_on (fun _ h => Dev.kept_journalCommit h) h hu

theorem keeps_jackReceived {z : Nat} {s₀ s₁ : State} {t : Time} {seq jp  : Nat} (h : s₀.dev.kept z)
    (hu : exec (.jackReceived t seq jp) s₀ = .next s₁) : s₁.dev.kept z := by
  refine keeps_on (f := fun d => d.onLink seq (fun d => d.jack jp)) (fun d h => ?_) h hu
  repeat' (first | with_reducible exact h | intro h | with_reducible apply Dev.kept_onLink | with_reducible apply Dev.kept_jack)

theorem keeps_jackTimeout {z : Nat} {s₀ s₁ : State} {t : Time} (h : s₀.dev.kept z)
    (hu : exec (.jackTimeout t) s₀ = .next s₁) : s₁.dev.kept z := keeps_on (fun _ h => Dev.kept_jackTimeout h) h hu

theorem keeps_gioEdge {z : Nat} {s₀ s₁ : State} {t : Time} {n  : Fin 24} {high  : Bool} {stamp  : Time} (h : s₀.dev.kept z)
    (hu : exec (.gioEdge t n high stamp) s₀ = .next s₁) : s₁.dev.kept z := keeps_on (fun _ h => Dev.kept_gioEdge h) h hu

theorem keeps_sentFrame {z : Nat} {s₀ s₁ : State} {t : Time} {m  : Fin 8} {sync  : Nat} {status  : Fin 16} {nibs  : List Nat} {crc  : Nat} {tf  : Time} (h : s₀.dev.kept z)
    (hu : exec (.sentFrame t m sync status nibs crc tf) s₀ = .next s₁) : s₁.dev.kept z := keeps_on (fun _ h => Dev.kept_sentFrame h) h hu

theorem keeps_legParityError {z : Nat} {s₀ s₁ : State} {t : Time} {n  : Fin 48} (h : s₀.dev.kept z)
    (hu : exec (.legParityError t n) s₀ = .next s₁) : s₁.dev.kept z := keeps_on (fun _ h => Dev.kept_parityError h) h hu

theorem keeps_legShaWrite {z : Nat} {s₀ s₁ : State} {t : Time} {triad  : Fin 4} {n  : Fin 48} {b  : Bool} {v  : W} (h : s₀.dev.kept z)
    (hu : exec (.legShaWrite t triad n b v) s₀ = .next s₁) : s₁.dev.kept z := keeps_on (fun _ h => Dev.kept_shaWrite h) h hu

theorem keeps_legShiftWrite {z : Nat} {s₀ s₁ : State} {t : Time} {triad  : Fin 4} {n  : Fin 48} {v  : W} (h : s₀.dev.kept z)
    (hu : exec (.legShiftWrite t triad n v) s₀ = .next s₁) : s₁.dev.kept z := keeps_on (fun _ h => Dev.kept_shiftWrite h) h hu

theorem keeps_lineCalDone {z : Nat} {s₀ s₁ : State} {t : Time} {n  : Fin 48} {gl  : Bool} {resid  : Int} {mono  : Bool} {span  : Nat} (h : s₀.dev.kept z)
    (hu : exec (.lineCalDone t n gl resid mono span) s₀ = .next s₁) : s₁.dev.kept z := keeps_on (fun _ h => Dev.kept_lineCalDone h) h hu

theorem keeps_calAged {z : Nat} {s₀ s₁ : State} {t : Time} {n  : Fin 48} {gl  : Bool} (h : s₀.dev.kept z)
    (hu : exec (.calAged t n gl) s₀ = .next s₁) : s₁.dev.kept z := keeps_on (fun _ h => Dev.kept_calAged h) h hu

theorem keeps_lineAgeLimit {z : Nat} {s₀ s₁ : State} {t : Time} {n  : Fin 48} {gl  : Bool} (h : s₀.dev.kept z)
    (hu : exec (.lineAgeLimit t n gl) s₀ = .next s₁) : s₁.dev.kept z := keeps_on (fun _ h => Dev.kept_lineAgeLimit h) h hu

theorem keeps_glPoll {z : Nat} {s₀ s₁ : State} {t : Time} {n  : Fin 48} (h : s₀.dev.kept z)
    (hu : exec (.glPoll t n) s₀ = .next s₁) : s₁.dev.kept z := keeps_on (fun _ h => Dev.kept_glPoll h) h hu

theorem keeps_glResponse {z : Nat} {s₀ s₁ : State} {t : Time} {n  : Fin 48} {bytes  : List Byte} {late  : Bool} (h : s₀.dev.kept z)
    (hu : exec (.glResponse t n bytes late) s₀ = .next s₁) : s₁.dev.kept z := keeps_on (fun _ h => Dev.kept_glResponse h) h hu

theorem keeps_glNoack {z : Nat} {s₀ s₁ : State} {t : Time} {n  : Fin 48} (h : s₀.dev.kept z)
    (hu : exec (.glNoack t n) s₀ = .next s₁) : s₁.dev.kept z := keeps_on (fun _ h => Dev.kept_glNoack h) h hu

theorem keeps_glFaultPull {z : Nat} {s₀ s₁ : State} {t : Time} {n  : Fin 48} (h : s₀.dev.kept z)
    (hu : exec (.glFaultPull t n) s₀ = .next s₁) : s₁.dev.kept z := keeps_on (fun _ h => Dev.kept_faultPull h) h hu

theorem keeps_enableSequenceDone {z : Nat} {s₀ s₁ : State} {t : Time} {n  : Fin 48} {errGH errGL  : Int} (h : s₀.dev.kept z)
    (hu : exec (.enableSequenceDone t n errGH errGL) s₀ = .next s₁) : s₁.dev.kept z := keeps_on (fun _ h => Dev.kept_sequenceDone h) h hu

theorem keeps_glContention {z : Nat} {s₀ s₁ : State} {t : Time} {n  : Fin 48} (h : s₀.dev.kept z)
    (hu : exec (.glContention t n) s₀ = .next s₁) : s₁.dev.kept z := keeps_on (fun _ h => Dev.kept_contention h) h hu

theorem keeps_glRequest {z : Nat} {s₀ s₁ : State} {t : Time} {triad  : Fin 4} {n  : Fin 48} {v  : W} (h : s₀.dev.kept z)
    (hu : exec (.glRequest t triad n v) s₀ = .next s₁) : s₁.dev.kept z := keeps_on (fun _ h => Dev.kept_glRequest h) h hu

theorem keeps_faultPullEnd {z : Nat} {s₀ s₁ : State} {t : Time} {n  : Fin 48} (h : s₀.dev.kept z)
    (hu : exec (.faultPullEnd t n) s₀ = .next s₁) : s₁.dev.kept z := keeps_on (fun _ h => Dev.kept_faultPullEnd h) h hu

theorem keeps_tokenWire {z : Nat} {s₀ s₁ : State} {t : Time} (h : s₀.dev.kept z)
    (hu : exec (.tokenWire t) s₀ = .next s₁) : s₁.dev.kept z := keeps_on (fun _ h => Dev.kept_tokenWire h) h hu

theorem keeps_peerTokenLost {z : Nat} {s₀ s₁ : State} {t : Time} (h : s₀.dev.kept z)
    (hu : exec (.peerTokenLost t) s₀ = .next s₁) : s₁.dev.kept z := keeps_on (fun _ h => Dev.kept_peerLost h) h hu

theorem keeps_tokenRace {z : Nat} {s₀ s₁ : State} {t : Time} (h : s₀.dev.kept z)
    (hu : exec (.tokenRace t) s₀ = .next s₁) : s₁.dev.kept z := keeps_on (fun _ h => Dev.kept_tokenRace h) h hu

theorem keeps_hbSend {z : Nat} {s₀ s₁ : State} {t : Time} (h : s₀.dev.kept z)
    (hu : exec (.hbSend t) s₀ = .next s₁) : s₁.dev.kept z := keeps_on (fun _ h => Dev.kept_sendHb h) h hu

theorem keeps_hbReceived {z : Nat} {s₀ s₁ : State} {t : Time} {seq role  : Nat} {tok  : Bool} {stime  : Time} {jepoch jpos sys  : Nat} {warn  : Bool} (h : s₀.dev.kept z)
    (hu : exec (.hbReceived t seq role tok stime jepoch jpos sys warn) s₀ = .next s₁) : s₁.dev.kept z := by
  refine keeps_on (f := fun d => d.onLink seq (fun d => d.hbIn role tok stime jepoch jpos sys warn)) (fun d h => ?_) h hu
  repeat' (first | with_reducible exact h | intro h | with_reducible apply Dev.kept_onLink | with_reducible apply Dev.kept_hbIn)

theorem keeps_linkAck {z : Nat} {s₀ s₁ : State} {t : Time} {upTo  : Nat} (h : s₀.dev.kept z)
    (hu : exec (.linkAck t upTo) s₀ = .next s₁) : s₁.dev.kept z := keeps_on (fun _ h => Dev.kept_linkAcked h) h hu

theorem keeps_linkResend {z : Nat} {s₀ s₁ : State} {t : Time} (h : s₀.dev.kept z)
    (hu : exec (.linkResend t) s₀ = .next s₁) : s₁.dev.kept z := keeps_on (fun _ h => Dev.kept_linkResend h) h hu

theorem keeps_linkTrained {z : Nat} {s₀ s₁ : State} {t : Time} {lanes latency  : Nat} (h : s₀.dev.kept z)
    (hu : exec (.linkTrained t lanes latency) s₀ = .next s₁) : s₁.dev.kept z := keeps_on (fun _ h => Dev.kept_linkTrained h) h hu

theorem keeps_linkRetrain {z : Nat} {s₀ s₁ : State} {t : Time} (h : s₀.dev.kept z)
    (hu : exec (.linkRetrain t) s₀ = .next s₁) : s₁.dev.kept z := keeps_on (fun _ h => Dev.kept_linkRetry h) h hu

theorem keeps_laneDegraded {z : Nat} {s₀ s₁ : State} {t : Time} {lane  : Fin 4} {errs  : Nat} (h : s₀.dev.kept z)
    (hu : exec (.laneDegraded t lane errs) s₀ = .next s₁) : s₁.dev.kept z := keeps_on (fun _ h => Dev.kept_laneDegraded h) h hu

theorem keeps_retrain {z : Nat} {s₀ s₁ : State} {t : Time} {triad  : Fin 4} {v  : W} (h : s₀.dev.kept z)
    (hu : exec (.retrain t triad v) s₀ = .next s₁) : s₁.dev.kept z := keeps_on (fun _ h => Dev.kept_retrainWrite h) h hu

theorem keeps_helloReceived {z : Nat} {s₀ s₁ : State} {t : Time} {seq  : Nat} {dig0 dig1 epoch  : W} {side  : Bool} {jepoch jpos role sys  : Nat} {tkEpoch  : Option Time} (h : s₀.dev.kept z)
    (hu : exec (.helloReceived t seq dig0 dig1 epoch side jepoch jpos role sys tkEpoch) s₀ = .next s₁) : s₁.dev.kept z := by
  refine keeps_on (f := fun d => d.onLink seq (fun d => d.hello dig0 dig1 epoch side jepoch jpos role sys tkEpoch)) (fun d h => ?_) h hu
  repeat' (first | with_reducible exact h | intro h | with_reducible apply Dev.kept_onLink | with_reducible apply Dev.kept_hello)

theorem keeps_soloClaim {z : Nat} {s₀ s₁ : State} {t : Time} (h : s₀.dev.kept z)
    (hu : exec (.soloClaim t) s₀ = .next s₁) : s₁.dev.kept z := keeps_on (fun _ h => Dev.kept_soloClaim h) h hu

theorem keeps_fnstateReceived {z : Nat} {s₀ s₁ : State} {t : Time} {seq  : Nat} {f  : Fin 32} {v  : W} (h : s₀.dev.kept z)
    (hu : exec (.fnstateReceived t seq f v) s₀ = .next s₁) : s₁.dev.kept z := by
  refine keeps_on (f := fun d => d.onLink seq (fun d => if d.follows then d.modLnk (fun l => { l with peerFns := Tab.set f v l.peerFns }) else d)) (fun d h => ?_) h hu
  repeat' (first | with_reducible exact h | intro h | with_reducible apply Dev.kept_onLink | with_reducible apply Dev.kept_modLnk | with_reducible apply Dev.kept_ite)

theorem keeps_jrnReceived {z : Nat} {s₀ s₁ : State} {t : Time} {seq jpos kind que eseq  : Nat} {body  : List Byte} (h : s₀.dev.kept z)
    (hu : exec (.jrnReceived t seq jpos kind que eseq body) s₀ = .next s₁) : s₁.dev.kept z := by
  refine keeps_on (f := fun d => d.onLink seq (fun d => d.jrnMirrored jpos kind que eseq body)) (fun d h => ?_) h hu
  repeat' (first | with_reducible exact h | intro h | with_reducible apply Dev.kept_onLink | with_reducible apply Dev.kept_jrnMirrored)

theorem keeps_mirReceived {z : Nat} {s₀ s₁ : State} {t : Time} {seq addr  : Nat} {bytes  : List Byte} (h : s₀.dev.kept z)
    (hu : exec (.mirReceived t seq addr bytes) s₀ = .next s₁) : s₁.dev.kept z := by
  refine keeps_on (f := fun d => d.onLink seq (fun d => if d.follows then d.modLnk (fun l => { l with staging := l.staging ++ [(addr, bytes)] }) else d)) (fun d h => ?_) h hu
  repeat' (first | with_reducible exact h | intro h | with_reducible apply Dev.kept_onLink | with_reducible apply Dev.kept_modLnk | with_reducible apply Dev.kept_ite)

theorem keeps_mirendReceived {z : Nat} {s₀ s₁ : State} {t : Time} {seq sc  : Nat} {good  : Bool} {blk  : StateBlock} (h : s₀.dev.kept z)
    (hu : exec (.mirendReceived t seq sc good blk) s₀ = .next s₁) : s₁.dev.kept z := by
  refine keeps_on (f := fun d => d.onLink seq (fun d => d.mirEnd sc good blk)) (fun d h => ?_) h hu
  repeat' (first | with_reducible exact h | intro h | with_reducible apply Dev.kept_onLink | with_reducible apply Dev.kept_mirEnd)

theorem keeps_mirrorApplied {z : Nat} {s₀ s₁ : State} {t : Time} (h : s₀.dev.kept z)
    (hu : exec (.mirrorApplied t) s₀ = .next s₁) : s₁.dev.kept z := keeps_on (fun _ h => Dev.kept_mirApplied h) h hu

theorem keeps_appliedReceived {z : Nat} {s₀ s₁ : State} {t : Time} {seq sc  : Nat} (h : s₀.dev.kept z)
    (hu : exec (.appliedReceived t seq sc) s₀ = .next s₁) : s₁.dev.kept z := by
  refine keeps_on (f := fun d => d.onLink seq (fun d => d.appliedIn sc)) (fun d h => ?_) h hu
  repeat' (first | with_reducible exact h | intro h | with_reducible apply Dev.kept_onLink | with_reducible apply Dev.kept_appliedIn)

theorem keeps_releaseReceived {z : Nat} {s₀ s₁ : State} {t : Time} {seq  : Nat} (h : s₀.dev.kept z)
    (hu : exec (.releaseReceived t seq) s₀ = .next s₁) : s₁.dev.kept z := by
  refine keeps_on (f := fun d => d.onLink seq Dev.releaseIn) (fun d h => ?_) h hu
  repeat' (first | with_reducible exact h | with_reducible apply Dev.kept_onLink | with_reducible apply Dev.kept_releaseIn)

theorem keeps_hbLoss {z : Nat} {s₀ s₁ : State} {t : Time} (h : s₀.dev.kept z)
    (hu : exec (.hbLoss t) s₀ = .next s₁) : s₁.dev.kept z := keeps_on (fun _ h => Dev.kept_hbLoss h) h hu

theorem keeps_yield {z : Nat} {s₀ s₁ : State} {t : Time} {triad  : Fin 4} {v  : W} (h : s₀.dev.kept z)
    (hu : exec (.yield t triad v) s₀ = .next s₁) : s₁.dev.kept z := keeps_on (fun _ h => Dev.kept_yieldWrite h) h hu

theorem keeps_linkQueueFrame {z : Nat} {s₀ s₁ : State} {t : Time} {seq  : Nat} {q  : Fin 32} {fr  : Frame} (h : s₀.dev.kept z)
    (hu : exec (.linkQueueFrame t seq q fr) s₀ = .next s₁) : s₁.dev.kept z := by
  refine keeps_on (f := fun d => d.onLink seq (fun d => d.linkFrame q fr)) (fun d h => ?_) h hu
  repeat' (first | with_reducible exact h | intro h | with_reducible apply Dev.kept_onLink | with_reducible apply Dev.kept_linkFrame)

theorem keeps_peerTokenSeen {z : Nat} {s₀ s₁ : State} {t : Time} (h : s₀.dev.kept z)
    (hu : exec (.peerTokenSeen t) s₀ = .next s₁) : s₁.dev.kept z := keeps_on (fun _ h => Dev.kept_peerSeen h) h hu

theorem keeps_triadMinority {z : Nat} {s₀ s₁ : State} {t : Time} {k  : Fin 4} {c  : Fin 3} (h : s₀.dev.kept z)
    (hu : exec (.triadMinority t k c) s₀ = .next s₁) : s₁.dev.kept z := keeps_on (fun _ h => Dev.kept_triadMinority h) h hu

theorem keeps_triadResync {z : Nat} {s₀ s₁ : State} {t : Time} {k  : Fin 4} (h : s₀.dev.kept z)
    (hu : exec (.triadResync t k) s₀ = .next s₁) : s₁.dev.kept z := keeps_on (fun _ h => Dev.kept_triadResync h) h hu

theorem keeps_triadCheckpoint {z : Nat} {s₀ s₁ : State} {t : Time} {k  : Fin 4} {minority  : Option (Fin 3)} {split  : Bool} (h : s₀.dev.kept z)
    (hu : exec (.triadCheckpoint t k minority split) s₀ = .next s₁) : s₁.dev.kept z := keeps_on (fun _ h => Dev.kept_triadCheckpoint h) h hu

theorem keeps_triadRestart {z : Nat} {s₀ s₁ : State} {t : Time} {k  : Fin 4} {kat  : List (Fin 3)} (h : s₀.dev.kept z)
    (hu : exec (.triadRestart t k kat) s₀ = .next s₁) : s₁.dev.kept z := keeps_on (fun _ h => Dev.kept_triadRestart h) h hu

theorem keeps_replayDone {z : Nat} {s₀ s₁ : State} {t : Time} {k  : Fin 4} (h : s₀.dev.kept z)
    (hu : exec (.replayDone t k) s₀ = .next s₁) : s₁.dev.kept z := keeps_on (fun _ h => Dev.kept_replayDone h) h hu

theorem keeps_gustDecay {z : Nat} {s₀ s₁ : State} {t : Time} (h : s₀.dev.kept z)
    (hu : exec (.gustDecay t) s₀ = .next s₁) : s₁.dev.kept z := keeps_on (fun _ h => Dev.kept_gustDecay h) h hu

theorem keeps_culletPersist {z : Nat} {s₀ s₁ : State} {t : Time} (h : s₀.dev.kept z)
    (hu : exec (.culletPersist t) s₀ = .next s₁) : s₁.dev.kept z := keeps_on (fun _ h => Dev.kept_cullPersist h) h hu

theorem keeps_fncmdEnter {z : Nat} {s₀ s₁ : State} {t : Time} {triad  : Fin 4} {all  : Bool} {f  : Fin 32} {st  : Fin 8} {cause  : Fin 65536} (h : s₀.dev.kept z)
    (hu : exec (.fncmdEnter t triad all f st cause) s₀ = .next s₁) : s₁.dev.kept z := by
  refine keeps_on (f := fun d => d.fnCmd triad all f (fun f d => d.cmdEnter f st cause)) (fun d h => ?_) h hu
  repeat' (first | with_reducible exact h | intro h | with_reducible apply Dev.kept_fnCmd | with_reducible apply Dev.kept_cmdEnter)

theorem keeps_fncmdEnable {z : Nat} {s₀ s₁ : State} {t : Time} {triad  : Fin 4} {all  : Bool} {f  : Fin 32} (h : s₀.dev.kept z)
    (hu : exec (.fncmdEnable t triad all f) s₀ = .next s₁) : s₁.dev.kept z := by
  refine keeps_on (f := fun d => d.fnCmd triad all f (fun f d => d.cmdEnable f)) (fun d h => ?_) h hu
  repeat' (first | with_reducible exact h | intro h | with_reducible apply Dev.kept_fnCmd | with_reducible apply Dev.kept_cmdEnable)

theorem keeps_fncmdDisable {z : Nat} {s₀ s₁ : State} {t : Time} {triad  : Fin 4} {all  : Bool} {f  : Fin 32} (h : s₀.dev.kept z)
    (hu : exec (.fncmdDisable t triad all f) s₀ = .next s₁) : s₁.dev.kept z := by
  refine keeps_on (f := fun d => d.fnCmd triad all f (fun f d => d.cmdDisable f)) (fun d h => ?_) h hu
  repeat' (first | with_reducible exact h | intro h | with_reducible apply Dev.kept_fnCmd | with_reducible apply Dev.kept_cmdDisable)

theorem keeps_fncmdAck {z : Nat} {s₀ s₁ : State} {t : Time} {triad  : Fin 4} {all  : Bool} {f  : Fin 32} (h : s₀.dev.kept z)
    (hu : exec (.fncmdAck t triad all f) s₀ = .next s₁) : s₁.dev.kept z := by
  refine keeps_on (f := fun d => d.fnCmd triad all f (fun f d => d.cmdAck f)) (fun d h => ?_) h hu
  repeat' (first | with_reducible exact h | intro h | with_reducible apply Dev.kept_fnCmd | with_reducible apply Dev.kept_cmdAck)

theorem keeps_fnreqEnable {z : Nat} {s₀ s₁ : State} {t : Time} {f  : Fin 32} {st  : Fin 8} (h : s₀.dev.kept z)
    (hu : exec (.fnreqEnable t f st) s₀ = .next s₁) : s₁.dev.kept z := keeps_on (fun _ h => Dev.kept_reqEnable h) h hu

theorem keeps_fnreqDisable {z : Nat} {s₀ s₁ : State} {t : Time} {f  : Fin 32} {st  : Fin 8} (h : s₀.dev.kept z)
    (hu : exec (.fnreqDisable t f st) s₀ = .next s₁) : s₁.dev.kept z := keeps_on (fun _ h => Dev.kept_reqDisable h) h hu

theorem keeps_fnreqSafe {z : Nat} {s₀ s₁ : State} {t : Time} {f  : Fin 32} {st  : Fin 8} (h : s₀.dev.kept z)
    (hu : exec (.fnreqSafe t f st) s₀ = .next s₁) : s₁.dev.kept z := keeps_on (fun _ h => Dev.kept_reqSafe h) h hu

theorem keeps_brakeTimeout {z : Nat} {s₀ s₁ : State} {t : Time} {f  : Fin 32} (h : s₀.dev.kept z)
    (hu : exec (.brakeTimeout t f) s₀ = .next s₁) : s₁.dev.kept z := keeps_on (fun _ h => Dev.kept_brakeTimeout h) h hu

theorem keeps_t0Kick {z : Nat} {s₀ s₁ : State} {t : Time} {triad  : Fin 4} {v  : W} (h : s₀.dev.kept z)
    (hu : exec (.t0Kick t triad v) s₀ = .next s₁) : s₁.dev.kept z := keeps_on (fun _ h => Dev.kept_t0Kick h) h hu

theorem keeps_t0KickMissed {z : Nat} {s₀ s₁ : State} {t : Time} (h : s₀.dev.kept z)
    (hu : exec (.t0KickMissed t) s₀ = .next s₁) : s₁.dev.kept z := keeps_on (fun _ h => Dev.kept_t0Missed h) h hu

theorem keeps_wdgKick {z : Nat} {s₀ s₁ : State} {t : Time} {triad  : Fin 4} {n  : Fin 16} {v  : W} (h : s₀.dev.kept z)
    (hu : exec (.wdgKick t triad n v) s₀ = .next s₁) : s₁.dev.kept z := keeps_on (fun _ h => Dev.kept_wdgKick h) h hu

theorem keeps_wdgMiss {z : Nat} {s₀ s₁ : State} {t : Time} {n  : Fin 16} (h : s₀.dev.kept z)
    (hu : exec (.wdgMiss t n) s₀ = .next s₁) : s₁.dev.kept z := keeps_on (fun _ h => Dev.kept_wdgLate h) h hu

theorem keeps_safeqRead {z : Nat} {s₀ s₁ : State} {t : Time} (h : s₀.dev.kept z)
    (hu : exec (.safeqRead t) s₀ = .next s₁) : s₁.dev.kept z := by
  refine keeps_on (f := fun d => d.safeqPop.2) (fun d h => ?_) h hu
  repeat' (first | with_reducible exact h | with_reducible apply Dev.kept_safeqPop)

theorem keeps_open {z : Nat} {s₀ s₁ : State} {t : Time} {port ctag role key  : Nat} {cnonce  : List Byte} (h : s₀.dev.kept z)
    (hu : exec (.open_ t port ctag role key cnonce) s₀ = .next s₁) : s₁.dev.kept z := keeps_on (fun _ h => Dev.kept_secOpenMsg h) h hu

theorem keeps_prove {z : Nat} {s₀ s₁ : State} {t : Time} {port ctag sid  : Nat} {proof  : List Byte} (h : s₀.dev.kept z)
    (hu : exec (.prove t port ctag sid proof) s₀ = .next s₁) : s₁.dev.kept z := keeps_on (fun _ h => Dev.kept_secProve h) h hu

theorem keeps_proveTimeout {z : Nat} {s₀ s₁ : State} {t : Time} {sid  : Nat} (h : s₀.dev.kept z)
    (hu : exec (.proveTimeout t sid) s₀ = .next s₁) : s₁.dev.kept z := keeps_on (fun _ h => Dev.kept_proveTimeout h) h hu

theorem keeps_makerFirst {z : Nat} {s₀ s₁ : State} {t : Time} {port key  : Nat} {pub cert  : List Byte} {audits  : Bool} (h : s₀.dev.kept z)
    (hu : exec (.makerFirst t port key pub cert audits) s₀ = .next s₁) : s₁.dev.kept z := keeps_on (fun _ h => Dev.kept_makerFirst h) h hu

theorem keeps_read {z : Nat} {s₀ s₁ : State} {t : Time} {port ctag sid ctr  : Nat} {addr len  : Nat} {auth  : List Byte} (h : s₀.dev.kept z)
    (hu : exec (.read t port ctag sid ctr addr len auth) s₀ = .next s₁) : s₁.dev.kept z := by
  refine keeps_on (f := fun d => d.request port ctag sid ctr 0x01 (leBytes 4 addr ++ leBytes 2 len) auth (fun x d => d.secRead addr len x)) (fun d h => ?_) h hu
  repeat' (first | with_reducible exact h | intro h | with_reducible apply Dev.kept_request | with_reducible apply Dev.kept_secRead)

theorem keeps_readAudit {z : Nat} {s₀ s₁ : State} {t : Time} {port ctag sid ctr  : Nat} {index count  : Nat} {auth  : List Byte} (h : s₀.dev.kept z)
    (hu : exec (.readAudit t port ctag sid ctr index count auth) s₀ = .next s₁) : s₁.dev.kept z := by
  refine keeps_on (f := fun d => d.request port ctag sid ctr 0x02 (leBytes 4 index ++ leBytes 1 count) auth (fun x d => d.secReadAudit index count x)) (fun d h => ?_) h hu
  repeat' (first | with_reducible exact h | intro h | with_reducible apply Dev.kept_request | with_reducible apply Dev.kept_secReadAudit)

theorem keeps_setLimit {z : Nat} {s₀ s₁ : State} {t : Time} {port ctag sid ctr  : Nat} {addr fmask value  : W} {audits  : Bool} {auth  : List Byte} (h : s₀.dev.kept z)
    (hu : exec (.setLimit t port ctag sid ctr addr fmask value audits auth) s₀ = .next s₁) : s₁.dev.kept z := by
  refine keeps_on (f := fun d => d.request port ctag sid ctr 0x10 (leBytes 4 addr.toNat ++ leBytes 4 fmask.toNat ++ leBytes 4 value.toNat) auth (fun x d => d.secSetLimit addr.toNat fmask value audits x)) (fun d h => ?_) h hu
  repeat' (first | with_reducible exact h | intro h | with_reducible apply Dev.kept_request | with_reducible apply Dev.kept_secSetLimit)

theorem keeps_setBound {z : Nat} {s₀ s₁ : State} {t : Time} {port ctag sid ctr  : Nat} {addr fmask  : W} {level  : Nat} {lower upper  : W} {audits  : Bool} {auth  : List Byte} (h : s₀.dev.kept z)
    (hu : exec (.setBound t port ctag sid ctr addr fmask level lower upper audits auth) s₀ = .next s₁) : s₁.dev.kept z := by
  refine keeps_on (f := fun d => d.request port ctag sid ctr 0x11 (leBytes 4 addr.toNat ++ leBytes 4 fmask.toNat ++ leBytes 1 level ++ leBytes 4 lower.toNat ++ leBytes 4 upper.toNat) auth (Dev.audited audits (fun x d => d.secSetBound addr.toNat fmask level lower upper x))) (fun d h => ?_) h hu
  repeat' (first | with_reducible exact h | intro h | with_reducible apply Dev.kept_request | with_reducible apply Dev.kept_audited | with_reducible apply Dev.kept_secSetBound)

theorem keeps_calWrite {z : Nat} {s₀ s₁ : State} {t : Time} {port ctag sid ctr  : Nat} {addr value  : W} {audits  : Bool} {auth  : List Byte} (h : s₀.dev.kept z)
    (hu : exec (.calWrite t port ctag sid ctr addr value audits auth) s₀ = .next s₁) : s₁.dev.kept z := by
  refine keeps_on (f := fun d => d.request port ctag sid ctr 0x12 (leBytes 4 addr.toNat ++ leBytes 4 value.toNat) auth (Dev.audited audits (fun x d => d.secCalWrite addr.toNat value x))) (fun d h => ?_) h hu
  repeat' (first | with_reducible exact h | intro h | with_reducible apply Dev.kept_request | with_reducible apply Dev.kept_audited | with_reducible apply Dev.kept_secCalWrite)

theorem keeps_resetLimits {z : Nat} {s₀ s₁ : State} {t : Time} {port ctag sid ctr  : Nat} {audits  : Bool} {auth  : List Byte} (h : s₀.dev.kept z)
    (hu : exec (.resetLimits t port ctag sid ctr audits auth) s₀ = .next s₁) : s₁.dev.kept z := by
  refine keeps_on (f := fun d => d.request port ctag sid ctr 0x13 ([]) auth (Dev.audited audits (fun x d => d.secResetLimits x))) (fun d h => ?_) h hu
  repeat' (first | with_reducible exact h | intro h | with_reducible apply Dev.kept_request | with_reducible apply Dev.kept_audited | with_reducible apply Dev.kept_secResetLimits)

theorem keeps_ack {z : Nat} {s₀ s₁ : State} {t : Time} {port ctag sid ctr  : Nat} {target  : Nat} {audits  : Bool} {auth  : List Byte} (h : s₀.dev.kept z)
    (hu : exec (.ack t port ctag sid ctr target audits auth) s₀ = .next s₁) : s₁.dev.kept z := by
  refine keeps_on (f := fun d => d.request port ctag sid ctr 0x20 (leBytes 1 target) auth (fun x d => d.secAck target audits x)) (fun d h => ?_) h hu
  repeat' (first | with_reducible exact h | intro h | with_reducible apply Dev.kept_request | with_reducible apply Dev.kept_secAck)

theorem keeps_setRtc {z : Nat} {s₀ s₁ : State} {t : Time} {port ctag sid ctr  : Nat} {v  : W} {audits  : Bool} {auth  : List Byte} (h : s₀.dev.kept z)
    (hu : exec (.setRtc t port ctag sid ctr v audits auth) s₀ = .next s₁) : s₁.dev.kept z := by
  refine keeps_on (f := fun d => d.request port ctag sid ctr 0x21 (leBytes 4 v.toNat) auth (Dev.audited audits (fun x d => d.secSetRtc v x))) (fun d h => ?_) h hu
  repeat' (first | with_reducible exact h | intro h | with_reducible apply Dev.kept_request | with_reducible apply Dev.kept_audited | with_reducible apply Dev.kept_secSetRtc)

theorem keeps_slotBegin {z : Nat} {s₀ s₁ : State} {t : Time} {port ctag sid ctr  : Nat} {slot len  : Nat} {sha  : List Byte} {auth  : List Byte} (h : s₀.dev.kept z)
    (hu : exec (.slotBegin t port ctag sid ctr slot len sha auth) s₀ = .next s₁) : s₁.dev.kept z := by
  refine keeps_on (f := fun d => d.request port ctag sid ctr 0x30 (leBytes 1 slot ++ leBytes 4 len ++ sha) auth (fun x d => d.slotBegin slot len sha x)) (fun d h => ?_) h hu
  repeat' (first | with_reducible exact h | intro h | with_reducible apply Dev.kept_request | with_reducible apply Dev.kept_slotBegin)

theorem keeps_slotData {z : Nat} {s₀ s₁ : State} {t : Time} {port ctag sid ctr  : Nat} {off  : Nat} {bs  : List Byte} (h : s₀.dev.kept z)
    (hu : exec (.slotData t port ctag sid ctr off bs) s₀ = .next s₁) : s₁.dev.kept z := by
  refine keeps_on (f := fun d => d.request port ctag sid ctr 0x31 [] [] (fun x d => d.slotData off bs x)) (fun d h => ?_) h hu
  repeat' (first | with_reducible exact h | intro h | with_reducible apply Dev.kept_request | with_reducible apply Dev.kept_slotData)

theorem keeps_slotEnd {z : Nat} {s₀ s₁ : State} {t : Time} {port ctag sid ctr  : Nat} {audits  : Bool} {auth  : List Byte} (h : s₀.dev.kept z)
    (hu : exec (.slotEnd t port ctag sid ctr audits auth) s₀ = .next s₁) : s₁.dev.kept z := by
  refine keeps_on (f := fun d => d.request port ctag sid ctr 0x32 ([]) auth (Dev.audited audits (fun x d => d.slotEnd x))) (fun d h => ?_) h hu
  repeat' (first | with_reducible exact h | intro h | with_reducible apply Dev.kept_request | with_reducible apply Dev.kept_audited | with_reducible apply Dev.kept_slotEnd)

theorem keeps_restart {z : Nat} {s₀ s₁ : State} {t : Time} {port ctag sid ctr  : Nat} {audits  : Bool} {auth  : List Byte} (h : s₀.dev.kept z)
    (hu : exec (.restart t port ctag sid ctr audits auth) s₀ = .next s₁) : s₁.dev.kept z := by
  refine keeps_on (f := fun d => d.request port ctag sid ctr 0x33 ([]) auth (Dev.audited audits (fun x d => d.secRestart x))) (fun d h => ?_) h hu
  repeat' (first | with_reducible exact h | intro h | with_reducible apply Dev.kept_request | with_reducible apply Dev.kept_audited | with_reducible apply Dev.kept_secRestart)

theorem keeps_keyInstall {z : Nat} {s₀ s₁ : State} {t : Time} {port ctag sid ctr  : Nat} {key role  : Nat} {bs  : List Byte} {certId  : Nat} {cert  : List Byte} {audits  : Bool} {auth  : List Byte} (h : s₀.dev.kept z)
    (hu : exec (.keyInstall t port ctag sid ctr key role bs certId cert audits auth) s₀ = .next s₁) : s₁.dev.kept z := by
  refine keeps_on (f := fun d => d.request port ctag sid ctr 0x40 (certified key role bs ++ (if role = rlOperator then [] else leBytes 4 certId ++ cert)) auth (Dev.audited audits (fun x d => d.keyInstall key role bs certId cert x))) (fun d h => ?_) h hu
  repeat' (first | with_reducible exact h | intro h | with_reducible apply Dev.kept_request | with_reducible apply Dev.kept_audited | with_reducible apply Dev.kept_keyInstall | with_reducible apply Dev.kept_ite)

theorem keeps_keyRevoke {z : Nat} {s₀ s₁ : State} {t : Time} {port ctag sid ctr  : Nat} {key  : Nat} {audits  : Bool} {auth  : List Byte} (h : s₀.dev.kept z)
    (hu : exec (.keyRevoke t port ctag sid ctr key audits auth) s₀ = .next s₁) : s₁.dev.kept z := by
  refine keeps_on (f := fun d => d.request port ctag sid ctr 0x41 (leBytes 4 key) auth (Dev.audited audits (fun x d => d.keyRevoke key x))) (fun d h => ?_) h hu
  repeat' (first | with_reducible exact h | intro h | with_reducible apply Dev.kept_request | with_reducible apply Dev.kept_audited | with_reducible apply Dev.kept_keyRevoke)

theorem keeps_gustClear {z : Nat} {s₀ s₁ : State} {t : Time} {port ctag sid ctr  : Nat} {res  : Nat} {audits  : Bool} {auth  : List Byte} (h : s₀.dev.kept z)
    (hu : exec (.gustClear t port ctag sid ctr res audits auth) s₀ = .next s₁) : s₁.dev.kept z := by
  refine keeps_on (f := fun d => d.request port ctag sid ctr 0x50 (leBytes 2 res) auth (Dev.audited audits (fun x d => d.secGustClear res x))) (fun d h => ?_) h hu
  repeat' (first | with_reducible exact h | intro h | with_reducible apply Dev.kept_request | with_reducible apply Dev.kept_audited | with_reducible apply Dev.kept_secGustClear)

theorem keeps_cullClear {z : Nat} {s₀ s₁ : State} {t : Time} {port ctag sid ctr  : Nat} {res  : Nat} {audits  : Bool} {auth  : List Byte} (h : s₀.dev.kept z)
    (hu : exec (.cullClear t port ctag sid ctr res audits auth) s₀ = .next s₁) : s₁.dev.kept z := by
  refine keeps_on (f := fun d => d.request port ctag sid ctr 0x51 (leBytes 2 res) auth (Dev.audited audits (fun x d => d.secCullClear res x))) (fun d h => ?_) h hu
  repeat' (first | with_reducible exact h | intro h | with_reducible apply Dev.kept_request | with_reducible apply Dev.kept_audited | with_reducible apply Dev.kept_secCullClear)

theorem keeps_lockoutClear {z : Nat} {s₀ s₁ : State} {t : Time} {port ctag sid ctr  : Nat} {role  : Nat} {audits  : Bool} {auth  : List Byte} (h : s₀.dev.kept z)
    (hu : exec (.lockoutClear t port ctag sid ctr role audits auth) s₀ = .next s₁) : s₁.dev.kept z := by
  refine keeps_on (f := fun d => d.request port ctag sid ctr 0x52 (leBytes 1 role) auth (Dev.audited audits (fun x d => d.lockoutClear role x))) (fun d h => ?_) h hu
  repeat' (first | with_reducible exact h | intro h | with_reducible apply Dev.kept_request | with_reducible apply Dev.kept_audited | with_reducible apply Dev.kept_lockoutClear)

theorem keeps_factest {z : Nat} {s₀ s₁ : State} {t : Time} {port ctag sid ctr  : Nat} {test  : Option (Nat × Nat × Bool)} {audits  : Bool} {auth  : List Byte} (h : s₀.dev.kept z)
    (hu : exec (.factest t port ctag sid ctr test audits auth) s₀ = .next s₁) : s₁.dev.kept z := by
  refine keeps_on (f := fun d => d.request port ctag sid ctr 0x53 (factestArgs test) auth (Dev.audited audits (fun x d => d.secFactest test x))) (fun d h => ?_) h hu
  repeat' (first | with_reducible exact h | intro h | with_reducible apply Dev.kept_request | with_reducible apply Dev.kept_audited | with_reducible apply Dev.kept_secFactest)

theorem keeps_close {z : Nat} {s₀ s₁ : State} {t : Time} {port ctag sid ctr  : Nat} {auth  : List Byte} (h : s₀.dev.kept z)
    (hu : exec (.close t port ctag sid ctr auth) s₀ = .next s₁) : s₁.dev.kept z := by
  refine keeps_on (f := fun d => d.request port ctag sid ctr 0x60 ([]) auth (fun x d => d.secClose x)) (fun d h => ?_) h hu
  repeat' (first | with_reducible exact h | intro h | with_reducible apply Dev.kept_request | with_reducible apply Dev.kept_secClose)

theorem keeps_sessionIdleTimeout {z : Nat} {s₀ s₁ : State} {t : Time} {sid  : Nat} (h : s₀.dev.kept z)
    (hu : exec (.sessionIdleTimeout t sid) s₀ = .next s₁) : s₁.dev.kept z := keeps_on (fun _ h => Dev.kept_idleTimeout h) h hu

theorem keeps_lockoutExpire {z : Nat} {s₀ s₁ : State} {t : Time} {role  : Fin 4} (h : s₀.dev.kept z)
    (hu : exec (.lockoutExpire t role) s₀ = .next s₁) : s₁.dev.kept z := keeps_on (fun _ h => Dev.kept_lockoutExpire h) h hu

theorem keeps_sigMaptx {z : Nat} {s₀ s₁ : State} {t : Time} {v  : W} (h : s₀.dev.kept z)
    (hu : exec (.sigMaptx t v) s₀ = .next s₁) : s₁.dev.kept z := by
  have hu : execSigMaptx t v s₀ = .next s₁ := hu
  unfold execSigMaptx at hu
  refine keeps_on (fun d h => ?_) h hu
  repeat' (first | with_reducible exact h | with_reducible apply Dev.kept_mapTx)

theorem keeps_publishRound {z : Nat} {s₀ s₁ : State} {t : Time} (h : s₀.dev.kept z)
    (hu : exec (.publishRound t) s₀ = .next s₁) : s₁.dev.kept z := keeps_on (fun _ h => Dev.kept_publishRound h) h hu

theorem keeps_publishReceived {z : Nat} {s₀ s₁ : State} {t : Time} {q  : Fin 32} (h : s₀.dev.kept z)
    (hu : exec (.publishReceived t q) s₀ = .next s₁) : s₁.dev.kept z := by
  refine keeps_on (f := fun d => d.onDomain q 0 Dev.published) (fun d h => ?_) h hu
  repeat' (first | with_reducible exact h | with_reducible apply Dev.kept_onDomain | with_reducible apply Dev.kept_published)

theorem keeps_commandReceived {z : Nat} {s₀ s₁ : State} {t : Time} {q  : Fin 32} (h : s₀.dev.kept z)
    (hu : exec (.commandReceived t q) s₀ = .next s₁) : s₁.dev.kept z := by
  refine keeps_on (f := fun d => d.onDomain q 1 Dev.commandIn) (fun d h => ?_) h hu
  repeat' (first | with_reducible exact h | with_reducible apply Dev.kept_onDomain | with_reducible apply Dev.kept_commandIn)

theorem keeps_replyReceived {z : Nat} {s₀ s₁ : State} {t : Time} {q  : Fin 32} (h : s₀.dev.kept z)
    (hu : exec (.replyReceived t q) s₀ = .next s₁) : s₁.dev.kept z := by
  refine keeps_on (f := fun d => d.onDomain q 2 Dev.replyIn) (fun d h => ?_) h hu
  repeat' (first | with_reducible exact h | with_reducible apply Dev.kept_onDomain | with_reducible apply Dev.kept_replyIn)

theorem keeps_replytoExpired {z : Nat} {s₀ s₁ : State} {t : Time} {q  : Fin 32} (h : s₀.dev.kept z)
    (hu : exec (.replytoExpired t q) s₀ = .next s₁) : s₁.dev.kept z := keeps_on (fun _ h => Dev.kept_replyTo h) h hu

theorem keeps_domainHeartbeat {z : Nat} {s₀ s₁ : State} {t : Time} (h : s₀.dev.kept z)
    (hu : exec (.domainHeartbeat t) s₀ = .next s₁) : s₁.dev.kept z := keeps_on (fun _ h => Dev.kept_sendHeartbeat h) h hu

theorem keeps_heartbeatReceived {z : Nat} {s₀ s₁ : State} {t : Time} {q  : Fin 32} (h : s₀.dev.kept z)
    (hu : exec (.heartbeatReceived t q) s₀ = .next s₁) : s₁.dev.kept z := by
  refine keeps_on (f := fun d => d.onDomain q 3 (fun x d => if d.isRoot || d.isGw then d.hear x.src (BitVec.ofNat 32 (x.num 12 4)) else d)) (fun d h => ?_) h hu
  repeat' (first | with_reducible exact h | intro h | with_reducible apply Dev.kept_onDomain | with_reducible apply Dev.kept_hear | with_reducible apply Dev.kept_ite)

theorem keeps_aggregateSend {z : Nat} {s₀ s₁ : State} {t : Time} (h : s₀.dev.kept z)
    (hu : exec (.aggregateSend t) s₀ = .next s₁) : s₁.dev.kept z := keeps_on (fun _ h => Dev.kept_sendAggregate h) h hu

theorem keeps_aggregateReceived {z : Nat} {s₀ s₁ : State} {t : Time} {q  : Fin 32} (h : s₀.dev.kept z)
    (hu : exec (.aggregateReceived t q) s₀ = .next s₁) : s₁.dev.kept z := by
  refine keeps_on (f := fun d => d.onDomain q 4 Dev.aggregateIn) (fun d h => ?_) h hu
  repeat' (first | with_reducible exact h | with_reducible apply Dev.kept_onDomain | with_reducible apply Dev.kept_aggregateIn)

theorem keeps_announceSend {z : Nat} {s₀ s₁ : State} {t : Time} (h : s₀.dev.kept z)
    (hu : exec (.announceSend t) s₀ = .next s₁) : s₁.dev.kept z := keeps_on (fun _ h => Dev.kept_sendAnnounce h) h hu

theorem keeps_announceReceived {z : Nat} {s₀ s₁ : State} {t : Time} {q  : Fin 32} (h : s₀.dev.kept z)
    (hu : exec (.announceReceived t q) s₀ = .next s₁) : s₁.dev.kept z := by
  refine keeps_on (f := fun d => d.onDomain q 5 Dev.announced) (fun d h => ?_) h hu
  repeat' (first | with_reducible exact h | with_reducible apply Dev.kept_onDomain | with_reducible apply Dev.kept_announced)

theorem keeps_rootSilent {z : Nat} {s₀ s₁ : State} {t : Time} (h : s₀.dev.kept z)
    (hu : exec (.rootSilent t) s₀ = .next s₁) : s₁.dev.kept z := keeps_on (fun _ h => Dev.kept_rootSilent h) h hu

theorem keeps_slotFire {z : Nat} {s₀ s₁ : State} {t : Time} {n  : Fin 64} {upset  : List (Fin 48)} {pads  : List (Fin 48 × Int × Int)} (h : s₀.dev.kept z)
    (hu : exec (.slotFire t n upset pads) s₀ = .next s₁) : s₁.dev.kept z := by
  have hu : execSlotFire t n upset pads s₀ = .next s₁ := hu
  unfold execSlotFire at hu
  refine keeps_on (fun d h => ?_) h hu
  repeat' (first | with_reducible exact h | intro h | with_reducible apply Dev.kept_slotFire)

theorem keeps_feedWired {z : Nat} {s₀ s₁ : State} {t : Time} {f  : Fin 2} {va vb  : Nat} (h : s₀.dev.kept z)
    (hu : exec (.feedWired t f va vb) s₀ = .next s₁) : s₁.dev.kept z := keeps_onAny (fun _ h => Dev.kept_feedWired h) h hu

theorem keeps_feedsValid {z : Nat} {s₀ s₁ : State} {t : Time} {va vb  : Nat} (h : s₀.dev.kept z)
    (hu : exec (.feedsValid t va vb) s₀ = .next s₁) : s₁.dev.kept z := keeps_onAny (fun _ h => Dev.kept_feedsValid h) h hu

theorem keeps_feedMissing {z : Nat} {s₀ s₁ : State} {t : Time} {f  : Fin 2} {va vb  : Nat} (h : s₀.dev.kept z)
    (hu : exec (.feedMissing t f va vb) s₀ = .next s₁) : s₁.dev.kept z := keeps_onAny (fun _ h => Dev.kept_feedMissing h) h hu

theorem keeps_porRelease {s₀ s₁ : State} {t : Time} {cycles va vb  : Nat} (h : s₀.dev.kept 0)
    (hu : exec (.porRelease t cycles va vb) s₀ = .next s₁) : s₁.dev.kept 0 := keeps_onAny (fun _ h => Dev.kept_porRelease h) h hu

theorem keeps_supWarning {z : Nat} {s₀ s₁ : State} {t : Time} {va vb  : Nat} (h : s₀.dev.kept z)
    (hu : exec (.supWarning t va vb) s₀ = .next s₁) : s₁.dev.kept z := by
  refine keeps_onAny (f := fun d => if d.por then d else d.supWarning va vb) (fun d h => ?_) h hu
  repeat' (first | with_reducible exact h | with_reducible apply Dev.kept_supWarning | with_reducible apply Dev.kept_ite)

theorem keeps_supRecoveryStart {z : Nat} {s₀ s₁ : State} {t : Time} {va vb  : Nat} (h : s₀.dev.kept z)
    (hu : exec (.supRecoveryStart t va vb) s₀ = .next s₁) : s₁.dev.kept z := by
  refine keeps_onAny (f := fun d => if d.por then d else d.recoveryStart va vb) (fun d h => ?_) h hu
  repeat' (first | with_reducible exact h | with_reducible apply Dev.kept_recoveryStart | with_reducible apply Dev.kept_ite)

theorem keeps_supRecoveryAbort {z : Nat} {s₀ s₁ : State} {t : Time} {va vb  : Nat} (h : s₀.dev.kept z)
    (hu : exec (.supRecoveryAbort t va vb) s₀ = .next s₁) : s₁.dev.kept z := by
  refine keeps_onAny (f := fun d => if d.por then d else d.recoveryAbort va vb) (fun d h => ?_) h hu
  repeat' (first | with_reducible exact h | with_reducible apply Dev.kept_recoveryAbort | with_reducible apply Dev.kept_ite)

theorem keeps_supRecovered {z : Nat} {s₀ s₁ : State} {t : Time} {va vb  : Nat} (h : s₀.dev.kept z)
    (hu : exec (.supRecovered t va vb) s₀ = .next s₁) : s₁.dev.kept z := by
  refine keeps_onAny (f := fun d => if d.por then d else d.recovered va vb) (fun d h => ?_) h hu
  repeat' (first | with_reducible exact h | with_reducible apply Dev.kept_recovered | with_reducible apply Dev.kept_ite)

theorem keeps_feedLost {z : Nat} {s₀ s₁ : State} {t : Time} {f  : Fin 2} {va vb  : Nat} (h : s₀.dev.kept z)
    (hu : exec (.feedLost t f va vb) s₀ = .next s₁) : s₁.dev.kept z := by
  refine keeps_onAny (f := fun d => if d.por then d else d.feedLost f va vb) (fun d h => ?_) h hu
  repeat' (first | with_reducible exact h | with_reducible apply Dev.kept_feedLost | with_reducible apply Dev.kept_ite)

theorem keeps_feedReturn {z : Nat} {s₀ s₁ : State} {t : Time} {f  : Fin 2} {va vb  : Nat} (h : s₀.dev.kept z)
    (hu : exec (.feedReturn t f va vb) s₀ = .next s₁) : s₁.dev.kept z := by
  refine keeps_onAny (f := fun d => if d.por then d else d.feedReturn f va vb) (fun d h => ?_) h hu
  repeat' (first | with_reducible exact h | with_reducible apply Dev.kept_feedReturn | with_reducible apply Dev.kept_ite)

theorem keeps_overvoltage {z : Nat} {s₀ s₁ : State} {t : Time} {f  : Fin 2} {va vb  : Nat} (h : s₀.dev.kept z)
    (hu : exec (.overvoltage t f va vb) s₀ = .next s₁) : s₁.dev.kept z := by
  refine keeps_onAny (f := fun d => if d.por then d else d.overvoltage f va vb) (fun d h => ?_) h hu
  repeat' (first | with_reducible exact h | with_reducible apply Dev.kept_overvoltage | with_reducible apply Dev.kept_ite)

theorem keeps_ovReconnect {z : Nat} {s₀ s₁ : State} {t : Time} {f  : Fin 2} {va vb  : Nat} (h : s₀.dev.kept z)
    (hu : exec (.ovReconnect t f va vb) s₀ = .next s₁) : s₁.dev.kept z := by
  refine keeps_onAny (f := fun d => if d.por then d else d.ovReconnect f va vb) (fun d h => ?_) h hu
  repeat' (first | with_reducible exact h | with_reducible apply Dev.kept_ovReconnect | with_reducible apply Dev.kept_ite)

theorem keeps_porAssert {z : Nat} {s₀ s₁ : State} {t : Time} {va vb  : Nat} (h : s₀.dev.kept z)
    (hu : exec (.porAssert t va vb) s₀ = .next s₁) : s₁.dev.kept z := keeps_onAny (fun _ h => Dev.kept_porAssert h) h hu

theorem keeps_railFault {z : Nat} {s₀ s₁ : State} {t : Time} {r  : Fin 7} (h : s₀.dev.kept z)
    (hu : exec (.railFault t r) s₀ = .next s₁) : s₁.dev.kept z := keeps_onAny (fun _ h => Dev.kept_railFault h) h hu

theorem keeps_vbkupMeasure {z : Nat} {s₀ s₁ : State} {t : Time} {mv  : Nat} (h : s₀.dev.kept z)
    (hu : exec (.vbkupMeasure t mv) s₀ = .next s₁) : s₁.dev.kept z := by
  refine keeps_onAny (f := fun d => if d.por then d else d.vbkupMeasure mv) (fun d h => ?_) h hu
  repeat' (first | with_reducible exact h | with_reducible apply Dev.kept_vbkupMeasure | with_reducible apply Dev.kept_ite)

theorem keeps_stormClear {z : Nat} {s₀ s₁ : State} {t : Time} (h : s₀.dev.kept z)
    (hu : exec (.stormClear t) s₀ = .next s₁) : s₁.dev.kept z := by
  refine keeps_onAny (f := fun d => if d.por then d else d.stormClear) (fun d h => ?_) h hu
  repeat' (first | with_reducible exact h | with_reducible apply Dev.kept_stormClear | with_reducible apply Dev.kept_ite)

theorem keeps_thmDieSample {z : Nat} {s₀ s₁ : State} {t : Time} {rs  : List (Option (Nat × Int))} (h : s₀.dev.kept z)
    (hu : exec (.thmDieSample t rs) s₀ = .next s₁) : s₁.dev.kept z := keeps_onAny (fun _ h => Dev.kept_dieSample h) h hu

theorem keeps_thmNtcSample {z : Nat} {s₀ s₁ : State} {t : Time} {n  : Fin 24} {r  : Option Int} (h : s₀.dev.kept z)
    (hu : exec (.thmNtcSample t n r) s₀ = .next s₁) : s₁.dev.kept z := keeps_onAny (fun _ h => Dev.kept_ntcSample h) h hu

theorem keeps_kRise {z : Nat} {s₀ s₁ : State} {t : Time} (h : s₀.dev.kept z)
    (hu : exec (.kRise t) s₀ = .next s₁) : s₁.dev.kept z := keeps_on (fun _ h => Dev.kept_kRise h) h hu

theorem keeps_refQualified {z : Nat} {s₀ s₁ : State} {t : Time} {dev  : Int} (h : s₀.dev.kept z)
    (hu : exec (.refQualified t dev) s₀ = .next s₁) : s₁.dev.kept z := keeps_on (fun _ h => Dev.kept_refQualified h) h hu

theorem keeps_refQualTimeout {z : Nat} {s₀ s₁ : State} {t : Time} {dev  : Int} (h : s₀.dev.kept z)
    (hu : exec (.refQualTimeout t dev) s₀ = .next s₁) : s₁.dev.kept z := keeps_on (fun _ h => Dev.kept_refTimeout h) h hu

theorem keeps_refFail {z : Nat} {s₀ s₁ : State} {t : Time} {noEdge  : Bool} {dev  : Int} (h : s₀.dev.kept z)
    (hu : exec (.refFail t noEdge dev) s₀ = .next s₁) : s₁.dev.kept z := keeps_on (fun _ h => Dev.kept_refFail h) h hu

theorem keeps_stimeLoRead {z : Nat} {s₀ s₁ : State} {t : Time} {triad  : Fin 4} (h : s₀.dev.kept z)
    (hu : exec (.stimeLoRead t triad) s₀ = .next s₁) : s₁.dev.kept z := by
  refine keeps_on (f := fun d => (d.readStimeLo triad).2) (fun d h => ?_) h hu
  repeat' (first | with_reducible exact h | with_reducible apply Dev.kept_readStimeLo)

theorem keeps_slotenWrite {z : Nat} {s₀ s₁ : State} {t : Time} {triad  : Fin 4} {hi  : Bool} {v  : W} (h : s₀.dev.kept z)
    (hu : exec (.slotenWrite t triad hi v) s₀ = .next s₁) : s₁.dev.kept z := keeps_on (fun _ h => Dev.kept_slotEnables h) h hu

theorem keeps_vcoreScalingStart {z : Nat} {s₀ s₁ : State} {t : Time} (h : s₀.dev.kept z)
    (hu : exec (.vcoreScalingStart t) s₀ = .next s₁) : s₁.dev.kept z := keeps_on (fun _ h => Dev.kept_vcoreStart h) h hu

theorem keeps_vcoreWindowEnd {z : Nat} {s₀ s₁ : State} {t : Time} (h : s₀.dev.kept z)
    (hu : exec (.vcoreWindowEnd t) s₀ = .next s₁) : s₁.dev.kept z := keeps_on (fun _ h => Dev.kept_vcoreWindow h) h hu

theorem keeps_rtcOscFail {z : Nat} {s₀ s₁ : State} {t : Time} (h : s₀.dev.kept z)
    (hu : exec (.rtcOscFail t) s₀ = .next s₁) : s₁.dev.kept z := by
  refine keeps_onAny (f := fun d => if d.por then d else d.rtcOscFail) (fun d h => ?_) h hu
  repeat' (first | with_reducible exact h | with_reducible apply Dev.kept_rtcOscFail | with_reducible apply Dev.kept_ite)

theorem keeps_vbkupLoss {z : Nat} {s₀ s₁ : State} {t : Time} (h : s₀.dev.kept z)
    (hu : exec (.vbkupLoss t) s₀ = .next s₁) : s₁.dev.kept z := keeps_onAny (fun _ h => Dev.kept_vbkupLoss h) h hu

theorem keeps_rtcSetsecWrite {z : Nat} {s₀ s₁ : State} {t : Time} {sid  : Nat} {v  : W} {audits  : Bool} (h : s₀.dev.kept z)
    (hu : exec (.rtcSetsecWrite t sid v audits) s₀ = .next s₁) : s₁.dev.kept z := keeps_on (fun _ h => Dev.kept_rtcSetsec h) h hu

theorem keeps_rtcLoad {z : Nat} {s₀ s₁ : State} {t : Time} (h : s₀.dev.kept z)
    (hu : exec (.rtcLoad t) s₀ = .next s₁) : s₁.dev.kept z := by
  refine keeps_onAny (f := fun d => if d.por then d else d.rtcLoad) (fun d h => ?_) h hu
  repeat' (first | with_reducible exact h | with_reducible apply Dev.kept_rtcLoad | with_reducible apply Dev.kept_ite)

theorem keeps_rtcCapGo {z : Nat} {s₀ s₁ : State} {t : Time} {v  : W} (h : s₀.dev.kept z)
    (hu : exec (.rtcCapGo t v) s₀ = .next s₁) : s₁.dev.kept z := keeps_on (fun _ h => Dev.kept_rtcCapGo h) h hu

theorem keeps_rtcCaptureDone {z : Nat} {s₀ s₁ : State} {t : Time} {edge  : Time} (h : s₀.dev.kept z)
    (hu : exec (.rtcCaptureDone t edge) s₀ = .next s₁) : s₁.dev.kept z := by
  refine keeps_onAny (f := fun d => if d.por then d else d.rtcCapDone edge) (fun d h => ?_) h hu
  repeat' (first | with_reducible exact h | with_reducible apply Dev.kept_rtcCapDone | with_reducible apply Dev.kept_ite)

theorem keeps_rtcSubRead {z : Nat} {s₀ s₁ : State} {t : Time} {triad  : Fin 4} (h : s₀.dev.kept z)
    (hu : exec (.rtcSubRead t triad) s₀ = .next s₁) : s₁.dev.kept z := by
  refine keeps_on (f := fun d => (d.readRtcSub triad).2) (fun d h => ?_) h hu
  repeat' (first | with_reducible exact h | with_reducible apply Dev.kept_readRtcSub)

end Sys2Proof.Machine
end

