-- ==== Sys2Proof/Laws/Legs.lean ====
section
/-! SUPPORT. What the commands of the leg channels and of the gate link do (chapter 04). -/

namespace Sys2Proof.Machine

theorem Dev.legOf_modLeg (d : Dev) (n : Nat) (g : Leg → Leg) : (d.modLeg n g).legOf n = g (d.legOf n) := Tab.getD_set_self _ _ _ _
theorem Dev.legOf_modLeg_ne (d : Dev) (n k : Nat) (g : Leg → Leg) (h : k ≠ n) : (d.modLeg n g).legOf k = d.legOf k := Tab.getD_set_ne _ _ _ _ _ h

/-- LEG_PARITY_ERROR. -/
theorem does_legParityError (d : Dev) (n : Fin 48) (h0 : d.isSet (LEG_STAT n) LEG_STAT_RETIRED = false) : let e := d.parityError n; e = d.legMismatch n := by
  intro e
  simp only [e]
  unfold Dev.parityError
  simp only [Bool.not_true, Bool.not_false, Bool.and_true, Bool.true_and, Bool.and_false, Bool.false_and, Bool.or_true, Bool.true_or, Bool.or_false, Bool.false_or, Bool.false_eq_true, if_true, if_false, Bool.and_self, Bool.or_self, decide_true, decide_false, not_true_eq_false, not_false_eq_true, ne_eq, Option.isSome_some, Option.isSome_none, List.isEmpty_nil, Bool.true_eq_false, Option.isNone_none, Option.isNone_some, and_self, and_true, true_and, or_true, true_or, or_false, false_or, Bool.and_eq_true, Bool.or_eq_true, decide_eq_true_eq, List.isEmpty_cons, false_and, and_false, h0]

/-- LEG_SHA_WRITE. -/
theorem does_legShaWrite (d : Dev) (triad : Fin 4) (n : Fin 48) (b : Bool) (v : W) (h0 : d.shadowOpen n = true) : let e := d.shaWrite triad n b v; e.rd (if b then LEG_SHB n else LEG_SHA n) = v &&& 0x00FFFFFF ∧ onlyRegs [(if b then LEG_SHB n else LEG_SHA n)] d e ∧ sameMem d e ∧ e.legs = d.legs := by
  intro e
  have hs : e = d.wr (if b then LEG_SHB n else LEG_SHA n) (v &&& 0x00FFFFFF) := by
    simp only [e]; unfold Dev.shaWrite; rw [h0, if_pos rfl]
  rw [hs]
  exact ⟨Dev.rd_wr_self _ _ _, fun a ha _ => Dev.rd_wr_ne _ _ _ _ (by simpa using ha), ⟨rfl, rfl, rfl, rfl, rfl, rfl⟩, rfl⟩

/-- LEG_SHA_WRITE. -/
theorem does_legShaWrite_closed (d : Dev) (triad : Fin 4) (n : Fin 48) (b : Bool) (v : W) (h0 : d.shadowOpen n = false) : let e := d.shaWrite triad n b v; e = d.evtC clsInfo EV_LEG_SHADOW_WRITE_IGNORED triad [n] ∧ logged d e EV_LEG_SHADOW_WRITE_IGNORED ∧ onlyRegs [] d e := by
  intro e
  have hs : e = d.evtC clsInfo EV_LEG_SHADOW_WRITE_IGNORED triad [n.val] := by
    simp only [e]; unfold Dev.shaWrite Dev.shadowIgnored; rw [h0]; rfl
  rw [hs]
  exact ⟨rfl, logged_evtC _ _ _ _ _, fun a _ ha => Dev.rd_evtC _ _ _ _ _ _ ha⟩

/-- LEG_SHIFT_WRITE. -/
theorem does_legShiftWrite (d : Dev) (triad : Fin 4) (n : Fin 48) (v : W) (h0 : d.shadowOpen n = true) : let e := d.shiftWrite triad n v; e.rd (LEG_SHIFT n) = v ∧ (e.legOf n).fresh = true ∧ (e.legOf n).parkSet = false ∧ onlyRegs [LEG_SHIFT n] d e ∧ sameMem d e := by
  intro e
  have hs : e = (d.wr (LEG_SHIFT n) v).modLeg n (fun l => { l with fresh := true, parkSet := false }) := by
    simp only [e]; unfold Dev.shiftWrite; rw [h0, if_pos rfl]
  rw [hs, Dev.legOf_modLeg]
  refine ⟨Dev.rd_wr_self _ _ _, rfl, rfl, ?_, ⟨rfl, rfl, rfl, rfl, rfl, rfl⟩⟩
  intro a ha _
  exact Dev.rd_wr_ne _ _ _ _ (by simpa using ha)

/-- LINE_CAL_DONE. -/
theorem does_lineCalDone (d : Dev) (n : Fin 48) (gl : Bool) (resid : Int) (mono : Bool) (span : Nat) (h0 : d.isSet (LEG_STAT n) LEG_STAT_RETIRED = false) (h1 : resid.natAbs ≤ 40) (h2 : mono = true) (h3 : 25000 ≤ span) (h4 : d.inRun = true) (h5 : (d.legOwner n).isSome = true) : let e := d.lineCalDone n gl resid mono span; (e.legOf n).newGL = (if gl then some d.now else (d.legOf n).newGL) ∧ (e.legOf n).newGH = (if gl then (d.legOf n).newGH else some d.now) ∧ onlyRegs [] d e := by
  intro e
  have hs : e = d.modLeg n (fun l => if gl then { l with newGL := some d.now } else { l with newGH := some d.now }) := by
    simp only [e]; unfold Dev.lineCalDone; rw [h0, h2]
    rw [if_neg (by decide), if_pos (by simpa [h3] using h1)]
    dsimp only
    rw [if_pos]
    show (d.inRun && (d.legOwner n).isSome) = true
    rw [h4, h5]
    rfl
  rw [hs, Dev.legOf_modLeg]
  cases gl <;> exact ⟨rfl, rfl, fun a _ _ => rfl⟩

/-- LINE_CAL_DONE. -/
theorem does_lineCalDone_fails (d : Dev) (n : Fin 48) (gl : Bool) (resid : Int) (mono : Bool) (span : Nat) (h0 : d.isSet (LEG_STAT n) LEG_STAT_RETIRED = false) (h1 : 40 < resid.natAbs ∨ mono = false ∨ span < 25000) : let e := d.lineCalDone n gl resid mono span; e = (d.incSat (LEG_CNT n) LEG_CNT_CALF).calGust n EV_LEG_CAL_FAIL := by
  intro e
  simp only [e]; unfold Dev.lineCalDone; rw [h0]
  rw [if_neg (by decide), if_neg]
  intro hc
  simp only [Bool.and_eq_true, decide_eq_true_eq] at hc
  rcases h1 with h | h | h
  · omega
  · rw [h] at hc; exact absurd hc.1.2 (by decide)
  · omega

/-- CAL_AGED. -/
theorem does_calAged (d : Dev) (n : Fin 48) (gl : Bool) (h0 : 4 * msTicks < d.lineAge n gl) (h1 : d.isSet (LEG_STAT n) LEG_STAT_CAL_AGED = false) : let e := d.calAged n gl; e.isSet (LEG_STAT n) LEG_STAT_CAL_AGED = true ∧ logged d e EV_LEG_CAL_AGED := by
  intro e
  have hs : e = (d.setF (LEG_STAT n) LEG_STAT_CAL_AGED 1).evt EV_LEG_CAL_AGED [n.val] := by
    simp only [e]; unfold Dev.calAged; rw [if_pos (by rw [h1]; simpa using h0)]
  rw [hs]
  have hr : isEvtReg (LEG_STAT n) = false := (by decide : ∀ n : Fin 48, isEvtReg (LEG_STAT n) = false) n
  exact ⟨by rw [Dev.isSet_evt _ _ _ _ _ hr, Dev.isSet_setF_self _ _ _ _ (by decide)]; rfl, logged_evt_of _ _ _ _ (Dev.fld_setF_ne _ _ _ _ _ _ (by simp only [SYS_EVT_HEAD, LEG_STAT]; omega))⟩

/-- LINE_AGE_LIMIT. -/
theorem does_lineAgeLimit (d : Dev) (n : Fin 48) (gl : Bool) (h0 : 20 * msTicks ≤ d.lineAge n gl) : let e := d.lineAgeLimit n gl; e = d.gale 3 n gaCal 0xF := by
  intro e
  simp only [e]; unfold Dev.lineAgeLimit; rw [if_pos h0]

/-- GL_POLL. -/
theorem does_glPoll (d : Dev) (n : Fin 48) (h0 : d.holdsToken = true) (h1 : d.isSet (LEG_STAT n) LEG_STAT_TXEN = true) (h2 : (d.legOf n).enSeq = none) (h3 : (d.legOf n).pull = false) : let e := d.glPoll n; e = (d.modLeg n (fun l => { l with pollTodo := d.glAddrs n })).glNext n := by
  intro e
  simp only [e]; unfold Dev.glPoll; dsimp only; rw [h0, h1, h2, h3]; rfl

/-- GL_RESPONSE. -/
theorem does_glResponse (d : Dev) (n : Fin 48) (bytes : List Byte) (late : Bool) (q : GlReq) (h0 : (d.legOf n).inflight = some q) (h1 : late = false) (h2 : goodResponse q bytes = true) : let e := d.glResponse n bytes late; e = d.glGood n q (bytes.getD 1 0).toNat (leNat ((bytes.drop 2).take 2)) := by
  intro e
  simp only [e]; unfold Dev.glResponse; rw [h0]; dsimp only; rw [h1, h2]; rfl

/-- GL_RESPONSE. -/
theorem does_glResponse_bad (d : Dev) (n : Fin 48) (bytes : List Byte) (late : Bool) (q : GlReq) (h0 : (d.legOf n).inflight = some q) (h1 : late = true ∨ goodResponse q bytes = false) : let e := d.glResponse n bytes late; e = d.glBad n q false := by
  intro e
  simp only [e]; unfold Dev.glResponse; rw [h0]; dsimp only; rw [if_neg]
  rcases h1 with h | h <;> rw [h] <;> simp

/-- GL_NOACK. -/
theorem does_glNoack (d : Dev) (n : Fin 48) (q : GlReq) (h0 : (d.legOf n).inflight = some q) : let e := d.glNoack n; e = d.glBad n q true := by
  intro e
  simp only [e]; unfold Dev.glNoack; rw [h0]

/-- GL_FAULT_PULL. -/
theorem does_glFaultPull (d : Dev) (n : Fin 48) (h0 : (d.legOf n).pull = false) : let e := d.faultPull n; e = (((d.modLeg n (fun l => { l with pull := true, pulled := true, pollTodo := [] })).setF (LEG_FLT n) LEG_FLT_PULL 1).evt EV_LEG_GL_FAULT_PULL [n.val]).evalGroups := by
  intro e
  simp only [e]; unfold Dev.faultPull Dev.pairPulled; rw [h0]; rfl

/-- FAULT_PULL_END. -/
theorem does_faultPullEnd (d : Dev) (n : Fin 48) (h0 : (d.legOf n).pull = true) : let e := d.faultPullEnd n; e = ((d.modLeg n (fun l => { l with pull := false })).evalGroups).glNext n := by
  intro e
  simp only [e]; unfold Dev.faultPullEnd Dev.pairPulled; rw [h0, if_pos rfl]

/-- ENABLE_SEQUENCE_DONE. -/
theorem does_enableSequenceDone (d : Dev) (n : Fin 48) (errGH errGL : Int) (s : EnSeq) (h0 : (d.legOf n).enSeq = some s) (h1 : s.todo = []) (h2 : d.holdsToken = true) (h3 : (d.padCheck n errGH errGL).isSet (LEG_STAT n) LEG_STAT_RETIRED = false) : let e := d.sequenceDone n errGH errGL; let m := ((((d.padCheck n errGH errGL).modLeg n (fun l => { l with enSeq := none })).setF (LEG_STAT n) LEG_STAT_TXEN 1).legRefresh n).glNext n; e = m.whenSome (m.legOwner n) (fun f x => x.tryEnable f) := by
  intro e m
  simp only [e]; unfold Dev.sequenceDone; rw [h0]; dsimp only; rw [h1, h2, if_pos (by rfl), if_neg (by rw [h3]; decide)]

/-- GL_CONTENTION. -/
theorem does_glContention (d : Dev) (n : Fin 48) (h0 : d.holdsToken = true) (h1 : d.isSet (LEG_STAT n) LEG_STAT_TXEN = true) : let e := d.contention n; let m := ((d.releaseToken 4).setF (LEG_FLT n) LEG_FLT_CONTENTION 1).evt EV_LEG_GL_CONTENTION [n.val]; e = (m.when (!m.paired) (fun x => { x with red := { x.red with refuseAll := true } })).gafferAll EV_LEG_GL_CONTENTION := by
  intro e m
  simp only [e]; unfold Dev.contention; rw [h0, h1]; rfl

/-- GL_REQUEST. -/
theorem does_glRequest (d : Dev) (triad : Fin 4) (n : Fin 48) (v : W) (h0 : triad = 0) (h1 : d.isSet (LEG_GLREQ n) LEG_GLREQ_GO = false) (h2 : v.bit 31 = true) (h3 : ((d.wr (LEG_GLREQ n) (v &&& 0xBCFFFFFF)).wr (LEG_GLRSP n) 0).holdsToken = true) (h4 : ((d.wr (LEG_GLREQ n) (v &&& 0xBCFFFFFF)).wr (LEG_GLRSP n) 0).isSet (LEG_STAT n) LEG_STAT_RETIRED = false) (h5 : v.fld LEG_GLREQ_OP ≠ 1) : let e := d.glRequest triad n v; e = ((d.wr (LEG_GLREQ n) (v &&& 0xBCFFFFFF)).wr (LEG_GLRSP n) 0).glNext n := by
  intro e
  subst h0
  simp only [e]; unfold Dev.glRequest
  rw [if_neg (by decide), if_neg (by rw [h1]; decide)]
  dsimp only
  rw [h2, if_neg (by decide), if_neg (by rw [h3, h4]; decide), if_neg (by simp [h5])]

end Sys2Proof.Machine
end

