-- ==== Sys2Proof/Laws/Network.lean ====
section
/-! SUPPORT. What the commands of the message bus, the queues and the routed domain do (chapters 14 and 15). -/

namespace Sys2Proof.Machine

theorem aggregateIn_eq (d : Dev) (x : Desc) (h : d.isRoot = true) : d.aggregateIn x = { d with sig := { d.sig with aggAgree := d.sig.aggAgree + x.num 8 2, aggDissent := d.sig.aggDissent + x.num 10 2, aggList := d.sig.aggList ++ (List.range (min 26 (x.num 3 1))).map (fun i => x.num (12 + 2 * i) 2) } } := by
  unfold Dev.aggregateIn
  rw [h, Bool.true_or, if_pos rfl]
theorem announced_eq (d : Dev) (x : Desc) : Dev.announced x d =
    ({ d.wr SIG_DEPOCH (BitVec.ofNat 32 (x.num 4 4)) with sig := { (d.wr SIG_DEPOCH (BitVec.ofNat 32 (x.num 4 4))).sig with lastAnnounce := some (d.wr SIG_DEPOCH (BitVec.ofNat 32 (x.num 4 4))).now } } : Dev).setAgree
      (decide (BitVec.ofNat 32 (x.num 4 4) = (d.wr SIG_DEPOCH (BitVec.ofNat 32 (x.num 4 4))).rd SYS_CFGEPOCH)) := rfl

/-- BUS_FRAME_RECEIVED. -/
theorem does_busFrameReceived (d : Dev) (n : Fin 6) (fr : Frame) (sof : Time) (h0 : d.receiving n = true) (h1 : (fr.fdf && !d.isSet (BUS_CFG n) BUS_CFG_FDEN) = false) (h2 : d.busState n ≠ bsDetecting) (h3 : d.secFrame n fr = false) (h4 : ((((d.rxGood n).inc32 (BUS_RXCNT n)).offer n fr (fstampOf sof) false).secFrame n fr) = false) : let e := d.frameIn n fr sof; e = (((d.rxGood n).inc32 (BUS_RXCNT n)).offer n fr (fstampOf sof) false).forward n (frameDesc fr) := by
  intro e
  simp only [e]; unfold Dev.frameIn
  rw [h0, h1, if_neg (show ¬ (!true) = true by decide), if_neg (show ¬ false = true by decide), if_neg h2]
  dsimp only
  rw [h4, if_neg (by decide)]

/-- BUS_FRAME_RECEIVED. -/
theorem does_busFrameReceived_fd (d : Dev) (n : Fin 6) (fr : Frame) (sof : Time) (h0 : d.receiving n = true) (h1 : fr.fdf = true) (h2 : d.isSet (BUS_CFG n) BUS_CFG_FDEN = false) (h3 : d.isSet (BUS_CFG n) BUS_CFG_PXDIS = false) : let e := d.frameIn n fr sof; let m := ((d.modPort n (fun p => { p with integrating := true })).setBus n bsIntegrating).setF (BUS_FLT n) BUS_FLT_PEX 1; e = m.evtRated EV_BUS_PROTOCOL_EXCEPTION n [n.val] := by
  intro e m
  simp only [e]; unfold Dev.frameIn
  rw [h0, h1, h2, h3, if_neg (show ¬ (!true) = true by decide), if_pos (by decide), if_neg (by decide)]

/-- BUS_TX_START. -/
theorem does_busTxStart (d : Dev) (n : Fin 6) (sof : Time) (q : Nat) (h0 : d.silent n = false) (h1 : (d.port n).tx = none) (h2 : d.busState n = bsActive ∨ d.busState n = bsPassive) (h3 : d.chosen n = some q) (h4 : q < secQueue) (h5 : d.headPoisoned q = false) : let e := d.txStart n sof; let m := (d.modPort n (fun p => { p with tx := some (q, fstampOf sof) })).setF (BUS_STAT n) BUS_STAT_TXBUSY 1; e = ((((m.setF (BUS_STAT n) BUS_STAT_SELV 1).setF (BUS_STAT n) BUS_STAT_SELQ q).setF (QUE_STAT q) QUE_STAT_INFLIGHT 1).setF (QUE_STAT q) QUE_STAT_HEADSEL 1) := by
  intro e m
  simp only [e]; unfold Dev.txStart
  have hb : (!(decide (d.busState n = bsActive) || decide (d.busState n = bsPassive))) = false := by
    rcases h2 with h | h <;> rw [h] <;> decide
  rw [h0, h1, hb, if_neg (by decide), h3]
  dsimp only
  rw [h5, Bool.and_false, if_neg (by decide), if_neg (by omega)]

/-- BUS_TX_START. -/
theorem does_busTxStart_sec (d : Dev) (n : Fin 6) (sof : Time) (h0 : d.silent n = false) (h1 : (d.port n).tx = none) (h2 : d.busState n = bsActive ∨ d.busState n = bsPassive) (h3 : d.chosen n = some secQueue) : let e := d.txStart n sof; e = (d.modPort n (fun p => { p with tx := some (secQueue, fstampOf sof) })).setF (BUS_STAT n) BUS_STAT_TXBUSY 1 := by
  intro e
  simp only [e]; unfold Dev.txStart
  have hb : (!(decide (d.busState n = bsActive) || decide (d.busState n = bsPassive))) = false := by
    rcases h2 with h | h <;> rw [h] <;> decide
  rw [h0, h1, hb, if_neg (by decide), h3]
  dsimp only
  rw [if_neg (by simp), if_pos rfl]

/-- ARBITRATION_LOST. -/
theorem does_arbitrationLost (d : Dev) (n : Fin 6) (q : Nat) (stamp : W) (h0 : (d.port n).tx = some (q, stamp)) : let e := d.arbLost n; e = d.txOver n q := by
  intro e
  simp only [e]; unfold Dev.arbLost
  rw [h0]
  rfl

/-- BUS_TX_COMPLETE. -/
theorem does_busTxComplete (d : Dev) (n : Fin 6) (tdc : Nat) (q : Nat) (stamp : W) (h0 : (d.port n).tx = some (q, stamp)) (h1 : q ≠ secQueue) : let e := d.txComplete n tdc; e = d.queSent n q stamp tdc := by
  intro e
  simp only [e]; unfold Dev.txComplete
  rw [h0]
  dsimp only
  rw [if_neg h1]

/-- BUS_TX_COMPLETE. -/
theorem does_busTxComplete_sec (d : Dev) (n : Fin 6) (tdc : Nat) (stamp : W) (h0 : (d.port n).tx = some (secQueue, stamp)) : let e := d.txComplete n tdc; e = d.secSent n tdc := by
  intro e
  simp only [e]; unfold Dev.txComplete
  rw [h0]
  dsimp only
  rw [if_pos rfl]

/-- BUS_TX_ERROR. -/
theorem does_busTxError (d : Dev) (n : Fin 6) (code : Fin 8) (dataPhase exempt : Bool) (q : Nat) (stamp : W) (h0 : (d.port n).tx = some (q, stamp)) (h1 : q ≠ secQueue) (h2 : ((d.txCount n q code dataPhase exempt).que q).cancelLate = false) (h3 : (((d.noteError n code dataPhase).txOver n q).fld (BUS_ECNT n) BUS_ECNT_TEC + if exempt then 0 else 8) ≤ 255) : let e := d.txError n code dataPhase exempt; e = (d.txCount n q code dataPhase exempt).retry n q := by
  intro e
  simp only [e]; unfold Dev.txError
  rw [h0]
  dsimp only
  rw [if_neg h1, h2, if_neg (by decide), if_neg (by simpa using Nat.not_lt.2 h3)]

/-- BUS_TX_ERROR. -/
theorem does_busTxError_off (d : Dev) (n : Fin 6) (code : Fin 8) (dataPhase exempt : Bool) (q : Nat) (stamp : W) (h0 : (d.port n).tx = some (q, stamp)) (h1 : q ≠ secQueue) (h2 : ((d.txCount n q code dataPhase exempt).que q).cancelLate = false) (h3 : 255 < (((d.noteError n code dataPhase).txOver n q).fld (BUS_ECNT n) BUS_ECNT_TEC + if exempt then 0 else 8)) : let e := d.txError n code dataPhase exempt; e = (d.txCount n q code dataPhase exempt).busOff n q := by
  intro e
  simp only [e]; unfold Dev.txError
  rw [h0]
  dsimp only
  rw [if_neg h1, h2, if_neg (by decide), if_pos (by simpa using h3)]

/-- BUS_RX_ERROR. -/
theorem does_busRxError (d : Dev) (n : Fin 6) (code : Fin 8) (dataPhase eight : Bool) (h0 : d.receiving n = true) (h1 : d.busState n ≠ bsDetecting) : let e := d.rxError n code dataPhase eight; let m := d.noteError n code dataPhase; e = (m.setF (BUS_ECNT n) BUS_ECNT_REC (min 255 (m.fld (BUS_ECNT n) BUS_ECNT_REC + if eight then 8 else 1))).errState n := by
  intro e m
  simp only [e]; unfold Dev.rxError
  rw [h0, if_neg (by decide), if_neg h1]

/-- BUS_RECOVERED. -/
theorem does_busRecovered (d : Dev) (n : Fin 6) (h0 : d.busState n = bsRecovering) : let e := d.busRecovered n; let m := ((d.wr (BUS_ECNT n) 0).modPort n (fun p => { p with recovering := false })).setBus n bsActive; e = m.evt EV_BUS_RECOVERED [n.val] := by
  intro e m
  simp only [e]; unfold Dev.busRecovered
  rw [if_pos h0]

/-- BUS_RECOVER. -/
theorem does_busRecover (d : Dev) (n : Fin 6) (v : W) (h0 : v.bit 0 = true) (h1 : d.busState n = bsBusoff) : let e := d.busCtrl n v; e = d.startRecovery n := by
  intro e
  simp only [e]; unfold Dev.busCtrl
  rw [h0, if_pos (by simpa using h1)]

/-- ABD_DWELL. -/
theorem does_abdDwell (d : Dev) (n : Fin 6) (q : Nat) (h0 : d.busState n = bsDetecting) (h1 : (d.port n).abdRun = true) (h2 : d.nextRate n (d.port n).abdCand = (q, false)) : let e := d.abdDwell n; e = d.modPort n (fun p => { p with abdCand := q, abdCycles := (d.port n).abdCycles + b2n false }) := by
  intro e
  simp only [e]; unfold Dev.abdDwell
  rw [h0, h1, if_pos (by simp)]
  dsimp only
  rw [h2]
  dsimp only
  rw [Bool.false_and, if_neg (by decide)]

/-- BUS_INTEGRATION_DONE. -/
theorem does_busIntegrationDone (d : Dev) (n : Fin 6) (h0 : d.isSet (BUS_CFG n) BUS_CFG_EN = true ∨ d.recovery n = true) (h1 : d.busState n = bsIntegrating) : let e := d.integrated n; e = (d.modPort n (fun p => { p with integrating := false })).setBus n (if 128 ≤ d.fld (BUS_ECNT n) BUS_ECNT_TEC || 128 ≤ d.fld (BUS_ECNT n) BUS_ECNT_REC then bsPassive else bsActive) := by
  intro e
  simp only [e]; unfold Dev.integrated
  rw [if_pos (by rw [Bool.and_eq_true, Bool.or_eq_true]; exact ⟨h0, decide_eq_true h1⟩)]

/-- QUE_EXPIRED. -/
theorem does_queExpired (d : Dev) (q : Fin 32) (h0 : d.qEn q = true) (h1 : d.qRx q = false) (h2 : d.qAssured q = false) (h3 : (d.rd (QUE_LIFE q)).toNat ≠ 0) (h4 : 0 < d.qFill q) (h5 : (d.headDesc q).status = dsPending) (h6 : d.isSet (QUE_STAT q) QUE_STAT_INFLIGHT = false) (h7 : (d.headDesc q).posted.toNat + (d.rd (QUE_LIFE q)).toNat * usTicks < d.now.toNat) : let e := d.queExpired q; let m := (((d.unwait q).qComplete q dsExpired false).incSat (QUE_LOSS q) QUE_LOSS_EXPIRED).setF (QUE_FLT q) QUE_FLT_EXPIRED 1; e = m.evtRated EV_QUE_EXPIRED q [q.val] := by
  intro e m
  simp only [e]; unfold Dev.queExpired
  dsimp only
  rw [h0, h1, h2, h5, h6, if_pos (by simpa using ⟨⟨h3, h4⟩, h7⟩)]

/-- QUE_CANCEL. -/
theorem does_queCancel (d : Dev) (q : Fin 32) (v : W) (h0 : v.bit 31 = true) (h1 : d.qAssured q = false) (h2 : d.qRx q = false) (h3 : d.qEn q = true) (h4 : v.fld QUE_CANCEL_INDEX < max 1 (d.qSize q)) (h5 : (v.fld QUE_CANCEL_INDEX + max 1 (d.qSize q) - d.qHead q) % max 1 (d.qSize q) < d.qFill q) (h6 : (d.desc q (v.fld QUE_CANCEL_INDEX)).status = dsPending) (h7 : (v.fld QUE_CANCEL_INDEX + max 1 (d.qSize q) - d.qHead q) % max 1 (d.qSize q) = 0) (h8 : d.isSet (QUE_STAT q) QUE_STAT_INFLIGHT = false) : let e := d.queCancel q v; e = (((d.incSat (QUE_LOSS q) QUE_LOSS_CANCELLED).unwait q).qComplete q dsCancelled false).cancelResult q 0 := by
  intro e
  simp only [e]; unfold Dev.queCancel
  dsimp only
  rw [h0, if_neg (by decide), h1, if_neg (by decide), h2, h3, h6, if_neg (by simp only [Bool.false_or, Bool.not_true, Bool.or_eq_true, decide_eq_true_eq, ne_eq, not_true_eq_false, decide_false, Bool.false_eq_true, or_false]; omega)]
  rw [h7, h8, if_neg (by decide), if_pos rfl]

/-- QUE_CANCEL. -/
theorem does_queCancel_later (d : Dev) (q : Fin 32) (v : W) (h0 : v.bit 31 = true) (h1 : d.qAssured q = false) (h2 : d.qRx q = false) (h3 : d.qEn q = true) (h4 : v.fld QUE_CANCEL_INDEX < max 1 (d.qSize q)) (h5 : (v.fld QUE_CANCEL_INDEX + max 1 (d.qSize q) - d.qHead q) % max 1 (d.qSize q) < d.qFill q) (h6 : (d.desc q (v.fld QUE_CANCEL_INDEX)).status = dsPending) (h7 : (v.fld QUE_CANCEL_INDEX + max 1 (d.qSize q) - d.qHead q) % max 1 (d.qSize q) ≠ 0) : let e := d.queCancel q v; e = ((d.incSat (QUE_LOSS q) QUE_LOSS_CANCELLED).putDesc q (v.fld QUE_CANCEL_INDEX) { d.desc q (v.fld QUE_CANCEL_INDEX) with status := dsCancelled }).cancelResult q 0 := by
  intro e
  simp only [e]; unfold Dev.queCancel
  dsimp only
  rw [h0, if_neg (by decide), h1, if_neg (by decide), h2, h3, h6, if_neg (by simp only [Bool.false_or, Bool.not_true, Bool.or_eq_true, decide_eq_true_eq, ne_eq, not_true_eq_false, decide_false, Bool.false_eq_true, or_false]; omega)]
  rw [if_neg (by simp [h7]), if_neg h7]

/-- QUE_CANCEL. -/
theorem does_queCancel_assured (d : Dev) (q : Fin 32) (v : W) (h0 : v.bit 31 = true) (h1 : d.qAssured q = true) : let e := d.queCancel q v; let m := (d.setF (QUE_FLT q) QUE_FLT_CANREF 1).evt EV_QUE_CANCEL_REFUSED [q.val]; e = m.cancelResult q 2 := by
  intro e m
  simp only [e]; unfold Dev.queCancel
  dsimp only
  rw [h0, if_neg (by decide), h1, if_pos rfl]

/-- QUE_INDEX_WRITE. -/
theorem does_queIndexWrite (d : Dev) (triad : Fin 4) (q : Fin 32) (rdIx : Bool) (v : W) (h0 : d.qEn q = true) (h1 : d.coreOwns q rdIx = true) (h2 : v.fld QUE_WR_INDEX < d.qSize q) (h3 : rdIx = true) (h4 : (v.fld QUE_WR_INDEX + d.qSize q - d.qHead q) % d.qSize q ≤ d.qFill q) : let e := d.indexWrite triad q rdIx v; e = (d.wr (QUE_RD q) (BitVec.ofNat 32 (v.fld QUE_WR_INDEX))).setFill q (d.qFill q - (v.fld QUE_WR_INDEX + d.qSize q - d.qHead q) % d.qSize q) := by
  intro e
  simp only [e]; unfold Dev.indexWrite
  dsimp only
  rw [h0, h1, if_neg (by simp only [Bool.not_true, Bool.or_eq_true, decide_eq_true_eq, Bool.false_eq_true, false_or, or_self]; omega), h3]
  rw [if_pos rfl, if_neg (Nat.not_lt.2 h4)]

/-- QUE_INDEX_WRITE. -/
theorem does_queIndexWrite_wr (d : Dev) (triad : Fin 4) (q : Fin 32) (rdIx : Bool) (v : W) (h0 : d.qEn q = true) (h1 : d.coreOwns q rdIx = true) (h2 : v.fld QUE_WR_INDEX < d.qSize q) (h3 : rdIx = false) (h4 : d.qFill q + (v.fld QUE_WR_INDEX + d.qSize q - d.fld (QUE_WR q) QUE_WR_INDEX) % d.qSize q ≤ d.qSize q) : let e := d.indexWrite triad q rdIx v; e = d.coverPosts q ((v.fld QUE_WR_INDEX + d.qSize q - d.fld (QUE_WR q) QUE_WR_INDEX) % d.qSize q) := by
  intro e
  simp only [e]; unfold Dev.indexWrite
  dsimp only
  rw [h0, h1, if_neg (by simp only [Bool.not_true, Bool.or_eq_true, decide_eq_true_eq, Bool.false_eq_true, false_or, or_self]; omega), h3]
  rw [if_neg (by decide), if_neg (Nat.not_lt.2 h4)]

/-- QUE_INDEX_WRITE. -/
theorem does_queIndexWrite_bad (d : Dev) (triad : Fin 4) (q : Fin 32) (rdIx : Bool) (v : W) (h0 : d.qEn q = false ∨ d.coreOwns q rdIx = false) : let e := d.indexWrite triad q rdIx v; e = d.badIndex triad q rdIx := by
  intro e
  simp only [e]; unfold Dev.indexWrite
  dsimp only
  rw [if_pos (by rcases h0 with h | h <;> rw [h] <;> simp)]

/-- SIG_MAPTX. -/
theorem does_sigMaptx (d : Dev) (v : W) (sm : SigMap) (h0 : v.bit 31 = true) (h1 : d.img.sigmaps[v.fld SIG_MAPTX_MAP]? = some sm) (h2 : sm.dir = 1) : let e := d.mapTx v; let m := (d.wr SIG_MAPRES 0).incSat (SIG_MAPSTAT (v.fld SIG_MAPTX_MAP)) SIG_MAPSTAT_APPLY; e = mapPosted (m.post 4 sm.queue (m.mapFrame sm)) := by
  intro e m
  simp only [e]; unfold Dev.mapTx
  rw [h0, if_neg (by decide)]
  dsimp only
  rw [show (d.wr SIG_MAPRES 0).img = d.img from rfl, h1]
  dsimp only
  rw [if_pos h2]

/-- PUBLISH_ROUND. -/
theorem does_publishRound (d : Dev) (h0 : d.isSet SIG_CFG SIG_CFG_DOMEN = true) : let e := d.publishRound; e = ({ d with sig := { d.sig with written := [] } } : Dev).publish d.publishing := by
  intro e
  simp only [e]; unfold Dev.publishRound
  rw [h0, if_neg (by decide)]

/-- PUBLISH_RECEIVED. -/
theorem does_publishReceived (d : Dev) (q : Fin 32) (x : Desc) (h0 : d.domHead q 0 = some x) : let e := d.onDomain q 0 Dev.published; e = Dev.published x (d.sigTake q x) := by
  intro e
  simp only [e]; skip
  unfold Dev.onDomain
  rw [h0]
  skip

/-- COMMAND_RECEIVED. -/
theorem does_commandReceived (d : Dev) (q : Fin 32) (x : Desc) (h0 : d.domHead q 1 = some x) (h1 : (d.sigTake q x).cmdQueue x = true) (h2 : (d.sigTake q x).cmdDissent = false) (h3 : (d.sigTake q x).commandPending x.src (x.num 5 1) (x.num 8 8) = false) (h4 : (d.sigTake q x).cmdOld x = false) (h5 : (d.sigTake q x).jrnFull = false) (h6 : (d.sigTake q x).qRoom (x.num 4 1) = true) : let e := d.onDomain q 1 Dev.commandIn; e = (d.sigTake q x).cmdAccept x := by
  intro e
  simp only [e]; skip
  unfold Dev.onDomain
  rw [h0]
  unfold Dev.commandIn
  dsimp only
  rw [h1, h2, h3, h4, h5, h6]
  rfl

/-- COMMAND_RECEIVED. -/
theorem does_commandReceived_old (d : Dev) (q : Fin 32) (x : Desc) (h0 : d.domHead q 1 = some x) (h1 : (d.sigTake q x).cmdQueue x = true) (h2 : (d.sigTake q x).cmdDissent = false) (h3 : (d.sigTake q x).commandPending x.src (x.num 5 1) (x.num 8 8) = false) (h4 : (d.sigTake q x).cmdOld x = true) : let e := d.onDomain q 1 Dev.commandIn; let m := (d.sigTake q x); e = (m.whenSome (m.stream x.src (x.num 5 1)) (fun s y => y.setStream x.src (x.num 5 1) s.seq)).reply x.src (x.num 4 1) (x.num 5 1) 1 false (x.num 8 8) := by
  intro e m
  simp only [e]; skip
  unfold Dev.onDomain
  rw [h0]
  unfold Dev.commandIn
  dsimp only
  rw [h1, h2, h3, h4]
  rfl

/-- REPLY_RECEIVED. -/
theorem does_replyReceived (d : Dev) (q : Fin 32) (x : Desc) (h0 : d.domHead q 2 = some x) (h1 : (x.num 5 1) < 32) (h2 : ((d.sigTake q x).que (x.num 5 1)).awaiting.isSome = true) (h3 : ((d.sigTake q x).headDesc (x.num 5 1)).seq = x.num 8 8) (h4 : x.num 6 1 = 0 ∨ x.num 6 1 = 1) : let e := d.onDomain q 2 Dev.replyIn; e = (d.sigTake q x).qComplete (x.num 5 1) dsSent ((d.sigTake q x).que (x.num 5 1)).cancelLate := by
  intro e
  simp only [e]; skip
  unfold Dev.onDomain
  rw [h0]
  show (d.sigTake q x).replyIn x = _
  unfold Dev.replyIn
  dsimp only
  rw [h2, h3, if_pos (by simpa using h1)]
  rcases h4 with h | h <;> rw [h] <;> rfl

/-- HEARTBEAT_RECEIVED. -/
theorem does_heartbeatReceived (d : Dev) (q : Fin 32) (x : Desc) (h0 : d.domHead q 3 = some x) (h1 : (d.sigTake q x).isRoot = true) : let e := d.onDomain q 3 (fun x d => if d.isRoot || d.isGw then d.hear x.src (BitVec.ofNat 32 (x.num 12 4)) else d); e = (d.sigTake q x).hear x.src (BitVec.ofNat 32 (x.num 12 4)) := by
  intro e
  simp only [e]; skip
  unfold Dev.onDomain
  rw [h0]
  show (if (d.sigTake q x).isRoot || (d.sigTake q x).isGw then (d.sigTake q x).hear x.src (BitVec.ofNat 32 (x.num 12 4)) else d.sigTake q x) = _
  rw [h1]
  rfl

/-- AGGREGATE_RECEIVED. -/
theorem does_aggregateReceived (d : Dev) (q : Fin 32) (x : Desc) (h0 : d.domHead q 4 = some x) (h1 : (d.sigTake q x).isRoot = true) : let e := d.onDomain q 4 Dev.aggregateIn; let m := (d.sigTake q x); e = ({ m with sig := { m.sig with aggAgree := m.sig.aggAgree + x.num 8 2, aggDissent := m.sig.aggDissent + x.num 10 2, aggList := m.sig.aggList ++ (List.range (min 26 (x.num 3 1))).map (fun i => x.num (12 + 2 * i) 2) } } : Dev) := by
  intro e m
  simp only [e]; skip
  unfold Dev.onDomain
  rw [h0]
  exact aggregateIn_eq _ _ h1

/-- ANNOUNCE_RECEIVED. -/
theorem does_announceReceived (d : Dev) (q : Fin 32) (x : Desc) (h0 : d.domHead q 5 = some x) : let e := d.onDomain q 5 Dev.announced; let m := (d.sigTake q x).wr SIG_DEPOCH (BitVec.ofNat 32 (x.num 4 4)); e = ({ m with sig := { m.sig with lastAnnounce := some m.now } } : Dev).setAgree (decide (BitVec.ofNat 32 (x.num 4 4) = m.rd SYS_CFGEPOCH)) := by
  intro e m
  simp only [e]; skip
  unfold Dev.onDomain
  rw [h0]
  exact announced_eq _ _

/-- REPLYTO_EXPIRED. -/
theorem does_replytoExpired (d : Dev) (q : Fin 32) (r : Time) (h0 : (d.que q).awaiting = some r) (h1 : d.fld SIG_CFG SIG_CFG_REPLYTO * msTicks ≤ d.since r) : let e := d.replyTo q; e = d.contendAgain q := by
  intro e
  simp only [e]; unfold Dev.replyTo
  rw [h0]
  dsimp only
  rw [if_pos h1]

/-- DOMAIN_HEARTBEAT. -/
theorem does_domainHeartbeat (d : Dev) (h0 : d.domEn = true) (h1 : d.masterRole = true) (h2 : d.secondStep (d.fld SIG_CFG SIG_CFG_DEVID % 1000 * msTicks) = true) (h3 : d.isRoot = false) : let e := d.sendHeartbeat; e = d.heartbeat := by
  intro e
  simp only [e]; unfold Dev.sendHeartbeat
  dsimp only
  rw [h0, h1, h2, h3]
  rfl

/-- DOMAIN_HEARTBEAT. -/
theorem does_domainHeartbeat_root (d : Dev) (h0 : d.domEn = true) (h1 : d.masterRole = true) (h2 : d.secondStep (d.fld SIG_CFG SIG_CFG_DEVID % 1000 * msTicks) = true) (h3 : d.isRoot = true) : let e := d.sendHeartbeat; e = d.hear (d.fld SIG_CFG SIG_CFG_DEVID) (d.rd SYS_CFGEPOCH) := by
  intro e
  simp only [e]; unfold Dev.sendHeartbeat
  dsimp only
  rw [h0, h1, h2, h3]
  rfl

/-- AGGREGATE_SEND. -/
theorem does_aggregateSend (d : Dev) (h0 : d.domEn = true) (h1 : d.isGw = true) (h2 : d.secondStep 0 = true) : let e := d.sendAggregate; e = (d.hear (d.fld SIG_CFG SIG_CFG_DEVID) (d.rd SYS_CFGEPOCH)).aggregate := by
  intro e
  simp only [e]; unfold Dev.sendAggregate
  rw [h0, h1, h2]
  rfl

/-- ANNOUNCE_SEND. -/
theorem does_announceSend (d : Dev) (h0 : d.domEn = true) (h1 : d.isRoot = true) (h2 : d.secondStep 0 = true) : let e := d.sendAnnounce; e = d.announce := by
  intro e
  simp only [e]; unfold Dev.sendAnnounce
  rw [h0, h1, h2]
  rfl

/-- ROOT_SILENT. -/
theorem does_rootSilent (d : Dev) (r : Time) (h0 : d.sig.lastAnnounce = some r) (h1 : d.domEn = true) (h2 : 5 * secTicks ≤ d.since r) : let e := d.rootSilent; let m := (({ d with sig := { d.sig with lastAnnounce := none } } : Dev).setF SIG_STAT SIG_STAT_AGREE 0).setF SIG_FLT SIG_FLT_ROOTSILENT 1; e = m.evt EV_SIG_ROOT_SILENT [] ∧ logged m e EV_SIG_ROOT_SILENT := by
  intro e m
  simp only [e]; unfold Dev.rootSilent
  rw [h0]
  dsimp only
  rw [h1, if_pos (by simpa using h2)]
  exact ⟨rfl, logged_evt _ _ _⟩

end Sys2Proof.Machine
end

