-- ==== Sys2Proof/Laws/StartUp.lean ====
section
/-! SUPPORT. What the steps of the start-up, register accesses, slot firings and journal commits do (chapters 00, 02, 03 and 15). -/

namespace Sys2Proof.Machine

theorem Dev.atStep_now (d : Dev) (x : BootStep) (op : Dev → Dev) (h : d.boot.step = x) (hw : (op d).boot.warned = false) :
    d.atStep x op = op d := by
  unfold Dev.atStep
  rw [if_neg (by rw [h]; exact fun h => h rfl)]
  dsimp only
  rw [hw]
  rfl

theorem isEvtReg_not_cl (a : Nat) (r : RegDesc) (h : regDesc a = some r) (hc : r.acc = .cl) : isEvtReg a = false := by
  have hk : ∀ b ∈ [SYS_EVT_HEAD, SYS_EVT_CNT, COR_EVPEND0 0, COR_EVPEND0 1, COR_EVPEND0 2, COR_EVPEND0 3, COR_EVPEND1 0, COR_EVPEND1 1,
      COR_EVPEND1 2, COR_EVPEND1 3], ∀ r, regDesc b = some r → r.acc ≠ .cl := by
    intro b hb
    have hx : (match regDesc b with | some r => decide (r.acc ≠ .cl) | none => true) = true := by
      simp only [List.mem_cons, List.not_mem_nil, or_false] at hb
      rcases hb with rfl | rfl | rfl | rfl | rfl | rfl | rfl | rfl | rfl | rfl <;> decide +kernel
    intro r hr
    rw [hr] at hx
    simpa using hx
  cases hh : isEvtReg a with
  | false => rfl
  | true =>
    refine absurd hc (hk a ?_ r h)
    simp only [isEvtReg, Bool.or_eq_true, decide_eq_true_eq, List.any_eq_true, List.mem_range] at hh
    rcases hh with (rfl | rfl) | ⟨t, ht, h1⟩
    · simp
    · simp
    · have : t = 0 ∨ t = 1 ∨ t = 2 ∨ t = 3 := by omega
      rcases this with rfl | rfl | rfl | rfl <;> rcases h1 with rfl | rfl <;> simp

theorem Dev.registerWrite_plain (d : Dev) (t a : Nat) (v : W) (r : RegDesc) (hc : r.acc ≠ .cl) (h0 : regDesc a = some r)
    (h1 : a / 0x10000 ≠ 0x4030) (h2 : d.storeDrive t a v = none) (h3 : d.storeSystem t a v = none) :
    d.registerWrite t a v = d.storePlain t a r v := by
  unfold Dev.registerWrite Dev.storeReg
  rw [h0, h2, h3]
  dsimp only
  rw [decide_eq_false hc, if_neg h1]
  rfl

theorem Dev.registerWrite_locked (d : Dev) (t a : Nat) (v : W) (r : RegDesc) (h0 : regDesc a = some r) (hc : r.acc = .cl)
    (hl : d.locked = true) : d.registerWrite t a v = d.lockedWrite t a := by
  unfold Dev.registerWrite Dev.storeReg
  rw [h0]
  dsimp only
  rw [hc, hl]
  rfl

theorem Dev.enterKeys_up (d : Dev) : d.enterKeys.sysState = d.sysState ∧ d.enterKeys.boot.step = d.boot.step := by
  unfold Dev.enterKeys
  dsimp only
  split
  · exact ⟨rfl, rfl⟩
  · unfold Dev.putKeys
    simp (disch := first | decide | (simp (disch := decide); done) | assumption)

theorem Dev.toStep_warned (x : BootStep) (d : Dev) : (d.toStep x).boot.warned = d.boot.warned := rfl

theorem Dev.toStep_sysState (x : BootStep) (d : Dev) : (d.toStep x).sysState = d.sysState := by
  unfold Dev.toStep
  rw [Dev.sysState_mk]

theorem Dev.toStep_isSet (x : BootStep) (d : Dev) (a : Nat) (f : Fld) : (d.toStep x).isSet a f = d.isSet a f := by
  unfold Dev.toStep
  rw [Dev.isSet_mk]

theorem Dev.startPort_up (n : Nat) (h : n < 6) (d e : Dev) (hd : d.sysState = e.sysState ∧ d.boot = e.boot) :
    let f := d.when (d.isSet (BUS_CFG n) BUS_CFG_EN) (fun d => (d.modPort n (fun p => { p with integrating := true })).setBus n bsIntegrating)
    f.sysState = e.sysState ∧ f.boot = e.boot := by
  intro f
  have hb : SYS_STATE ≠ BUS_STAT n := by simp only [SYS_STATE, BUS_STAT]; omega
  have hf : f.sysState = d.sysState ∧ f.boot = d.boot := by
    simp only [f]
    unfold Dev.when
    split
    · unfold Dev.setBus
      exact ⟨by rw [Dev.sysState_setF _ _ _ _ hb]; rfl, rfl⟩
    · exact ⟨rfl, rfl⟩
  exact ⟨hf.1.trans hd.1, hf.2.trans hd.2⟩

theorem Dev.stateReady_up (d : Dev) : d.stateReady.sysState = stReady ∧ d.stateReady.boot.step = .done := by
  unfold Dev.stateReady
  dsimp only
  rw [Dev.sysState_evt, Dev.evt_boot]
  generalize hr : (((d.setF SYS_BOOT SYS_BOOT_T_READY (min 0xFFFF (d.since d.boot.relTime / (10 * usTicks)))).setSys stReady).toStep .done) = r
  have h0 : r.sysState = stReady ∧ r.boot.step = .done := by
    subst hr
    exact ⟨by rw [Dev.toStep_sysState, Dev.sysState_setSys]; rfl, rfl⟩
  have h1 := Dev.forEach_ind (fun e => e.sysState = r.sysState ∧ e.boot = r.boot) _ (List.range 6)
    (fun n hn d hd => Dev.startPort_up n (List.mem_range.1 hn) d r hd) r ⟨rfl, rfl⟩
  exact ⟨h1.1.trans h0.1, by rw [h1.2]; exact h0.2⟩

theorem ok_of_toOption {α β : Type} {x : Except α β} {y : β} (h : x.toOption = some y) : x = .ok y := by
  cases x with
  | error e => cases h
  | ok z => cases h; rfl

theorem Dev.onLink_next (d : Dev) (seq : Nat) (op : Dev → Dev) (h0 : d.paired = true) (h1 : d.linkUp = true) (h2 : seq = d.lnk.rxSeq) :
    d.onLink seq op = op (d.modLnk (fun l => { l with rxSeq := (seq + 1) % 2 ^ 32 })) := by
  unfold Dev.onLink
  rw [if_pos (by rw [h0, h1]; simpa using h2)]

/-- REGISTER_WRITE. -/
theorem does_registerWrite (d : Dev) (triad : Fin 4) (a : Nat) (v : W) (r : RegDesc) (h0 : regDesc a = some r) (h1 : r.acc = .rw) (h2 : r.t0 = false ∨ triad = 0) (h3 : a / 0x10000 ≠ 0x4030) (h4 : d.storeDrive triad a v = none) (h5 : d.storeSystem triad a v = none) : let e := d.registerWrite triad a v; e.rd a = (d.rd a &&& ~~~BitVec.ofNat 32 r.mask) ||| (v &&& BitVec.ofNat 32 r.mask) ∧ onlyRegs [a] d e ∧ sameMem d e := by
  intro e
  have hs : e = d.wr a ((d.rd a &&& ~~~BitVec.ofNat 32 r.mask) ||| (v &&& BitVec.ofNat 32 r.mask)) := by
    simp only [e]
    rw [Dev.registerWrite_plain _ _ _ _ r (by rw [h1]; decide) h0 h3 h4 h5]
    have hb : (r.t0 && decide ((triad : Nat) ≠ 0)) = false := by
      rcases h2 with h | h
      · rw [h]; rfl
      · subst h; simp
    unfold Dev.storePlain
    rw [h1]
    dsimp only
    rw [hb]
    rfl
  rw [hs]
  exact ⟨by simp, fun b hb _ => Dev.rd_wr_ne _ _ _ _ (by simpa using hb), rfl, rfl, rfl, rfl, rfl, rfl⟩

/-- REGISTER_WRITE. -/
theorem does_registerWrite_locked (d : Dev) (triad : Fin 4) (a : Nat) (v : W) (r : RegDesc) (h0 : regDesc a = some r) (h1 : r.acc = .cl) (h2 : d.locked = true) : let e := d.registerWrite triad a v; e = d.lockedWrite triad a ∧ logged d e EV_SYS_LOCKED_WRITE ∧ e.rd a = d.rd a := by
  intro e
  have hs : e = d.lockedWrite triad a := by
    simp only [e]
    exact Dev.registerWrite_locked _ _ _ _ r h0 h1 h2
  have hr : isEvtReg a = false := isEvtReg_not_cl a r h0 h1
  rw [hs]
  refine ⟨rfl, ?_, ?_⟩
  · unfold Dev.lockedWrite; exact logged_evtC _ _ _ _ _
  · exact (Dev.calm_lockedWrite _ _ _).2 _ hr

/-- REGISTER_WRITE. -/
theorem does_registerWrite_clear (d : Dev) (triad : Fin 4) (a : Nat) (v : W) (r : RegDesc) (h0 : regDesc a = some r) (h1 : r.acc = .w1c) (h2 : r.w1c ≠ 0) (h3 : a / 0x10000 ≠ 0x4030) (h4 : d.storeDrive triad a v = none) (h5 : d.storeSystem triad a v = none) : let e := d.registerWrite triad a v; e.rd a = d.rd a &&& ~~~(v &&& BitVec.ofNat 32 r.w1c) ∧ onlyRegs [a] d e ∧ sameMem d e := by
  intro e
  have hs : e = d.wr a (d.rd a &&& ~~~(v &&& BitVec.ofNat 32 r.w1c)) := by
    simp only [e]
    rw [Dev.registerWrite_plain _ _ _ _ r (by rw [h1]; decide) h0 h3 h4 h5]
    unfold Dev.storePlain
    rw [h1]
    dsimp only
    rw [if_neg h2]
  rw [hs]
  exact ⟨by simp, fun b hb _ => Dev.rd_wr_ne _ _ _ _ (by simpa using hb), rfl, rfl, rfl, rfl, rfl, rfl⟩

/-- UNMAPPED_ACCESS. -/
theorem does_unmappedAccess (d : Dev) (triad : Fin 4) (a : Nat) (write : Bool) (h0 : inPeriph a = true) (h1 : regDesc a = none) : let e := d.unmappedAccess triad a write; e = d.evtC clsWarning EV_SYS_UNMAPPED_ACCESS triad (le4 a ++ [triad.val, b2n write]) ∧ logged d e EV_SYS_UNMAPPED_ACCESS := by
  intro e
  have hs : e = d.evtC clsWarning EV_SYS_UNMAPPED_ACCESS triad (le4 a ++ [triad.val, b2n write]) := by
    simp only [e, Dev.unmappedAccess, h0, h1]
    rfl
  exact ⟨hs, by rw [hs]; exact logged_evtC _ _ _ _ _⟩

/-- SLOT_FIRE. -/
theorem does_slotFire (d : Dev) (n : Fin 64) (upset : List (Fin 48)) (pads : List (Fin 48 × Int × Int)) (h0 : d.slotFires n = true) (h1 : (d.deliveredNow.any (fun x => x.1 = 0 && x.2.2 = n.val)) = false) (h2 : n.val ≠ 63) : let e := d.slotFire n (upset.map Fin.val) (pads.map (fun p => (p.1.val, p.2.1, p.2.2))); (let u := (d.noteTrigger 0 n n).inc32 (TKP_SLOT_CNT n); u.rd (TKP_SLOT_CNT n) = d.rd (TKP_SLOT_CNT n) + 1 ∧ e = ((u.slotTargets n).filter (fun p => p.1 ≠ 0)).foldl (fun x p => x.fireTarget n p.1 p.2 (upset.map Fin.val) (pads.map (fun p => (p.1.val, p.2.1, p.2.2)))) u) := by
  intro e u
  refine ⟨by simp [u, Dev.inc32, Dev.noteTrigger], ?_⟩
  simp only [e]
  unfold Dev.slotFire
  rw [h0, h1]
  simp only [Bool.not_true, Bool.or_self, Bool.false_eq_true, if_false]
  rw [if_neg h2]

/-- SLOT_FIRE. -/
theorem does_slotFire_supercycle (d : Dev) (n : Fin 64) (upset : List (Fin 48)) (pads : List (Fin 48 × Int × Int)) (h0 : d.slotFires n = true) (h1 : (d.deliveredNow.any (fun x => x.1 = 0 && x.2.2 = n.val)) = false) (h2 : n.val = 63) : let e := d.slotFire n (upset.map Fin.val) (pads.map (fun p => (p.1.val, p.2.1, p.2.2))); e = ((d.noteTrigger 0 n n).inc32 (TKP_SLOT_CNT n)).supercycle.telSlot := by
  intro e
  simp only [e]
  unfold Dev.slotFire
  rw [h0, h1]
  simp only [Bool.not_true, Bool.or_self, Bool.false_eq_true, if_false]
  rw [if_pos h2]

/-- FLASH_PROBE. -/
theorem does_flashProbe (d : Dev) (mode : Fin 3) (h0 : d.boot.step = .probe) (h1 : d.boot.warned = false) (h2 : mode ≠ 0) : let e := d.atStep .probe (fun d => d.flashProbe mode); e.sysState = stVerify ∧ e.isSet SYS_BOOT SYS_BOOT_QUAD = decide (mode.val = 2) ∧ e.boot.step = .headers := by
  intro e
  have hm : (mode : Nat) ≠ 0 := fun h => h2 (Fin.ext h)
  have hs : d.flashProbe mode = (((d.setF SYS_BOOT SYS_BOOT_QUAD (b2n (decide (mode.val = 2)))).when (decide (mode.val = 2)) (fun d => d.evt EV_SYS_QUAD_MODE [])).setSys stVerify).toStep .headers := by
    unfold Dev.flashProbe
    dsimp only
    rw [if_neg hm]
  have hw : ∀ (b : Bool) (x : Dev), (x.when b (fun d => d.evt EV_SYS_QUAD_MODE [])).boot = x.boot ∧
      (x.when b (fun d => d.evt EV_SYS_QUAD_MODE [])).isSet SYS_BOOT SYS_BOOT_QUAD = x.isSet SYS_BOOT SYS_BOOT_QUAD := by
    intro b x
    cases b with
    | false => rw [Dev.when_false]; exact ⟨rfl, rfl⟩
    | true => rw [Dev.when_true, Dev.evt_boot, Dev.isSet_evt _ _ _ SYS_BOOT _ (by decide)]; exact ⟨rfl, rfl⟩
  have he : d.atStep .probe (fun d => d.flashProbe mode) = d.flashProbe mode := by
    refine Dev.atStep_now d .probe (fun d => d.flashProbe mode) h0 ?_
    show (Dev.flashProbe mode d).boot.warned = false
    rw [hs, Dev.toStep_warned, Dev.setSys_boot, (hw _ _).1]
    exact h1
  simp only [e]
  rw [he, hs]
  have hq : ∀ b : Bool, decide (b2n b % 2 ^ SYS_BOOT_QUAD.wd ≠ 0) = b := by decide
  generalize hg : Dev.when _ _ _ = g
  refine ⟨?_, ?_, ?_⟩
  · rw [Dev.toStep_sysState, Dev.sysState_setSys]
    rfl
  · rw [Dev.toStep_isSet, Dev.isSet_setSys_ne _ _ _ _ (by decide), ← hg, (hw _ _).2, Dev.isSet_setF_self _ _ _ _ (by decide), hq]
  · rfl

/-- HEADER_CHECK. -/
theorem does_headerCheck_one (d : Dev) (okA okB : Bool) (h0 : d.boot.step = .headers) (h1 : ((d.readKeys okA okB).putTable d.sec.table).boot.warned = false) (h2 : ((d.readKeys okA okB).putTable d.sec.table).slotGood 0 = true) (h3 : ((d.readKeys okA okB).putTable d.sec.table).slotGood 1 = false) : let e := d.atStep .headers (fun d => d.headerCheck okA okB); let m := (d.readKeys okA okB).putTable d.sec.table; e = { m with boot := { m.boot with candidate := 0, firstCand := 0, otherGood := false, step := .body } } := by
  intro e m
  have hs : d.headerCheck okA okB = { m with boot := { m.boot with candidate := 0, firstCand := 0, otherGood := false, step := .body } } := by
    unfold Dev.headerCheck
    dsimp only
    rw [h2, h3]
  simp only [e]
  rw [Dev.atStep_now d .headers (fun d => d.headerCheck okA okB) h0 (by rw [hs]; exact h1), hs]

/-- BODY_READ_DONE. -/
theorem does_bodyReadDone (d : Dev) (h0 : d.boot.step = .body) (h1 : d.boot.warned = false) (h2 : d.hashOk d.boot.candidate = true) : let e := d.atStep .body (fun d => d.bodyRead); e = d.toStep .signature := by
  intro e
  have hs : d.bodyRead = d.toStep .signature := by
    unfold Dev.bodyRead
    rw [if_pos h2]
  simp only [e]
  rw [Dev.atStep_now d .body (fun d => d.bodyRead) h0 (by rw [hs]; exact h1), hs]

/-- SIGNATURE_VERIFY. -/
theorem does_signatureVerify (d : Dev) (rs : List Rec) (h0 : d.boot.step = .signature) (h1 : d.boot.warned = false) (h2 : d.signed d.boot.candidate = true) (h3 : (d.slotRecs d.boot.candidate).toOption = some rs) (h4 : d.progReject rs = none) : let e := d.atStep .signature (fun d => d.signatureVerify); e = d.toStep .firstPass := by
  intro e
  have hs : d.signatureVerify = d.toStep .firstPass := by
    unfold Dev.signatureVerify
    rw [h2, ok_of_toOption h3]
    dsimp only
    rw [h4]
    rfl
  simp only [e]
  rw [Dev.atStep_now d .signature (fun d => d.signatureVerify) h0 (by rw [hs]; exact h1), hs]

/-- FIRST_PASS. -/
theorem does_firstPass (d : Dev) (rs : List Rec) (h0 : d.boot.step = .firstPass) (h1 : d.boot.warned = false) (h2 : d.firstPass d.boot.candidate = none) (h3 : (d.slotRecs d.boot.candidate).toOption = some rs) : let e := d.atStep .firstPass (fun d => d.firstPassDone); e.boot.records = rs ∧ e.boot.step = .secondPass ∧ e.sysState = stApply ∧ onlyRegs [SYS_STATE] d e ∧ sameMem d e := by
  intro e
  have hs : d.firstPassDone = (({ d with boot := { d.boot with records := rs } } : Dev).setSys stApply).toStep .secondPass := by
    unfold Dev.firstPassDone
    dsimp only
    rw [h2, ok_of_toOption h3]
  have he : e = (({ d with boot := { d.boot with records := rs } } : Dev).setSys stApply).toStep .secondPass := by
    simp only [e]
    exact (Dev.atStep_now d .firstPass (fun d => d.firstPassDone) h0 (by rw [hs]; exact h1)).trans hs
  rw [he]
  have hL : stApply % 16 = stApply := rfl
  refine ⟨rfl, rfl, by simp [Dev.toStep, hL], ?_, ⟨rfl, rfl, rfl, rfl, rfl, rfl⟩⟩
  intro b hb _
  simp only [List.mem_singleton] at hb
  exact Dev.rd_setF_ne _ _ _ _ _ hb

/-- SECOND_PASS. -/
theorem does_secondPass (d : Dev) (side okA okB : Bool) (h0 : d.boot.step = .secondPass) (h1 : (d.readCull okA okB).t0Culled < 2) (h2 : (((d.readCull okA okB).applyAll side).toStep .thirdPass).boot.warned = false) : let e := d.atStep .secondPass (fun d => d.secondPass side okA okB); e = ((d.readCull okA okB).applyAll side).toStep .thirdPass := by
  intro e
  have hs : d.secondPass side okA okB = ((d.readCull okA okB).applyAll side).toStep .thirdPass := by
    unfold Dev.secondPass
    dsimp only
    rw [if_neg (Nat.not_le.2 h1)]
  simp only [e]
  rw [Dev.atStep_now d .secondPass (fun d => d.secondPass side okA okB) h0 (by rw [hs]; exact h2), hs]

/-- THIRD_PASS. -/
theorem does_thirdPass (d : Dev) (h0 : d.boot.step = .thirdPass) (h1 : d.applyBroken = false) (h2 : d.bootCandidate.markAll.boot.warned = false) : let e := d.atStep .thirdPass (fun d => d.thirdPass); e = (d.bootCandidate.markAll.setSys stTest).toStep .calibrate ∧ e.sysState = stTest ∧ e.boot.step = .calibrate := by
  intro e
  have hs : d.thirdPass = (d.bootCandidate.markAll.setSys stTest).toStep .calibrate := by
    unfold Dev.thirdPass
    rw [h1]
    rfl
  have he : e = (d.bootCandidate.markAll.setSys stTest).toStep .calibrate := by
    simp only [e]
    exact (Dev.atStep_now d .thirdPass (fun d => d.thirdPass) h0 (by rw [hs, Dev.toStep_warned, Dev.setSys_boot]; exact h2)).trans hs
  rw [he]
  have hL : stTest % 16 = stTest := rfl
  exact ⟨rfl, by simp [Dev.toStep, hL], rfl⟩

/-- START_CALIBRATION. -/
theorem does_startCalibration (d : Dev) (fails : List (Nat × Nat × Nat)) (h0 : d.boot.step = .calibrate) (h1 : (d.startCalibration fails).boot.warned = false) (h2 : fails = []) (h3 : d.calibrateAll.boot.step = .calibrate) : let e := d.atStep .calibrate (fun d => d.startCalibration fails); e = d.calibrateAll.toStep .journal := by
  intro e
  subst h2
  have hs : d.startCalibration [] = d.calibrateAll.toStep .journal := by
    unfold Dev.startCalibration
    dsimp only [List.foldl]
    rw [if_pos h3]
  simp only [e]
  rw [Dev.atStep_now d .calibrate (fun d => d.startCalibration []) h0 h1, hs]

/-- JOURNAL_RECOVERY. -/
theorem does_journalRecovery (d : Dev) (bad : List Nat) (h0 : d.boot.step = .journal) (h1 : ((d.jrnRecover bad).jrnReplay).boot.warned = false) : let e := d.atStep .journal (fun d => d.journalRecovery bad); e = ((d.jrnRecover bad).jrnReplay).toStep .lock := by
  intro e
  simp only [e]
  rw [Dev.atStep_now d .journal (fun d => d.journalRecovery bad) h0 (by show (Dev.journalRecovery bad d).boot.warned = false; unfold Dev.journalRecovery; rw [Dev.toStep_warned]; exact h1)]
  show Dev.journalRecovery bad d = _
  unfold Dev.journalRecovery
  rfl

/-- CONFIG_LOCK. -/
theorem does_configLock (d : Dev) (h0 : d.boot.step = .lock) (h1 : d.boot.warned = false) : let e := d.atStep .lock (fun d => d.configLock); let m : Dev := d.lockedTriads; let r := ({ m with red := { m.red with lastKick := m.now } } : Dev).stateReady.enterKeys; e = { r with vcore := { r.vcore with readyAt := some r.now } } ∧ e.sysState = stReady ∧ e.boot.step = .done := by
  intro e
  have hk : d.configLock.sysState = stReady ∧ d.configLock.boot.step = .done := by
    unfold Dev.configLock
    rw [h1]
    simp only [Bool.false_eq_true, if_false]
    generalize ({ d.lockedTriads with red := { d.lockedTriads.red with lastKick := d.lockedTriads.now } } : Dev) = m
    refine ⟨?_, ?_⟩
    · rw [Dev.sysState_mk, (Dev.enterKeys_up _).1, (Dev.stateReady_up _).1]
    · exact (Dev.enterKeys_up _).2.trans (Dev.stateReady_up _).2
  have he : e = d.configLock := by
    simp only [e]
    unfold Dev.atStep
    rw [if_neg (by rw [h0]; exact fun h => h rfl)]
    dsimp only
    rw [hk.1, if_neg (by simp)]
  rw [he]
  refine ⟨?_, hk⟩
  unfold Dev.configLock
  rw [h1]
  rfl

/-- START_RESUME. -/
theorem does_startResume (d : Dev) (h0 : d.boot.step = .paused) : let e := d.startResume; e.rd SYS_BOOT = 0 ∧ e.sysState = stProbe ∧ e.boot.step = .probe := by
  intro e
  simp (disch := first | decide | (simp (disch := decide); done) | assumption) [e, Dev.startResume, Dev.toStep, h0]

/-- RUN. -/
theorem does_run (d : Dev) (triad : Fin 4) (h0 : triad = 0) (h1 : d.sysState = stReady) : let e := d.runWrite triad; e = (((d.wr64 TKP_EPOCH_LO TKP_EPOCH_HI d.now).setSys stRun).putBit TKP_SLOTEN1 31 true).runBegins := by
  intro e
  subst h0
  simp only [e]
  unfold Dev.runWrite Dev.enterRun
  rw [h1]
  rfl

/-- SYS_CTRL_RESTART. -/
theorem does_sysCtrlRestart (d : Dev) (triad : Fin 4) (key : Nat) (h0 : triad = 0) (h1 : key = 0xA5) (h2 : d.restartBar = none) : let e := d.restartWrite triad key; e = d.restart rstRestart ∧ e.rd SYS_RSTCAUSE = 2 ∧ e.sysState = stProbe ∧ e.boot.step = .probe := by
  intro e
  subst h0 h1
  have hs : e = d.restart rstRestart := by
    simp only [e]
    unfold Dev.restartWrite
    rw [h2]
    rfl
  rw [hs]
  refine ⟨rfl, ?_, ?_, rfl⟩
  · unfold Dev.restart
    simp (disch := first | decide | (simp (disch := decide); done) | assumption)
  · unfold Dev.restart
    simp (disch := first | decide | (simp (disch := decide); done) | assumption)

/-- SLOT_WRITE_CHECK. -/
theorem does_slotWriteCheck (d : Dev) (s : Nat) (h0 : d.sec.slotCheck = some s) : let e := d.slotWriteCheck; e.sec.slotCheck = none ∧ logged d e EV_SYS_SLOT_WRITTEN ∧ sameMem d e := by
  intro e
  simp only [e]
  unfold Dev.slotWriteCheck
  rw [h0]
  dsimp only
  refine ⟨by simp, ?_, ?_⟩
  · exact logged_evt_of _ _ _ _ rfl
  · unfold sameMem; simp

/-- JOURNAL_COMMIT. -/
theorem does_journalCommit (d : Dev) (r : JReq) (rest : List JReq) (h0 : d.jrn.reqs = r :: rest) (h1 : d.paired = false) (h2 : (({ d with jrn := { d.jrn with reqs := rest } } : Dev).commitRecord r.kind r.que r.seq r.body false).paired = false) : let e := d.journalCommit; e = ((({ d with jrn := { d.jrn with reqs := rest } } : Dev).commitRecord r.kind r.que r.seq r.body false).recordDone r false).commitWarned := by
  intro e
  simp only [e]
  unfold Dev.journalCommit
  rw [h0]
  dsimp only
  have hp : ({ d with jrn := { d.jrn with reqs := rest } } : Dev).paired = false := h1
  simp only [hp, Bool.false_and, decide_false, Bool.false_eq_true, if_false]
  simp only [h2, Bool.false_and, Bool.or_self, Dev.when, Bool.false_eq_true, if_false]

/-- JACK_RECEIVED. -/
theorem does_jackReceived (d : Dev) (seq jp : Nat) (h0 : d.paired = true) (h1 : d.linkUp = true) (h2 : seq = d.lnk.rxSeq) : let e := d.onLink seq (fun d => d.jack jp); let m := d.modLnk (fun l => { l with rxSeq := (seq + 1) % 2 ^ 32 }); e = (m.jrn.unacked.filter (fun r => r.jpos ≤ jp)).foldl (fun x r => x.recordDone r false) { m with jrn := { m.jrn with unacked := m.jrn.unacked.filter (fun r => !(r.jpos ≤ jp)) } } := by
  intro e m
  exact Dev.onLink_next _ _ _ h0 h1 h2

/-- JACK_TIMEOUT. -/
theorem does_jackTimeout (d : Dev) (h0 : d.jrn.unacked.any (fun r => decide (d.fld LNK_CFG LNK_CFG_JTO * 10 * usTicks ≤ d.since r.sentAt)) = true) : let e := d.jackTimeout; let m : Dev := { d with jrn := { d.jrn with unacked := [], live := d.jrn.live.map (fun x => if d.jrn.unacked.any (fun r => r.jpos = x.jpos) then { x with isLocal := true } else x) } }; e = d.jrn.unacked.foldl (fun x r => x.recordDone r true) (((m.when (m.role = roleActive) (fun x => x.setRole roleAlone)).setF LNK_FLT LNK_FLT_JRNFAIL 1).evt EV_LNK_JRN_MIRROR_FAIL []) := by
  intro e m
  simp only [e]
  unfold Dev.jackTimeout
  dsimp only
  rw [if_neg (by rw [h0]; simp)]

end Sys2Proof.Machine
end

