-- ==== Sys2Proof/Laws/Pair.lean ====
section
/-! SUPPORT. What the commands of the standby pair, the drive token and the Ciwin link do (chapter 13). -/

namespace Sys2Proof.Machine

/-- TOKEN_WIRE. -/
theorem does_tokenWire (d : Dev) (h0 : d.paired = true) (h1 : d.holdsToken = true) : let e := d.tokenWire; let m := (d.releaseToken 2).setF LNK_FLT LNK_FLT_TOKWIRE 1; e = m.evt EV_LNK_TOKEN_WIRE [] ∧ logged m e EV_LNK_TOKEN_WIRE := by
  intro e m
  simp only [e]; unfold Dev.tokenWire
  rw [h0, h1, if_pos (by decide)]
  exact ⟨rfl, logged_evt _ _ _⟩

/-- PEER_TOKEN_LOST. -/
theorem does_peerTokenLost (d : Dev) (h0 : d.peerTok = true) : let e := d.peerLost; e = (d.setF LNK_STAT LNK_STAT_PEERTOK 0).modLnk (fun l => { l with lastEdge := d.now - BitVec.ofNat 64 (2 * usTicks) }) ∧ e.peerTok = false := by
  intro e
  simp only [e]; unfold Dev.peerLost
  rw [h0, if_pos rfl]
  refine ⟨rfl, ?_⟩
  show (d.setF LNK_STAT LNK_STAT_PEERTOK 0).isSet LNK_STAT LNK_STAT_PEERTOK = false
  rw [Dev.isSet_setF_self _ _ _ _ (by decide)]
  rfl

/-- PEER_TOKEN_SEEN. -/
theorem does_peerTokenSeen (d : Dev) : let e := d.peerSeen; e = (d.setF LNK_STAT LNK_STAT_PEERTOK 1).modLnk (fun l => { l with lastEdge := d.now }) ∧ e.peerTok = true := by
  intro e
  simp only [e]; unfold Dev.peerSeen
  refine ⟨rfl, ?_⟩
  show (d.setF LNK_STAT LNK_STAT_PEERTOK 1).isSet LNK_STAT LNK_STAT_PEERTOK = true
  rw [Dev.isSet_setF_self _ _ _ _ (by decide)]
  rfl

/-- TOKEN_RACE. -/
theorem does_tokenRace (d : Dev) (h0 : d.paired = true) (h1 : d.holdsToken = true) : let e := d.tokenRace; let m := (d.peerSeen.when (d.peerSeen.side = 1) (fun x => x.releaseToken 3)).setF LNK_FLT LNK_FLT_TOKRACE 1; e = m.evt EV_LNK_TOKEN_RACE [] ∧ logged m e EV_LNK_TOKEN_RACE := by
  intro e m
  simp only [e]; unfold Dev.tokenRace
  rw [h0, h1, if_pos (by decide)]
  exact ⟨rfl, logged_evt _ _ _⟩

/-- HB_SEND. -/
theorem does_hbSend (d : Dev) : let e := d.sendHb; e = d.linkSend (.hb d.role d.holdsToken d.now d.jrn.jepoch d.jrn.jpos d.lnk.sc d.sysState (d.isSet SUP_STAT SUP_STAT_WARN)) := by
  intro e
  simp only [e]; unfold Dev.sendHb
  rfl

/-- HB_RECEIVED. -/
theorem does_hbReceived (d : Dev) (seq role : Nat) (tok : Bool) (stime : Time) (jepoch jpos sys : Nat) (warn : Bool) (h0 : d.paired = true) (h1 : d.linkUp = true) (h2 : seq = d.lnk.rxSeq) : let e := d.onLink seq (fun d => d.hbIn role tok stime jepoch jpos sys warn); e = ((d.modLnk (fun l => { l with rxSeq := (seq + 1) % 2 ^ 32 })).hbNote role tok stime jepoch jpos sys warn).hbRole role tok := by
  intro e
  simp only [e]; skip
  rw [Dev.onLink_next _ _ _ h0 h1 h2]
  rfl

/-- LINK_ACK. -/
theorem does_linkAck (d : Dev) (upTo : Nat) (h0 : d.paired = true) (h1 : d.linkUp = true) : let e := d.linkAcked upTo; e = (d.lnk.unacked.filter (ackedBy upTo)).foldl Dev.linkDone (d.dropAcked upTo) := by
  intro e
  simp only [e]; unfold Dev.linkAcked
  rw [h0, h1, if_neg (by decide)]

/-- LINK_RESEND. -/
theorem does_linkResend (d : Dev) (h0 : d.paired = true) (h1 : d.linkUp = true) (h2 : d.lnk.unacked.any d.resendDue = true) (h3 : d.resendAll.lnk.unacked.any (fun x => 8 ≤ x.sends) = false) : let e := d.linkResend; e = d.resendAll := by
  intro e
  simp only [e]; unfold Dev.linkResend
  rw [h0, h1, h2, h3]
  rfl

/-- LINK_RESEND. -/
theorem does_linkResend_down (d : Dev) (h0 : d.paired = true) (h1 : d.linkUp = true) (h2 : d.lnk.unacked.any d.resendDue = true) (h3 : d.resendAll.lnk.unacked.any (fun x => 8 ≤ x.sends) = true) : let e := d.linkResend; e = d.resendAll.linkDown := by
  intro e
  simp only [e]; unfold Dev.linkResend
  rw [h0, h1, h2, h3]
  rfl

/-- LINK_TRAINED. -/
theorem does_linkTrained (d : Dev) (lanes latency : Nat) (h0 : d.paired = true) (h1 : d.linkUp = false) (h2 : usableLanes lanes ≠ 0) : let e := d.linkTrained lanes latency; e = d.linkStart (usableLanes lanes) latency := by
  intro e
  simp only [e]; unfold Dev.linkTrained
  rw [h0, h1, if_neg (by simpa using h2)]

/-- LINK_RETRAIN. -/
theorem does_linkRetrain (d : Dev) (h0 : d.paired = true) (h1 : d.linkUp = false) : let e := d.linkRetry; e = (d.setF LNK_STAT LNK_STAT_LANES 0).setF LNK_STAT LNK_STAT_HALF 0 := by
  intro e
  simp only [e]; unfold Dev.linkRetry
  rw [h0, h1, if_pos (by decide)]

/-- LANE_DEGRADED. -/
theorem does_laneDegraded (d : Dev) (lane : Fin 4) (errs : Nat) (h0 : d.linkUp = true) (h1 : (d.fld LNK_STAT LNK_STAT_LANES).testBit lane = true) (h2 : 16 < errs) (h3 : d.fld LNK_STAT LNK_STAT_LANES = 0xF) : let e := d.laneDegraded lane errs; let m := ((((d.setF LNK_LANE ⟨8 * lane, 8⟩ (min errs 127)).setF LNK_STAT LNK_STAT_LANES (if lane.val < 2 then 0xC else 3)).setF LNK_STAT LNK_STAT_HALF 1).setF LNK_FLT LNK_FLT_LANE 1); e = m.evt EV_LNK_LANE_DEGRADED [lane.val] ∧ logged m e EV_LNK_LANE_DEGRADED := by
  intro e m
  simp only [e]; unfold Dev.laneDegraded
  dsimp only
  rw [h0, h1, if_neg (by simpa using h2), if_pos h3]
  exact ⟨rfl, logged_evt _ _ _⟩

/-- LANE_DEGRADED. -/
theorem does_laneDegraded_down (d : Dev) (lane : Fin 4) (errs : Nat) (h0 : d.linkUp = true) (h1 : (d.fld LNK_STAT LNK_STAT_LANES).testBit lane = true) (h2 : 16 < errs) (h3 : d.fld LNK_STAT LNK_STAT_LANES ≠ 0xF) : let e := d.laneDegraded lane errs; e = ((d.setF LNK_LANE ⟨8 * lane, 8⟩ (min errs 127)).setF LNK_STAT LNK_STAT_LANES 0).linkDown := by
  intro e
  simp only [e]; unfold Dev.laneDegraded
  dsimp only
  rw [h0, h1, if_neg (by simpa using h2), if_neg h3]

/-- RETRAIN. -/
theorem does_retrain (d : Dev) (triad : Fin 4) (v : W) (h0 : triad.val = 0) (h1 : v.bit 1 = true) : let e := d.retrainWrite triad v; e = d.linkDown.linkRetry := by
  intro e
  simp only [e]; unfold Dev.retrainWrite
  rw [if_neg (by rw [h0]; decide), h1, if_pos rfl]

/-- RETRAIN. -/
theorem does_retrain_locked (d : Dev) (triad : Fin 4) (v : W) (h0 : triad.val ≠ 0) : let e := d.retrainWrite triad v; e = d.lockedWrite triad LNK_CTRL := by
  intro e
  simp only [e]; unfold Dev.retrainWrite
  rw [if_pos h0]

/-- HELLO_RECEIVED. -/
theorem does_helloReceived (d : Dev) (seq : Nat) (dig0 dig1 epoch : W) (side : Bool) (jepoch jpos role sys : Nat) (tkEpoch : Option Time) (h0 : d.paired = true) (h1 : d.linkUp = true) (h2 : seq = d.lnk.rxSeq) (h3 : ¬ (side = (((d.modLnk (fun l => { l with rxSeq := (seq + 1) % 2 ^ 32 })).helloNote dig0 dig1 epoch sys tkEpoch).side = 1))) (h4 : dig0 = ((d.modLnk (fun l => { l with rxSeq := (seq + 1) % 2 ^ 32 })).helloNote dig0 dig1 epoch sys tkEpoch).rd SYS_CFGDIG0) (h5 : dig1 = ((d.modLnk (fun l => { l with rxSeq := (seq + 1) % 2 ^ 32 })).helloNote dig0 dig1 epoch sys tkEpoch).rd SYS_CFGDIG1) (h6 : epoch = ((d.modLnk (fun l => { l with rxSeq := (seq + 1) % 2 ^ 32 })).helloNote dig0 dig1 epoch sys tkEpoch).rd SYS_CFGEPOCH) (h7 : ((d.modLnk (fun l => { l with rxSeq := (seq + 1) % 2 ^ 32 })).helloNote dig0 dig1 epoch sys tkEpoch).role = roleDeciding) : let e := d.onLink seq (fun d => d.hello dig0 dig1 epoch side jepoch jpos role sys tkEpoch); e = ((d.modLnk (fun l => { l with rxSeq := (seq + 1) % 2 ^ 32 })).helloNote dig0 dig1 epoch sys tkEpoch).decideRole jepoch jpos role := by
  intro e
  simp only [e]; skip
  rw [Dev.onLink_next _ _ _ h0 h1 h2]
  unfold Dev.hello
  dsimp only
  generalize ((d.modLnk (fun l => { l with rxSeq := (seq + 1) % 2 ^ 32 })).helloNote dig0 dig1 epoch sys tkEpoch) = m at *
  rw [if_neg h3, if_neg (by simp [← h4, ← h5, ← h6])]
  rw [if_neg (by simp [h7])]

/-- HELLO_RECEIVED. -/
theorem does_helloReceived_known (d : Dev) (seq : Nat) (dig0 dig1 epoch : W) (side : Bool) (jepoch jpos role sys : Nat) (tkEpoch : Option Time) (h0 : d.paired = true) (h1 : d.linkUp = true) (h2 : seq = d.lnk.rxSeq) (h3 : ¬ (side = (((d.modLnk (fun l => { l with rxSeq := (seq + 1) % 2 ^ 32 })).helloNote dig0 dig1 epoch sys tkEpoch).side = 1))) (h4 : dig0 = ((d.modLnk (fun l => { l with rxSeq := (seq + 1) % 2 ^ 32 })).helloNote dig0 dig1 epoch sys tkEpoch).rd SYS_CFGDIG0) (h5 : dig1 = ((d.modLnk (fun l => { l with rxSeq := (seq + 1) % 2 ^ 32 })).helloNote dig0 dig1 epoch sys tkEpoch).rd SYS_CFGDIG1) (h6 : epoch = ((d.modLnk (fun l => { l with rxSeq := (seq + 1) % 2 ^ 32 })).helloNote dig0 dig1 epoch sys tkEpoch).rd SYS_CFGEPOCH) (h7 : ((d.modLnk (fun l => { l with rxSeq := (seq + 1) % 2 ^ 32 })).helloNote dig0 dig1 epoch sys tkEpoch).role ≠ roleDeciding) : let e := d.onLink seq (fun d => d.hello dig0 dig1 epoch side jepoch jpos role sys tkEpoch); e = ((d.modLnk (fun l => { l with rxSeq := (seq + 1) % 2 ^ 32 })).helloNote dig0 dig1 epoch sys tkEpoch) := by
  intro e
  simp only [e]; skip
  rw [Dev.onLink_next _ _ _ h0 h1 h2]
  unfold Dev.hello
  dsimp only
  generalize ((d.modLnk (fun l => { l with rxSeq := (seq + 1) % 2 ^ 32 })).helloNote dig0 dig1 epoch sys tkEpoch) = m at *
  rw [if_neg h3, if_neg (by simp [← h4, ← h5, ← h6])]
  rw [if_pos (by simp [h7])]

/-- HELLO_RECEIVED. -/
theorem does_helloReceived_side (d : Dev) (seq : Nat) (dig0 dig1 epoch : W) (side : Bool) (jepoch jpos role sys : Nat) (tkEpoch : Option Time) (h0 : d.paired = true) (h1 : d.linkUp = true) (h2 : seq = d.lnk.rxSeq) (h3 : side = (((d.modLnk (fun l => { l with rxSeq := (seq + 1) % 2 ^ 32 })).helloNote dig0 dig1 epoch sys tkEpoch).side = 1)) (h4 : ((d.modLnk (fun l => { l with rxSeq := (seq + 1) % 2 ^ 32 })).helloNote dig0 dig1 epoch sys tkEpoch).role = roleDeciding) : let e := d.onLink seq (fun d => d.hello dig0 dig1 epoch side jepoch jpos role sys tkEpoch); e = ((d.modLnk (fun l => { l with rxSeq := (seq + 1) % 2 ^ 32 })).helloNote dig0 dig1 epoch sys tkEpoch).pairMismatch.setRole roleBarred := by
  intro e
  simp only [e]; skip
  rw [Dev.onLink_next _ _ _ h0 h1 h2]
  unfold Dev.hello
  dsimp only
  generalize ((d.modLnk (fun l => { l with rxSeq := (seq + 1) % 2 ^ 32 })).helloNote dig0 dig1 epoch sys tkEpoch) = m at *
  rw [if_pos h3, if_pos (by simp [h4])]

/-- SOLO_CLAIM. -/
theorem does_soloClaim (d : Dev) (h0 : d.paired = true) (h1 : d.linkUp = false) (h2 : d.inRun = true) (h3 : d.role = roleDeciding) (h4 : d.wireQuiet = true) (h5 : d.fld LNK_CFG LNK_CFG_SOLOWAIT * 10 * msTicks * (if d.side = 1 then 2 else 1) ≤ d.since d.lnk.runAt) (h6 : d.fld LNK_CFG LNK_CFG_SOLOWAIT * 10 * msTicks * (if d.side = 1 then 2 else 1) ≤ d.since d.lnk.lastEdge) : let e := d.soloClaim; e = d.claimToken := by
  intro e
  simp only [e]; unfold Dev.soloClaim
  dsimp only
  rw [h0, h1, h2, h3, h4]
  simp only [Bool.not_false, Bool.true_and, Bool.and_eq_true, decide_eq_true_eq, decide_true]
  exact if_pos ⟨h5, h6⟩

/-- FNSTATE_RECEIVED. -/
theorem does_fnstateReceived (d : Dev) (seq : Nat) (f : Fin 32) (v : W) (h0 : d.paired = true) (h1 : d.linkUp = true) (h2 : seq = d.lnk.rxSeq) (h3 : (d.modLnk (fun l => { l with rxSeq := (seq + 1) % 2 ^ 32 })).follows = true) : let e := d.onLink seq (fun d => if d.follows then d.modLnk (fun l => { l with peerFns := Tab.set f v l.peerFns }) else d); let m := (d.modLnk (fun l => { l with rxSeq := (seq + 1) % 2 ^ 32 })); e = m.modLnk (fun l => { l with peerFns := Tab.set f.val v l.peerFns }) := by
  intro e m
  simp only [e]; skip
  rw [Dev.onLink_next _ _ _ h0 h1 h2]
  rw [h3]
  rfl

/-- JRN_RECEIVED. -/
theorem does_jrnReceived (d : Dev) (seq jpos kind que eseq : Nat) (body : List Byte) (h0 : d.paired = true) (h1 : d.linkUp = true) (h2 : seq = d.lnk.rxSeq) (h3 : (d.modLnk (fun l => { l with rxSeq := (seq + 1) % 2 ^ 32 })).follows = true) (h4 : jpos = (d.modLnk (fun l => { l with rxSeq := (seq + 1) % 2 ^ 32 })).jrn.jpos) : let e := d.onLink seq (fun d => d.jrnMirrored jpos kind que eseq body); e = (d.modLnk (fun l => { l with rxSeq := (seq + 1) % 2 ^ 32 })).jrnTake jpos kind que eseq body := by
  intro e
  simp only [e]; skip
  rw [Dev.onLink_next _ _ _ h0 h1 h2]
  unfold Dev.jrnMirrored
  rw [h3, if_neg (by decide)]
  dsimp only
  rw [show decide (jpos < (d.modLnk (fun l => { l with rxSeq := (seq + 1) % 2 ^ 32 })).jrn.jpos) = false by simp [h4], Bool.false_and, Dev.when_false, if_neg (by simp [h4])]

/-- MIR_RECEIVED. -/
theorem does_mirReceived (d : Dev) (seq addr : Nat) (bytes : List Byte) (h0 : d.paired = true) (h1 : d.linkUp = true) (h2 : seq = d.lnk.rxSeq) (h3 : (d.modLnk (fun l => { l with rxSeq := (seq + 1) % 2 ^ 32 })).follows = true) : let e := d.onLink seq (fun d => if d.follows then d.modLnk (fun l => { l with staging := l.staging ++ [(addr, bytes)] }) else d); let m := (d.modLnk (fun l => { l with rxSeq := (seq + 1) % 2 ^ 32 })); e = m.modLnk (fun l => { l with staging := l.staging ++ [(addr, bytes)] }) := by
  intro e m
  simp only [e]; skip
  rw [Dev.onLink_next _ _ _ h0 h1 h2]
  rw [h3]
  rfl

/-- MIREND_RECEIVED. -/
theorem does_mirendReceived (d : Dev) (seq sc : Nat) (good : Bool) (blk : StateBlock) (h0 : d.paired = true) (h1 : d.linkUp = true) (h2 : seq = d.lnk.rxSeq) (h3 : (d.modLnk (fun l => { l with rxSeq := (seq + 1) % 2 ^ 32 })).follows = true) : let e := d.onLink seq (fun d => d.mirEnd sc good blk); let m := (d.modLnk (fun l => { l with rxSeq := (seq + 1) % 2 ^ 32 })); e = m.modLnk (fun l => { l with staged := if good && m.stagedWhole then some ⟨sc, l.staging, blk⟩ else l.staged, staging := [] }) ∧ e.lnk.staging = [] := by
  intro e m
  simp only [e]; skip
  rw [Dev.onLink_next _ _ _ h0 h1 h2]
  unfold Dev.mirEnd
  rw [h3, if_neg (by decide)]
  exact ⟨rfl, rfl⟩

/-- MIRROR_APPLIED. -/
theorem does_mirrorApplied (d : Dev) (c : MirCopy) (h0 : d.lnk.staged = some c) : let e := d.mirApplied; e = (d.applyStaged.linkSend (.applied c.sc)).checkCaughtUp.syncStep := by
  intro e
  simp only [e]; unfold Dev.mirApplied
  rw [h0]

/-- APPLIED_RECEIVED. -/
theorem does_appliedReceived (d : Dev) (seq sc : Nat) (h0 : d.paired = true) (h1 : d.linkUp = true) (h2 : seq = d.lnk.rxSeq) (h3 : d.lnk.yield = 2) (h4 : sc = d.lnk.sc) (h5 : d.role = roleActive) : let e := d.onLink seq (fun d => d.appliedIn sc); e = ((d.modLnk (fun l => { l with rxSeq := (seq + 1) % 2 ^ 32 })).releaseToken 1).linkSend .release := by
  intro e
  simp only [e]; skip
  rw [Dev.onLink_next _ _ _ h0 h1 h2]
  unfold Dev.appliedIn
  rw [if_pos]
  simp only [Bool.and_eq_true, decide_eq_true_eq]
  exact ⟨⟨h3, h4⟩, h5⟩

/-- RELEASE_RECEIVED. -/
theorem does_releaseReceived (d : Dev) (seq : Nat) (h0 : d.paired = true) (h1 : d.linkUp = true) (h2 : seq = d.lnk.rxSeq) (h3 : d.role = roleStandby) : let e := d.onLink seq Dev.releaseIn; e = (d.modLnk (fun l => { l with rxSeq := (seq + 1) % 2 ^ 32 })).takeover 1 := by
  intro e
  simp only [e]; skip
  rw [Dev.onLink_next _ _ _ h0 h1 h2]
  unfold Dev.releaseIn
  rw [if_pos (show (d.modLnk (fun l => { l with rxSeq := (seq + 1) % 2 ^ 32 })).role = roleStandby from h3)]

/-- HB_LOSS. -/
theorem does_hbLoss (d : Dev) (h0 : d.paired = true) (h1 : d.peerTok = false) (h2 : d.fld LNK_CFG LNK_CFG_HBLOSS * 10 * usTicks ≤ d.since d.lnk.lastHb) (h3 : d.role = roleStandby) : let e := d.hbLoss; e = d.takeover 2 := by
  intro e
  simp only [e]; unfold Dev.hbLoss
  rw [h0, h1, if_neg (by simpa using h2)]
  rw [if_pos h3]

/-- HB_LOSS. -/
theorem does_hbLoss_syncing (d : Dev) (h0 : d.paired = true) (h1 : d.peerTok = false) (h2 : d.fld LNK_CFG LNK_CFG_HBLOSS * 10 * usTicks ≤ d.since d.lnk.lastHb) (h3 : d.role = roleSyncing) (h4 : d.lnk.noSucc = false) : let e := d.hbLoss; let m := d.modLnk (fun l => { l with noSucc := true }); e = m.evt EV_LNK_NO_SUCCESSOR [] ∧ logged m e EV_LNK_NO_SUCCESSOR := by
  intro e m
  simp only [e]; unfold Dev.hbLoss
  rw [h0, h1, if_neg (by simpa using h2)]
  rw [if_neg (by rw [h3]; decide), if_pos (by rw [h3, h4]; decide)]
  exact ⟨rfl, logged_evt _ _ _⟩

/-- YIELD. -/
theorem does_yield (d : Dev) (triad : Fin 4) (v : W) (h0 : triad.val = 0) (h1 : v.bit 0 = true) (h2 : d.role = roleActive) (h3 : d.lnk.peerRole = roleStandby) (h4 : d.linkUp = true) (h5 : d.fld LNK_STAT LNK_STAT_LANES = 0xF) : let e := d.yieldWrite triad v; e = d.modLnk (fun l => { l with yield := 1 }) ∧ e.lnk.yield = 1 := by
  intro e
  simp only [e]; unfold Dev.yieldWrite
  rw [if_neg (by rw [h0]; decide), h1, if_neg (by decide)]
  rw [if_pos (by rw [h2, h3, h4, h5]; decide)]
  exact ⟨rfl, rfl⟩

/-- YIELD. -/
theorem does_yield_refused (d : Dev) (triad : Fin 4) (v : W) (h0 : triad.val = 0) (h1 : v.bit 0 = true) (h2 : d.role ≠ roleActive) : let e := d.yieldWrite triad v; e = d.evt EV_LNK_YIELD_REFUSED [] ∧ logged d e EV_LNK_YIELD_REFUSED := by
  intro e
  simp only [e]; unfold Dev.yieldWrite
  rw [if_neg (by rw [h0]; decide), h1, if_neg (by decide)]
  rw [if_neg (by simp [h2])]
  exact ⟨rfl, logged_evt _ _ _⟩

/-- LINK_QUEUE_FRAME. -/
theorem does_linkQueueFrame (d : Dev) (seq : Nat) (q : Fin 32) (fr : Frame) (h0 : d.paired = true) (h1 : d.linkUp = true) (h2 : seq = d.lnk.rxSeq) (h3 : d.qEn q = true) (h4 : d.qRx q = true) (h5 : d.qBind q = bindLink) : let e := d.onLink seq (fun d => d.linkFrame q fr); let m := (d.modLnk (fun l => { l with rxSeq := (seq + 1) % 2 ^ 32 })); e = (m.storeFrame q 6 fr m.fstamp false).forward 6 (frameDesc fr) := by
  intro e m
  simp only [e]; skip
  rw [Dev.onLink_next _ _ _ h0 h1 h2]
  unfold Dev.linkFrame
  rw [if_pos]
  simp only [Bool.and_eq_true, decide_eq_true_eq]
  exact ⟨⟨h3, h4⟩, h5⟩

end Sys2Proof.Machine
end

