-- ==== Sys2Proof/Laws/Power.lean ====
section
/-! SUPPORT. What the commands of the time keeper, the calendar and the supply do (chapters 02 and 20). -/

namespace Sys2Proof.Machine

/-! ## The feeds -/

theorem Dev.feeds_frame (va vb : Nat) (d : Dev) (a : Nat) (h : a ≠ SUP_FEED) (h' : a ≠ SUP_STAT) : (d.feeds va vb).rd a = d.rd a := by
  unfold Dev.feeds
  simp [h, h']

theorem Dev.feeds_stat (va vb : Nat) (d : Dev) (f : Fld) (h : f.lo + f.wd ≤ 8 ∨ 10 ≤ f.lo) : (d.feeds va vb).fld SUP_STAT f = d.fld SUP_STAT f := by
  unfold Dev.feeds
  rw [Dev.fld_setF_field _ _ _ _ _ (by decide) (by rcases h with h | h <;> simp only [SUP_STAT_SRC] <;> omega)]
  simp (disch := first | decide | (simp (disch := decide); done) | assumption)

theorem Dev.markOk_frame (c : Nat → Bool) (v : Nat) (xs : List Nat) (d : Dev) (a : Nat) (h : a ≠ SUP_STAT) :
    (d.forEach xs (fun f y => y.when (c f) (fun y => y.setF SUP_STAT (okField f) v))).rd a = d.rd a := by
  induction xs generalizing d with
  | nil => rfl
  | cons x r ih =>
    refine (ih _).trans ?_
    unfold Dev.when
    dsimp only
    split
    · exact Dev.rd_setF_ne _ _ _ _ _ h
    · rfl

theorem Dev.markOk_stat (c : Nat → Bool) (v : Nat) (xs : List Nat) (d : Dev) (f : Fld) (h : f.lo + f.wd ≤ 2 ∨ 4 ≤ f.lo) :
    (d.forEach xs (fun g y => y.when (c g) (fun y => y.setF SUP_STAT (okField g) v))).fld SUP_STAT f = d.fld SUP_STAT f := by
  induction xs generalizing d with
  | nil => rfl
  | cons x r ih =>
    refine (ih _).trans ?_
    unfold Dev.when
    dsimp only
    split
    · refine Dev.fld_setF_field _ _ _ _ _ ?_ ?_ <;> unfold okField <;> split <;> simp only [SUP_STAT_FAOK, SUP_STAT_FBOK] <;> omega
    · rfl

theorem Dev.markOk_other (c : Nat → Bool) (v : Nat) (xs : List Nat) (d : Dev) :
    d.forEach xs (fun f y => y.when (c f) (fun y => y.setF SUP_STAT (okField f) v)) =
      { d with regs := (d.forEach xs (fun f y => y.when (c f) (fun y => y.setF SUP_STAT (okField f) v))).regs } := by
  induction xs generalizing d with
  | nil => rfl
  | cons x r ih =>
    have h : d.forEach (x :: r) (fun f y => y.when (c f) (fun y => y.setF SUP_STAT (okField f) v)) =
      (d.when (c x) (fun y => y.setF SUP_STAT (okField x) v)).forEach r (fun f y => y.when (c f) (fun y => y.setF SUP_STAT (okField f) v)) := rfl
    rw [h, ih]
    unfold Dev.when
    split <;> rfl

theorem Dev.feeds_other (va vb : Nat) (d : Dev) : d.feeds va vb = { d with regs := (d.feeds va vb).regs } := rfl

theorem Dev.whenSome_none {α : Type} (o : Option α) (f : α → Dev → Dev) (d : Dev) (h : o = none) : d.whenSome o f = d := by
  subst h; rfl

theorem Dev.rtcAdvance_por (n : Nat) (d : Dev) : (d.rtcAdvance n).por = d.por := by
  unfold Dev.rtcAdvance; dsimp only; repeat' split
  all_goals rfl
theorem Dev.rtcAdvance_boot (n : Nat) (d : Dev) : (d.rtcAdvance n).boot = d.boot := by
  unfold Dev.rtcAdvance; dsimp only; repeat' split
  all_goals rfl
theorem Dev.rtcAdvance_sup (n : Nat) (d : Dev) : (d.rtcAdvance n).sup = d.sup := by
  unfold Dev.rtcAdvance; dsimp only; repeat' split
  all_goals rfl

theorem Dev.powerUp_up (cycles va vb : Nat) (d : Dev) :
    (d.powerUp cycles va vb).por = false ∧ (d.powerUp cycles va vb).boot.step = .waitRef ∧
      (d.powerUp cycles va vb).sup.missing = d.sup.missing := by
  unfold Dev.powerUp
  dsimp only
  split
  · refine ⟨?_, ?_, ?_⟩ <;> simp <;> rw [Dev.markOk_other] <;> rfl
  · refine ⟨?_, ?_, ?_⟩
    · rw [Dev.rtcAdvance_por, Dev.markOk_other]; rfl
    · rw [Dev.rtcAdvance_boot, Dev.markOk_other]; rfl
    · rw [Dev.rtcAdvance_sup, Dev.markOk_other]; rfl

/-- REF_QUALIFIED. -/
theorem does_refQualified (d : Dev) (dev : Int) (h0 : d.isSet TKP_STAT TKP_STAT_REF_OK = false) (h1 : d.isSet TKP_STAT TKP_STAT_REF_FAIL = false) (h2 : d.boot.step = .waitRef) : let e := d.refQualified dev; e.isSet TKP_STAT TKP_STAT_REF_OK = true ∧ e.sysState = stProbe ∧ e.boot.step = .probe := by
  intro e
  simp (disch := first | decide | (simp (disch := decide); done) | assumption) [e, Dev.refQualified, Dev.refDev, h0, h1, h2]

/-- REF_QUAL_TIMEOUT. -/
theorem does_refQualTimeout (d : Dev) (dev : Int) (h0 : d.isSet TKP_STAT TKP_STAT_REF_OK = false) (h1 : d.isSet TKP_STAT TKP_STAT_REF_FAIL = false) (h2 : 20 * msTicks ≤ d.since d.boot.relTime) : let e := d.refTimeout dev; e.isSet TKP_STAT TKP_STAT_REF_FAIL = true ∧ logged d e EV_TKP_REF_FAIL ∧ e.boot.step = .stopped := by
  intro e
  simp (disch := first | decide | (simp (disch := decide); done) | assumption) [e, Dev.refTimeout, Dev.refDev, h0, h1, Nat.not_lt.2 h2, h2]

/-- REF_FAIL. -/
theorem does_refFail (d : Dev) (noEdge : Bool) (dev : Int) (h0 : d.isSet TKP_STAT TKP_STAT_REF_OK = true) (h1 : d.isSet TKP_STAT TKP_STAT_REF_FAIL = false) : let e := d.refFail noEdge dev; let m : Dev := (((d.refDev dev).setF TKP_STAT TKP_STAT_REF_FAIL 1).setF TKP_STAT TKP_STAT_RC_MODE 1).evt EV_TKP_REF_FAIL ([if noEdge then 1 else 2, 0] ++ le2 (unsignedOf 16 dev)); m.isSet TKP_STAT TKP_STAT_REF_FAIL = true ∧ m.isSet TKP_STAT TKP_STAT_RC_MODE = true ∧ logged d m EV_TKP_REF_FAIL ∧ e = ((((m.gafferAll EV_TKP_REF_FAIL).forEach (List.range 6) (fun n x => x.whenSome (x.port n).tx (fun q x => x.txOver n q.1))).closeWhere (fun z => z.port < 6)).linkDown) := by
  intro e m
  refine ⟨?_, ?_, ?_, ?_⟩
  · simp (disch := first | decide | (simp (disch := decide); done) | assumption) [m, Dev.refDev]
  · simp (disch := first | decide | (simp (disch := decide); done) | assumption) [m, Dev.refDev]
  · simp (disch := first | decide | (simp (disch := decide); done) | assumption) [m, Dev.refDev]
  · simp [e, m, Dev.refFail, h0, h1]

/-- STIME_LO_READ. -/
theorem does_stimeLoRead (d : Dev) (triad : Fin 4) : let e := (d.readStimeLo triad).2; Tab.getD 0 e.tk.hiLatch triad = (d.now >>> 32).setWidth 32 ∧ e = { d with tk := e.tk } := by
  intro e
  simp [e, Dev.readStimeLo, Tab.getD_set_self]

/-- SLOTEN_WRITE. -/
theorem does_slotenWrite (d : Dev) (triad : Fin 4) (hi : Bool) (v : W) (h0 : triad = 0) (h1 : d.inRun = false) : let e := d.slotEnables triad hi v; e.rd (if hi then TKP_SLOTEN1 else TKP_SLOTEN0) = v ∧ e = d.wr (if hi then TKP_SLOTEN1 else TKP_SLOTEN0) v := by
  intro e
  subst h0
  cases hi <;> simp (disch := first | decide | (simp (disch := decide); done) | assumption) [e, Dev.slotEnables, h1]

/-- VCORE_SCALING_START. -/
theorem does_vcoreScalingStart (d : Dev) (r : Time) (h0 : d.vcore.readyAt = some r) (h1 : secTicks ≤ d.since r) (h2 : d.vcore.scaling = false) : let e := d.vcoreStart; e.vcore.scaling = true ∧ e.vcore.winAt = d.now ∧ e.vcore.ample = true := by
  intro e
  simp [e, Dev.vcoreStart, Dev.freshWindow, h0, h1, h2, Dev.now]

/-- VCORE_WINDOW_END. -/
theorem does_vcoreWindowEnd (d : Dev) (h0 : d.vcore.scaling = true) (h1 : 10 * msTicks ≤ d.since d.vcore.winAt) (h2 : d.isSet SUP_STAT SUP_STAT_WARN = false) (h3 : d.sup.recoveredAt = none) (h4 : d.vcore.ample = true) (h5 : d.vcore.normal = true) (h6 : d.vcore.minSlack = none) : let e := d.vcoreWindow; e.fld SUP_VCORE SUP_VCORE_VCORE = max 720 (d.fld SUP_VCORE SUP_VCORE_VCORE - 5) % 1024 ∧ e.vcore.winAt = d.now := by
  intro e
  have hw : SUP_VCORE_VCORE.wd = 10 := rfl
  simp (disch := first | decide | (simp (disch := decide); done) | assumption) [e, Dev.vcoreWindow, Dev.freshWindow, Dev.when, Dev.whenSome, Dev.now, h0, Nat.not_lt.2 h1, h1, h2, h3, h4, h5, h6, hw]

/-- RTC_OSC_FAIL. -/
theorem does_rtcOscFail (d : Dev) (h0 : d.por = false) (h1 : d.isSet RTC_STAT RTC_STAT_OSCF = false) : let e := if d.por then d else d.rtcOscFail; e.isSet RTC_STAT RTC_STAT_OSCF = true ∧ logged d e EV_RTC_OSC_FAIL ∧ e.rd RTC_SEC = d.rd RTC_SEC := by
  intro e
  simp (disch := first | decide | (simp (disch := decide); done) | assumption) [e, Dev.rtcOscFail, h0, h1]

/-- VBKUP_LOSS. -/
theorem does_vbkupLoss (d : Dev) (h0 : d.por = true) : let e := d.vbkupLoss; e.cal.lostPending = true := by
  intro e
  simp (disch := first | decide | (simp (disch := decide); done) | assumption) [e, Dev.vbkupLoss, h0]

/-- RTC_SETSEC_WRITE. -/
theorem does_rtcSetsecWrite (d : Dev) (sid : Nat) (v : W) (audits : Bool) (x : Session) (h0 : d.sec.sessions.find? (fun z => z.id = sid) = some x) (h1 : audits = true) : let e := d.rtcSetsec sid v audits; e.rd RTC_SETSEC = v ∧ e.cal.loadArmed = true := by
  intro e
  simp (disch := first | decide | (simp (disch := decide); done) | assumption) [e, Dev.rtcSetsec, Dev.setRtc, Dev.whenSome, h0, h1]

/-- RTC_LOAD. -/
theorem does_rtcLoad (d : Dev) (h0 : d.por = false) (h1 : d.cal.loadArmed = true) (h2 : d.fld RTC_SUB RTC_SUB_SUB = 0) : let e := if d.por then d else d.rtcLoad; e.rd RTC_SEC = d.rd RTC_SETSEC ∧ e.rd RTC_SUB = 0 ∧ e.isSet RTC_STAT RTC_STAT_LOST = false ∧ e.cal.loadArmed = false ∧ logged d e EV_RTC_SET := by
  intro e
  simp (disch := first | decide | (simp (disch := decide); done) | assumption) [e, Dev.rtcLoad, h0, h1, h2]

/-- RTC_CAP_GO. -/
theorem does_rtcCapGo (d : Dev) (v : W) (h0 : v.bit 0 = true) (h1 : d.cal.capBusy = false) : let e := d.rtcCapGo v; e.isSet RTC_CAP RTC_CAP_DONE = false ∧ e.cal.capBusy = true := by
  intro e
  simp (disch := first | decide | (simp (disch := decide); done) | assumption) [e, Dev.rtcCapGo, h0, h1]

/-- RTC_CAPTURE_DONE. -/
theorem does_rtcCaptureDone (d : Dev) (edge : Time) (h0 : d.por = false) (h1 : d.cal.capBusy = true) : let e := if d.por then d else d.rtcCapDone edge; e.rd RTC_CAPSEC = d.rd RTC_SEC ∧ e.rd RTC_CAPSUB = d.rd RTC_SUB ∧ e.isSet RTC_CAP RTC_CAP_DONE = true ∧ e.cal.capBusy = false := by
  intro e
  simp (disch := first | decide | (simp (disch := decide); done) | assumption) [e, Dev.rtcCapDone, h0, h1]

/-- RTC_SUB_READ. -/
theorem does_rtcSubRead (d : Dev) (triad : Fin 4) : let e := (d.readRtcSub triad).2; Tab.getD 0 e.cal.latch triad = d.rd RTC_SEC ∧ e = { d with cal := e.cal } := by
  intro e
  simp [e, Dev.readRtcSub, Tab.getD_set_self]

/-- FEED_WIRED. -/
theorem does_feedWired (d : Dev) (f : Fin 2) (va vb : Nat) (h0 : d.por = true) (h1 : 3000 < feedOf f va vb) (h2 : d.sup.wired.contains f.val = false) : let e := d.feedWired f va vb; e.sup.wired = d.sup.wired ++ [f.val] := by
  intro e
  simp only [e, Dev.feedWired]
  rw [if_pos (by simp only [h0, h2, Bool.not_false, Bool.and_true, Bool.true_and, decide_eq_true_eq]; exact h1)]

/-- FEEDS_VALID. -/
theorem does_feedsValid (d : Dev) (va vb : Nat) (h0 : d.por = true) (h1 : d.sup.wired ≠ []) (h2 : ∀ f ∈ d.sup.wired, 7400 < feedOf f va vb) : let e := d.feedsValid va vb; e.sup.valid = true := by
  intro e
  simp only [e, Dev.feedsValid]
  rw [if_pos (by simpa [h0, h1] using h2)]

/-- FEED_MISSING. -/
theorem does_feedMissing (d : Dev) (f : Fin 2) (va vb : Nat) (h0 : d.por = true) (h1 : d.sup.wired.contains f.val = true) (h2 : feedOf f va vb ≤ 7400) (h3 : ∃ g ∈ d.sup.wired, 7400 < feedOf g va vb) : let e := d.feedMissing f va vb; e.sup.valid = true ∧ e.sup.missing = some f.val := by
  intro e
  simp only [e, Dev.feedMissing]
  rw [if_pos (by simp only [Bool.and_eq_true, List.any_eq_true, decide_eq_true_eq]; exact ⟨⟨⟨h0, h1⟩, h2⟩, h3⟩)]
  exact ⟨rfl, rfl⟩

/-- POR_ASSERT. -/
theorem does_porAssert (d : Dev) (va vb : Nat) (h0 : d.por = false) (h1 : d.vin va vb < 5500) : let e := d.porAssert va vb; e.por = true ∧ e.rd SUP_PORCAUSE = 1 ∧ e.sram = [] := by
  intro e
  simp only [e, Dev.porAssert, h0, Nat.not_le.2 h1, if_false, Bool.false_eq_true]
  exact ⟨rfl, by simp, rfl⟩

/-- RAIL_FAULT. -/
theorem does_railFault (d : Dev) (r : Fin 7) (h0 : d.por = false) : let e := d.railFault r; e.por = true ∧ e.rd SUP_PORCAUSE = BitVec.ofNat 32 (2 + 16 * r) := by
  intro e
  simp only [e, Dev.railFault, h0, Bool.false_eq_true, if_false]
  refine ⟨?_, by simp⟩
  unfold Dev.when
  split <;> rfl

/-- SUP_WARNING. -/
theorem does_supWarning (d : Dev) (va vb : Nat) (h0 : d.por = false) (h1 : d.vin va vb < 7000) (h2 : d.sysState < stReady) : let e := if d.por then d else d.supWarning va vb; e.boot.warned = true ∧ e.isSet SUP_STAT SUP_STAT_WARN = d.isSet SUP_STAT SUP_STAT_WARN := by
  intro e
  have hs : (d.feedsFall va vb).sysState = d.sysState := by
    simp only [Dev.sysState, Dev.fld, Dev.feedsFall]
    rw [Dev.markOk_frame _ _ _ _ _ (by decide), Dev.feeds_frame _ _ _ _ (by decide) (by decide)]
  have hw : (d.feedsFall va vb).fld SUP_STAT SUP_STAT_WARN = d.fld SUP_STAT SUP_STAT_WARN := by
    simp only [Dev.feedsFall]
    rw [Dev.markOk_stat _ _ _ _ _ (by decide), Dev.feeds_stat _ _ _ _ (by decide)]
  simp only [e, h0, Dev.supWarning, Nat.not_le.2 h1, hs, h2]
  simp [Dev.isSet, hw]

/-- SUP_WARNING. -/
theorem does_supWarning_run (d : Dev) (va vb : Nat) (h0 : d.por = false) (h1 : d.vin va vb < 7000) (h2 : d.inRun = true) (h3 : d.isSet SUP_STAT SUP_STAT_WARN = false) : let e := if d.por then d else d.supWarning va vb; let m : Dev := (((d.feedsFall va vb).setF SUP_STAT SUP_STAT_WARN 1).setF SUP_FLT SUP_FLT_WARN 1).wr64 SUP_WARNSTAMP_LO SUP_WARNSTAMP_HI (d.feedsFall va vb).now; m.isSet SUP_STAT SUP_STAT_WARN = true ∧ m.isSet SUP_FLT SUP_FLT_WARN = true ∧ e = (m.supEvt EV_SUP_WARNING 0 va vb).warnRest va vb := by
  intro e m
  have hs : (d.feedsFall va vb).sysState = stRun := by
    rw [← (by simpa [Dev.inRun] using h2 : d.sysState = stRun)]
    simp only [Dev.sysState, Dev.fld, Dev.feedsFall]
    rw [Dev.markOk_frame _ _ _ _ _ (by decide), Dev.feeds_frame _ _ _ _ (by decide) (by decide)]
  have hf : (d.feedsFall va vb).fld SUP_STAT SUP_STAT_WARN = d.fld SUP_STAT SUP_STAT_WARN := by
    simp only [Dev.feedsFall]
    rw [Dev.markOk_stat _ _ _ _ _ (by decide), Dev.feeds_stat _ _ _ _ (by decide)]
  have hw : (d.feedsFall va vb).isSet SUP_STAT SUP_STAT_WARN = false := by
    rw [← h3]; simp [Dev.isSet, hf]
  refine ⟨?_, ?_, ?_⟩
  · simp (disch := first | decide | (simp (disch := decide); done) | assumption) [m]
  · simp (disch := first | decide | (simp (disch := decide); done) | assumption) [m]
  · have hr : (d.feedsFall va vb).inRun = true := by simp [Dev.inRun, hs]
    simp only [e, h0, Dev.supWarning, Nat.not_le.2 h1, hr, hw]
    rw [hs]
    rfl

/-- SUP_RECOVERY_START. -/
theorem does_supRecoveryStart (d : Dev) (va vb : Nat) (h0 : d.por = false) (h1 : d.isSet SUP_STAT SUP_STAT_WARN = true) (h2 : d.isSet SUP_STAT SUP_STAT_RECOVERING = false) (h3 : 7400 < d.vin va vb) : let e := if d.por then d else d.recoveryStart va vb; e.isSet SUP_STAT SUP_STAT_RECOVERING = true ∧ e.sup.recovAt = d.now := by
  intro e
  simp only [e, h0, Dev.recoveryStart, h1, h2, Nat.not_le.2 h3]
  refine ⟨?_, ?_⟩
  · simp only [Bool.false_eq_true, if_false, Bool.not_true, Bool.or_self, decide_false, Dev.isSet_mk]
    simp only [Dev.isSet]
    rw [Dev.markOk_stat _ _ _ _ _ (by decide)]
    simp (disch := first | decide | (simp (disch := decide); done) | assumption)
  · simp only [Bool.false_eq_true, if_false, Bool.not_true, Bool.or_self, decide_false]
    rw [Dev.markOk_other]
    rfl

/-- SUP_RECOVERY_ABORT. -/
theorem does_supRecoveryAbort (d : Dev) (va vb : Nat) (h0 : d.por = false) (h1 : d.isSet SUP_STAT SUP_STAT_RECOVERING = true) (h2 : d.vin va vb < 7000) : let e := if d.por then d else d.recoveryAbort va vb; e.isSet SUP_STAT SUP_STAT_RECOVERING = false := by
  intro e
  simp (disch := first | decide | (simp (disch := decide); done) | assumption) [e, h0, Dev.recoveryAbort, h1, h2]

/-- SUP_RECOVERED. -/
theorem does_supRecovered (d : Dev) (va vb : Nat) (h0 : d.por = false) (h1 : d.isSet SUP_STAT SUP_STAT_RECOVERING = true) (h2 : 5 * msTicks ≤ d.since d.sup.recovAt) : let e := if d.por then d else d.recovered va vb; e.isSet SUP_STAT SUP_STAT_WARN = false ∧ e.isSet SUP_STAT SUP_STAT_RECOVERING = false ∧ e.sup.recoveredAt = some d.now := by
  intro e
  simp (disch := first | decide | (simp (disch := decide); done) | assumption) [e, h0, Dev.recovered, h1, Nat.not_lt.2 h2, Dev.forEach, Dev.modChg, Dev.supEvt, Dev.now, Dev.feeds]

/-- FEED_LOST. -/
theorem does_feedLost (d : Dev) (f : Fin 2) (va vb : Nat) (h0 : d.por = false) (h1 : feedOf f va vb < 7000) (h2 : 7000 ≤ d.vin va vb) (h3 : d.isSet SUP_STAT (okField f) = true) : let e := if d.por then d else d.feedLost f va vb; e.isSet SUP_STAT (okField f) = false ∧ e.isSet SUP_FLT SUP_FLT_FEEDLOST = true ∧ logged (((d.feeds va vb).setF SUP_STAT (okField f) 0).setF SUP_FLT SUP_FLT_FEEDLOST 1) e EV_SUP_FEED_LOST ∧ e = (((d.feeds va vb).setF SUP_STAT (okField f) 0).setF SUP_FLT SUP_FLT_FEEDLOST 1).supEvt EV_SUP_FEED_LOST f va vb := by
  intro e
  have hk : (okField f).lo + (okField f).wd ≤ 32 := by unfold okField; split <;> decide
  have he : e = ((((d.feeds va vb).setF SUP_STAT (okField f) 0).setF SUP_FLT SUP_FLT_FEEDLOST 1).supEvt EV_SUP_FEED_LOST f va vb) := by
    simp only [e, h0, Dev.feedLost]
    simp [h1, h2, h3]
  rw [he]
  refine ⟨?_, ?_, logged_evt _ _ _, rfl⟩
  · simp (disch := first | decide | (simp (disch := decide); done) | assumption) [Dev.supEvt]
  · simp (disch := first | decide | (simp (disch := decide); done) | assumption) [Dev.supEvt]

/-- FEED_RETURN. -/
theorem does_feedReturn (d : Dev) (f : Fin 2) (va vb : Nat) (h0 : d.por = false) (h1 : 7400 < feedOf f va vb) (h2 : d.isSet SUP_STAT (okField f) = false) : let e := if d.por then d else d.feedReturn f va vb; e.isSet SUP_STAT (okField f) = true ∧ logged ((d.feeds va vb).setF SUP_STAT (okField f) 1) e EV_SUP_FEED_RETURN ∧ e = ((d.feeds va vb).setF SUP_STAT (okField f) 1).supEvt EV_SUP_FEED_RETURN f va vb := by
  intro e
  have hk : (okField f).lo + (okField f).wd ≤ 32 := by unfold okField; split <;> decide
  have hw : (okField f).wd = 1 := by unfold okField; split <;> rfl
  have he : e = (((d.feeds va vb).setF SUP_STAT (okField f) 1).supEvt EV_SUP_FEED_RETURN f va vb) := by
    simp only [e, h0, Dev.feedReturn]
    simp [h1, h2]
  rw [he]
  refine ⟨?_, logged_evt _ _ _, rfl⟩
  simp (disch := first | decide | (simp (disch := decide); done) | assumption) [Dev.supEvt, hw]

/-- OVERVOLTAGE. -/
theorem does_overvoltage (d : Dev) (f : Fin 2) (va vb : Nat) (h0 : d.por = false) (h1 : 40000 < feedOf f va vb) (h2 : d.sup.ov.contains f.val = false) : let e := if d.por then d else d.overvoltage f va vb; e.sup.ov = d.sup.ov ++ [f.val] ∧ e.isSet SUP_STAT SUP_STAT_OV = true ∧ e.isSet SUP_FLT SUP_FLT_OV = true := by
  intro e
  have he : e = (((({ d with sup := { d.sup with ov := d.sup.ov ++ [f.val] } } : Dev).feeds va vb).setF SUP_STAT SUP_STAT_OV 1).setF SUP_FLT SUP_FLT_OV 1).supEvt EV_SUP_OVERVOLTAGE f va vb := by
    simp only [e, h0, Dev.overvoltage, h1, h2]
    rfl
  rw [he]
  simp (disch := first | decide | (simp (disch := decide); done) | assumption) [Dev.supEvt, Dev.feeds]

/-- OV_RECONNECT. -/
theorem does_ovReconnect (d : Dev) (f : Fin 2) (va vb : Nat) (h0 : d.por = false) (h1 : feedOf f va vb < 39000) (h2 : d.sup.ov.contains f.val = true) : let e := if d.por then d else d.ovReconnect f va vb; e.sup.ov = d.sup.ov.filter (· ≠ f.val) ∧ e.isSet SUP_STAT SUP_STAT_OV = !(d.sup.ov.filter (· ≠ f.val)).isEmpty := by
  intro e
  have he : e = (let x := ({ d with sup := { d.sup with ov := d.sup.ov.filter (· ≠ f.val) } } : Dev).feeds va vb; x.setF SUP_STAT SUP_STAT_OV (b2n (!x.sup.ov.isEmpty))) := by
    simp only [e, h0, Dev.ovReconnect, h1, h2]
    rfl
  rw [he]
  refine ⟨rfl, ?_⟩
  have hv : ∀ b : Bool, decide (b2n b % 2 ^ SUP_STAT_OV.wd ≠ 0) = b := by decide
  dsimp only
  rw [Dev.isSet_setF_self _ _ _ _ (by decide), hv]
  rfl

/-- VBKUP_MEASURE. -/
theorem does_vbkupMeasure (d : Dev) (mv : Nat) (h0 : d.por = false) (h1 : mv < 2000) : let e := if d.por then d else d.vbkupMeasure mv; e.sup.vbk = mv ∧ e.isSet RTC_STAT RTC_STAT_VBKUP_LOW = true := by
  intro e
  simp (disch := first | decide | (simp (disch := decide); done) | assumption) [e, h0, Dev.vbkupMeasure, h1, b2n]

/-- STORM_CLEAR. -/
theorem does_stormClear (d : Dev) (h0 : d.por = false) (h1 : d.isSet SUP_STAT SUP_STAT_STORM = true) (h2 : d.dips60 ≤ 10) : let e := if d.por then d else d.stormClear; e.isSet SUP_STAT SUP_STAT_STORM = false := by
  intro e
  simp (disch := first | decide | (simp (disch := decide); done) | assumption) [e, h0, Dev.stormClear, h1, h2]

/-- POR_RELEASE. -/
theorem does_porRelease (d : Dev) (cycles va vb : Nat) (h0 : d.por = true) (h1 : d.sup.valid = true) (h2 : d.sup.missing = none) : let e := d.porRelease cycles va vb; e.por = false ∧ e.boot.step = .waitRef ∧ logged (d.powerUp cycles va vb) e EV_SUP_POR_CAUSE := by
  intro e
  obtain ⟨hp, hb, hm⟩ := Dev.powerUp_up cycles va vb d
  have hm' : ∀ (c : List Nat), ((d.powerUp cycles va vb).evt EV_SUP_POR_CAUSE c).sup.missing = none := by
    intro c; rw [Dev.evt_sup, hm]; exact h2
  simp only [e, Dev.porRelease, h0, h1, Bool.not_true, Bool.or_self, Bool.false_eq_true, if_false]
  rw [Dev.whenSome_none _ _ _ (hm' _)]
  exact ⟨by simpa using hp, by simpa using hb, by simp (disch := first | decide | (simp (disch := decide); done) | assumption)⟩

end Sys2Proof.Machine
end

