-- ==== Sys2Proof/Laws/Redundant.lean ====
section
/-! SUPPORT. What the commands of redundant execution, the watchdogs and the safety queue do (chapter 12). -/

namespace Sys2Proof.Machine

theorem reqEnable_eq (d : Dev) (f st : Nat) : d.reqEnable f st = { d.fnRequest f st with red := { (d.fnRequest f st).red with reqEnable := withBits (d.fnRequest f st).red.reqEnable f 1 1 } } := by
  unfold Dev.reqEnable
  generalize d.fnRequest f st = m
  rfl
theorem reqDisable_eq (d : Dev) (f st : Nat) : d.reqDisable f st = { d.fnRequest f st with red := { (d.fnRequest f st).red with reqDisable := withBits (d.fnRequest f st).red.reqDisable f 1 1 } } := by
  unfold Dev.reqDisable
  generalize d.fnRequest f st = m
  rfl
theorem logged_fnRequest (d : Dev) (f st : Nat) : logged d (d.fnRequest f st) EV_RED_FN_REQUEST := by
  unfold Dev.fnRequest
  exact logged_evt _ _ _
theorem reqSafe_eq (d : Dev) (f st : Nat) (h0 : (d.func f).isSome = true) (h1 : st ≠ 5) (h2 : st ≠ 6)
    (h3 : permitted (d.funcD f).kind (if st = 7 then (d.funcD f).safe else st) = true) :
    d.reqSafe f st = { d.fnRequest f st with red := { (d.fnRequest f st).red with reqSafe := Tab.set f (if st = 7 then (d.funcD f).safe else st) (d.fnRequest f st).red.reqSafe } } := by
  unfold Dev.reqSafe
  have hi : (d.fnRequest f st).img = d.img := Dev.evt_img _ _ _
  have hf : (d.fnRequest f st).func f = d.func f := by unfold Dev.func; rw [hi]
  have hd : (d.fnRequest f st).funcD f = d.funcD f := by unfold Dev.funcD; rw [hi]
  dsimp only
  rw [hf, hd, h0, h3, if_neg (by simp [h1, h2])]

/-- TRIAD_MINORITY. -/
theorem does_triadMinority (d : Dev) (k : Fin 4) (c : Fin 3) (h0 : d.triadLive k = true) (h1 : 3 ≤ (d.serving k).length) : let e := d.triadMinority k c; let m := (d.minority k c).setF RED_FLT RED_FLT_MINORITY 1; e = (m.evt EV_RED_TRIAD_MINORITY (le2 (resId 1 (coreId k c)) ++ [k.val])).gust 1 (coreId k c) := by
  intro e m
  simp only [e]; unfold Dev.triadMinority
  rw [h0, if_neg (by simpa using h1)]

/-- TRIAD_RESYNC. -/
theorem does_triadResync (d : Dev) (k : Fin 4) (q : Nat) (h0 : (List.range 3).find? (fun c => (d.rebuilding k).testBit c) = some q) (h1 : d.triadLive k = true) (h2 : d.inAssured k = false) (h3 : d.isSet (RED_TSTAT k) RED_TSTAT_RESTARTING = false) : let e := d.triadResync k; let m := (d.checkpoint k).setF (RED_TSTAT k) RED_TSTAT_REBUILD 0; e = ((m.setTmode k (if m.isSet (RED_TSTAT k) RED_TSTAT_DEGRADED then tmDual else tmTriple)).incSat (RED_TCNT k) RED_TCNT_RESYNCS).evt EV_RED_TRIAD_RESYNC (le2 (resId 1 (coreId k q)) ++ [k.val]) := by
  intro e m
  simp only [e]; unfold Dev.triadResync
  rw [h0]
  dsimp only
  rw [h1, h2, h3, if_neg (by decide)]

/-- TRIAD_CHECKPOINT. -/
theorem does_triadCheckpoint (d : Dev) (k : Fin 4) (minority : Option (Fin 3)) (split : Bool) (h0 : d.triadLive k = true) (h1 : d.inAssured k = false) (h2 : d.isSet (RED_TSTAT k) RED_TSTAT_RESTARTING = false) (h3 : minority = none) (h4 : split = false) : let e := d.triadCheckpoint k minority split; e = d.checkpoint k ∧ e.rd64 (RED_TCKPT_LO k) (RED_TCKPT_HI k) = d.now ∧ (e.triad k).ckpt = (d.triad k).core ∧ (e.triad k).undo = [] := by
  intro e
  simp only [e]; unfold Dev.triadCheckpoint
  rw [h0, h1, h2, h3, h4, if_neg (by decide), if_neg (by decide)]
  refine ⟨rfl, ?_, ?_, ?_⟩
  · unfold Dev.checkpoint Dev.wr64 Dev.rd64
    rw [Dev.rd_wr_self, Dev.rd_wr_ne _ _ _ _ ((by decide : ∀ k : Fin 4, RED_TCKPT_LO k ≠ RED_TCKPT_HI k) k), Dev.rd_wr_self]
    apply BitVec.eq_of_toNat_eq
    simp only [BitVec.toNat_ofNat, BitVec.toNat_setWidth, BitVec.toNat_ushiftRight, Nat.shiftRight_eq_div_pow]
    omega
  · show (Tab.getD default (Tab.set k.val _ d.triads) k.val).ckpt = _
    rw [Tab.getD_set_self]
  · show (Tab.getD default (Tab.set k.val _ d.triads) k.val).undo = _
    rw [Tab.getD_set_self]

/-- TRIAD_CHECKPOINT. -/
theorem does_triadCheckpoint_split (d : Dev) (k : Fin 4) (minority : Option (Fin 3)) (split : Bool) (h0 : d.triadLive k = true) (h1 : d.inAssured k = false) (h2 : d.isSet (RED_TSTAT k) RED_TSTAT_RESTARTING = false) (h3 : split = true) : let e := d.triadCheckpoint k minority split; e = d.triadDisagree k [] := by
  intro e
  simp only [e]; unfold Dev.triadCheckpoint
  rw [h0, h1, h2, h3, if_neg (by decide), if_pos (show true = true from rfl)]

/-- TRIAD_CHECKPOINT. -/
theorem does_triadCheckpoint_minority (d : Dev) (k : Fin 4) (minority : Option (Fin 3)) (split : Bool) (q : Fin 3) (h0 : d.triadLive k = true) (h1 : d.inAssured k = false) (h2 : d.isSet (RED_TSTAT k) RED_TSTAT_RESTARTING = false) (h3 : minority = some q) (h4 : split = false) (h5 : 3 ≤ (d.serving k).length) : let e := d.triadCheckpoint k minority split; let m := ((((d.checkpoint k).minority k q).setF RED_FLT RED_FLT_LATENT 1).incSat (RED_TCNT k) RED_TCNT_LATENT); e = (m.evt EV_RED_TRIAD_LATENT (le2 (resId 1 (coreId k q)) ++ [k.val])).gust 1 (coreId k q) := by
  intro e m
  simp only [e]; unfold Dev.triadCheckpoint
  rw [h0, h1, h2, h3, h4, if_neg (by decide), if_neg (by decide)]
  dsimp only
  rw [if_neg (Nat.not_lt.2 h5)]

/-- TRIAD_RESTART. -/
theorem does_triadRestart (d : Dev) (k : Fin 4) (kat : List (Fin 3)) (h0 : d.triadLive k = true) (h1 : ((d.testUndone k).disagreeCharge k (d.serving k) (kat.map Fin.val) d.sysState).triadLive k = true) (h2 : ((d.testUndone k).disagreeCharge k (d.serving k) (kat.map Fin.val) d.sysState).sysState = d.sysState) (h3 : ((d.testUndone k).triad k).restarts < 3) : let e := d.triadRestart k kat; let m := (d.testUndone k).disagreeCharge k (d.serving k) (kat.map Fin.val) d.sysState; e = m.goBack k := by
  intro e m
  simp only [e]; unfold Dev.triadRestart
  rw [h0, if_pos (show true = true from rfl)]
  unfold Dev.triadDisagree
  dsimp only
  rw [h1, h2, if_neg (by simp), if_neg (by omega)]

/-- TRIAD_RESTART. -/
theorem does_triadRestart_halt (d : Dev) (k : Fin 4) (kat : List (Fin 3)) (h0 : d.triadLive k = true) (h1 : ((d.testUndone k).disagreeCharge k (d.serving k) (kat.map Fin.val) d.sysState).triadLive k = true) (h2 : ((d.testUndone k).disagreeCharge k (d.serving k) (kat.map Fin.val) d.sysState).sysState = d.sysState) (h3 : 3 ≤ ((d.testUndone k).triad k).restarts) : let e := d.triadRestart k kat; let m := (d.testUndone k).disagreeCharge k (d.serving k) (kat.map Fin.val) d.sysState; e = m.haltTriad k := by
  intro e m
  simp only [e]; unfold Dev.triadRestart
  rw [h0, if_pos (show true = true from rfl)]
  unfold Dev.triadDisagree
  dsimp only
  rw [h1, h2, if_neg (by simp), if_pos h3]

/-- REPLAY_DONE. -/
theorem does_replayDone (d : Dev) (k : Fin 4) (h0 : d.isSet (RED_TSTAT k) RED_TSTAT_RESTARTING = true) (h1 : (d.triad k).replay = []) : let e := d.replayDone k; let m := (d.setF (RED_TSTAT k) RED_TSTAT_RESTARTING 0).modTriad k (fun x => { x with replaying := false }); e = m.when (k.val = 0) (fun x => x.setF RED_STAT RED_STAT_DEPUTY 0) := by
  intro e m
  simp only [e]; unfold Dev.replayDone
  rw [h0, h1]
  rfl

/-- GUST_DECAY. -/
theorem does_gustDecay (d : Dev) (h0 : d.inRun = true) (h1 : d.now.toNat % (10 * secTicks) = 0) : let e := d.gustDecay; e = d.forEach (d.red.gusts.map (·.1)) Dev.gustDown := by
  intro e
  simp only [e]; unfold Dev.gustDecay
  rw [h0, h1]
  rfl

/-- CULLET_PERSIST. -/
theorem does_culletPersist (d : Dev) (h0 : d.red.cull.any (fun c => !c.persisted) = true) : let e := d.cullPersist; let xs := d.red.cull.map (fun c => { c with persisted := true }); e = ({ d with red := { d.red with cull := xs, cullA := xs, cullB := xs, cullAok := true, cullBok := true } } : Dev) := by
  intro e xs
  simp only [e]; unfold Dev.cullPersist
  rw [h0]
  rfl

/-- FNCMD_ENTER. -/
theorem does_fncmdEnter (d : Dev) (triad : Fin 4) (all : Bool) (f : Fin 32) (st : Fin 8) (cause : Fin 65536) (h0 : triad.val = 0) (h1 : all = false) (h2 : (d.func f).isSome = true) (h3 : permitted (d.funcD f).kind st = true) (h4 : d.inSafe f = false) (h5 : Tab.has d.red.reqSafe f = false) : let e := d.fnCmd triad all f (fun f d => d.cmdEnter f st cause); e = d.enterSafe f st cause := by
  intro e
  simp only [e]; skip
  unfold Dev.fnCmd
  rw [if_neg (by rw [h0]; decide), h1]
  rw [if_neg (show ¬ false = true by decide), Dev.forEach_cons, Dev.forEach_nil]
  unfold Dev.cmdEnter
  rw [h2, if_neg (by decide)]
  dsimp only
  rw [h5]
  unfold Dev.safeCommand
  rw [h2, h3, h4]
  rfl

/-- FNCMD_ENTER. -/
theorem does_fncmdEnter_all (d : Dev) (triad : Fin 4) (all : Bool) (f : Fin 32) (st : Fin 8) (cause : Fin 65536) (h0 : triad.val = 0) (h1 : all = true) : let e := d.fnCmd triad all f (fun f d => d.cmdEnter f st cause); e = d.forEach d.fns (fun f x => x.cmdEnter f st cause) := by
  intro e
  simp only [e]; skip
  unfold Dev.fnCmd
  rw [if_neg (by rw [h0]; decide), h1, if_pos (show true = true from rfl)]

/-- FNCMD_ENTER. -/
theorem does_fncmdEnter_locked (d : Dev) (triad : Fin 4) (all : Bool) (f : Fin 32) (st : Fin 8) (cause : Fin 65536) (h0 : triad.val ≠ 0) : let e := d.fnCmd triad all f (fun f d => d.cmdEnter f st cause); e = d.lockedWrite triad RED_FNCMD := by
  intro e
  simp only [e]; skip
  unfold Dev.fnCmd
  rw [if_pos h0]

/-- FNCMD_ENABLE. -/
theorem does_fncmdEnable (d : Dev) (triad : Fin 4) (all : Bool) (f : Fin 32) (h0 : triad.val = 0) (h1 : all = false) (h2 : (d.func f).isSome = true) (h3 : d.enabled f = false) (h4 : d.red.enabling.testBit f = false) (h5 : d.red.reqEnable.testBit f = true) (h6 : d.asserted (d.fnGroup f) = false) (h7 : d.mayEnable f = true) : let e := d.fnCmd triad all f (fun f d => d.cmdEnable f); e = d.startEnable f := by
  intro e
  simp only [e]; skip
  unfold Dev.fnCmd
  rw [if_neg (by rw [h0]; decide), h1]
  rw [if_neg (show ¬ false = true by decide), Dev.forEach_cons, Dev.forEach_nil]
  unfold Dev.cmdEnable
  rw [h2, h3, h4, h5, if_neg (by decide)]
  rw [h6, if_neg (by decide), h7, if_pos (show true = true from rfl)]

/-- FNCMD_ENABLE. -/
theorem does_fncmdEnable_tripped (d : Dev) (triad : Fin 4) (all : Bool) (f : Fin 32) (h0 : triad.val = 0) (h1 : all = false) (h2 : (d.func f).isSome = true) (h3 : d.enabled f = false) (h4 : d.red.enabling.testBit f = false) (h5 : d.red.reqEnable.testBit f = true) (h6 : d.asserted (d.fnGroup f) = true) : let e := d.fnCmd triad all f (fun f d => d.cmdEnable f); e = (d.evt EV_TRP_ENABLE_REFUSED [d.fnGroup f, f.val]).enableOutcome f false := by
  intro e
  simp only [e]; skip
  unfold Dev.fnCmd
  rw [if_neg (by rw [h0]; decide), h1]
  rw [if_neg (show ¬ false = true by decide), Dev.forEach_cons, Dev.forEach_nil]
  unfold Dev.cmdEnable
  rw [h2, h3, h4, h5, if_neg (by decide)]
  rw [h6, if_pos (show true = true from rfl)]

/-- FNCMD_ENABLE. -/
theorem does_fncmdEnable_all (d : Dev) (triad : Fin 4) (all : Bool) (f : Fin 32) (h0 : triad.val = 0) (h1 : all = true) : let e := d.fnCmd triad all f (fun f d => d.cmdEnable f); e = d.forEach d.fns (fun f x => x.cmdEnable f) := by
  intro e
  simp only [e]; skip
  unfold Dev.fnCmd
  rw [if_neg (by rw [h0]; decide), h1, if_pos (show true = true from rfl)]

/-- FNCMD_DISABLE. -/
theorem does_fncmdDisable (d : Dev) (triad : Fin 4) (all : Bool) (f : Fin 32) (h0 : triad.val = 0) (h1 : all = false) (h2 : (d.func f).isSome = true) : let e := d.fnCmd triad all f (fun f d => d.cmdDisable f); let m := d.disableFn f; e = (m.when (d.red.enabling.testBit f) (fun x => x.enableOutcome f false)).disableOutcome f := by
  intro e m
  simp only [e]; skip
  unfold Dev.fnCmd
  rw [if_neg (by rw [h0]; decide), h1]
  rw [if_neg (show ¬ false = true by decide), Dev.forEach_cons, Dev.forEach_nil]
  unfold Dev.cmdDisable
  rw [h2, if_neg (by decide)]

/-- FNCMD_ACK. -/
theorem does_fncmdAck (d : Dev) (triad : Fin 4) (all : Bool) (f : Fin 32) (h0 : triad.val = 0) (h1 : all = false) (h2 : d.red.ackGiven.testBit f = true) : let e := d.fnCmd triad all f (fun f d => d.cmdAck f); let m := ({ d with red := { d.red with ackGiven := withBits d.red.ackGiven f 1 0 } } : Dev).setF (RED_FNSTATE f) RED_FNSTATE_LATCHED 0; e = (m.forEach (m.fnAxus f) Dev.ackAxis).sendFn f := by
  intro e m
  simp only [e]; skip
  unfold Dev.fnCmd
  rw [if_neg (by rw [h0]; decide), h1]
  rw [if_neg (show ¬ false = true by decide), Dev.forEach_cons, Dev.forEach_nil]
  unfold Dev.cmdAck
  rw [h2, if_neg (by decide)]

/-- FNREQ_ENABLE. -/
theorem does_fnreqEnable (d : Dev) (f : Fin 32) (st : Fin 8) : let e := d.reqEnable f st; let m := d.fnRequest f st; e = ({ m with red := { m.red with reqEnable := withBits m.red.reqEnable f 1 1 } } : Dev) ∧ logged d m EV_RED_FN_REQUEST := by
  exact ⟨reqEnable_eq d f st, logged_fnRequest d f st⟩

/-- FNREQ_DISABLE. -/
theorem does_fnreqDisable (d : Dev) (f : Fin 32) (st : Fin 8) : let e := d.reqDisable f st; let m := d.fnRequest f st; e = ({ m with red := { m.red with reqDisable := withBits m.red.reqDisable f 1 1 } } : Dev) ∧ logged d m EV_RED_FN_REQUEST := by
  exact ⟨reqDisable_eq d f st, logged_fnRequest d f st⟩

/-- FNREQ_SAFE. -/
theorem does_fnreqSafe (d : Dev) (f : Fin 32) (st : Fin 8) (h0 : (d.func f).isSome = true) (h1 : st.val ≠ 5) (h2 : st.val ≠ 6) (h3 : permitted (d.funcD f).kind (if st.val = 7 then (d.funcD f).safe else st) = true) : let e := d.reqSafe f st; let m := d.fnRequest f st; e = ({ m with red := { m.red with reqSafe := Tab.set f.val (if st.val = 7 then (d.funcD f).safe else st.val) m.red.reqSafe } } : Dev) := by
  exact reqSafe_eq d f st h0 h1 h2 h3

/-- BRAKE_TIMEOUT. -/
theorem does_brakeTimeout (d : Dev) (f : Fin 32) (h0 : d.inSafe f = true) (h1 : d.fld (RED_FNSTATE f) RED_FNSTATE_STATE = sfBrake) (h2 : d.isSet (RED_FNSTATE f) RED_FNSTATE_BRKOFF = false) (h3 : d.fld (RED_FNSAFE f) RED_FNSAFE_BRKTIME * msTicks ≤ d.since (Tab.getD 0 d.red.brakeAt f)) : let e := d.brakeTimeout f; let m := d.setF (RED_FNSTATE f) RED_FNSTATE_BRKOFF 1; e = (m.forEach (m.fnLegs f) (fun n x => x.legRefresh n)).sendFn f := by
  intro e m
  simp only [e]; unfold Dev.brakeTimeout
  dsimp only
  rw [h0, h1, h2, if_pos (by simpa using h3)]

/-- T0_KICK. -/
theorem does_t0Kick (d : Dev) (triad : Fin 4) (v : W) (h0 : triad.val = 0) (h1 : v.fld RED_T0KICK_KICK = 0xC3) : let e := d.t0Kick triad v; e = ({ d with red := { d.red with lastKick := d.now } } : Dev) := by
  intro e
  simp only [e]; unfold Dev.t0Kick
  rw [if_neg (by rw [h0]; decide), if_pos h1]

/-- T0_KICK. -/
theorem does_t0Kick_locked (d : Dev) (triad : Fin 4) (v : W) (h0 : triad.val ≠ 0) : let e := d.t0Kick triad v; e = d.lockedWrite triad RED_T0KICK ∧ e.red = d.red := by
  intro e
  simp only [e]; unfold Dev.t0Kick
  rw [if_pos h0]
  exact ⟨rfl, Dev.lockedWrite_red _ _ _⟩

/-- T0_KICK_MISSED. -/
theorem does_t0KickMissed (d : Dev) (h0 : d.triadLive 0 = true) (h1 : 2 * msTicks ≤ d.since d.red.lastKick) (h2 : d.missedAgain = false) : let e := d.t0Missed; let m := ({ d.setF RED_FLT RED_FLT_T0KICK 1 with red := { d.red with lastMissed := some d.now, lastKick := d.now } } : Dev); e = m.goBack 0 := by
  intro e m
  simp only [e]; unfold Dev.t0Missed
  rw [h0, if_neg (by simpa using h1)]
  dsimp only
  rw [h2]
  rfl

/-- T0_KICK_MISSED. -/
theorem does_t0KickMissed_fatal (d : Dev) (h0 : d.triadLive 0 = true) (h1 : 2 * msTicks ≤ d.since d.red.lastKick) (h2 : d.missedAgain = true) : let e := d.t0Missed; let m := ({ d.setF RED_FLT RED_FLT_T0KICK 1 with red := { d.red with lastMissed := some d.now, lastKick := d.now } } : Dev); e = m.fatal EV_RED_T0_FATAL := by
  intro e m
  simp only [e]; unfold Dev.t0Missed
  rw [h0, if_neg (by simpa using h1)]
  dsimp only
  rw [h2]
  rfl

/-- WDG_KICK. -/
theorem does_wdgKick (d : Dev) (triad : Fin 4) (n : Fin 16) (v : W) (h0 : triad.val = d.fld (RED_WDGCFG n) RED_WDGCFG_TRIAD) (h1 : v.bit 0 = true) (h2 : d.isSet (RED_WDGCFG n) RED_WDGCFG_EN = true) (h3 : d.inRun = true) (h4 : (Tab.getD default d.red.wdg n).started = false ∨ d.fld (RED_WDGCFG n) RED_WDGCFG_OPEN * wdgTicks ≤ d.since (Tab.getD default d.red.wdg n : Wdg).lastKick) : let e := d.wdgKick triad n v; e = ({ d with red := { d.red with wdg := Tab.set n.val ⟨true, d.now⟩ d.red.wdg } } : Dev) := by
  intro e
  simp only [e]; unfold Dev.wdgKick
  rw [if_neg (by rw [h0]; simp), h1, h2, h3, if_neg (by simp)]
  dsimp only
  rw [if_neg]
  rcases h4 with h | h
  · rw [h]; simp
  · simp only [Bool.and_eq_true, decide_eq_true_eq, not_and, Nat.not_lt]
    exact fun _ => h

/-- WDG_KICK. -/
theorem does_wdgKick_early (d : Dev) (triad : Fin 4) (n : Fin 16) (v : W) (h0 : triad.val = d.fld (RED_WDGCFG n) RED_WDGCFG_TRIAD) (h1 : v.bit 0 = true) (h2 : d.isSet (RED_WDGCFG n) RED_WDGCFG_EN = true) (h3 : d.inRun = true) (h4 : (Tab.getD default d.red.wdg n).started = true) (h5 : d.since (Tab.getD default d.red.wdg n : Wdg).lastKick < d.fld (RED_WDGCFG n) RED_WDGCFG_OPEN * wdgTicks) : let e := d.wdgKick triad n v; e = d.wdgMiss n true := by
  intro e
  simp only [e]; unfold Dev.wdgKick
  rw [if_neg (by rw [h0]; simp), h1, h2, h3, if_neg (by simp)]
  dsimp only
  rw [h4, if_pos (by simpa using h5)]

/-- WDG_MISS. -/
theorem does_wdgMiss (d : Dev) (n : Fin 16) (h0 : (Tab.getD default d.red.wdg n).started = true) (h1 : d.isSet (RED_WDGCFG n) RED_WDGCFG_EN = true) (h2 : d.fld (RED_WDGCFG n) RED_WDGCFG_CLOSE * wdgTicks ≤ d.since (Tab.getD default d.red.wdg n : Wdg).lastKick) : let e := d.wdgLate n; e = d.wdgMiss n false := by
  intro e
  simp only [e]; unfold Dev.wdgLate
  dsimp only
  rw [h0, h1, if_pos (by simpa using h2)]

/-- SAFEQ_READ. -/
theorem does_safeqRead (d : Dev) (x : Nat) (r : List Nat) (h0 : d.safeq = x :: r) : let e := d.safeqPop.2; e = ({ d with safeq := r } : Dev).when r.isEmpty (fun y => y.dropLine 0 8) ∧ e.safeq = r := by
  intro e
  simp only [e]; unfold Dev.safeqPop
  rw [h0]
  refine ⟨rfl, ?_⟩
  show (({ d with safeq := r } : Dev).when r.isEmpty (fun y => y.dropLine 0 8)).safeq = r
  cases r <;> rfl

end Sys2Proof.Machine
end

