-- ==== Sys2Proof/Laws/Secure.lean ====
section
/-! SUPPORT. What the messages and requests of sessions do (chapter 19). -/

namespace Sys2Proof.Machine

theorem hasRight_setSession (d : Dev) (sid : Nat) (y x : Session) (op : Nat) : (d.setSession sid y).hasRight x op = d.hasRight x op := by
  unfold Dev.hasRight Dev.setSession Dev.putSessions
  rw [Dev.sysState_setF _ _ _ _ (by decide), Dev.sysState_mk]

theorem audited_true (act : Session → Dev → Dev) (x : Session) (d : Dev) : Dev.audited true act x d = act x d := rfl

theorem audited_false (act : Session → Dev → Dev) (x : Session) (d : Dev) (h : (act x d).sec.audHead ≠ d.sec.audHead) :
    Dev.audited false act x d = d.result x rcNoAudit [] := by
  unfold Dev.audited
  rw [if_neg (by simpa using h)]

/-- A genuine request of an open session with the right to its operation: CTR and the time of use stand in the session, then
the operation runs. -/
theorem request_done (d : Dev) (port ctag sid ctr op : Nat) (args auth : List Byte) (act : Session → Dev → Dev) (x : Session)
    (h0 : d.sec.sessions.find? (fun s => s.id = sid && s.port = port && s.ctag = ctag) = some x)
    (h1 : d.genuine x ctr op args auth = true) (h2 : d.hasRight x op = true) :
    d.request port ctag sid ctr op args auth act = act (x.used ctr d.now) (d.setSession sid (x.used ctr d.now)) := by
  unfold Dev.request
  rw [h0]
  dsimp only
  rw [h1, if_neg (by decide), hasRight_setSession, h2, if_pos rfl]

/-- OPEN. -/
theorem does_open (d : Dev) (port ctag role key : Nat) (cnonce : List Byte) (h0 : d.secOpen port = true) (h1 : d.openDenied port ctag role key = none) : let e := d.secOpenMsg port ctag role key cnonce; e = d.challenge port ctag role key cnonce := by
  intro e
  simp only [e]
  unfold Dev.secOpenMsg
  rw [h0, h1]
  rfl

/-- OPEN. -/
theorem does_open_denied (d : Dev) (port ctag role key : Nat) (cnonce : List Byte) (q : Nat) (h0 : d.secOpen port = true) (h1 : d.openDenied port ctag role key = some q) : let e := d.secOpenMsg port ctag role key cnonce; e = d.denied port ctag q := by
  intro e
  simp only [e]
  unfold Dev.secOpenMsg
  rw [h0, h1]
  rfl

/-- PROVE. -/
theorem does_prove (d : Dev) (port ctag sid : Nat) (proof : List Byte) (x : Chal) (h0 : d.sec.chals.find? (fun c => c.id = sid && c.port = port && c.ctag = ctag) = some x) (h1 : d.since x.sentAt ≤ 5 * secTicks) (h2 : (d.dropChal sid).secBusy port ctag = false) : let e := d.secProve port ctag sid proof; let m := d.dropChal sid; e = if m.proofOk x proof then m.openSession x else (m.failedAttempt x.role 0 port x.key sid).denied port ctag dnProof := by
  intro e m
  simp only [e, m]
  unfold Dev.secProve
  rw [h0]
  dsimp only
  have hs : (d.dropChal sid).since x.sentAt = d.since x.sentAt := rfl
  rw [hs]
  cases hp : (d.dropChal sid).proofOk x proof
  · rw [if_pos (by rw [Bool.or_eq_true]; exact Or.inr rfl), if_neg (show ¬ false = true by decide)]
  · rw [if_neg (by simpa using h1), h2, if_neg (show ¬ false = true by decide), if_pos (show true = true from rfl)]

/-- PROVE_TIMEOUT. -/
theorem does_proveTimeout (d : Dev) (sid : Nat) (x : Chal) (h0 : d.sec.chals.find? (fun c => c.id = sid) = some x) (h1 : 5 * secTicks < d.since x.sentAt) : let e := d.proveTimeout sid; e = (d.dropChal sid).failedAttempt x.role 0 x.port x.key sid := by
  intro e
  simp only [e]
  unfold Dev.proveTimeout
  rw [h0]
  dsimp only
  rw [if_neg (by omega)]

/-- MAKER_FIRST. -/
theorem does_makerFirst (d : Dev) (port key : Nat) (pub cert : List Byte) (audits : Bool) (h0 : d.sysState = stNocfg) (h1 : port = 0) (h2 : d.isSet SEC_STAT SEC_STAT_NOMAKER = true) : let e := d.makerFirst port key pub cert audits; e = if d.firstOk key pub cert then (if audits then (d.audit 0x42 0 port key 0 key noDigest (objDigest pub)).putKeys (d.sec.keys ++ [⟨key, rlMaker, pub⟩]) else d) else d.failedAttempt rlMaker 0 port key 0 := by
  intro e
  simp only [e]
  unfold Dev.makerFirst
  rw [if_neg (by rw [h0, h1, h2]; decide)]

/-- READ. -/
theorem does_read (d : Dev) (port ctag sid ctr : Nat) (addr len : Nat) (auth : List Byte) (x : Session) (h0 : d.sec.sessions.find? (fun s => s.id = sid && s.port = port && s.ctag = ctag) = some x) (h1 : d.genuine x ctr 0x01 (leBytes 4 addr ++ leBytes 2 len) auth = true) (h2 : d.hasRight x 0x01 = true) (h3 : (d.setSession sid (x.used ctr d.now)).sysState ≠ stNocfg) (h4 : 0 < len) (h5 : len ≤ 256) (h6 : ((List.range len).map (fun i => addr + i)).all readable = true) : let e := d.request port ctag sid ctr 0x01 (leBytes 4 addr ++ leBytes 2 len) auth (fun x d => d.secRead addr len x); e = (d.setSession sid (x.used ctr d.now)).result (x.used ctr d.now) rcOk (((List.range len).map (fun i => addr + i)).map (fun a => (d.setSession sid (x.used ctr d.now)).peekByte 0 a)) := by
  intro e
  simp only [e]
  rw [request_done d port ctag sid ctr _ _ _ _ x h0 h1 h2]
  unfold Dev.secRead
  dsimp only
  rw [if_neg (by simp [h3]), h6, if_neg (by simp; omega)]

/-- READ_AUDIT. -/
theorem does_readAudit (d : Dev) (port ctag sid ctr : Nat) (index count : Nat) (auth : List Byte) (x : Session) (h0 : d.sec.sessions.find? (fun s => s.id = sid && s.port = port && s.ctag = ctag) = some x) (h1 : d.genuine x ctr 0x02 (leBytes 4 index ++ leBytes 1 count) auth = true) (h2 : d.hasRight x 0x02 = true) (h3 : 0 < count) (h4 : count ≤ 4) (h5 : ((List.range count).map (fun i => index + i)).all (d.setSession sid (x.used ctr d.now)).auditHas = true) : let e := d.request port ctag sid ctr 0x02 (leBytes 4 index ++ leBytes 1 count) auth (fun x d => d.secReadAudit index count x); e = ((d.setSession sid (x.used ctr d.now)).forEach ((List.range count).map (fun i => index + i)) Dev.auditCheck).result (x.used ctr d.now) rcOk (((List.range count).map (fun i => index + i)).flatMap (d.setSession sid (x.used ctr d.now)).auditRecord) := by
  intro e
  simp only [e]
  rw [request_done d port ctag sid ctr _ _ _ _ x h0 h1 h2]
  unfold Dev.secReadAudit
  dsimp only
  rw [h5, if_neg (by simp; omega)]

/-- SET_LIMIT. -/
theorem does_setLimit (d : Dev) (port ctag sid ctr : Nat) (addr fmask value : W) (audits : Bool) (auth : List Byte) (x : Session) (b : Bound) (h0 : d.sec.sessions.find? (fun s => s.id = sid && s.port = port && s.ctag = ctag) = some x) (h1 : d.genuine x ctr 0x10 (leBytes 4 addr.toNat ++ leBytes 4 fmask.toNat ++ leBytes 4 value.toNat) auth = true) (h2 : d.hasRight x 0x10 = true) (h3 : (d.setSession sid (x.used ctr d.now)).boundFor addr.toNat fmask = some b) (h4 : b.holds (maskField fmask value) = true) (h5 : (d.setSession sid (x.used ctr d.now)).tableFull ((d.setSession sid (x.used ctr d.now)).valueEnt 0 addr.toNat fmask value) = false) : let e := d.request port ctag sid ctr 0x10 (leBytes 4 addr.toNat ++ leBytes 4 fmask.toNat ++ leBytes 4 value.toNat) auth (fun x d => d.secSetLimit addr.toNat fmask value audits x); e = (d.setSession sid (x.used ctr d.now)).jrnRequest jkLimit 0xFF 0 (limitBody (x.used ctr d.now) addr.toNat fmask value) (.limit (x.used ctr d.now).id (x.used ctr d.now).ctr audits) := by
  intro e
  simp only [e]
  rw [request_done d port ctag sid ctr _ _ _ _ x h0 h1 h2]
  unfold Dev.secSetLimit
  rw [h3]
  dsimp only
  rw [h4, h5]
  rfl

/-- SET_BOUND. -/
theorem does_setBound (d : Dev) (port ctag sid ctr : Nat) (addr fmask : W) (level : Nat) (lower upper : W) (audits : Bool) (auth : List Byte) (x : Session) (h0 : d.sec.sessions.find? (fun s => s.id = sid && s.port = port && s.ctag = ctag) = some x) (h1 : d.genuine x ctr 0x11 (leBytes 4 addr.toNat ++ leBytes 4 fmask.toNat ++ leBytes 1 level ++ leBytes 4 lower.toNat ++ leBytes 4 upper.toNat) auth = true) (h2 : d.hasRight x 0x11 = true) (h3 : level = 2 ∨ (level = 3 ∧ x.role = rlMaker)) (h4 : limitable addr.toNat = true) (h5 : fmask ≠ 0) (h6 : ((d.setSession sid (x.used ctr d.now)).boundEnc addr.toNat fmask level).2.boundOk (⟨addr.toNat, fmask, level, lower, upper, ((d.setSession sid (x.used ctr d.now)).boundEnc addr.toNat fmask level).1⟩ : Bound) = true) (h7 : ((d.setSession sid (x.used ctr d.now)).boundEnc addr.toNat fmask level).2.tableFull (((d.setSession sid (x.used ctr d.now)).boundEnc addr.toNat fmask level).2.boundEnt (⟨addr.toNat, fmask, level, lower, upper, ((d.setSession sid (x.used ctr d.now)).boundEnc addr.toNat fmask level).1⟩ : Bound)) = false) (h8 : audits = true) : let e := d.request port ctag sid ctr 0x11 (leBytes 4 addr.toNat ++ leBytes 4 fmask.toNat ++ leBytes 1 level ++ leBytes 4 lower.toNat ++ leBytes 4 upper.toNat) auth (Dev.audited audits (fun x d => d.secSetBound addr.toNat fmask level lower upper x)); let r := (d.setSession sid (x.used ctr d.now)).boundEnc addr.toNat fmask level; let b : Bound := ⟨addr.toNat, fmask, level, lower, upper, r.1⟩; e = r.2.change (x.used ctr d.now) 0x11 addr.toNat (r.2.boundDigest addr.toNat fmask level) (objDigest (leBytes 4 lower.toNat ++ leBytes 4 upper.toNat)) (fun y => (y.holdBound b).persist (y.boundEnt b)) := by
  intro e
  simp only [e]
  rw [request_done d port ctag sid ctr _ _ _ _ x h0 h1 h2]
  rw [h8, audited_true]
  unfold Dev.secSetBound
  dsimp only
  have hr : (decide (level = 3) && decide ((x.used ctr d.now).role ≠ rlMaker)) = false := by
    rcases h3 with h | h
    · rw [h]; rfl
    · rw [show (x.used ctr d.now).role = rlMaker from h.2]; simp
  have hl : (decide (level = 2) || decide (level = 3)) = true := by
    rcases h3 with h | h
    · rw [h]; rfl
    · rw [h.1]; rfl
  rw [hr, if_neg (by decide), hl, h4, if_neg (by simpa using h5), h6, if_neg (by decide), h7]
  rfl

/-- CAL_WRITE. -/
theorem does_calWrite (d : Dev) (port ctag sid ctr : Nat) (addr value : W) (audits : Bool) (auth : List Byte) (x : Session) (isF pos : Bool) (fn : Option Nat) (h0 : d.sec.sessions.find? (fun s => s.id = sid && s.port = port && s.ctag = ctag) = some x) (h1 : d.genuine x ctr 0x12 (leBytes 4 addr.toNat ++ leBytes 4 value.toNat) auth = true) (h2 : d.hasRight x 0x12 = true) (h3 : (d.setSession sid (x.used ctr d.now)).calTarget addr.toNat = some (isF, pos, fn)) (h4 : fn.any (d.setSession sid (x.used ctr d.now)).enabled = false) (h5 : ((isF && (fIsNaN value || fIsInf value)) || (pos && !fLt f0 value) || (addr.toNat = RTC_TRIM && (256 ≤ value.toNat || value = 0x80#32))) = false) (h6 : (d.setSession sid (x.used ctr d.now)).tableFull ((d.setSession sid (x.used ctr d.now)).valueEnt 2 addr.toNat 0xFFFFFFFF#32 value) = false) (h7 : audits = true) : let e := d.request port ctag sid ctr 0x12 (leBytes 4 addr.toNat ++ leBytes 4 value.toNat) auth (Dev.audited audits (fun x d => d.secCalWrite addr.toNat value x)); e = (d.setSession sid (x.used ctr d.now)).change (x.used ctr d.now) 0x12 addr.toNat (wordDigest ((d.setSession sid (x.used ctr d.now)).rd addr.toNat)) (wordDigest value) (fun y => (y.wr addr.toNat value).persist ((d.setSession sid (x.used ctr d.now)).valueEnt 2 addr.toNat 0xFFFFFFFF#32 value)) := by
  intro e
  simp only [e]
  rw [request_done d port ctag sid ctr _ _ _ _ x h0 h1 h2]
  rw [h7, audited_true]
  unfold Dev.secCalWrite
  rw [h3]
  dsimp only
  rw [h4, h5, h6]
  rfl

/-- RESET_LIMITS. -/
theorem does_resetLimits (d : Dev) (port ctag sid ctr : Nat) (audits : Bool) (auth : List Byte) (x : Session) (h0 : d.sec.sessions.find? (fun s => s.id = sid && s.port = port && s.ctag = ctag) = some x) (h1 : d.genuine x ctr 0x13 ([]) auth = true) (h2 : d.hasRight x 0x13 = true) (h3 : audits = true) : let e := d.request port ctag sid ctr 0x13 ([]) auth (Dev.audited audits (fun x d => d.secResetLimits x)); e = (d.setSession sid (x.used ctr d.now)).change (x.used ctr d.now) 0x13 0 (objDigest (d.setSession sid (x.used ctr d.now)).tableBytes) (objDigest []) (fun y => y.putTable []) := by
  intro e
  simp only [e]
  rw [request_done d port ctag sid ctr _ _ _ _ x h0 h1 h2]
  rw [h3, audited_true]
  rfl

/-- ACK. -/
theorem does_ack (d : Dev) (port ctag sid ctr : Nat) (target : Nat) (audits : Bool) (auth : List Byte) (x : Session) (h0 : d.sec.sessions.find? (fun s => s.id = sid && s.port = port && s.ctag = ctag) = some x) (h1 : d.genuine x ctr 0x20 (leBytes 1 target) auth = true) (h2 : d.hasRight x 0x20 = true) (h3 : target < 0x20) : let e := d.request port ctag sid ctr 0x20 (leBytes 1 target) auth (fun x d => d.secAck target audits x); e = (d.setSession sid (x.used ctr d.now)).jrnRequest jkAck 0xFF 0 (leBytes 1 target ++ leBytes 1 (x.used ctr d.now).role ++ leBytes 1 (x.used ctr d.now).port ++ leBytes 1 0 ++ leBytes 4 (x.used ctr d.now).key ++ leBytes 4 (x.used ctr d.now).id) (.ack (x.used ctr d.now).id (x.used ctr d.now).ctr target audits) := by
  intro e
  simp only [e]
  rw [request_done d port ctag sid ctr _ _ _ _ x h0 h1 h2]
  unfold Dev.secAck
  rw [if_neg (by omega), if_neg (by simp; omega)]

/-- SET_RTC. -/
theorem does_setRtc (d : Dev) (port ctag sid ctr : Nat) (v : W) (audits : Bool) (auth : List Byte) (x : Session) (h0 : d.sec.sessions.find? (fun s => s.id = sid && s.port = port && s.ctag = ctag) = some x) (h1 : d.genuine x ctr 0x21 (leBytes 4 v.toNat) auth = true) (h2 : d.hasRight x 0x21 = true) (h3 : audits = true) : let e := d.request port ctag sid ctr 0x21 (leBytes 4 v.toNat) auth (Dev.audited audits (fun x d => d.secSetRtc v x)); e = ((d.setSession sid (x.used ctr d.now)).setRtc (x.used ctr d.now) v).result (x.used ctr d.now) rcOk [] := by
  intro e
  simp only [e]
  rw [request_done d port ctag sid ctr _ _ _ _ x h0 h1 h2]
  rw [h3, audited_true]
  rfl

/-- SLOT_BEGIN. -/
theorem does_slotBegin (d : Dev) (port ctag sid ctr : Nat) (slot len : Nat) (sha : List Byte) (auth : List Byte) (x : Session) (h0 : d.sec.sessions.find? (fun s => s.id = sid && s.port = port && s.ctag = ctag) = some x) (h1 : d.genuine x ctr 0x30 (leBytes 1 slot ++ leBytes 4 len ++ sha) auth = true) (h2 : d.hasRight x 0x30 = true) (h3 : (d.setSession sid (x.used ctr d.now)).sec.slotw = none) (h4 : (d.setSession sid (x.used ctr d.now)).sec.slotCheck = none) (h5 : slot ≤ 1) (h6 : 4 ≤ len) (h7 : len ≤ slotBytes) (h8 : (d.setSession sid (x.used ctr d.now)).sysState = stNocfg ∨ slot ≠ (d.setSession sid (x.used ctr d.now)).bootedSlot) : let e := d.request port ctag sid ctr 0x30 (leBytes 1 slot ++ leBytes 4 len ++ sha) auth (fun x d => d.slotBegin slot len sha x); let m := (d.setSession sid (x.used ctr d.now)).flashErase slot; e = ({ m with sec := { m.sec with slotw := some ⟨(x.used ctr d.now).id, slot, len, sha, 0, false, []⟩ } } : Dev).result (x.used ctr d.now) rcOk [] := by
  intro e
  simp only [e]
  rw [request_done d port ctag sid ctr _ _ _ _ x h0 h1 h2]
  unfold Dev.slotBegin
  rw [h3, h4, if_neg (by decide), if_neg (by simp; omega), if_neg (by rcases h8 with h | h <;> simp [h])]

/-- SLOT_DATA. -/
theorem does_slotData (d : Dev) (port ctag sid ctr : Nat) (off : Nat) (bs : List Byte) (x : Session) (w : SlotW) (h0 : d.sec.sessions.find? (fun s => s.id = sid && s.port = port && s.ctag = ctag) = some x) (h1 : d.genuine x ctr 0x31 ([]) [] = true) (h2 : d.hasRight x 0x31 = true) (h3 : (d.setSession sid (x.used ctr d.now)).sec.slotw = some w) (h4 : w.sid = x.id) (h5 : bs ≠ []) (h6 : bs.length ≤ 448) (h7 : off + bs.length ≤ w.len) (h8 : off = w.next) : let e := d.request port ctag sid ctr 0x31 [] [] (fun x d => d.slotData off bs x); let m := (d.setSession sid (x.used ctr d.now)).flashPut w.slot (off + min (4 - min 4 off) bs.length) (bs.drop (4 - min 4 off)); e = ({ m with sec := { m.sec with slotw := some { w with next := off + bs.length, held := w.held ++ bs.take (4 - min 4 off) } } } : Dev).result (x.used ctr d.now) rcOk [] := by
  intro e
  simp only [e]
  rw [request_done d port ctag sid ctr _ _ _ _ x h0 h1 h2]
  unfold Dev.slotData
  rw [h3]
  dsimp only
  rw [if_neg (by rw [h4]; exact fun h => h rfl), if_neg, if_neg (by simp [h8])]
  simp only [Bool.or_eq_true, decide_eq_true_eq, List.isEmpty_iff]
  rintro ((h | h) | h)
  · exact h5 h
  · omega
  · omega

/-- SLOT_END. -/
theorem does_slotEnd (d : Dev) (port ctag sid ctr : Nat) (audits : Bool) (auth : List Byte) (x : Session) (w : SlotW) (h0 : d.sec.sessions.find? (fun s => s.id = sid && s.port = port && s.ctag = ctag) = some x) (h1 : d.genuine x ctr 0x32 ([]) auth = true) (h2 : d.hasRight x 0x32 = true) (h3 : (d.setSession sid (x.used ctr d.now)).sec.slotw = some w) (h4 : w.sid = x.id) (h5 : ({ (d.setSession sid (x.used ctr d.now)) with sec := { (d.setSession sid (x.used ctr d.now)).sec with slotw := none } } : Dev).slotWhole w = true) (h6 : audits = true) : let e := d.request port ctag sid ctr 0x32 ([]) auth (Dev.audited audits (fun x d => d.slotEnd x)); e = ({ (d.setSession sid (x.used ctr d.now)) with sec := { (d.setSession sid (x.used ctr d.now)).sec with slotw := none } } : Dev).slotClose w (x.used ctr d.now) := by
  intro e
  simp only [e]
  rw [request_done d port ctag sid ctr _ _ _ _ x h0 h1 h2]
  rw [h6, audited_true]
  unfold Dev.slotEnd
  rw [h3]
  dsimp only
  rw [if_neg (by rw [h4]; exact fun h => h rfl), h5, if_pos rfl]

/-- RESTART. -/
theorem does_restart (d : Dev) (port ctag sid ctr : Nat) (audits : Bool) (auth : List Byte) (x : Session) (h0 : d.sec.sessions.find? (fun s => s.id = sid && s.port = port && s.ctag = ctag) = some x) (h1 : d.genuine x ctr 0x33 ([]) auth = true) (h2 : d.hasRight x 0x33 = true) (h3 : (d.setSession sid (x.used ctr d.now)).restartBar = none) (h4 : audits = true) : let e := d.request port ctag sid ctr 0x33 ([]) auth (Dev.audited audits (fun x d => d.secRestart x)); e = ((d.setSession sid (x.used ctr d.now)).change (x.used ctr d.now) 0x33 0 noDigest noDigest id).restart rstRestart := by
  intro e
  simp only [e]
  rw [request_done d port ctag sid ctr _ _ _ _ x h0 h1 h2]
  rw [h4, audited_true]
  unfold Dev.secRestart
  rw [h3]

/-- RESTART. -/
theorem does_restart_refused (d : Dev) (port ctag sid ctr : Nat) (audits : Bool) (auth : List Byte) (x : Session) (q : Nat) (h0 : d.sec.sessions.find? (fun s => s.id = sid && s.port = port && s.ctag = ctag) = some x) (h1 : d.genuine x ctr 0x33 ([]) auth = true) (h2 : d.hasRight x 0x33 = true) (h3 : (d.setSession sid (x.used ctr d.now)).restartBar = some q) (h4 : audits = true) : let e := d.request port ctag sid ctr 0x33 ([]) auth (Dev.audited audits (fun x d => d.secRestart x)); e = ((d.setSession sid (x.used ctr d.now)).restartRefused q).result (x.used ctr d.now) rcRefused [] := by
  intro e
  simp only [e]
  rw [request_done d port ctag sid ctr _ _ _ _ x h0 h1 h2]
  rw [h4, audited_true]
  unfold Dev.secRestart
  rw [h3]

/-- KEY_INSTALL. -/
theorem does_keyInstall (d : Dev) (port ctag sid ctr : Nat) (key role : Nat) (bs : List Byte) (certId : Nat) (cert : List Byte) (audits : Bool) (auth : List Byte) (x : Session) (h0 : d.sec.sessions.find? (fun s => s.id = sid && s.port = port && s.ctag = ctag) = some x) (h1 : d.genuine x ctr 0x40 (certified key role bs ++ (if role = rlOperator then [] else leBytes 4 certId ++ cert)) auth = true) (h2 : d.hasRight x 0x40 = true) (h3 : key ≠ 0) (h4 : key ≠ 0xFFFFFFFF) (h5 : 0 < role) (h6 : role ≤ 3) (h7 : bs.length = (if role = rlOperator then 16 else 64)) (h8 : (d.setSession sid (x.used ctr d.now)).keyOf key = none) (h9 : ((d.setSession sid (x.used ctr d.now)).roleKeys role).length < keyRoom role) (h10 : role = rlOperator ∨ (d.setSession sid (x.used ctr d.now)).certOk key role bs certId cert = true) (h11 : audits = true) : let e := d.request port ctag sid ctr 0x40 (certified key role bs ++ (if role = rlOperator then [] else leBytes 4 certId ++ cert)) auth (Dev.audited audits (fun x d => d.keyInstall key role bs certId cert x)); e = (d.setSession sid (x.used ctr d.now)).change (x.used ctr d.now) 0x40 key noDigest (objDigest bs) (fun y => y.putKeys (y.sec.keys ++ [⟨key, role, bs⟩])) := by
  intro e
  simp only [e]
  rw [request_done d port ctag sid ctr _ _ _ _ x h0 h1 h2]
  rw [h11, audited_true]
  unfold Dev.keyInstall
  rw [if_neg (by simp [h3, h4, h7]; omega), h8, if_neg (by decide), if_neg (by omega), if_neg (by rcases h10 with h | h <;> simp [h])]

/-- KEY_REVOKE. -/
theorem does_keyRevoke (d : Dev) (port ctag sid ctr : Nat) (key : Nat) (audits : Bool) (auth : List Byte) (x : Session) (w : SecKey) (h0 : d.sec.sessions.find? (fun s => s.id = sid && s.port = port && s.ctag = ctag) = some x) (h1 : d.genuine x ctr 0x41 (leBytes 4 key) auth = true) (h2 : d.hasRight x 0x41 = true) (h3 : (d.setSession sid (x.used ctr d.now)).keyOf key = some w) (h4 : w.role ≠ rlMaker ∨ 1 < ((d.setSession sid (x.used ctr d.now)).roleKeys rlMaker).length) (h5 : audits = true) : let e := d.request port ctag sid ctr 0x41 (leBytes 4 key) auth (Dev.audited audits (fun x d => d.keyRevoke key x)); e = ((d.setSession sid (x.used ctr d.now)).change (x.used ctr d.now) 0x41 key (objDigest w.key) noDigest (fun y => y.putKeys (y.sec.keys.filter (fun j => j.id ≠ key)))).closeWhere (fun s => s.key = key) := by
  intro e
  simp only [e]
  rw [request_done d port ctag sid ctr _ _ _ _ x h0 h1 h2]
  rw [h5, audited_true]
  unfold Dev.keyRevoke
  rw [h3]
  dsimp only
  rw [if_neg]
  simp only [Bool.and_eq_true, decide_eq_true_eq, not_and]
  intro h
  rcases h4 with h' | h'
  · exact absurd h h'
  · omega

/-- GUST_CLEAR. -/
theorem does_gustClear (d : Dev) (port ctag sid ctr : Nat) (res : Nat) (audits : Bool) (auth : List Byte) (x : Session) (h0 : d.sec.sessions.find? (fun s => s.id = sid && s.port = port && s.ctag = ctag) = some x) (h1 : d.genuine x ctr 0x50 (leBytes 2 res) auth = true) (h2 : d.hasRight x 0x50 = true) (h3 : res = 0xFFFF ∨ isResource res = true) (h4 : audits = true) : let e := d.request port ctag sid ctr 0x50 (leBytes 2 res) auth (Dev.audited audits (fun x d => d.secGustClear res x)); e = (d.setSession sid (x.used ctr d.now)).change (x.used ctr d.now) 0x50 res (objDigest ((d.setSession sid (x.used ctr d.now)).gustBytes res)) (objDigest (((d.setSession sid (x.used ctr d.now)).gustClear res).gustBytes res)) (fun y => y.gustClear res) := by
  intro e
  simp only [e]
  rw [request_done d port ctag sid ctr _ _ _ _ x h0 h1 h2]
  rw [h4, audited_true]
  unfold Dev.secGustClear
  rw [if_neg (by rcases h3 with h | h <;> simp [h])]

/-- CULL_CLEAR. -/
theorem does_cullClear (d : Dev) (port ctag sid ctr : Nat) (res : Nat) (audits : Bool) (auth : List Byte) (x : Session) (h0 : d.sec.sessions.find? (fun s => s.id = sid && s.port = port && s.ctag = ctag) = some x) (h1 : d.genuine x ctr 0x51 (leBytes 2 res) auth = true) (h2 : d.hasRight x 0x51 = true) (h3 : res = 0xFFFF ∨ isResource res = true) (h4 : audits = true) : let e := d.request port ctag sid ctr 0x51 (leBytes 2 res) auth (Dev.audited audits (fun x d => d.secCullClear res x)); e = (d.setSession sid (x.used ctr d.now)).change (x.used ctr d.now) 0x51 res (objDigest ((d.setSession sid (x.used ctr d.now)).red.cull.flatMap Cull.bytes)) (objDigest (((d.setSession sid (x.used ctr d.now)).cullClear res).red.cull.flatMap Cull.bytes)) (fun y => y.cullClear res) := by
  intro e
  simp only [e]
  rw [request_done d port ctag sid ctr _ _ _ _ x h0 h1 h2]
  rw [h4, audited_true]
  unfold Dev.secCullClear
  rw [if_neg (by rcases h3 with h | h <;> simp [h])]

/-- LOCKOUT_CLEAR. -/
theorem does_lockoutClear (d : Dev) (port ctag sid ctr : Nat) (role : Nat) (audits : Bool) (auth : List Byte) (x : Session) (h0 : d.sec.sessions.find? (fun s => s.id = sid && s.port = port && s.ctag = ctag) = some x) (h1 : d.genuine x ctr 0x52 (leBytes 1 role) auth = true) (h2 : d.hasRight x 0x52 = true) (h3 : role = rlOperator ∨ role = rlInstaller) (h4 : audits = true) : let e := d.request port ctag sid ctr 0x52 (leBytes 1 role) auth (Dev.audited audits (fun x d => d.lockoutClear role x)); e = (d.setSession sid (x.used ctr d.now)).change (x.used ctr d.now) 0x52 role noDigest noDigest (fun y => ({ y with sec := { y.sec with lockEnd := Tab.set role y.now y.sec.lockEnd } } : Dev).setF SEC_STAT (lockField role) 0) := by
  intro e
  simp only [e]
  rw [request_done d port ctag sid ctr _ _ _ _ x h0 h1 h2]
  rw [h4, audited_true]
  unfold Dev.lockoutClear
  rw [if_pos (by simpa using h3)]

/-- FACTEST. -/
theorem does_factest (d : Dev) (port ctag sid ctr : Nat) (test : Option (Nat × Nat × Bool)) (audits : Bool) (auth : List Byte) (x : Session) (h0 : d.sec.sessions.find? (fun s => s.id = sid && s.port = port && s.ctag = ctag) = some x) (h1 : d.genuine x ctr 0x53 (factestArgs test) auth = true) (h2 : d.hasRight x 0x53 = true) (h3 : (d.setSession sid (x.used ctr d.now)).fns.any (d.setSession sid (x.used ctr d.now)).enabled = false) (h4 : test = none) (h5 : audits = true) : let e := d.request port ctag sid ctr 0x53 (factestArgs test) auth (Dev.audited audits (fun x d => d.secFactest test x)); e = ((d.setSession sid (x.used ctr d.now)).factestBegin (x.used ctr d.now)).result (x.used ctr d.now) rcOk [] := by
  intro e
  simp only [e]
  rw [request_done d port ctag sid ctr _ _ _ _ x h0 h1 h2]
  rw [h5, audited_true]
  unfold Dev.secFactest
  rw [h3, if_neg (by decide), h4]
  rfl

/-- CLOSE. -/
theorem does_close (d : Dev) (port ctag sid ctr : Nat) (auth : List Byte) (x : Session) (h0 : d.sec.sessions.find? (fun s => s.id = sid && s.port = port && s.ctag = ctag) = some x) (h1 : d.genuine x ctr 0x60 ([]) auth = true) (h2 : d.hasRight x 0x60 = true) : let e := d.request port ctag sid ctr 0x60 ([]) auth (fun x d => d.secClose x); e = ((d.setSession sid (x.used ctr d.now)).result (x.used ctr d.now) rcOk []).closeSession (x.used ctr d.now) := by
  intro e
  simp only [e]
  rw [request_done d port ctag sid ctr _ _ _ _ x h0 h1 h2]
  rfl

/-- SESSION_IDLE_TIMEOUT. -/
theorem does_sessionIdleTimeout (d : Dev) (sid : Nat) (x : Session) (h0 : d.sec.sessions.find? (fun s => s.id = sid) = some x) (h1 : (d.roleRec x.role).idle * secTicks ≤ d.since x.lastAt) : let e := d.idleTimeout sid; e = d.closeSession x := by
  intro e
  simp only [e]
  unfold Dev.idleTimeout
  rw [h0]
  dsimp only
  rw [if_neg (by omega)]

/-- LOCKOUT_EXPIRE. -/
theorem does_lockoutExpire (d : Dev) (role : Fin 4) (h0 : (Tab.getD (0 : Time) d.sec.lockEnd role).toNat ≤ d.now.toNat) : let e := d.lockoutExpire role; e = d.setF SEC_STAT (lockField role) 0 := by
  intro e
  simp only [e]
  unfold Dev.lockoutExpire
  rw [if_neg (by omega)]

/-- SET_BOUND. -/
theorem does_setBound_noaudit (d : Dev) (port ctag sid ctr : Nat) (addr fmask : W) (level : Nat) (lower upper : W) (audits : Bool) (auth : List Byte) (x : Session) (h0 : d.sec.sessions.find? (fun s => s.id = sid && s.port = port && s.ctag = ctag) = some x) (h1 : d.genuine x ctr 0x11 (leBytes 4 addr.toNat ++ leBytes 4 fmask.toNat ++ leBytes 1 level ++ leBytes 4 lower.toNat ++ leBytes 4 upper.toNat) auth = true) (h2 : d.hasRight x 0x11 = true) (h3 : audits = false) (h4 : ((fun (x : Session) (d : Dev) => d.secSetBound addr.toNat fmask level lower upper x) (x.used ctr d.now) (d.setSession sid (x.used ctr d.now))).sec.audHead ≠ (d.setSession sid (x.used ctr d.now)).sec.audHead) : let e := d.request port ctag sid ctr 0x11 (leBytes 4 addr.toNat ++ leBytes 4 fmask.toNat ++ leBytes 1 level ++ leBytes 4 lower.toNat ++ leBytes 4 upper.toNat) auth (Dev.audited audits (fun x d => d.secSetBound addr.toNat fmask level lower upper x)); e = (d.setSession sid (x.used ctr d.now)).result (x.used ctr d.now) rcNoAudit ([]) := by
  intro e
  simp only [e]
  rw [request_done d port ctag sid ctr _ _ _ _ x h0 h1 h2, h3]
  exact audited_false _ _ _ h4

/-- CAL_WRITE. -/
theorem does_calWrite_noaudit (d : Dev) (port ctag sid ctr : Nat) (addr value : W) (audits : Bool) (auth : List Byte) (x : Session) (h0 : d.sec.sessions.find? (fun s => s.id = sid && s.port = port && s.ctag = ctag) = some x) (h1 : d.genuine x ctr 0x12 (leBytes 4 addr.toNat ++ leBytes 4 value.toNat) auth = true) (h2 : d.hasRight x 0x12 = true) (h3 : audits = false) (h4 : ((fun (x : Session) (d : Dev) => d.secCalWrite addr.toNat value x) (x.used ctr d.now) (d.setSession sid (x.used ctr d.now))).sec.audHead ≠ (d.setSession sid (x.used ctr d.now)).sec.audHead) : let e := d.request port ctag sid ctr 0x12 (leBytes 4 addr.toNat ++ leBytes 4 value.toNat) auth (Dev.audited audits (fun x d => d.secCalWrite addr.toNat value x)); e = (d.setSession sid (x.used ctr d.now)).result (x.used ctr d.now) rcNoAudit ([]) := by
  intro e
  simp only [e]
  rw [request_done d port ctag sid ctr _ _ _ _ x h0 h1 h2, h3]
  exact audited_false _ _ _ h4

/-- RESET_LIMITS. -/
theorem does_resetLimits_noaudit (d : Dev) (port ctag sid ctr : Nat) (audits : Bool) (auth : List Byte) (x : Session) (h0 : d.sec.sessions.find? (fun s => s.id = sid && s.port = port && s.ctag = ctag) = some x) (h1 : d.genuine x ctr 0x13 ([]) auth = true) (h2 : d.hasRight x 0x13 = true) (h3 : audits = false) (h4 : ((fun (x : Session) (d : Dev) => d.secResetLimits x) (x.used ctr d.now) (d.setSession sid (x.used ctr d.now))).sec.audHead ≠ (d.setSession sid (x.used ctr d.now)).sec.audHead) : let e := d.request port ctag sid ctr 0x13 ([]) auth (Dev.audited audits (fun x d => d.secResetLimits x)); e = (d.setSession sid (x.used ctr d.now)).result (x.used ctr d.now) rcNoAudit ([]) := by
  intro e
  simp only [e]
  rw [request_done d port ctag sid ctr _ _ _ _ x h0 h1 h2, h3]
  exact audited_false _ _ _ h4

/-- SET_RTC. -/
theorem does_setRtc_noaudit (d : Dev) (port ctag sid ctr : Nat) (v : W) (audits : Bool) (auth : List Byte) (x : Session) (h0 : d.sec.sessions.find? (fun s => s.id = sid && s.port = port && s.ctag = ctag) = some x) (h1 : d.genuine x ctr 0x21 (leBytes 4 v.toNat) auth = true) (h2 : d.hasRight x 0x21 = true) (h3 : audits = false) (h4 : ((fun (x : Session) (d : Dev) => d.secSetRtc v x) (x.used ctr d.now) (d.setSession sid (x.used ctr d.now))).sec.audHead ≠ (d.setSession sid (x.used ctr d.now)).sec.audHead) : let e := d.request port ctag sid ctr 0x21 (leBytes 4 v.toNat) auth (Dev.audited audits (fun x d => d.secSetRtc v x)); e = (d.setSession sid (x.used ctr d.now)).result (x.used ctr d.now) rcNoAudit ([]) := by
  intro e
  simp only [e]
  rw [request_done d port ctag sid ctr _ _ _ _ x h0 h1 h2, h3]
  exact audited_false _ _ _ h4

/-- SLOT_END. -/
theorem does_slotEnd_noaudit (d : Dev) (port ctag sid ctr : Nat) (audits : Bool) (auth : List Byte) (x : Session) (h0 : d.sec.sessions.find? (fun s => s.id = sid && s.port = port && s.ctag = ctag) = some x) (h1 : d.genuine x ctr 0x32 ([]) auth = true) (h2 : d.hasRight x 0x32 = true) (h3 : audits = false) (h4 : ((fun (x : Session) (d : Dev) => d.slotEnd x) (x.used ctr d.now) (d.setSession sid (x.used ctr d.now))).sec.audHead ≠ (d.setSession sid (x.used ctr d.now)).sec.audHead) : let e := d.request port ctag sid ctr 0x32 ([]) auth (Dev.audited audits (fun x d => d.slotEnd x)); e = (d.setSession sid (x.used ctr d.now)).result (x.used ctr d.now) rcNoAudit ([]) := by
  intro e
  simp only [e]
  rw [request_done d port ctag sid ctr _ _ _ _ x h0 h1 h2, h3]
  exact audited_false _ _ _ h4

/-- RESTART. -/
theorem does_restart_noaudit (d : Dev) (port ctag sid ctr : Nat) (audits : Bool) (auth : List Byte) (x : Session) (h0 : d.sec.sessions.find? (fun s => s.id = sid && s.port = port && s.ctag = ctag) = some x) (h1 : d.genuine x ctr 0x33 ([]) auth = true) (h2 : d.hasRight x 0x33 = true) (h3 : audits = false) (h4 : ((fun (x : Session) (d : Dev) => d.secRestart x) (x.used ctr d.now) (d.setSession sid (x.used ctr d.now))).sec.audHead ≠ (d.setSession sid (x.used ctr d.now)).sec.audHead) : let e := d.request port ctag sid ctr 0x33 ([]) auth (Dev.audited audits (fun x d => d.secRestart x)); e = (d.setSession sid (x.used ctr d.now)).result (x.used ctr d.now) rcNoAudit ([]) := by
  intro e
  simp only [e]
  rw [request_done d port ctag sid ctr _ _ _ _ x h0 h1 h2, h3]
  exact audited_false _ _ _ h4

/-- KEY_INSTALL. -/
theorem does_keyInstall_noaudit (d : Dev) (port ctag sid ctr : Nat) (key role : Nat) (bs : List Byte) (certId : Nat) (cert : List Byte) (audits : Bool) (auth : List Byte) (x : Session) (h0 : d.sec.sessions.find? (fun s => s.id = sid && s.port = port && s.ctag = ctag) = some x) (h1 : d.genuine x ctr 0x40 (certified key role bs ++ (if role = rlOperator then [] else leBytes 4 certId ++ cert)) auth = true) (h2 : d.hasRight x 0x40 = true) (h3 : audits = false) (h4 : ((fun (x : Session) (d : Dev) => d.keyInstall key role bs certId cert x) (x.used ctr d.now) (d.setSession sid (x.used ctr d.now))).sec.audHead ≠ (d.setSession sid (x.used ctr d.now)).sec.audHead) : let e := d.request port ctag sid ctr 0x40 (certified key role bs ++ (if role = rlOperator then [] else leBytes 4 certId ++ cert)) auth (Dev.audited audits (fun x d => d.keyInstall key role bs certId cert x)); e = (d.setSession sid (x.used ctr d.now)).result (x.used ctr d.now) rcNoAudit ([]) := by
  intro e
  simp only [e]
  rw [request_done d port ctag sid ctr _ _ _ _ x h0 h1 h2, h3]
  exact audited_false _ _ _ h4

/-- KEY_REVOKE. -/
theorem does_keyRevoke_noaudit (d : Dev) (port ctag sid ctr : Nat) (key : Nat) (audits : Bool) (auth : List Byte) (x : Session) (h0 : d.sec.sessions.find? (fun s => s.id = sid && s.port = port && s.ctag = ctag) = some x) (h1 : d.genuine x ctr 0x41 (leBytes 4 key) auth = true) (h2 : d.hasRight x 0x41 = true) (h3 : audits = false) (h4 : ((fun (x : Session) (d : Dev) => d.keyRevoke key x) (x.used ctr d.now) (d.setSession sid (x.used ctr d.now))).sec.audHead ≠ (d.setSession sid (x.used ctr d.now)).sec.audHead) : let e := d.request port ctag sid ctr 0x41 (leBytes 4 key) auth (Dev.audited audits (fun x d => d.keyRevoke key x)); e = (d.setSession sid (x.used ctr d.now)).result (x.used ctr d.now) rcNoAudit ([]) := by
  intro e
  simp only [e]
  rw [request_done d port ctag sid ctr _ _ _ _ x h0 h1 h2, h3]
  exact audited_false _ _ _ h4

/-- GUST_CLEAR. -/
theorem does_gustClear_noaudit (d : Dev) (port ctag sid ctr : Nat) (res : Nat) (audits : Bool) (auth : List Byte) (x : Session) (h0 : d.sec.sessions.find? (fun s => s.id = sid && s.port = port && s.ctag = ctag) = some x) (h1 : d.genuine x ctr 0x50 (leBytes 2 res) auth = true) (h2 : d.hasRight x 0x50 = true) (h3 : audits = false) (h4 : ((fun (x : Session) (d : Dev) => d.secGustClear res x) (x.used ctr d.now) (d.setSession sid (x.used ctr d.now))).sec.audHead ≠ (d.setSession sid (x.used ctr d.now)).sec.audHead) : let e := d.request port ctag sid ctr 0x50 (leBytes 2 res) auth (Dev.audited audits (fun x d => d.secGustClear res x)); e = (d.setSession sid (x.used ctr d.now)).result (x.used ctr d.now) rcNoAudit ([]) := by
  intro e
  simp only [e]
  rw [request_done d port ctag sid ctr _ _ _ _ x h0 h1 h2, h3]
  exact audited_false _ _ _ h4

/-- CULL_CLEAR. -/
theorem does_cullClear_noaudit (d : Dev) (port ctag sid ctr : Nat) (res : Nat) (audits : Bool) (auth : List Byte) (x : Session) (h0 : d.sec.sessions.find? (fun s => s.id = sid && s.port = port && s.ctag = ctag) = some x) (h1 : d.genuine x ctr 0x51 (leBytes 2 res) auth = true) (h2 : d.hasRight x 0x51 = true) (h3 : audits = false) (h4 : ((fun (x : Session) (d : Dev) => d.secCullClear res x) (x.used ctr d.now) (d.setSession sid (x.used ctr d.now))).sec.audHead ≠ (d.setSession sid (x.used ctr d.now)).sec.audHead) : let e := d.request port ctag sid ctr 0x51 (leBytes 2 res) auth (Dev.audited audits (fun x d => d.secCullClear res x)); e = (d.setSession sid (x.used ctr d.now)).result (x.used ctr d.now) rcNoAudit ([]) := by
  intro e
  simp only [e]
  rw [request_done d port ctag sid ctr _ _ _ _ x h0 h1 h2, h3]
  exact audited_false _ _ _ h4

/-- LOCKOUT_CLEAR. -/
theorem does_lockoutClear_noaudit (d : Dev) (port ctag sid ctr : Nat) (role : Nat) (audits : Bool) (auth : List Byte) (x : Session) (h0 : d.sec.sessions.find? (fun s => s.id = sid && s.port = port && s.ctag = ctag) = some x) (h1 : d.genuine x ctr 0x52 (leBytes 1 role) auth = true) (h2 : d.hasRight x 0x52 = true) (h3 : audits = false) (h4 : ((fun (x : Session) (d : Dev) => d.lockoutClear role x) (x.used ctr d.now) (d.setSession sid (x.used ctr d.now))).sec.audHead ≠ (d.setSession sid (x.used ctr d.now)).sec.audHead) : let e := d.request port ctag sid ctr 0x52 (leBytes 1 role) auth (Dev.audited audits (fun x d => d.lockoutClear role x)); e = (d.setSession sid (x.used ctr d.now)).result (x.used ctr d.now) rcNoAudit ([]) := by
  intro e
  simp only [e]
  rw [request_done d port ctag sid ctr _ _ _ _ x h0 h1 h2, h3]
  exact audited_false _ _ _ h4

/-- FACTEST. -/
theorem does_factest_noaudit (d : Dev) (port ctag sid ctr : Nat) (test : Option (Nat × Nat × Bool)) (audits : Bool) (auth : List Byte) (x : Session) (h0 : d.sec.sessions.find? (fun s => s.id = sid && s.port = port && s.ctag = ctag) = some x) (h1 : d.genuine x ctr 0x53 (factestArgs test) auth = true) (h2 : d.hasRight x 0x53 = true) (h3 : audits = false) (h4 : ((fun (x : Session) (d : Dev) => d.secFactest test x) (x.used ctr d.now) (d.setSession sid (x.used ctr d.now))).sec.audHead ≠ (d.setSession sid (x.used ctr d.now)).sec.audHead) : let e := d.request port ctag sid ctr 0x53 (factestArgs test) auth (Dev.audited audits (fun x d => d.secFactest test x)); e = (d.setSession sid (x.used ctr d.now)).result (x.used ctr d.now) rcNoAudit ([]) := by
  intro e
  simp only [e]
  rw [request_done d port ctag sid ctr _ _ _ _ x h0 h1 h2, h3]
  exact audited_false _ _ _ h4

end Sys2Proof.Machine
end

