-- ==== Sys2Proof/Laws/Thermal.lean ====
section
/-! SUPPORT. What the commands of the charge channels and of the Lehr do (chapters 10 and 17). -/

namespace Sys2Proof.Machine

/-- CHG_STEP. -/
theorem does_chgStep (d : Dev) (c : Fin 2) (h0 : d.chgOn c = true) (h1 : d.inRun = true) (h2 : (d.chg c).stepJ ≠ d.msIndex) : let e := d.chgStep c; e = d.chgRun c := by
  intro e
  simp only [e]; unfold Dev.chgStep
  rw [h0, h1, if_neg (by simpa using h2)]

/-- CHG_START. -/
theorem does_chgStart (d : Dev) (c : Fin 2) (h0 : d.chgPhase c = cpIdle) : let e := d.chgCtrl c 1; e = d.modChg c (fun x => { x with startReq := true }) ∧ (e.chg c).startReq = true := by
  intro e
  simp only [e]; unfold Dev.chgCtrl
  rw [h0]
  refine ⟨rfl, ?_⟩
  show ((d.modChg c (fun x => { x with startReq := true })).chg c).startReq = true
  unfold Dev.modChg Dev.chg
  dsimp only
  rw [Tab.getD_set_self]

/-- CHG_STOP. -/
theorem does_chgStop (d : Dev) (c : Fin 2) : let e := d.chgCtrl c 2; e = d.modChg c (fun x => { x with stopReq := true }) ∧ (e.chg c).stopReq = true := by
  intro e
  simp only [e]; unfold Dev.chgCtrl
  rw [show W.bit 2 0 = false by decide, Bool.false_and, Dev.when_false]
  refine ⟨rfl, ?_⟩
  show ((d.modChg c (fun x => { x with stopReq := true })).chg c).stopReq = true
  unfold Dev.modChg Dev.chg
  dsimp only
  rw [Tab.getD_set_self]

/-- CHG_ACK. -/
theorem does_chgAck (d : Dev) (sid : Nat) (c : Fin 2) (h0 : d.ackSession sid = true) (h1 : d.chgPhase c = cpFault) : let e := if d.ackSession sid then d.chgAck c else d; e = (d.toPhase c cpIdle).evt EV_CHG_ACK [c] ∧ logged (d.toPhase c cpIdle) e EV_CHG_ACK := by
  intro e
  simp only [e]; skip
  rw [h0, if_pos rfl]
  unfold Dev.chgAck
  rw [if_pos h1]
  exact ⟨rfl, logged_evt _ _ _⟩

/-- HANDOVER_COMPLETE. -/
theorem does_handoverComplete (d : Dev) (c : Fin 2) (h0 : (d.chg c).hoStages.isEmpty = false ∨ d.chgPhase c = cpHandover) (h1 : d.fld (CHG_TIMES c) CHG_TIMES_HOTIME * msTicks ≤ d.since (d.chg c).hoAt) : let e := d.handoverDone c; e = d.handoverEnd c := by
  intro e
  simp only [e]; unfold Dev.handoverDone
  rw [if_neg]
  simp only [Bool.or_eq_true, Bool.and_eq_true, decide_eq_true_eq, not_or, not_and]
  refine ⟨fun a => ?_, Nat.not_lt.2 h1⟩
  rcases h0 with h | h
  · rw [h] at a; cases a
  · simp [h]

/-- MPPT_UPDATE. -/
theorem does_mpptUpdate (d : Dev) (c : Fin 2) (h0 : d.chgOn c = true) (h1 : d.isSet (CHG_STAT c) CHG_STAT_SOLQ = true) (h2 : fNearMul (d.rd (CHG_MPPTPER c)) msTicks ≤ (d.since (d.chg c).mpptAt : Nat)) : let e := d.mppt c; e = (d.mpptPower c).2.mpptMove c (d.mpptPower c).1 (d.mpptUp c (d.mpptPower c).1) := by
  intro e
  simp only [e]; unfold Dev.mppt
  rw [h0, h1, if_neg (by simpa using h2)]

/-- LAMP_FAULT. -/
theorem does_lampFault (d : Dev) (c : Fin 2) (short : Bool) (h0 : short = true) : let e := d.lampFault c short; let m := (d.setF (CHG_FLT c) CHG_FLT_LAMPSHORT 1).modChg c (fun x => { x with lampOff := some d.now }); e = m.rated (evClass EV_CHG_LAMP_FAULT) EV_CHG_LAMP_FAULT c (60 * secTicks) (fun n => dat ([c.val] ++ le4 n)) := by
  intro e m
  simp only [e]; unfold Dev.lampFault
  rw [h0]
  rfl

/-- LAMP_FAULT. -/
theorem does_lampFault_open (d : Dev) (c : Fin 2) (short : Bool) (h0 : short = false) : let e := d.lampFault c short; let m := d.setF (CHG_FLT c) CHG_FLT_LAMPOPEN 1; e = m.rated (evClass EV_CHG_LAMP_FAULT) EV_CHG_LAMP_FAULT c (60 * secTicks) (fun n => dat ([c.val] ++ le4 n)) := by
  intro e m
  simp only [e]; unfold Dev.lampFault
  rw [h0]
  rfl

/-- LAMP_RETRY. -/
theorem does_lampRetry (d : Dev) (c : Fin 2) (r : Time) (h0 : (d.chg c).lampOff = some r) (h1 : secTicks ≤ d.since r) : let e := d.lampRetry c; e = d.modChg c (fun x => { x with lampOff := none }) ∧ (e.chg c).lampOff = none := by
  intro e
  simp only [e]; unfold Dev.lampRetry
  rw [h0]
  dsimp only
  rw [if_pos h1]
  refine ⟨rfl, ?_⟩
  unfold Dev.modChg Dev.chg
  dsimp only
  rw [Tab.getD_set_self]

/-- CHG_LAMP_WRITE. -/
theorem does_chgLampWrite (d : Dev) (triad : Fin 4) (c : Fin 2) (v : W) (h0 : triad = 0) : let e := d.lampWrite triad c v; e = (d.wr (CHG_LAMP c) (v &&& 0x80000007)).lampRefresh c ∧ e.rd (CHG_LAMP c) = v &&& 0x80000007 ∧ sameMem d e := by
  intro e
  simp only [e]; unfold Dev.lampWrite
  subst h0
  rw [if_neg (by decide)]
  refine ⟨rfl, ?_, ⟨rfl, rfl, rfl, rfl, rfl, rfl⟩⟩
  unfold Dev.lampRefresh
  rw [Dev.rd_setF_ne _ _ _ _ _ ((by decide : ∀ c : Fin 2, CHG_LAMP c ≠ CHG_STAT c) c), Dev.rd_wr_self]

/-- CHG_LAMP_WRITE. -/
theorem does_chgLampWrite_locked (d : Dev) (triad : Fin 4) (c : Fin 2) (v : W) (h0 : triad.val ≠ 0) : let e := d.lampWrite triad c v; e = d.lockedWrite triad (CHG_LAMP c) ∧ e.rd (CHG_LAMP c) = d.rd (CHG_LAMP c) := by
  intro e
  simp only [e]; unfold Dev.lampWrite
  rw [if_pos h0]
  exact ⟨rfl, Dev.rd_lockedWrite _ _ _ _ ((by decide : ∀ c : Fin 2, isEvtReg (CHG_LAMP c) = false) c)⟩

/-- THM_DIE_SAMPLE. -/
theorem does_thmDieSample (d : Dev) (rs : List (Option (Nat × Int))) (h0 : d.por = false) (h1 : d.isSet TKP_STAT TKP_STAT_REF_OK = true) (h2 : d.dieDue = true) (h3 : (d.dieTake rs).isSet THM_STAT THM_STAT_SHUT = false) : let e := d.dieSample rs; e = (d.dieTake rs).dieAct (d.dieTake rs).hottest.1 (d.dieTake rs).hottest.2 := by
  intro e
  simp only [e]; unfold Dev.dieSample
  rw [h0, h1, h2, if_neg (by decide)]
  dsimp only
  rw [h3, if_neg (by decide)]

/-- THM_DIE_SAMPLE. -/
theorem does_thmDieSample_shut (d : Dev) (rs : List (Option (Nat × Int))) (h0 : d.por = false) (h1 : d.isSet TKP_STAT TKP_STAT_REF_OK = true) (h2 : d.dieDue = true) (h3 : (d.dieTake rs).isSet THM_STAT THM_STAT_SHUT = true) : let e := d.dieSample rs; e = d.dieTake rs := by
  intro e
  simp only [e]; unfold Dev.dieSample
  rw [h0, h1, h2, if_neg (by decide)]
  dsimp only
  rw [h3, if_pos rfl]

/-- THM_NTC_SAMPLE. -/
theorem does_thmNtcSample (d : Dev) (n : Fin 24) (r : Option Int) (h0 : d.por = false) (h1 : d.isSet TKP_STAT TKP_STAT_REF_OK = true) (h2 : d.isSet (THM_NTCCFG n) THM_NTCCFG_EN = true) (h3 : d.ntcDue n = true) : let e := d.ntcSample n r; e = ((d.ntcTake n r).ntcLevel n).kUpdate := by
  intro e
  simp only [e]; unfold Dev.ntcSample
  rw [h0, h1, h2, h3, if_neg (by decide)]

/-- K_RISE. -/
theorem does_kRise (d : Dev) (h0 : msTicks ≤ d.since d.thm.lastRise) : let e := d.kRise; e = ({ d with thm := { d.thm with lastRise := d.now } } : Dev).forEach (List.range 32) Dev.kStep := by
  intro e
  simp only [e]; unfold Dev.kRise
  rw [if_neg (Nat.not_lt.2 h0)]

end Sys2Proof.Machine
end

