-- ==== Sys2Proof/Tests/Slice0.lean ====
section
/-! SUPPORT. Tests: ill-formed commands that the well-formedness check refuses, values from the worked examples of the
specification and from published test vectors, and for every statement states and operands that meet its hypotheses. -/

section

set_option Elab.async false

namespace Sys2Proof

/-! ## Ill-formed commands -/

theorem refused_registerWrite : (.registerWrite 0 0 0x40000000 0 : Instr).wf = true ∧
    (.registerWrite 0 0 0x3FFFFFFC 0 : Instr).wf = false ∧
    (.registerWrite 0 0 0x41000000 0 : Instr).wf = false ∧
    (.registerWrite 0 0 0x40000002 0 : Instr).wf = false := by decide +kernel

theorem refused_unmappedAccess : (.unmappedAccess 0 0 0x40000000 false : Instr).wf = true ∧
    (.unmappedAccess 0 0 0x3FFFFFFC false : Instr).wf = false ∧
    (.unmappedAccess 0 0 0x41000000 false : Instr).wf = false := by decide +kernel

theorem refused_refQualified : (.refQualified 0 0 : Instr).wf = true ∧
    (.refQualified 0 32768 : Instr).wf = false ∧
    (.refQualified 0 (-32769) : Instr).wf = false := by decide +kernel

theorem refused_refQualTimeout : (.refQualTimeout 0 0 : Instr).wf = true ∧
    (.refQualTimeout 0 32768 : Instr).wf = false ∧
    (.refQualTimeout 0 (-32769) : Instr).wf = false := by decide +kernel

theorem refused_refFail : (.refFail 0 false 0 : Instr).wf = true ∧
    (.refFail 0 false 32768 : Instr).wf = false ∧
    (.refFail 0 false (-32769) : Instr).wf = false := by decide +kernel

theorem refused_slotFire : (.slotFire 0 0 [] [] : Instr).wf = true ∧
    (.slotFire 0 0 (List.replicate 49 0) [] : Instr).wf = false ∧
    (.slotFire 0 0 [] (List.replicate 49 (0, 0, 0)) : Instr).wf = false := by decide +kernel

theorem refused_feedWired : (.feedWired 0 0 0 0 : Instr).wf = true ∧
    (.feedWired 0 0 0x10000 0 : Instr).wf = false ∧
    (.feedWired 0 0 0 0x10000 : Instr).wf = false := by decide +kernel

theorem refused_feedsValid : (.feedsValid 0 0 0 : Instr).wf = true ∧
    (.feedsValid 0 0x10000 0 : Instr).wf = false ∧
    (.feedsValid 0 0 0x10000 : Instr).wf = false := by decide +kernel

theorem refused_feedMissing : (.feedMissing 0 0 0 0 : Instr).wf = true ∧
    (.feedMissing 0 0 0x10000 0 : Instr).wf = false ∧
    (.feedMissing 0 0 0 0x10000 : Instr).wf = false := by decide +kernel

theorem refused_porRelease : (.porRelease 0 0 0 0 : Instr).wf = true ∧
    (.porRelease 0 0 0x10000 0 : Instr).wf = false ∧
    (.porRelease 0 0 0 0x10000 : Instr).wf = false := by decide +kernel

theorem refused_startCalibration : (.startCalibration 0 [] : Instr).wf = true ∧
    (.startCalibration 0 [(0, 0, 0)] : Instr).wf = false ∧
    (.startCalibration 0 [(8, 0, 0)] : Instr).wf = false ∧
    (.startCalibration 0 [(1, 96, 0)] : Instr).wf = false ∧
    (.startCalibration 0 [(1, 0, 16)] : Instr).wf = false := by decide +kernel

theorem refused_journalRecovery : (.journalRecovery 0 [] : Instr).wf = true ∧
    (.journalRecovery 0 [0x1E00000] : Instr).wf = false := by decide +kernel

theorem refused_sysCtrlRestart : (.sysCtrlRestart 0 0 0 : Instr).wf = true ∧
    (.sysCtrlRestart 0 0 0x100 : Instr).wf = false := by decide +kernel

theorem refused_glResponse : (.glResponse 0 0 [] false : Instr).wf = true ∧
    (.glResponse 0 0 (List.replicate 7 0) false : Instr).wf = false := by decide +kernel

theorem refused_adcSpareCalDone : (.adcSpareCalDone 0 0 0 0 : Instr).wf = true ∧
    (.adcSpareCalDone 0 0 0x10000 0 : Instr).wf = false := by decide +kernel

theorem refused_cmpDegradedRead : (.cmpDegradedRead 0 0 0 : Instr).wf = true ∧
    (.cmpDegradedRead 0 0 0x1000 : Instr).wf = false := by decide +kernel

theorem refused_sentFrame : (.sentFrame 0 0 0 0 [] 0 0 : Instr).wf = true ∧
    (.sentFrame 0 0 0 0 [16] 0 0 : Instr).wf = false ∧
    (.sentFrame 0 0 0 0 [] 16 0 : Instr).wf = false := by decide +kernel

theorem refused_triadRestart : (.triadRestart 0 0 [] : Instr).wf = true ∧
    (.triadRestart 0 0 (List.replicate 4 0) : Instr).wf = false := by decide +kernel

theorem refused_hbReceived : (.hbReceived 0 0 0 false 0 0 0 0 false : Instr).wf = true ∧
    (.hbReceived 0 0 8 false 0 0 0 0 false : Instr).wf = false ∧
    (.hbReceived 0 0 0 false 0 0 0 16 false : Instr).wf = false := by decide +kernel

theorem refused_linkTrained : (.linkTrained 0 0 0 : Instr).wf = true ∧
    (.linkTrained 0 5 0 : Instr).wf = false := by decide +kernel

theorem refused_helloReceived : (.helloReceived 0 0 0 0 0 false 0 0 0 0 none : Instr).wf = true ∧
    (.helloReceived 0 0 0 0 0 false 0 0 8 0 none : Instr).wf = false ∧
    (.helloReceived 0 0 0 0 0 false 0 0 0 16 none : Instr).wf = false := by decide +kernel

theorem refused_jrnReceived : (.jrnReceived 0 0 0 0 0 0 [] : Instr).wf = true ∧
    (.jrnReceived 0 0 0 0x100 0 0 [] : Instr).wf = false ∧
    (.jrnReceived 0 0 0 0 0x100 0 [] : Instr).wf = false ∧
    (.jrnReceived 0 0 0 0 0 (2 ^ 48) [] : Instr).wf = false ∧
    (.jrnReceived 0 0 0 0 0 0 (List.replicate 221 0) : Instr).wf = false := by decide +kernel

theorem refused_mirReceived : (.mirReceived 0 0 0 [] : Instr).wf = true ∧
    (.mirReceived 0 0 (2 ^ 32) [] : Instr).wf = false ∧
    (.mirReceived 0 0 0 (List.replicate 257 0) : Instr).wf = false := by decide +kernel

theorem refused_mirendReceived : (.mirendReceived 0 0 0 false ({ (default : StateBlock) with fns := List.replicate 32 0 }) : Instr).wf = true ∧
    (.mirendReceived 0 0 (2 ^ 24) false ({ (default : StateBlock) with fns := List.replicate 32 0 }) : Instr).wf = false ∧
    (.mirendReceived 0 0 0 false default : Instr).wf = false := by decide +kernel

theorem refused_linkQueueFrame : (.linkQueueFrame 0 0 0 default : Instr).wf = true ∧
    (.linkQueueFrame 0 0 0 ({ (default : Frame) with id := 0x800 }) : Instr).wf = false ∧
    (.linkQueueFrame 0 0 0 ({ (default : Frame) with dlc := 16 }) : Instr).wf = false ∧
    (.linkQueueFrame 0 0 0 ({ (default : Frame) with data := List.replicate 9 0 }) : Instr).wf = false ∧
    (.linkQueueFrame 0 0 0 ({ (default : Frame) with ide := true, id := 0x20000000 }) : Instr).wf = false ∧
    (.linkQueueFrame 0 0 0 ({ (default : Frame) with fdf := true, data := List.replicate 65 0 }) : Instr).wf = false := by decide +kernel

theorem refused_busFrameReceived : (.busFrameReceived 0 0 default 0 : Instr).wf = true ∧
    (.busFrameReceived 0 0 ({ (default : Frame) with id := 0x800 }) 0 : Instr).wf = false ∧
    (.busFrameReceived 0 0 ({ (default : Frame) with dlc := 16 }) 0 : Instr).wf = false ∧
    (.busFrameReceived 0 0 ({ (default : Frame) with data := List.replicate 9 0 }) 0 : Instr).wf = false ∧
    (.busFrameReceived 0 0 ({ (default : Frame) with ide := true, id := 0x20000000 }) 0 : Instr).wf = false ∧
    (.busFrameReceived 0 0 ({ (default : Frame) with fdf := true, data := List.replicate 65 0 }) 0 : Instr).wf = false := by decide +kernel

theorem refused_thmDieSample : (.thmDieSample 0 (List.replicate 18 none) : Instr).wf = true ∧
    (.thmDieSample 0 (List.replicate 19 none) : Instr).wf = false := by decide +kernel

theorem refused_marverRound : (.marverRound 0 [] 0 : Instr).wf = true ∧
    (.marverRound 0 (List.replicate 129 (0, 0, 0)) 0 : Instr).wf = false := by decide +kernel

theorem refused_scrubCorrection : (.scrubCorrection 0 0 0 : Instr).wf = true ∧
    (.scrubCorrection 0 0 (2 ^ 32) : Instr).wf = false := by decide +kernel

theorem refused_memUncorrectable : (.memUncorrectable 0 0 0 0 : Instr).wf = true ∧
    (.memUncorrectable 0 0 (2 ^ 32) 0 : Instr).wf = false := by decide +kernel

theorem refused_open_ : (.open_ 0 0 0 0 0 (List.replicate 16 0) : Instr).wf = true ∧
    (.open_ 0 6 0 0 0 (List.replicate 16 0) : Instr).wf = false ∧
    (.open_ 0 0 0 0x100 0 (List.replicate 16 0) : Instr).wf = false ∧
    (.open_ 0 0 0 0 (2 ^ 32) (List.replicate 16 0) : Instr).wf = false ∧
    (.open_ 0 0 0 0 0 (List.replicate 17 0) : Instr).wf = false := by decide +kernel

theorem refused_prove : (.prove 0 0 0 0 (List.replicate 32 0) : Instr).wf = true ∧
    (.prove 0 6 0 0 (List.replicate 32 0) : Instr).wf = false ∧
    (.prove 0 0 0 (2 ^ 32) (List.replicate 32 0) : Instr).wf = false ∧
    (.prove 0 0 0 0 (List.replicate 33 0) : Instr).wf = false := by decide +kernel

theorem refused_makerFirst : (.makerFirst 0 0 0 (List.replicate 64 0) (List.replicate 64 0) false : Instr).wf = true ∧
    (.makerFirst 0 6 0 (List.replicate 64 0) (List.replicate 64 0) false : Instr).wf = false ∧
    (.makerFirst 0 0 (2 ^ 32) (List.replicate 64 0) (List.replicate 64 0) false : Instr).wf = false ∧
    (.makerFirst 0 0 0 (List.replicate 65 0) (List.replicate 64 0) false : Instr).wf = false ∧
    (.makerFirst 0 0 0 (List.replicate 64 0) (List.replicate 65 0) false : Instr).wf = false := by decide +kernel

theorem refused_read : (.read 0 0 0 0 0 0 0 (List.replicate 16 0) : Instr).wf = true ∧
    (.read 0 6 0 0 0 0 0 (List.replicate 16 0) : Instr).wf = false ∧
    (.read 0 0 0 (2 ^ 32) 0 0 0 (List.replicate 16 0) : Instr).wf = false ∧
    (.read 0 0 0 0 (2 ^ 32) 0 0 (List.replicate 16 0) : Instr).wf = false ∧
    (.read 0 0 0 0 0 0 0 (List.replicate 17 0) : Instr).wf = false ∧
    (.read 0 0 0 0 0 (2 ^ 32) 0 (List.replicate 16 0) : Instr).wf = false ∧
    (.read 0 0 0 0 0 0 0x10000 (List.replicate 16 0) : Instr).wf = false := by decide +kernel

theorem refused_readAudit : (.readAudit 0 0 0 0 0 0 0 (List.replicate 16 0) : Instr).wf = true ∧
    (.readAudit 0 6 0 0 0 0 0 (List.replicate 16 0) : Instr).wf = false ∧
    (.readAudit 0 0 0 (2 ^ 32) 0 0 0 (List.replicate 16 0) : Instr).wf = false ∧
    (.readAudit 0 0 0 0 (2 ^ 32) 0 0 (List.replicate 16 0) : Instr).wf = false ∧
    (.readAudit 0 0 0 0 0 0 0 (List.replicate 17 0) : Instr).wf = false ∧
    (.readAudit 0 0 0 0 0 (2 ^ 32) 0 (List.replicate 16 0) : Instr).wf = false ∧
    (.readAudit 0 0 0 0 0 0 0x100 (List.replicate 16 0) : Instr).wf = false := by decide +kernel

theorem refused_setLimit : (.setLimit 0 0 0 0 0 0 0 0 false (List.replicate 16 0) : Instr).wf = true ∧
    (.setLimit 0 6 0 0 0 0 0 0 false (List.replicate 16 0) : Instr).wf = false ∧
    (.setLimit 0 0 0 (2 ^ 32) 0 0 0 0 false (List.replicate 16 0) : Instr).wf = false ∧
    (.setLimit 0 0 0 0 (2 ^ 32) 0 0 0 false (List.replicate 16 0) : Instr).wf = false ∧
    (.setLimit 0 0 0 0 0 0 0 0 false (List.replicate 17 0) : Instr).wf = false := by decide +kernel

theorem refused_setBound : (.setBound 0 0 0 0 0 0 0 0 0 0 false (List.replicate 16 0) : Instr).wf = true ∧
    (.setBound 0 6 0 0 0 0 0 0 0 0 false (List.replicate 16 0) : Instr).wf = false ∧
    (.setBound 0 0 0 (2 ^ 32) 0 0 0 0 0 0 false (List.replicate 16 0) : Instr).wf = false ∧
    (.setBound 0 0 0 0 (2 ^ 32) 0 0 0 0 0 false (List.replicate 16 0) : Instr).wf = false ∧
    (.setBound 0 0 0 0 0 0 0 0 0 0 false (List.replicate 17 0) : Instr).wf = false ∧
    (.setBound 0 0 0 0 0 0 0 0x100 0 0 false (List.replicate 16 0) : Instr).wf = false := by decide +kernel

theorem refused_calWrite : (.calWrite 0 0 0 0 0 0 0 false (List.replicate 16 0) : Instr).wf = true ∧
    (.calWrite 0 6 0 0 0 0 0 false (List.replicate 16 0) : Instr).wf = false ∧
    (.calWrite 0 0 0 (2 ^ 32) 0 0 0 false (List.replicate 16 0) : Instr).wf = false ∧
    (.calWrite 0 0 0 0 (2 ^ 32) 0 0 false (List.replicate 16 0) : Instr).wf = false ∧
    (.calWrite 0 0 0 0 0 0 0 false (List.replicate 17 0) : Instr).wf = false := by decide +kernel

theorem refused_resetLimits : (.resetLimits 0 0 0 0 0 false (List.replicate 16 0) : Instr).wf = true ∧
    (.resetLimits 0 6 0 0 0 false (List.replicate 16 0) : Instr).wf = false ∧
    (.resetLimits 0 0 0 (2 ^ 32) 0 false (List.replicate 16 0) : Instr).wf = false ∧
    (.resetLimits 0 0 0 0 (2 ^ 32) false (List.replicate 16 0) : Instr).wf = false ∧
    (.resetLimits 0 0 0 0 0 false (List.replicate 17 0) : Instr).wf = false := by decide +kernel

theorem refused_ack : (.ack 0 0 0 0 0 0 false (List.replicate 16 0) : Instr).wf = true ∧
    (.ack 0 6 0 0 0 0 false (List.replicate 16 0) : Instr).wf = false ∧
    (.ack 0 0 0 (2 ^ 32) 0 0 false (List.replicate 16 0) : Instr).wf = false ∧
    (.ack 0 0 0 0 (2 ^ 32) 0 false (List.replicate 16 0) : Instr).wf = false ∧
    (.ack 0 0 0 0 0 0 false (List.replicate 17 0) : Instr).wf = false ∧
    (.ack 0 0 0 0 0 0x100 false (List.replicate 16 0) : Instr).wf = false := by decide +kernel

theorem refused_setRtc : (.setRtc 0 0 0 0 0 0 false (List.replicate 16 0) : Instr).wf = true ∧
    (.setRtc 0 6 0 0 0 0 false (List.replicate 16 0) : Instr).wf = false ∧
    (.setRtc 0 0 0 (2 ^ 32) 0 0 false (List.replicate 16 0) : Instr).wf = false ∧
    (.setRtc 0 0 0 0 (2 ^ 32) 0 false (List.replicate 16 0) : Instr).wf = false ∧
    (.setRtc 0 0 0 0 0 0 false (List.replicate 17 0) : Instr).wf = false := by decide +kernel

theorem refused_slotBegin : (.slotBegin 0 0 0 0 0 0 0 (List.replicate 32 0) (List.replicate 16 0) : Instr).wf = true ∧
    (.slotBegin 0 6 0 0 0 0 0 (List.replicate 32 0) (List.replicate 16 0) : Instr).wf = false ∧
    (.slotBegin 0 0 0 (2 ^ 32) 0 0 0 (List.replicate 32 0) (List.replicate 16 0) : Instr).wf = false ∧
    (.slotBegin 0 0 0 0 (2 ^ 32) 0 0 (List.replicate 32 0) (List.replicate 16 0) : Instr).wf = false ∧
    (.slotBegin 0 0 0 0 0 0 0 (List.replicate 32 0) (List.replicate 17 0) : Instr).wf = false ∧
    (.slotBegin 0 0 0 0 0 0x100 0 (List.replicate 32 0) (List.replicate 16 0) : Instr).wf = false ∧
    (.slotBegin 0 0 0 0 0 0 (2 ^ 32) (List.replicate 32 0) (List.replicate 16 0) : Instr).wf = false ∧
    (.slotBegin 0 0 0 0 0 0 0 (List.replicate 33 0) (List.replicate 16 0) : Instr).wf = false := by decide +kernel

theorem refused_slotData : (.slotData 0 0 0 0 0 0 [] : Instr).wf = true ∧
    (.slotData 0 6 0 0 0 0 [] : Instr).wf = false ∧
    (.slotData 0 0 0 (2 ^ 32) 0 0 [] : Instr).wf = false ∧
    (.slotData 0 0 0 0 (2 ^ 32) 0 [] : Instr).wf = false ∧
    (.slotData 0 0 0 0 0 (2 ^ 32) [] : Instr).wf = false ∧
    (.slotData 0 0 0 0 0 0 (List.replicate 449 0) : Instr).wf = false := by decide +kernel

theorem refused_slotEnd : (.slotEnd 0 0 0 0 0 false (List.replicate 16 0) : Instr).wf = true ∧
    (.slotEnd 0 6 0 0 0 false (List.replicate 16 0) : Instr).wf = false ∧
    (.slotEnd 0 0 0 (2 ^ 32) 0 false (List.replicate 16 0) : Instr).wf = false ∧
    (.slotEnd 0 0 0 0 (2 ^ 32) false (List.replicate 16 0) : Instr).wf = false ∧
    (.slotEnd 0 0 0 0 0 false (List.replicate 17 0) : Instr).wf = false := by decide +kernel

theorem refused_restart : (.restart 0 0 0 0 0 false (List.replicate 16 0) : Instr).wf = true ∧
    (.restart 0 6 0 0 0 false (List.replicate 16 0) : Instr).wf = false ∧
    (.restart 0 0 0 (2 ^ 32) 0 false (List.replicate 16 0) : Instr).wf = false ∧
    (.restart 0 0 0 0 (2 ^ 32) false (List.replicate 16 0) : Instr).wf = false ∧
    (.restart 0 0 0 0 0 false (List.replicate 17 0) : Instr).wf = false := by decide +kernel

theorem refused_keyInstall : (.keyInstall 0 0 0 0 0 0 0 [] 0 [] false (List.replicate 16 0) : Instr).wf = true ∧
    (.keyInstall 0 6 0 0 0 0 0 [] 0 [] false (List.replicate 16 0) : Instr).wf = false ∧
    (.keyInstall 0 0 0 (2 ^ 32) 0 0 0 [] 0 [] false (List.replicate 16 0) : Instr).wf = false ∧
    (.keyInstall 0 0 0 0 (2 ^ 32) 0 0 [] 0 [] false (List.replicate 16 0) : Instr).wf = false ∧
    (.keyInstall 0 0 0 0 0 0 0 [] 0 [] false (List.replicate 17 0) : Instr).wf = false ∧
    (.keyInstall 0 0 0 0 0 (2 ^ 32) 0 [] 0 [] false (List.replicate 16 0) : Instr).wf = false ∧
    (.keyInstall 0 0 0 0 0 0 0x100 [] 0 [] false (List.replicate 16 0) : Instr).wf = false ∧
    (.keyInstall 0 0 0 0 0 0 0 [] (2 ^ 32) [] false (List.replicate 16 0) : Instr).wf = false := by decide +kernel

theorem refused_keyRevoke : (.keyRevoke 0 0 0 0 0 0 false (List.replicate 16 0) : Instr).wf = true ∧
    (.keyRevoke 0 6 0 0 0 0 false (List.replicate 16 0) : Instr).wf = false ∧
    (.keyRevoke 0 0 0 (2 ^ 32) 0 0 false (List.replicate 16 0) : Instr).wf = false ∧
    (.keyRevoke 0 0 0 0 (2 ^ 32) 0 false (List.replicate 16 0) : Instr).wf = false ∧
    (.keyRevoke 0 0 0 0 0 0 false (List.replicate 17 0) : Instr).wf = false ∧
    (.keyRevoke 0 0 0 0 0 (2 ^ 32) false (List.replicate 16 0) : Instr).wf = false := by decide +kernel

theorem refused_gustClear : (.gustClear 0 0 0 0 0 0 false (List.replicate 16 0) : Instr).wf = true ∧
    (.gustClear 0 6 0 0 0 0 false (List.replicate 16 0) : Instr).wf = false ∧
    (.gustClear 0 0 0 (2 ^ 32) 0 0 false (List.replicate 16 0) : Instr).wf = false ∧
    (.gustClear 0 0 0 0 (2 ^ 32) 0 false (List.replicate 16 0) : Instr).wf = false ∧
    (.gustClear 0 0 0 0 0 0 false (List.replicate 17 0) : Instr).wf = false ∧
    (.gustClear 0 0 0 0 0 0x10000 false (List.replicate 16 0) : Instr).wf = false := by decide +kernel

theorem refused_cullClear : (.cullClear 0 0 0 0 0 0 false (List.replicate 16 0) : Instr).wf = true ∧
    (.cullClear 0 6 0 0 0 0 false (List.replicate 16 0) : Instr).wf = false ∧
    (.cullClear 0 0 0 (2 ^ 32) 0 0 false (List.replicate 16 0) : Instr).wf = false ∧
    (.cullClear 0 0 0 0 (2 ^ 32) 0 false (List.replicate 16 0) : Instr).wf = false ∧
    (.cullClear 0 0 0 0 0 0 false (List.replicate 17 0) : Instr).wf = false ∧
    (.cullClear 0 0 0 0 0 0x10000 false (List.replicate 16 0) : Instr).wf = false := by decide +kernel

theorem refused_lockoutClear : (.lockoutClear 0 0 0 0 0 0 false (List.replicate 16 0) : Instr).wf = true ∧
    (.lockoutClear 0 6 0 0 0 0 false (List.replicate 16 0) : Instr).wf = false ∧
    (.lockoutClear 0 0 0 (2 ^ 32) 0 0 false (List.replicate 16 0) : Instr).wf = false ∧
    (.lockoutClear 0 0 0 0 (2 ^ 32) 0 false (List.replicate 16 0) : Instr).wf = false ∧
    (.lockoutClear 0 0 0 0 0 0 false (List.replicate 17 0) : Instr).wf = false ∧
    (.lockoutClear 0 0 0 0 0 0x100 false (List.replicate 16 0) : Instr).wf = false := by decide +kernel

theorem refused_factest : (.factest 0 0 0 0 0 none false (List.replicate 16 0) : Instr).wf = true ∧
    (.factest 0 6 0 0 0 none false (List.replicate 16 0) : Instr).wf = false ∧
    (.factest 0 0 0 (2 ^ 32) 0 none false (List.replicate 16 0) : Instr).wf = false ∧
    (.factest 0 0 0 0 (2 ^ 32) none false (List.replicate 16 0) : Instr).wf = false ∧
    (.factest 0 0 0 0 0 none false (List.replicate 17 0) : Instr).wf = false := by decide +kernel

theorem refused_close : (.close 0 0 0 0 0 (List.replicate 16 0) : Instr).wf = true ∧
    (.close 0 6 0 0 0 (List.replicate 16 0) : Instr).wf = false ∧
    (.close 0 0 0 (2 ^ 32) 0 (List.replicate 16 0) : Instr).wf = false ∧
    (.close 0 0 0 0 (2 ^ 32) (List.replicate 16 0) : Instr).wf = false ∧
    (.close 0 0 0 0 0 (List.replicate 17 0) : Instr).wf = false := by decide +kernel

theorem refused_supWarning : (.supWarning 0 0 0 : Instr).wf = true ∧
    (.supWarning 0 0x10000 0 : Instr).wf = false ∧
    (.supWarning 0 0 0x10000 : Instr).wf = false := by decide +kernel

theorem refused_supRecoveryStart : (.supRecoveryStart 0 0 0 : Instr).wf = true ∧
    (.supRecoveryStart 0 0x10000 0 : Instr).wf = false ∧
    (.supRecoveryStart 0 0 0x10000 : Instr).wf = false := by decide +kernel

theorem refused_supRecoveryAbort : (.supRecoveryAbort 0 0 0 : Instr).wf = true ∧
    (.supRecoveryAbort 0 0x10000 0 : Instr).wf = false ∧
    (.supRecoveryAbort 0 0 0x10000 : Instr).wf = false := by decide +kernel

theorem refused_supRecovered : (.supRecovered 0 0 0 : Instr).wf = true ∧
    (.supRecovered 0 0x10000 0 : Instr).wf = false ∧
    (.supRecovered 0 0 0x10000 : Instr).wf = false := by decide +kernel

theorem refused_feedLost : (.feedLost 0 0 0 0 : Instr).wf = true ∧
    (.feedLost 0 0 0x10000 0 : Instr).wf = false ∧
    (.feedLost 0 0 0 0x10000 : Instr).wf = false := by decide +kernel

theorem refused_feedReturn : (.feedReturn 0 0 0 0 : Instr).wf = true ∧
    (.feedReturn 0 0 0x10000 0 : Instr).wf = false ∧
    (.feedReturn 0 0 0 0x10000 : Instr).wf = false := by decide +kernel

theorem refused_overvoltage : (.overvoltage 0 0 0 0 : Instr).wf = true ∧
    (.overvoltage 0 0 0x10000 0 : Instr).wf = false ∧
    (.overvoltage 0 0 0 0x10000 : Instr).wf = false := by decide +kernel

theorem refused_ovReconnect : (.ovReconnect 0 0 0 0 : Instr).wf = true ∧
    (.ovReconnect 0 0 0x10000 0 : Instr).wf = false ∧
    (.ovReconnect 0 0 0 0x10000 : Instr).wf = false := by decide +kernel

theorem refused_porAssert : (.porAssert 0 0 0 : Instr).wf = true ∧
    (.porAssert 0 0x10000 0 : Instr).wf = false ∧
    (.porAssert 0 0 0x10000 : Instr).wf = false := by decide +kernel

theorem refused_vbkupMeasure : (.vbkupMeasure 0 0 : Instr).wf = true ∧
    (.vbkupMeasure 0 0x10000 : Instr).wf = false := by decide +kernel

/-- No row of the table has bits, so no word is a command. -/
theorem word_spells_no_command : decodeTableWord 32 0 = none ∧ decodeTableWord 64 0xFFFFFFFF = none := by decide

end Sys2Proof

namespace Sys2Proof.Machine

/-! ## A key, a signature and an image for the witnesses -/

/-- A public key whose private number is 1: the base point of P-256. -/
def testPub : List Byte := beBytes 32 p256G.1 ++ beBytes 32 p256G.2
/-- The ECDSA signature of a message by that key with nonce 1: r is the x of the base point, s = hash + r. -/
def testSign (msg : List Byte) : List Byte :=
  beBytes 32 (p256G.1 % p256N) ++ beBytes 32 ((beNat (sha256 msg) + p256G.1) % p256N)

/-- A PROG record for T0 with one word of code, signed by key 11 (R60). -/
def testProg : List Byte :=
  let head := leBytes 4 0x100 ++ leBytes 4 0 ++ leBytes 4 0 ++ leBytes 4 4 ++ leBytes 4 11
  head ++ testSign (head ++ leBytes 4 0) ++ leBytes 4 0
def testRecs : List Rec := [⟨rtProg, testProg⟩, ⟨rtEnd, leBytes 4 1⟩]
/-- The body: the PROG record and END (R57). -/
def testBody : List Byte := leBytes 2 rtProg ++ leBytes 2 22 ++ testProg ++ leBytes 2 rtEnd ++ leBytes 2 1 ++ leBytes 4 1
/-- The header's first 0xC0 bytes (Table SYS-3). -/
def testHead : List Byte :=
  leBytes 4 0x38345848 ++ leBytes 2 0x100 ++ leBytes 2 256 ++ leBytes 4 (256 + testBody.length) ++ leBytes 4 1 ++ leBytes 4 1 ++
  leBytes 4 0x48580048 ++ leBytes 4 0 ++ leBytes 4 2 ++ sha256 testBody ++ leBytes 4 11 ++ leBytes 4 3 ++ List.replicate 120 0
/-- A signed image in slot 0. -/
def testFlash : Mem :=
  (((testHead ++ testSign (testHead ++ testBody) ++ testBody).zipIdx.map (fun p => (p.2, p.1))).filter (fun p => p.2 ≠ 0xFF))
/-- A store that holds the key as a maker's. -/
def testKeys : Sec := { (default : Sec) with keys := [⟨11, 3, testPub⟩], keyAok := true, keyBok := true }

/-! ## Worked examples of the specification, and published test vectors -/

/-- Worked example of chapter 22: step 1 of SEQ02. -/
theorem test_sequence_step_address : ADC_STEP 2 1 = 0x40131104 := by decide

/-- Worked example of chapter 02: STIME of 44,000,000,000,000 fine ticks. -/
theorem test_frame_stamp :
    (({ Dev.reset with por := false, tk := { (default : TimeKeeper) with stime := 44000000000000#64 } } : Dev).loadReg 1 TKP_FSTAMP).1.toNat =
      2625817600 := by decide +kernel

/-- Table THM-2: at 145.0 °C the factor is 0.90, at 148.0 °C 0.70 (within a unit of the fourth decimal). -/
theorem test_die_factor :
    fGe (dieFactor 3 (16 * 145)) (fC 8999 10000) = true ∧ fGe (fC 9001 10000) (dieFactor 3 (16 * 145)) = true ∧
    fGe (dieFactor 3 (16 * 148)) (fC 6999 10000) = true ∧ fGe (fC 7001 10000) (dieFactor 3 (16 * 148)) = true := by decide +kernel

/-- Table THM-2: the levels with their hysteresis (0 NORMAL to 3 DERATE). -/
theorem test_levels :
    [nextLevel 0 (16 * 125), nextLevel 0 (16 * 135), nextLevel 1 (16 * 140), nextLevel 2 (16 * 145), nextLevel 3 (16 * 144),
      nextLevel 3 (16 * 1419 / 10), nextLevel 2 (16 * 1369 / 10), nextLevel 1 (16 * 1319 / 10)] = [0, 1, 2, 3, 3, 2, 1, 0] := by
  decide +kernel

/-- FIPS 180-4, "abc": the first word of the digest. -/
theorem test_sha256 : (sha256 [0x61, 0x62, 0x63]).take 4 = [0xBA, 0x78, 0x16, 0xBF] := by decide +kernel

/-- The check value of CRC-32 (ISO-HDLC) over "123456789". -/
theorem test_crc32 : (crc32 [0x31, 0x32, 0x33, 0x34, 0x35, 0x36, 0x37, 0x38, 0x39]).toNat = 0xCBF43926 := by decide +kernel

/-- binary32 by hand: 1.5 + 2.25 = 3.75, 3 × 0.5 = 1.5, 1 / 0 = +∞ and 2³⁰ × 2¹⁰⁰ = +∞. -/
theorem test_float :
    fAdd 0x3FC00000 0x40100000 = 0x40700000 ∧ fMul 0x40400000 0x3F000000 = 0x3FC00000 ∧ fDiv 0x3F800000 0 = 0x7F800000 ∧
    fMul 0x4E800000 0x71800000 = 0x7F800000 := by decide +kernel

/-! ## Witnesses of the statements about rules -/

/-- A device that runs. -/
abbrev testOn : Dev := { Dev.reset with por := false }
/-- A device in RUN that holds the token. -/
abbrev testRun : Dev := (testOn.setSys stRun).setRole roleSingle
/-- A function with one leg, trip group 2, axis unit 1. -/
abbrev testFunc : FuncRec := { (default : FuncRec) with kind := 1, legs := [5], tg := 2, axuA := some 1, axuB := none, cvu := none }
abbrev testImg : Image := { (default : Image) with funcs := [(1, testFunc)] }
/-- Triad 1 executes in supervisor mode, with all of its local SRAM open to it. -/
abbrev testCore : Dev :=
  (({ testOn with triads := [(1, { (default : Triad) with wait := .none, core := { (default : Core) with w := [0, 5, 8], status := 1 } })] } : Dev).wr
    (COR_MPU_ATTR 1 0) 0x80000007#32).wr (COR_MPU_LIMIT 1 0) 0x7FF00#32
/-- The same triad in task mode. -/
abbrev testTask : Dev :=
  (({ testOn with triads := [(1, { (default : Triad) with wait := .none, core := { (default : Core) with w := [0, 5, 8], status := 0 } })] } : Dev).wr
    (COR_MPU_ATTR 1 0) 0x8000003F#32).wr (COR_MPU_LIMIT 1 0) 0x7FF00#32

theorem witness_EmptyQueueIdles : testOn.por = false ∧ testOn.now.toNat + 1 < 2 ^ 64 ∧ testOn.inRun = false := by decide +kernel
theorem witness_EmptyQueueIdles_paused :
    (testRun.setF SUP_STAT SUP_STAT_WARN 1).inRun = true ∧ (testRun.setF SUP_STAT SUP_STAT_WARN 1).paused = true := by decide +kernel
theorem witness_CommandsRunInOrder :
    2 ≤ (⟨[.stormClear 0, .rtcLoad 0], testOn⟩ : State).pending.length := by decide
theorem witness_EveryStepKeepsSound : State.reset.dev.sound := by
  unfold Dev.sound Dev.memOk Dev.roomOk Dev.tabsOk cullOk
  decide +kernel
theorem witness_StimeNeverRunsBackward : testOn.sound ∧ testOn.por = false := by
  unfold Dev.sound Dev.memOk Dev.roomOk Dev.tabsOk cullOk
  decide +kernel
theorem witness_ShutdownStaysLatched :
    let s : State := ⟨[.porAssert 0 5500 0], testOn.setF THM_STAT THM_STAT_SHUT 1⟩
    s.dev.isSet THM_STAT THM_STAT_SHUT = true ∧
      ∀ t va vb, s.pending.head? = some (.porAssert t va vb) → 5500 ≤ s.dev.vin va vb := by
  refine ⟨by decide +kernel, fun t va vb h => ?_⟩
  simp only [List.head?_cons, Option.some.injEq, Instr.porAssert.injEq] at h
  obtain ⟨_, rfl, rfl⟩ := h
  decide +kernel
theorem witness_StoppedModuleDoesNothing :
    servesStopped (.run 0 0) = false ∧ (testOn.setF THM_STAT THM_STAT_SHUT 1).stopped = true ∧ State.reset.dev.stopped = true := by
  decide +kernel
theorem witness_LockedWriteRefused :
    let d : Dev := (testOn.setF SYS_BOOT SYS_BOOT_LOCKED 1).at 0
    let r := (regDesc (LEG_CFG 47)).getD default
    regDesc (LEG_CFG 47) = some r ∧ r.acc = .cl ∧ d.locked = true ∧ d.stopped = false := by decide +kernel
theorem witness_UnassignedOffsets :
    (inPeriph 0x40000000 = true ∨ inPeriph 0x40FFFFFC = true) ∧ inPeriph 0x40FFFFFC = true ∧ regDesc 0x40FFFFFC = none ∧
      (testOn.at 0).stopped = false := by decide +kernel
theorem witness_OwnCorWindow :
    regDesc (0x40300000 + 0x1000 * 3 + 0x18) ≠ none ∧ regDesc (0x40300000 + 0x1000 * 3 + 0x0C) ≠ none ∧
      regDesc (0x40300000 + 0x1000 * 2 + 0x08) ≠ none ∧ (testOn.at 0).stopped = false ∧ (1 : Fin 4) ≠ 2 := by decide +kernel
theorem witness_StimePairCoherent :
    Tab.has testOn.tk.hiLatch 1 = false ∧ (2 : Fin 4) ≠ 1 ∧
      (testOn.loadReg 1 TKP_STIME_LO).2 = (testOn.loadReg 1 TKP_STIME_LO).2 := by decide +kernel
theorem witness_SlotEnablesByT0 :
    (testOn.at 0).stopped = false ∧ (3 : Fin 4) ≠ 0 ∧ (31 < 32 ∧ (0 : W).bit 31 = false ∧ (0 + 31 ≠ 63)) := by decide +kernel
theorem witness_SafetyQueueFifo :
    testOn.safeq.length < 256 ∧ 256 ≤ ({ testOn with safeq := List.replicate 256 0x1601 } : Dev).safeq.length ∧
      (({ testOn with safeq := [0x1601] } : Dev).at 0).stopped = false ∧
      (({ testOn with safeq := [0x1601] } : Dev).at 0).safeq = 0x1601 :: [] := by decide +kernel
theorem witness_FirstSafeStateDecides :
    let d : Dev := { testRun with img := testImg }
    let b : Dev := ((d.setF (RED_FNSTATE 1) RED_FNSTATE_SAFE 1).setF (RED_FNSTATE 1) RED_FNSTATE_STATE 1).setF (RED_FNSTATE 1) RED_FNSTATE_CAUSE 0x1601
    (d.func 1).isSome = true ∧ permitted (d.funcD 1).kind 0 = true ∧ d.inSafe 1 = false ∧ permitted (d.funcD 1).kind 4 = true ∧
      b.inSafe 1 = true ∧ b.fld (RED_FNSTATE 1) RED_FNSTATE_CAUSE = 0x1601 ∧ b.fld (RED_FNSTATE 1) RED_FNSTATE_STATE ≠ 0 ∧
      b.fld (RED_FNSTATE 1) RED_FNSTATE_CAUSE ≠ 0xFFFF := by decide +kernel
theorem witness_units : FuncRec.units testFunc := by
  refine ⟨by decide, by decide, fun u h => ?_, fun u h => ?_⟩
  · rcases h with h | h <;> simp [testFunc] at h
    subst h; decide
  · simp [testFunc] at h
theorem witness_TripGroupLatches :
    let d : Dev := (({ testRun with img := testImg } : Dev).setF (TRP_GCFG 2) TRP_GCFG_EN 1).wr (TRP_GEXT 2) 0x10
    let e : Dev := d.wr TRP_SWTRIP 4
    d.latching = true ∧ d.asserted 2 = false ∧ d.trueSources 2 = [] ∧ e.latching = true ∧ e.asserted 2 = false ∧
      e.trueSources 2 = [148] ∧ e.groupFn 2 = some 1 ∧ (e.funcD 1).legs = [5] ∧ (e.putBit TRP_STAT 2 true).asserted 2 = true ∧
      testOn.latching = false := by decide +kernel
theorem witness_NoEnableWhileTripped :
    let d : Dev := ((({ testRun with img := testImg, red := { (default : Red) with reqEnable := 2 } } : Dev)).putBit TRP_STAT 2 true).at 0
    d.stopped = false ∧ d.asserted (d.fnGroup 1) = true ∧ d.enabled 1 = false ∧ (d.func 1).isSome = true ∧
      d.red.enabling.testBit 1 = false ∧ d.red.reqEnable.testBit 1 = true := by decide +kernel
theorem witness_GaleEntersCulletList :
    let full : List Cull := List.replicate 256 ⟨0, 1, false, false, 0, 0⟩
    resId 3 5 ∈ ([⟨resId 3 5, 1, false, false, 0, 0⟩] : List Cull).map (·.res) ∧ resId 3 5 ∉ testOn.red.cull.map (·.res) ∧
      testOn.red.cull.length < 256 ∧ resId 3 5 ∉ full.map (·.res) ∧ 256 ≤ full.length := by decide +kernel
theorem witness_FifthSessionIsBusy :
    let x : Sec := { (default : Sec) with keys := [⟨11, 1, [7]⟩], sessions := [⟨1, 0, 3, 1, 11, 0, 0⟩] }
    let d : Dev := ({ testRun.setBus 0 bsActive with sec := x } : Dev).at 0
    let e : Dev := { d with sec := { d.sec with sessions := List.replicate 4 ⟨1, 2, 9, 1, 11, 0, 0⟩ } }
    d.stopped = false ∧ d.secOpen 0 = true ∧ d.roleOn 1 0 = true ∧ d.roleLocked 1 = false ∧
      (∃ x ∈ d.sec.sessions, x.port = 0 ∧ x.ctag = 3) ∧ e.secOpen 0 = true ∧ e.roleOn 1 0 = true ∧ 4 ≤ e.sec.sessions.length := by
  decide +kernel
theorem witness_AuditLogRing :
    testOn.sec.audHead < 2 ^ 32 ∧ testOn.sec.audHead < 16384 ∧ 16384 ≤ ({ (default : Sec) with audHead := 2 ^ 32 - 1 } : Sec).audHead ∧
      ({ (default : Sec) with audHead := 2 ^ 32 - 1 } : Sec).audHead < 2 ^ 32 := by decide +kernel
theorem witness_MisalignedAccessTakesLine1 :
    let c := (testCore.triad 1).core
    testCore.ready 1 ∧ c.fh = false ∧ c.memAddr 1 0 % 2 ≠ 0 ∧ c.memAddr 2 2 % 4 ≠ 0 ∧ (c.getW 1).toNat % 4 ≠ 0 := by decide +kernel
theorem witness_IllegalAndOperandFaults :
    let c := (testTask.triad 1).core
    testTask.ready 1 ∧ c.fh = false ∧ c.sup = false ∧ (c.special 1 1).isSome = true ∧ openSpecial 1 = false ∧ c.getW 0 = 0 := by
  decide +kernel
theorem witness_StoreThenLoad :
    let c := (testCore.triad 1).core
    let a := c.memAddr 2 4
    testCore.ready 1 ∧ (testCore.triad 1).replay = [] ∧ inLocal a = true ∧ testCore.accessFault 1 ecStore a 4 4 = none ∧
      testCore.accessFault 1 ecLoad a 4 4 = none ∧ testCore.accessFault 1 ecFetch c.next.pc.toNat 4 4 = none := by decide +kernel


/-! ## Witnesses of the completion statements, one for each clause -/

/-! ### Analogue -/

theorem witness_adcSpareCalDone : let d : Dev := ((({ Dev.reset with por := false } : Dev)).setF ADC_STAT ADC_STAT_SPARE 8).at 0; let ofs : Int := 3; let gain : Nat := 0x8000; let inl : Int := 1; (d.stopped = false) ∧ (d.spareConv < 9) ∧ (((d.calResult d.spareConv ofs gain inl).conv d.spareConv).lastBad = false) := by decide +kernel

theorem witness_adcSwapCheck : let d : Dev := (((({ Dev.reset with por := false, slots := [(2, { (default : AdcSlot) with wantSince := some 0 })] } : Dev)).setF ADC_STAT ADC_STAT_SPARE 8).setF ADC_SLOTMAP ⟨8, 4⟩ 2).at 0; let k : Fin 8 := 2; let outgoing : Int := 100; let incoming : Int := 104; (d.stopped = false) ∧ (d.spareConv < 9) ∧ (d.slotConv k < 9) ∧ (d.isSet ADC_STAT ADC_STAT_CALBUSY = false) ∧ (d.slotFree k = true) ∧ ((d.adcSlot k).wantSince.isSome = true) ∧ ((outgoing - incoming).natAbs ≤ 8) := by decide +kernel

theorem witness_swapDeferred : let d : Dev := (({ Dev.reset with por := false, tk := { (default : TimeKeeper) with stime := 160000000 }, slots := [(2, { (default : AdcSlot) with wantSince := some 0 })] } : Dev)).at 0; let k : Fin 8 := 2; let r : Time := 0; (d.stopped = false) ∧ ((d.adcSlot k).wantSince = some r) ∧ (10 * msTicks ≤ d.since r) := by decide +kernel

theorem witness_adcCalAged : let d : Dev := (({ Dev.reset with por := false, tk := { (default : TimeKeeper) with stime := 3200000000 } } : Dev)).at 0; let n : Fin 9 := 2; (d.stopped = false) ∧ (200 * msTicks ≤ d.since (d.conv n).calAt) := by decide +kernel

theorem witness_adcSeqgoWrite : let d : Dev := (({ Dev.reset with por := false } : Dev)).at 0; let v : W := 4; (d.stopped = false) := by decide +kernel

theorem witness_adcGroupStart : let d : Dev := ((({ Dev.reset with por := false, seqs := [(2, { (default : SeqRun) with waiting := true, sched := true })] } : Dev)).setF (ADC_SEQSTAT 2) ADC_SEQSTAT_RUN 1).at 0; let q : Fin 32 := 2; (d.stopped = false) ∧ (d.groupReady q = true) := by decide +kernel

theorem witness_adcConversionDone_urgent : let d : Dev := (({ Dev.reset with por := false, slots := [(2, { (default : AdcSlot) with urgent := some 1 })] } : Dev)).at 0; let k : Fin 8 := 2; let nv : Int := 1000000; let high : Bool := false; let t : Nat := 1; (d.stopped = false) ∧ ((d.adcSlot k).urgent = some t) := by decide +kernel

theorem witness_adcConversionDone : let d : Dev := (({ Dev.reset with por := false, slots := [(2, { (default : AdcSlot) with busy := some (1, 0) })] } : Dev)).at 0; let k : Fin 8 := 2; let nv : Int := 1000000; let high : Bool := false; let p : Nat × Nat := (1, 0); (d.stopped = false) ∧ ((d.adcSlot k).urgent = none) ∧ ((d.adcSlot k).busy = some p) := by decide +kernel

theorem witness_adcUrgreqWrite : let d : Dev := (({ Dev.reset with por := false } : Dev)).at 0; let triad : Fin 4 := 1; let k : Fin 8 := 2; let v : W := 0x80280005; (d.stopped = false) ∧ ((d.rdOwn triad (ADC_URGREQ k)).bit 31 = false) ∧ (v.bit 31 = true) ∧ (((v.fld ADC_URGREQ_ACQ < 8 || v.fld ADC_URGREQ_GAIN = 3 || (v.fld ADC_URGREQ_DIFF = 1 && (v.fld ADC_URGREQ_INPUT % 2 = 1 || 96 ≤ v.fld ADC_URGREQ_INPUT)) || (96 ≤ v.fld ADC_URGREQ_INPUT && v.fld ADC_URGREQ_GAIN ≠ 0)) : Bool) = false) := by decide +kernel

theorem witness_adcUrgentStart : let d : Dev := (({ Dev.reset with por := false, slots := [(2, { (default : AdcSlot) with queue := [1] })] } : Dev)).at 0; let k : Fin 8 := 2; let t : Nat := 1; let r : List Nat := []; (d.stopped = false) ∧ ((d.adcSlot k).queue = t :: r) ∧ (d.slotFree k = true) ∧ ((d.waiters k).all (fun s => !(d.seqRun s).sched) = true) ∧ (d.fits k (d.now.toNat + (d.rdOwn t (ADC_URGREQ k)).fld ADC_URGREQ_ACQ * 80 + convTicks) = true) := by decide +kernel

theorem witness_adcPowerDown : let d : Dev := (((({ Dev.reset with por := false, tk := { (default : TimeKeeper) with stime := 16000000000 } } : Dev)).setF ADC_PDCFG ADC_PDCFG_PDEN 1).setF ADC_STAT ADC_STAT_SPARE 8).at 0; let n : Fin 9 := 2; (d.stopped = false) ∧ (d.isSet ADC_PDCFG ADC_PDCFG_PDEN = true) ∧ (d.spareConv ≠ n) ∧ (d.fld ADC_PDCFG ADC_PDCFG_IDLE * usTicks ≤ d.since (d.conv n).lastConv) ∧ ((List.range 8).any (fun k => d.slotConv k = n && !d.slotFree k) = false) := by decide +kernel

theorem witness_adcWake : let d : Dev := (({ Dev.reset with por := false, convs := [(2, { (default : Conv) with down := true })] } : Dev)).at 0; let n : Fin 9 := 2; (d.stopped = false) := by decide +kernel

theorem witness_dsmWindowResult : let d : Dev := ((((({ Dev.reset with por := false } : Dev)).setF (DSM_STAT 2) DSM_STAT_RUN 1).setF (DSM_CFG 2) DSM_CFG_EN 1).setF DSM_CKCFG DSM_CKCFG_EN 0xFF).at 0; let n : Fin 32 := 2; let y : Int := 100; (d.stopped = false) ∧ (d.isSet (DSM_STAT n) DSM_STAT_RUN = true) ∧ (d.dsmRuns n = true) := by decide +kernel

theorem witness_dsmContOutput : let d : Dev := ((((({ Dev.reset with por := false } : Dev)).setF (DSM_CFG 2) DSM_CFG_MODE 1).setF (DSM_CFG 2) DSM_CFG_EN 1).setF DSM_CKCFG DSM_CKCFG_EN 0xFF).at 0; let n : Fin 32 := 2; let y : Int := 100; (d.stopped = false) ∧ (d.dsmRuns n = true) ∧ (d.isSet (DSM_CFG n) DSM_CFG_MODE = true) := by decide +kernel

theorem witness_dsmFastOutput : let d : Dev := ((((((({ Dev.reset with por := false } : Dev)).setF (DSM_OCCFG 2) DSM_OCCFG_OCEN 1).setF (DSM_STAT 2) DSM_STAT_OC 0).setF (DSM_OCCFG 2) DSM_OCCFG_OCCNT 0).setF (DSM_CFG 2) DSM_CFG_EN 1).setF DSM_CKCFG DSM_CKCFG_EN 0xFF).at 0; let n : Fin 32 := 2; let y : Int := 63; (d.stopped = false) ∧ (d.dsmRuns n = true) ∧ (d.isSet (DSM_OCCFG n) DSM_OCCFG_OCEN = true) ∧ (decide (signedOf 8 (d.fld (DSM_OCCFG n) DSM_OCCFG_OCHI) < y ∨ y < signedOf 8 (d.fld (DSM_OCCFG n) DSM_OCCFG_OCLO)) = true) ∧ (d.isSet (DSM_STAT n) DSM_STAT_OC = false) ∧ (d.fld (DSM_OCCFG n) DSM_OCCFG_OCCNT + 1 ≤ (d.dsm n).ocRun + 1) := by decide +kernel

theorem witness_dsmStuck : let d : Dev := (((({ Dev.reset with por := false } : Dev)).setF (DSM_CFG 2) DSM_CFG_EN 1).setF DSM_CKCFG DSM_CKCFG_EN 0xFF).at 0; let n : Fin 32 := 2; let stuck : Bool := true; (d.stopped = false) ∧ (d.dsmRuns n = true) ∧ (stuck = true) := by decide +kernel

theorem witness_dsmStuck_ends : let d : Dev := (((({ Dev.reset with por := false } : Dev)).setF (DSM_CFG 2) DSM_CFG_EN 1).setF DSM_CKCFG DSM_CKCFG_EN 0xFF).at 0; let n : Fin 32 := 2; let stuck : Bool := false; (d.stopped = false) ∧ (d.dsmRuns n = true) ∧ (stuck = false) := by decide +kernel

theorem witness_cmpTrip : let d : Dev := (((({ Dev.reset with por := false } : Dev)).setF (CMP_CFG 2) CMP_CFG_EN 1).setF (CMP_CFG 2) CMP_CFG_MODE 1).at 0; let n : Fin 64 := 2; let news : List (Bool × Bool) := [(true, false)]; let p : Bool × Bool := (true, false); let r : List (Bool × Bool) := []; (d.stopped = false) ∧ (news = p :: r) ∧ (d.windowRuns n = true) ∧ (d.isSet (CMP_STAT n) CMP_STAT_TRIPPED = false) ∧ (d.sampleBeyond n p = true) ∧ (filtM (d.fld (CMP_CFG n) CMP_CFG_FILT) ≤ (d.windowHist n news).countP id) := by decide +kernel

theorem witness_cmpNormal : let d : Dev := (((({ Dev.reset with por := false } : Dev)).setF (CMP_CFG 2) CMP_CFG_EN 1).setF (CMP_STAT 2) CMP_STAT_TRIPPED 1).at 0; let n : Fin 64 := 2; let news : List (Bool × Bool) := [(false, false)]; let p : Bool × Bool := (false, false); let r : List (Bool × Bool) := []; (d.stopped = false) ∧ (news = p :: r) ∧ (d.windowRuns n = true) ∧ (d.isSet (CMP_STAT n) CMP_STAT_TRIPPED = true) ∧ (d.sampleBeyond n p = false) ∧ (filtM (d.fld (CMP_CFG n) CMP_CFG_FILT) ≤ (d.windowHist n news).countP (fun b => !b)) := by decide +kernel

theorem witness_cmpTestTick : let d : Dev := (((({ Dev.reset with por := false } : Dev)).setF (CMP_CFG 2) CMP_CFG_EN 1).setF (CMP_CFG 2) CMP_CFG_MODE 1).at 0; let n : Fin 64 := 2; let failed : Bool := true; (d.stopped = false) ∧ (d.windowRuns n = true) ∧ (d.sideUsed n (2 ≤ (d.cmp n).turn) = true) := by decide +kernel

theorem witness_cmpDacReread : let d : Dev := ((({ Dev.reset with por := false, cmps := [(2, { (default : Cmp) with reread := some 1 })] } : Dev)).setF (CMP_CFG 2) CMP_CFG_EN 1).at 0; let n : Fin 64 := 2; let err : Int := 70; let q : Nat := 1; (d.stopped = false) ∧ ((d.cmp n).reread = some q) := by decide +kernel

theorem witness_cmpDegradedRead : let d : Dev := (((({ Dev.reset with por := false } : Dev)).setF (CMP_STAT 2) CMP_STAT_DEGRADED 1).setF (CMP_CFG 2) CMP_CFG_MODE 1).at 0; let n : Fin 64 := 2; let code : Nat := 65535; (d.stopped = false) ∧ (d.isSet (CMP_STAT n) CMP_STAT_DEGRADED = true) ∧ ((d.cmp n).degTripped = false) ∧ (filtM (d.fld (CMP_CFG n) CMP_CFG_FILT) ≤ ((d.sampleBeyond n (d.degradedSides n code) :: (d.cmp n).degHist).take (filtN (d.fld (CMP_CFG n) CMP_CFG_FILT))).countP (fun x => x == true)) := by decide +kernel

theorem witness_tripInAssert : let d : Dev := ((({ Dev.reset with por := false } : Dev)).setF TRP_EXTCFG TRP_EXTCFG_EN 0xF).at 0; let i : Fin 4 := 2; (d.stopped = false) ∧ ((d.fld TRP_EXTCFG TRP_EXTCFG_EN).testBit i = true) := by decide +kernel

theorem witness_tripInDeassert : let d : Dev := ((({ Dev.reset with por := false } : Dev)).setF TRP_EXTCFG TRP_EXTCFG_EN 0xF).at 0; let i : Fin 4 := 2; (d.stopped = false) ∧ ((d.fld TRP_EXTCFG TRP_EXTCFG_EN).testBit i = true) := by decide +kernel

theorem witness_trpSwtripWrite : let d : Dev := (({ Dev.reset with por := false } : Dev)).at 0; let triad : Fin 4 := 0; let v : W := 3; (d.stopped = false) ∧ (triad = 0) := by decide +kernel

theorem witness_trpSwtripWrite_refused : let d : Dev := (({ Dev.reset with por := false } : Dev)).at 0; let triad : Fin 4 := 1; let v : W := 3; (d.stopped = false) ∧ (triad ≠ 0) := by decide +kernel

theorem witness_trpRelWrite : let d : Dev := (({ Dev.reset with por := false } : Dev)).at 0; let triad : Fin 4 := 0; let v : W := 3; (d.stopped = false) ∧ (triad = 0) := by decide +kernel

theorem witness_autoRelease : let d : Dev := ((((({ Dev.reset with por := false, trps := [(2, { (default : Trp) with falseSince := some 0 })] } : Dev)).setSys stRun).putBit TRP_STAT 2 true).setF (TRP_GCFG 2) TRP_GCFG_AUTOREL 1).at 0; let g : Fin 16 := 2; let r : Time := 0; (d.stopped = false) ∧ (d.latching = true) ∧ (d.asserted g = true) ∧ (d.isSet (TRP_GCFG g) TRP_GCFG_AUTOREL = true) ∧ ((d.trp g).falseSince = some r) ∧ (d.fld (TRP_GCFG g) TRP_GCFG_RELDLY * usTicks ≤ d.since r) ∧ ((d.trp g).hardSrc = false) ∧ ((d.trp g).autoStop = false) ∧ (d.trueSources g = []) := by decide +kernel

/-! ### Background -/

theorem witness_marverRound : let d : Dev := ((({ Dev.reset with por := false, tk := { (default : TimeKeeper) with stime := 16000000000 } } : Dev)).setSys stRun).at 0; let reads : List (Fin 64 × Fin 2 × Int) := []; let us : Nat := 500; (d.stopped = false) ∧ (d.marvDue = true) := by decide +kernel

theorem witness_marverLate : let d : Dev := (({ Dev.reset with por := false, tk := { (default : TimeKeeper) with stime := 16000000000 }, bkg := { (default : Bkg) with marvEnd := 99999999999 } } : Dev)).at 0; (d.stopped = false) ∧ (d.now.toNat < d.bkg.marvEnd.toNat) ∧ (d.marvPer ≤ d.since d.bkg.marvStart) ∧ (d.bkg.lateRec = false) := by decide +kernel

theorem witness_scrubCorrection : let d : Dev := (({ Dev.reset with por := false } : Dev)).at 0; let m : Fin 5 := 3; let addr : Nat := 64; (d.stopped = false) := by decide +kernel

theorem witness_memUncorrectable : let d : Dev := (({ Dev.reset with por := false } : Dev)).at 0; let m : Fin 5 := 0; let addr : Nat := 64; let k : Fin 4 := 1; (d.stopped = false) := by decide +kernel

theorem witness_wearCheck : let d : Dev := ((({ Dev.reset with por := false, tk := { (default : TimeKeeper) with stime := 16000000000 }, jrn := { (default : Jrn) with passes := 8000000000 } } : Dev)).setSys stRun).at 0; (d.stopped = false) ∧ (d.inRun = true) ∧ (d.paused = false) ∧ (secTicks ≤ d.since d.bkg.wearAt) ∧ (8000000000 ≤ d.jrn.passes.toNat) ∧ (d.bkg.worn = false) := by decide +kernel

theorem witness_wearCheck_ok : let d : Dev := ((({ Dev.reset with por := false, tk := { (default : TimeKeeper) with stime := 16000000000 } } : Dev)).setSys stRun).at 0; (d.stopped = false) ∧ (d.inRun = true) ∧ (d.paused = false) ∧ (secTicks ≤ d.since d.bkg.wearAt) ∧ (d.jrn.passes.toNat < 8000000000) := by decide +kernel

theorem witness_bkgReqAdcCal : let d : Dev := ((({ Dev.reset with por := false } : Dev)).setF ADC_STAT ADC_STAT_SPARE 8).at 0; let triad : Fin 4 := 1; let target : Fin 65536 := 3; (d.stopped = false) ∧ (d.reqGo triad = false) ∧ (((d.wrOwn triad BKG_REQ (reqWord 1 target &&& 0x800FFFFF)).reqShow triad brPending).reqRefused 1 target = false) := by decide +kernel

theorem witness_bkgReqCmpCheck : let d : Dev := ((({ Dev.reset with por := false } : Dev)).setF (CMP_CFG 3) CMP_CFG_EN 1).at 0; let triad : Fin 4 := 1; let target : Fin 65536 := 3; let read : Option (Fin 2 × Int) := none; (d.stopped = false) ∧ (d.reqGo triad = false) ∧ (((d.wrOwn triad BKG_REQ (reqWord 2 target &&& 0x800FFFFF)).reqShow triad brPending).reqRefused 2 target = false) := by decide +kernel

theorem witness_bkgReqPadCheck : let d : Dev := (({ Dev.reset with por := false } : Dev)).at 0; let triad : Fin 4 := 1; let target : Fin 65536 := 3; (d.stopped = false) ∧ (d.reqGo triad = false) ∧ (((d.wrOwn triad BKG_REQ (reqWord 3 target &&& 0x800FFFFF)).reqShow triad brPending).reqRefused 3 target = false) := by decide +kernel

theorem witness_bkgReqCenSelftest : let d : Dev := (({ Dev.reset with por := false } : Dev)).at 0; let triad : Fin 4 := 1; let target : Fin 65536 := 3; (d.stopped = false) ∧ (d.reqGo triad = false) ∧ (((d.wrOwn triad BKG_REQ (reqWord 4 target &&& 0x800FFFFF)).reqShow triad brPending).reqRefused 4 target = false) := by decide +kernel

theorem witness_bkgReqCoreSelftest : let d : Dev := ((({ Dev.reset with por := false, triads := [(1, { (default : Triad) with wait := .none })] } : Dev)).setF (RED_TSTAT 1) RED_TSTAT_MODE tmTriple).at 0; let triad : Fin 4 := 1; let target : Fin 65536 := 3; (d.stopped = false) ∧ (d.reqGo triad = false) ∧ (((d.wrOwn triad BKG_REQ (reqWord 5 target &&& 0x800FFFFF)).reqShow triad brPending).reqRefused 5 target = false) := by decide +kernel

theorem witness_bkgReqScrub : let d : Dev := (({ Dev.reset with por := false } : Dev)).at 0; let triad : Fin 4 := 1; let target : Fin 65536 := 3; (d.stopped = false) ∧ (d.reqGo triad = false) ∧ (((d.wrOwn triad BKG_REQ (reqWord 6 target &&& 0x800FFFFF)).reqShow triad brPending).reqRefused 6 target = false) := by decide +kernel

theorem witness_bkgReqMarver : let d : Dev := (({ Dev.reset with por := false } : Dev)).at 0; let triad : Fin 4 := 1; let target : Fin 65536 := 3; (d.stopped = false) ∧ (d.reqGo triad = false) ∧ (((d.wrOwn triad BKG_REQ (reqWord 7 target &&& 0x800FFFFF)).reqShow triad brPending).reqRefused 7 target = false) := by decide +kernel

theorem witness_bkgReqDeferred : let d : Dev := (((({ Dev.reset with por := false, tk := { (default : TimeKeeper) with stime := 160000000 } } : Dev)).setSys stRun).wrOwn 1 BKG_REQ (reqWord 1 3)).at 0; let triad : Fin 4 := 1; (d.stopped = false) ∧ (d.reqGo triad = true) ∧ ((d.rdOwn triad BKG_RES).fld BKG_RES_RESULT = brPending) ∧ (d.waitOver triad = true) := by decide +kernel

theorem witness_coreSelftestPeriodic : let d : Dev := ((((({ Dev.reset with por := false, tk := { (default : TimeKeeper) with stime := 160000000000 }, triads := [(1, { (default : Triad) with wait := .none })], bkg := { (default : Bkg) with coreNext := 3 } } : Dev)).setSys stRun).setF BKG_CFG BKG_CFG_CORPER 1).setF (RED_TSTAT 1) RED_TSTAT_MODE tmTriple).at 0; let q : Nat := 3; (d.stopped = false) ∧ (d.fld BKG_CFG BKG_CFG_CORPER ≠ 0) ∧ (d.inRun = true) ∧ (d.fld BKG_CFG BKG_CFG_CORPER * secTicks ≤ d.since d.bkg.coreAt) ∧ (((List.range 12).map (fun i => (d.bkg.coreNext + i) % 12)).find? (fun c => !d.coreRefused c) = some q) ∧ (d.coreReady q = true) := by decide +kernel

theorem witness_coreSelftestDone : let d : Dev := (({ Dev.reset with por := false, bkg := { (default : Bkg) with coreTest := some (3, none) } } : Dev)).at 0; let c : Fin 12 := 3; let pass : Bool := true; let who : Option Nat := none; (d.stopped = false) ∧ ((List.range 4).find? (fun k => d.reqIs k 5 c) = none) ∧ (d.bkg.coreTest = some (c.val, who)) := by decide +kernel

theorem witness_telemetryPost : let d : Dev := (({ Dev.reset with por := false, bkg := { (default : Bkg) with telDue := true } } : Dev)).at 0; (d.stopped = false) ∧ (d.bkg.telDue = true) ∧ (d.paused = false) := by decide +kernel

/-! ### CoresFloat -/

theorem witness_fadd : let d : Dev := ({ Dev.reset with por := false, triads := [(1, { (default : Triad) with wait := .none, core := { (default : Core) with w := [0, 5, 7], status := 1 } })] } : Dev).wr (COR_MPU_ATTR 1 0) 0x80000007#32 |>.wr (COR_MPU_LIMIT 1 0) 0x7FF00#32; let k : Fin 4 := 1; let rd : Fin 32 := 3; let ra : Fin 32 := 1; let rb : Fin 32 := 2; (d.ready k) := by decide +kernel

theorem witness_fsub : let d : Dev := ({ Dev.reset with por := false, triads := [(1, { (default : Triad) with wait := .none, core := { (default : Core) with w := [0, 5, 7], status := 1 } })] } : Dev).wr (COR_MPU_ATTR 1 0) 0x80000007#32 |>.wr (COR_MPU_LIMIT 1 0) 0x7FF00#32; let k : Fin 4 := 1; let rd : Fin 32 := 3; let ra : Fin 32 := 1; let rb : Fin 32 := 2; (d.ready k) := by decide +kernel

theorem witness_fmul : let d : Dev := ({ Dev.reset with por := false, triads := [(1, { (default : Triad) with wait := .none, core := { (default : Core) with w := [0, 5, 7], status := 1 } })] } : Dev).wr (COR_MPU_ATTR 1 0) 0x80000007#32 |>.wr (COR_MPU_LIMIT 1 0) 0x7FF00#32; let k : Fin 4 := 1; let rd : Fin 32 := 3; let ra : Fin 32 := 1; let rb : Fin 32 := 2; (d.ready k) := by decide +kernel

theorem witness_fdiv : let d : Dev := ({ Dev.reset with por := false, triads := [(1, { (default : Triad) with wait := .none, core := { (default : Core) with w := [0, 5, 7], status := 1 } })] } : Dev).wr (COR_MPU_ATTR 1 0) 0x80000007#32 |>.wr (COR_MPU_LIMIT 1 0) 0x7FF00#32; let k : Fin 4 := 1; let rd : Fin 32 := 3; let ra : Fin 32 := 1; let rb : Fin 32 := 2; (d.ready k) := by decide +kernel

theorem witness_fsqrt : let d : Dev := ({ Dev.reset with por := false, triads := [(1, { (default : Triad) with wait := .none, core := { (default : Core) with w := [0, 5, 7], status := 1 } })] } : Dev).wr (COR_MPU_ATTR 1 0) 0x80000007#32 |>.wr (COR_MPU_LIMIT 1 0) 0x7FF00#32; let k : Fin 4 := 1; let rd : Fin 32 := 3; let ra : Fin 32 := 1; (d.ready k) := by decide +kernel

theorem witness_fmin : let d : Dev := ({ Dev.reset with por := false, triads := [(1, { (default : Triad) with wait := .none, core := { (default : Core) with w := [0, 5, 7], status := 1 } })] } : Dev).wr (COR_MPU_ATTR 1 0) 0x80000007#32 |>.wr (COR_MPU_LIMIT 1 0) 0x7FF00#32; let k : Fin 4 := 1; let rd : Fin 32 := 3; let ra : Fin 32 := 1; let rb : Fin 32 := 2; (d.ready k) := by decide +kernel

theorem witness_fmax : let d : Dev := ({ Dev.reset with por := false, triads := [(1, { (default : Triad) with wait := .none, core := { (default : Core) with w := [0, 5, 7], status := 1 } })] } : Dev).wr (COR_MPU_ATTR 1 0) 0x80000007#32 |>.wr (COR_MPU_LIMIT 1 0) 0x7FF00#32; let k : Fin 4 := 1; let rd : Fin 32 := 3; let ra : Fin 32 := 1; let rb : Fin 32 := 2; (d.ready k) := by decide +kernel

theorem witness_feq : let d : Dev := ({ Dev.reset with por := false, triads := [(1, { (default : Triad) with wait := .none, core := { (default : Core) with w := [0, 5, 7], status := 1 } })] } : Dev).wr (COR_MPU_ATTR 1 0) 0x80000007#32 |>.wr (COR_MPU_LIMIT 1 0) 0x7FF00#32; let k : Fin 4 := 1; let rd : Fin 32 := 3; let ra : Fin 32 := 1; let rb : Fin 32 := 2; (d.ready k) := by decide +kernel

theorem witness_flt : let d : Dev := ({ Dev.reset with por := false, triads := [(1, { (default : Triad) with wait := .none, core := { (default : Core) with w := [0, 5, 7], status := 1 } })] } : Dev).wr (COR_MPU_ATTR 1 0) 0x80000007#32 |>.wr (COR_MPU_LIMIT 1 0) 0x7FF00#32; let k : Fin 4 := 1; let rd : Fin 32 := 3; let ra : Fin 32 := 1; let rb : Fin 32 := 2; (d.ready k) := by decide +kernel

theorem witness_fle : let d : Dev := ({ Dev.reset with por := false, triads := [(1, { (default : Triad) with wait := .none, core := { (default : Core) with w := [0, 5, 7], status := 1 } })] } : Dev).wr (COR_MPU_ATTR 1 0) 0x80000007#32 |>.wr (COR_MPU_LIMIT 1 0) 0x7FF00#32; let k : Fin 4 := 1; let rd : Fin 32 := 3; let ra : Fin 32 := 1; let rb : Fin 32 := 2; (d.ready k) := by decide +kernel

theorem witness_fcvtws : let d : Dev := ({ Dev.reset with por := false, triads := [(1, { (default : Triad) with wait := .none, core := { (default : Core) with w := [0, 5, 7], status := 1 } })] } : Dev).wr (COR_MPU_ATTR 1 0) 0x80000007#32 |>.wr (COR_MPU_LIMIT 1 0) 0x7FF00#32; let k : Fin 4 := 1; let rd : Fin 32 := 3; let ra : Fin 32 := 1; (d.ready k) := by decide +kernel

theorem witness_fcvtsw : let d : Dev := ({ Dev.reset with por := false, triads := [(1, { (default : Triad) with wait := .none, core := { (default : Core) with w := [0, 5, 7], status := 1 } })] } : Dev).wr (COR_MPU_ATTR 1 0) 0x80000007#32 |>.wr (COR_MPU_LIMIT 1 0) 0x7FF00#32; let k : Fin 4 := 1; let rd : Fin 32 := 3; let ra : Fin 32 := 1; (d.ready k) := by decide +kernel

theorem witness_fmvws : let d : Dev := ({ Dev.reset with por := false, triads := [(1, { (default : Triad) with wait := .none, core := { (default : Core) with w := [0, 5, 7], status := 1 } })] } : Dev).wr (COR_MPU_ATTR 1 0) 0x80000007#32 |>.wr (COR_MPU_LIMIT 1 0) 0x7FF00#32; let k : Fin 4 := 1; let rd : Fin 32 := 3; let ra : Fin 32 := 1; (d.ready k) := by decide +kernel

theorem witness_fmvsw : let d : Dev := ({ Dev.reset with por := false, triads := [(1, { (default : Triad) with wait := .none, core := { (default : Core) with w := [0, 5, 7], status := 1 } })] } : Dev).wr (COR_MPU_ATTR 1 0) 0x80000007#32 |>.wr (COR_MPU_LIMIT 1 0) 0x7FF00#32; let k : Fin 4 := 1; let rd : Fin 32 := 3; let ra : Fin 32 := 1; (d.ready k) := by decide +kernel

theorem witness_fabs : let d : Dev := ({ Dev.reset with por := false, triads := [(1, { (default : Triad) with wait := .none, core := { (default : Core) with w := [0, 5, 7], status := 1 } })] } : Dev).wr (COR_MPU_ATTR 1 0) 0x80000007#32 |>.wr (COR_MPU_LIMIT 1 0) 0x7FF00#32; let k : Fin 4 := 1; let rd : Fin 32 := 3; let ra : Fin 32 := 1; (d.ready k) := by decide +kernel

theorem witness_fneg : let d : Dev := ({ Dev.reset with por := false, triads := [(1, { (default : Triad) with wait := .none, core := { (default : Core) with w := [0, 5, 7], status := 1 } })] } : Dev).wr (COR_MPU_ATTR 1 0) 0x80000007#32 |>.wr (COR_MPU_LIMIT 1 0) 0x7FF00#32; let k : Fin 4 := 1; let rd : Fin 32 := 3; let ra : Fin 32 := 1; (d.ready k) := by decide +kernel

/-! ### CoresInt -/

theorem witness_add : let d : Dev := ({ Dev.reset with por := false, triads := [(1, { (default : Triad) with wait := .none, core := { (default : Core) with w := [0, 5, 7], status := 1 } })] } : Dev).wr (COR_MPU_ATTR 1 0) 0x80000007#32 |>.wr (COR_MPU_LIMIT 1 0) 0x7FF00#32; let k : Fin 4 := 1; let rd : Fin 32 := 3; let ra : Fin 32 := 1; let rb : Fin 32 := 2; (d.ready k) := by decide +kernel

theorem witness_sub : let d : Dev := ({ Dev.reset with por := false, triads := [(1, { (default : Triad) with wait := .none, core := { (default : Core) with w := [0, 5, 7], status := 1 } })] } : Dev).wr (COR_MPU_ATTR 1 0) 0x80000007#32 |>.wr (COR_MPU_LIMIT 1 0) 0x7FF00#32; let k : Fin 4 := 1; let rd : Fin 32 := 3; let ra : Fin 32 := 1; let rb : Fin 32 := 2; (d.ready k) := by decide +kernel

theorem witness_and : let d : Dev := ({ Dev.reset with por := false, triads := [(1, { (default : Triad) with wait := .none, core := { (default : Core) with w := [0, 5, 7], status := 1 } })] } : Dev).wr (COR_MPU_ATTR 1 0) 0x80000007#32 |>.wr (COR_MPU_LIMIT 1 0) 0x7FF00#32; let k : Fin 4 := 1; let rd : Fin 32 := 3; let ra : Fin 32 := 1; let rb : Fin 32 := 2; (d.ready k) := by decide +kernel

theorem witness_or : let d : Dev := ({ Dev.reset with por := false, triads := [(1, { (default : Triad) with wait := .none, core := { (default : Core) with w := [0, 5, 7], status := 1 } })] } : Dev).wr (COR_MPU_ATTR 1 0) 0x80000007#32 |>.wr (COR_MPU_LIMIT 1 0) 0x7FF00#32; let k : Fin 4 := 1; let rd : Fin 32 := 3; let ra : Fin 32 := 1; let rb : Fin 32 := 2; (d.ready k) := by decide +kernel

theorem witness_xor : let d : Dev := ({ Dev.reset with por := false, triads := [(1, { (default : Triad) with wait := .none, core := { (default : Core) with w := [0, 5, 7], status := 1 } })] } : Dev).wr (COR_MPU_ATTR 1 0) 0x80000007#32 |>.wr (COR_MPU_LIMIT 1 0) 0x7FF00#32; let k : Fin 4 := 1; let rd : Fin 32 := 3; let ra : Fin 32 := 1; let rb : Fin 32 := 2; (d.ready k) := by decide +kernel

theorem witness_shl : let d : Dev := ({ Dev.reset with por := false, triads := [(1, { (default : Triad) with wait := .none, core := { (default : Core) with w := [0, 5, 7], status := 1 } })] } : Dev).wr (COR_MPU_ATTR 1 0) 0x80000007#32 |>.wr (COR_MPU_LIMIT 1 0) 0x7FF00#32; let k : Fin 4 := 1; let rd : Fin 32 := 3; let ra : Fin 32 := 1; let rb : Fin 32 := 2; (d.ready k) := by decide +kernel

theorem witness_shr : let d : Dev := ({ Dev.reset with por := false, triads := [(1, { (default : Triad) with wait := .none, core := { (default : Core) with w := [0, 5, 7], status := 1 } })] } : Dev).wr (COR_MPU_ATTR 1 0) 0x80000007#32 |>.wr (COR_MPU_LIMIT 1 0) 0x7FF00#32; let k : Fin 4 := 1; let rd : Fin 32 := 3; let ra : Fin 32 := 1; let rb : Fin 32 := 2; (d.ready k) := by decide +kernel

theorem witness_sar : let d : Dev := ({ Dev.reset with por := false, triads := [(1, { (default : Triad) with wait := .none, core := { (default : Core) with w := [0, 5, 7], status := 1 } })] } : Dev).wr (COR_MPU_ATTR 1 0) 0x80000007#32 |>.wr (COR_MPU_LIMIT 1 0) 0x7FF00#32; let k : Fin 4 := 1; let rd : Fin 32 := 3; let ra : Fin 32 := 1; let rb : Fin 32 := 2; (d.ready k) := by decide +kernel

theorem witness_rot : let d : Dev := ({ Dev.reset with por := false, triads := [(1, { (default : Triad) with wait := .none, core := { (default : Core) with w := [0, 5, 7], status := 1 } })] } : Dev).wr (COR_MPU_ATTR 1 0) 0x80000007#32 |>.wr (COR_MPU_LIMIT 1 0) 0x7FF00#32; let k : Fin 4 := 1; let rd : Fin 32 := 3; let ra : Fin 32 := 1; let rb : Fin 32 := 2; (d.ready k) := by decide +kernel

theorem witness_slt : let d : Dev := ({ Dev.reset with por := false, triads := [(1, { (default : Triad) with wait := .none, core := { (default : Core) with w := [0, 5, 7], status := 1 } })] } : Dev).wr (COR_MPU_ATTR 1 0) 0x80000007#32 |>.wr (COR_MPU_LIMIT 1 0) 0x7FF00#32; let k : Fin 4 := 1; let rd : Fin 32 := 3; let ra : Fin 32 := 1; let rb : Fin 32 := 2; (d.ready k) := by decide +kernel

theorem witness_sltu : let d : Dev := ({ Dev.reset with por := false, triads := [(1, { (default : Triad) with wait := .none, core := { (default : Core) with w := [0, 5, 7], status := 1 } })] } : Dev).wr (COR_MPU_ATTR 1 0) 0x80000007#32 |>.wr (COR_MPU_LIMIT 1 0) 0x7FF00#32; let k : Fin 4 := 1; let rd : Fin 32 := 3; let ra : Fin 32 := 1; let rb : Fin 32 := 2; (d.ready k) := by decide +kernel

theorem witness_mul : let d : Dev := ({ Dev.reset with por := false, triads := [(1, { (default : Triad) with wait := .none, core := { (default : Core) with w := [0, 5, 7], status := 1 } })] } : Dev).wr (COR_MPU_ATTR 1 0) 0x80000007#32 |>.wr (COR_MPU_LIMIT 1 0) 0x7FF00#32; let k : Fin 4 := 1; let rd : Fin 32 := 3; let ra : Fin 32 := 1; let rb : Fin 32 := 2; (d.ready k) := by decide +kernel

theorem witness_mulh : let d : Dev := ({ Dev.reset with por := false, triads := [(1, { (default : Triad) with wait := .none, core := { (default : Core) with w := [0, 5, 7], status := 1 } })] } : Dev).wr (COR_MPU_ATTR 1 0) 0x80000007#32 |>.wr (COR_MPU_LIMIT 1 0) 0x7FF00#32; let k : Fin 4 := 1; let rd : Fin 32 := 3; let ra : Fin 32 := 1; let rb : Fin 32 := 2; (d.ready k) := by decide +kernel

theorem witness_mulhu : let d : Dev := ({ Dev.reset with por := false, triads := [(1, { (default : Triad) with wait := .none, core := { (default : Core) with w := [0, 5, 7], status := 1 } })] } : Dev).wr (COR_MPU_ATTR 1 0) 0x80000007#32 |>.wr (COR_MPU_LIMIT 1 0) 0x7FF00#32; let k : Fin 4 := 1; let rd : Fin 32 := 3; let ra : Fin 32 := 1; let rb : Fin 32 := 2; (d.ready k) := by decide +kernel

theorem witness_addi : let d : Dev := ({ Dev.reset with por := false, triads := [(1, { (default : Triad) with wait := .none, core := { (default : Core) with w := [0, 5, 7], status := 1 } })] } : Dev).wr (COR_MPU_ATTR 1 0) 0x80000007#32 |>.wr (COR_MPU_LIMIT 1 0) 0x7FF00#32; let k : Fin 4 := 1; let rd : Fin 32 := 3; let ra : Fin 32 := 1; let imm : BitVec 16 := 2; (d.ready k) := by decide +kernel

theorem witness_andi : let d : Dev := ({ Dev.reset with por := false, triads := [(1, { (default : Triad) with wait := .none, core := { (default : Core) with w := [0, 5, 7], status := 1 } })] } : Dev).wr (COR_MPU_ATTR 1 0) 0x80000007#32 |>.wr (COR_MPU_LIMIT 1 0) 0x7FF00#32; let k : Fin 4 := 1; let rd : Fin 32 := 3; let ra : Fin 32 := 1; let imm : BitVec 16 := 2; (d.ready k) := by decide +kernel

theorem witness_ori : let d : Dev := ({ Dev.reset with por := false, triads := [(1, { (default : Triad) with wait := .none, core := { (default : Core) with w := [0, 5, 7], status := 1 } })] } : Dev).wr (COR_MPU_ATTR 1 0) 0x80000007#32 |>.wr (COR_MPU_LIMIT 1 0) 0x7FF00#32; let k : Fin 4 := 1; let rd : Fin 32 := 3; let ra : Fin 32 := 1; let imm : BitVec 16 := 2; (d.ready k) := by decide +kernel

theorem witness_xori : let d : Dev := ({ Dev.reset with por := false, triads := [(1, { (default : Triad) with wait := .none, core := { (default : Core) with w := [0, 5, 7], status := 1 } })] } : Dev).wr (COR_MPU_ATTR 1 0) 0x80000007#32 |>.wr (COR_MPU_LIMIT 1 0) 0x7FF00#32; let k : Fin 4 := 1; let rd : Fin 32 := 3; let ra : Fin 32 := 1; let imm : BitVec 16 := 2; (d.ready k) := by decide +kernel

theorem witness_shli : let d : Dev := ({ Dev.reset with por := false, triads := [(1, { (default : Triad) with wait := .none, core := { (default : Core) with w := [0, 5, 7], status := 1 } })] } : Dev).wr (COR_MPU_ATTR 1 0) 0x80000007#32 |>.wr (COR_MPU_LIMIT 1 0) 0x7FF00#32; let k : Fin 4 := 1; let rd : Fin 32 := 3; let ra : Fin 32 := 1; let imm : BitVec 16 := 2; (d.ready k) := by decide +kernel

theorem witness_shri : let d : Dev := ({ Dev.reset with por := false, triads := [(1, { (default : Triad) with wait := .none, core := { (default : Core) with w := [0, 5, 7], status := 1 } })] } : Dev).wr (COR_MPU_ATTR 1 0) 0x80000007#32 |>.wr (COR_MPU_LIMIT 1 0) 0x7FF00#32; let k : Fin 4 := 1; let rd : Fin 32 := 3; let ra : Fin 32 := 1; let imm : BitVec 16 := 2; (d.ready k) := by decide +kernel

theorem witness_sari : let d : Dev := ({ Dev.reset with por := false, triads := [(1, { (default : Triad) with wait := .none, core := { (default : Core) with w := [0, 5, 7], status := 1 } })] } : Dev).wr (COR_MPU_ATTR 1 0) 0x80000007#32 |>.wr (COR_MPU_LIMIT 1 0) 0x7FF00#32; let k : Fin 4 := 1; let rd : Fin 32 := 3; let ra : Fin 32 := 1; let imm : BitVec 16 := 2; (d.ready k) := by decide +kernel

theorem witness_slti : let d : Dev := ({ Dev.reset with por := false, triads := [(1, { (default : Triad) with wait := .none, core := { (default : Core) with w := [0, 5, 7], status := 1 } })] } : Dev).wr (COR_MPU_ATTR 1 0) 0x80000007#32 |>.wr (COR_MPU_LIMIT 1 0) 0x7FF00#32; let k : Fin 4 := 1; let rd : Fin 32 := 3; let ra : Fin 32 := 1; let imm : BitVec 16 := 2; (d.ready k) := by decide +kernel

theorem witness_sltiu : let d : Dev := ({ Dev.reset with por := false, triads := [(1, { (default : Triad) with wait := .none, core := { (default : Core) with w := [0, 5, 7], status := 1 } })] } : Dev).wr (COR_MPU_ATTR 1 0) 0x80000007#32 |>.wr (COR_MPU_LIMIT 1 0) 0x7FF00#32; let k : Fin 4 := 1; let rd : Fin 32 := 3; let ra : Fin 32 := 1; let imm : BitVec 16 := 2; (d.ready k) := by decide +kernel

theorem witness_lui : let d : Dev := ({ Dev.reset with por := false, triads := [(1, { (default : Triad) with wait := .none, core := { (default : Core) with w := [0, 5, 7], status := 1 } })] } : Dev).wr (COR_MPU_ATTR 1 0) 0x80000007#32 |>.wr (COR_MPU_LIMIT 1 0) 0x7FF00#32; let k : Fin 4 := 1; let rd : Fin 32 := 3; let imm : BitVec 16 := 1; (d.ready k) := by decide +kernel

theorem witness_div : let d : Dev := ({ Dev.reset with por := false, triads := [(1, { (default : Triad) with wait := .none, core := { (default : Core) with w := [0, 5, 7], status := 1 } })] } : Dev).wr (COR_MPU_ATTR 1 0) 0x80000007#32 |>.wr (COR_MPU_LIMIT 1 0) 0x7FF00#32; let k : Fin 4 := 1; let rd : Fin 32 := 3; let ra : Fin 32 := 1; let rb : Fin 32 := 2; (d.ready k) ∧ ((d.triad k).core.getW rb ≠ 0) := by decide +kernel

theorem witness_divu : let d : Dev := ({ Dev.reset with por := false, triads := [(1, { (default : Triad) with wait := .none, core := { (default : Core) with w := [0, 5, 7], status := 1 } })] } : Dev).wr (COR_MPU_ATTR 1 0) 0x80000007#32 |>.wr (COR_MPU_LIMIT 1 0) 0x7FF00#32; let k : Fin 4 := 1; let rd : Fin 32 := 3; let ra : Fin 32 := 1; let rb : Fin 32 := 2; (d.ready k) ∧ ((d.triad k).core.getW rb ≠ 0) := by decide +kernel

theorem witness_rem : let d : Dev := ({ Dev.reset with por := false, triads := [(1, { (default : Triad) with wait := .none, core := { (default : Core) with w := [0, 5, 7], status := 1 } })] } : Dev).wr (COR_MPU_ATTR 1 0) 0x80000007#32 |>.wr (COR_MPU_LIMIT 1 0) 0x7FF00#32; let k : Fin 4 := 1; let rd : Fin 32 := 3; let ra : Fin 32 := 1; let rb : Fin 32 := 2; (d.ready k) ∧ ((d.triad k).core.getW rb ≠ 0) := by decide +kernel

theorem witness_remu : let d : Dev := ({ Dev.reset with por := false, triads := [(1, { (default : Triad) with wait := .none, core := { (default : Core) with w := [0, 5, 7], status := 1 } })] } : Dev).wr (COR_MPU_ATTR 1 0) 0x80000007#32 |>.wr (COR_MPU_LIMIT 1 0) 0x7FF00#32; let k : Fin 4 := 1; let rd : Fin 32 := 3; let ra : Fin 32 := 1; let rb : Fin 32 := 2; (d.ready k) ∧ ((d.triad k).core.getW rb ≠ 0) := by decide +kernel

theorem witness_beq : let d : Dev := ({ Dev.reset with por := false, triads := [(1, { (default : Triad) with wait := .none, core := { (default : Core) with w := [0, 5, 7], status := 1 } })] } : Dev).wr (COR_MPU_ATTR 1 0) 0x80000007#32 |>.wr (COR_MPU_LIMIT 1 0) 0x7FF00#32; let k : Fin 4 := 1; let ra : Fin 32 := 1; let rb : Fin 32 := 2; let disp : BitVec 16 := 4; (d.ready k) := by decide +kernel

theorem witness_bne : let d : Dev := ({ Dev.reset with por := false, triads := [(1, { (default : Triad) with wait := .none, core := { (default : Core) with w := [0, 5, 7], status := 1 } })] } : Dev).wr (COR_MPU_ATTR 1 0) 0x80000007#32 |>.wr (COR_MPU_LIMIT 1 0) 0x7FF00#32; let k : Fin 4 := 1; let ra : Fin 32 := 1; let rb : Fin 32 := 2; let disp : BitVec 16 := 4; (d.ready k) := by decide +kernel

theorem witness_blt : let d : Dev := ({ Dev.reset with por := false, triads := [(1, { (default : Triad) with wait := .none, core := { (default : Core) with w := [0, 5, 7], status := 1 } })] } : Dev).wr (COR_MPU_ATTR 1 0) 0x80000007#32 |>.wr (COR_MPU_LIMIT 1 0) 0x7FF00#32; let k : Fin 4 := 1; let ra : Fin 32 := 1; let rb : Fin 32 := 2; let disp : BitVec 16 := 4; (d.ready k) := by decide +kernel

theorem witness_bge : let d : Dev := ({ Dev.reset with por := false, triads := [(1, { (default : Triad) with wait := .none, core := { (default : Core) with w := [0, 5, 7], status := 1 } })] } : Dev).wr (COR_MPU_ATTR 1 0) 0x80000007#32 |>.wr (COR_MPU_LIMIT 1 0) 0x7FF00#32; let k : Fin 4 := 1; let ra : Fin 32 := 1; let rb : Fin 32 := 2; let disp : BitVec 16 := 4; (d.ready k) := by decide +kernel

theorem witness_bltu : let d : Dev := ({ Dev.reset with por := false, triads := [(1, { (default : Triad) with wait := .none, core := { (default : Core) with w := [0, 5, 7], status := 1 } })] } : Dev).wr (COR_MPU_ATTR 1 0) 0x80000007#32 |>.wr (COR_MPU_LIMIT 1 0) 0x7FF00#32; let k : Fin 4 := 1; let ra : Fin 32 := 1; let rb : Fin 32 := 2; let disp : BitVec 16 := 4; (d.ready k) := by decide +kernel

theorem witness_bgeu : let d : Dev := ({ Dev.reset with por := false, triads := [(1, { (default : Triad) with wait := .none, core := { (default : Core) with w := [0, 5, 7], status := 1 } })] } : Dev).wr (COR_MPU_ATTR 1 0) 0x80000007#32 |>.wr (COR_MPU_LIMIT 1 0) 0x7FF00#32; let k : Fin 4 := 1; let ra : Fin 32 := 1; let rb : Fin 32 := 2; let disp : BitVec 16 := 4; (d.ready k) := by decide +kernel

theorem witness_j : let d : Dev := ({ Dev.reset with por := false, triads := [(1, { (default : Triad) with wait := .none, core := { (default : Core) with w := [0, 5, 7], status := 1 } })] } : Dev).wr (COR_MPU_ATTR 1 0) 0x80000007#32 |>.wr (COR_MPU_LIMIT 1 0) 0x7FF00#32; let k : Fin 4 := 1; let disp : BitVec 26 := 4; (d.ready k) := by decide +kernel

theorem witness_jal : let d : Dev := ({ Dev.reset with por := false, triads := [(1, { (default : Triad) with wait := .none, core := { (default : Core) with w := [0, 5, 7], status := 1 } })] } : Dev).wr (COR_MPU_ATTR 1 0) 0x80000007#32 |>.wr (COR_MPU_LIMIT 1 0) 0x7FF00#32; let k : Fin 4 := 1; let disp : BitVec 26 := 4; (d.ready k) := by decide +kernel

theorem witness_jalr : let d : Dev := ({ Dev.reset with por := false, triads := [(1, { (default : Triad) with wait := .none, core := { (default : Core) with w := [0, 5, 7], status := 1 } })] } : Dev).wr (COR_MPU_ATTR 1 0) 0x80000007#32 |>.wr (COR_MPU_LIMIT 1 0) 0x7FF00#32; let k : Fin 4 := 1; let rd : Fin 32 := 1; let ra : Fin 32 := 2; let imm : BitVec 16 := 4; (d.ready k) := by decide +kernel

/-! ### CoresMem -/

theorem witness_ldb : let d : Dev := ({ Dev.reset with por := false, triads := [(1, { (default : Triad) with wait := .none, core := { (default : Core) with w := [0, 5, 7], status := 1 } })] } : Dev).wr (COR_MPU_ATTR 1 0) 0x80000007#32 |>.wr (COR_MPU_LIMIT 1 0) 0x7FF00#32; let k : Fin 4 := 1; let rd : Fin 32 := 1; let ra : Fin 32 := 0; let disp : BitVec 16 := 8; (d.ready k) ∧ (d.accessFault k ecLoad ((d.triad k).core.memAddr ra disp) 1 1 = none) ∧ (inLocal ((d.triad k).core.memAddr ra disp) = true) := by decide +kernel

theorem witness_ldbu : let d : Dev := ({ Dev.reset with por := false, triads := [(1, { (default : Triad) with wait := .none, core := { (default : Core) with w := [0, 5, 7], status := 1 } })] } : Dev).wr (COR_MPU_ATTR 1 0) 0x80000007#32 |>.wr (COR_MPU_LIMIT 1 0) 0x7FF00#32; let k : Fin 4 := 1; let rd : Fin 32 := 1; let ra : Fin 32 := 0; let disp : BitVec 16 := 8; (d.ready k) ∧ (d.accessFault k ecLoad ((d.triad k).core.memAddr ra disp) 1 1 = none) ∧ (inLocal ((d.triad k).core.memAddr ra disp) = true) := by decide +kernel

theorem witness_ldh : let d : Dev := ({ Dev.reset with por := false, triads := [(1, { (default : Triad) with wait := .none, core := { (default : Core) with w := [0, 5, 7], status := 1 } })] } : Dev).wr (COR_MPU_ATTR 1 0) 0x80000007#32 |>.wr (COR_MPU_LIMIT 1 0) 0x7FF00#32; let k : Fin 4 := 1; let rd : Fin 32 := 1; let ra : Fin 32 := 0; let disp : BitVec 16 := 8; (d.ready k) ∧ (d.accessFault k ecLoad ((d.triad k).core.memAddr ra disp) 2 2 = none) ∧ (inLocal ((d.triad k).core.memAddr ra disp) = true) := by decide +kernel

theorem witness_ldhu : let d : Dev := ({ Dev.reset with por := false, triads := [(1, { (default : Triad) with wait := .none, core := { (default : Core) with w := [0, 5, 7], status := 1 } })] } : Dev).wr (COR_MPU_ATTR 1 0) 0x80000007#32 |>.wr (COR_MPU_LIMIT 1 0) 0x7FF00#32; let k : Fin 4 := 1; let rd : Fin 32 := 1; let ra : Fin 32 := 0; let disp : BitVec 16 := 8; (d.ready k) ∧ (d.accessFault k ecLoad ((d.triad k).core.memAddr ra disp) 2 2 = none) ∧ (inLocal ((d.triad k).core.memAddr ra disp) = true) := by decide +kernel

theorem witness_ldw : let d : Dev := ({ Dev.reset with por := false, triads := [(1, { (default : Triad) with wait := .none, core := { (default : Core) with w := [0, 5, 7], status := 1 } })] } : Dev).wr (COR_MPU_ATTR 1 0) 0x80000007#32 |>.wr (COR_MPU_LIMIT 1 0) 0x7FF00#32; let k : Fin 4 := 1; let rd : Fin 32 := 1; let ra : Fin 32 := 0; let disp : BitVec 16 := 8; (d.ready k) ∧ (d.accessFault k ecLoad ((d.triad k).core.memAddr ra disp) 4 4 = none) ∧ (inLocal ((d.triad k).core.memAddr ra disp) = true) := by decide +kernel

theorem witness_flw : let d : Dev := ({ Dev.reset with por := false, triads := [(1, { (default : Triad) with wait := .none, core := { (default : Core) with w := [0, 5, 7], status := 1 } })] } : Dev).wr (COR_MPU_ATTR 1 0) 0x80000007#32 |>.wr (COR_MPU_LIMIT 1 0) 0x7FF00#32; let k : Fin 4 := 1; let rd : Fin 32 := 1; let ra : Fin 32 := 0; let disp : BitVec 16 := 8; (d.ready k) ∧ (d.accessFault k ecLoad ((d.triad k).core.memAddr ra disp) 4 4 = none) ∧ (inLocal ((d.triad k).core.memAddr ra disp) = true) := by decide +kernel

theorem witness_stb : let d : Dev := ({ Dev.reset with por := false, triads := [(1, { (default : Triad) with wait := .none, core := { (default : Core) with w := [0, 5, 7], status := 1 } })] } : Dev).wr (COR_MPU_ATTR 1 0) 0x80000007#32 |>.wr (COR_MPU_LIMIT 1 0) 0x7FF00#32; let k : Fin 4 := 1; let rs : Fin 32 := 1; let ra : Fin 32 := 0; let disp : BitVec 16 := 8; (d.ready k) ∧ ((d.triad k).replay = []) ∧ (d.accessFault k ecStore ((d.triad k).core.memAddr ra disp) 1 1 = none) ∧ (inLocal ((d.triad k).core.memAddr ra disp) = true) := by decide +kernel

theorem witness_sth : let d : Dev := ({ Dev.reset with por := false, triads := [(1, { (default : Triad) with wait := .none, core := { (default : Core) with w := [0, 5, 7], status := 1 } })] } : Dev).wr (COR_MPU_ATTR 1 0) 0x80000007#32 |>.wr (COR_MPU_LIMIT 1 0) 0x7FF00#32; let k : Fin 4 := 1; let rs : Fin 32 := 1; let ra : Fin 32 := 0; let disp : BitVec 16 := 8; (d.ready k) ∧ ((d.triad k).replay = []) ∧ (d.accessFault k ecStore ((d.triad k).core.memAddr ra disp) 2 2 = none) ∧ (inLocal ((d.triad k).core.memAddr ra disp) = true) := by decide +kernel

theorem witness_stw : let d : Dev := ({ Dev.reset with por := false, triads := [(1, { (default : Triad) with wait := .none, core := { (default : Core) with w := [0, 5, 7], status := 1 } })] } : Dev).wr (COR_MPU_ATTR 1 0) 0x80000007#32 |>.wr (COR_MPU_LIMIT 1 0) 0x7FF00#32; let k : Fin 4 := 1; let rs : Fin 32 := 1; let ra : Fin 32 := 0; let disp : BitVec 16 := 8; (d.ready k) ∧ ((d.triad k).replay = []) ∧ (d.accessFault k ecStore ((d.triad k).core.memAddr ra disp) 4 4 = none) ∧ (inLocal ((d.triad k).core.memAddr ra disp) = true) := by decide +kernel

theorem witness_fsw : let d : Dev := ({ Dev.reset with por := false, triads := [(1, { (default : Triad) with wait := .none, core := { (default : Core) with w := [0, 5, 7], status := 1 } })] } : Dev).wr (COR_MPU_ATTR 1 0) 0x80000007#32 |>.wr (COR_MPU_LIMIT 1 0) 0x7FF00#32; let k : Fin 4 := 1; let rs : Fin 32 := 1; let ra : Fin 32 := 0; let disp : BitVec 16 := 8; (d.ready k) ∧ ((d.triad k).replay = []) ∧ (d.accessFault k ecStore ((d.triad k).core.memAddr ra disp) 4 4 = none) ∧ (inLocal ((d.triad k).core.memAddr ra disp) = true) := by decide +kernel

theorem witness_swapw : let d : Dev := ({ Dev.reset with por := false, triads := [(1, { (default : Triad) with wait := .none, core := { (default : Core) with w := [0, 5, 7], status := 1 } })] } : Dev).wr (COR_MPU_ATTR 1 0) 0x80000007#32 |>.wr (COR_MPU_LIMIT 1 0) 0x7FF00#32; let k : Fin 4 := 1; let rd : Fin 32 := 3; let ra : Fin 32 := 0; let rb : Fin 32 := 2; (d.ready k) ∧ ((d.triad k).replay = []) ∧ (d.accessFault k ecLoad ((d.triad k).core.getW ra).toNat 4 4 = none) ∧ (d.accessFault k ecStore ((d.triad k).core.getW ra).toNat 4 4 = none) ∧ (inLocal ((d.triad k).core.getW ra).toNat = true) := by decide +kernel

theorem witness_addw : let d : Dev := ({ Dev.reset with por := false, triads := [(1, { (default : Triad) with wait := .none, core := { (default : Core) with w := [0, 5, 7], status := 1 } })] } : Dev).wr (COR_MPU_ATTR 1 0) 0x80000007#32 |>.wr (COR_MPU_LIMIT 1 0) 0x7FF00#32; let k : Fin 4 := 1; let rd : Fin 32 := 3; let ra : Fin 32 := 0; let rb : Fin 32 := 2; (d.ready k) ∧ ((d.triad k).replay = []) ∧ (d.accessFault k ecLoad ((d.triad k).core.getW ra).toNat 4 4 = none) ∧ (d.accessFault k ecStore ((d.triad k).core.getW ra).toNat 4 4 = none) ∧ (inLocal ((d.triad k).core.getW ra).toNat = true) := by decide +kernel

/-! ### CoresSys -/

theorem witness_trap : let d : Dev := ({ Dev.reset with por := false, triads := [(1, { (default : Triad) with wait := .none, core := { (default : Core) with w := [0, 5, 7], status := 1 } })] } : Dev).wr (COR_MPU_ATTR 1 0) 0x80000007#32 |>.wr (COR_MPU_LIMIT 1 0) 0x7FF00#32; let k : Fin 4 := 1; let code : BitVec 10 := 9; (d.ready k) := by decide +kernel

theorem witness_rete : let d : Dev := ({ Dev.reset with por := false, triads := [(1, { (default : Triad) with wait := .none, core := { (default : Core) with w := [0, 5, 7], status := 1 } })] } : Dev).wr (COR_MPU_ATTR 1 0) 0x80000007#32 |>.wr (COR_MPU_LIMIT 1 0) 0x7FF00#32; let k : Fin 4 := 1; (d.ready k) ∧ ((d.triad k).core.sup = true) := by decide +kernel

theorem witness_mfsr : let d : Dev := ({ Dev.reset with por := false, triads := [(1, { (default : Triad) with wait := .none, core := { (default : Core) with w := [0, 5, 7], status := 1 } })] } : Dev).wr (COR_MPU_ATTR 1 0) 0x80000007#32 |>.wr (COR_MPU_LIMIT 1 0) 0x7FF00#32; let k : Fin 4 := 1; let rd : Fin 32 := 3; let sr : Fin 32 := 7; let v : W := 1; (d.ready k) ∧ ((d.triad k).core.special k sr = some v) ∧ ((d.triad k).core.sup = true ∨ openSpecial sr = true) := by decide +kernel

theorem witness_mtsr : let d : Dev := ({ Dev.reset with por := false, triads := [(1, { (default : Triad) with wait := .none, core := { (default : Core) with w := [0, 5, 7], status := 1 } })] } : Dev).wr (COR_MPU_ATTR 1 0) 0x80000007#32 |>.wr (COR_MPU_LIMIT 1 0) 0x7FF00#32; let k : Fin 4 := 1; let ra : Fin 32 := 1; let sr : Fin 32 := 2; (d.ready k) ∧ (((d.triad k).core.special k sr).isSome = true) ∧ ((d.triad k).core.sup = true) := by decide +kernel

theorem witness_sigrd : let d : Dev := ({ Dev.reset with por := false, triads := [(1, { (default : Triad) with wait := .none, core := { (default : Core) with w := [0, 5, 7], status := 1 } })] } : Dev).wr (COR_MPU_ATTR 1 0) 0x80000007#32 |>.wr (COR_MPU_LIMIT 1 0) 0x7FF00#32; let k : Fin 4 := 1; let rd : Fin 32 := 3; let ra : Fin 32 := 1; (d.ready k) ∧ (d.fresh k) ∧ (rd.val ≤ 29) ∧ (((d.triad k).core.getW ra).toNat ≤ 0xFFFF) := by decide +kernel

theorem witness_sigwr : let d : Dev := ({ Dev.reset with por := false, triads := [(1, { (default : Triad) with wait := .none, core := { (default : Core) with w := [0, 5, 7], status := 1 } })] } : Dev).wr (COR_MPU_ATTR 1 0) 0x80000007#32 |>.wr (COR_MPU_LIMIT 1 0) 0x7FF00#32; let k : Fin 4 := 1; let rd : Fin 32 := 3; let ra : Fin 32 := 1; (d.ready k) ∧ (d.fresh k) ∧ (rd.val ≤ 30) ∧ (((d.triad k).core.getW ra).toNat ≤ 0xFFFF) := by decide +kernel

theorem witness_qpost : let d : Dev := ({ Dev.reset with por := false, triads := [(1, { (default : Triad) with wait := .none, core := { (default : Core) with w := [0, 5, 7], status := 1 } })] } : Dev).wr (COR_MPU_ATTR 1 0) 0x80000007#32 |>.wr (COR_MPU_LIMIT 1 0) 0x7FF00#32; let k : Fin 4 := 1; let rd : Fin 32 := 3; let ra : Fin 32 := 0; let rb : Fin 32 := 2; (d.ready k) ∧ (d.fresh k) ∧ (rd.val ≤ 30) ∧ (((d.triad k).core.getW ra).toNat ≤ 31) ∧ (d.accessFault k ecLoad ((d.triad k).core.getW rb).toNat 96 1 = none) ∧ (inLocal ((d.triad k).core.getW rb).toNat = true) ∧ ((((d.acted k ⟨ekPost, ((d.triad k).core.getW ra).toNat, leNat (d.loadN k ((d.triad k).core.getW rb).toNat 96).1⟩).postNow k ((d.triad k).core.getW ra).toNat (d.loadN k ((d.triad k).core.getW rb).toNat 96).1).1.headD 0) ≠ begun) := by decide +kernel

theorem witness_qtake : let d : Dev := ({ Dev.reset with por := false, triads := [(1, { (default : Triad) with wait := .none, core := { (default : Core) with w := [0, 5, 7], status := 1 } })] } : Dev).wr (COR_MPU_ATTR 1 0) 0x80000007#32 |>.wr (COR_MPU_LIMIT 1 0) 0x7FF00#32; let k : Fin 4 := 1; let rd : Fin 32 := 3; let ra : Fin 32 := 0; let rb : Fin 32 := 2; (d.ready k) ∧ (d.fresh k) ∧ (((d.triad k).core.getW ra).toNat ≤ 31) ∧ (d.accessFault k ecStore ((d.triad k).core.getW rb).toNat 96 1 = none) ∧ ((((d.acted k ⟨ekTake, ((d.triad k).core.getW ra).toNat, ((d.triad k).core.getW rb).toNat⟩).takeNow ((d.triad k).core.getW ra).toNat ((d.triad k).core.getW rb).toNat k).1.headD 0) ≠ begun) := by decide +kernel

theorem witness_await_none : let d : Dev := ({ Dev.reset with por := false, triads := [(1, { (default : Triad) with wait := .none, core := { (default : Core) with w := [0, 5, 7], status := 1 } })] } : Dev).wr (COR_MPU_ATTR 1 0) 0x80000007#32 |>.wr (COR_MPU_LIMIT 1 0) 0x7FF00#32; let k : Fin 4 := 1; let rd : Fin 32 := 3; let ra : Fin 32 := 1; let rb : Fin 32 := 0; (d.ready k) ∧ (d.fresh k) ∧ ((d.triad k).core.getW ra ≠ 0 ∨ (d.triad k).core.getW rb ≠ 0) ∧ (d.pendingIn k ((d.triad k).core.getW ra) ((d.triad k).core.getW rb) = none) := by decide +kernel

theorem witness_await : let d : Dev := (({ Dev.reset with por := false, triads := [(1, { (default : Triad) with wait := .none, core := { (default : Core) with w := [0, 5, 7], status := 1 } })] } : Dev).wr (COR_MPU_ATTR 1 0) 0x80000007#32 |>.wr (COR_MPU_LIMIT 1 0) 0x7FF00#32).wr (COR_EVPEND0 1) 4#32; let k : Fin 4 := 1; let rd : Fin 32 := 3; let ra : Fin 32 := 1; let rb : Fin 32 := 0; let n : Nat := 2; (d.ready k) ∧ (d.fresh k) ∧ ((d.triad k).core.getW ra ≠ 0 ∨ (d.triad k).core.getW rb ≠ 0) ∧ (d.pendingIn k ((d.triad k).core.getW ra) ((d.triad k).core.getW rb) = some n) := by decide +kernel

theorem witness_ckpt : let d : Dev := ({ Dev.reset with por := false, triads := [(1, { (default : Triad) with wait := .none, core := { (default : Core) with w := [0, 5, 7], status := 1 } })] } : Dev).wr (COR_MPU_ATTR 1 0) 0x80000007#32 |>.wr (COR_MPU_LIMIT 1 0) 0x7FF00#32; let k : Fin 4 := 1; let minority : Option (Fin 3) := none; let split : Bool := false; (d.ready k) ∧ (d.fresh k) := by decide +kernel

theorem witness_sync : let d : Dev := ({ Dev.reset with por := false, triads := [(1, { (default : Triad) with wait := .none, core := { (default : Core) with w := [0, 5, 7], status := 1 } })] } : Dev).wr (COR_MPU_ATTR 1 0) 0x80000007#32 |>.wr (COR_MPU_LIMIT 1 0) 0x7FF00#32; let k : Fin 4 := 1; (d.ready k) ∧ (d.fresh k) := by decide +kernel

theorem witness_undefinedEncoding : let d : Dev := ({ Dev.reset with por := false, triads := [(1, { (default : Triad) with wait := .none, core := { (default : Core) with w := [0, 5, 7], status := 1 } })] } : Dev).wr (COR_MPU_ATTR 1 0) 0x80000007#32 |>.wr (COR_MPU_LIMIT 1 0) 0x7FF00#32; let k : Fin 4 := 1; (d.ready k) ∧ ((d.triad k).core.fh = false) := by decide +kernel

theorem witness_awaitWake : let d : Dev := (({ Dev.reset with por := false, triads := [(1, { (default : Triad) with wait := .await 3 4 0, core := { (default : Core) with w := [0, 5, 7], status := 1 } })] } : Dev).wr (COR_EVPEND0 1) 4#32).at 0; let k : Fin 4 := 1; let rd : Nat := 3; let lo : W := 4; let hi : W := 0; let n : Nat := 2; (d.stopped = false) ∧ ((d.triad k).wait = .await rd lo hi) ∧ (d.fresh k) ∧ (d.pendingIn k lo hi = some n) := by decide +kernel

theorem witness_assuredQueueComplete : let d : Dev := ({ Dev.reset with por := false, triads := [(1, { (default : Triad) with wait := .assured 3 (some 0) (some 9), core := { (default : Core) with w := [0, 5, 7], status := 1 } })] }).at 0; let k : Fin 4 := 1; let rd : Nat := 3; let v : W := 0; let q : W := 9; (d.stopped = false) ∧ ((d.triad k).wait = .assured rd (some v) (some q)) := by decide +kernel

theorem witness_syncComplete : let d : Dev := ({ Dev.reset with por := false, triads := [(1, { (default : Triad) with wait := .sync, core := { (default : Core) with w := [0, 5, 7], status := 1 } })] }).at 0; let k : Fin 4 := 1; (d.stopped = false) ∧ ((d.triad k).wait = .sync) := by decide +kernel

theorem witness_eventTaken : let d : Dev := ((({ Dev.reset with por := false, triads := [(1, { (default : Triad) with wait := .none, core := { (default : Core) with w := [0, 5, 7], status := 3 } })] } : Dev).wr (COR_EVPEND0 1) 4#32).wr (COR_EVEN0 1) 4#32).at 0; let k : Fin 4 := 1; let n : Nat := 2; (d.stopped = false) ∧ (d.takesEvents k = true) ∧ ((d.triad k).replay = []) ∧ (d.eventDue k = some n) := by decide +kernel

theorem witness_corTimerFire : let d : Dev := (((({ Dev.reset with por := false, tk := { (default : TimeKeeper) with stime := 16000 } } : Dev)).setSys stRun).wr (COR_TPER 0 1) 16000#32).at 0; let k : Fin 4 := 0; let n : Fin 4 := 1; (d.stopped = false) ∧ (d.inRun = true) ∧ ((d.rd (COR_TPER k n)).toNat ≠ 0) ∧ (d.epoch.toNat + (d.rd (COR_TPHS k n)).toNat ≤ d.now.toNat) ∧ ((d.now.toNat - (d.epoch.toNat + (d.rd (COR_TPHS k n)).toNat)) % (d.rd (COR_TPER k n)).toNat = 0) ∧ ((Tab.getD 0 d.tk.notBefore (timerKey k n)).toNat ≤ d.now.toNat) := by decide +kernel

theorem witness_corSwev : let d : Dev := ((({ Dev.reset with por := false } : Dev)).wr (COR_EVSRC 1 16) 0x50000000#32).at 0; let w : Fin 4 := 1; let v : W := 0x80000010; (d.stopped = false) ∧ (v.bit 31 = true) ∧ (16 ≤ v.fld COR_SWEV_LINE) ∧ ((d.rd (COR_EVSRC w (v.fld COR_SWEV_LINE))).fld COR_EVSRC_KIND = 5) := by decide +kernel

/-! ### Engines -/

theorem witness_cenGoWrite : let d : Dev := (({ Dev.reset with por := false } : Dev)).at 0; let p : Fin 16 := 1; let v : W := 3; (d.stopped = false) := by decide +kernel

theorem witness_cenActivationStart : let d : Dev := (((({ Dev.reset with por := false, cascs := [(5, { (default : Casc) with ref := 5 })], img := { (default : Image) with funcs := [(1, { (default : FuncRec) with casc := [(5, 1000)] })] } } : Dev)).putBit (CEN_STAT 1) 21 true).wr (CEN_CDL 1 1) 1000#32).at 0; let i : Fin 64 := 5; let differ : Bool := false; (d.stopped = false) ∧ (d.mayStart i = true) ∧ (differ = false ∨ d.isSet (CEN_CFG (pairOf i)) CEN_CFG_SPLIT = true) := by decide +kernel

theorem witness_cenActivationStart_differ : let d : Dev := (((({ Dev.reset with por := false, cascs := [(5, { (default : Casc) with ref := 5 })], img := { (default : Image) with funcs := [(1, { (default : FuncRec) with casc := [(5, 1000)] })] } } : Dev)).putBit (CEN_STAT 1) 21 true).wr (CEN_CDL 1 1) 1000#32).at 0; let i : Fin 64 := 5; let differ : Bool := true; (d.stopped = false) ∧ (d.mayStart i = true) ∧ (differ = true) ∧ (d.isSet (CEN_CFG (pairOf i)) CEN_CFG_SPLIT = false) := by decide +kernel

theorem witness_cenAgreement : let d : Dev := ((({ Dev.reset with por := false, cascs := [(5, { (default : Casc) with ref := 5 })], img := { (default : Image) with funcs := [(1, { (default : FuncRec) with casc := [(5, 1000)] })] } } : Dev)).putBit (CEN_STAT 1) 17 true).at 0; let i : Fin 64 := 5; let sigDiffer : Bool := false; let q : Nat := 1; (d.stopped = false) ∧ (d.cascRun i = true) ∧ (d.now.toNat ≤ d.cascDeadline i) ∧ (d.cascOwner i = some q) ∧ (sigDiffer = false) := by decide +kernel

theorem witness_latentReexecution : let d : Dev := (({ Dev.reset with por := false, pairs := [(1, { (default : Pair) with reexec := some 5 })] } : Dev)).at 0; let p : Fin 16 := 1; let same : Bool := true; let q : Nat := 5; (d.stopped = false) ∧ ((d.pairOfD p).reexec = some q) ∧ (same = true) := by decide +kernel

theorem witness_latentReexecution_differs : let d : Dev := (({ Dev.reset with por := false, pairs := [(1, { (default : Pair) with reexec := some 5 })] } : Dev)).at 0; let p : Fin 16 := 1; let same : Bool := false; let q : Nat := 5; (d.stopped = false) ∧ ((d.pairOfD p).reexec = some q) ∧ (same = false) := by decide +kernel

theorem witness_cenRestartDone : let d : Dev := ((({ Dev.reset with por := false } : Dev)).setF (CEN_STAT 1) CEN_STAT_RESTARTING 1).at 0; let p : Fin 16 := 1; let known : Bool := true; (d.stopped = false) ∧ (d.isSet (CEN_STAT p) CEN_STAT_RESTARTING = true) ∧ (known = true) := by decide +kernel

theorem witness_cenDeadlineMiss : let d : Dev := ((({ Dev.reset with por := false, tk := { (default : TimeKeeper) with stime := 50000 }, cascs := [(5, { (default : Casc) with ref := 5 })] } : Dev)).putBit (CEN_STAT 1) 17 true).at 0; let i : Fin 64 := 5; (d.stopped = false) ∧ (d.cascPend i = true ∨ d.cascRun i = true) ∧ (d.cascDeadline i ≤ d.now.toNat) := by decide +kernel

theorem witness_cenSelftest : let d : Dev := ((({ Dev.reset with por := false } : Dev)).setF (CEN_CFG 1) CEN_CFG_STEN 1).at 0; let p : Fin 16 := 1; let fail0 : Bool := true; let fail1 : Bool := false; (d.stopped = false) ∧ (d.isSet (CEN_CFG p) CEN_CFG_STEN = true ∨ d.reqWanted 4 p = true) := by decide +kernel

theorem witness_selftestDeferred : let d : Dev := ((({ Dev.reset with por := false } : Dev)).setF (CEN_CFG 1) CEN_CFG_STEN 1).at 0; let p : Fin 16 := 1; (d.stopped = false) ∧ (d.isSet (CEN_CFG p) CEN_CFG_STEN = true) ∧ (d.bit CEN_RETIRED (2 * p) = false ∨ d.bit CEN_RETIRED (2 * p + 1) = false) := by decide +kernel

theorem witness_axuForwardPass : let d : Dev := (((((((({ Dev.reset with por := false, img := { (default : Image) with funcs := [(1, { (default : FuncRec) with axuA := some 2 })] }, axus := [(2, { (default : Axu) with res := [(0, ⟨0, 0, true, 0⟩), (1, ⟨0, 0, true, 0⟩)] })] } : Dev)).setF (AXU_STAT 2) AXU_STAT_ENABLED 1).setF (AXU_IN 2 0) AXU_IN_EN 1).setF (AXU_IN 2 0) AXU_IN_ROLE 0).setF (AXU_IN 2 1) AXU_IN_EN 1).setF (AXU_IN 2 1) AXU_IN_ROLE 1).setF (AXU_CFG 2) AXU_CFG_SENSE 0).at 0; let u : Fin 16 := 2; let q : Nat := 1; (d.stopped = false) ∧ (d.axuOwner u = some q) ∧ (d.forwardDue u q = true) := by decide +kernel

theorem witness_axuInverseStage : let d : Dev := ((({ Dev.reset with por := false, img := { (default : Image) with funcs := [(1, { (default : FuncRec) with axuA := some 2 })] }, axus := [(2, { (default : Axu) with invDue := true })] } : Dev)).setF (AXU_STAT 2) AXU_STAT_ENABLED 1).at 0; let u : Fin 16 := 2; let q : Nat := 1; (d.stopped = false) ∧ (d.axuOwner u = some q) ∧ ((d.axu u).invDue = true) ∧ (d.isSet (AXU_STAT u) AXU_STAT_ENABLED = true) ∧ ((d.modAxu u (fun a => { a with invDue := false })).axuPhase u ≠ phPolarity) := by decide +kernel

theorem witness_measureDone : let d : Dev := ((({ Dev.reset with por := false, img := { (default : Image) with funcs := [(1, { (default : FuncRec) with axuA := some 2 })] }, axus := [(2, { (default : Axu) with meas := [0, 0, 0, 0, 0, 0, 0, 0], measStill := true })] } : Dev)).setF (AXU_POSSTAT 2) AXU_POSSTAT_PHASE phMeasure).at 0; let u : Fin 16 := 2; let q : Nat := 1; (d.stopped = false) ∧ (d.axuOwner u = some q) ∧ ((d.funcD q).axuA = some u.val) ∧ (d.axuPhase u = phMeasure) ∧ (d.fld (AXU_FSCFG u) AXU_FSCFG_MEASN ≤ (d.axu u).meas.length) ∧ ((d.axu u).measStill = true) := by decide +kernel

theorem witness_polarityTestDone : let d : Dev := ((({ Dev.reset with por := false, img := { (default : Image) with funcs := [(1, { (default : FuncRec) with axuA := some 2 })] }, axus := [(2, { (default : Axu) with polN := 1000 })] } : Dev)).setF (AXU_POSSTAT 2) AXU_POSSTAT_PHASE phPolarity).at 0; let u : Fin 16 := 2; let q : Nat := 1; (d.stopped = false) ∧ (d.axuOwner u = some q) ∧ ((d.funcD q).axuA = some u.val) ∧ (d.axuPhase u = phPolarity) ∧ (4 * d.fld (AXU_POLCFG u) AXU_POLCFG_POLN ≤ (d.axu u).polN) ∧ (fGe (fSub ((d.axu u).polI.getD (d.fld (AXU_POLCFG u) AXU_POLCFG_POLN) f0) ((d.axu u).polI.getD 0 f0)) (fMul (fNeg (fSub ((d.axu u).polI.getD (3 * d.fld (AXU_POLCFG u) AXU_POLCFG_POLN) f0) ((d.axu u).polI.getD (2 * d.fld (AXU_POLCFG u) AXU_POLCFG_POLN) f0))) (fOfRatio (100 + d.fld (AXU_POLCFG u) AXU_POLCFG_MRG) 100)) = true) := by decide +kernel

theorem witness_reacquireAttempt : let d : Dev := (((({ Dev.reset with por := false, img := { (default : Image) with funcs := [(1, { (default : FuncRec) with axuA := some 2 })] }, tk := { (default : TimeKeeper) with stime := 16000000000 } } : Dev)).setF (AXU_POSSTAT 2) AXU_POSSTAT_PHASE phLost).setF (RED_FNSTATE 1) RED_FNSTATE_SAFE 1).at 0; let u : Fin 16 := 2; let q : Nat := 1; (d.stopped = false) ∧ (d.axuOwner u = some q) ∧ ((d.funcD q).axuA = some u.val) ∧ (d.axuPhase u = phLost) ∧ (d.inSafe q = true) ∧ (d.isSet (RED_FNSTATE q) RED_FNSTATE_LATCHED = false) ∧ (d.fld (AXU_FSCFG u) AXU_FSCFG_RETRYDLY * msTicks ≤ d.since (d.axu u).failAt) := by decide +kernel

theorem witness_trackSecond : let d : Dev := ((({ Dev.reset with por := false, axus := [(2, { (default : Axu) with trackAt := some 0 })], tk := { (default : TimeKeeper) with stime := 16000000000 } } : Dev)).setF (AXU_POSSTAT 2) AXU_POSSTAT_PHASE phTrack).at 0; let u : Fin 16 := 2; let r : Time := 0; (d.stopped = false) ∧ ((d.axu u).trackAt = some r) ∧ (d.axuPhase u = phTrack) ∧ (secTicks ≤ d.since r) := by decide +kernel

theorem witness_hallEdge : let d : Dev := ((((((((({ Dev.reset with por := false } : Dev)).setF (AXU_POSCFG 2) AXU_POSCFG_SRC srcHall).setF (AXU_CFG 2) AXU_CFG_BOUND 1).wr (AXU_HALLMAP 2) 0x00000000#32).wr (AXU_SENSCFG 2) 0#32).setF (AXU_SENSCFG 2) AXU_SENSCFG_HV 1).setF (AXU_SENSCFG 2) AXU_SENSCFG_HW 2).wr GIO_IN 1#32).at 0; let u : Fin 16 := 2; let n : Fin 24 := 0; let q : Nat := 0; (d.stopped = false) ∧ (d.posSrc u = srcHall ∨ d.posSrc u = srcHallEmf) ∧ (d.isSet (AXU_CFG u) AXU_CFG_BOUND = true) ∧ ((d.hallPins u).contains n.val = true) ∧ (d.hallSector u (d.hallCode u) = some q) ∧ ((d.axu u).hall.sector = none) := by decide +kernel

theorem witness_hallEdge_invalid : let d : Dev := (((({ Dev.reset with por := false } : Dev)).setF (AXU_POSCFG 2) AXU_POSCFG_SRC srcHall).setF (AXU_CFG 2) AXU_CFG_BOUND 1).at 0; let u : Fin 16 := 2; let n : Fin 24 := 0; (d.stopped = false) ∧ (d.posSrc u = srcHall ∨ d.posSrc u = srcHallEmf) ∧ (d.isSet (AXU_CFG u) AXU_CFG_BOUND = true) ∧ ((d.hallPins u).contains n.val = true) ∧ (d.hallSector u (d.hallCode u) = none) := by decide +kernel

theorem witness_hallTimeout : let d : Dev := (({ Dev.reset with por := false, axus := [(2, { (default : Axu) with hall := { (default : Hall) with sector := some 1, stamps := [0] } })], tk := { (default : TimeKeeper) with stime := 16000000000 } } : Dev)).at 0; let u : Fin 16 := 2; let q : Nat := 1; let r : Time := 0; let z : List Time := []; (d.stopped = false) ∧ ((d.axu u).hall.sector = some q) ∧ ((d.axu u).hall.stamps = r :: z) ∧ (100 * msTicks ≤ d.since r) := by decide +kernel

theorem witness_gioEdge : let d : Dev := (({ Dev.reset with por := false } : Dev)).at 0; let n : Fin 24 := 3; let high : Bool := true; let stamp : Time := 77; (d.stopped = false) ∧ (d.fld (GIO_CFG n) GIO_CFG_MODE = 0) ∧ (d.bit GIO_IN n ≠ xor high (d.isSet (GIO_CFG n) GIO_CFG_INV)) := by decide +kernel

theorem witness_sentFrame : let d : Dev := ((((({ Dev.reset with por := false } : Dev)).setF (GIO_CFG 18) GIO_CFG_MODE 3).setF (GIO_SENTCFG 2) GIO_SENTCFG_TICK 3).setF (GIO_SENTCFG 2) GIO_SENTCFG_NIBS 6).at 0; let m : Fin 8 := 2; let sync : Nat := 134400; let status : Fin 16 := 3; let nibs : List Nat := [1, 2, 3, 4, 5, 6]; let crc : Nat := sentCrc false [1, 2, 3, 4, 5, 6]; let tf : Time := 99; (d.stopped = false) ∧ (d.fld (GIO_CFG (16 + m)) GIO_CFG_MODE = 3) ∧ (4 * ((sync : Int) - (56 * 800 * d.fld (GIO_SENTCFG m) GIO_SENTCFG_TICK : Nat)).natAbs ≤ 56 * 800 * d.fld (GIO_SENTCFG m) GIO_SENTCFG_TICK) ∧ ((d.sent m).lastSync = none) ∧ (nibs.length = d.fld (GIO_SENTCFG m) GIO_SENTCFG_NIBS) ∧ (sentCrc (d.isSet (GIO_SENTCFG m) GIO_SENTCFG_LEGACY) nibs = crc) := by decide +kernel

theorem witness_cvuForwardPass : let d : Dev := (((((({ Dev.reset with por := false, img := { (default : Image) with funcs := [(1, { (default : FuncRec) with cvu := some 2, legs := [3] })] }, cvus := [(2, { (default : Cvu) with loopNow := true, res := [(0, ⟨0, 0, true, 0⟩)] })] } : Dev)).setF (CVU_STAT 2) CVU_STAT_ENABLED 1).setF (CVU_IN 2 0) CVU_IN_EN 1).setF (CVU_IN 2 0) CVU_IN_ROLE 9).setF (CVU_CFG 2) CVU_CFG_NLEG 0).at 0; let u : Fin 8 := 2; let q : Nat := 1; (d.stopped = false) ∧ (d.cvuOwner u = some q) ∧ (d.cvuOn u = true) ∧ ((d.cvu u).fwdDone = false) ∧ ((d.cvu u).loopNow = true) ∧ (d.cvuFresh u = true) := by decide +kernel

theorem witness_cvuInverseStage : let d : Dev := ((((({ Dev.reset with por := false, img := { (default : Image) with funcs := [(1, { (default : FuncRec) with cvu := some 2, legs := [3] })] }, cvus := [(2, { (default : Cvu) with invDue := true, vals := [(9, 0x43C80000)] })] } : Dev)).setF (CVU_STAT 2) CVU_STAT_ENABLED 1).setF (CVU_IN 2 0) CVU_IN_EN 1).setF (CVU_IN 2 0) CVU_IN_ROLE 9).at 0; let u : Fin 8 := 2; let q : Nat := 1; (d.stopped = false) ∧ (d.cvuOwner u = some q) ∧ ((d.cvu u).invDue = true) ∧ (d.cvuOn u = true) ∧ (((d.cvuTaken u).cvu u).committed = false) ∧ (((d.cvuTaken u).cvu u).bound.toNat ≤ ((d.cvuTaken u).cvu u).ts.toNat) ∧ ((d.cvuTaken u).cvuUnfit u q = false) := by decide +kernel

theorem witness_cvuPhaseDecision : let d : Dev := ((((((({ Dev.reset with por := false, cvus := [(2, { (default : Cvu) with itotSum := 0x3F800000, itotN := 1 })] } : Dev)).setF (CVU_STAT 2) CVU_STAT_ENABLED 1).setF (CVU_CFG 2) CVU_CFG_PHMEN 1).setF (CVU_STAT 2) CVU_STAT_NACT 2).setF (CVU_PHM 2) CVU_PHM_NMIN 1).wr (CVU_PHDN 2) 0x40000000#32).at 0; let u : Fin 8 := 2; (d.stopped = false) ∧ (d.cvuOn u = true) ∧ (d.isSet (CVU_CFG u) CVU_CFG_PHMEN = true) ∧ ((d.cvu u).phaseEnd.toNat ≤ d.now.toNat) ∧ (d.phaseCount u (d.phaseMean u).1 ≠ d.fld (CVU_STAT u) CVU_STAT_NACT) := by decide +kernel

theorem witness_cvuCmPulseEnd : let d : Dev := (((((((((((({ Dev.reset with por := false, img := { (default : Image) with funcs := [(1, { (default : FuncRec) with cvu := some 2, legs := [3] })] }, legs := [(3, { (default : Leg) with loaded := true })] } : Dev)).setF (CVU_CFG 2) CVU_CFG_CM 1).wr (CVU_SENSE0 2) 0x80#32).setF (CVU_CMCFG 2) CVU_CMCFG_BLANK 0).setF (LEG_STAT 3) LEG_STAT_TXEN 1).setF (RED_FNSTATE 1) RED_FNSTATE_ENABLED 1).setF (RED_FNSTATE 1) RED_FNSTATE_SAFE 0).setF (LEG_CFG 3) LEG_CFG_BOUND 1).setF (LEG_CFG 3) LEG_CFG_FN 1).wr (LEG_ACTB 3) 500#32).setF (LEG_PER 3) LEG_PER_PER 1000).at 0; let u : Fin 8 := 2; let p : Fin 8 := 0; let q : Nat := 1; (d.stopped = false) ∧ (d.cvuOwner u = some q) ∧ (p.val < (d.fnLegs q).length) ∧ (d.cmMayEnd u p ((d.fnLegs q).getD p 0) (d.fnPer q) = true) := by decide +kernel

theorem witness_gridLost : let d : Dev := ((({ Dev.reset with por := false, cvus := [(2, { (default : Cvu) with badSince := some 0 })], tk := { (default : TimeKeeper) with stime := 160000000 } } : Dev)).setF (CVU_STAT 2) CVU_STAT_PLLOCK 1).at 0; let u : Fin 8 := 2; let r : Time := 0; (d.stopped = false) ∧ (d.isSet (CVU_STAT u) CVU_STAT_PLLOCK = true) ∧ ((d.cvu u).badSince = some r) ∧ (10 * msTicks ≤ d.since r) := by decide +kernel

theorem witness_cvuUnpark : let d : Dev := ((({ Dev.reset with por := false, img := { (default : Image) with funcs := [(1, { (default : FuncRec) with cvu := some 2, legs := [3] })] }, cvus := [(2, { (default : Cvu) with relockAt := some 0, parkGrid := true })], tk := { (default : TimeKeeper) with stime := 1600000000 } } : Dev)).setF (CVU_STAT 2) CVU_STAT_PLLOCK 1).at 0; let u : Fin 8 := 2; let q : Nat := 1; let r : Time := 0; (d.stopped = false) ∧ (d.cvuOwner u = some q) ∧ ((d.cvu u).relockAt = some r) ∧ ((d.cvu u).parkGrid = true) ∧ (d.isSet (CVU_STAT u) CVU_STAT_PLLOCK = true) ∧ (100 * msTicks ≤ d.since r) ∧ ([0, 1].any (fun c => d.chgNames c q) = false) := by decide +kernel

/-! ### Legs -/

theorem witness_legParityError : let d : Dev := (({ Dev.reset with por := false } : Dev)).at 0; let n : Fin 48 := 3; (d.stopped = false) ∧ (d.isSet (LEG_STAT n) LEG_STAT_RETIRED = false) := by decide +kernel

theorem witness_legShaWrite : let d : Dev := (((((({ Dev.reset with por := false } : Dev)).setF (LEG_CFG 3) LEG_CFG_SRC 3).setF (LEG_CFG 3) LEG_CFG_BOUND 1).setF (LEG_CFG 3) LEG_CFG_FN 1).setF (RED_FNSTATE 1) RED_FNSTATE_ENABLED 1).at 0; let triad : Fin 4 := 1; let n : Fin 48 := 3; let b : Bool := false; let v : W := 0x12345678; (d.stopped = false) ∧ (d.shadowOpen n = true) := by decide +kernel

theorem witness_legShaWrite_closed : let d : Dev := (({ Dev.reset with por := false } : Dev)).at 0; let triad : Fin 4 := 1; let n : Fin 48 := 3; let b : Bool := true; let v : W := 5; (d.stopped = false) ∧ (d.shadowOpen n = false) := by decide +kernel

theorem witness_legShiftWrite : let d : Dev := (((((({ Dev.reset with por := false } : Dev)).setF (LEG_CFG 3) LEG_CFG_SRC 3).setF (LEG_CFG 3) LEG_CFG_BOUND 1).setF (LEG_CFG 3) LEG_CFG_FN 1).setF (RED_FNSTATE 1) RED_FNSTATE_ENABLED 1).at 0; let triad : Fin 4 := 1; let n : Fin 48 := 3; let v : W := 7; (d.stopped = false) ∧ (d.shadowOpen n = true) := by decide +kernel

theorem witness_lineCalDone : let d : Dev := ((((((({ Dev.reset with por := false } : Dev)).setF (LEG_CFG 3) LEG_CFG_SRC 3).setF (LEG_CFG 3) LEG_CFG_BOUND 1).setF (LEG_CFG 3) LEG_CFG_FN 1).setF (RED_FNSTATE 1) RED_FNSTATE_ENABLED 1).setSys stRun).at 0; let n : Fin 48 := 3; let gl : Bool := false; let resid : Int := -12; let mono : Bool := true; let span : Nat := 30000; (d.stopped = false) ∧ (d.isSet (LEG_STAT n) LEG_STAT_RETIRED = false) ∧ (resid.natAbs ≤ 40) ∧ (mono = true) ∧ (25000 ≤ span) ∧ (d.inRun = true) ∧ ((d.legOwner n).isSome = true) := by decide +kernel

theorem witness_lineCalDone_fails : let d : Dev := (({ Dev.reset with por := false } : Dev)).at 0; let n : Fin 48 := 3; let gl : Bool := true; let resid : Int := 50; let mono : Bool := true; let span : Nat := 30000; (d.stopped = false) ∧ (d.isSet (LEG_STAT n) LEG_STAT_RETIRED = false) ∧ (40 < resid.natAbs ∨ mono = false ∨ span < 25000) := by decide +kernel

theorem witness_calAged : let d : Dev := (({ Dev.reset with por := false, tk := { (default : TimeKeeper) with stime := 80000000 } } : Dev)).at 0; let n : Fin 48 := 3; let gl : Bool := true; (d.stopped = false) ∧ (4 * msTicks < d.lineAge n gl) ∧ (d.isSet (LEG_STAT n) LEG_STAT_CAL_AGED = false) := by decide +kernel

theorem witness_lineAgeLimit : let d : Dev := (({ Dev.reset with por := false, tk := { (default : TimeKeeper) with stime := 400000000 } } : Dev)).at 0; let n : Fin 48 := 3; let gl : Bool := true; (d.stopped = false) ∧ (20 * msTicks ≤ d.lineAge n gl) := by decide +kernel

theorem witness_glPoll : let d : Dev := (((({ Dev.reset with por := false } : Dev)).setF LNK_STAT LNK_STAT_TOKEN 1).setF (LEG_STAT 3) LEG_STAT_TXEN 1).at 0; let n : Fin 48 := 3; (d.stopped = false) ∧ (d.holdsToken = true) ∧ (d.isSet (LEG_STAT n) LEG_STAT_TXEN = true) ∧ ((d.legOf n).enSeq = none) ∧ ((d.legOf n).pull = false) := by decide +kernel

theorem witness_glResponse : let d : Dev := (({ Dev.reset with por := false, legs := [(3, { (default : Leg) with inflight := some ⟨0, 0, 0, 0, 0, 0⟩ })] } : Dev)).at 0; let n : Fin 48 := 3; let bytes : List Byte := [0, 3, 0, 0, 0, crc8 [0, 3, 0, 0, 0]]; let late : Bool := false; let q : GlReq := ⟨0, 0, 0, 0, 0, 0⟩; (d.stopped = false) ∧ ((d.legOf n).inflight = some q) ∧ (late = false) ∧ (goodResponse q bytes = true) := by decide +kernel

theorem witness_glResponse_bad : let d : Dev := (({ Dev.reset with por := false, legs := [(3, { (default : Leg) with inflight := some ⟨0, 0, 0, 0, 0, 0⟩ })] } : Dev)).at 0; let n : Fin 48 := 3; let bytes : List Byte := []; let late : Bool := true; let q : GlReq := ⟨0, 0, 0, 0, 0, 0⟩; (d.stopped = false) ∧ ((d.legOf n).inflight = some q) ∧ (late = true ∨ goodResponse q bytes = false) := by decide +kernel

theorem witness_glNoack : let d : Dev := (({ Dev.reset with por := false, legs := [(3, { (default : Leg) with inflight := some ⟨0, 0, 0, 0, 0, 0⟩ })] } : Dev)).at 0; let n : Fin 48 := 3; let q : GlReq := ⟨0, 0, 0, 0, 0, 0⟩; (d.stopped = false) ∧ ((d.legOf n).inflight = some q) := by decide +kernel

theorem witness_glFaultPull : let d : Dev := (({ Dev.reset with por := false } : Dev)).at 0; let n : Fin 48 := 3; (d.stopped = false) ∧ ((d.legOf n).pull = false) := by decide +kernel

theorem witness_faultPullEnd : let d : Dev := (({ Dev.reset with por := false, legs := [(3, { (default : Leg) with pull := true })] } : Dev)).at 0; let n : Fin 48 := 3; (d.stopped = false) ∧ ((d.legOf n).pull = true) := by decide +kernel

theorem witness_enableSequenceDone : let d : Dev := ((({ Dev.reset with por := false, legs := [(3, { (default : Leg) with enSeq := some ⟨[], false, false, 0⟩ })] } : Dev)).setF LNK_STAT LNK_STAT_TOKEN 1).at 0; let n : Fin 48 := 3; let errGH : Int := 10; let errGL : Int := -10; let s : EnSeq := ⟨[], false, false, 0⟩; (d.stopped = false) ∧ ((d.legOf n).enSeq = some s) ∧ (s.todo = []) ∧ (d.holdsToken = true) ∧ ((d.padCheck n errGH errGL).isSet (LEG_STAT n) LEG_STAT_RETIRED = false) := by decide +kernel

theorem witness_glContention : let d : Dev := (((({ Dev.reset with por := false } : Dev)).setF LNK_STAT LNK_STAT_TOKEN 1).setF (LEG_STAT 3) LEG_STAT_TXEN 1).at 0; let n : Fin 48 := 3; (d.stopped = false) ∧ (d.holdsToken = true) ∧ (d.isSet (LEG_STAT n) LEG_STAT_TXEN = true) := by decide +kernel

theorem witness_glRequest : let d : Dev := ((({ Dev.reset with por := false } : Dev)).setF LNK_STAT LNK_STAT_TOKEN 1).at 0; let triad : Fin 4 := 0; let n : Fin 48 := 3; let v : W := 0x80000000; (d.stopped = false) ∧ (triad = 0) ∧ (d.isSet (LEG_GLREQ n) LEG_GLREQ_GO = false) ∧ (v.bit 31 = true) ∧ (((d.wr (LEG_GLREQ n) (v &&& 0xBCFFFFFF)).wr (LEG_GLRSP n) 0).holdsToken = true) ∧ (((d.wr (LEG_GLREQ n) (v &&& 0xBCFFFFFF)).wr (LEG_GLRSP n) 0).isSet (LEG_STAT n) LEG_STAT_RETIRED = false) ∧ (v.fld LEG_GLREQ_OP ≠ 1) := by decide +kernel

/-! ### Network -/

theorem witness_busFrameReceived : let d : Dev := (((({ Dev.reset with por := false } : Dev)).setF (BUS_CFG 2) BUS_CFG_EN 1).setBus 2 bsActive).at 0; let n : Fin 6 := 2; let fr : Frame := { (default : Frame) with id := 5, dlc := 2, data := [1, 2] }; let sof : Time := 99; (d.stopped = false) ∧ (d.receiving n = true) ∧ ((fr.fdf && !d.isSet (BUS_CFG n) BUS_CFG_FDEN) = false) ∧ (d.busState n ≠ bsDetecting) ∧ (d.secFrame n fr = false) ∧ (((((d.rxGood n).inc32 (BUS_RXCNT n)).offer n fr (fstampOf sof) false).secFrame n fr) = false) := by decide +kernel

theorem witness_busFrameReceived_fd : let d : Dev := (((({ Dev.reset with por := false } : Dev)).setF (BUS_CFG 2) BUS_CFG_EN 1).setBus 2 bsActive).at 0; let n : Fin 6 := 2; let fr : Frame := { (default : Frame) with fdf := true }; let sof : Time := 99; (d.stopped = false) ∧ (d.receiving n = true) ∧ (fr.fdf = true) ∧ (d.isSet (BUS_CFG n) BUS_CFG_FDEN = false) ∧ (d.isSet (BUS_CFG n) BUS_CFG_PXDIS = false) := by decide +kernel

theorem witness_busTxStart : let d : Dev := (((((((((({ Dev.reset with por := false } : Dev)).setF (BUS_CFG 2) BUS_CFG_EN 1).setBus 2 bsActive).setSys stRun).setRole roleSingle).setF (QUE_CFG 3) QUE_CFG_EN 1).setF (QUE_CFG 3) QUE_CFG_BIND 2).setF (QUE_STAT 3) QUE_STAT_FILL 1).wr (QUE_RING 3) 0x20000000#32).at 0; let n : Fin 6 := 2; let sof : Time := 99; let q : Nat := 3; (d.stopped = false) ∧ (d.silent n = false) ∧ ((d.port n).tx = none) ∧ (d.busState n = bsActive ∨ d.busState n = bsPassive) ∧ (d.chosen n = some q) ∧ (q < secQueue) ∧ (d.headPoisoned q = false) := by decide +kernel

theorem witness_busTxStart_sec : let d : Dev := (((((({ Dev.reset with por := false, sec := { (default : Sec) with out := [(2, default)] } } : Dev)).setF (BUS_CFG 2) BUS_CFG_EN 1).setBus 2 bsActive).setSys stRun).setRole roleSingle).at 0; let n : Fin 6 := 2; let sof : Time := 99; (d.stopped = false) ∧ (d.silent n = false) ∧ ((d.port n).tx = none) ∧ (d.busState n = bsActive ∨ d.busState n = bsPassive) ∧ (d.chosen n = some secQueue) := by decide +kernel

theorem witness_arbitrationLost : let d : Dev := (({ Dev.reset with por := false, ports := [(2, { (default : Port) with tx := some (3, 99) })] } : Dev)).at 0; let n : Fin 6 := 2; let q : Nat := 3; let stamp : W := 99; (d.stopped = false) ∧ ((d.port n).tx = some (q, stamp)) := by decide +kernel

theorem witness_busTxComplete : let d : Dev := (({ Dev.reset with por := false, ports := [(2, { (default : Port) with tx := some (3, 99) })] } : Dev)).at 0; let n : Fin 6 := 2; let tdc : Nat := 10; let q : Nat := 3; let stamp : W := 99; (d.stopped = false) ∧ ((d.port n).tx = some (q, stamp)) ∧ (q ≠ secQueue) := by decide +kernel

theorem witness_busTxComplete_sec : let d : Dev := (({ Dev.reset with por := false, ports := [(2, { (default : Port) with tx := some (secQueue, 99) })] } : Dev)).at 0; let n : Fin 6 := 2; let tdc : Nat := 10; let stamp : W := 99; (d.stopped = false) ∧ ((d.port n).tx = some (secQueue, stamp)) := by decide +kernel

theorem witness_busTxError : let d : Dev := (({ Dev.reset with por := false, ports := [(2, { (default : Port) with tx := some (3, 99) })] } : Dev)).at 0; let n : Fin 6 := 2; let code : Fin 8 := 1; let dataPhase : Bool := false; let exempt : Bool := false; let q : Nat := 3; let stamp : W := 99; (d.stopped = false) ∧ ((d.port n).tx = some (q, stamp)) ∧ (q ≠ secQueue) ∧ (((d.txCount n q code dataPhase exempt).que q).cancelLate = false) ∧ ((((d.noteError n code dataPhase).txOver n q).fld (BUS_ECNT n) BUS_ECNT_TEC + if exempt then 0 else 8) ≤ 255) := by decide +kernel

theorem witness_busTxError_off : let d : Dev := ((({ Dev.reset with por := false, ports := [(2, { (default : Port) with tx := some (3, 99) })] } : Dev)).setF (BUS_ECNT 2) BUS_ECNT_TEC 250).at 0; let n : Fin 6 := 2; let code : Fin 8 := 1; let dataPhase : Bool := false; let exempt : Bool := false; let q : Nat := 3; let stamp : W := 99; (d.stopped = false) ∧ ((d.port n).tx = some (q, stamp)) ∧ (q ≠ secQueue) ∧ (((d.txCount n q code dataPhase exempt).que q).cancelLate = false) ∧ (255 < (((d.noteError n code dataPhase).txOver n q).fld (BUS_ECNT n) BUS_ECNT_TEC + if exempt then 0 else 8)) := by decide +kernel

theorem witness_busRxError : let d : Dev := (((({ Dev.reset with por := false } : Dev)).setF (BUS_CFG 2) BUS_CFG_EN 1).setBus 2 bsActive).at 0; let n : Fin 6 := 2; let code : Fin 8 := 1; let dataPhase : Bool := false; let eight : Bool := true; (d.stopped = false) ∧ (d.receiving n = true) ∧ (d.busState n ≠ bsDetecting) := by decide +kernel

theorem witness_busRecovered : let d : Dev := ((({ Dev.reset with por := false } : Dev)).setBus 2 bsRecovering).at 0; let n : Fin 6 := 2; (d.stopped = false) ∧ (d.busState n = bsRecovering) := by decide +kernel

theorem witness_busRecover : let d : Dev := ((({ Dev.reset with por := false } : Dev)).setBus 2 bsBusoff).at 0; let n : Fin 6 := 2; let v : W := 1; (d.stopped = false) ∧ (v.bit 0 = true) ∧ (d.busState n = bsBusoff) := by decide +kernel

theorem witness_abdDwell : let d : Dev := (((({ Dev.reset with por := false, ports := [(2, { (default : Port) with abdRun := true })] } : Dev)).setBus 2 bsDetecting).setF (BUS_ABDCFG 2) BUS_ABDCFG_RATES 3).at 0; let n : Fin 6 := 2; let q : Nat := 1; (d.stopped = false) ∧ (d.busState n = bsDetecting) ∧ ((d.port n).abdRun = true) ∧ (d.nextRate n (d.port n).abdCand = (q, false)) := by decide +kernel

theorem witness_busIntegrationDone : let d : Dev := (((({ Dev.reset with por := false } : Dev)).setF (BUS_CFG 2) BUS_CFG_EN 1).setBus 2 bsIntegrating).at 0; let n : Fin 6 := 2; (d.stopped = false) ∧ (d.isSet (BUS_CFG n) BUS_CFG_EN = true ∨ d.recovery n = true) ∧ (d.busState n = bsIntegrating) := by decide +kernel

theorem witness_queExpired : let d : Dev := (((((({ Dev.reset with por := false, tk := { (default : TimeKeeper) with stime := 160000 } } : Dev)).setF (QUE_CFG 3) QUE_CFG_EN 1).wr (QUE_LIFE 3) 1#32).setF (QUE_STAT 3) QUE_STAT_FILL 1).wr (QUE_RING 3) 0x20000000#32).at 0; let q : Fin 32 := 3; (d.stopped = false) ∧ (d.qEn q = true) ∧ (d.qRx q = false) ∧ (d.qAssured q = false) ∧ ((d.rd (QUE_LIFE q)).toNat ≠ 0) ∧ (0 < d.qFill q) ∧ ((d.headDesc q).status = dsPending) ∧ (d.isSet (QUE_STAT q) QUE_STAT_INFLIGHT = false) ∧ ((d.headDesc q).posted.toNat + (d.rd (QUE_LIFE q)).toNat * usTicks < d.now.toNat) := by decide +kernel

theorem witness_queCancel : let d : Dev := (((((({ Dev.reset with por := false } : Dev)).setF (QUE_CFG 3) QUE_CFG_EN 1).setF (QUE_SIZE 3) QUE_SIZE_ENTRIES 4).setF (QUE_STAT 3) QUE_STAT_FILL 2).wr (QUE_RING 3) 0x20000000#32).at 0; let q : Fin 32 := 3; let v : W := 0x80000000; (d.stopped = false) ∧ (v.bit 31 = true) ∧ (d.qAssured q = false) ∧ (d.qRx q = false) ∧ (d.qEn q = true) ∧ (v.fld QUE_CANCEL_INDEX < max 1 (d.qSize q)) ∧ ((v.fld QUE_CANCEL_INDEX + max 1 (d.qSize q) - d.qHead q) % max 1 (d.qSize q) < d.qFill q) ∧ ((d.desc q (v.fld QUE_CANCEL_INDEX)).status = dsPending) ∧ ((v.fld QUE_CANCEL_INDEX + max 1 (d.qSize q) - d.qHead q) % max 1 (d.qSize q) = 0) ∧ (d.isSet (QUE_STAT q) QUE_STAT_INFLIGHT = false) := by decide +kernel

theorem witness_queCancel_later : let d : Dev := (((((({ Dev.reset with por := false } : Dev)).setF (QUE_CFG 3) QUE_CFG_EN 1).setF (QUE_SIZE 3) QUE_SIZE_ENTRIES 4).setF (QUE_STAT 3) QUE_STAT_FILL 2).wr (QUE_RING 3) 0x20000000#32).at 0; let q : Fin 32 := 3; let v : W := 0x80000001; (d.stopped = false) ∧ (v.bit 31 = true) ∧ (d.qAssured q = false) ∧ (d.qRx q = false) ∧ (d.qEn q = true) ∧ (v.fld QUE_CANCEL_INDEX < max 1 (d.qSize q)) ∧ ((v.fld QUE_CANCEL_INDEX + max 1 (d.qSize q) - d.qHead q) % max 1 (d.qSize q) < d.qFill q) ∧ ((d.desc q (v.fld QUE_CANCEL_INDEX)).status = dsPending) ∧ ((v.fld QUE_CANCEL_INDEX + max 1 (d.qSize q) - d.qHead q) % max 1 (d.qSize q) ≠ 0) := by decide +kernel

theorem witness_queCancel_assured : let d : Dev := ((((((({ Dev.reset with por := false } : Dev)).setF (QUE_CFG 3) QUE_CFG_EN 1).setF (QUE_SIZE 3) QUE_SIZE_ENTRIES 4).setF (QUE_STAT 3) QUE_STAT_FILL 2).wr (QUE_RING 3) 0x20000000#32).setF (QUE_CFG 3) QUE_CFG_CLASS 1).at 0; let q : Fin 32 := 3; let v : W := 0x80000000; (d.stopped = false) ∧ (v.bit 31 = true) ∧ (d.qAssured q = true) := by decide +kernel

theorem witness_queIndexWrite : let d : Dev := ((((((({ Dev.reset with por := false } : Dev)).setF (QUE_CFG 3) QUE_CFG_EN 1).setF (QUE_SIZE 3) QUE_SIZE_ENTRIES 4).setF (QUE_STAT 3) QUE_STAT_FILL 2).wr (QUE_RING 3) 0x20000000#32).setF (QUE_CFG 3) QUE_CFG_DIR 1).at 0; let triad : Fin 4 := 1; let q : Fin 32 := 3; let rdIx : Bool := true; let v : W := 1; (d.stopped = false) ∧ (d.qEn q = true) ∧ (d.coreOwns q rdIx = true) ∧ (v.fld QUE_WR_INDEX < d.qSize q) ∧ (rdIx = true) ∧ ((v.fld QUE_WR_INDEX + d.qSize q - d.qHead q) % d.qSize q ≤ d.qFill q) := by decide +kernel

theorem witness_queIndexWrite_wr : let d : Dev := (((((({ Dev.reset with por := false } : Dev)).setF (QUE_CFG 3) QUE_CFG_EN 1).setF (QUE_SIZE 3) QUE_SIZE_ENTRIES 4).setF (QUE_STAT 3) QUE_STAT_FILL 2).wr (QUE_RING 3) 0x20000000#32).at 0; let triad : Fin 4 := 1; let q : Fin 32 := 3; let rdIx : Bool := false; let v : W := 1; (d.stopped = false) ∧ (d.qEn q = true) ∧ (d.coreOwns q rdIx = true) ∧ (v.fld QUE_WR_INDEX < d.qSize q) ∧ (rdIx = false) ∧ (d.qFill q + (v.fld QUE_WR_INDEX + d.qSize q - d.fld (QUE_WR q) QUE_WR_INDEX) % d.qSize q ≤ d.qSize q) := by decide +kernel

theorem witness_queIndexWrite_bad : let d : Dev := (({ Dev.reset with por := false } : Dev)).at 0; let triad : Fin 4 := 1; let q : Fin 32 := 3; let rdIx : Bool := false; let v : W := 1; (d.stopped = false) ∧ (d.qEn q = false ∨ d.coreOwns q rdIx = false) := by decide +kernel

theorem witness_sigMaptx : let d : Dev := (({ Dev.reset with por := false, img := { (default : Image) with sigmaps := [{ (default : SigMap) with dir := 1, queue := 3 }] } } : Dev)).at 0; let v : W := 0x80000000; let sm : SigMap := { (default : SigMap) with dir := 1, queue := 3 }; (d.stopped = false) ∧ (v.bit 31 = true) ∧ (d.img.sigmaps[v.fld SIG_MAPTX_MAP]? = some sm) ∧ (sm.dir = 1) := by decide +kernel

theorem witness_publishRound : let d : Dev := ((({ Dev.reset with por := false } : Dev)).setF SIG_CFG SIG_CFG_DOMEN 1).at 0; (d.stopped = false) ∧ (d.isSet SIG_CFG SIG_CFG_DOMEN = true) := by decide +kernel

theorem witness_publishReceived : let d : Dev := (((((((((((({ Dev.reset with por := false } : Dev)).setF SIG_CFG SIG_CFG_DOMEN 1).setF SIG_CFG SIG_CFG_DEVID 0).setF SIG_DOM SIG_DOM_DMARK 0).setF (QUE_CFG 3) QUE_CFG_EN 1).setF (QUE_CFG 3) QUE_CFG_DIR 1).wr SIG_DQMASK 8#32).setF (QUE_STAT 3) QUE_STAT_FILL 1).setF (QUE_SIZE 3) QUE_SIZE_ENTRIES 4).wr (QUE_RING 3) 0x20000000#32).putDesc 3 0 { (default : Desc) with id := BitVec.ofNat 32 (0xC0000000 + 0 * 0x20000), data := [7, 0, 3, 0, 5, 2, 0, 0, 9] }).at 0; let q : Fin 32 := 3; let x : Desc := d.headDesc 3; (d.stopped = false) ∧ (d.domHead q 0 = some x) := by decide +kernel

theorem witness_commandReceived : let d : Dev := ((((((((((((((((({ Dev.reset with por := false } : Dev)).setF SIG_CFG SIG_CFG_DOMEN 1).setF SIG_CFG SIG_CFG_DEVID 0).setF SIG_DOM SIG_DOM_DMARK 0).setF (QUE_CFG 3) QUE_CFG_EN 1).setF (QUE_CFG 3) QUE_CFG_DIR 1).wr SIG_DQMASK 8#32).setF (QUE_STAT 3) QUE_STAT_FILL 1).setF (QUE_SIZE 3) QUE_SIZE_ENTRIES 4).wr (QUE_RING 3) 0x20000000#32).putDesc 3 0 { (default : Desc) with id := BitVec.ofNat 32 (0xC0000000 + 1 * 0x20000), data := [7, 0, 3, 0, 5, 2, 0, 0, 9] }).setF (QUE_CFG 5) QUE_CFG_EN 1).setF (QUE_CFG 5) QUE_CFG_DIR 1).setF (QUE_CFG 5) QUE_CFG_CLASS 1).setF (QUE_CFG 5) QUE_CFG_BIND 32).setF (QUE_SIZE 5) QUE_SIZE_ENTRIES 4).at 0; let q : Fin 32 := 3; let x : Desc := d.headDesc 3; (d.stopped = false) ∧ (d.domHead q 1 = some x) ∧ ((d.sigTake q x).cmdQueue x = true) ∧ ((d.sigTake q x).cmdDissent = false) ∧ ((d.sigTake q x).commandPending x.src (x.num 5 1) (x.num 8 8) = false) ∧ ((d.sigTake q x).cmdOld x = false) ∧ ((d.sigTake q x).jrnFull = false) ∧ ((d.sigTake q x).qRoom (x.num 4 1) = true) := by decide +kernel

theorem witness_commandReceived_old : let d : Dev := (((((((((((((((({ Dev.reset with por := false, sig := { (default : Sig) with streams := [⟨7, 2, 9⟩] } } : Dev)).setF SIG_CFG SIG_CFG_DOMEN 1).setF SIG_CFG SIG_CFG_DEVID 0).setF SIG_DOM SIG_DOM_DMARK 0).setF (QUE_CFG 3) QUE_CFG_EN 1).setF (QUE_CFG 3) QUE_CFG_DIR 1).wr SIG_DQMASK 8#32).setF (QUE_STAT 3) QUE_STAT_FILL 1).setF (QUE_SIZE 3) QUE_SIZE_ENTRIES 4).wr (QUE_RING 3) 0x20000000#32).putDesc 3 0 { (default : Desc) with id := BitVec.ofNat 32 (0xC0000000 + 1 * 0x20000), data := [7, 0, 3, 0, 5, 2, 0, 0, 9] }).setF (QUE_CFG 5) QUE_CFG_EN 1).setF (QUE_CFG 5) QUE_CFG_DIR 1).setF (QUE_CFG 5) QUE_CFG_CLASS 1).setF (QUE_CFG 5) QUE_CFG_BIND 32).at 0; let q : Fin 32 := 3; let x : Desc := d.headDesc 3; (d.stopped = false) ∧ (d.domHead q 1 = some x) ∧ ((d.sigTake q x).cmdQueue x = true) ∧ ((d.sigTake q x).cmdDissent = false) ∧ ((d.sigTake q x).commandPending x.src (x.num 5 1) (x.num 8 8) = false) ∧ ((d.sigTake q x).cmdOld x = true) := by decide +kernel

theorem witness_replyReceived : let d : Dev := (((((((((((((({ Dev.reset with por := false, ques := [(2, { (default : Que) with awaiting := some 0 })] } : Dev)).setF SIG_CFG SIG_CFG_DOMEN 1).setF SIG_CFG SIG_CFG_DEVID 0).setF SIG_DOM SIG_DOM_DMARK 0).setF (QUE_CFG 3) QUE_CFG_EN 1).setF (QUE_CFG 3) QUE_CFG_DIR 1).wr SIG_DQMASK 8#32).setF (QUE_STAT 3) QUE_STAT_FILL 1).setF (QUE_SIZE 3) QUE_SIZE_ENTRIES 4).wr (QUE_RING 3) 0x20000000#32).putDesc 3 0 { (default : Desc) with id := BitVec.ofNat 32 (0xC0000000 + 2 * 0x20000), data := [7, 0, 3, 0, 5, 2, 0, 0, 9] }).wr (QUE_RING 2) 0x20001000#32).putDesc 2 0 { (default : Desc) with seq := 9 }).at 0; let q : Fin 32 := 3; let x : Desc := d.headDesc 3; (d.stopped = false) ∧ (d.domHead q 2 = some x) ∧ ((x.num 5 1) < 32) ∧ (((d.sigTake q x).que (x.num 5 1)).awaiting.isSome = true) ∧ (((d.sigTake q x).headDesc (x.num 5 1)).seq = x.num 8 8) ∧ (x.num 6 1 = 0 ∨ x.num 6 1 = 1) := by decide +kernel

theorem witness_heartbeatReceived : let d : Dev := ((((((((((((({ Dev.reset with por := false } : Dev)).setF SIG_CFG SIG_CFG_DOMEN 1).setF SIG_CFG SIG_CFG_DEVID 0).setF SIG_DOM SIG_DOM_DMARK 0).setF (QUE_CFG 3) QUE_CFG_EN 1).setF (QUE_CFG 3) QUE_CFG_DIR 1).wr SIG_DQMASK 8#32).setF (QUE_STAT 3) QUE_STAT_FILL 1).setF (QUE_SIZE 3) QUE_SIZE_ENTRIES 4).wr (QUE_RING 3) 0x20000000#32).putDesc 3 0 { (default : Desc) with id := BitVec.ofNat 32 (0xC0000000 + 3 * 0x20000), data := [7, 0, 3, 0, 5, 2, 0, 0, 9] }).setF SIG_CFG SIG_CFG_ROOT 1).at 0; let q : Fin 32 := 3; let x : Desc := d.headDesc 3; (d.stopped = false) ∧ (d.domHead q 3 = some x) ∧ ((d.sigTake q x).isRoot = true) := by decide +kernel

theorem witness_aggregateReceived : let d : Dev := ((((((((((((({ Dev.reset with por := false } : Dev)).setF SIG_CFG SIG_CFG_DOMEN 1).setF SIG_CFG SIG_CFG_DEVID 0).setF SIG_DOM SIG_DOM_DMARK 0).setF (QUE_CFG 3) QUE_CFG_EN 1).setF (QUE_CFG 3) QUE_CFG_DIR 1).wr SIG_DQMASK 8#32).setF (QUE_STAT 3) QUE_STAT_FILL 1).setF (QUE_SIZE 3) QUE_SIZE_ENTRIES 4).wr (QUE_RING 3) 0x20000000#32).putDesc 3 0 { (default : Desc) with id := BitVec.ofNat 32 (0xC0000000 + 4 * 0x20000), data := [7, 0, 3, 0, 5, 2, 0, 0, 9] }).setF SIG_CFG SIG_CFG_ROOT 1).at 0; let q : Fin 32 := 3; let x : Desc := d.headDesc 3; (d.stopped = false) ∧ (d.domHead q 4 = some x) ∧ ((d.sigTake q x).isRoot = true) := by decide +kernel

theorem witness_announceReceived : let d : Dev := (((((((((((({ Dev.reset with por := false } : Dev)).setF SIG_CFG SIG_CFG_DOMEN 1).setF SIG_CFG SIG_CFG_DEVID 0).setF SIG_DOM SIG_DOM_DMARK 0).setF (QUE_CFG 3) QUE_CFG_EN 1).setF (QUE_CFG 3) QUE_CFG_DIR 1).wr SIG_DQMASK 8#32).setF (QUE_STAT 3) QUE_STAT_FILL 1).setF (QUE_SIZE 3) QUE_SIZE_ENTRIES 4).wr (QUE_RING 3) 0x20000000#32).putDesc 3 0 { (default : Desc) with id := BitVec.ofNat 32 (0xC0000000 + 5 * 0x20000), data := [7, 0, 3, 0, 5, 2, 0, 0, 9] }).at 0; let q : Fin 32 := 3; let x : Desc := d.headDesc 3; (d.stopped = false) ∧ (d.domHead q 5 = some x) := by decide +kernel

theorem witness_replytoExpired : let d : Dev := ((({ Dev.reset with por := false, tk := { (default : TimeKeeper) with stime := 16000000000 }, ques := [(3, { (default : Que) with awaiting := some 0 })] } : Dev)).wr (QUE_RING 3) 0x20000000#32).at 0; let q : Fin 32 := 3; let r : Time := 0; (d.stopped = false) ∧ ((d.que q).awaiting = some r) ∧ (d.fld SIG_CFG SIG_CFG_REPLYTO * msTicks ≤ d.since r) := by decide +kernel

theorem witness_domainHeartbeat : let d : Dev := (((((({ Dev.reset with por := false } : Dev)).setF SIG_CFG SIG_CFG_DOMEN 1).setF SIG_CFG SIG_CFG_DEVID 0).setSys stRun).setRole roleSingle).at 0; (d.stopped = false) ∧ (d.domEn = true) ∧ (d.masterRole = true) ∧ (d.secondStep (d.fld SIG_CFG SIG_CFG_DEVID % 1000 * msTicks) = true) ∧ (d.isRoot = false) := by decide +kernel

theorem witness_domainHeartbeat_root : let d : Dev := ((((((({ Dev.reset with por := false } : Dev)).setF SIG_CFG SIG_CFG_DOMEN 1).setF SIG_CFG SIG_CFG_DEVID 0).setSys stRun).setRole roleSingle).setF SIG_CFG SIG_CFG_ROOT 1).at 0; (d.stopped = false) ∧ (d.domEn = true) ∧ (d.masterRole = true) ∧ (d.secondStep (d.fld SIG_CFG SIG_CFG_DEVID % 1000 * msTicks) = true) ∧ (d.isRoot = true) := by decide +kernel

theorem witness_aggregateSend : let d : Dev := ((((((({ Dev.reset with por := false } : Dev)).setF SIG_CFG SIG_CFG_DOMEN 1).setF SIG_CFG SIG_CFG_DEVID 0).setSys stRun).setRole roleSingle).setF SIG_CFG SIG_CFG_GW 1).at 0; (d.stopped = false) ∧ (d.domEn = true) ∧ (d.isGw = true) ∧ (d.secondStep 0 = true) := by decide +kernel

theorem witness_announceSend : let d : Dev := ((((((({ Dev.reset with por := false } : Dev)).setF SIG_CFG SIG_CFG_DOMEN 1).setF SIG_CFG SIG_CFG_DEVID 0).setSys stRun).setRole roleSingle).setF SIG_CFG SIG_CFG_ROOT 1).at 0; (d.stopped = false) ∧ (d.domEn = true) ∧ (d.isRoot = true) ∧ (d.secondStep 0 = true) := by decide +kernel

theorem witness_rootSilent : let d : Dev := ((({ Dev.reset with por := false, sig := { (default : Sig) with lastAnnounce := some 0 }, tk := { (default : TimeKeeper) with stime := 80000000000 } } : Dev)).setF SIG_CFG SIG_CFG_DOMEN 1).at 0; let r : Time := 0; (d.stopped = false) ∧ (d.sig.lastAnnounce = some r) ∧ (d.domEn = true) ∧ (5 * secTicks ≤ d.since r) := by decide +kernel

/-! ### Pair -/

theorem witness_tokenWire : let d : Dev := ((((({ Dev.reset with por := false } : Dev)).setF LNK_CFG LNK_CFG_PAIRED 1).setF LNK_STAT LNK_STAT_LINKUP 1).setToken true).at 0; (d.stopped = false) ∧ (d.paired = true) ∧ (d.holdsToken = true) := by decide +kernel

theorem witness_peerTokenLost : let d : Dev := ((((({ Dev.reset with por := false } : Dev)).setF LNK_CFG LNK_CFG_PAIRED 1).setF LNK_STAT LNK_STAT_LINKUP 1).setF LNK_STAT LNK_STAT_PEERTOK 1).at 0; (d.stopped = false) ∧ (d.peerTok = true) := by decide +kernel

theorem witness_peerTokenSeen : let d : Dev := (((({ Dev.reset with por := false } : Dev)).setF LNK_CFG LNK_CFG_PAIRED 1).setF LNK_STAT LNK_STAT_LINKUP 1).at 0; (d.stopped = false) := by decide +kernel

theorem witness_tokenRace : let d : Dev := ((((({ Dev.reset with por := false } : Dev)).setF LNK_CFG LNK_CFG_PAIRED 1).setF LNK_STAT LNK_STAT_LINKUP 1).setToken true).at 0; (d.stopped = false) ∧ (d.paired = true) ∧ (d.holdsToken = true) := by decide +kernel

theorem witness_hbSend : let d : Dev := (((({ Dev.reset with por := false } : Dev)).setF LNK_CFG LNK_CFG_PAIRED 1).setF LNK_STAT LNK_STAT_LINKUP 1).at 0; (d.stopped = false) := by decide +kernel

theorem witness_hbReceived : let d : Dev := (((({ Dev.reset with por := false } : Dev)).setF LNK_CFG LNK_CFG_PAIRED 1).setF LNK_STAT LNK_STAT_LINKUP 1).at 0; let seq : Nat := 0; let role : Nat := roleStandby; let tok : Bool := false; let stime : Time := 5; let jepoch : Nat := 1; let jpos : Nat := 2; let sys : Nat := stRun; let warn : Bool := false; (d.stopped = false) ∧ (d.paired = true) ∧ (d.linkUp = true) ∧ (seq = d.lnk.rxSeq) := by decide +kernel

theorem witness_linkAck : let d : Dev := (((({ Dev.reset with por := false } : Dev)).setF LNK_CFG LNK_CFG_PAIRED 1).setF LNK_STAT LNK_STAT_LINKUP 1).at 0; let upTo : Nat := 0; (d.stopped = false) ∧ (d.paired = true) ∧ (d.linkUp = true) := by decide +kernel

theorem witness_linkResend : let d : Dev := (((({ Dev.reset with por := false, lnk := { (default : Lnk) with unacked := [{ (default : LinkTx) with sends := 1, sentAt := 0 }] }, tk := { (default : TimeKeeper) with stime := 80000 } } : Dev)).setF LNK_CFG LNK_CFG_PAIRED 1).setF LNK_STAT LNK_STAT_LINKUP 1).at 0; (d.stopped = false) ∧ (d.paired = true) ∧ (d.linkUp = true) ∧ (d.lnk.unacked.any d.resendDue = true) ∧ (d.resendAll.lnk.unacked.any (fun x => 8 ≤ x.sends) = false) := by decide +kernel

theorem witness_linkResend_down : let d : Dev := (((({ Dev.reset with por := false, lnk := { (default : Lnk) with unacked := [{ (default : LinkTx) with sends := 7, sentAt := 0 }] }, tk := { (default : TimeKeeper) with stime := 80000 } } : Dev)).setF LNK_CFG LNK_CFG_PAIRED 1).setF LNK_STAT LNK_STAT_LINKUP 1).at 0; (d.stopped = false) ∧ (d.paired = true) ∧ (d.linkUp = true) ∧ (d.lnk.unacked.any d.resendDue = true) ∧ (d.resendAll.lnk.unacked.any (fun x => 8 ≤ x.sends) = true) := by decide +kernel

theorem witness_linkTrained : let d : Dev := ((({ Dev.reset with por := false } : Dev)).setF LNK_CFG LNK_CFG_PAIRED 1).at 0; let lanes : Nat := 15; let latency : Nat := 20; (d.stopped = false) ∧ (d.paired = true) ∧ (d.linkUp = false) ∧ (usableLanes lanes ≠ 0) := by decide +kernel

theorem witness_linkRetrain : let d : Dev := ((({ Dev.reset with por := false } : Dev)).setF LNK_CFG LNK_CFG_PAIRED 1).at 0; (d.stopped = false) ∧ (d.paired = true) ∧ (d.linkUp = false) := by decide +kernel

theorem witness_laneDegraded : let d : Dev := ((((({ Dev.reset with por := false } : Dev)).setF LNK_CFG LNK_CFG_PAIRED 1).setF LNK_STAT LNK_STAT_LINKUP 1).setF LNK_STAT LNK_STAT_LANES 15).at 0; let lane : Fin 4 := 1; let errs : Nat := 20; (d.stopped = false) ∧ (d.linkUp = true) ∧ ((d.fld LNK_STAT LNK_STAT_LANES).testBit lane = true) ∧ (16 < errs) ∧ (d.fld LNK_STAT LNK_STAT_LANES = 0xF) := by decide +kernel

theorem witness_laneDegraded_down : let d : Dev := ((((({ Dev.reset with por := false } : Dev)).setF LNK_CFG LNK_CFG_PAIRED 1).setF LNK_STAT LNK_STAT_LINKUP 1).setF LNK_STAT LNK_STAT_LANES 3).at 0; let lane : Fin 4 := 1; let errs : Nat := 20; (d.stopped = false) ∧ (d.linkUp = true) ∧ ((d.fld LNK_STAT LNK_STAT_LANES).testBit lane = true) ∧ (16 < errs) ∧ (d.fld LNK_STAT LNK_STAT_LANES ≠ 0xF) := by decide +kernel

theorem witness_retrain : let d : Dev := (((({ Dev.reset with por := false } : Dev)).setF LNK_CFG LNK_CFG_PAIRED 1).setF LNK_STAT LNK_STAT_LINKUP 1).at 0; let triad : Fin 4 := 0; let v : W := 2; (d.stopped = false) ∧ (triad.val = 0) ∧ (v.bit 1 = true) := by decide +kernel

theorem witness_retrain_locked : let d : Dev := (((({ Dev.reset with por := false } : Dev)).setF LNK_CFG LNK_CFG_PAIRED 1).setF LNK_STAT LNK_STAT_LINKUP 1).at 0; let triad : Fin 4 := 1; let v : W := 2; (d.stopped = false) ∧ (triad.val ≠ 0) := by decide +kernel

theorem witness_helloReceived : let d : Dev := ((((({ Dev.reset with por := false } : Dev)).setF LNK_CFG LNK_CFG_PAIRED 1).setF LNK_STAT LNK_STAT_LINKUP 1).setRole roleDeciding).at 0; let seq : Nat := 0; let dig0 : W := 0; let dig1 : W := 0; let epoch : W := 0; let side : Bool := true; let jepoch : Nat := 1; let jpos : Nat := 1; let role : Nat := roleAlone; let sys : Nat := stRun; let tkEpoch : Option Time := none; (d.stopped = false) ∧ (d.paired = true) ∧ (d.linkUp = true) ∧ (seq = d.lnk.rxSeq) ∧ (¬ (side = (((d.modLnk (fun l => { l with rxSeq := (seq + 1) % 2 ^ 32 })).helloNote dig0 dig1 epoch sys tkEpoch).side = 1))) ∧ (dig0 = ((d.modLnk (fun l => { l with rxSeq := (seq + 1) % 2 ^ 32 })).helloNote dig0 dig1 epoch sys tkEpoch).rd SYS_CFGDIG0) ∧ (dig1 = ((d.modLnk (fun l => { l with rxSeq := (seq + 1) % 2 ^ 32 })).helloNote dig0 dig1 epoch sys tkEpoch).rd SYS_CFGDIG1) ∧ (epoch = ((d.modLnk (fun l => { l with rxSeq := (seq + 1) % 2 ^ 32 })).helloNote dig0 dig1 epoch sys tkEpoch).rd SYS_CFGEPOCH) ∧ (((d.modLnk (fun l => { l with rxSeq := (seq + 1) % 2 ^ 32 })).helloNote dig0 dig1 epoch sys tkEpoch).role = roleDeciding) := by decide +kernel

theorem witness_helloReceived_known : let d : Dev := ((((({ Dev.reset with por := false } : Dev)).setF LNK_CFG LNK_CFG_PAIRED 1).setF LNK_STAT LNK_STAT_LINKUP 1).setRole roleAlone).at 0; let seq : Nat := 0; let dig0 : W := 0; let dig1 : W := 0; let epoch : W := 0; let side : Bool := true; let jepoch : Nat := 1; let jpos : Nat := 1; let role : Nat := roleAlone; let sys : Nat := stRun; let tkEpoch : Option Time := none; (d.stopped = false) ∧ (d.paired = true) ∧ (d.linkUp = true) ∧ (seq = d.lnk.rxSeq) ∧ (¬ (side = (((d.modLnk (fun l => { l with rxSeq := (seq + 1) % 2 ^ 32 })).helloNote dig0 dig1 epoch sys tkEpoch).side = 1))) ∧ (dig0 = ((d.modLnk (fun l => { l with rxSeq := (seq + 1) % 2 ^ 32 })).helloNote dig0 dig1 epoch sys tkEpoch).rd SYS_CFGDIG0) ∧ (dig1 = ((d.modLnk (fun l => { l with rxSeq := (seq + 1) % 2 ^ 32 })).helloNote dig0 dig1 epoch sys tkEpoch).rd SYS_CFGDIG1) ∧ (epoch = ((d.modLnk (fun l => { l with rxSeq := (seq + 1) % 2 ^ 32 })).helloNote dig0 dig1 epoch sys tkEpoch).rd SYS_CFGEPOCH) ∧ (((d.modLnk (fun l => { l with rxSeq := (seq + 1) % 2 ^ 32 })).helloNote dig0 dig1 epoch sys tkEpoch).role ≠ roleDeciding) := by decide +kernel

theorem witness_helloReceived_side : let d : Dev := ((((({ Dev.reset with por := false } : Dev)).setF LNK_CFG LNK_CFG_PAIRED 1).setF LNK_STAT LNK_STAT_LINKUP 1).setRole roleDeciding).at 0; let seq : Nat := 0; let dig0 : W := 0; let dig1 : W := 0; let epoch : W := 0; let side : Bool := false; let jepoch : Nat := 1; let jpos : Nat := 1; let role : Nat := roleAlone; let sys : Nat := stRun; let tkEpoch : Option Time := none; (d.stopped = false) ∧ (d.paired = true) ∧ (d.linkUp = true) ∧ (seq = d.lnk.rxSeq) ∧ (side = (((d.modLnk (fun l => { l with rxSeq := (seq + 1) % 2 ^ 32 })).helloNote dig0 dig1 epoch sys tkEpoch).side = 1)) ∧ (((d.modLnk (fun l => { l with rxSeq := (seq + 1) % 2 ^ 32 })).helloNote dig0 dig1 epoch sys tkEpoch).role = roleDeciding) := by decide +kernel

theorem witness_soloClaim : let d : Dev := ((((({ Dev.reset with por := false, tk := { (default : TimeKeeper) with stime := 160000000000 } } : Dev)).setF LNK_CFG LNK_CFG_PAIRED 1).setSys stRun).setRole roleDeciding).at 0; (d.stopped = false) ∧ (d.paired = true) ∧ (d.linkUp = false) ∧ (d.inRun = true) ∧ (d.role = roleDeciding) ∧ (d.wireQuiet = true) ∧ (d.fld LNK_CFG LNK_CFG_SOLOWAIT * 10 * msTicks * (if d.side = 1 then 2 else 1) ≤ d.since d.lnk.runAt) ∧ (d.fld LNK_CFG LNK_CFG_SOLOWAIT * 10 * msTicks * (if d.side = 1 then 2 else 1) ≤ d.since d.lnk.lastEdge) := by decide +kernel

theorem witness_fnstateReceived : let d : Dev := ((((({ Dev.reset with por := false } : Dev)).setF LNK_CFG LNK_CFG_PAIRED 1).setF LNK_STAT LNK_STAT_LINKUP 1).setRole roleStandby).at 0; let seq : Nat := 0; let f : Fin 32 := 3; let v : W := 0x80000000; (d.stopped = false) ∧ (d.paired = true) ∧ (d.linkUp = true) ∧ (seq = d.lnk.rxSeq) ∧ ((d.modLnk (fun l => { l with rxSeq := (seq + 1) % 2 ^ 32 })).follows = true) := by decide +kernel

theorem witness_jrnReceived : let d : Dev := ((((({ Dev.reset with por := false } : Dev)).setF LNK_CFG LNK_CFG_PAIRED 1).setF LNK_STAT LNK_STAT_LINKUP 1).setRole roleStandby).at 0; let seq : Nat := 0; let jpos : Nat := 0; let kind : Nat := 1; let que : Nat := 3; let eseq : Nat := 5; let body : List Byte := [1, 2]; (d.stopped = false) ∧ (d.paired = true) ∧ (d.linkUp = true) ∧ (seq = d.lnk.rxSeq) ∧ ((d.modLnk (fun l => { l with rxSeq := (seq + 1) % 2 ^ 32 })).follows = true) ∧ (jpos = (d.modLnk (fun l => { l with rxSeq := (seq + 1) % 2 ^ 32 })).jrn.jpos) := by decide +kernel

theorem witness_mirReceived : let d : Dev := ((((({ Dev.reset with por := false } : Dev)).setF LNK_CFG LNK_CFG_PAIRED 1).setF LNK_STAT LNK_STAT_LINKUP 1).setRole roleStandby).at 0; let seq : Nat := 0; let addr : Nat := 0x20000000; let bytes : List Byte := [1]; (d.stopped = false) ∧ (d.paired = true) ∧ (d.linkUp = true) ∧ (seq = d.lnk.rxSeq) ∧ ((d.modLnk (fun l => { l with rxSeq := (seq + 1) % 2 ^ 32 })).follows = true) := by decide +kernel

theorem witness_mirendReceived : let d : Dev := ((((({ Dev.reset with por := false } : Dev)).setF LNK_CFG LNK_CFG_PAIRED 1).setF LNK_STAT LNK_STAT_LINKUP 1).setRole roleStandby).at 0; let seq : Nat := 0; let sc : Nat := 5; let good : Bool := true; let blk : StateBlock := default; (d.stopped = false) ∧ (d.paired = true) ∧ (d.linkUp = true) ∧ (seq = d.lnk.rxSeq) ∧ ((d.modLnk (fun l => { l with rxSeq := (seq + 1) % 2 ^ 32 })).follows = true) := by decide +kernel

theorem witness_mirrorApplied : let d : Dev := ((((({ Dev.reset with por := false, lnk := { (default : Lnk) with staged := some default } } : Dev)).setF LNK_CFG LNK_CFG_PAIRED 1).setF LNK_STAT LNK_STAT_LINKUP 1).setRole roleSyncing).at 0; let c : MirCopy := default; (d.stopped = false) ∧ (d.lnk.staged = some c) := by decide +kernel

theorem witness_appliedReceived : let d : Dev := ((((({ Dev.reset with por := false, lnk := { (default : Lnk) with yield := 2 } } : Dev)).setF LNK_CFG LNK_CFG_PAIRED 1).setF LNK_STAT LNK_STAT_LINKUP 1).setRole roleActive).at 0; let seq : Nat := 0; let sc : Nat := 0; (d.stopped = false) ∧ (d.paired = true) ∧ (d.linkUp = true) ∧ (seq = d.lnk.rxSeq) ∧ (d.lnk.yield = 2) ∧ (sc = d.lnk.sc) ∧ (d.role = roleActive) := by decide +kernel

theorem witness_releaseReceived : let d : Dev := ((((({ Dev.reset with por := false } : Dev)).setF LNK_CFG LNK_CFG_PAIRED 1).setF LNK_STAT LNK_STAT_LINKUP 1).setRole roleStandby).at 0; let seq : Nat := 0; (d.stopped = false) ∧ (d.paired = true) ∧ (d.linkUp = true) ∧ (seq = d.lnk.rxSeq) ∧ (d.role = roleStandby) := by decide +kernel

theorem witness_hbLoss : let d : Dev := (((({ Dev.reset with por := false, tk := { (default : TimeKeeper) with stime := 16000000000 } } : Dev)).setF LNK_CFG LNK_CFG_PAIRED 1).setRole roleStandby).at 0; (d.stopped = false) ∧ (d.paired = true) ∧ (d.peerTok = false) ∧ (d.fld LNK_CFG LNK_CFG_HBLOSS * 10 * usTicks ≤ d.since d.lnk.lastHb) ∧ (d.role = roleStandby) := by decide +kernel

theorem witness_hbLoss_syncing : let d : Dev := (((({ Dev.reset with por := false, tk := { (default : TimeKeeper) with stime := 16000000000 } } : Dev)).setF LNK_CFG LNK_CFG_PAIRED 1).setRole roleSyncing).at 0; (d.stopped = false) ∧ (d.paired = true) ∧ (d.peerTok = false) ∧ (d.fld LNK_CFG LNK_CFG_HBLOSS * 10 * usTicks ≤ d.since d.lnk.lastHb) ∧ (d.role = roleSyncing) ∧ (d.lnk.noSucc = false) := by decide +kernel

theorem witness_yield : let d : Dev := (((((({ Dev.reset with por := false, lnk := { (default : Lnk) with peerRole := roleStandby } } : Dev)).setF LNK_CFG LNK_CFG_PAIRED 1).setF LNK_STAT LNK_STAT_LINKUP 1).setRole roleActive).setF LNK_STAT LNK_STAT_LANES 15).at 0; let triad : Fin 4 := 0; let v : W := 1; (d.stopped = false) ∧ (triad.val = 0) ∧ (v.bit 0 = true) ∧ (d.role = roleActive) ∧ (d.lnk.peerRole = roleStandby) ∧ (d.linkUp = true) ∧ (d.fld LNK_STAT LNK_STAT_LANES = 0xF) := by decide +kernel

theorem witness_yield_refused : let d : Dev := (((({ Dev.reset with por := false } : Dev)).setF LNK_CFG LNK_CFG_PAIRED 1).setF LNK_STAT LNK_STAT_LINKUP 1).at 0; let triad : Fin 4 := 0; let v : W := 1; (d.stopped = false) ∧ (triad.val = 0) ∧ (v.bit 0 = true) ∧ (d.role ≠ roleActive) := by decide +kernel

theorem witness_linkQueueFrame : let d : Dev := (((((((({ Dev.reset with por := false } : Dev)).setF LNK_CFG LNK_CFG_PAIRED 1).setF LNK_STAT LNK_STAT_LINKUP 1).setF (QUE_CFG 3) QUE_CFG_EN 1).setF (QUE_CFG 3) QUE_CFG_DIR 1).setF (QUE_CFG 3) QUE_CFG_BIND bindLink).setF (QUE_SIZE 3) QUE_SIZE_ENTRIES 4).at 0; let seq : Nat := 0; let q : Fin 32 := 3; let fr : Frame := { (default : Frame) with id := 5, dlc := 2, data := [1, 2] }; (d.stopped = false) ∧ (d.paired = true) ∧ (d.linkUp = true) ∧ (seq = d.lnk.rxSeq) ∧ (d.qEn q = true) ∧ (d.qRx q = true) ∧ (d.qBind q = bindLink) := by decide +kernel

/-! ### Power -/

theorem witness_refQualified : let d : Dev := (({ Dev.reset with por := false } : Dev)).at 0; let dev : Int := 0; (d.stopped = false) ∧ (d.isSet TKP_STAT TKP_STAT_REF_OK = false) ∧ (d.isSet TKP_STAT TKP_STAT_REF_FAIL = false) ∧ (d.boot.step = .waitRef) := by decide +kernel

theorem witness_refQualTimeout : let d : Dev := (({ Dev.reset with por := false, tk := { (default : TimeKeeper) with stime := 320000000 } } : Dev)).at 0; let dev : Int := 0; (d.stopped = false) ∧ (d.isSet TKP_STAT TKP_STAT_REF_OK = false) ∧ (d.isSet TKP_STAT TKP_STAT_REF_FAIL = false) ∧ (20 * msTicks ≤ d.since d.boot.relTime) := by decide +kernel

theorem witness_refFail : let d : Dev := ((({ Dev.reset with por := false } : Dev)).setF TKP_STAT TKP_STAT_REF_OK 1).at 0; let noEdge : Bool := true; let dev : Int := 0; (d.stopped = false) ∧ (d.isSet TKP_STAT TKP_STAT_REF_OK = true) ∧ (d.isSet TKP_STAT TKP_STAT_REF_FAIL = false) := by decide +kernel

theorem witness_stimeLoRead : let d : Dev := (({ Dev.reset with por := false } : Dev)).at 0; let triad : Fin 4 := 1; (d.stopped = false) := by decide +kernel

theorem witness_slotenWrite : let d : Dev := (({ Dev.reset with por := false } : Dev)).at 0; let triad : Fin 4 := 0; let hi : Bool := true; let v : W := 5; (d.stopped = false) ∧ (triad = 0) ∧ (d.inRun = false) := by decide +kernel

theorem witness_vcoreScalingStart : let d : Dev := (({ Dev.reset with por := false, tk := { (default : TimeKeeper) with stime := 16000000000 }, vcore := { (default : Vcore) with readyAt := some 0 } } : Dev)).at 0; let r : Time := 0; (d.stopped = false) ∧ (d.vcore.readyAt = some r) ∧ (secTicks ≤ d.since r) ∧ (d.vcore.scaling = false) := by decide +kernel

theorem witness_vcoreWindowEnd : let d : Dev := ((({ Dev.reset with por := false, tk := { (default : TimeKeeper) with stime := 160000000 }, vcore := { (default : Vcore) with scaling := true, ample := true, normal := true } } : Dev)).setF SUP_VCORE SUP_VCORE_VCORE 800).at 0; (d.stopped = false) ∧ (d.vcore.scaling = true) ∧ (10 * msTicks ≤ d.since d.vcore.winAt) ∧ (d.isSet SUP_STAT SUP_STAT_WARN = false) ∧ (d.sup.recoveredAt = none) ∧ (d.vcore.ample = true) ∧ (d.vcore.normal = true) ∧ (d.vcore.minSlack = none) := by decide +kernel

theorem witness_rtcOscFail : let d : Dev := (({ Dev.reset with por := false } : Dev)).at 0; (d.por = false) ∧ (d.isSet RTC_STAT RTC_STAT_OSCF = false) := by decide +kernel

theorem witness_vbkupLoss : let d : Dev := (({ Dev.reset with por := true } : Dev)).at 0; (d.por = true) := by decide +kernel

theorem witness_rtcSetsecWrite : let d : Dev := (({ Dev.reset with por := false, sec := { (default : Sec) with sessions := [⟨7, 0, 0, 1, 0, 0, 0⟩] } } : Dev)).at 0; let sid : Nat := 7; let v : W := 5; let audits : Bool := true; let x : Session := ⟨7, 0, 0, 1, 0, 0, 0⟩; (d.stopped = false) ∧ (d.sec.sessions.find? (fun z => z.id = sid) = some x) ∧ (audits = true) := by decide +kernel

theorem witness_rtcLoad : let d : Dev := (({ Dev.reset with por := false, cal := { (default : Calendar) with loadArmed := true } } : Dev)).at 0; (d.por = false) ∧ (d.cal.loadArmed = true) ∧ (d.fld RTC_SUB RTC_SUB_SUB = 0) := by decide +kernel

theorem witness_rtcCapGo : let d : Dev := (({ Dev.reset with por := false } : Dev)).at 0; let v : W := 1; (d.stopped = false) ∧ (v.bit 0 = true) ∧ (d.cal.capBusy = false) := by decide +kernel

theorem witness_rtcCaptureDone : let d : Dev := (({ Dev.reset with por := false, cal := { (default : Calendar) with capBusy := true } } : Dev)).at 0; let edge : Time := 9; (d.por = false) ∧ (d.cal.capBusy = true) := by decide +kernel

theorem witness_rtcSubRead : let d : Dev := (({ Dev.reset with por := false } : Dev)).at 0; let triad : Fin 4 := 2; (d.stopped = false) := by decide +kernel

theorem witness_feedWired : let d : Dev := (({ Dev.reset with por := true } : Dev)).at 0; let f : Fin 2 := 0; let va : Nat := 9000; let vb : Nat := 0; (d.por = true) ∧ (3000 < feedOf f va vb) ∧ (d.sup.wired.contains f.val = false) := by decide +kernel

theorem witness_feedsValid : let d : Dev := (({ Dev.reset with por := true, sup := { (default : Sup) with wired := [0] } } : Dev)).at 0; let va : Nat := 9000; let vb : Nat := 0; (d.por = true) ∧ (d.sup.wired ≠ []) ∧ (∀ f ∈ d.sup.wired, 7400 < feedOf f va vb) := by decide +kernel

theorem witness_feedMissing : let d : Dev := (({ Dev.reset with por := true, sup := { (default : Sup) with wired := [0, 1] } } : Dev)).at 0; let f : Fin 2 := 1; let va : Nat := 9000; let vb : Nat := 0; (d.por = true) ∧ (d.sup.wired.contains f.val = true) ∧ (feedOf f va vb ≤ 7400) ∧ (∃ g ∈ d.sup.wired, 7400 < feedOf g va vb) := by decide +kernel

theorem witness_porAssert : let d : Dev := (({ Dev.reset with por := false } : Dev)).at 0; let va : Nat := 0; let vb : Nat := 0; (d.por = false) ∧ (d.vin va vb < 5500) := by decide +kernel

theorem witness_railFault : let d : Dev := (({ Dev.reset with por := false } : Dev)).at 0; let r : Fin 7 := 3; (d.por = false) := by decide +kernel

theorem witness_supWarning : let d : Dev := (({ Dev.reset with por := false } : Dev)).at 0; let va : Nat := 0; let vb : Nat := 0; (d.por = false) ∧ (d.vin va vb < 7000) ∧ (d.sysState < stReady) := by decide +kernel

theorem witness_supWarning_run : let d : Dev := ((({ Dev.reset with por := false } : Dev)).setSys stRun).at 0; let va : Nat := 0; let vb : Nat := 0; (d.por = false) ∧ (d.vin va vb < 7000) ∧ (d.inRun = true) ∧ (d.isSet SUP_STAT SUP_STAT_WARN = false) := by decide +kernel

theorem witness_supRecoveryStart : let d : Dev := ((({ Dev.reset with por := false } : Dev)).setF SUP_STAT SUP_STAT_WARN 1).at 0; let va : Nat := 9000; let vb : Nat := 0; (d.por = false) ∧ (d.isSet SUP_STAT SUP_STAT_WARN = true) ∧ (d.isSet SUP_STAT SUP_STAT_RECOVERING = false) ∧ (7400 < d.vin va vb) := by decide +kernel

theorem witness_supRecoveryAbort : let d : Dev := ((({ Dev.reset with por := false } : Dev)).setF SUP_STAT SUP_STAT_RECOVERING 1).at 0; let va : Nat := 0; let vb : Nat := 0; (d.por = false) ∧ (d.isSet SUP_STAT SUP_STAT_RECOVERING = true) ∧ (d.vin va vb < 7000) := by decide +kernel

theorem witness_supRecovered : let d : Dev := ((({ Dev.reset with por := false, tk := { (default : TimeKeeper) with stime := 80000000 } } : Dev)).setF SUP_STAT SUP_STAT_RECOVERING 1).at 0; let va : Nat := 9000; let vb : Nat := 0; (d.por = false) ∧ (d.isSet SUP_STAT SUP_STAT_RECOVERING = true) ∧ (5 * msTicks ≤ d.since d.sup.recovAt) := by decide +kernel

theorem witness_feedLost : let d : Dev := ((({ Dev.reset with por := false } : Dev)).setF SUP_STAT SUP_STAT_FAOK 1).at 0; let f : Fin 2 := 0; let va : Nat := 0; let vb : Nat := 9000; (d.por = false) ∧ (feedOf f va vb < 7000) ∧ (7000 ≤ d.vin va vb) ∧ (d.isSet SUP_STAT (okField f) = true) := by decide +kernel

theorem witness_feedReturn : let d : Dev := (({ Dev.reset with por := false } : Dev)).at 0; let f : Fin 2 := 0; let va : Nat := 9000; let vb : Nat := 0; (d.por = false) ∧ (7400 < feedOf f va vb) ∧ (d.isSet SUP_STAT (okField f) = false) := by decide +kernel

theorem witness_overvoltage : let d : Dev := (({ Dev.reset with por := false } : Dev)).at 0; let f : Fin 2 := 1; let va : Nat := 0; let vb : Nat := 41000; (d.por = false) ∧ (40000 < feedOf f va vb) ∧ (d.sup.ov.contains f.val = false) := by decide +kernel

theorem witness_ovReconnect : let d : Dev := (({ Dev.reset with por := false, sup := { (default : Sup) with ov := [1] } } : Dev)).at 0; let f : Fin 2 := 1; let va : Nat := 0; let vb : Nat := 30000; (d.por = false) ∧ (feedOf f va vb < 39000) ∧ (d.sup.ov.contains f.val = true) := by decide +kernel

theorem witness_vbkupMeasure : let d : Dev := (({ Dev.reset with por := false } : Dev)).at 0; let mv : Nat := 1900; (d.por = false) ∧ (mv < 2000) := by decide +kernel

theorem witness_stormClear : let d : Dev := ((({ Dev.reset with por := false } : Dev)).setF SUP_STAT SUP_STAT_STORM 1).at 0; (d.por = false) ∧ (d.isSet SUP_STAT SUP_STAT_STORM = true) ∧ (d.dips60 ≤ 10) := by decide +kernel

theorem witness_porRelease : let d : Dev := (({ Dev.reset with por := true, sup := { (default : Sup) with valid := true } } : Dev)).at 0; let cycles : Nat := 0; let va : Nat := 9000; let vb : Nat := 9000; (d.por = true) ∧ (d.sup.valid = true) ∧ (d.sup.missing = none) := by decide +kernel

/-! ### Redundant -/

theorem witness_triadMinority : let d : Dev := (({ Dev.reset with por := false, triads := [(1, { (default : Triad) with wait := .none })] } : Dev)).at 0; let k : Fin 4 := 1; let c : Fin 3 := 2; (d.stopped = false) ∧ (d.triadLive k = true) ∧ (3 ≤ (d.serving k).length) := by decide +kernel

theorem witness_triadResync : let d : Dev := ((({ Dev.reset with por := false, triads := [(1, { (default : Triad) with wait := .none })] } : Dev)).setF (RED_TSTAT 1) RED_TSTAT_REBUILD 4).at 0; let k : Fin 4 := 1; let q : Nat := 2; (d.stopped = false) ∧ ((List.range 3).find? (fun c => (d.rebuilding k).testBit c) = some q) ∧ (d.triadLive k = true) ∧ (d.inAssured k = false) ∧ (d.isSet (RED_TSTAT k) RED_TSTAT_RESTARTING = false) := by decide +kernel

theorem witness_triadCheckpoint : let d : Dev := (({ Dev.reset with por := false, triads := [(1, { (default : Triad) with wait := .none })] } : Dev)).at 0; let k : Fin 4 := 1; let minority : Option (Fin 3) := none; let split : Bool := false; (d.stopped = false) ∧ (d.triadLive k = true) ∧ (d.inAssured k = false) ∧ (d.isSet (RED_TSTAT k) RED_TSTAT_RESTARTING = false) ∧ (minority = none) ∧ (split = false) := by decide +kernel

theorem witness_triadCheckpoint_split : let d : Dev := (({ Dev.reset with por := false, triads := [(1, { (default : Triad) with wait := .none })] } : Dev)).at 0; let k : Fin 4 := 1; let minority : Option (Fin 3) := none; let split : Bool := true; (d.stopped = false) ∧ (d.triadLive k = true) ∧ (d.inAssured k = false) ∧ (d.isSet (RED_TSTAT k) RED_TSTAT_RESTARTING = false) ∧ (split = true) := by decide +kernel

theorem witness_triadCheckpoint_minority : let d : Dev := (({ Dev.reset with por := false, triads := [(1, { (default : Triad) with wait := .none })] } : Dev)).at 0; let k : Fin 4 := 1; let minority : Option (Fin 3) := some 2; let split : Bool := false; let q : Fin 3 := 2; (d.stopped = false) ∧ (d.triadLive k = true) ∧ (d.inAssured k = false) ∧ (d.isSet (RED_TSTAT k) RED_TSTAT_RESTARTING = false) ∧ (minority = some q) ∧ (split = false) ∧ (3 ≤ (d.serving k).length) := by decide +kernel

theorem witness_triadRestart : let d : Dev := (({ Dev.reset with por := false, triads := [(1, { (default : Triad) with wait := .none })] } : Dev)).at 0; let k : Fin 4 := 1; let kat : List (Fin 3) := []; (d.stopped = false) ∧ (d.triadLive k = true) ∧ (((d.testUndone k).disagreeCharge k (d.serving k) (kat.map Fin.val) d.sysState).triadLive k = true) ∧ (((d.testUndone k).disagreeCharge k (d.serving k) (kat.map Fin.val) d.sysState).sysState = d.sysState) ∧ (((d.testUndone k).triad k).restarts < 3) := by decide +kernel

theorem witness_triadRestart_halt : let d : Dev := (({ Dev.reset with por := false, triads := [(1, { (default : Triad) with wait := .none, restarts := 3 })] } : Dev)).at 0; let k : Fin 4 := 1; let kat : List (Fin 3) := []; (d.stopped = false) ∧ (d.triadLive k = true) ∧ (((d.testUndone k).disagreeCharge k (d.serving k) (kat.map Fin.val) d.sysState).triadLive k = true) ∧ (((d.testUndone k).disagreeCharge k (d.serving k) (kat.map Fin.val) d.sysState).sysState = d.sysState) ∧ (3 ≤ ((d.testUndone k).triad k).restarts) := by decide +kernel

theorem witness_replayDone : let d : Dev := ((({ Dev.reset with por := false } : Dev)).setF (RED_TSTAT 1) RED_TSTAT_RESTARTING 1).at 0; let k : Fin 4 := 1; (d.stopped = false) ∧ (d.isSet (RED_TSTAT k) RED_TSTAT_RESTARTING = true) ∧ ((d.triad k).replay = []) := by decide +kernel

theorem witness_gustDecay : let d : Dev := ((({ Dev.reset with por := false, red := { (default : Red) with gusts := [(257, default)] } } : Dev)).setSys stRun).at 0; (d.stopped = false) ∧ (d.inRun = true) ∧ (d.now.toNat % (10 * secTicks) = 0) := by decide +kernel

theorem witness_culletPersist : let d : Dev := (({ Dev.reset with por := false, red := { (default : Red) with cull := [default] } } : Dev)).at 0; (d.stopped = false) ∧ (d.red.cull.any (fun c => !c.persisted) = true) := by decide +kernel

theorem witness_fncmdEnter : let d : Dev := (({ Dev.reset with por := false, img := { (default : Image) with funcs := [(1, { (default : FuncRec) with kind := 1 })] } } : Dev)).at 0; let triad : Fin 4 := 0; let all : Bool := false; let f : Fin 32 := 1; let st : Fin 8 := 1; let cause : Fin 65536 := 0x1234; (d.stopped = false) ∧ (triad.val = 0) ∧ (all = false) ∧ ((d.func f).isSome = true) ∧ (permitted (d.funcD f).kind st = true) ∧ (d.inSafe f = false) ∧ (Tab.has d.red.reqSafe f = false) := by decide +kernel

theorem witness_fncmdEnter_all : let d : Dev := (({ Dev.reset with por := false, img := { (default : Image) with funcs := [(1, { (default : FuncRec) with kind := 1 })] } } : Dev)).at 0; let triad : Fin 4 := 0; let all : Bool := true; let f : Fin 32 := 1; let st : Fin 8 := 1; let cause : Fin 65536 := 0x1234; (d.stopped = false) ∧ (triad.val = 0) ∧ (all = true) := by decide +kernel

theorem witness_fncmdEnter_locked : let d : Dev := (({ Dev.reset with por := false, img := { (default : Image) with funcs := [(1, { (default : FuncRec) with kind := 1 })] } } : Dev)).at 0; let triad : Fin 4 := 1; let all : Bool := true; let f : Fin 32 := 1; let st : Fin 8 := 1; let cause : Fin 65536 := 0x1234; (d.stopped = false) ∧ (triad.val ≠ 0) := by decide +kernel

theorem witness_fncmdEnable : let d : Dev := ((((({ Dev.reset with por := false, img := { (default : Image) with funcs := [(1, { (default : FuncRec) with kind := 1 })] }, red := { (default : Red) with reqEnable := 2 } } : Dev)).setSys stRun).setRole roleAlone).setToken true).at 0; let triad : Fin 4 := 0; let all : Bool := false; let f : Fin 32 := 1; (d.stopped = false) ∧ (triad.val = 0) ∧ (all = false) ∧ ((d.func f).isSome = true) ∧ (d.enabled f = false) ∧ (d.red.enabling.testBit f = false) ∧ (d.red.reqEnable.testBit f = true) ∧ (d.asserted (d.fnGroup f) = false) ∧ (d.mayEnable f = true) := by decide +kernel

theorem witness_fncmdEnable_tripped : let d : Dev := (((({ Dev.reset with por := false, img := { (default : Image) with funcs := [(1, { (default : FuncRec) with kind := 1 })] }, red := { (default : Red) with reqEnable := 2 } } : Dev)).setSys stRun).putBit TRP_STAT 0 true).at 0; let triad : Fin 4 := 0; let all : Bool := false; let f : Fin 32 := 1; (d.stopped = false) ∧ (triad.val = 0) ∧ (all = false) ∧ ((d.func f).isSome = true) ∧ (d.enabled f = false) ∧ (d.red.enabling.testBit f = false) ∧ (d.red.reqEnable.testBit f = true) ∧ (d.asserted (d.fnGroup f) = true) := by decide +kernel

theorem witness_fncmdEnable_all : let d : Dev := (({ Dev.reset with por := false, img := { (default : Image) with funcs := [(1, { (default : FuncRec) with kind := 1 })] } } : Dev)).at 0; let triad : Fin 4 := 0; let all : Bool := true; let f : Fin 32 := 1; (d.stopped = false) ∧ (triad.val = 0) ∧ (all = true) := by decide +kernel

theorem witness_fncmdDisable : let d : Dev := (({ Dev.reset with por := false, img := { (default : Image) with funcs := [(1, { (default : FuncRec) with kind := 1 })] } } : Dev)).at 0; let triad : Fin 4 := 0; let all : Bool := false; let f : Fin 32 := 1; (d.stopped = false) ∧ (triad.val = 0) ∧ (all = false) ∧ ((d.func f).isSome = true) := by decide +kernel

theorem witness_fncmdAck : let d : Dev := (({ Dev.reset with por := false, img := { (default : Image) with funcs := [(1, { (default : FuncRec) with kind := 1 })] }, red := { (default : Red) with ackGiven := 2 } } : Dev)).at 0; let triad : Fin 4 := 0; let all : Bool := false; let f : Fin 32 := 1; (d.stopped = false) ∧ (triad.val = 0) ∧ (all = false) ∧ (d.red.ackGiven.testBit f = true) := by decide +kernel

theorem witness_fnreqEnable : let d : Dev := (({ Dev.reset with por := false, img := { (default : Image) with funcs := [(1, { (default : FuncRec) with kind := 1 })] } } : Dev)).at 0; let f : Fin 32 := 1; let st : Fin 8 := 3; (d.stopped = false) := by decide +kernel

theorem witness_fnreqDisable : let d : Dev := (({ Dev.reset with por := false, img := { (default : Image) with funcs := [(1, { (default : FuncRec) with kind := 1 })] } } : Dev)).at 0; let f : Fin 32 := 1; let st : Fin 8 := 3; (d.stopped = false) := by decide +kernel

theorem witness_fnreqSafe : let d : Dev := (({ Dev.reset with por := false, img := { (default : Image) with funcs := [(1, { (default : FuncRec) with kind := 1 })] } } : Dev)).at 0; let f : Fin 32 := 1; let st : Fin 8 := 1; (d.stopped = false) ∧ ((d.func f).isSome = true) ∧ (st.val ≠ 5) ∧ (st.val ≠ 6) ∧ (permitted (d.funcD f).kind (if st.val = 7 then (d.funcD f).safe else st) = true) := by decide +kernel

theorem witness_brakeTimeout : let d : Dev := (((({ Dev.reset with por := false } : Dev)).setF (RED_FNSTATE 1) RED_FNSTATE_SAFE 1).setF (RED_FNSTATE 1) RED_FNSTATE_STATE sfBrake).at 0; let f : Fin 32 := 1; (d.stopped = false) ∧ (d.inSafe f = true) ∧ (d.fld (RED_FNSTATE f) RED_FNSTATE_STATE = sfBrake) ∧ (d.isSet (RED_FNSTATE f) RED_FNSTATE_BRKOFF = false) ∧ (d.fld (RED_FNSAFE f) RED_FNSAFE_BRKTIME * msTicks ≤ d.since (Tab.getD 0 d.red.brakeAt f)) := by decide +kernel

theorem witness_t0Kick : let d : Dev := (({ Dev.reset with por := false } : Dev)).at 0; let triad : Fin 4 := 0; let v : W := 0xC3; (d.stopped = false) ∧ (triad.val = 0) ∧ (v.fld RED_T0KICK_KICK = 0xC3) := by decide +kernel

theorem witness_t0Kick_locked : let d : Dev := (({ Dev.reset with por := false } : Dev)).at 0; let triad : Fin 4 := 2; let v : W := 0xC3; (d.stopped = false) ∧ (triad.val ≠ 0) := by decide +kernel

theorem witness_t0KickMissed : let d : Dev := (({ Dev.reset with por := false, triads := [(0, { (default : Triad) with wait := .none })], tk := { (default : TimeKeeper) with stime := 32000000 } } : Dev)).at 0; (d.stopped = false) ∧ (d.triadLive 0 = true) ∧ (2 * msTicks ≤ d.since d.red.lastKick) ∧ (d.missedAgain = false) := by decide +kernel

theorem witness_t0KickMissed_fatal : let d : Dev := (({ Dev.reset with por := false, triads := [(0, { (default : Triad) with wait := .none })], tk := { (default : TimeKeeper) with stime := 32000000 }, red := { (default : Red) with lastMissed := some 31000000 } } : Dev)).at 0; (d.stopped = false) ∧ (d.triadLive 0 = true) ∧ (2 * msTicks ≤ d.since d.red.lastKick) ∧ (d.missedAgain = true) := by decide +kernel

theorem witness_wdgKick : let d : Dev := ((((({ Dev.reset with por := false } : Dev)).setSys stRun).setF (RED_WDGCFG 5) RED_WDGCFG_EN 1).setF (RED_WDGCFG 5) RED_WDGCFG_TRIAD 1).at 0; let triad : Fin 4 := 1; let n : Fin 16 := 5; let v : W := 1; (d.stopped = false) ∧ (triad.val = d.fld (RED_WDGCFG n) RED_WDGCFG_TRIAD) ∧ (v.bit 0 = true) ∧ (d.isSet (RED_WDGCFG n) RED_WDGCFG_EN = true) ∧ (d.inRun = true) ∧ ((Tab.getD default d.red.wdg n).started = false ∨ d.fld (RED_WDGCFG n) RED_WDGCFG_OPEN * wdgTicks ≤ d.since (Tab.getD default d.red.wdg n : Wdg).lastKick) := by decide +kernel

theorem witness_wdgKick_early : let d : Dev := (((((({ Dev.reset with por := false, red := { (default : Red) with wdg := [(5, ⟨true, 0⟩)] } } : Dev)).setSys stRun).setF (RED_WDGCFG 5) RED_WDGCFG_EN 1).setF (RED_WDGCFG 5) RED_WDGCFG_TRIAD 1).setF (RED_WDGCFG 5) RED_WDGCFG_OPEN 9).at 0; let triad : Fin 4 := 1; let n : Fin 16 := 5; let v : W := 1; (d.stopped = false) ∧ (triad.val = d.fld (RED_WDGCFG n) RED_WDGCFG_TRIAD) ∧ (v.bit 0 = true) ∧ (d.isSet (RED_WDGCFG n) RED_WDGCFG_EN = true) ∧ (d.inRun = true) ∧ ((Tab.getD default d.red.wdg n).started = true) ∧ (d.since (Tab.getD default d.red.wdg n : Wdg).lastKick < d.fld (RED_WDGCFG n) RED_WDGCFG_OPEN * wdgTicks) := by decide +kernel

theorem witness_wdgMiss : let d : Dev := ((({ Dev.reset with por := false, red := { (default : Red) with wdg := [(5, ⟨true, 0⟩)] } } : Dev)).setF (RED_WDGCFG 5) RED_WDGCFG_EN 1).at 0; let n : Fin 16 := 5; (d.stopped = false) ∧ ((Tab.getD default d.red.wdg n).started = true) ∧ (d.isSet (RED_WDGCFG n) RED_WDGCFG_EN = true) ∧ (d.fld (RED_WDGCFG n) RED_WDGCFG_CLOSE * wdgTicks ≤ d.since (Tab.getD default d.red.wdg n : Wdg).lastKick) := by decide +kernel

theorem witness_safeqRead : let d : Dev := (({ Dev.reset with por := false, safeq := [0x3001, 7] } : Dev)).at 0; let x : Nat := 0x3001; let r : List Nat := [7]; (d.stopped = false) ∧ (d.safeq = x :: r) := by decide +kernel

/-! ### Secure -/

theorem witness_open : let d : Dev := ((((({ Dev.reset with por := false, sec := { (default : Sec) with keys := [⟨11, 1, [7]⟩] } } : Dev)).setSys stRun).setRole roleSingle).setBus 0 bsActive).at 0; let port : Nat := 0; let ctag : Nat := 3; let role : Nat := 1; let key : Nat := 11; let cnonce : List Byte := [1, 2]; (d.stopped = false) ∧ (d.secOpen port = true) ∧ (d.openDenied port ctag role key = none) := by decide +kernel

theorem witness_open_denied : let d : Dev := ((((({ Dev.reset with por := false } : Dev)).setSys stRun).setRole roleSingle).setBus 0 bsActive).at 0; let port : Nat := 0; let ctag : Nat := 3; let role : Nat := 0; let key : Nat := 11; let cnonce : List Byte := [1, 2]; let q : Nat := dnRole; (d.stopped = false) ∧ (d.secOpen port = true) ∧ (d.openDenied port ctag role key = some q) := by decide +kernel

theorem witness_prove : let d : Dev := ((({ Dev.reset with por := false, sec := { (default : Sec) with chals := [⟨7, 0, 3, 1, 11, [], [], 0⟩] } } : Dev)).setSys stRun).at 0; let port : Nat := 0; let ctag : Nat := 3; let sid : Nat := 7; let proof : List Byte := [1]; let x : Chal := ⟨7, 0, 3, 1, 11, [], [], 0⟩; (d.stopped = false) ∧ (d.sec.chals.find? (fun c => c.id = sid && c.port = port && c.ctag = ctag) = some x) ∧ (d.since x.sentAt ≤ 5 * secTicks) ∧ ((d.dropChal sid).secBusy port ctag = false) := by decide +kernel

theorem witness_proveTimeout : let d : Dev := ((({ Dev.reset with por := false, sec := { (default : Sec) with chals := [⟨7, 0, 3, 1, 11, [], [], 0⟩] }, tk := { (default : TimeKeeper) with stime := 99000000000 } } : Dev)).setSys stRun).at 0; let sid : Nat := 7; let x : Chal := ⟨7, 0, 3, 1, 11, [], [], 0⟩; (d.stopped = false) ∧ (d.sec.chals.find? (fun c => c.id = sid) = some x) ∧ (5 * secTicks < d.since x.sentAt) := by decide +kernel

theorem witness_makerFirst : let d : Dev := (((({ Dev.reset with por := false } : Dev)).setSys stNocfg).setF SEC_STAT SEC_STAT_NOMAKER 1).at 0; let port : Nat := 0; let key : Nat := 5; let pub : List Byte := [1]; let cert : List Byte := [2]; let audits : Bool := true; (d.stopped = false) ∧ (d.sysState = stNocfg) ∧ (port = 0) ∧ (d.isSet SEC_STAT SEC_STAT_NOMAKER = true) := by decide +kernel

theorem witness_read : let d : Dev := ((({ Dev.reset with por := false, sec := { (default : Sec) with keys := [⟨11, 1, [7, 7, 7]⟩], sessions := [⟨7, 0, 3, 1, 11, 0, 0⟩] } } : Dev)).setSys stRun).at 0; let port : Nat := 0; let ctag : Nat := 3; let sid : Nat := 7; let ctr : Nat := 1; let addr : Nat := 0x40000000; let len : Nat := 4; let auth : List Byte := (hmac256 [7, 7, 7] (leBytes 4 7 ++ leBytes 4 1 ++ leBytes 1 1 ++ (leBytes 4 addr ++ leBytes 2 len))).take 16; let x : Session := ⟨7, 0, 3, 1, 11, 0, 0⟩; (d.stopped = false) ∧ (d.sec.sessions.find? (fun s => s.id = sid && s.port = port && s.ctag = ctag) = some x) ∧ (d.genuine x ctr 0x01 (leBytes 4 addr ++ leBytes 2 len) auth = true) ∧ (d.hasRight x 0x01 = true) ∧ ((d.setSession sid (x.used ctr d.now)).sysState ≠ stNocfg) ∧ (0 < len) ∧ (len ≤ 256) ∧ (((List.range len).map (fun i => addr + i)).all readable = true) := by decide +kernel

theorem witness_readAudit : let d : Dev := ((({ Dev.reset with por := false, sec := { (default : Sec) with keys := [⟨11, 1, [7, 7, 7]⟩], sessions := [⟨7, 0, 3, 1, 11, 0, 0⟩], audHead := 1 } } : Dev)).setSys stRun).at 0; let port : Nat := 0; let ctag : Nat := 3; let sid : Nat := 7; let ctr : Nat := 1; let index : Nat := 0; let count : Nat := 1; let auth : List Byte := (hmac256 [7, 7, 7] (leBytes 4 7 ++ leBytes 4 1 ++ leBytes 1 2 ++ (leBytes 4 index ++ leBytes 1 count))).take 16; let x : Session := ⟨7, 0, 3, 1, 11, 0, 0⟩; (d.stopped = false) ∧ (d.sec.sessions.find? (fun s => s.id = sid && s.port = port && s.ctag = ctag) = some x) ∧ (d.genuine x ctr 0x02 (leBytes 4 index ++ leBytes 1 count) auth = true) ∧ (d.hasRight x 0x02 = true) ∧ (0 < count) ∧ (count ≤ 4) ∧ (((List.range count).map (fun i => index + i)).all (d.setSession sid (x.used ctr d.now)).auditHas = true) := by decide +kernel

theorem witness_setLimit : let d : Dev := ((({ Dev.reset with por := false, sec := { (default : Sec) with keys := [⟨11, 1, [7, 7, 7]⟩], sessions := [⟨7, 0, 3, 1, 11, 0, 0⟩], bounds := [{ (default : Bound) with addr := LEG_PER 2, fmask := 0xFFFFFFFF, level := 2, min := 0, max := 0xFFFF, enc := 0 }] } } : Dev)).setSys stRun).at 0; let port : Nat := 0; let ctag : Nat := 3; let sid : Nat := 7; let ctr : Nat := 1; let addr : W := BitVec.ofNat 32 (LEG_PER 2); let fmask : W := 0xFFFFFFFF; let value : W := 500; let audits : Bool := true; let auth : List Byte := (hmac256 [7, 7, 7] (leBytes 4 7 ++ leBytes 4 1 ++ leBytes 1 16 ++ (leBytes 4 addr.toNat ++ leBytes 4 fmask.toNat ++ leBytes 4 value.toNat))).take 16; let x : Session := ⟨7, 0, 3, 1, 11, 0, 0⟩; let b : Bound := { (default : Bound) with addr := LEG_PER 2, fmask := 0xFFFFFFFF, level := 2, min := 0, max := 0xFFFF, enc := 0 }; (d.stopped = false) ∧ (d.sec.sessions.find? (fun s => s.id = sid && s.port = port && s.ctag = ctag) = some x) ∧ (d.genuine x ctr 0x10 (leBytes 4 addr.toNat ++ leBytes 4 fmask.toNat ++ leBytes 4 value.toNat) auth = true) ∧ (d.hasRight x 0x10 = true) ∧ ((d.setSession sid (x.used ctr d.now)).boundFor addr.toNat fmask = some b) ∧ (b.holds (maskField fmask value) = true) ∧ ((d.setSession sid (x.used ctr d.now)).tableFull ((d.setSession sid (x.used ctr d.now)).valueEnt 0 addr.toNat fmask value) = false) := by decide +kernel

theorem witness_setBound : let d : Dev := ((({ Dev.reset with por := false, sec := { (default : Sec) with keys := [⟨11, 2, testPub⟩], sessions := [⟨7, 0, 3, 2, 11, 0, 0⟩], bounds := [{ (default : Bound) with addr := LEG_PER 2, fmask := 0xFFFFFFFF, level := 2, min := 0, max := 0xFFFF, enc := 0 }] } } : Dev)).setSys stRun).at 0; let port : Nat := 0; let ctag : Nat := 3; let sid : Nat := 7; let ctr : Nat := 1; let addr : W := BitVec.ofNat 32 (LEG_PER 2); let fmask : W := 0xFFFFFFFF; let level : Nat := 2; let lower : W := 0; let upper : W := 0xFFFF; let audits : Bool := true; let auth : List Byte := testSign (leBytes 4 7 ++ leBytes 4 1 ++ leBytes 1 17 ++ (leBytes 4 addr.toNat ++ leBytes 4 fmask.toNat ++ leBytes 1 level ++ leBytes 4 lower.toNat ++ leBytes 4 upper.toNat)); let x : Session := ⟨7, 0, 3, 2, 11, 0, 0⟩; (d.stopped = false) ∧ (d.sec.sessions.find? (fun s => s.id = sid && s.port = port && s.ctag = ctag) = some x) ∧ (d.genuine x ctr 0x11 (leBytes 4 addr.toNat ++ leBytes 4 fmask.toNat ++ leBytes 1 level ++ leBytes 4 lower.toNat ++ leBytes 4 upper.toNat) auth = true) ∧ (d.hasRight x 0x11 = true) ∧ (level = 2 ∨ (level = 3 ∧ x.role = rlMaker)) ∧ (limitable addr.toNat = true) ∧ (fmask ≠ 0) ∧ (((d.setSession sid (x.used ctr d.now)).boundEnc addr.toNat fmask level).2.boundOk (⟨addr.toNat, fmask, level, lower, upper, ((d.setSession sid (x.used ctr d.now)).boundEnc addr.toNat fmask level).1⟩ : Bound) = true) ∧ (((d.setSession sid (x.used ctr d.now)).boundEnc addr.toNat fmask level).2.tableFull (((d.setSession sid (x.used ctr d.now)).boundEnc addr.toNat fmask level).2.boundEnt (⟨addr.toNat, fmask, level, lower, upper, ((d.setSession sid (x.used ctr d.now)).boundEnc addr.toNat fmask level).1⟩ : Bound)) = false) ∧ (audits = true) := by decide +kernel

theorem witness_calWrite : let d : Dev := ((({ Dev.reset with por := false, sec := { (default : Sec) with keys := [⟨11, 2, testPub⟩], sessions := [⟨7, 0, 3, 2, 11, 0, 0⟩] } } : Dev)).setSys stRun).at 0; let port : Nat := 0; let ctag : Nat := 3; let sid : Nat := 7; let ctr : Nat := 1; let addr : W := BitVec.ofNat 32 RTC_TRIM; let value : W := 5; let audits : Bool := true; let auth : List Byte := testSign (leBytes 4 7 ++ leBytes 4 1 ++ leBytes 1 18 ++ (leBytes 4 addr.toNat ++ leBytes 4 value.toNat)); let x : Session := ⟨7, 0, 3, 2, 11, 0, 0⟩; let isF : Bool := false; let pos : Bool := false; let fn : Option Nat := none; (d.stopped = false) ∧ (d.sec.sessions.find? (fun s => s.id = sid && s.port = port && s.ctag = ctag) = some x) ∧ (d.genuine x ctr 0x12 (leBytes 4 addr.toNat ++ leBytes 4 value.toNat) auth = true) ∧ (d.hasRight x 0x12 = true) ∧ ((d.setSession sid (x.used ctr d.now)).calTarget addr.toNat = some (isF, pos, fn)) ∧ (fn.any (d.setSession sid (x.used ctr d.now)).enabled = false) ∧ (((isF && (fIsNaN value || fIsInf value)) || (pos && !fLt f0 value) || (addr.toNat = RTC_TRIM && (256 ≤ value.toNat || value = 0x80#32))) = false) ∧ ((d.setSession sid (x.used ctr d.now)).tableFull ((d.setSession sid (x.used ctr d.now)).valueEnt 2 addr.toNat 0xFFFFFFFF#32 value) = false) ∧ (audits = true) := by decide +kernel

theorem witness_resetLimits : let d : Dev := ((({ Dev.reset with por := false, sec := { (default : Sec) with keys := [⟨11, 2, testPub⟩], sessions := [⟨7, 0, 3, 2, 11, 0, 0⟩] } } : Dev)).setSys stRun).at 0; let port : Nat := 0; let ctag : Nat := 3; let sid : Nat := 7; let ctr : Nat := 1; let audits : Bool := true; let auth : List Byte := testSign (leBytes 4 7 ++ leBytes 4 1 ++ leBytes 1 19 ++ ([])); let x : Session := ⟨7, 0, 3, 2, 11, 0, 0⟩; (d.stopped = false) ∧ (d.sec.sessions.find? (fun s => s.id = sid && s.port = port && s.ctag = ctag) = some x) ∧ (d.genuine x ctr 0x13 ([]) auth = true) ∧ (d.hasRight x 0x13 = true) ∧ (audits = true) := by decide +kernel

theorem witness_ack : let d : Dev := ((({ Dev.reset with por := false, sec := { (default : Sec) with keys := [⟨11, 1, [7, 7, 7]⟩], sessions := [⟨7, 0, 3, 1, 11, 0, 0⟩] } } : Dev)).setSys stRun).at 0; let port : Nat := 0; let ctag : Nat := 3; let sid : Nat := 7; let ctr : Nat := 1; let target : Nat := 3; let audits : Bool := true; let auth : List Byte := (hmac256 [7, 7, 7] (leBytes 4 7 ++ leBytes 4 1 ++ leBytes 1 32 ++ (leBytes 1 target))).take 16; let x : Session := ⟨7, 0, 3, 1, 11, 0, 0⟩; (d.stopped = false) ∧ (d.sec.sessions.find? (fun s => s.id = sid && s.port = port && s.ctag = ctag) = some x) ∧ (d.genuine x ctr 0x20 (leBytes 1 target) auth = true) ∧ (d.hasRight x 0x20 = true) ∧ (target < 0x20) := by decide +kernel

theorem witness_setRtc : let d : Dev := ((({ Dev.reset with por := false, sec := { (default : Sec) with keys := [⟨11, 1, [7, 7, 7]⟩], sessions := [⟨7, 0, 3, 1, 11, 0, 0⟩] } } : Dev)).setSys stRun).at 0; let port : Nat := 0; let ctag : Nat := 3; let sid : Nat := 7; let ctr : Nat := 1; let v : W := 1000; let audits : Bool := true; let auth : List Byte := (hmac256 [7, 7, 7] (leBytes 4 7 ++ leBytes 4 1 ++ leBytes 1 33 ++ (leBytes 4 v.toNat))).take 16; let x : Session := ⟨7, 0, 3, 1, 11, 0, 0⟩; (d.stopped = false) ∧ (d.sec.sessions.find? (fun s => s.id = sid && s.port = port && s.ctag = ctag) = some x) ∧ (d.genuine x ctr 0x21 (leBytes 4 v.toNat) auth = true) ∧ (d.hasRight x 0x21 = true) ∧ (audits = true) := by decide +kernel

theorem witness_slotBegin : let d : Dev := ((({ Dev.reset with por := false, sec := { (default : Sec) with keys := [⟨11, 2, testPub⟩], sessions := [⟨7, 0, 3, 2, 11, 0, 0⟩] } } : Dev)).setSys stRun).at 0; let port : Nat := 0; let ctag : Nat := 3; let sid : Nat := 7; let ctr : Nat := 1; let slot : Nat := 1; let len : Nat := 64; let sha : List Byte := [1, 2]; let auth : List Byte := testSign (leBytes 4 7 ++ leBytes 4 1 ++ leBytes 1 48 ++ (leBytes 1 slot ++ leBytes 4 len ++ sha)); let x : Session := ⟨7, 0, 3, 2, 11, 0, 0⟩; (d.stopped = false) ∧ (d.sec.sessions.find? (fun s => s.id = sid && s.port = port && s.ctag = ctag) = some x) ∧ (d.genuine x ctr 0x30 (leBytes 1 slot ++ leBytes 4 len ++ sha) auth = true) ∧ (d.hasRight x 0x30 = true) ∧ ((d.setSession sid (x.used ctr d.now)).sec.slotw = none) ∧ ((d.setSession sid (x.used ctr d.now)).sec.slotCheck = none) ∧ (slot ≤ 1) ∧ (4 ≤ len) ∧ (len ≤ slotBytes) ∧ ((d.setSession sid (x.used ctr d.now)).sysState = stNocfg ∨ slot ≠ (d.setSession sid (x.used ctr d.now)).bootedSlot) := by decide +kernel

theorem witness_slotData : let d : Dev := ((({ Dev.reset with por := false, sec := { (default : Sec) with keys := [⟨11, 2, testPub⟩], sessions := [⟨7, 0, 3, 2, 11, 0, 0⟩], slotw := some ⟨7, 1, 64, [], 8, false, [1, 2, 3, 4]⟩ } } : Dev)).setSys stRun).at 0; let port : Nat := 0; let ctag : Nat := 3; let sid : Nat := 7; let ctr : Nat := 1; let off : Nat := 8; let bs : List Byte := [5, 6]; let x : Session := ⟨7, 0, 3, 2, 11, 0, 0⟩; let w : SlotW := ⟨7, 1, 64, [], 8, false, [1, 2, 3, 4]⟩; (d.stopped = false) ∧ (d.sec.sessions.find? (fun s => s.id = sid && s.port = port && s.ctag = ctag) = some x) ∧ (d.genuine x ctr 0x31 ([]) [] = true) ∧ (d.hasRight x 0x31 = true) ∧ ((d.setSession sid (x.used ctr d.now)).sec.slotw = some w) ∧ (w.sid = x.id) ∧ (bs ≠ []) ∧ (bs.length ≤ 448) ∧ (off + bs.length ≤ w.len) ∧ (off = w.next) := by decide +kernel

theorem witness_slotEnd : let d : Dev := ((({ Dev.reset with por := false, sec := { (default : Sec) with keys := [⟨11, 2, testPub⟩], sessions := [⟨7, 0, 3, 2, 11, 0, 0⟩], slotw := some ⟨7, 1, 4, sha256 [1, 2, 3, 4], 4, false, [1, 2, 3, 4]⟩ } } : Dev)).setSys stRun).at 0; let port : Nat := 0; let ctag : Nat := 3; let sid : Nat := 7; let ctr : Nat := 1; let audits : Bool := true; let auth : List Byte := testSign (leBytes 4 7 ++ leBytes 4 1 ++ leBytes 1 50 ++ ([])); let x : Session := ⟨7, 0, 3, 2, 11, 0, 0⟩; let w : SlotW := ⟨7, 1, 4, sha256 [1, 2, 3, 4], 4, false, [1, 2, 3, 4]⟩; (d.stopped = false) ∧ (d.sec.sessions.find? (fun s => s.id = sid && s.port = port && s.ctag = ctag) = some x) ∧ (d.genuine x ctr 0x32 ([]) auth = true) ∧ (d.hasRight x 0x32 = true) ∧ ((d.setSession sid (x.used ctr d.now)).sec.slotw = some w) ∧ (w.sid = x.id) ∧ (({ (d.setSession sid (x.used ctr d.now)) with sec := { (d.setSession sid (x.used ctr d.now)).sec with slotw := none } } : Dev).slotWhole w = true) ∧ (audits = true) := by decide +kernel

theorem witness_restart : let d : Dev := ((({ Dev.reset with por := false, sec := { (default : Sec) with keys := [⟨11, 2, testPub⟩], sessions := [⟨7, 0, 3, 2, 11, 0, 0⟩] } } : Dev)).setSys stRun).at 0; let port : Nat := 0; let ctag : Nat := 3; let sid : Nat := 7; let ctr : Nat := 1; let audits : Bool := true; let auth : List Byte := testSign (leBytes 4 7 ++ leBytes 4 1 ++ leBytes 1 51 ++ ([])); let x : Session := ⟨7, 0, 3, 2, 11, 0, 0⟩; (d.stopped = false) ∧ (d.sec.sessions.find? (fun s => s.id = sid && s.port = port && s.ctag = ctag) = some x) ∧ (d.genuine x ctr 0x33 ([]) auth = true) ∧ (d.hasRight x 0x33 = true) ∧ ((d.setSession sid (x.used ctr d.now)).restartBar = none) ∧ (audits = true) := by decide +kernel

theorem witness_restart_refused : let d : Dev := (((({ Dev.reset with por := false, sec := { (default : Sec) with keys := [⟨11, 2, testPub⟩], sessions := [⟨7, 0, 3, 2, 11, 0, 0⟩] }, img := { (default : Image) with funcs := [(1, { (default : FuncRec) with kind := 1 })] } } : Dev)).setSys stRun).setF (RED_FNSTATE 1) RED_FNSTATE_ENABLED 1).at 0; let port : Nat := 0; let ctag : Nat := 3; let sid : Nat := 7; let ctr : Nat := 1; let audits : Bool := true; let auth : List Byte := testSign (leBytes 4 7 ++ leBytes 4 1 ++ leBytes 1 51 ++ ([])); let x : Session := ⟨7, 0, 3, 2, 11, 0, 0⟩; let q : Nat := 1; (d.stopped = false) ∧ (d.sec.sessions.find? (fun s => s.id = sid && s.port = port && s.ctag = ctag) = some x) ∧ (d.genuine x ctr 0x33 ([]) auth = true) ∧ (d.hasRight x 0x33 = true) ∧ ((d.setSession sid (x.used ctr d.now)).restartBar = some q) ∧ (audits = true) := by decide +kernel

theorem witness_keyInstall : let d : Dev := ((({ Dev.reset with por := false, sec := { (default : Sec) with keys := [⟨11, 3, testPub⟩], sessions := [⟨7, 0, 3, 3, 11, 0, 0⟩] } } : Dev)).setSys stRun).at 0; let port : Nat := 0; let ctag : Nat := 3; let sid : Nat := 7; let ctr : Nat := 1; let key : Nat := 12; let role : Nat := 1; let bs : List Byte := List.replicate 16 9; let certId : Nat := 0; let cert : List Byte := []; let audits : Bool := true; let auth : List Byte := testSign (leBytes 4 7 ++ leBytes 4 1 ++ leBytes 1 64 ++ (certified key role bs ++ (if role = rlOperator then [] else leBytes 4 certId ++ cert))); let x : Session := ⟨7, 0, 3, 3, 11, 0, 0⟩; (d.stopped = false) ∧ (d.sec.sessions.find? (fun s => s.id = sid && s.port = port && s.ctag = ctag) = some x) ∧ (d.genuine x ctr 0x40 (certified key role bs ++ (if role = rlOperator then [] else leBytes 4 certId ++ cert)) auth = true) ∧ (d.hasRight x 0x40 = true) ∧ (key ≠ 0) ∧ (key ≠ 0xFFFFFFFF) ∧ (0 < role) ∧ (role ≤ 3) ∧ (bs.length = (if role = rlOperator then 16 else 64)) ∧ ((d.setSession sid (x.used ctr d.now)).keyOf key = none) ∧ (((d.setSession sid (x.used ctr d.now)).roleKeys role).length < keyRoom role) ∧ (role = rlOperator ∨ (d.setSession sid (x.used ctr d.now)).certOk key role bs certId cert = true) ∧ (audits = true) := by decide +kernel

theorem witness_keyRevoke : let d : Dev := ((({ Dev.reset with por := false, sec := { (default : Sec) with keys := [⟨11, 3, testPub⟩, ⟨12, 1, [9]⟩], sessions := [⟨7, 0, 3, 3, 11, 0, 0⟩] } } : Dev)).setSys stRun).at 0; let port : Nat := 0; let ctag : Nat := 3; let sid : Nat := 7; let ctr : Nat := 1; let key : Nat := 12; let audits : Bool := true; let auth : List Byte := testSign (leBytes 4 7 ++ leBytes 4 1 ++ leBytes 1 65 ++ (leBytes 4 key)); let x : Session := ⟨7, 0, 3, 3, 11, 0, 0⟩; let w : SecKey := ⟨12, 1, [9]⟩; (d.stopped = false) ∧ (d.sec.sessions.find? (fun s => s.id = sid && s.port = port && s.ctag = ctag) = some x) ∧ (d.genuine x ctr 0x41 (leBytes 4 key) auth = true) ∧ (d.hasRight x 0x41 = true) ∧ ((d.setSession sid (x.used ctr d.now)).keyOf key = some w) ∧ (w.role ≠ rlMaker ∨ 1 < ((d.setSession sid (x.used ctr d.now)).roleKeys rlMaker).length) ∧ (audits = true) := by decide +kernel

theorem witness_gustClear : let d : Dev := ((({ Dev.reset with por := false, sec := { (default : Sec) with keys := [⟨11, 2, testPub⟩], sessions := [⟨7, 0, 3, 2, 11, 0, 0⟩] } } : Dev)).setSys stRun).at 0; let port : Nat := 0; let ctag : Nat := 3; let sid : Nat := 7; let ctr : Nat := 1; let res : Nat := 0xFFFF; let audits : Bool := true; let auth : List Byte := testSign (leBytes 4 7 ++ leBytes 4 1 ++ leBytes 1 80 ++ (leBytes 2 res)); let x : Session := ⟨7, 0, 3, 2, 11, 0, 0⟩; (d.stopped = false) ∧ (d.sec.sessions.find? (fun s => s.id = sid && s.port = port && s.ctag = ctag) = some x) ∧ (d.genuine x ctr 0x50 (leBytes 2 res) auth = true) ∧ (d.hasRight x 0x50 = true) ∧ (res = 0xFFFF ∨ isResource res = true) ∧ (audits = true) := by decide +kernel

theorem witness_cullClear : let d : Dev := ((({ Dev.reset with por := false, sec := { (default : Sec) with keys := [⟨11, 3, testPub⟩], sessions := [⟨7, 0, 3, 3, 11, 0, 0⟩] } } : Dev)).setSys stRun).at 0; let port : Nat := 0; let ctag : Nat := 3; let sid : Nat := 7; let ctr : Nat := 1; let res : Nat := 0xFFFF; let audits : Bool := true; let auth : List Byte := testSign (leBytes 4 7 ++ leBytes 4 1 ++ leBytes 1 81 ++ (leBytes 2 res)); let x : Session := ⟨7, 0, 3, 3, 11, 0, 0⟩; (d.stopped = false) ∧ (d.sec.sessions.find? (fun s => s.id = sid && s.port = port && s.ctag = ctag) = some x) ∧ (d.genuine x ctr 0x51 (leBytes 2 res) auth = true) ∧ (d.hasRight x 0x51 = true) ∧ (res = 0xFFFF ∨ isResource res = true) ∧ (audits = true) := by decide +kernel

theorem witness_lockoutClear : let d : Dev := ((({ Dev.reset with por := false, sec := { (default : Sec) with keys := [⟨11, 3, testPub⟩], sessions := [⟨7, 0, 3, 3, 11, 0, 0⟩] } } : Dev)).setSys stRun).at 0; let port : Nat := 0; let ctag : Nat := 3; let sid : Nat := 7; let ctr : Nat := 1; let role : Nat := 1; let audits : Bool := true; let auth : List Byte := testSign (leBytes 4 7 ++ leBytes 4 1 ++ leBytes 1 82 ++ (leBytes 1 role)); let x : Session := ⟨7, 0, 3, 3, 11, 0, 0⟩; (d.stopped = false) ∧ (d.sec.sessions.find? (fun s => s.id = sid && s.port = port && s.ctag = ctag) = some x) ∧ (d.genuine x ctr 0x52 (leBytes 1 role) auth = true) ∧ (d.hasRight x 0x52 = true) ∧ (role = rlOperator ∨ role = rlInstaller) ∧ (audits = true) := by decide +kernel

theorem witness_factest : let d : Dev := ((({ Dev.reset with por := false, sec := { (default : Sec) with keys := [⟨11, 3, testPub⟩], sessions := [⟨7, 0, 3, 3, 11, 0, 0⟩] } } : Dev)).setSys stRun).at 0; let port : Nat := 0; let ctag : Nat := 3; let sid : Nat := 7; let ctr : Nat := 1; let test : Option (Nat × Nat × Bool) := none; let audits : Bool := true; let auth : List Byte := testSign (leBytes 4 7 ++ leBytes 4 1 ++ leBytes 1 83 ++ (factestArgs test)); let x : Session := ⟨7, 0, 3, 3, 11, 0, 0⟩; (d.stopped = false) ∧ (d.sec.sessions.find? (fun s => s.id = sid && s.port = port && s.ctag = ctag) = some x) ∧ (d.genuine x ctr 0x53 (factestArgs test) auth = true) ∧ (d.hasRight x 0x53 = true) ∧ ((d.setSession sid (x.used ctr d.now)).fns.any (d.setSession sid (x.used ctr d.now)).enabled = false) ∧ (test = none) ∧ (audits = true) := by decide +kernel

theorem witness_close : let d : Dev := ((({ Dev.reset with por := false, sec := { (default : Sec) with keys := [⟨11, 1, [7, 7, 7]⟩], sessions := [⟨7, 0, 3, 1, 11, 0, 0⟩] } } : Dev)).setSys stRun).at 0; let port : Nat := 0; let ctag : Nat := 3; let sid : Nat := 7; let ctr : Nat := 1; let auth : List Byte := (hmac256 [7, 7, 7] (leBytes 4 7 ++ leBytes 4 1 ++ leBytes 1 96 ++ ([]))).take 16; let x : Session := ⟨7, 0, 3, 1, 11, 0, 0⟩; (d.stopped = false) ∧ (d.sec.sessions.find? (fun s => s.id = sid && s.port = port && s.ctag = ctag) = some x) ∧ (d.genuine x ctr 0x60 ([]) auth = true) ∧ (d.hasRight x 0x60 = true) := by decide +kernel

theorem witness_sessionIdleTimeout : let d : Dev := ((({ Dev.reset with por := false, sec := { (default : Sec) with sessions := [⟨7, 0, 3, 1, 11, 0, 0⟩] }, tk := { (default : TimeKeeper) with stime := 16000000000000 } } : Dev)).setSys stRun).at 0; let sid : Nat := 7; let x : Session := ⟨7, 0, 3, 1, 11, 0, 0⟩; (d.stopped = false) ∧ (d.sec.sessions.find? (fun s => s.id = sid) = some x) ∧ ((d.roleRec x.role).idle * secTicks ≤ d.since x.lastAt) := by decide +kernel

theorem witness_lockoutExpire : let d : Dev := ((({ Dev.reset with por := false } : Dev)).setF SEC_STAT (lockField 1) 1).at 0; let role : Fin 4 := 1; (d.stopped = false) ∧ ((Tab.getD (0 : Time) d.sec.lockEnd role).toNat ≤ d.now.toNat) := by decide +kernel

theorem witness_setBound_noaudit : let d : Dev := ((({ Dev.reset with por := false, sec := { (default : Sec) with keys := [⟨11, 2, testPub⟩], sessions := [⟨7, 0, 3, 2, 11, 0, 0⟩], bounds := [{ (default : Bound) with addr := LEG_PER 2, fmask := 0xFFFFFFFF, level := 2, min := 0, max := 0xFFFF, enc := 0 }] } } : Dev)).setSys stRun).at 0; let port : Nat := 0; let ctag : Nat := 3; let sid : Nat := 7; let ctr : Nat := 1; let addr : W := BitVec.ofNat 32 (LEG_PER 2); let fmask : W := 0xFFFFFFFF; let level : Nat := 2; let lower : W := 0; let upper : W := 0xFFFF; let audits : Bool := false; let auth : List Byte := testSign (leBytes 4 7 ++ leBytes 4 1 ++ leBytes 1 17 ++ (leBytes 4 addr.toNat ++ leBytes 4 fmask.toNat ++ leBytes 1 level ++ leBytes 4 lower.toNat ++ leBytes 4 upper.toNat)); let x : Session := ⟨7, 0, 3, 2, 11, 0, 0⟩; (d.stopped = false) ∧ (d.sec.sessions.find? (fun s => s.id = sid && s.port = port && s.ctag = ctag) = some x) ∧ (d.genuine x ctr 0x11 (leBytes 4 addr.toNat ++ leBytes 4 fmask.toNat ++ leBytes 1 level ++ leBytes 4 lower.toNat ++ leBytes 4 upper.toNat) auth = true) ∧ (d.hasRight x 0x11 = true) ∧ (audits = false) ∧ (((fun (x : Session) (d : Dev) => d.secSetBound addr.toNat fmask level lower upper x) (x.used ctr d.now) (d.setSession sid (x.used ctr d.now))).sec.audHead ≠ (d.setSession sid (x.used ctr d.now)).sec.audHead) := by decide +kernel

theorem witness_calWrite_noaudit : let d : Dev := ((({ Dev.reset with por := false, sec := { (default : Sec) with keys := [⟨11, 2, testPub⟩], sessions := [⟨7, 0, 3, 2, 11, 0, 0⟩] } } : Dev)).setSys stRun).at 0; let port : Nat := 0; let ctag : Nat := 3; let sid : Nat := 7; let ctr : Nat := 1; let addr : W := BitVec.ofNat 32 RTC_TRIM; let value : W := 5; let audits : Bool := false; let auth : List Byte := testSign (leBytes 4 7 ++ leBytes 4 1 ++ leBytes 1 18 ++ (leBytes 4 addr.toNat ++ leBytes 4 value.toNat)); let x : Session := ⟨7, 0, 3, 2, 11, 0, 0⟩; (d.stopped = false) ∧ (d.sec.sessions.find? (fun s => s.id = sid && s.port = port && s.ctag = ctag) = some x) ∧ (d.genuine x ctr 0x12 (leBytes 4 addr.toNat ++ leBytes 4 value.toNat) auth = true) ∧ (d.hasRight x 0x12 = true) ∧ (audits = false) ∧ (((fun (x : Session) (d : Dev) => d.secCalWrite addr.toNat value x) (x.used ctr d.now) (d.setSession sid (x.used ctr d.now))).sec.audHead ≠ (d.setSession sid (x.used ctr d.now)).sec.audHead) := by decide +kernel

theorem witness_resetLimits_noaudit : let d : Dev := ((({ Dev.reset with por := false, sec := { (default : Sec) with keys := [⟨11, 2, testPub⟩], sessions := [⟨7, 0, 3, 2, 11, 0, 0⟩] } } : Dev)).setSys stRun).at 0; let port : Nat := 0; let ctag : Nat := 3; let sid : Nat := 7; let ctr : Nat := 1; let audits : Bool := false; let auth : List Byte := testSign (leBytes 4 7 ++ leBytes 4 1 ++ leBytes 1 19 ++ ([])); let x : Session := ⟨7, 0, 3, 2, 11, 0, 0⟩; (d.stopped = false) ∧ (d.sec.sessions.find? (fun s => s.id = sid && s.port = port && s.ctag = ctag) = some x) ∧ (d.genuine x ctr 0x13 ([]) auth = true) ∧ (d.hasRight x 0x13 = true) ∧ (audits = false) ∧ (((fun (x : Session) (d : Dev) => d.secResetLimits x) (x.used ctr d.now) (d.setSession sid (x.used ctr d.now))).sec.audHead ≠ (d.setSession sid (x.used ctr d.now)).sec.audHead) := by decide +kernel

theorem witness_setRtc_noaudit : let d : Dev := ((({ Dev.reset with por := false, sec := { (default : Sec) with keys := [⟨11, 1, [7, 7, 7]⟩], sessions := [⟨7, 0, 3, 1, 11, 0, 0⟩] } } : Dev)).setSys stRun).at 0; let port : Nat := 0; let ctag : Nat := 3; let sid : Nat := 7; let ctr : Nat := 1; let v : W := 1000; let audits : Bool := false; let auth : List Byte := (hmac256 [7, 7, 7] (leBytes 4 7 ++ leBytes 4 1 ++ leBytes 1 33 ++ (leBytes 4 v.toNat))).take 16; let x : Session := ⟨7, 0, 3, 1, 11, 0, 0⟩; (d.stopped = false) ∧ (d.sec.sessions.find? (fun s => s.id = sid && s.port = port && s.ctag = ctag) = some x) ∧ (d.genuine x ctr 0x21 (leBytes 4 v.toNat) auth = true) ∧ (d.hasRight x 0x21 = true) ∧ (audits = false) ∧ (((fun (x : Session) (d : Dev) => d.secSetRtc v x) (x.used ctr d.now) (d.setSession sid (x.used ctr d.now))).sec.audHead ≠ (d.setSession sid (x.used ctr d.now)).sec.audHead) := by decide +kernel

theorem witness_slotEnd_noaudit : let d : Dev := ((({ Dev.reset with por := false, sec := { (default : Sec) with keys := [⟨11, 2, testPub⟩], sessions := [⟨7, 0, 3, 2, 11, 0, 0⟩], slotw := some ⟨7, 1, 4, sha256 [1, 2, 3, 4], 4, false, [1, 2, 3, 4]⟩ } } : Dev)).setSys stRun).at 0; let port : Nat := 0; let ctag : Nat := 3; let sid : Nat := 7; let ctr : Nat := 1; let audits : Bool := false; let auth : List Byte := testSign (leBytes 4 7 ++ leBytes 4 1 ++ leBytes 1 50 ++ ([])); let x : Session := ⟨7, 0, 3, 2, 11, 0, 0⟩; (d.stopped = false) ∧ (d.sec.sessions.find? (fun s => s.id = sid && s.port = port && s.ctag = ctag) = some x) ∧ (d.genuine x ctr 0x32 ([]) auth = true) ∧ (d.hasRight x 0x32 = true) ∧ (audits = false) ∧ (((fun (x : Session) (d : Dev) => d.slotEnd x) (x.used ctr d.now) (d.setSession sid (x.used ctr d.now))).sec.audHead ≠ (d.setSession sid (x.used ctr d.now)).sec.audHead) := by decide +kernel

theorem witness_restart_noaudit : let d : Dev := ((({ Dev.reset with por := false, sec := { (default : Sec) with keys := [⟨11, 2, testPub⟩], sessions := [⟨7, 0, 3, 2, 11, 0, 0⟩] } } : Dev)).setSys stRun).at 0; let port : Nat := 0; let ctag : Nat := 3; let sid : Nat := 7; let ctr : Nat := 1; let audits : Bool := false; let auth : List Byte := testSign (leBytes 4 7 ++ leBytes 4 1 ++ leBytes 1 51 ++ ([])); let x : Session := ⟨7, 0, 3, 2, 11, 0, 0⟩; (d.stopped = false) ∧ (d.sec.sessions.find? (fun s => s.id = sid && s.port = port && s.ctag = ctag) = some x) ∧ (d.genuine x ctr 0x33 ([]) auth = true) ∧ (d.hasRight x 0x33 = true) ∧ (audits = false) ∧ (((fun (x : Session) (d : Dev) => d.secRestart x) (x.used ctr d.now) (d.setSession sid (x.used ctr d.now))).sec.audHead ≠ (d.setSession sid (x.used ctr d.now)).sec.audHead) := by decide +kernel

theorem witness_keyInstall_noaudit : let d : Dev := ((({ Dev.reset with por := false, sec := { (default : Sec) with keys := [⟨11, 3, testPub⟩], sessions := [⟨7, 0, 3, 3, 11, 0, 0⟩] } } : Dev)).setSys stRun).at 0; let port : Nat := 0; let ctag : Nat := 3; let sid : Nat := 7; let ctr : Nat := 1; let key : Nat := 12; let role : Nat := 1; let bs : List Byte := List.replicate 16 9; let certId : Nat := 0; let cert : List Byte := []; let audits : Bool := false; let auth : List Byte := testSign (leBytes 4 7 ++ leBytes 4 1 ++ leBytes 1 64 ++ (certified key role bs ++ (if role = rlOperator then [] else leBytes 4 certId ++ cert))); let x : Session := ⟨7, 0, 3, 3, 11, 0, 0⟩; (d.stopped = false) ∧ (d.sec.sessions.find? (fun s => s.id = sid && s.port = port && s.ctag = ctag) = some x) ∧ (d.genuine x ctr 0x40 (certified key role bs ++ (if role = rlOperator then [] else leBytes 4 certId ++ cert)) auth = true) ∧ (d.hasRight x 0x40 = true) ∧ (audits = false) ∧ (((fun (x : Session) (d : Dev) => d.keyInstall key role bs certId cert x) (x.used ctr d.now) (d.setSession sid (x.used ctr d.now))).sec.audHead ≠ (d.setSession sid (x.used ctr d.now)).sec.audHead) := by decide +kernel

theorem witness_keyRevoke_noaudit : let d : Dev := ((({ Dev.reset with por := false, sec := { (default : Sec) with keys := [⟨11, 3, testPub⟩, ⟨12, 1, [9]⟩], sessions := [⟨7, 0, 3, 3, 11, 0, 0⟩] } } : Dev)).setSys stRun).at 0; let port : Nat := 0; let ctag : Nat := 3; let sid : Nat := 7; let ctr : Nat := 1; let key : Nat := 12; let audits : Bool := false; let auth : List Byte := testSign (leBytes 4 7 ++ leBytes 4 1 ++ leBytes 1 65 ++ (leBytes 4 key)); let x : Session := ⟨7, 0, 3, 3, 11, 0, 0⟩; (d.stopped = false) ∧ (d.sec.sessions.find? (fun s => s.id = sid && s.port = port && s.ctag = ctag) = some x) ∧ (d.genuine x ctr 0x41 (leBytes 4 key) auth = true) ∧ (d.hasRight x 0x41 = true) ∧ (audits = false) ∧ (((fun (x : Session) (d : Dev) => d.keyRevoke key x) (x.used ctr d.now) (d.setSession sid (x.used ctr d.now))).sec.audHead ≠ (d.setSession sid (x.used ctr d.now)).sec.audHead) := by decide +kernel

theorem witness_gustClear_noaudit : let d : Dev := ((({ Dev.reset with por := false, sec := { (default : Sec) with keys := [⟨11, 2, testPub⟩], sessions := [⟨7, 0, 3, 2, 11, 0, 0⟩] } } : Dev)).setSys stRun).at 0; let port : Nat := 0; let ctag : Nat := 3; let sid : Nat := 7; let ctr : Nat := 1; let res : Nat := 0xFFFF; let audits : Bool := false; let auth : List Byte := testSign (leBytes 4 7 ++ leBytes 4 1 ++ leBytes 1 80 ++ (leBytes 2 res)); let x : Session := ⟨7, 0, 3, 2, 11, 0, 0⟩; (d.stopped = false) ∧ (d.sec.sessions.find? (fun s => s.id = sid && s.port = port && s.ctag = ctag) = some x) ∧ (d.genuine x ctr 0x50 (leBytes 2 res) auth = true) ∧ (d.hasRight x 0x50 = true) ∧ (audits = false) ∧ (((fun (x : Session) (d : Dev) => d.secGustClear res x) (x.used ctr d.now) (d.setSession sid (x.used ctr d.now))).sec.audHead ≠ (d.setSession sid (x.used ctr d.now)).sec.audHead) := by decide +kernel

theorem witness_cullClear_noaudit : let d : Dev := ((({ Dev.reset with por := false, sec := { (default : Sec) with keys := [⟨11, 3, testPub⟩], sessions := [⟨7, 0, 3, 3, 11, 0, 0⟩] } } : Dev)).setSys stRun).at 0; let port : Nat := 0; let ctag : Nat := 3; let sid : Nat := 7; let ctr : Nat := 1; let res : Nat := 0xFFFF; let audits : Bool := false; let auth : List Byte := testSign (leBytes 4 7 ++ leBytes 4 1 ++ leBytes 1 81 ++ (leBytes 2 res)); let x : Session := ⟨7, 0, 3, 3, 11, 0, 0⟩; (d.stopped = false) ∧ (d.sec.sessions.find? (fun s => s.id = sid && s.port = port && s.ctag = ctag) = some x) ∧ (d.genuine x ctr 0x51 (leBytes 2 res) auth = true) ∧ (d.hasRight x 0x51 = true) ∧ (audits = false) ∧ (((fun (x : Session) (d : Dev) => d.secCullClear res x) (x.used ctr d.now) (d.setSession sid (x.used ctr d.now))).sec.audHead ≠ (d.setSession sid (x.used ctr d.now)).sec.audHead) := by decide +kernel

theorem witness_lockoutClear_noaudit : let d : Dev := ((({ Dev.reset with por := false, sec := { (default : Sec) with keys := [⟨11, 3, testPub⟩], sessions := [⟨7, 0, 3, 3, 11, 0, 0⟩] } } : Dev)).setSys stRun).at 0; let port : Nat := 0; let ctag : Nat := 3; let sid : Nat := 7; let ctr : Nat := 1; let role : Nat := 1; let audits : Bool := false; let auth : List Byte := testSign (leBytes 4 7 ++ leBytes 4 1 ++ leBytes 1 82 ++ (leBytes 1 role)); let x : Session := ⟨7, 0, 3, 3, 11, 0, 0⟩; (d.stopped = false) ∧ (d.sec.sessions.find? (fun s => s.id = sid && s.port = port && s.ctag = ctag) = some x) ∧ (d.genuine x ctr 0x52 (leBytes 1 role) auth = true) ∧ (d.hasRight x 0x52 = true) ∧ (audits = false) ∧ (((fun (x : Session) (d : Dev) => d.lockoutClear role x) (x.used ctr d.now) (d.setSession sid (x.used ctr d.now))).sec.audHead ≠ (d.setSession sid (x.used ctr d.now)).sec.audHead) := by decide +kernel

theorem witness_factest_noaudit : let d : Dev := ((({ Dev.reset with por := false, sec := { (default : Sec) with keys := [⟨11, 3, testPub⟩], sessions := [⟨7, 0, 3, 3, 11, 0, 0⟩] } } : Dev)).setSys stRun).at 0; let port : Nat := 0; let ctag : Nat := 3; let sid : Nat := 7; let ctr : Nat := 1; let test : Option (Nat × Nat × Bool) := none; let audits : Bool := false; let auth : List Byte := testSign (leBytes 4 7 ++ leBytes 4 1 ++ leBytes 1 83 ++ (factestArgs test)); let x : Session := ⟨7, 0, 3, 3, 11, 0, 0⟩; (d.stopped = false) ∧ (d.sec.sessions.find? (fun s => s.id = sid && s.port = port && s.ctag = ctag) = some x) ∧ (d.genuine x ctr 0x53 (factestArgs test) auth = true) ∧ (d.hasRight x 0x53 = true) ∧ (audits = false) ∧ (((fun (x : Session) (d : Dev) => d.secFactest test x) (x.used ctr d.now) (d.setSession sid (x.used ctr d.now))).sec.audHead ≠ (d.setSession sid (x.used ctr d.now)).sec.audHead) := by decide +kernel

/-! ### StartUp -/

theorem witness_registerWrite : let d : Dev := (({ Dev.reset with por := false } : Dev)).at 0; let triad : Fin 4 := 1; let a : Nat := RTC_BKP 2; let v : W := 7; let r : RegDesc := (regDesc (RTC_BKP 2)).getD default; (d.stopped = false) ∧ (regDesc a = some r) ∧ (r.acc = .rw) ∧ (r.t0 = false ∨ triad = 0) ∧ (a / 0x10000 ≠ 0x4030) ∧ (d.storeDrive triad a v = none) ∧ (d.storeSystem triad a v = none) := by decide +kernel

theorem witness_registerWrite_locked : let d : Dev := ((({ Dev.reset with por := false } : Dev)).setF SYS_BOOT SYS_BOOT_LOCKED 1).at 0; let triad : Fin 4 := 1; let a : Nat := AXU_CFG 2; let v : W := 7; let r : RegDesc := (regDesc (AXU_CFG 2)).getD default; (d.stopped = false) ∧ (regDesc a = some r) ∧ (r.acc = .cl) ∧ (d.locked = true) := by decide +kernel

theorem witness_registerWrite_clear : let d : Dev := (({ Dev.reset with por := false } : Dev)).at 0; let triad : Fin 4 := 1; let a : Nat := TKP_COINC0; let v : W := 7; let r : RegDesc := (regDesc TKP_COINC0).getD default; (d.stopped = false) ∧ (regDesc a = some r) ∧ (r.acc = .w1c) ∧ (r.w1c ≠ 0) ∧ (a / 0x10000 ≠ 0x4030) ∧ (d.storeDrive triad a v = none) ∧ (d.storeSystem triad a v = none) := by decide +kernel

theorem witness_unmappedAccess : let d : Dev := (({ Dev.reset with por := false } : Dev)).at 0; let triad : Fin 4 := 1; let a : Nat := 0x4001FFFC; let write : Bool := true; (d.stopped = false) ∧ (inPeriph a = true) ∧ (regDesc a = none) := by decide +kernel

theorem witness_slotFire : let d : Dev := ((((({ Dev.reset with por := false, tk := { (default : TimeKeeper) with stime := 16000 } } : Dev)).setSys stRun).wr TKP_SLOTEN0 4#32).wr (TKP_SLOT_PER 2) 16000#32).at 0; let n : Fin 64 := 2; let upset : List (Fin 48) := []; let pads : List (Fin 48 × Int × Int) := []; (d.stopped = false) ∧ (d.slotFires n = true) ∧ ((d.deliveredNow.any (fun x => x.1 = 0 && x.2.2 = n.val)) = false) ∧ (n.val ≠ 63) := by decide +kernel

theorem witness_slotFire_supercycle : let d : Dev := ((((({ Dev.reset with por := false, tk := { (default : TimeKeeper) with stime := 16000 } } : Dev)).setSys stRun)).wr (TKP_SLOT_PER 63) 16000#32).at 0; let n : Fin 64 := 63; let upset : List (Fin 48) := []; let pads : List (Fin 48 × Int × Int) := []; (d.stopped = false) ∧ (d.slotFires n = true) ∧ ((d.deliveredNow.any (fun x => x.1 = 0 && x.2.2 = n.val)) = false) ∧ (n.val = 63) := by decide +kernel

theorem witness_flashProbe : let d : Dev := (({ Dev.reset with por := false, boot := { (default : Boot) with step := .probe } } : Dev)).at 0; let mode : Fin 3 := 2; (d.stopped = false) ∧ (d.boot.step = .probe) ∧ (d.boot.warned = false) ∧ (mode ≠ 0) := by decide +kernel

theorem witness_headerCheck_one : let d : Dev := (({ Dev.reset with por := false, boot := { (default : Boot) with step := .headers }, flash := testFlash, sec := testKeys } : Dev)).at 0; let okA : Bool := true; let okB : Bool := true; (d.stopped = false) ∧ (d.boot.step = .headers) ∧ (((d.readKeys okA okB).putTable d.sec.table).boot.warned = false) ∧ (((d.readKeys okA okB).putTable d.sec.table).slotGood 0 = true) ∧ (((d.readKeys okA okB).putTable d.sec.table).slotGood 1 = false) := by decide +kernel

theorem witness_bodyReadDone : let d : Dev := (({ Dev.reset with por := false, boot := { (default : Boot) with step := .body }, flash := testFlash, sec := testKeys } : Dev)).at 0; (d.stopped = false) ∧ (d.boot.step = .body) ∧ (d.boot.warned = false) ∧ (d.hashOk d.boot.candidate = true) := by decide +kernel

theorem witness_signatureVerify : let d : Dev := (({ Dev.reset with por := false, boot := { (default : Boot) with step := .signature }, flash := testFlash, sec := testKeys } : Dev)).at 0; let rs : List Rec := testRecs; (d.stopped = false) ∧ (d.boot.step = .signature) ∧ (d.boot.warned = false) ∧ (d.signed d.boot.candidate = true) ∧ ((d.slotRecs d.boot.candidate).toOption = some rs) ∧ (d.progReject rs = none) := by decide +kernel

theorem witness_firstPass : let d : Dev := (({ Dev.reset with por := false, boot := { (default : Boot) with step := .firstPass }, flash := testFlash, sec := testKeys } : Dev)).at 0; let rs : List Rec := testRecs; (d.stopped = false) ∧ (d.boot.step = .firstPass) ∧ (d.boot.warned = false) ∧ (d.firstPass d.boot.candidate = none) ∧ ((d.slotRecs d.boot.candidate).toOption = some rs) := by decide +kernel

theorem witness_secondPass : let d : Dev := (({ Dev.reset with por := false, boot := { (default : Boot) with step := .secondPass } } : Dev)).at 0; let side : Bool := true; let okA : Bool := true; let okB : Bool := true; (d.stopped = false) ∧ (d.boot.step = .secondPass) ∧ ((d.readCull okA okB).t0Culled < 2) ∧ ((((d.readCull okA okB).applyAll side).toStep .thirdPass).boot.warned = false) := by decide +kernel

theorem witness_thirdPass : let d : Dev := (({ Dev.reset with por := false, boot := { (default : Boot) with step := .thirdPass } } : Dev)).at 0; (d.stopped = false) ∧ (d.boot.step = .thirdPass) ∧ (d.applyBroken = false) ∧ (d.bootCandidate.markAll.boot.warned = false) := by decide +kernel

theorem witness_startCalibration : let d : Dev := (({ Dev.reset with por := false, boot := { (default : Boot) with step := .calibrate } } : Dev)).at 0; let fails : List (Nat × Nat × Nat) := []; (d.stopped = false) ∧ (d.boot.step = .calibrate) ∧ ((d.startCalibration fails).boot.warned = false) ∧ (fails = []) ∧ (d.calibrateAll.boot.step = .calibrate) := by decide +kernel

theorem witness_journalRecovery : let d : Dev := (({ Dev.reset with por := false, boot := { (default : Boot) with step := .journal } } : Dev)).at 0; let bad : List Nat := []; (d.stopped = false) ∧ (d.boot.step = .journal) ∧ (((d.jrnRecover bad).jrnReplay).boot.warned = false) := by decide +kernel

theorem witness_configLock : let d : Dev := (({ Dev.reset with por := false, boot := { (default : Boot) with step := .lock } } : Dev)).at 0; (d.stopped = false) ∧ (d.boot.step = .lock) ∧ (d.boot.warned = false) := by decide +kernel

theorem witness_startResume : let d : Dev := (({ Dev.reset with por := false, boot := { (default : Boot) with step := .paused } } : Dev)).at 0; (d.stopped = false) ∧ (d.boot.step = .paused) := by decide +kernel

theorem witness_run : let d : Dev := ((({ Dev.reset with por := false } : Dev)).setSys stReady).at 0; let triad : Fin 4 := 0; (d.stopped = false) ∧ (triad = 0) ∧ (d.sysState = stReady) := by decide +kernel

theorem witness_sysCtrlRestart : let d : Dev := (({ Dev.reset with por := false } : Dev)).at 0; let triad : Fin 4 := 0; let key : Nat := 0xA5; (d.stopped = false) ∧ (triad = 0) ∧ (key = 0xA5) ∧ (d.restartBar = none) := by decide +kernel

theorem witness_slotWriteCheck : let d : Dev := (({ Dev.reset with por := false, sec := { (default : Sec) with slotCheck := some 1 } } : Dev)).at 0; let s : Nat := 1; (d.stopped = false) ∧ (d.sec.slotCheck = some s) := by decide +kernel

theorem witness_journalCommit : let d : Dev := (({ Dev.reset with por := false, jrn := { (default : Jrn) with reqs := [{ (default : JReq) with kind := 2 }] } } : Dev)).at 0; let r : JReq := { (default : JReq) with kind := 2 }; let rest : List JReq := []; (d.stopped = false) ∧ (d.jrn.reqs = r :: rest) ∧ (d.paired = false) ∧ ((({ d with jrn := { d.jrn with reqs := rest } } : Dev).commitRecord r.kind r.que r.seq r.body false).paired = false) := by decide +kernel

theorem witness_jackReceived : let d : Dev := (((({ Dev.reset with por := false } : Dev)).setF LNK_CFG LNK_CFG_PAIRED 1).setF LNK_STAT LNK_STAT_LINKUP 1).at 0; let seq : Nat := 0; let jp : Nat := 5; (d.stopped = false) ∧ (d.paired = true) ∧ (d.linkUp = true) ∧ (seq = d.lnk.rxSeq) := by decide +kernel

theorem witness_jackTimeout : let d : Dev := (({ Dev.reset with por := false, tk := { (default : TimeKeeper) with stime := 16000000 }, jrn := { (default : Jrn) with unacked := [(default : JReq)] } } : Dev)).at 0; (d.stopped = false) ∧ (d.jrn.unacked.any (fun r => decide (d.fld LNK_CFG LNK_CFG_JTO * 10 * usTicks ≤ d.since r.sentAt)) = true) := by decide +kernel

/-! ### Thermal -/

theorem witness_chgStep : let d : Dev := (((({ Dev.reset with por := false } : Dev)).setF (CHG_CFG 1) CHG_CFG_EN 1).setSys stRun).at 0; let c : Fin 2 := 1; (d.stopped = false) ∧ (d.chgOn c = true) ∧ (d.inRun = true) ∧ ((d.chg c).stepJ ≠ d.msIndex) := by decide +kernel

theorem witness_chgStart : let d : Dev := (({ Dev.reset with por := false } : Dev)).at 0; let c : Fin 2 := 1; (d.stopped = false) ∧ (d.chgPhase c = cpIdle) := by decide +kernel

theorem witness_chgStop : let d : Dev := (({ Dev.reset with por := false } : Dev)).at 0; let c : Fin 2 := 1; (d.stopped = false) := by decide +kernel

theorem witness_chgAck : let d : Dev := ((({ Dev.reset with por := false, sec := { (default : Sec) with sessions := [{ (default : Session) with id := 7, role := 1 }] } } : Dev)).setF (CHG_STAT 1) CHG_STAT_PHASE cpFault).at 0; let sid : Nat := 7; let c : Fin 2 := 1; (d.stopped = false) ∧ (d.ackSession sid = true) ∧ (d.chgPhase c = cpFault) := by decide +kernel

theorem witness_handoverComplete : let d : Dev := ((({ Dev.reset with por := false, tk := { (default : TimeKeeper) with stime := 16000000000 } } : Dev)).setF (CHG_STAT 1) CHG_STAT_PHASE cpHandover).at 0; let c : Fin 2 := 1; (d.stopped = false) ∧ ((d.chg c).hoStages.isEmpty = false ∨ d.chgPhase c = cpHandover) ∧ (d.fld (CHG_TIMES c) CHG_TIMES_HOTIME * msTicks ≤ d.since (d.chg c).hoAt) := by decide +kernel

theorem witness_mpptUpdate : let d : Dev := (((({ Dev.reset with por := false } : Dev)).setF (CHG_CFG 1) CHG_CFG_EN 1).setF (CHG_STAT 1) CHG_STAT_SOLQ 1).at 0; let c : Fin 2 := 1; (d.stopped = false) ∧ (d.chgOn c = true) ∧ (d.isSet (CHG_STAT c) CHG_STAT_SOLQ = true) ∧ (fNearMul (d.rd (CHG_MPPTPER c)) msTicks ≤ (d.since (d.chg c).mpptAt : Nat)) := by decide +kernel

theorem witness_lampFault : let d : Dev := (({ Dev.reset with por := false } : Dev)).at 0; let c : Fin 2 := 1; let short : Bool := true; (d.stopped = false) ∧ (short = true) := by decide +kernel

theorem witness_lampFault_open : let d : Dev := (({ Dev.reset with por := false } : Dev)).at 0; let c : Fin 2 := 1; let short : Bool := false; (d.stopped = false) ∧ (short = false) := by decide +kernel

theorem witness_lampRetry : let d : Dev := (({ Dev.reset with por := false, chgs := [(1, { (default : Chg) with lampOff := some 0 })], tk := { (default : TimeKeeper) with stime := 16000000000 } } : Dev)).at 0; let c : Fin 2 := 1; let r : Time := 0; (d.stopped = false) ∧ ((d.chg c).lampOff = some r) ∧ (secTicks ≤ d.since r) := by decide +kernel

theorem witness_chgLampWrite : let d : Dev := (({ Dev.reset with por := false } : Dev)).at 0; let triad : Fin 4 := 0; let c : Fin 2 := 1; let v : W := 0x80000003; (d.stopped = false) ∧ (triad = 0) := by decide +kernel

theorem witness_chgLampWrite_locked : let d : Dev := (({ Dev.reset with por := false } : Dev)).at 0; let triad : Fin 4 := 1; let c : Fin 2 := 1; let v : W := 3; (d.stopped = false) ∧ (triad.val ≠ 0) := by decide +kernel

theorem witness_thmDieSample : let d : Dev := ((({ Dev.reset with por := false } : Dev)).setF TKP_STAT TKP_STAT_REF_OK 1).at 0; let rs : List (Option (Nat × Int)) := [some (800, 400)]; (d.por = false) ∧ (d.isSet TKP_STAT TKP_STAT_REF_OK = true) ∧ (d.dieDue = true) ∧ ((d.dieTake rs).isSet THM_STAT THM_STAT_SHUT = false) := by decide +kernel

theorem witness_thmDieSample_shut : let d : Dev := (((({ Dev.reset with por := false } : Dev)).setF TKP_STAT TKP_STAT_REF_OK 1).setF THM_STAT THM_STAT_SHUT 1).at 0; let rs : List (Option (Nat × Int)) := [some (800, 400)]; (d.por = false) ∧ (d.isSet TKP_STAT TKP_STAT_REF_OK = true) ∧ (d.dieDue = true) ∧ ((d.dieTake rs).isSet THM_STAT THM_STAT_SHUT = true) := by decide +kernel

theorem witness_thmNtcSample : let d : Dev := (((({ Dev.reset with por := false } : Dev)).setF TKP_STAT TKP_STAT_REF_OK 1).setF (THM_NTCCFG 3) THM_NTCCFG_EN 1).at 0; let n : Fin 24 := 3; let r : Option Int := none; (d.por = false) ∧ (d.isSet TKP_STAT TKP_STAT_REF_OK = true) ∧ (d.isSet (THM_NTCCFG n) THM_NTCCFG_EN = true) ∧ (d.ntcDue n = true) := by decide +kernel

theorem witness_kRise : let d : Dev := (({ Dev.reset with por := false, tk := { (default : TimeKeeper) with stime := 16000000 } } : Dev)).at 0; (d.stopped = false) ∧ (msTicks ≤ d.since d.thm.lastRise) := by decide +kernel

end Sys2Proof.Machine

end
end

section
/-! PROOFS. Register accesses that only record an event (chapter 00): the write of a CL register after configuration lock
(R12) and the access to an unassigned offset (R13). What recording an event leaves comes from `onlyEvent_evtC`. -/

namespace Sys2Proof.Machine

/-! ## Commands on a running module -/

/-- A command with an instant, on a module that runs: its effect acts on the device of that instant. -/
theorem runsTo_of_on {i : Instr} {s : State} {T : Time} {f : Dev → Dev} {Q : Dev → Prop} (hi : exec i s = s.on T f)
    (hs : (s.dev.at T).stopped = false) (hQ : Q (f (s.dev.at T))) : runsTo i s Q := by
  refine ⟨{ s with dev := f (s.dev.at T) }, ?_, rfl, hQ⟩
  rw [hi]
  simp [State.on, State.onAny, hs]

theorem exec_registerWrite (T : Time) (triad : Fin 4) (a : Nat) (v : W) (s : State) :
    exec (.registerWrite T triad a v) s = s.on T (fun d => d.registerWrite triad a v) := rfl

theorem exec_unmappedAccess (T : Time) (triad : Fin 4) (a : Nat) (write : Bool) (s : State) :
    exec (.unmappedAccess T triad a write) s = s.on T (fun d => d.unmappedAccess triad a write) := rfl

/-! ## The refused write of a CL register (R12) -/

theorem Dev.registerWrite_assigned (d : Dev) (t a : Nat) (v : W) (r : RegDesc) (hr : regDesc a = some r) :
    d.registerWrite t a v = d.storeReg t a v := by
  simp [Dev.registerWrite, hr]

theorem Dev.storeReg_locked (d : Dev) (t a : Nat) (v : W) (r : RegDesc) (hr : regDesc a = some r) (hc : r.acc = .cl)
    (hl : d.locked = true) : d.storeReg t a v = d.lockedWrite t a := by
  rw [← Dev.registerWrite_assigned d t a v r hr, Dev.registerWrite_locked d t a v r hr hc hl]

/-- Refusing a write keeps every register that recording an event does not write. -/
theorem Dev.rd_lockedWrite_cl (d : Dev) (t a : Nat) (r : RegDesc) (hr : regDesc a = some r) (hc : r.acc = .cl) :
    (d.lockedWrite t a).rd a = d.rd a :=
  (Dev.calm_lockedWrite t a d).2 a (isEvtReg_not_cl a r hr hc)

theorem onlyEvent_lockedWrite (d : Dev) (t a : Nat) :
    onlyEvent d (d.lockedWrite t a) clsWarning EV_SYS_LOCKED_WRITE t (le4 a ++ [t]) :=
  onlyEvent_evtC d _ _ _ _

/-- Settles O10: the store of a CL register after the lock is `lockedWrite`, which records its event and nothing else, and
no CL register is among those that recording an event writes. -/
theorem lockedWriteRefused : Obligations.LockedWriteRefused := by
  unfold Obligations.LockedWriteRefused
  intro S T triad a v r d hr hc hl
  have hkept : (d.lockedWrite triad a).rd a = d.rd a := Dev.rd_lockedWrite_cl d triad a r hr hc
  refine ⟨?_, fun hs => runsTo_of_on (exec_registerWrite T triad a v S) hs ?_⟩
  · rw [Dev.storeReg_locked d triad a v r hr hc hl]
    exact ⟨hkept, onlyEvent_lockedWrite d triad a⟩
  · rw [Dev.registerWrite_locked _ _ _ _ r hr hc hl]
    exact ⟨hkept, onlyEvent_lockedWrite d triad a⟩

/-! ## The access to an unassigned offset (R13) -/

theorem Dev.loadReg_unassigned (d : Dev) (t a : Nat) (hr : regDesc a = none) :
    d.loadReg t a = (0, d.unmapped t a false) := by
  simp [Dev.loadReg, hr]

theorem Dev.storeReg_unassigned (d : Dev) (t a : Nat) (v : W) (hr : regDesc a = none) :
    d.storeReg t a v = d.unmapped t a true := by
  simp [Dev.storeReg, hr]

theorem Dev.unmappedAccess_unassigned (d : Dev) (t a : Nat) (write : Bool) (ha : inPeriph a = true) (hr : regDesc a = none) :
    d.unmappedAccess t a write = d.unmapped t a write := by
  simp [Dev.unmappedAccess, ha, hr]

theorem onlyEvent_unmapped (d : Dev) (t a : Nat) (write : Bool) :
    onlyEvent d (d.unmapped t a write) clsWarning EV_SYS_UNMAPPED_ACCESS t (le4 a ++ [t, b2n write]) :=
  onlyEvent_evtC d _ _ _ _

/-- Settles O11: a load, a store and the command UNMAPPED_ACCESS of an unassigned offset are each `unmapped`, with the
direction of the access, and that records its event and nothing else. -/
theorem unassignedOffsets : Obligations.UnassignedOffsets := by
  unfold Obligations.UnassignedOffsets
  intro S T triad a v write d ha hr
  have hload : d.loadReg triad a = (0, d.unmapped triad a false) := Dev.loadReg_unassigned d triad a hr
  refine ⟨by rw [hload], ?_, ?_, fun hs => runsTo_of_on (exec_unmappedAccess T triad a write S) hs ?_⟩
  · rw [hload]
    exact onlyEvent_unmapped d triad a false
  · rw [Dev.storeReg_unassigned d triad a v hr]
    exact onlyEvent_unmapped d triad a true
  · rw [Dev.unmappedAccess_unassigned _ _ _ _ ha hr]
    exact onlyEvent_unmapped d triad a write

end Sys2Proof.Machine
end

section
/-! PROOFS. The readings of STIME and of the frame stamp (R32, R40) and the writes of the slot enables (R35, R37). A read of
TKP_STIME_LO sets the reader's key of the table of holding registers and a read of TKP_STIME_HI erases it, so R32 follows from
the laws of tables; a write of the slot enables by T0 changes one register and the instants before which slots do not fire. -/

namespace Sys2Proof.Machine

/-! ## Readings of STIME (R32) -/

/-- Taking out a key that is not listed changes nothing. -/
theorem Tab.erase_absent {α : Type} (t : Tab α) (k : Nat) (h : Tab.has t k = false) : Tab.erase k t = t := by
  induction t with
  | nil => rfl
  | cons p r ih =>
    simp only [Tab.has, List.any_cons, Bool.or_eq_false_iff, beq_eq_false_iff_ne] at h ih
    obtain ⟨hp, hr⟩ := h
    rw [Tab.erase, if_neg hp, ih hr]

/-- The live upper word of STIME. -/
def Dev.upperStime (d : Dev) : W := (d.now >>> 32).setWidth 32

theorem Dev.loadReg_stimeLo (d : Dev) (t : Nat) : d.loadReg t TKP_STIME_LO = d.readStimeLo t := rfl

theorem Dev.loadReg_stimeHi (d : Dev) (t : Nat) :
    d.loadReg t TKP_STIME_HI = (Tab.getD d.upperStime d.tk.hiLatch t, (d.readStimeHi t).2) := rfl

theorem Dev.readStimeLo_hiLatch (d : Dev) (t : Nat) :
    (d.readStimeLo t).2.tk.hiLatch = Tab.set t d.upperStime d.tk.hiLatch := rfl

theorem Dev.readStimeHi_hiLatch (d : Dev) (t : Nat) : (d.readStimeHi t).2.tk.hiLatch = Tab.erase t d.tk.hiLatch := by
  unfold Dev.readStimeHi
  split
  · rfl
  · next h => exact (Tab.erase_absent _ _ (by simpa using h)).symm

/-- Settles O13: the pair is coherent because time leaves the holding registers, and reads are set and erase at the key of
the reading triad. -/
theorem stimePairCoherent : Obligations.StimePairCoherent := by
  unfold Obligations.StimePairCoherent
  intro d e t t' T
  refine ⟨rfl, ?_, fun hempty => ?_, ?_, fun hne he => ?_⟩
  · rw [Dev.loadReg_stimeHi, Dev.at_hiLatch, Dev.loadReg_stimeLo, Dev.readStimeLo_hiLatch, Tab.getD_set_self]
    rfl
  · rw [Dev.loadReg_stimeHi, Tab.getD_none _ _ _ hempty]
    rfl
  · rw [Dev.loadReg_stimeHi, Dev.readStimeHi_hiLatch, Tab.has_erase_self]
  · have hkey : (t' : Nat) ≠ t := Fin.val_ne_of_ne hne
    rcases he with rfl | rfl
    · rw [Dev.loadReg_stimeLo, Dev.readStimeLo_hiLatch, Tab.has_set, Tab.getD_set_ne _ _ _ _ _ hkey]
      simp [hkey.symm]
    · rw [Dev.loadReg_stimeHi, Dev.readStimeHi_hiLatch, Tab.has_erase_ne _ _ _ hkey, Tab.getD_erase_ne _ _ _ _ hkey]
      exact ⟨rfl, rfl⟩

/-! ## The frame stamp (R40) -/

theorem Dev.loadReg_fstamp (d : Dev) (t : Nat) : d.loadReg t TKP_FSTAMP = (d.fstamp, d) := rfl

theorem Dev.fstamp_toNat (d : Dev) : d.fstamp.toNat = d.now.toNat / 400 % 2 ^ 32 :=
  BitVec.toNat_ofNat _ _

/-- Settles O14: the register shows the stamp of the present STIME. -/
theorem frameStampFromStime : Obligations.FrameStampFromStime := by
  unfold Obligations.FrameStampFromStime
  intro d triad
  rw [Dev.loadReg_fstamp]
  exact d.fstamp_toNat

/-! ## The slot enables (R35, R37) -/

/-- The register of the slot enables that a write concerns. -/
abbrev slotenReg (hi : Bool) : Nat := if hi then TKP_SLOTEN1 else TKP_SLOTEN0

/-- The slot of its bit 0. -/
abbrev slotenBase (hi : Bool) : Nat := if hi then 32 else 0

/-- The word that a write by T0 leaves in it: SLOT63 stays enabled in RUN (R35). -/
abbrev Dev.slotenWord (d : Dev) (hi : Bool) (v : W) : W := if hi && d.inRun then v.setBit 31 true else v

/-- Nothing has changed but the instants before which slots do not fire. -/
def onlyNotBefore (d e : Dev) : Prop := e = { d with tk := { d.tk with notBefore := e.tk.notBefore } }

theorem onlyNotBefore_refl (d : Dev) : onlyNotBefore d d := rfl

theorem onlyNotBefore_rd {d e : Dev} (h : onlyNotBefore d e) (a : Nat) : e.rd a = d.rd a := by
  rw [h, Dev.rd_mk]

theorem onlyNotBefore_delay {d e : Dev} (h : onlyNotBefore d e) (ts : Tab Time) :
    onlyNotBefore d { e with tk := { e.tk with notBefore := ts } } := by
  unfold onlyNotBefore
  rw [h]

theorem exec_slotenWrite (T : Time) (triad : Fin 4) (hi : Bool) (v : W) (s : State) :
    exec (.slotenWrite T triad hi v) s = s.on T (fun d => d.slotEnables triad hi v) := rfl

theorem Dev.slotEnables_other (d : Dev) (triad : Nat) (hi : Bool) (v : W) (h : triad ≠ 0) :
    d.slotEnables triad hi v = d.lockedWrite triad (slotenReg hi) := by
  simp [Dev.slotEnables, h]

/-- A write by T0 writes the register, and in RUN delays the slots that it enables. -/
theorem Dev.slotEnables_t0 (d : Dev) (hi : Bool) (v : W) :
    onlyNotBefore (d.wr (slotenReg hi) (d.slotenWord hi v)) (d.slotEnables 0 hi v) := by
  unfold Dev.slotEnables
  lift_lets
  intro r w old new written
  rw [if_neg (by decide)]
  split
  · exact onlyNotBefore_refl written
  · exact Dev.forEach_ind (onlyNotBefore written) _ new (fun _ _ _ h => onlyNotBefore_delay h _) written
      (onlyNotBefore_refl written)

theorem isEvtReg_slotenReg (hi : Bool) : isEvtReg (slotenReg hi) = false := by
  cases hi <;> decide

theorem Dev.slotEn_slotenReg (d : Dev) (hi : Bool) (i : Nat) (h : i < 32) :
    d.slotEn (slotenBase hi + i) = d.bit (slotenReg hi) i := by
  cases hi <;> simp [Dev.slotEn, slotenBase, slotenReg, h]

/-- Time changes no slot enable. -/
theorem Dev.bit_slotenReg_at (d : Dev) (T : Time) (hi : Bool) (i : Nat) :
    (d.at T).bit (slotenReg hi) i = d.bit (slotenReg hi) i := by
  cases hi <;> exact Dev.bit_at d T _ i (by decide) (by decide)

theorem Dev.slotFires_disabled (d : Dev) (n : Nat) (hn : n ≠ 63) (h : d.slotEn n = false) : d.slotFires n = false := by
  simp [Dev.slotFires, hn, h]

/-- Settles O15: the write of T1, T2 or T3 is a `lockedWrite`; that of T0 leaves its word in the register, which time keeps,
and a slot fires only while its bit there is set. -/
theorem slotEnablesByT0 : Obligations.SlotEnablesByT0 := by
  unfold Obligations.SlotEnablesByT0
  intro S T triad hi v d r w hs
  refine ⟨fun hother => runsTo_of_on (exec_slotenWrite T triad hi v S) hs ?_,
    fun h0 => runsTo_of_on (exec_slotenWrite T triad hi v S) hs ?_⟩
  · rw [Dev.slotEnables_other _ _ _ _ (Fin.val_ne_of_ne hother)]
    exact ⟨Dev.rd_lockedWrite d triad r r (isEvtReg_slotenReg hi), onlyEvent_lockedWrite d triad r⟩
  · subst h0
    have honly : onlyNotBefore (d.wr r w) (d.slotEnables 0 hi v) := Dev.slotEnables_t0 d hi v
    have hword : (d.slotEnables 0 hi v).rd r = w := by rw [onlyNotBefore_rd honly, Dev.rd_wr_self]
    refine ⟨hword, honly, fun i T' hi32 hoff h63 => Dev.slotFires_disabled _ _ h63 ?_⟩
    calc ((d.slotEnables 0 hi v).at T').slotEn (slotenBase hi + i)
        = ((d.slotEnables 0 hi v).at T').bit r i := Dev.slotEn_slotenReg _ hi i hi32
      _ = (d.slotEnables 0 hi v).bit r i := Dev.bit_slotenReg_at _ T' hi i
      _ = w.bit i := by rw [Dev.bit, hword]
      _ = false := hoff

end Sys2Proof.Machine
end

section
/-! PROOFS. Safe-state commands (R287, R293). Entering a safe state records 0x250A, marks RED_FNSTATE, then stops the drive;
the stop writes only registers of the drive units, so RED_FNSTATE and the event log are those of the first two parts. -/

namespace Sys2Proof.Machine

/-! ## What recording and the drive leave of RED_FNSTATE -/

theorem isEvtReg_fnstate (f : Fin 32) : isEvtReg (RED_FNSTATE f) = false :=
  (by decide : ∀ f : Fin 32, isEvtReg (RED_FNSTATE f) = false) f

theorem inDrive_fnstate (f : Nat) : inDrive (RED_FNSTATE f) = false := by
  simp only [inDrive, RED_FNSTATE, Bool.and_eq_false_iff, decide_eq_false_iff_not]
  omega

theorem record_congr {d e e' : Dev} (h : e'.log = e.log) : record d e' = record d e := by
  rw [record, h, record]

theorem Dev.quiet_units {as : Nat → Bool} {d e : Dev} (h : d.quiet as e) {f : Nat} (hu : FuncRec.units (d.funcD f)) :
    FuncRec.units (e.funcD f) := by
  obtain ⟨_, himg, _⟩ := h
  rwa [Dev.funcD, himg]

theorem Dev.quiet_when {as : Nat → Bool} (c : Bool) (op : Dev → Dev) (d : Dev) (h : d.quiet as (op d)) :
    d.quiet as (d.when c op) := by
  cases c
  · exact Dev.quiet_refl d
  · exact h

/-! ## The record 0x250A (R293) -/

theorem record_safeRecord (d : Dev) (f st cause : Nat) (applied : Bool) : record d (d.safeRecord f st cause applied) =
    eventRec d clsSafe EV_RED_SAFE_ENTER srcHw (le2 f ++ [st, b2n applied] ++ le2 cause) :=
  record_evtC d _ _ _ _

theorem Dev.fld_safeRecord (d : Dev) (f : Fin 32) (st cause : Nat) (applied : Bool) (g : Fld) :
    (d.safeRecord f st cause applied).fld (RED_FNSTATE f) g = d.fld (RED_FNSTATE f) g :=
  Dev.fld_evt d _ _ _ g (isEvtReg_fnstate f)

theorem Dev.funcD_safeRecord (d : Dev) (f st cause : Nat) (applied : Bool) :
    (d.safeRecord f st cause applied).funcD f = d.funcD f := by
  rw [Dev.funcD, Dev.safeRecord, Dev.evt_img, Dev.funcD]

/-! ## A safe state is entered -/

/-- The part of `Dev.enterSafe` that writes RED_FNSTATE and starts the brake time. -/
def Dev.markSafe (f st cause : Nat) (d : Dev) : Dev :=
  let r := RED_FNSTATE f
  let d := (((d.setF r RED_FNSTATE_SAFE 1).setF r RED_FNSTATE_STATE st).setF r RED_FNSTATE_CAUSE cause).setF r
    RED_FNSTATE_ENABLED 0
  let d := d.setF r RED_FNSTATE_BRKOFF 0
  let d := d.when (latchesEntry cause || latchesItself cause || d.isSet (RED_FNSAFE f) RED_FNSAFE_LATCHALL)
    (fun d => d.setF r RED_FNSTATE_LATCHED 1)
  { d with red := { d.red with brakeAt := Tab.set f d.now d.red.brakeAt } }

/-- The part of `Dev.enterSafe` that stops the cascades, units and legs of the function and reports its state. -/
def Dev.stopDrive (f cause : Nat) (d : Dev) : Dev :=
  let d := (d.stopCascades f).stopUnits f
  let d := d.when (!keepsPhase cause) (fun d => d.posIdle f)
  let d := d.forEach (d.fnLegs f) (fun n d => (d.modLeg n (fun l => { l with enSeq := none, armed := false })).legRefresh n)
  d.sendFn f

theorem Dev.enterSafe_eq (d : Dev) (f st cause : Nat) :
    d.enterSafe f st cause = ((d.safeRecord f st cause true).markSafe f st cause).stopDrive f cause := rfl

theorem Dev.markSafe_fnstate (d : Dev) (f st cause : Nat) (hst : st < 5) (hc : cause < 65536) :
    let e := d.markSafe f st cause
    e.fld (RED_FNSTATE f) RED_FNSTATE_SAFE = 1 ∧ e.fld (RED_FNSTATE f) RED_FNSTATE_STATE = st ∧
      e.fld (RED_FNSTATE f) RED_FNSTATE_CAUSE = cause ∧ e.fld (RED_FNSTATE f) RED_FNSTATE_ENABLED = 0 ∧
      e.log = d.log ∧ e.img = d.img := by
  intro e
  obtain ⟨hsafe, hstate, hcause, hen, hlog, himg⟩ := safe_head d (RED_FNSTATE f) st cause hst hc
  obtain ⟨hlog', himg', hfld⟩ := safe_tail _ (RED_FNSTATE f) _ e.red
  exact ⟨(hfld _ (by decide)).trans hsafe, (hfld _ (by decide)).trans hstate, (hfld _ (by decide)).trans hcause,
    (hfld _ (by decide)).trans hen, hlog'.trans hlog, himg'.trans himg⟩

theorem Dev.quiet_legStop (d : Dev) (n : Nat) (h : n < 48) (g : Leg → Leg) :
    d.quiet inDrive ((d.modLeg n g).legRefresh n) :=
  have hmod : d.quiet inDrive (d.modLeg n g) := ⟨rfl, rfl, fun _ _ => rfl⟩
  Dev.quiet_trans hmod (Dev.quiet_legRefresh _ n h)

theorem Dev.quiet_stopDrive (d : Dev) (f cause : Nat) (hu : FuncRec.units (d.funcD f)) :
    d.quiet inDrive (d.stopDrive f cause) := by
  unfold Dev.stopDrive
  lift_lets
  intro halted idle stopped
  have hcasc : d.quiet inDrive (d.stopCascades f) := Dev.quiet_stopCascades d f hu
  have hhalted : d.quiet inDrive halted :=
    Dev.quiet_trans hcasc (Dev.quiet_stopUnits _ f (Dev.quiet_units hcasc hu))
  have hidle : d.quiet inDrive idle :=
    Dev.quiet_trans hhalted (Dev.quiet_when _ _ _ (Dev.quiet_posIdle _ f (Dev.quiet_units hhalted hu)))
  obtain ⟨hlegs, _⟩ := Dev.quiet_units hidle hu
  have hstopped : d.quiet inDrive stopped :=
    Dev.quiet_trans hidle (Dev.quiet_forEach _ _ _ fun n hn x => Dev.quiet_legStop x n (hlegs n hn) _)
  exact Dev.quiet_trans hstopped (Dev.quiet_sendFn _ f)

/-- An entry: the state and cause asked for stand in RED_FNSTATE, and 0x250A says that they were applied (R287). -/
theorem Dev.enterSafe_applies (d : Dev) (f : Fin 32) (st : Fin 5) (cause : Fin 65536) (hu : FuncRec.units (d.funcD f)) :
    let e := d.enterSafe f st cause
    e.inSafe f = true ∧ e.fld (RED_FNSTATE f) RED_FNSTATE_STATE = st ∧ e.fld (RED_FNSTATE f) RED_FNSTATE_CAUSE = cause ∧
      e.enabled f = false ∧
      record d e = eventRec d clsSafe EV_RED_SAFE_ENTER srcHw (le2 f ++ [st.val, 1] ++ le2 cause) := by
  intro e
  let recorded := d.safeRecord f st cause true
  let marked := recorded.markSafe f st cause
  obtain ⟨hsafe, hstate, hcause, hen, hlog, himg⟩ : _ ∧ _ ∧ _ ∧ _ ∧ marked.log = recorded.log ∧ marked.img = recorded.img :=
    recorded.markSafe_fnstate f st cause st.isLt cause.isLt
  have hunits : FuncRec.units (marked.funcD f) := by
    rw [Dev.funcD, himg, ← Dev.funcD, Dev.funcD_safeRecord]
    exact hu
  have hquiet : marked.quiet inDrive e := Dev.quiet_stopDrive marked f cause hunits
  have hfld (g : Fld) : e.fld (RED_FNSTATE f) g = marked.fld (RED_FNSTATE f) g := Dev.quiet_fld hquiet _ g (inDrive_fnstate f)
  refine ⟨?_, (hfld _).trans hstate, (hfld _).trans hcause, ?_, ?_⟩
  · rw [Dev.inSafe, Dev.isSet, hfld, hsafe]
    rfl
  · rw [Dev.enabled, Dev.isSet, hfld, hen]
    rfl
  · rw [record_congr (hquiet.1.trans hlog)]
    exact record_safeRecord d f st cause true

/-! ## A command of another cause -/

/-- The last part of a command that is not applied: LATCHED for an event that latches by itself (R288). -/
def Dev.latchSelf (f cause : Nat) (d : Dev) : Dev :=
  d.when (latchesItself cause) (fun d => (d.setF (RED_FNSTATE f) RED_FNSTATE_LATCHED 1).sendFn f)

theorem Dev.latchSelf_log (d : Dev) (f cause : Nat) : (d.latchSelf f cause).log = d.log := by
  unfold Dev.latchSelf Dev.when
  split
  · exact (Dev.quiet_sendFn _ f).1
  · rfl

theorem Dev.latchSelf_fld (d : Dev) (f cause : Nat) (g : Fld) (hg : 30 ≤ g.lo ∨ g.lo + g.wd ≤ 29) :
    (d.latchSelf f cause).fld (RED_FNSTATE f) g = d.fld (RED_FNSTATE f) g := by
  unfold Dev.latchSelf Dev.when
  split
  · rw [Dev.quiet_fld (Dev.quiet_sendFn _ f) _ g (inDrive_fnstate f)]
    exact Dev.fld_setF_field d _ _ g 1 (by decide) hg
  · rfl

/-! ## The three cases of a command that is not a repeat -/

section
variable {d : Dev} {f st cause : Nat} (hf : (d.func f).isSome = true) (hp : Machine.permitted (d.funcD f).kind st = true)
include hf hp

theorem Dev.safeCommand_first (h : d.inSafe f = false) : d.safeCommand f st cause = d.enterSafe f st cause := by
  simp [Dev.safeCommand, hf, hp, h]

theorem Dev.safeCommand_sameCause (hc : d.fld (RED_FNSTATE f) RED_FNSTATE_CAUSE = cause)
    (hst : d.fld (RED_FNSTATE f) RED_FNSTATE_STATE ≠ st) : d.safeCommand f st cause = d.enterSafe f st cause := by
  simp [Dev.safeCommand, hf, hp, hc, hst]

theorem Dev.safeCommand_otherCause (h : d.inSafe f = true) (hc : d.fld (RED_FNSTATE f) RED_FNSTATE_CAUSE ≠ cause) :
    d.safeCommand f st cause = (d.safeRecord f st cause false).latchSelf f cause := by
  simp [Dev.safeCommand, Dev.latchSelf, hf, hp, h, hc]

end

/-- Settles O19: the first command and one of the same cause are entries (`enterSafe_applies`); one of another cause records
0x250A and can change only LATCHED. -/
theorem firstSafeStateDecides : Obligations.FirstSafeStateDecides := by
  unfold Obligations.FirstSafeStateDecides
  intro d f st cause e hf hp hu
  refine ⟨fun happlies => ?_, fun hsafe hother => ?_⟩
  · have he : e = d.enterSafe f st cause := by
      rcases happlies with hfirst | ⟨hsame, hnew⟩
      · exact Dev.safeCommand_first hf hp hfirst
      · exact Dev.safeCommand_sameCause hf hp hsame hnew
    rw [he]
    exact Dev.enterSafe_applies d f st cause hu
  · have he : e = (d.safeRecord f st cause false).latchSelf f cause :=
      Dev.safeCommand_otherCause hf hp hsafe hother
    have hfld (g : Fld) (hg : 30 ≤ g.lo ∨ g.lo + g.wd ≤ 29) : e.fld (RED_FNSTATE f) g = d.fld (RED_FNSTATE f) g := by
      rw [he, Dev.latchSelf_fld _ _ _ _ hg, Dev.fld_safeRecord]
    refine ⟨?_, hfld _ (by decide), hfld _ (by decide), ?_⟩
    · rwa [Dev.inSafe, Dev.isSet, hfld _ (by decide)]
    · rw [he, record_congr (Dev.latchSelf_log _ _ _)]
      exact record_safeRecord d f st cause false

end Sys2Proof.Machine
end

section
/-! PROOFS. The step and the queue (chapter 01), the idle tick, and the invariant: what a command keeps, `Dev.kept`, is at
instant 0 the soundness of the device, and one step is one command or one idle tick. -/

namespace Sys2Proof.Machine

/-! ## Steps and commands -/

theorem step_cons (c : Instr) (rest : List Instr) (d : Dev) : step ⟨c :: rest, d⟩ = exec c ⟨rest, d⟩ := rfl

theorem step_nil (d : Dev) : step ⟨[], d⟩ = .next ⟨[], d.idle⟩ := rfl

/-- Settles O1. -/
theorem stepRunsFrontCommand : Obligations.StepRunsFrontCommand := by
  unfold Obligations.StepRunsFrontCommand
  exact step_cons

/-- Settles O2. -/
theorem everyCommandAnswers : Obligations.EveryCommandAnswers := by
  unfold Obligations.EveryCommandAnswers
  exact exec_answers

theorem step_answers_cons (c : Instr) (rest : List Instr) (d : Dev) : ∃ e, step ⟨c :: rest, d⟩ = .next ⟨rest, e⟩ :=
  exec_answers c ⟨rest, d⟩

/-- Settles O4, by induction on the number of steps: each takes one command off the queue. -/
theorem commandsRunInOrder : Obligations.CommandsRunInOrder := by
  unfold Obligations.CommandsRunInOrder
  intro n
  induction n with
  | zero => exact fun S _ => ⟨S, rfl, rfl⟩
  | succ n ih =>
    rintro ⟨pending, d⟩ hn
    cases pending with
    | nil => exact absurd hn (Nat.not_succ_le_zero n)
    | cons c rest =>
      obtain ⟨e, he⟩ := step_answers_cons c rest d
      obtain ⟨u, hrun, hrest⟩ := ih ⟨rest, e⟩ (Nat.le_of_succ_le_succ hn)
      refine ⟨u, ?_, hrest⟩
      rw [run, he]
      exact hrun

/-! ## Soundness -/

/-- At instant 0 the bound on STIME that `kept` adds to soundness says nothing. -/
theorem Dev.kept_zero_iff (d : Dev) : d.kept 0 ↔ d.sound :=
  ⟨fun ⟨hmem, hroom, htabs, _⟩ => ⟨hmem, hroom, htabs⟩,
    fun ⟨hmem, hroom, htabs⟩ => ⟨hmem, hroom, htabs, .inr (Nat.zero_le _)⟩⟩

/-- Every command keeps it: `keeps_…` of the command. -/
theorem keeps_exec {c : Instr} {s u : State} (h : s.dev.kept 0) (hu : exec c s = .next u) : u.dev.kept 0 := by
  cases c with
  | registerWrite => exact keeps_registerWrite h hu
  | unmappedAccess => exact keeps_unmappedAccess h hu
  | refQualified => exact keeps_refQualified h hu
  | refQualTimeout => exact keeps_refQualTimeout h hu
  | refFail => exact keeps_refFail h hu
  | stimeLoRead => exact keeps_stimeLoRead h hu
  | slotFire => exact keeps_slotFire h hu
  | slotenWrite => exact keeps_slotenWrite h hu
  | vcoreScalingStart => exact keeps_vcoreScalingStart h hu
  | vcoreWindowEnd => exact keeps_vcoreWindowEnd h hu
  | rtcOscFail => exact keeps_rtcOscFail h hu
  | vbkupLoss => exact keeps_vbkupLoss h hu
  | rtcSetsecWrite => exact keeps_rtcSetsecWrite h hu
  | rtcLoad => exact keeps_rtcLoad h hu
  | rtcCapGo => exact keeps_rtcCapGo h hu
  | rtcCaptureDone => exact keeps_rtcCaptureDone h hu
  | rtcSubRead => exact keeps_rtcSubRead h hu
  | feedWired => exact keeps_feedWired h hu
  | feedsValid => exact keeps_feedsValid h hu
  | feedMissing => exact keeps_feedMissing h hu
  | porRelease => exact keeps_porRelease h hu
  | flashProbe => exact keeps_flashProbe h hu
  | headerCheck => exact keeps_headerCheck h hu
  | bodyReadDone => exact keeps_bodyReadDone h hu
  | signatureVerify => exact keeps_signatureVerify h hu
  | firstPass => exact keeps_firstPass h hu
  | secondPass => exact keeps_secondPass h hu
  | thirdPass => exact keeps_thirdPass h hu
  | startCalibration => exact keeps_startCalibration h hu
  | journalRecovery => exact keeps_journalRecovery h hu
  | configLock => exact keeps_configLock h hu
  | startResume => exact keeps_startResume h hu
  | run => exact keeps_run h hu
  | sysCtrlRestart => exact keeps_sysCtrlRestart h hu
  | slotWriteCheck => exact keeps_slotWriteCheck h hu
  | legParityError => exact keeps_legParityError h hu
  | legShaWrite => exact keeps_legShaWrite h hu
  | legShiftWrite => exact keeps_legShiftWrite h hu
  | lineCalDone => exact keeps_lineCalDone h hu
  | calAged => exact keeps_calAged h hu
  | lineAgeLimit => exact keeps_lineAgeLimit h hu
  | glPoll => exact keeps_glPoll h hu
  | glResponse => exact keeps_glResponse h hu
  | glNoack => exact keeps_glNoack h hu
  | glFaultPull => exact keeps_glFaultPull h hu
  | enableSequenceDone => exact keeps_enableSequenceDone h hu
  | glContention => exact keeps_glContention h hu
  | glRequest => exact keeps_glRequest h hu
  | adcSpareCalDone => exact keeps_adcSpareCalDone h hu
  | adcSwapCheck => exact keeps_adcSwapCheck h hu
  | swapDeferred => exact keeps_swapDeferred h hu
  | adcCalAged => exact keeps_adcCalAged h hu
  | adcSeqgoWrite => exact keeps_adcSeqgoWrite h hu
  | adcGroupStart => exact keeps_adcGroupStart h hu
  | adcConversionDone => exact keeps_adcConversionDone h hu
  | adcUrgreqWrite => exact keeps_adcUrgreqWrite h hu
  | adcUrgentStart => exact keeps_adcUrgentStart h hu
  | adcPowerDown => exact keeps_adcPowerDown h hu
  | adcWake => exact keeps_adcWake h hu
  | dsmWindowResult => exact keeps_dsmWindowResult h hu
  | dsmContOutput => exact keeps_dsmContOutput h hu
  | dsmFastOutput => exact keeps_dsmFastOutput h hu
  | dsmStuck => exact keeps_dsmStuck h hu
  | cmpTrip => exact keeps_cmpTrip h hu
  | cmpNormal => exact keeps_cmpNormal h hu
  | cmpTestTick => exact keeps_cmpTestTick h hu
  | cmpDacReread => exact keeps_cmpDacReread h hu
  | cmpDegradedRead => exact keeps_cmpDegradedRead h hu
  | tripInAssert => exact keeps_tripInAssert h hu
  | trpSwtripWrite => exact keeps_trpSwtripWrite h hu
  | trpRelWrite => exact keeps_trpRelWrite h hu
  | autoRelease => exact keeps_autoRelease h hu
  | cenGoWrite => exact keeps_cenGoWrite h hu
  | cenActivationStart => exact keeps_cenActivationStart h hu
  | cenAgreement => exact keeps_cenAgreement h hu
  | latentReexecution => exact keeps_latentReexecution h hu
  | cenRestartDone => exact keeps_cenRestartDone h hu
  | cenDeadlineMiss => exact keeps_cenDeadlineMiss h hu
  | cenSelftest => exact keeps_cenSelftest h hu
  | selftestDeferred => exact keeps_selftestDeferred h hu
  | axuForwardPass => exact keeps_axuForwardPass h hu
  | axuInverseStage => exact keeps_axuInverseStage h hu
  | measureDone => exact keeps_measureDone h hu
  | polarityTestDone => exact keeps_polarityTestDone h hu
  | reacquireAttempt => exact keeps_reacquireAttempt h hu
  | trackSecond => exact keeps_trackSecond h hu
  | hallEdge => exact keeps_hallEdge h hu
  | hallTimeout => exact keeps_hallTimeout h hu
  | sentFrame => exact keeps_sentFrame h hu
  | gioEdge => exact keeps_gioEdge h hu
  | cvuForwardPass => exact keeps_cvuForwardPass h hu
  | cvuInverseStage => exact keeps_cvuInverseStage h hu
  | cvuPhaseDecision => exact keeps_cvuPhaseDecision h hu
  | cvuCmPulseEnd => exact keeps_cvuCmPulseEnd h hu
  | gridLost => exact keeps_gridLost h hu
  | cvuUnpark => exact keeps_cvuUnpark h hu
  | chgStep => exact keeps_chgStep h hu
  | chgStart => exact keeps_chgStart h hu
  | chgStop => exact keeps_chgStop h hu
  | chgAck => exact keeps_chgAck h hu
  | handoverComplete => exact keeps_handoverComplete h hu
  | mpptUpdate => exact keeps_mpptUpdate h hu
  | lampFault => exact keeps_lampFault h hu
  | lampRetry => exact keeps_lampRetry h hu
  | chgLampWrite => exact keeps_chgLampWrite h hu
  | triadMinority => exact keeps_triadMinority h hu
  | triadResync => exact keeps_triadResync h hu
  | triadCheckpoint => exact keeps_triadCheckpoint h hu
  | triadRestart => exact keeps_triadRestart h hu
  | replayDone => exact keeps_replayDone h hu
  | gustDecay => exact keeps_gustDecay h hu
  | culletPersist => exact keeps_culletPersist h hu
  | fncmdEnter => exact keeps_fncmdEnter h hu
  | fncmdEnable => exact keeps_fncmdEnable h hu
  | fncmdDisable => exact keeps_fncmdDisable h hu
  | fncmdAck => exact keeps_fncmdAck h hu
  | fnreqEnable => exact keeps_fnreqEnable h hu
  | fnreqDisable => exact keeps_fnreqDisable h hu
  | fnreqSafe => exact keeps_fnreqSafe h hu
  | brakeTimeout => exact keeps_brakeTimeout h hu
  | t0Kick => exact keeps_t0Kick h hu
  | t0KickMissed => exact keeps_t0KickMissed h hu
  | wdgKick => exact keeps_wdgKick h hu
  | wdgMiss => exact keeps_wdgMiss h hu
  | safeqRead => exact keeps_safeqRead h hu
  | tokenWire => exact keeps_tokenWire h hu
  | peerTokenLost => exact keeps_peerTokenLost h hu
  | tokenRace => exact keeps_tokenRace h hu
  | hbSend => exact keeps_hbSend h hu
  | hbReceived => exact keeps_hbReceived h hu
  | linkAck => exact keeps_linkAck h hu
  | linkResend => exact keeps_linkResend h hu
  | linkTrained => exact keeps_linkTrained h hu
  | linkRetrain => exact keeps_linkRetrain h hu
  | laneDegraded => exact keeps_laneDegraded h hu
  | retrain => exact keeps_retrain h hu
  | helloReceived => exact keeps_helloReceived h hu
  | soloClaim => exact keeps_soloClaim h hu
  | fnstateReceived => exact keeps_fnstateReceived h hu
  | jrnReceived => exact keeps_jrnReceived h hu
  | jackReceived => exact keeps_jackReceived h hu
  | jackTimeout => exact keeps_jackTimeout h hu
  | mirReceived => exact keeps_mirReceived h hu
  | mirendReceived => exact keeps_mirendReceived h hu
  | mirrorApplied => exact keeps_mirrorApplied h hu
  | appliedReceived => exact keeps_appliedReceived h hu
  | releaseReceived => exact keeps_releaseReceived h hu
  | hbLoss => exact keeps_hbLoss h hu
  | yield => exact keeps_yield h hu
  | linkQueueFrame => exact keeps_linkQueueFrame h hu
  | busFrameReceived => exact keeps_busFrameReceived h hu
  | busTxStart => exact keeps_busTxStart h hu
  | arbitrationLost => exact keeps_arbitrationLost h hu
  | busTxComplete => exact keeps_busTxComplete h hu
  | busTxError => exact keeps_busTxError h hu
  | busRecovered => exact keeps_busRecovered h hu
  | busRecover => exact keeps_busRecover h hu
  | abdDwell => exact keeps_abdDwell h hu
  | queExpired => exact keeps_queExpired h hu
  | queCancel => exact keeps_queCancel h hu
  | queIndexWrite => exact keeps_queIndexWrite h hu
  | sigMaptx => exact keeps_sigMaptx h hu
  | publishRound => exact keeps_publishRound h hu
  | publishReceived => exact keeps_publishReceived h hu
  | commandReceived => exact keeps_commandReceived h hu
  | replyReceived => exact keeps_replyReceived h hu
  | replytoExpired => exact keeps_replytoExpired h hu
  | domainHeartbeat => exact keeps_domainHeartbeat h hu
  | heartbeatReceived => exact keeps_heartbeatReceived h hu
  | aggregateSend => exact keeps_aggregateSend h hu
  | aggregateReceived => exact keeps_aggregateReceived h hu
  | announceSend => exact keeps_announceSend h hu
  | announceReceived => exact keeps_announceReceived h hu
  | rootSilent => exact keeps_rootSilent h hu
  | journalCommit => exact keeps_journalCommit h hu
  | eventTaken => exact keeps_eventTaken h hu
  | corTimerFire => exact keeps_corTimerFire h hu
  | corSwev => exact keeps_corSwev h hu
  | awaitWake => exact keeps_awaitWake h hu
  | assuredQueueComplete => exact keeps_assuredQueueComplete h hu
  | syncComplete => exact keeps_syncComplete h hu
  | add => exact keeps_add h hu
  | sub => exact keeps_sub h hu
  | and_ => exact keeps_and h hu
  | or_ => exact keeps_or h hu
  | xor_ => exact keeps_xor h hu
  | shl => exact keeps_shl h hu
  | shr => exact keeps_shr h hu
  | sar => exact keeps_sar h hu
  | rot => exact keeps_rot h hu
  | slt => exact keeps_slt h hu
  | sltu => exact keeps_sltu h hu
  | mul => exact keeps_mul h hu
  | mulh => exact keeps_mulh h hu
  | mulhu => exact keeps_mulhu h hu
  | div => exact keeps_div h hu
  | divu => exact keeps_divu h hu
  | rem => exact keeps_rem h hu
  | remu => exact keeps_remu h hu
  | addi => exact keeps_addi h hu
  | andi => exact keeps_andi h hu
  | ori => exact keeps_ori h hu
  | xori => exact keeps_xori h hu
  | shli => exact keeps_shli h hu
  | shri => exact keeps_shri h hu
  | sari => exact keeps_sari h hu
  | slti => exact keeps_slti h hu
  | sltiu => exact keeps_sltiu h hu
  | lui => exact keeps_lui h hu
  | ldb => exact keeps_ldb h hu
  | ldbu => exact keeps_ldbu h hu
  | ldh => exact keeps_ldh h hu
  | ldhu => exact keeps_ldhu h hu
  | ldw => exact keeps_ldw h hu
  | stb => exact keeps_stb h hu
  | sth => exact keeps_sth h hu
  | stw => exact keeps_stw h hu
  | flw => exact keeps_flw h hu
  | fsw => exact keeps_fsw h hu
  | swapw => exact keeps_swapw h hu
  | addw => exact keeps_addw h hu
  | beq => exact keeps_beq h hu
  | bne => exact keeps_bne h hu
  | blt => exact keeps_blt h hu
  | bge => exact keeps_bge h hu
  | bltu => exact keeps_bltu h hu
  | bgeu => exact keeps_bgeu h hu
  | j => exact keeps_j h hu
  | jal => exact keeps_jal h hu
  | jalr => exact keeps_jalr h hu
  | fadd => exact keeps_fadd h hu
  | fsub => exact keeps_fsub h hu
  | fmul => exact keeps_fmul h hu
  | fdiv => exact keeps_fdiv h hu
  | fsqrt => exact keeps_fsqrt h hu
  | fmin => exact keeps_fmin h hu
  | fmax => exact keeps_fmax h hu
  | feq => exact keeps_feq h hu
  | flt => exact keeps_flt h hu
  | fle => exact keeps_fle h hu
  | fcvtws => exact keeps_fcvtws h hu
  | fcvtsw => exact keeps_fcvtsw h hu
  | fmvws => exact keeps_fmvws h hu
  | fmvsw => exact keeps_fmvsw h hu
  | fabs => exact keeps_fabs h hu
  | fneg => exact keeps_fneg h hu
  | trap => exact keeps_trap h hu
  | rete => exact keeps_rete h hu
  | mfsr => exact keeps_mfsr h hu
  | mtsr => exact keeps_mtsr h hu
  | sigrd => exact keeps_sigrd h hu
  | sigwr => exact keeps_sigwr h hu
  | qpost => exact keeps_qpost h hu
  | qtake => exact keeps_qtake h hu
  | await => exact keeps_await h hu
  | ckpt => exact keeps_ckpt h hu
  | sync => exact keeps_sync h hu
  | thmDieSample => exact keeps_thmDieSample h hu
  | thmNtcSample => exact keeps_thmNtcSample h hu
  | kRise => exact keeps_kRise h hu
  | marverRound => exact keeps_marverRound h hu
  | marverLate => exact keeps_marverLate h hu
  | scrubCorrection => exact keeps_scrubCorrection h hu
  | memUncorrectable => exact keeps_memUncorrectable h hu
  | wearCheck => exact keeps_wearCheck h hu
  | bkgReqAdcCal => exact keeps_bkgReqAdcCal h hu
  | bkgReqCmpCheck => exact keeps_bkgReqCmpCheck h hu
  | bkgReqPadCheck => exact keeps_bkgReqPadCheck h hu
  | bkgReqCenSelftest => exact keeps_bkgReqCenSelftest h hu
  | bkgReqCoreSelftest => exact keeps_bkgReqCoreSelftest h hu
  | bkgReqScrub => exact keeps_bkgReqScrub h hu
  | bkgReqMarver => exact keeps_bkgReqMarver h hu
  | bkgReqDeferred => exact keeps_bkgReqDeferred h hu
  | coreSelftestPeriodic => exact keeps_coreSelftestPeriodic h hu
  | coreSelftestDone => exact keeps_coreSelftestDone h hu
  | telemetryPost => exact keeps_telemetryPost h hu
  | open_ => exact keeps_open h hu
  | prove => exact keeps_prove h hu
  | proveTimeout => exact keeps_proveTimeout h hu
  | makerFirst => exact keeps_makerFirst h hu
  | read => exact keeps_read h hu
  | readAudit => exact keeps_readAudit h hu
  | setLimit => exact keeps_setLimit h hu
  | setBound => exact keeps_setBound h hu
  | calWrite => exact keeps_calWrite h hu
  | resetLimits => exact keeps_resetLimits h hu
  | ack => exact keeps_ack h hu
  | setRtc => exact keeps_setRtc h hu
  | slotBegin => exact keeps_slotBegin h hu
  | slotData => exact keeps_slotData h hu
  | slotEnd => exact keeps_slotEnd h hu
  | restart => exact keeps_restart h hu
  | keyInstall => exact keeps_keyInstall h hu
  | keyRevoke => exact keeps_keyRevoke h hu
  | gustClear => exact keeps_gustClear h hu
  | cullClear => exact keeps_cullClear h hu
  | lockoutClear => exact keeps_lockoutClear h hu
  | factest => exact keeps_factest h hu
  | close => exact keeps_close h hu
  | sessionIdleTimeout => exact keeps_sessionIdleTimeout h hu
  | lockoutExpire => exact keeps_lockoutExpire h hu
  | supWarning => exact keeps_supWarning h hu
  | supRecoveryStart => exact keeps_supRecoveryStart h hu
  | supRecoveryAbort => exact keeps_supRecoveryAbort h hu
  | supRecovered => exact keeps_supRecovered h hu
  | feedLost => exact keeps_feedLost h hu
  | feedReturn => exact keeps_feedReturn h hu
  | overvoltage => exact keeps_overvoltage h hu
  | ovReconnect => exact keeps_ovReconnect h hu
  | porAssert => exact keeps_porAssert h hu
  | railFault => exact keeps_railFault h hu
  | vbkupMeasure => exact keeps_vbkupMeasure h hu
  | faultPullEnd => exact keeps_faultPullEnd h hu
  | tripInDeassert => exact keeps_tripInDeassert h hu
  | busRxError => exact keeps_busRxError h hu
  | busIntegrationDone => exact keeps_busIntegrationDone h hu
  | peerTokenSeen => exact keeps_peerTokenSeen h hu
  | stormClear => exact keeps_stormClear h hu
  | undefinedEncoding => exact keeps_undefinedEncoding h hu

/-- Settles O5: a step is an idle tick or the command in front. -/
theorem everyStepKeepsSound : Obligations.EveryStepKeepsSound := by
  unfold Obligations.EveryStepKeepsSound
  rintro ⟨pending, d⟩ hsound
  have hkept : d.kept 0 := d.kept_zero_iff.2 hsound
  cases pending with
  | nil => exact ⟨⟨[], d.idle⟩, step_nil d, (Dev.kept_zero_iff _).1 (Dev.kept_idle hkept)⟩
  | cons c rest =>
    obtain ⟨e, he⟩ := exec_answers c ⟨rest, d⟩
    exact ⟨⟨rest, e⟩, he, (Dev.kept_zero_iff _).1 (keeps_exec (s := ⟨rest, d⟩) hkept he)⟩

theorem cullOk_nil : cullOk [] := ⟨Nat.zero_le _, List.nodup_nil⟩

/-- Settles O6. -/
theorem resetIsSound : Obligations.ResetIsSound := by
  unfold Obligations.ResetIsSound
  have hroom : State.reset.dev.roomOk :=
    ⟨Nat.zero_le _, cullOk_nil, cullOk_nil, cullOk_nil, Nat.zero_le _, Nat.zero_le _⟩
  have htabs : State.reset.dev.tabsOk := ⟨rfl, rfl, fun p hp => absurd hp List.not_mem_nil⟩
  exact ⟨⟨reset_memories, hroom, htabs⟩, rfl, rfl, rfl, rfl, rfl, rfl⟩

/-! ## w0 -/

/-- Settles O25. -/
theorem registerZeroReadsZero : Obligations.RegisterZeroReadsZero := by
  unfold Obligations.RegisterZeroReadsZero
  intro c r x v
  rw [Core.getW_setW c r x v x.isLt]
  by_cases h0 : x = 0
  · subst h0
    simp [Core.getW]
  · have hne : (x : Nat) ≠ 0 := fun h => h0 (Fin.ext h)
    by_cases hr : x = r
    · subst hr
      simp [h0, hne]
    · have hne' : (x : Nat) ≠ r := Fin.val_ne_of_ne hr
      simp [h0, hr, hne']

/-! ## The idle tick -/

theorem Dev.tk_foldl {α : Type} (g : Dev → α → Dev) (hg : ∀ d a, (g d a).tk = d.tk) (xs : List α) (d : Dev) :
    (xs.foldl g d).tk = d.tk := by
  induction xs generalizing d with
  | nil => rfl
  | cons x r ih => rw [List.foldl_cons, ih, hg]

theorem Dev.forEach_tk (xs : List Nat) (op : Nat → Dev → Dev) (hop : ∀ n d, (op n d).tk = d.tk) (d : Dev) :
    (d.forEach xs op).tk = d.tk :=
  Dev.tk_foldl _ (fun d n => hop n d) xs d

theorem Dev.reqServed_tk (d : Dev) (kind target : Nat) (pass : Bool) : (d.reqServed kind target pass).tk = d.tk := by
  refine Dev.forEach_tk _ _ (fun t d => ?_) d
  unfold Dev.when
  split <;> rfl

theorem Dev.scrubTick_tk (d : Dev) : d.scrubTick.tk = d.tk := by
  unfold Dev.scrubTick
  split
  · rfl
  · refine Dev.forEach_tk _ _ (fun m d => ?_) _
    exact Dev.reqServed_tk _ 6 m true

/-- Scrub passes end only in RUN, and not while background work is paused. -/
theorem Dev.scrubTick_idle (d : Dev) (h : d.inRun = false ∨ d.paused = true) : d.scrubTick = d := by
  unfold Dev.scrubTick
  rcases h with h | h <;> simp [h]

theorem Dev.fld_at (d : Dev) (T : Time) (a : Nat) (f : Fld) (h : a ≠ RTC_SEC) (h' : a ≠ RTC_SUB) :
    (d.at T).fld a f = d.fld a f := by
  rw [Dev.fld, Dev.rd_at d T a h h', Dev.fld]

theorem Dev.isSet_at (d : Dev) (T : Time) (a : Nat) (f : Fld) (h : a ≠ RTC_SEC) (h' : a ≠ RTC_SUB) :
    (d.at T).isSet a f = d.isSet a f := by
  rw [Dev.isSet, Dev.fld_at d T a f h h', Dev.isSet]

theorem Dev.inRun_at (d : Dev) (T : Time) : (d.at T).inRun = d.inRun := by
  unfold Dev.inRun Dev.sysState
  rw [Dev.fld_at d T _ _ (by decide) (by decide)]

theorem Dev.paused_at (d : Dev) (T : Time) : (d.at T).paused = d.paused := by
  unfold Dev.paused
  rw [Dev.isSet_at d T _ _ (by decide) (by decide), Dev.isSet_at d T _ _ (by decide) (by decide)]

theorem Dev.at_now (d : Dev) (T : Time) (hpor : d.por = false) (h : d.now.toNat < T.toNat) : (d.at T).now = T := by
  unfold Dev.at
  rw [if_neg (by simp only [hpor, Bool.false_eq_true, false_or, not_le]; exact h)]
  rfl

/-- Settles O3: the passing of time keeps the operating state, and the scrub tick keeps STIME. -/
theorem emptyQueueIdles : Obligations.EmptyQueueIdles := by
  unfold Obligations.EmptyQueueIdles
  intro d
  refine ⟨step_nil d, fun hpor hwrap => ?_, fun hquiet => ?_⟩
  · have hnext : (d.now + 1).toNat = d.now.toNat + 1 := by
      rw [BitVec.toNat_add]
      exact Nat.mod_eq_of_lt hwrap
    calc d.idle.now = (d.at (d.now + 1)).now := congrArg TimeKeeper.stime (Dev.scrubTick_tk _)
      _ = d.now + 1 := Dev.at_now d _ hpor (by omega)
  · refine Dev.scrubTick_idle _ ?_
    rwa [Dev.inRun_at, Dev.paused_at]

end Sys2Proof.Machine
end

section
/-! PROOFS. The completion statements of the time keeper, the calendar and the supply (chapters 02 and 20). Each clause is one
command in one case of its rule: the lemma `does_…` of the command says what its effect does to a device that meets the
hypotheses of the clause, and the lemmas `runsTo_of_…` take that to the command, on the device of its instant. -/

namespace Sys2Proof.Machine

/-! ## From the effect of a command to the command -/

/-- A command with an instant that acts in a stopped module too. -/
theorem runsTo_of_onAny {i : Instr} {s : State} {T : Time} {f : Dev → Dev} {Q : Dev → Prop} (hi : exec i s = s.onAny T f)
    (hQ : Q (f (s.dev.at T))) : runsTo i s Q :=
  ⟨{ s with dev := f (s.dev.at T) }, hi, rfl, hQ⟩

/-- A core instruction: its effect acts on the present device. -/
theorem runsTo_of_onNow {i : Instr} {s : State} {f : Dev → Dev} {Q : Dev → Prop} (hi : exec i s = s.onNow f)
    (hQ : Q (f s.dev)) : runsTo i s Q :=
  ⟨{ s with dev := f s.dev }, hi, rfl, hQ⟩

/-! ## The statements -/

/-- Settles O29: REF, STIME, the slot enables and VCORE. -/
theorem timeKeeperCommandsComplete : Obligations.TimeKeeperCommandsComplete := by
  unfold Obligations.TimeKeeperCommandsComplete
  exact ⟨
    fun S T dev hs h0 h1 h2 => runsTo_of_on rfl hs (does_refQualified (S.dev.at T) dev h0 h1 h2),
    fun S T dev hs h0 h1 h2 => runsTo_of_on rfl hs (does_refQualTimeout (S.dev.at T) dev h0 h1 h2),
    fun S T noEdge dev hs h0 h1 => runsTo_of_on rfl hs (does_refFail (S.dev.at T) noEdge dev h0 h1),
    fun S T triad hs => runsTo_of_on (f := fun d => (d.readStimeLo triad).2) rfl hs (does_stimeLoRead (S.dev.at T) triad),
    fun S T triad hi v hs h0 h1 => runsTo_of_on rfl hs (does_slotenWrite (S.dev.at T) triad hi v h0 h1),
    fun S T r hs h0 h1 h2 => runsTo_of_on rfl hs (does_vcoreScalingStart (S.dev.at T) r h0 h1 h2),
    fun S T hs h0 h1 h2 h3 h4 h5 h6 => runsTo_of_on rfl hs (does_vcoreWindowEnd (S.dev.at T) h0 h1 h2 h3 h4 h5 h6)⟩

/-- Settles O30: the calendar, its load and its capture. -/
theorem calendarCommandsComplete : Obligations.CalendarCommandsComplete := by
  unfold Obligations.CalendarCommandsComplete
  exact ⟨
    fun S T h0 h1 => runsTo_of_onAny (f := fun d => if d.por then d else d.rtcOscFail) rfl (does_rtcOscFail (S.dev.at T) h0 h1),
    fun S T h0 => runsTo_of_onAny rfl (does_vbkupLoss (S.dev.at T) h0),
    fun S T sid v audits x hs h0 h1 => runsTo_of_on rfl hs (does_rtcSetsecWrite (S.dev.at T) sid v audits x h0 h1),
    fun S T h0 h1 h2 => runsTo_of_onAny (f := fun d => if d.por then d else d.rtcLoad) rfl (does_rtcLoad (S.dev.at T) h0 h1 h2),
    fun S T v hs h0 h1 => runsTo_of_on rfl hs (does_rtcCapGo (S.dev.at T) v h0 h1),
    fun S T edge h0 h1 =>
      runsTo_of_onAny (f := fun d => if d.por then d else d.rtcCapDone edge) rfl (does_rtcCaptureDone (S.dev.at T) edge h0 h1),
    fun S T triad hs => runsTo_of_on (f := fun d => (d.readRtcSub triad).2) rfl hs (does_rtcSubRead (S.dev.at T) triad)⟩

/-- Settles O31: the feeds, the rails and power-on reset. -/
theorem supplyCommandsComplete : Obligations.SupplyCommandsComplete := by
  unfold Obligations.SupplyCommandsComplete
  exact ⟨
    fun S T f va vb h0 h1 h2 => runsTo_of_onAny rfl (does_feedWired (S.dev.at T) f va vb h0 h1 h2),
    fun S T va vb h0 h1 h2 => runsTo_of_onAny rfl (does_feedsValid (S.dev.at T) va vb h0 h1 h2),
    fun S T f va vb h0 h1 h2 h3 => runsTo_of_onAny rfl (does_feedMissing (S.dev.at T) f va vb h0 h1 h2 h3),
    fun S T va vb h0 h1 => runsTo_of_onAny rfl (does_porAssert (S.dev.at T) va vb h0 h1),
    fun S T r h0 => runsTo_of_onAny rfl (does_railFault (S.dev.at T) r h0),
    fun S T va vb h0 h1 h2 =>
      runsTo_of_onAny (f := fun d => if d.por then d else d.supWarning va vb) rfl (does_supWarning (S.dev.at T) va vb h0 h1 h2),
    fun S T va vb h0 h1 h2 h3 =>
      runsTo_of_onAny (f := fun d => if d.por then d else d.supWarning va vb) rfl
        (does_supWarning_run (S.dev.at T) va vb h0 h1 h2 h3),
    fun S T va vb h0 h1 h2 h3 =>
      runsTo_of_onAny (f := fun d => if d.por then d else d.recoveryStart va vb) rfl
        (does_supRecoveryStart (S.dev.at T) va vb h0 h1 h2 h3),
    fun S T va vb h0 h1 h2 =>
      runsTo_of_onAny (f := fun d => if d.por then d else d.recoveryAbort va vb) rfl
        (does_supRecoveryAbort (S.dev.at T) va vb h0 h1 h2),
    fun S T va vb h0 h1 h2 =>
      runsTo_of_onAny (f := fun d => if d.por then d else d.recovered va vb) rfl (does_supRecovered (S.dev.at T) va vb h0 h1 h2),
    fun S T f va vb h0 h1 h2 h3 =>
      runsTo_of_onAny (f := fun d => if d.por then d else d.feedLost f va vb) rfl
        (does_feedLost (S.dev.at T) f va vb h0 h1 h2 h3),
    fun S T f va vb h0 h1 h2 =>
      runsTo_of_onAny (f := fun d => if d.por then d else d.feedReturn f va vb) rfl
        (does_feedReturn (S.dev.at T) f va vb h0 h1 h2),
    fun S T f va vb h0 h1 h2 =>
      runsTo_of_onAny (f := fun d => if d.por then d else d.overvoltage f va vb) rfl
        (does_overvoltage (S.dev.at T) f va vb h0 h1 h2),
    fun S T f va vb h0 h1 h2 =>
      runsTo_of_onAny (f := fun d => if d.por then d else d.ovReconnect f va vb) rfl
        (does_ovReconnect (S.dev.at T) f va vb h0 h1 h2),
    fun S T mv h0 h1 =>
      runsTo_of_onAny (f := fun d => if d.por then d else d.vbkupMeasure mv) rfl (does_vbkupMeasure (S.dev.at T) mv h0 h1),
    fun S T h0 h1 h2 =>
      runsTo_of_onAny (f := fun d => if d.por then d else d.stormClear) rfl (does_stormClear (S.dev.at T) h0 h1 h2),
    fun S T cycles va vb h0 h1 h2 => runsTo_of_onAny rfl (does_porRelease (S.dev.at T) cycles va vb h0 h1 h2)⟩

end Sys2Proof.Machine
end

section
/-! PROOFS. The completion statements of register accesses, slots, the journal and the start-up (chapters 00, 02, 03 and 15). -/

namespace Sys2Proof.Machine

/-- Settles O32: three kinds of register write, an unmapped access, the slots and the journal. -/
theorem registerSlotJournalCommandsComplete : Obligations.RegisterSlotJournalCommandsComplete := by
  unfold Obligations.RegisterSlotJournalCommandsComplete
  exact ⟨
    fun S T triad a v r hs h0 h1 h2 h3 h4 h5 =>
      runsTo_of_on rfl hs (does_registerWrite (S.dev.at T) triad a v r h0 h1 h2 h3 h4 h5),
    fun S T triad a v r hs h0 h1 h2 => runsTo_of_on rfl hs (does_registerWrite_locked (S.dev.at T) triad a v r h0 h1 h2),
    fun S T triad a v r hs h0 h1 h2 h3 h4 h5 =>
      runsTo_of_on rfl hs (does_registerWrite_clear (S.dev.at T) triad a v r h0 h1 h2 h3 h4 h5),
    fun S T triad a write hs h0 h1 => runsTo_of_on rfl hs (does_unmappedAccess (S.dev.at T) triad a write h0 h1),
    fun S T n upset pads hs h0 h1 h2 => runsTo_of_on rfl hs (does_slotFire (S.dev.at T) n upset pads h0 h1 h2),
    fun S T n upset pads hs h0 h1 h2 => runsTo_of_on rfl hs (does_slotFire_supercycle (S.dev.at T) n upset pads h0 h1 h2),
    fun S T r rest hs h0 h1 h2 => runsTo_of_on rfl hs (does_journalCommit (S.dev.at T) r rest h0 h1 h2),
    fun S T seq jp hs h0 h1 h2 => runsTo_of_on rfl hs (does_jackReceived (S.dev.at T) seq jp h0 h1 h2),
    fun S T hs h0 => runsTo_of_on rfl hs (does_jackTimeout (S.dev.at T) h0)⟩

/-- Settles O33: one step of the start-up after the other, RUN and RESTART. -/
theorem startUpCommandsComplete : Obligations.StartUpCommandsComplete := by
  unfold Obligations.StartUpCommandsComplete
  exact ⟨
    fun S T mode hs h0 h1 h2 => runsTo_of_on rfl hs (does_flashProbe (S.dev.at T) mode h0 h1 h2),
    fun S T okA okB hs h0 h1 h2 h3 => runsTo_of_on rfl hs (does_headerCheck_one (S.dev.at T) okA okB h0 h1 h2 h3),
    fun S T hs h0 h1 h2 => runsTo_of_on rfl hs (does_bodyReadDone (S.dev.at T) h0 h1 h2),
    fun S T rs hs h0 h1 h2 h3 h4 => runsTo_of_on rfl hs (does_signatureVerify (S.dev.at T) rs h0 h1 h2 h3 h4),
    fun S T rs hs h0 h1 h2 h3 => runsTo_of_on rfl hs (does_firstPass (S.dev.at T) rs h0 h1 h2 h3),
    fun S T side okA okB hs h0 h1 h2 => runsTo_of_on rfl hs (does_secondPass (S.dev.at T) side okA okB h0 h1 h2),
    fun S T hs h0 h1 h2 => runsTo_of_on rfl hs (does_thirdPass (S.dev.at T) h0 h1 h2),
    fun S T fails hs h0 h1 h2 h3 => runsTo_of_on rfl hs (does_startCalibration (S.dev.at T) fails h0 h1 h2 h3),
    fun S T bad hs h0 h1 => runsTo_of_on rfl hs (does_journalRecovery (S.dev.at T) bad h0 h1),
    fun S T hs h0 h1 => runsTo_of_on rfl hs (does_configLock (S.dev.at T) h0 h1),
    fun S T hs h0 => runsTo_of_on rfl hs (does_startResume (S.dev.at T) h0),
    fun S T triad hs h0 h1 => runsTo_of_on rfl hs (does_run (S.dev.at T) triad h0 h1),
    fun S T triad key hs h0 h1 h2 => runsTo_of_on rfl hs (does_sysCtrlRestart (S.dev.at T) triad key h0 h1 h2),
    fun S T s hs h0 => runsTo_of_on rfl hs (does_slotWriteCheck (S.dev.at T) s h0)⟩

end Sys2Proof.Machine
end

section
/-! PROOFS. The completion statements of the legs, acquisition, the trip matrix, the engines and the units (chapters 04 to 10). -/

namespace Sys2Proof.Machine

/-- Settles O34: the legs and the gate link. -/
theorem legCommandsComplete : Obligations.LegCommandsComplete := by
  unfold Obligations.LegCommandsComplete
  exact ⟨
    fun S T n hs h0 => runsTo_of_on rfl hs (does_legParityError (S.dev.at T) n h0),
    fun S T triad n b v hs h0 => runsTo_of_on rfl hs (does_legShaWrite (S.dev.at T) triad n b v h0),
    fun S T triad n b v hs h0 => runsTo_of_on rfl hs (does_legShaWrite_closed (S.dev.at T) triad n b v h0),
    fun S T triad n v hs h0 => runsTo_of_on rfl hs (does_legShiftWrite (S.dev.at T) triad n v h0),
    fun S T n gl resid mono span hs h0 h1 h2 h3 h4 h5 =>
      runsTo_of_on rfl hs (does_lineCalDone (S.dev.at T) n gl resid mono span h0 h1 h2 h3 h4 h5),
    fun S T n gl resid mono span hs h0 h1 =>
      runsTo_of_on rfl hs (does_lineCalDone_fails (S.dev.at T) n gl resid mono span h0 h1),
    fun S T n gl hs h0 h1 => runsTo_of_on rfl hs (does_calAged (S.dev.at T) n gl h0 h1),
    fun S T n gl hs h0 => runsTo_of_on rfl hs (does_lineAgeLimit (S.dev.at T) n gl h0),
    fun S T n hs h0 h1 h2 h3 => runsTo_of_on rfl hs (does_glPoll (S.dev.at T) n h0 h1 h2 h3),
    fun S T n bytes late q hs h0 h1 h2 => runsTo_of_on rfl hs (does_glResponse (S.dev.at T) n bytes late q h0 h1 h2),
    fun S T n bytes late q hs h0 h1 => runsTo_of_on rfl hs (does_glResponse_bad (S.dev.at T) n bytes late q h0 h1),
    fun S T n q hs h0 => runsTo_of_on rfl hs (does_glNoack (S.dev.at T) n q h0),
    fun S T n hs h0 => runsTo_of_on rfl hs (does_glFaultPull (S.dev.at T) n h0),
    fun S T n hs h0 => runsTo_of_on rfl hs (does_faultPullEnd (S.dev.at T) n h0),
    fun S T n errGH errGL s hs h0 h1 h2 h3 =>
      runsTo_of_on rfl hs (does_enableSequenceDone (S.dev.at T) n errGH errGL s h0 h1 h2 h3),
    fun S T n hs h0 h1 => runsTo_of_on rfl hs (does_glContention (S.dev.at T) n h0 h1),
    fun S T triad n v hs h0 h1 h2 h3 h4 h5 => runsTo_of_on rfl hs (does_glRequest (S.dev.at T) triad n v h0 h1 h2 h3 h4 h5)⟩

/-- Settles O35: the sampling converters and their urgent conversions. -/
theorem converterCommandsComplete : Obligations.ConverterCommandsComplete := by
  unfold Obligations.ConverterCommandsComplete
  exact ⟨
    fun S T ofs gain inl hs h0 h1 => runsTo_of_on rfl hs (does_adcSpareCalDone (S.dev.at T) ofs gain inl h0 h1),
    fun S T k outgoing incoming hs h0 h1 h2 h3 h4 h5 =>
      runsTo_of_on rfl hs (does_adcSwapCheck (S.dev.at T) k outgoing incoming h0 h1 h2 h3 h4 h5),
    fun S T k r hs h0 h1 => runsTo_of_on rfl hs (does_swapDeferred (S.dev.at T) k r h0 h1),
    fun S T n hs h0 => runsTo_of_on rfl hs (does_adcCalAged (S.dev.at T) n h0),
    fun S T v hs => runsTo_of_on rfl hs (does_adcSeqgoWrite (S.dev.at T) v),
    fun S T q hs h0 => runsTo_of_on rfl hs (does_adcGroupStart (S.dev.at T) q h0),
    fun S T k nv high t hs h0 => runsTo_of_on rfl hs (does_adcConversionDone_urgent (S.dev.at T) k nv high t h0),
    fun S T k nv high p hs h0 h1 => runsTo_of_on rfl hs (does_adcConversionDone (S.dev.at T) k nv high p h0 h1),
    fun S T triad k v hs h0 h1 h2 => runsTo_of_on rfl hs (does_adcUrgreqWrite (S.dev.at T) triad k v h0 h1 h2),
    fun S T k t r hs h0 h1 h2 h3 => runsTo_of_on rfl hs (does_adcUrgentStart (S.dev.at T) k t r h0 h1 h2 h3),
    fun S T n hs h0 h1 h2 h3 => runsTo_of_on rfl hs (does_adcPowerDown (S.dev.at T) n h0 h1 h2 h3),
    fun S T n hs => runsTo_of_on rfl hs (does_adcWake (S.dev.at T) n)⟩

/-- Settles O36: the ΔΣ channels and the windows. -/
theorem deltaSigmaAndComparatorCommandsComplete : Obligations.DeltaSigmaAndComparatorCommandsComplete := by
  unfold Obligations.DeltaSigmaAndComparatorCommandsComplete
  exact ⟨
    fun S T n y hs h0 h1 => runsTo_of_on rfl hs (does_dsmWindowResult (S.dev.at T) n y h0 h1),
    fun S T n y hs h0 h1 => runsTo_of_on rfl hs (does_dsmContOutput (S.dev.at T) n y h0 h1),
    fun S T n y hs h0 h1 h2 h3 h4 => runsTo_of_on rfl hs (does_dsmFastOutput (S.dev.at T) n y h0 h1 h2 h3 h4),
    fun S T n stuck hs h0 h1 => runsTo_of_on rfl hs (does_dsmStuck (S.dev.at T) n stuck h0 h1),
    fun S T n stuck hs h0 h1 => runsTo_of_on rfl hs (does_dsmStuck_ends (S.dev.at T) n stuck h0 h1),
    fun S T n news p r hs h0 h1 h2 h3 h4 => runsTo_of_on rfl hs (does_cmpTrip (S.dev.at T) n news p r h0 h1 h2 h3 h4),
    fun S T n news p r hs h0 h1 h2 h3 h4 => runsTo_of_on rfl hs (does_cmpNormal (S.dev.at T) n news p r h0 h1 h2 h3 h4),
    fun S T n failed hs h0 h1 => runsTo_of_on rfl hs (does_cmpTestTick (S.dev.at T) n failed h0 h1),
    fun S T n err q hs h0 => runsTo_of_on rfl hs (does_cmpDacReread (S.dev.at T) n err q h0),
    fun S T n code hs h0 h1 h2 => runsTo_of_on rfl hs (does_cmpDegradedRead (S.dev.at T) n code h0 h1 h2)⟩

/-- Settles O37: the sources and releases of the trip groups. -/
theorem tripCommandsComplete : Obligations.TripCommandsComplete := by
  unfold Obligations.TripCommandsComplete
  exact ⟨
    fun S T i hs h0 => runsTo_of_on rfl hs (does_tripInAssert (S.dev.at T) i h0),
    fun S T i hs h0 => runsTo_of_on rfl hs (does_tripInDeassert (S.dev.at T) i h0),
    fun S T triad v hs h0 => runsTo_of_on rfl hs (does_trpSwtripWrite (S.dev.at T) triad v h0),
    fun S T triad v hs h0 => runsTo_of_on rfl hs (does_trpSwtripWrite_refused (S.dev.at T) triad v h0),
    fun S T triad v hs h0 => runsTo_of_on rfl hs (does_trpRelWrite (S.dev.at T) triad v h0),
    fun S T g r hs h0 h1 h2 h3 h4 h5 h6 h7 => runsTo_of_on rfl hs (does_autoRelease (S.dev.at T) g r h0 h1 h2 h3 h4 h5 h6 h7)⟩

/-- Settles O38: the activations, restarts and tests of the engines. -/
theorem engineCommandsComplete : Obligations.EngineCommandsComplete := by
  unfold Obligations.EngineCommandsComplete
  exact ⟨
    fun S T p v hs => runsTo_of_on rfl hs (does_cenGoWrite (S.dev.at T) p v),
    fun S T i differ hs h0 h1 => runsTo_of_on rfl hs (does_cenActivationStart (S.dev.at T) i differ h0 h1),
    fun S T i differ hs h0 h1 h2 => runsTo_of_on rfl hs (does_cenActivationStart_differ (S.dev.at T) i differ h0 h1 h2),
    fun S T i sigDiffer q hs h0 h1 h2 h3 => runsTo_of_on rfl hs (does_cenAgreement (S.dev.at T) i sigDiffer q h0 h1 h2 h3),
    fun S T p same q hs h0 h1 => runsTo_of_on rfl hs (does_latentReexecution (S.dev.at T) p same q h0 h1),
    fun S T p same q hs h0 h1 => runsTo_of_on rfl hs (does_latentReexecution_differs (S.dev.at T) p same q h0 h1),
    fun S T p known hs h0 h1 => runsTo_of_on rfl hs (does_cenRestartDone (S.dev.at T) p known h0 h1),
    fun S T i hs h0 h1 => runsTo_of_on rfl hs (does_cenDeadlineMiss (S.dev.at T) i h0 h1),
    fun S T p fail0 fail1 hs h0 => runsTo_of_on rfl hs (does_cenSelftest (S.dev.at T) p fail0 fail1 h0),
    fun S T p hs h0 h1 => runsTo_of_on rfl hs (does_selftestDeferred (S.dev.at T) p h0 h1)⟩

/-- Settles O39: the stages of an axis unit and its Hall sensors. -/
theorem axisCommandsComplete : Obligations.AxisCommandsComplete := by
  unfold Obligations.AxisCommandsComplete
  exact ⟨
    fun S T u q hs h0 h1 => runsTo_of_on rfl hs (does_axuForwardPass (S.dev.at T) u q h0 h1),
    fun S T u q hs h0 h1 h2 h3 => runsTo_of_on rfl hs (does_axuInverseStage (S.dev.at T) u q h0 h1 h2 h3),
    fun S T u q hs h0 h1 h2 h3 h4 => runsTo_of_on rfl hs (does_measureDone (S.dev.at T) u q h0 h1 h2 h3 h4),
    fun S T u q hs h0 h1 h2 h3 h4 => runsTo_of_on rfl hs (does_polarityTestDone (S.dev.at T) u q h0 h1 h2 h3 h4),
    fun S T u q hs h0 h1 h2 h3 h4 h5 => runsTo_of_on rfl hs (does_reacquireAttempt (S.dev.at T) u q h0 h1 h2 h3 h4 h5),
    fun S T u r hs h0 h1 h2 => runsTo_of_on rfl hs (does_trackSecond (S.dev.at T) u r h0 h1 h2),
    fun S T u n q hs h0 h1 h2 h3 h4 => runsTo_of_on rfl hs (does_hallEdge (S.dev.at T) u n q h0 h1 h2 h3 h4),
    fun S T u n hs h0 h1 h2 h3 => runsTo_of_on rfl hs (does_hallEdge_invalid (S.dev.at T) u n h0 h1 h2 h3),
    fun S T u q r z hs h0 h1 h2 => runsTo_of_on rfl hs (does_hallTimeout (S.dev.at T) u q r z h0 h1 h2)⟩

/-- Settles O40: the general inputs and the converter units. -/
theorem inputAndConverterUnitCommandsComplete : Obligations.InputAndConverterUnitCommandsComplete := by
  unfold Obligations.InputAndConverterUnitCommandsComplete
  exact ⟨
    fun S T n high stamp hs h0 h1 => runsTo_of_on rfl hs (does_gioEdge (S.dev.at T) n high stamp h0 h1),
    fun S T m sync status nibs crc tf hs h0 h1 h2 h3 h4 =>
      runsTo_of_on rfl hs (does_sentFrame (S.dev.at T) m sync status nibs crc tf h0 h1 h2 h3 h4),
    fun S T u q hs h0 h1 h2 h3 h4 => runsTo_of_on rfl hs (does_cvuForwardPass (S.dev.at T) u q h0 h1 h2 h3 h4),
    fun S T u q hs h0 h1 h2 h3 h4 h5 => runsTo_of_on rfl hs (does_cvuInverseStage (S.dev.at T) u q h0 h1 h2 h3 h4 h5),
    fun S T u hs h0 h1 h2 h3 => runsTo_of_on rfl hs (does_cvuPhaseDecision (S.dev.at T) u h0 h1 h2 h3),
    fun S T u p q hs h0 h1 h2 => runsTo_of_on rfl hs (does_cvuCmPulseEnd (S.dev.at T) u p q h0 h1 h2),
    fun S T u r hs h0 h1 h2 => runsTo_of_on rfl hs (does_gridLost (S.dev.at T) u r h0 h1 h2),
    fun S T u q r hs h0 h1 h2 h3 h4 h5 => runsTo_of_on rfl hs (does_cvuUnpark (S.dev.at T) u q r h0 h1 h2 h3 h4 h5)⟩

/-- Settles O41: the charge channels and their lamps. -/
theorem chargeCommandsComplete : Obligations.ChargeCommandsComplete := by
  unfold Obligations.ChargeCommandsComplete
  exact ⟨
    fun S T c hs h0 h1 h2 => runsTo_of_on rfl hs (does_chgStep (S.dev.at T) c h0 h1 h2),
    fun S T c hs h0 => runsTo_of_on rfl hs (does_chgStart (S.dev.at T) c h0),
    fun S T c hs => runsTo_of_on rfl hs (does_chgStop (S.dev.at T) c),
    fun S T sid c hs h0 h1 => runsTo_of_on rfl hs (does_chgAck (S.dev.at T) sid c h0 h1),
    fun S T c hs h0 h1 => runsTo_of_on rfl hs (does_handoverComplete (S.dev.at T) c h0 h1),
    fun S T c hs h0 h1 h2 => runsTo_of_on rfl hs (does_mpptUpdate (S.dev.at T) c h0 h1 h2),
    fun S T c short hs h0 => runsTo_of_on rfl hs (does_lampFault (S.dev.at T) c short h0),
    fun S T c short hs h0 => runsTo_of_on rfl hs (does_lampFault_open (S.dev.at T) c short h0),
    fun S T c r hs h0 h1 => runsTo_of_on rfl hs (does_lampRetry (S.dev.at T) c r h0 h1),
    fun S T triad c v hs h0 => runsTo_of_on rfl hs (does_chgLampWrite (S.dev.at T) triad c v h0),
    fun S T triad c v hs h0 => runsTo_of_on rfl hs (does_chgLampWrite_locked (S.dev.at T) triad c v h0)⟩

end Sys2Proof.Machine
end

section
/-! PROOFS. The completion statements of heat, background work, redundancy and supervision (chapters 12, 16, 17 and 18). -/

namespace Sys2Proof.Machine

/-- Settles O42: the temperature samples, the Marver rounds and the memory errors. -/
theorem thermalAndMarverCommandsComplete : Obligations.ThermalAndMarverCommandsComplete := by
  unfold Obligations.ThermalAndMarverCommandsComplete
  exact ⟨
    fun S T rs h0 h1 h2 h3 => runsTo_of_onAny rfl (does_thmDieSample (S.dev.at T) rs h0 h1 h2 h3),
    fun S T rs h0 h1 h2 h3 => runsTo_of_onAny rfl (does_thmDieSample_shut (S.dev.at T) rs h0 h1 h2 h3),
    fun S T n r h0 h1 h2 h3 => runsTo_of_onAny rfl (does_thmNtcSample (S.dev.at T) n r h0 h1 h2 h3),
    fun S T hs h0 => runsTo_of_on rfl hs (does_kRise (S.dev.at T) h0),
    fun S T reads us hs h0 => runsTo_of_on rfl hs (does_marverRound (S.dev.at T) reads us h0),
    fun S T hs h0 h1 h2 => runsTo_of_on rfl hs (does_marverLate (S.dev.at T) h0 h1 h2),
    fun S T m addr hs => runsTo_of_on rfl hs (does_scrubCorrection (S.dev.at T) m addr),
    fun S T m addr k hs => runsTo_of_on rfl hs (does_memUncorrectable (S.dev.at T) m addr k),
    fun S T hs h0 h1 h2 h3 h4 => runsTo_of_on rfl hs (does_wearCheck (S.dev.at T) h0 h1 h2 h3 h4),
    fun S T hs h0 h1 h2 h3 => runsTo_of_on rfl hs (does_wearCheck_ok (S.dev.at T) h0 h1 h2 h3)⟩

/-- Settles O43: the requests by kind, the core tests and telemetry. -/
theorem backgroundRequestsComplete : Obligations.BackgroundRequestsComplete := by
  unfold Obligations.BackgroundRequestsComplete
  exact ⟨
    fun S T triad target hs h0 h1 => runsTo_of_on rfl hs (does_bkgReqAdcCal (S.dev.at T) triad target h0 h1),
    fun S T triad target read hs h0 h1 =>
      runsTo_of_on (f := fun d => (d.bkgRequest triad (reqWord 2 target)).whenSome read (fun p d => if d.reqIs triad 2 target then
          d.dacReadback target p.1 p.2 else d)) rfl hs
        (does_bkgReqCmpCheck (S.dev.at T) triad target read h0 h1),
    fun S T triad target hs h0 h1 => runsTo_of_on rfl hs (does_bkgReqPadCheck (S.dev.at T) triad target h0 h1),
    fun S T triad target hs h0 h1 => runsTo_of_on rfl hs (does_bkgReqCenSelftest (S.dev.at T) triad target h0 h1),
    fun S T triad target hs h0 h1 => runsTo_of_on rfl hs (does_bkgReqCoreSelftest (S.dev.at T) triad target h0 h1),
    fun S T triad target hs h0 h1 => runsTo_of_on rfl hs (does_bkgReqScrub (S.dev.at T) triad target h0 h1),
    fun S T triad target hs h0 h1 => runsTo_of_on rfl hs (does_bkgReqMarver (S.dev.at T) triad target h0 h1),
    fun S T triad hs h0 h1 h2 => runsTo_of_on rfl hs (does_bkgReqDeferred (S.dev.at T) triad h0 h1 h2),
    fun S T q hs h0 h1 h2 h3 h4 => runsTo_of_on rfl hs (does_coreSelftestPeriodic (S.dev.at T) q h0 h1 h2 h3 h4),
    fun S T c pass who hs h0 h1 => runsTo_of_on rfl hs (does_coreSelftestDone (S.dev.at T) c pass who h0 h1),
    fun S T hs h0 h1 => runsTo_of_on rfl hs (does_telemetryPost (S.dev.at T) h0 h1)⟩

/-- Settles O44: the triads, the Gust history and the cullet list. -/
theorem triadCommandsComplete : Obligations.TriadCommandsComplete := by
  unfold Obligations.TriadCommandsComplete
  exact ⟨
    fun S T k c hs h0 h1 => runsTo_of_on rfl hs (does_triadMinority (S.dev.at T) k c h0 h1),
    fun S T k q hs h0 h1 h2 h3 => runsTo_of_on rfl hs (does_triadResync (S.dev.at T) k q h0 h1 h2 h3),
    fun S T k minority split hs h0 h1 h2 h3 h4 =>
      runsTo_of_on rfl hs (does_triadCheckpoint (S.dev.at T) k minority split h0 h1 h2 h3 h4),
    fun S T k minority split hs h0 h1 h2 h3 =>
      runsTo_of_on rfl hs (does_triadCheckpoint_split (S.dev.at T) k minority split h0 h1 h2 h3),
    fun S T k minority split q hs h0 h1 h2 h3 h4 h5 =>
      runsTo_of_on rfl hs (does_triadCheckpoint_minority (S.dev.at T) k minority split q h0 h1 h2 h3 h4 h5),
    fun S T k kat hs h0 h1 h2 h3 => runsTo_of_on rfl hs (does_triadRestart (S.dev.at T) k kat h0 h1 h2 h3),
    fun S T k kat hs h0 h1 h2 h3 => runsTo_of_on rfl hs (does_triadRestart_halt (S.dev.at T) k kat h0 h1 h2 h3),
    fun S T k hs h0 h1 => runsTo_of_on rfl hs (does_replayDone (S.dev.at T) k h0 h1),
    fun S T hs h0 h1 => runsTo_of_on rfl hs (does_gustDecay (S.dev.at T) h0 h1),
    fun S T hs h0 => runsTo_of_on rfl hs (does_culletPersist (S.dev.at T) h0)⟩

/-- Settles O45: the commands of T0 and the requests for them. -/
theorem functionCommandsComplete : Obligations.FunctionCommandsComplete := by
  unfold Obligations.FunctionCommandsComplete
  exact ⟨
    fun S T triad all f st cause hs h0 h1 h2 h3 h4 h5 =>
      runsTo_of_on rfl hs (does_fncmdEnter (S.dev.at T) triad all f st cause h0 h1 h2 h3 h4 h5),
    fun S T triad all f st cause hs h0 h1 => runsTo_of_on rfl hs (does_fncmdEnter_all (S.dev.at T) triad all f st cause h0 h1),
    fun S T triad all f st cause hs h0 => runsTo_of_on rfl hs (does_fncmdEnter_locked (S.dev.at T) triad all f st cause h0),
    fun S T triad all f hs h0 h1 h2 h3 h4 h5 h6 h7 =>
      runsTo_of_on rfl hs (does_fncmdEnable (S.dev.at T) triad all f h0 h1 h2 h3 h4 h5 h6 h7),
    fun S T triad all f hs h0 h1 h2 h3 h4 h5 h6 =>
      runsTo_of_on rfl hs (does_fncmdEnable_tripped (S.dev.at T) triad all f h0 h1 h2 h3 h4 h5 h6),
    fun S T triad all f hs h0 h1 => runsTo_of_on rfl hs (does_fncmdEnable_all (S.dev.at T) triad all f h0 h1),
    fun S T triad all f hs h0 h1 h2 => runsTo_of_on rfl hs (does_fncmdDisable (S.dev.at T) triad all f h0 h1 h2),
    fun S T triad all f hs h0 h1 h2 => runsTo_of_on rfl hs (does_fncmdAck (S.dev.at T) triad all f h0 h1 h2),
    fun S T f st hs => runsTo_of_on rfl hs (does_fnreqEnable (S.dev.at T) f st),
    fun S T f st hs => runsTo_of_on rfl hs (does_fnreqDisable (S.dev.at T) f st),
    fun S T f st hs h0 h1 h2 h3 => runsTo_of_on rfl hs (does_fnreqSafe (S.dev.at T) f st h0 h1 h2 h3),
    fun S T f hs h0 h1 h2 h3 => runsTo_of_on rfl hs (does_brakeTimeout (S.dev.at T) f h0 h1 h2 h3)⟩

/-- Settles O46: the kick, the watchdogs and the safety queue. -/
theorem supervisionCommandsComplete : Obligations.SupervisionCommandsComplete := by
  unfold Obligations.SupervisionCommandsComplete
  exact ⟨
    fun S T triad v hs h0 h1 => runsTo_of_on rfl hs (does_t0Kick (S.dev.at T) triad v h0 h1),
    fun S T triad v hs h0 => runsTo_of_on rfl hs (does_t0Kick_locked (S.dev.at T) triad v h0),
    fun S T hs h0 h1 h2 => runsTo_of_on rfl hs (does_t0KickMissed (S.dev.at T) h0 h1 h2),
    fun S T hs h0 h1 h2 => runsTo_of_on rfl hs (does_t0KickMissed_fatal (S.dev.at T) h0 h1 h2),
    fun S T triad n v hs h0 h1 h2 h3 h4 => runsTo_of_on rfl hs (does_wdgKick (S.dev.at T) triad n v h0 h1 h2 h3 h4),
    fun S T triad n v hs h0 h1 h2 h3 h4 h5 => runsTo_of_on rfl hs (does_wdgKick_early (S.dev.at T) triad n v h0 h1 h2 h3 h4 h5),
    fun S T n hs h0 h1 h2 => runsTo_of_on rfl hs (does_wdgMiss (S.dev.at T) n h0 h1 h2),
    fun S T x r hs h0 => runsTo_of_on (f := fun d => d.safeqPop.2) rfl hs (does_safeqRead (S.dev.at T) x r h0)⟩

end Sys2Proof.Machine
end

section
/-! PROOFS. The completion statements of the bus ports, the queues, the domain and the standby pair (chapters 13, 14 and 15). -/

namespace Sys2Proof.Machine

/-- Settles O47: reception, transmission and recovery of a port. -/
theorem busCommandsComplete : Obligations.BusCommandsComplete := by
  unfold Obligations.BusCommandsComplete
  exact ⟨
    fun S T n fr sof hs h0 h1 h2 h3 h4 => runsTo_of_on rfl hs (does_busFrameReceived (S.dev.at T) n fr sof h0 h1 h2 h3 h4),
    fun S T n fr sof hs h0 h1 h2 h3 => runsTo_of_on rfl hs (does_busFrameReceived_fd (S.dev.at T) n fr sof h0 h1 h2 h3),
    fun S T n sof q hs h0 h1 h2 h3 h4 h5 => runsTo_of_on rfl hs (does_busTxStart (S.dev.at T) n sof q h0 h1 h2 h3 h4 h5),
    fun S T n sof hs h0 h1 h2 h3 => runsTo_of_on rfl hs (does_busTxStart_sec (S.dev.at T) n sof h0 h1 h2 h3),
    fun S T n q stamp hs h0 => runsTo_of_on rfl hs (does_arbitrationLost (S.dev.at T) n q stamp h0),
    fun S T n tdc q stamp hs h0 h1 => runsTo_of_on rfl hs (does_busTxComplete (S.dev.at T) n tdc q stamp h0 h1),
    fun S T n tdc stamp hs h0 => runsTo_of_on rfl hs (does_busTxComplete_sec (S.dev.at T) n tdc stamp h0),
    fun S T n code dataPhase exempt q stamp hs h0 h1 h2 h3 =>
      runsTo_of_on rfl hs (does_busTxError (S.dev.at T) n code dataPhase exempt q stamp h0 h1 h2 h3),
    fun S T n code dataPhase exempt q stamp hs h0 h1 h2 h3 =>
      runsTo_of_on rfl hs (does_busTxError_off (S.dev.at T) n code dataPhase exempt q stamp h0 h1 h2 h3),
    fun S T n code dataPhase eight hs h0 h1 => runsTo_of_on rfl hs (does_busRxError (S.dev.at T) n code dataPhase eight h0 h1),
    fun S T n hs h0 => runsTo_of_on rfl hs (does_busRecovered (S.dev.at T) n h0),
    fun S T n v hs h0 h1 => runsTo_of_on rfl hs (does_busRecover (S.dev.at T) n v h0 h1),
    fun S T n q hs h0 h1 h2 => runsTo_of_on rfl hs (does_abdDwell (S.dev.at T) n q h0 h1 h2),
    fun S T n hs h0 h1 => runsTo_of_on rfl hs (does_busIntegrationDone (S.dev.at T) n h0 h1)⟩

/-- Settles O48: lifetimes, cancels and index writes. -/
theorem queueCommandsComplete : Obligations.QueueCommandsComplete := by
  unfold Obligations.QueueCommandsComplete
  exact ⟨
    fun S T q hs h0 h1 h2 h3 h4 h5 h6 h7 => runsTo_of_on rfl hs (does_queExpired (S.dev.at T) q h0 h1 h2 h3 h4 h5 h6 h7),
    fun S T q v hs h0 h1 h2 h3 h4 h5 h6 h7 h8 =>
      runsTo_of_on rfl hs (does_queCancel (S.dev.at T) q v h0 h1 h2 h3 h4 h5 h6 h7 h8),
    fun S T q v hs h0 h1 h2 h3 h4 h5 h6 h7 =>
      runsTo_of_on rfl hs (does_queCancel_later (S.dev.at T) q v h0 h1 h2 h3 h4 h5 h6 h7),
    fun S T q v hs h0 h1 => runsTo_of_on rfl hs (does_queCancel_assured (S.dev.at T) q v h0 h1),
    fun S T triad q rdIx v hs h0 h1 h2 h3 h4 =>
      runsTo_of_on rfl hs (does_queIndexWrite (S.dev.at T) triad q rdIx v h0 h1 h2 h3 h4),
    fun S T triad q rdIx v hs h0 h1 h2 h3 h4 =>
      runsTo_of_on rfl hs (does_queIndexWrite_wr (S.dev.at T) triad q rdIx v h0 h1 h2 h3 h4),
    fun S T triad q rdIx v hs h0 => runsTo_of_on rfl hs (does_queIndexWrite_bad (S.dev.at T) triad q rdIx v h0)⟩

/-- Settles O49: the maps and the frames of the domain. -/
theorem domainCommandsComplete : Obligations.DomainCommandsComplete := by
  unfold Obligations.DomainCommandsComplete
  exact ⟨
    fun S T v sm hs h0 h1 h2 => runsTo_of_on rfl hs (does_sigMaptx (S.dev.at T) v sm h0 h1 h2),
    fun S T hs h0 => runsTo_of_on rfl hs (does_publishRound (S.dev.at T) h0),
    fun S T q x hs h0 => runsTo_of_on rfl hs (does_publishReceived (S.dev.at T) q x h0),
    fun S T q x hs h0 h1 h2 h3 h4 h5 h6 => runsTo_of_on rfl hs (does_commandReceived (S.dev.at T) q x h0 h1 h2 h3 h4 h5 h6),
    fun S T q x hs h0 h1 h2 h3 h4 => runsTo_of_on rfl hs (does_commandReceived_old (S.dev.at T) q x h0 h1 h2 h3 h4),
    fun S T q x hs h0 h1 h2 h3 h4 => runsTo_of_on rfl hs (does_replyReceived (S.dev.at T) q x h0 h1 h2 h3 h4),
    fun S T q x hs h0 h1 => runsTo_of_on rfl hs (does_heartbeatReceived (S.dev.at T) q x h0 h1),
    fun S T q x hs h0 h1 => runsTo_of_on rfl hs (does_aggregateReceived (S.dev.at T) q x h0 h1),
    fun S T q x hs h0 => runsTo_of_on rfl hs (does_announceReceived (S.dev.at T) q x h0),
    fun S T q r hs h0 h1 => runsTo_of_on rfl hs (does_replytoExpired (S.dev.at T) q r h0 h1),
    fun S T hs h0 h1 h2 h3 => runsTo_of_on rfl hs (does_domainHeartbeat (S.dev.at T) h0 h1 h2 h3),
    fun S T hs h0 h1 h2 h3 => runsTo_of_on rfl hs (does_domainHeartbeat_root (S.dev.at T) h0 h1 h2 h3),
    fun S T hs h0 h1 h2 => runsTo_of_on rfl hs (does_aggregateSend (S.dev.at T) h0 h1 h2),
    fun S T hs h0 h1 h2 => runsTo_of_on rfl hs (does_announceSend (S.dev.at T) h0 h1 h2),
    fun S T r hs h0 h1 h2 => runsTo_of_on rfl hs (does_rootSilent (S.dev.at T) r h0 h1 h2)⟩

/-- Settles O50: the token wires, the heartbeats and the lanes. -/
theorem tokenAndLinkCommandsComplete : Obligations.TokenAndLinkCommandsComplete := by
  unfold Obligations.TokenAndLinkCommandsComplete
  exact ⟨
    fun S T hs h0 h1 => runsTo_of_on rfl hs (does_tokenWire (S.dev.at T) h0 h1),
    fun S T hs h0 => runsTo_of_on rfl hs (does_peerTokenLost (S.dev.at T) h0),
    fun S T hs => runsTo_of_on rfl hs (does_peerTokenSeen (S.dev.at T)),
    fun S T hs h0 h1 => runsTo_of_on rfl hs (does_tokenRace (S.dev.at T) h0 h1),
    fun S T hs => runsTo_of_on rfl hs (does_hbSend (S.dev.at T)),
    fun S T seq role tok stime jepoch jpos sys warn hs h0 h1 h2 =>
      runsTo_of_on rfl hs (does_hbReceived (S.dev.at T) seq role tok stime jepoch jpos sys warn h0 h1 h2),
    fun S T upTo hs h0 h1 => runsTo_of_on rfl hs (does_linkAck (S.dev.at T) upTo h0 h1),
    fun S T hs h0 h1 h2 h3 => runsTo_of_on rfl hs (does_linkResend (S.dev.at T) h0 h1 h2 h3),
    fun S T hs h0 h1 h2 h3 => runsTo_of_on rfl hs (does_linkResend_down (S.dev.at T) h0 h1 h2 h3),
    fun S T lanes latency hs h0 h1 h2 => runsTo_of_on rfl hs (does_linkTrained (S.dev.at T) lanes latency h0 h1 h2),
    fun S T hs h0 h1 => runsTo_of_on rfl hs (does_linkRetrain (S.dev.at T) h0 h1),
    fun S T lane errs hs h0 h1 h2 h3 => runsTo_of_on rfl hs (does_laneDegraded (S.dev.at T) lane errs h0 h1 h2 h3),
    fun S T lane errs hs h0 h1 h2 h3 => runsTo_of_on rfl hs (does_laneDegraded_down (S.dev.at T) lane errs h0 h1 h2 h3),
    fun S T triad v hs h0 h1 => runsTo_of_on rfl hs (does_retrain (S.dev.at T) triad v h0 h1),
    fun S T triad v hs h0 => runsTo_of_on rfl hs (does_retrain_locked (S.dev.at T) triad v h0)⟩

/-- Settles O51: the frames of the link and the roles they decide. -/
theorem pairCommandsComplete : Obligations.PairCommandsComplete := by
  unfold Obligations.PairCommandsComplete
  exact ⟨
    fun S T seq dig0 dig1 epoch side jepoch jpos role sys tkEpoch hs h0 h1 h2 h3 h4 h5 h6 h7 =>
      runsTo_of_on rfl hs
        (does_helloReceived (S.dev.at T) seq dig0 dig1 epoch side jepoch jpos role sys tkEpoch h0 h1 h2 h3 h4 h5 h6 h7),
    fun S T seq dig0 dig1 epoch side jepoch jpos role sys tkEpoch hs h0 h1 h2 h3 h4 h5 h6 h7 =>
      runsTo_of_on rfl hs
        (does_helloReceived_known (S.dev.at T) seq dig0 dig1 epoch side jepoch jpos role sys tkEpoch h0 h1 h2 h3 h4 h5 h6 h7),
    fun S T seq dig0 dig1 epoch side jepoch jpos role sys tkEpoch hs h0 h1 h2 h3 h4 =>
      runsTo_of_on rfl hs
        (does_helloReceived_side (S.dev.at T) seq dig0 dig1 epoch side jepoch jpos role sys tkEpoch h0 h1 h2 h3 h4),
    fun S T hs h0 h1 h2 h3 h4 h5 h6 => runsTo_of_on rfl hs (does_soloClaim (S.dev.at T) h0 h1 h2 h3 h4 h5 h6),
    fun S T seq f v hs h0 h1 h2 h3 => runsTo_of_on rfl hs (does_fnstateReceived (S.dev.at T) seq f v h0 h1 h2 h3),
    fun S T seq jpos kind que eseq body hs h0 h1 h2 h3 h4 =>
      runsTo_of_on rfl hs (does_jrnReceived (S.dev.at T) seq jpos kind que eseq body h0 h1 h2 h3 h4),
    fun S T seq addr bytes hs h0 h1 h2 h3 => runsTo_of_on rfl hs (does_mirReceived (S.dev.at T) seq addr bytes h0 h1 h2 h3),
    fun S T seq sc good blk hs h0 h1 h2 h3 => runsTo_of_on rfl hs (does_mirendReceived (S.dev.at T) seq sc good blk h0 h1 h2 h3),
    fun S T c hs h0 => runsTo_of_on rfl hs (does_mirrorApplied (S.dev.at T) c h0),
    fun S T seq sc hs h0 h1 h2 h3 h4 h5 => runsTo_of_on rfl hs (does_appliedReceived (S.dev.at T) seq sc h0 h1 h2 h3 h4 h5),
    fun S T seq hs h0 h1 h2 h3 => runsTo_of_on rfl hs (does_releaseReceived (S.dev.at T) seq h0 h1 h2 h3),
    fun S T hs h0 h1 h2 h3 => runsTo_of_on rfl hs (does_hbLoss (S.dev.at T) h0 h1 h2 h3),
    fun S T hs h0 h1 h2 h3 h4 => runsTo_of_on rfl hs (does_hbLoss_syncing (S.dev.at T) h0 h1 h2 h3 h4),
    fun S T triad v hs h0 h1 h2 h3 h4 h5 => runsTo_of_on rfl hs (does_yield (S.dev.at T) triad v h0 h1 h2 h3 h4 h5),
    fun S T triad v hs h0 h1 h2 => runsTo_of_on rfl hs (does_yield_refused (S.dev.at T) triad v h0 h1 h2),
    fun S T seq q fr hs h0 h1 h2 h3 h4 h5 => runsTo_of_on rfl hs (does_linkQueueFrame (S.dev.at T) seq q fr h0 h1 h2 h3 h4 h5)⟩

end Sys2Proof.Machine
end

section
/-! PROOFS. The completion statements of sessions and requests (chapter 19). -/

namespace Sys2Proof.Machine

/-- Settles O52: a session from OPEN to its end. -/
theorem sessionCommandsComplete : Obligations.SessionCommandsComplete := by
  unfold Obligations.SessionCommandsComplete
  exact ⟨
    fun S T port ctag role key cnonce hs h0 h1 => runsTo_of_on rfl hs (does_open (S.dev.at T) port ctag role key cnonce h0 h1),
    fun S T port ctag role key cnonce q hs h0 h1 =>
      runsTo_of_on rfl hs (does_open_denied (S.dev.at T) port ctag role key cnonce q h0 h1),
    fun S T port ctag sid proof x hs h0 h1 h2 => runsTo_of_on rfl hs (does_prove (S.dev.at T) port ctag sid proof x h0 h1 h2),
    fun S T sid x hs h0 h1 => runsTo_of_on rfl hs (does_proveTimeout (S.dev.at T) sid x h0 h1),
    fun S T port key pub cert audits hs h0 h1 h2 =>
      runsTo_of_on rfl hs (does_makerFirst (S.dev.at T) port key pub cert audits h0 h1 h2),
    fun S T port ctag sid ctr auth x hs h0 h1 h2 =>
      runsTo_of_on rfl hs (does_close (S.dev.at T) port ctag sid ctr auth x h0 h1 h2),
    fun S T sid x hs h0 h1 => runsTo_of_on rfl hs (does_sessionIdleTimeout (S.dev.at T) sid x h0 h1),
    fun S T role hs h0 => runsTo_of_on rfl hs (does_lockoutExpire (S.dev.at T) role h0)⟩

/-- Settles O53: reads, limits, calibration and the clock. -/
theorem readAndLimitRequestsComplete : Obligations.ReadAndLimitRequestsComplete := by
  unfold Obligations.ReadAndLimitRequestsComplete
  exact ⟨
    fun S T port ctag sid ctr addr len auth x hs h0 h1 h2 h3 h4 h5 h6 =>
      runsTo_of_on rfl hs (does_read (S.dev.at T) port ctag sid ctr addr len auth x h0 h1 h2 h3 h4 h5 h6),
    fun S T port ctag sid ctr index count auth x hs h0 h1 h2 h3 h4 h5 =>
      runsTo_of_on rfl hs (does_readAudit (S.dev.at T) port ctag sid ctr index count auth x h0 h1 h2 h3 h4 h5),
    fun S T port ctag sid ctr addr fmask value audits auth x b hs h0 h1 h2 h3 h4 h5 =>
      runsTo_of_on rfl hs (does_setLimit (S.dev.at T) port ctag sid ctr addr fmask value audits auth x b h0 h1 h2 h3 h4 h5),
    fun S T port ctag sid ctr addr fmask level lower upper audits auth x hs h0 h1 h2 h3 h4 h5 h6 h7 h8 =>
      runsTo_of_on rfl hs
        (does_setBound (S.dev.at T) port ctag sid ctr addr fmask level lower upper audits auth x h0 h1 h2 h3 h4 h5 h6 h7 h8),
    fun S T port ctag sid ctr addr value audits auth x isF pos fn hs h0 h1 h2 h3 h4 h5 h6 h7 =>
      runsTo_of_on rfl hs
        (does_calWrite (S.dev.at T) port ctag sid ctr addr value audits auth x isF pos fn h0 h1 h2 h3 h4 h5 h6 h7),
    fun S T port ctag sid ctr audits auth x hs h0 h1 h2 h3 =>
      runsTo_of_on rfl hs (does_resetLimits (S.dev.at T) port ctag sid ctr audits auth x h0 h1 h2 h3),
    fun S T port ctag sid ctr target audits auth x hs h0 h1 h2 h3 =>
      runsTo_of_on rfl hs (does_ack (S.dev.at T) port ctag sid ctr target audits auth x h0 h1 h2 h3),
    fun S T port ctag sid ctr v audits auth x hs h0 h1 h2 h3 =>
      runsTo_of_on rfl hs (does_setRtc (S.dev.at T) port ctag sid ctr v audits auth x h0 h1 h2 h3)⟩

/-- Settles O54: slots, keys and histories, and the changes refused without an audit record. -/
theorem slotAndKeyRequestsComplete : Obligations.SlotAndKeyRequestsComplete := by
  unfold Obligations.SlotAndKeyRequestsComplete
  exact ⟨
    fun S T port ctag sid ctr slot len sha auth x hs h0 h1 h2 h3 h4 h5 h6 h7 h8 =>
      runsTo_of_on rfl hs (does_slotBegin (S.dev.at T) port ctag sid ctr slot len sha auth x h0 h1 h2 h3 h4 h5 h6 h7 h8),
    fun S T port ctag sid ctr off bs x w hs h0 h1 h2 h3 h4 h5 h6 h7 h8 =>
      runsTo_of_on rfl hs (does_slotData (S.dev.at T) port ctag sid ctr off bs x w h0 h1 h2 h3 h4 h5 h6 h7 h8),
    fun S T port ctag sid ctr audits auth x w hs h0 h1 h2 h3 h4 h5 h6 =>
      runsTo_of_on rfl hs (does_slotEnd (S.dev.at T) port ctag sid ctr audits auth x w h0 h1 h2 h3 h4 h5 h6),
    fun S T port ctag sid ctr audits auth x hs h0 h1 h2 h3 h4 =>
      runsTo_of_on rfl hs (does_restart (S.dev.at T) port ctag sid ctr audits auth x h0 h1 h2 h3 h4),
    fun S T port ctag sid ctr audits auth x q hs h0 h1 h2 h3 h4 =>
      runsTo_of_on rfl hs (does_restart_refused (S.dev.at T) port ctag sid ctr audits auth x q h0 h1 h2 h3 h4),
    fun S T port ctag sid ctr key role bs certId cert audits auth x hs h0 h1 h2 h3 h4 h5 h6 h7 h8 h9 h10 h11 =>
      runsTo_of_on rfl hs
        (does_keyInstall (S.dev.at T) port ctag sid ctr key role bs certId cert audits auth x h0 h1 h2 h3 h4 h5 h6 h7 h8 h9 h10 h11),
    fun S T port ctag sid ctr key audits auth x w hs h0 h1 h2 h3 h4 h5 =>
      runsTo_of_on rfl hs (does_keyRevoke (S.dev.at T) port ctag sid ctr key audits auth x w h0 h1 h2 h3 h4 h5),
    fun S T port ctag sid ctr res audits auth x hs h0 h1 h2 h3 h4 =>
      runsTo_of_on rfl hs (does_gustClear (S.dev.at T) port ctag sid ctr res audits auth x h0 h1 h2 h3 h4),
    fun S T port ctag sid ctr res audits auth x hs h0 h1 h2 h3 h4 =>
      runsTo_of_on rfl hs (does_cullClear (S.dev.at T) port ctag sid ctr res audits auth x h0 h1 h2 h3 h4),
    fun S T port ctag sid ctr role audits auth x hs h0 h1 h2 h3 h4 =>
      runsTo_of_on rfl hs (does_lockoutClear (S.dev.at T) port ctag sid ctr role audits auth x h0 h1 h2 h3 h4),
    fun S T port ctag sid ctr test audits auth x hs h0 h1 h2 h3 h4 h5 =>
      runsTo_of_on rfl hs (does_factest (S.dev.at T) port ctag sid ctr test audits auth x h0 h1 h2 h3 h4 h5),
    fun S T port ctag sid ctr addr fmask level lower upper audits auth x hs h0 h1 h2 h3 h4 =>
      runsTo_of_on rfl hs
        (does_setBound_noaudit (S.dev.at T) port ctag sid ctr addr fmask level lower upper audits auth x h0 h1 h2 h3 h4),
    fun S T port ctag sid ctr addr value audits auth x hs h0 h1 h2 h3 h4 =>
      runsTo_of_on rfl hs (does_calWrite_noaudit (S.dev.at T) port ctag sid ctr addr value audits auth x h0 h1 h2 h3 h4),
    fun S T port ctag sid ctr audits auth x hs h0 h1 h2 h3 h4 =>
      runsTo_of_on rfl hs (does_resetLimits_noaudit (S.dev.at T) port ctag sid ctr audits auth x h0 h1 h2 h3 h4),
    fun S T port ctag sid ctr v audits auth x hs h0 h1 h2 h3 h4 =>
      runsTo_of_on rfl hs (does_setRtc_noaudit (S.dev.at T) port ctag sid ctr v audits auth x h0 h1 h2 h3 h4),
    fun S T port ctag sid ctr audits auth x hs h0 h1 h2 h3 h4 =>
      runsTo_of_on rfl hs (does_slotEnd_noaudit (S.dev.at T) port ctag sid ctr audits auth x h0 h1 h2 h3 h4),
    fun S T port ctag sid ctr audits auth x hs h0 h1 h2 h3 h4 =>
      runsTo_of_on rfl hs (does_restart_noaudit (S.dev.at T) port ctag sid ctr audits auth x h0 h1 h2 h3 h4),
    fun S T port ctag sid ctr key role bs certId cert audits auth x hs h0 h1 h2 h3 h4 =>
      runsTo_of_on rfl hs
        (does_keyInstall_noaudit (S.dev.at T) port ctag sid ctr key role bs certId cert audits auth x h0 h1 h2 h3 h4),
    fun S T port ctag sid ctr key audits auth x hs h0 h1 h2 h3 h4 =>
      runsTo_of_on rfl hs (does_keyRevoke_noaudit (S.dev.at T) port ctag sid ctr key audits auth x h0 h1 h2 h3 h4),
    fun S T port ctag sid ctr res audits auth x hs h0 h1 h2 h3 h4 =>
      runsTo_of_on rfl hs (does_gustClear_noaudit (S.dev.at T) port ctag sid ctr res audits auth x h0 h1 h2 h3 h4),
    fun S T port ctag sid ctr res audits auth x hs h0 h1 h2 h3 h4 =>
      runsTo_of_on rfl hs (does_cullClear_noaudit (S.dev.at T) port ctag sid ctr res audits auth x h0 h1 h2 h3 h4),
    fun S T port ctag sid ctr role audits auth x hs h0 h1 h2 h3 h4 =>
      runsTo_of_on rfl hs (does_lockoutClear_noaudit (S.dev.at T) port ctag sid ctr role audits auth x h0 h1 h2 h3 h4),
    fun S T port ctag sid ctr test audits auth x hs h0 h1 h2 h3 h4 =>
      runsTo_of_on rfl hs (does_factest_noaudit (S.dev.at T) port ctag sid ctr test audits auth x h0 h1 h2 h3 h4)⟩

end Sys2Proof.Machine
end

section
/-! PROOFS. The completion statements of the instructions of a core (chapter 16). -/

namespace Sys2Proof.Machine

/-- Settles O55: each changes registers alone. -/
theorem arithmeticInstructionsComplete : Obligations.ArithmeticInstructionsComplete := by
  unfold Obligations.ArithmeticInstructionsComplete
  exact ⟨
    fun S k rd ra rb h0 => runsTo_of_onNow rfl (does_add S.dev k rd ra rb h0),
    fun S k rd ra rb h0 => runsTo_of_onNow rfl (does_sub S.dev k rd ra rb h0),
    fun S k rd ra rb h0 => runsTo_of_onNow rfl (does_and S.dev k rd ra rb h0),
    fun S k rd ra rb h0 => runsTo_of_onNow rfl (does_or S.dev k rd ra rb h0),
    fun S k rd ra rb h0 => runsTo_of_onNow rfl (does_xor S.dev k rd ra rb h0),
    fun S k rd ra rb h0 => runsTo_of_onNow rfl (does_shl S.dev k rd ra rb h0),
    fun S k rd ra rb h0 => runsTo_of_onNow rfl (does_shr S.dev k rd ra rb h0),
    fun S k rd ra rb h0 => runsTo_of_onNow rfl (does_sar S.dev k rd ra rb h0),
    fun S k rd ra rb h0 => runsTo_of_onNow rfl (does_rot S.dev k rd ra rb h0),
    fun S k rd ra rb h0 => runsTo_of_onNow rfl (does_slt S.dev k rd ra rb h0),
    fun S k rd ra rb h0 => runsTo_of_onNow rfl (does_sltu S.dev k rd ra rb h0),
    fun S k rd ra rb h0 => runsTo_of_onNow rfl (does_mul S.dev k rd ra rb h0),
    fun S k rd ra rb h0 => runsTo_of_onNow rfl (does_mulh S.dev k rd ra rb h0),
    fun S k rd ra rb h0 => runsTo_of_onNow rfl (does_mulhu S.dev k rd ra rb h0)⟩

/-- Settles O56: each changes registers alone. -/
theorem immediateInstructionsComplete : Obligations.ImmediateInstructionsComplete := by
  unfold Obligations.ImmediateInstructionsComplete
  exact ⟨
    fun S k rd ra imm h0 => runsTo_of_onNow rfl (does_addi S.dev k rd ra imm h0),
    fun S k rd ra imm h0 => runsTo_of_onNow rfl (does_andi S.dev k rd ra imm h0),
    fun S k rd ra imm h0 => runsTo_of_onNow rfl (does_ori S.dev k rd ra imm h0),
    fun S k rd ra imm h0 => runsTo_of_onNow rfl (does_xori S.dev k rd ra imm h0),
    fun S k rd ra imm h0 => runsTo_of_onNow rfl (does_shli S.dev k rd ra imm h0),
    fun S k rd ra imm h0 => runsTo_of_onNow rfl (does_shri S.dev k rd ra imm h0),
    fun S k rd ra imm h0 => runsTo_of_onNow rfl (does_sari S.dev k rd ra imm h0),
    fun S k rd ra imm h0 => runsTo_of_onNow rfl (does_slti S.dev k rd ra imm h0),
    fun S k rd ra imm h0 => runsTo_of_onNow rfl (does_sltiu S.dev k rd ra imm h0),
    fun S k rd imm h0 => runsTo_of_onNow rfl (does_lui S.dev k rd imm h0)⟩

/-- Settles O57: each changes registers alone. -/
theorem divisionAndBranchInstructionsComplete : Obligations.DivisionAndBranchInstructionsComplete := by
  unfold Obligations.DivisionAndBranchInstructionsComplete
  exact ⟨
    fun S k rd ra rb h0 h1 => runsTo_of_onNow rfl (does_div S.dev k rd ra rb h0 h1),
    fun S k rd ra rb h0 h1 => runsTo_of_onNow rfl (does_divu S.dev k rd ra rb h0 h1),
    fun S k rd ra rb h0 h1 => runsTo_of_onNow rfl (does_rem S.dev k rd ra rb h0 h1),
    fun S k rd ra rb h0 h1 => runsTo_of_onNow rfl (does_remu S.dev k rd ra rb h0 h1),
    fun S k ra rb disp h0 => runsTo_of_onNow rfl (does_beq S.dev k ra rb disp h0),
    fun S k ra rb disp h0 => runsTo_of_onNow rfl (does_bne S.dev k ra rb disp h0),
    fun S k ra rb disp h0 => runsTo_of_onNow rfl (does_blt S.dev k ra rb disp h0),
    fun S k ra rb disp h0 => runsTo_of_onNow rfl (does_bge S.dev k ra rb disp h0),
    fun S k ra rb disp h0 => runsTo_of_onNow rfl (does_bltu S.dev k ra rb disp h0),
    fun S k ra rb disp h0 => runsTo_of_onNow rfl (does_bgeu S.dev k ra rb disp h0),
    fun S k disp h0 => runsTo_of_onNow rfl (does_j S.dev k disp h0),
    fun S k disp h0 => runsTo_of_onNow rfl (does_jal S.dev k disp h0),
    fun S k rd ra imm h0 => runsTo_of_onNow rfl (does_jalr S.dev k rd ra imm h0)⟩

/-- Settles O58: each changes registers alone. -/
theorem floatingInstructionsComplete : Obligations.FloatingInstructionsComplete := by
  unfold Obligations.FloatingInstructionsComplete
  exact ⟨
    fun S k rd ra rb h0 => runsTo_of_onNow rfl (does_fadd S.dev k rd ra rb h0),
    fun S k rd ra rb h0 => runsTo_of_onNow rfl (does_fsub S.dev k rd ra rb h0),
    fun S k rd ra rb h0 => runsTo_of_onNow rfl (does_fmul S.dev k rd ra rb h0),
    fun S k rd ra rb h0 => runsTo_of_onNow rfl (does_fdiv S.dev k rd ra rb h0),
    fun S k rd ra h0 => runsTo_of_onNow rfl (does_fsqrt S.dev k rd ra h0),
    fun S k rd ra rb h0 => runsTo_of_onNow rfl (does_fmin S.dev k rd ra rb h0),
    fun S k rd ra rb h0 => runsTo_of_onNow rfl (does_fmax S.dev k rd ra rb h0),
    fun S k rd ra rb h0 => runsTo_of_onNow rfl (does_feq S.dev k rd ra rb h0),
    fun S k rd ra rb h0 => runsTo_of_onNow rfl (does_flt S.dev k rd ra rb h0),
    fun S k rd ra rb h0 => runsTo_of_onNow rfl (does_fle S.dev k rd ra rb h0),
    fun S k rd ra h0 => runsTo_of_onNow rfl (does_fcvtws S.dev k rd ra h0),
    fun S k rd ra h0 => runsTo_of_onNow rfl (does_fcvtsw S.dev k rd ra h0),
    fun S k rd ra h0 => runsTo_of_onNow rfl (does_fmvws S.dev k rd ra h0),
    fun S k rd ra h0 => runsTo_of_onNow rfl (does_fmvsw S.dev k rd ra h0),
    fun S k rd ra h0 => runsTo_of_onNow rfl (does_fabs S.dev k rd ra h0),
    fun S k rd ra h0 => runsTo_of_onNow rfl (does_fneg S.dev k rd ra h0)⟩

/-- Settles O59: accesses that stay in local SRAM. -/
theorem memoryInstructionsComplete : Obligations.MemoryInstructionsComplete := by
  unfold Obligations.MemoryInstructionsComplete
  exact ⟨
    fun S k rd ra disp h0 h1 h2 => runsTo_of_onNow rfl (does_ldb S.dev k rd ra disp h0 h1 h2),
    fun S k rd ra disp h0 h1 h2 => runsTo_of_onNow rfl (does_ldbu S.dev k rd ra disp h0 h1 h2),
    fun S k rd ra disp h0 h1 h2 => runsTo_of_onNow rfl (does_ldh S.dev k rd ra disp h0 h1 h2),
    fun S k rd ra disp h0 h1 h2 => runsTo_of_onNow rfl (does_ldhu S.dev k rd ra disp h0 h1 h2),
    fun S k rd ra disp h0 h1 h2 => runsTo_of_onNow rfl (does_ldw S.dev k rd ra disp h0 h1 h2),
    fun S k rd ra disp h0 h1 h2 => runsTo_of_onNow rfl (does_flw S.dev k rd ra disp h0 h1 h2),
    fun S k rs ra disp h0 h1 h2 h3 => runsTo_of_onNow rfl (does_stb S.dev k rs ra disp h0 h1 h2 h3),
    fun S k rs ra disp h0 h1 h2 h3 => runsTo_of_onNow rfl (does_sth S.dev k rs ra disp h0 h1 h2 h3),
    fun S k rs ra disp h0 h1 h2 h3 => runsTo_of_onNow rfl (does_stw S.dev k rs ra disp h0 h1 h2 h3),
    fun S k rs ra disp h0 h1 h2 h3 => runsTo_of_onNow rfl (does_fsw S.dev k rs ra disp h0 h1 h2 h3),
    fun S k rd ra rb h0 h1 h2 h3 h4 => runsTo_of_onNow rfl (does_swapw S.dev k rd ra rb h0 h1 h2 h3 h4),
    fun S k rd ra rb h0 h1 h2 h3 h4 => runsTo_of_onNow rfl (does_addw S.dev k rd ra rb h0 h1 h2 h3 h4)⟩

/-- Settles O60: the special instructions on the present device, waits and events at their instant. -/
theorem systemInstructionsComplete : Obligations.SystemInstructionsComplete := by
  unfold Obligations.SystemInstructionsComplete
  exact ⟨
    fun S k code h0 => runsTo_of_onNow rfl (does_trap S.dev k code h0),
    fun S k h0 h1 => runsTo_of_onNow rfl (does_rete S.dev k h0 h1),
    fun S k rd sr v h0 h1 h2 => runsTo_of_onNow rfl (does_mfsr S.dev k rd sr v h0 h1 h2),
    fun S k ra sr h0 h1 h2 => runsTo_of_onNow rfl (does_mtsr S.dev k ra sr h0 h1 h2),
    fun S k rd ra h0 h1 h2 h3 => runsTo_of_onNow rfl (does_sigrd S.dev k rd ra h0 h1 h2 h3),
    fun S k rd ra h0 h1 h2 h3 => runsTo_of_onNow rfl (does_sigwr S.dev k rd ra h0 h1 h2 h3),
    fun S k rd ra rb h0 h1 h2 h3 h4 h5 h6 => runsTo_of_onNow rfl (does_qpost S.dev k rd ra rb h0 h1 h2 h3 h4 h5 h6),
    fun S k rd ra rb h0 h1 h2 h3 h4 => runsTo_of_onNow rfl (does_qtake S.dev k rd ra rb h0 h1 h2 h3 h4),
    fun S k rd ra rb h0 h1 h2 h3 => runsTo_of_onNow rfl (does_await_none S.dev k rd ra rb h0 h1 h2 h3),
    fun S k rd ra rb n h0 h1 h2 h3 => runsTo_of_onNow rfl (does_await S.dev k rd ra rb n h0 h1 h2 h3),
    fun S k minority split h0 h1 => runsTo_of_onNow rfl (does_ckpt S.dev k minority split h0 h1),
    fun S k h0 h1 => runsTo_of_onNow rfl (does_sync S.dev k h0 h1),
    fun S k h0 h1 => runsTo_of_onNow rfl (does_undefinedEncoding S.dev k h0 h1),
    fun S T k rd lo hi n hs h0 h1 h2 => runsTo_of_on rfl hs (does_awaitWake (S.dev.at T) k rd lo hi n h0 h1 h2),
    fun S T k rd v q hs h0 => runsTo_of_on rfl hs (does_assuredQueueComplete (S.dev.at T) k rd v q h0),
    fun S T k hs h0 => runsTo_of_on rfl hs (does_syncComplete (S.dev.at T) k h0),
    fun S T k n hs h0 h1 h2 => runsTo_of_on rfl hs (does_eventTaken (S.dev.at T) k n h0 h1 h2),
    fun S T k n hs h0 h1 h2 h3 h4 => runsTo_of_on rfl hs (does_corTimerFire (S.dev.at T) k n h0 h1 h2 h3 h4),
    fun S T w v hs h0 h1 h2 => runsTo_of_on rfl hs (does_corSwev (S.dev.at T) w v h0 h1 h2)⟩

end Sys2Proof.Machine
end

section
/-! PROOFS. A thermal shutdown stays latched (R391, R392). A stopped module serves only the commands of the supply, of the
calendar and of the temperature samples; of these every operation leaves THM_STAT.SHUT as it is, but for the fall of both feeds
below the reset level. -/

namespace Sys2Proof.Machine

/-! ## What a stopped module serves -/

theorem Dev.at_por (d : Dev) (T : Time) : (d.at T).por = d.por := by
  unfold Dev.at Dev.setTime Dev.rtcAdvance
  dsimp only
  repeat' split
  all_goals rfl

theorem Dev.at_sup (d : Dev) (T : Time) : (d.at T).sup = d.sup := by
  unfold Dev.at Dev.setTime Dev.rtcAdvance
  dsimp only
  repeat' split
  all_goals rfl

theorem Dev.stopped_at (d : Dev) (T : Time) : (d.at T).stopped = d.stopped := by
  unfold Dev.stopped
  rw [Dev.at_por, Dev.isSet_at d T _ _ (by decide) (by decide)]

theorem exec_on_stopped {i : Instr} {s : State} {T : Time} {f : Dev → Dev} (hi : exec i s = s.on T f)
    (h : s.dev.stopped = true) : exec i s = .next { s with dev := s.dev.at T } := by
  rw [hi, State.on, State.onAny, Dev.stopped_at, h, if_pos rfl]

theorem Dev.instr_stopped (d : Dev) (t : Nat) (body : Dev → Dev) (h : d.stopped = true) : d.instr t body = d := by
  unfold Dev.instr
  simp [h]

theorem exec_instr_stopped {i : Instr} {s : State} {t : Nat} {body : Dev → Dev}
    (hi : exec i s = s.onNow (fun d => d.instr t body)) (h : s.dev.stopped = true) : exec i s = .next s := by
  rw [hi, State.onNow, Dev.instr_stopped _ _ _ h]

/-- A command that a stopped module does not serve is an instruction of a core, which leaves the state, or a command that lets
time pass up to its instant. -/
theorem exec_stopped (c : Instr) (s : State) (hc : servesStopped c = false) (h : s.dev.stopped = true) :
    exec c s = .next s ∨ ∃ T, exec c s = .next { s with dev := s.dev.at T } := by
  cases c
  case rtcOscFail | vbkupLoss | rtcLoad | rtcCaptureDone | feedWired | feedsValid | feedMissing | porRelease | supWarning
      | supRecoveryStart | supRecoveryAbort | supRecovered | feedLost | feedReturn | overvoltage | ovReconnect | porAssert
      | railFault | vbkupMeasure | stormClear | thmDieSample | thmNtcSample => exact nomatch hc
  case add | sub | and_ | or_ | xor_ | shl | shr | sar | rot | slt | sltu | mul | mulh | mulhu | div | divu | rem | remu | addi | andi
      | ori | xori | shli | shri | sari | slti | sltiu | lui | ldb | ldbu | ldh | ldhu | ldw | flw | stb | sth | stw | fsw | swapw
      | addw | beq | bne | blt | bge | bltu | bgeu | j | jal | jalr | fadd | fsub | fmul | fdiv | fsqrt | fmin | fmax | feq | flt
      | fle | fcvtws | fcvtsw | fmvws | fmvsw | fabs | fneg | trap | rete | mfsr | mtsr | sigrd | sigwr | qpost | qtake | await
      | ckpt | sync | undefinedEncoding => exact .inl (exec_instr_stopped rfl h)
  case stimeLoRead t k => exact .inr ⟨t, exec_on_stopped (f := fun d => (d.readStimeLo k).2) rfl h⟩
  case rtcSubRead t k => exact .inr ⟨t, exec_on_stopped (f := fun d => (d.readRtcSub k).2) rfl h⟩
  case safeqRead t => exact .inr ⟨t, exec_on_stopped (f := fun d => d.safeqPop.2) rfl h⟩
  case bkgReqCmpCheck t k n r =>
    exact .inr ⟨t, exec_on_stopped (f := fun d => (d.bkgRequest k (reqWord 2 n)).whenSome r
      (fun p d => if d.reqIs k 2 n then d.dacReadback n p.1 p.2 else d)) rfl h⟩
  all_goals exact .inr ⟨_, exec_on_stopped rfl h⟩

/-! ## The shutdown bit under the operations on registers -/

/-- THM_STAT.SHUT is set. -/
def Dev.shut (d : Dev) : Prop := d.isSet THM_STAT THM_STAT_SHUT = true

section
variable {d : Dev}

theorem Dev.shut_stopped (h : d.shut) : d.stopped = true := by
  unfold Dev.stopped
  rw [h, Bool.or_true]

theorem Dev.shut_ite {c : Prop} [Decidable c] {a b : Dev} (ha : a.shut) (hb : b.shut) : (if c then a else b).shut := by
  split
  · exact ha
  · exact hb

theorem Dev.shut_foldl {α : Type} {g : Dev → α → Dev} {xs : List α} (hg : ∀ d x, Dev.shut d → (g d x).shut) (h : d.shut) :
    (xs.foldl g d).shut := by
  induction xs generalizing d with
  | nil => exact h
  | cons x r ih => exact ih (hg d x h)

theorem Dev.shut_forEach {xs : List Nat} {op : Nat → Dev → Dev} (hop : ∀ n d, Dev.shut d → (op n d).shut) (h : d.shut) :
    (d.forEach xs op).shut :=
  Dev.shut_foldl (fun d n => hop n d) h

theorem Dev.shut_when {c : Bool} {op : Dev → Dev} (hop : ∀ d, Dev.shut d → (op d).shut) (h : d.shut) : (d.when c op).shut :=
  Dev.shut_ite (hop d h) h

theorem Dev.shut_whenSome {α : Type} {o : Option α} {op : α → Dev → Dev} (hop : ∀ x d, Dev.shut d → (op x d).shut) (h : d.shut) :
    (d.whenSome o op).shut := by
  cases o with
  | none => exact h
  | some x => exact hop x d h

theorem Dev.shut_wr {a : Nat} {v : W} (ha : THM_STAT ≠ a) (h : d.shut) : (d.wr a v).shut := by
  rw [Dev.shut, Dev.isSet_wr_ne _ _ _ _ _ ha]
  exact h

theorem Dev.shut_setF {a : Nat} {f : Fld} {v : Nat} (ha : THM_STAT ≠ a) (h : d.shut) : (d.setF a f v).shut :=
  Dev.shut_wr ha h

/-- Another field of THM_STAT. -/
theorem Dev.shut_setF_field {f : Fld} {v : Nat} (hf : f.lo + f.wd ≤ 31) (h : d.shut) : (d.setF THM_STAT f v).shut := by
  rw [Dev.shut, Dev.isSet_setF_field _ _ _ _ _ (Nat.le_succ_of_le hf) (.inl hf)]
  exact h

theorem Dev.shut_setSelf : (d.setF THM_STAT THM_STAT_SHUT 1).shut := by
  rw [Dev.shut, Dev.isSet_setF_self _ _ _ _ (by decide)]
  rfl

theorem Dev.shut_wr64 {lo hi : Nat} {v : BitVec 64} (hlo : THM_STAT ≠ lo) (hhi : THM_STAT ≠ hi) (h : d.shut) :
    (d.wr64 lo hi v).shut :=
  Dev.shut_wr hhi (Dev.shut_wr hlo h)

/-- A triad's own copy of a register lies beyond every address. -/
theorem Dev.shut_wrOwn {t a : Nat} {v : W} (h : d.shut) : (d.wrOwn t a v).shut :=
  Dev.shut_wr (Nat.ne_of_lt (Nat.lt_of_lt_of_le (by decide) (Nat.le_trans (Nat.le_mul_of_pos_right _ t.succ_pos) (Nat.le_add_left _ _)))) h

theorem Dev.shut_evt {code : Nat} {data : List Nat} (h : d.shut) : (d.evt code data).shut := by
  rw [Dev.shut, Dev.isSet_evt _ _ _ _ _ (by decide)]
  exact h

theorem Dev.shut_evtRated {code inst : Nat} {name : List Nat} (h : d.shut) : (d.evtRated code inst name).shut := by
  rw [Dev.shut, Dev.isSet_evtRated _ _ _ _ _ _ (by decide)]
  exact h

theorem Dev.shut_at {T : Time} (h : d.shut) : (d.at T).shut := by
  rw [Dev.shut, Dev.isSet_at _ _ _ _ (by decide) (by decide)]
  exact h

theorem Dev.shut_rtcAdvance {n : Nat} (h : d.shut) : (d.rtcAdvance n).shut := by
  unfold Dev.rtcAdvance
  dsimp only
  exact Dev.shut_ite h (Dev.shut_ite h (Dev.shut_wr (by decide) (Dev.shut_wr (by decide) h)))

/-- A change of the register table that leaves every entry of THM_STAT. -/
theorem Dev.shut_filter {p : Nat × W → Bool} {c : Calendar} (hp : ∀ w, p (THM_STAT, w) = true) (h : d.shut) :
    Dev.shut { d with regs := d.regs.filter p, cal := c } := by
  have hrd : Tab.getD (regReset THM_STAT) (d.regs.filter p) THM_STAT = d.rd THM_STAT := by
    unfold Dev.rd
    induction d.regs with
    | nil => rfl
    | cons q r ih =>
      obtain ⟨a, w⟩ := q
      by_cases ha : a = THM_STAT
      · subst ha
        rw [List.filter_cons_of_pos (hp w), Tab.getD, Tab.getD, if_pos rfl, if_pos rfl]
      · rw [Tab.getD, if_neg ha, ← ih, List.filter_cons]
        split
        · rw [Tab.getD, if_neg ha]
        · rfl
  unfold Dev.shut Dev.isSet Dev.fld Dev.rd at h ⊢
  rw [hrd]
  exact h

/-! ## The calendar and the supply -/

theorem Dev.shut_rtcOscFail (h : d.shut) : d.rtcOscFail.shut :=
  Dev.shut_ite h (Dev.shut_evt (Dev.shut_setF (by decide) h))

theorem Dev.shut_vbkupLoss (h : d.shut) : d.vbkupLoss.shut := Dev.shut_ite (b := d) h h

theorem Dev.shut_rtcLoad (h : d.shut) : d.rtcLoad.shut :=
  have hloaded : Dev.shut (((d.wr RTC_SEC (d.rd RTC_SETSEC)).wr RTC_SUB 0).setF RTC_STAT RTC_STAT_LOST 0) :=
    Dev.shut_setF (by decide) (Dev.shut_wr (by decide) (Dev.shut_wr (by decide) h))
  Dev.shut_ite h (Dev.shut_evt hloaded)

theorem Dev.shut_rtcCapDone {edge : Time} (h : d.shut) : (d.rtcCapDone edge).shut :=
  Dev.shut_ite h (Dev.shut_setF (by decide)
    (Dev.shut_wr64 (by decide) (by decide) (Dev.shut_wr (by decide) (Dev.shut_wr (by decide) h))))

theorem Dev.shut_feeds {va vb : Nat} (h : d.shut) : (d.feeds va vb).shut :=
  Dev.shut_setF (by decide) (Dev.shut_setF (by decide) (Dev.shut_setF (by decide) h))

theorem Dev.shut_supEvt {code f va vb : Nat} (h : d.shut) : (d.supEvt code f va vb).shut := Dev.shut_evt h

/-- A bit of SUP_STAT for each feed that meets a condition. -/
theorem Dev.shut_feedBits {p : Nat → Bool} {v : Nat} (h : d.shut) :
    (d.forEach [0, 1] (fun f d => d.when (p f) (fun d => d.setF SUP_STAT (okField f) v))).shut :=
  Dev.shut_forEach (fun _ _ => Dev.shut_when (fun _ => Dev.shut_setF (by decide))) h

theorem Dev.shut_feedsFall {va vb : Nat} (h : d.shut) : (d.feedsFall va vb).shut := Dev.shut_feedBits (Dev.shut_feeds h)

theorem Dev.shut_feedWired {f va vb : Nat} (h : d.shut) : (d.feedWired f va vb).shut := Dev.shut_ite (b := d) h h

theorem Dev.shut_feedsValid {va vb : Nat} (h : d.shut) : (d.feedsValid va vb).shut := Dev.shut_ite (b := d) h h

theorem Dev.shut_feedMissing {f va vb : Nat} (h : d.shut) : (d.feedMissing f va vb).shut := Dev.shut_ite (b := d) h h

theorem Dev.shut_powerUp {cycles va vb : Nat} (h : d.shut) : (d.powerUp cycles va vb).shut := by
  unfold Dev.powerUp
  lift_lets
  intro lost _ released fed _ kept
  have hfed : fed.shut := Dev.shut_feedBits (Dev.shut_feeds (d := released) h)
  have hkept : kept.shut := Dev.shut_filter (fun _ => rfl) hfed
  exact Dev.shut_ite (Dev.shut_evt (Dev.shut_setF (by decide) (Dev.shut_setF (by decide) (Dev.shut_wr (by decide)
    (Dev.shut_wr (by decide) hkept))))) (Dev.shut_rtcAdvance hfed)

theorem Dev.shut_porRelease {cycles va vb : Nat} (h : d.shut) : (d.porRelease cycles va vb).shut := by
  unfold Dev.porRelease
  lift_lets
  intro up cause reported named
  have hnamed : named.shut := Dev.shut_whenSome (fun _ _ => Dev.shut_supEvt) (Dev.shut_evt (Dev.shut_powerUp h))
  exact Dev.shut_ite h hnamed

theorem Dev.shut_dipStorm {va vb : Nat} (h : d.shut) : (d.dipStorm va vb).shut := by
  unfold Dev.dipStorm
  lift_lets
  intro flagged due
  have hflagged : flagged.shut := Dev.shut_setF (by decide) (Dev.shut_setF (by decide) h)
  exact Dev.shut_ite h (Dev.shut_ite (Dev.shut_supEvt (d := { flagged with sup := _ }) hflagged) hflagged)

theorem Dev.shut_commitWarned (h : d.shut) : d.commitWarned.shut :=
  Dev.shut_ite (Dev.shut_evt (Dev.shut_setF (by decide) h)) h

theorem Dev.shut_reqDefer {t : Nat} (h : d.shut) : (d.reqDefer t).shut :=
  have hshown : (d.wrOwn t BKG_RES (BitVec.ofNat 32 brDeferred)).shut := Dev.shut_wrOwn h
  Dev.shut_evtRated (Dev.shut_setF (d := { d.wrOwn t BKG_RES (BitVec.ofNat 32 brDeferred) with bkg := _ }) (by decide) hshown)

theorem Dev.shut_modChgs {g : Chg → Chg} (h : d.shut) : (d.forEach [0, 1] (fun c d => d.modChg c g)).shut :=
  Dev.shut_forEach (fun _ _ h => h) h

theorem Dev.shut_warnRest {va vb : Nat} (h : d.shut) : (d.warnRest va vb).shut := by
  unfold Dev.warnRest
  lift_lets
  intro _ dipped counted restored suspended deferred
  have hcounted : counted.shut := Dev.shut_setF (by decide) (Dev.shut_setF (d := dipped) (by decide) h)
  have hrestored : restored.shut := Dev.shut_setF (by decide) (Dev.shut_dipStorm hcounted)
  have hdeferred : deferred.shut :=
    Dev.shut_forEach (fun _ _ => Dev.shut_when (fun _ => Dev.shut_reqDefer)) (Dev.shut_modChgs hrestored)
  exact Dev.shut_commitWarned (Dev.shut_setF (by decide) hdeferred)

theorem Dev.shut_supWarning {va vb : Nat} (h : d.shut) : (d.supWarning va vb).shut := by
  have hfall : (d.feedsFall va vb).shut := Dev.shut_feedsFall h
  exact Dev.shut_ite h (Dev.shut_ite hfall (Dev.shut_ite hfall (Dev.shut_warnRest (Dev.shut_supEvt
    (Dev.shut_wr64 (by decide) (by decide) (Dev.shut_setF (by decide) (Dev.shut_setF (by decide) hfall)))))))

theorem Dev.shut_recoveryStart {va vb : Nat} (h : d.shut) : (d.recoveryStart va vb).shut := by
  have hbits := Dev.shut_feedBits (p := fun f => decide (7400 < feedOf f va vb)) (v := 1)
    (Dev.shut_setF (f := SUP_STAT_RECOVERING) (v := 1) (by decide : THM_STAT ≠ SUP_STAT) (Dev.shut_feeds (va := va) (vb := vb) h))
  exact Dev.shut_ite h hbits

theorem Dev.shut_recoveryAbort {va vb : Nat} (h : d.shut) : (d.recoveryAbort va vb).shut :=
  Dev.shut_ite (Dev.shut_setF (by decide) (Dev.shut_feedsFall h)) h

theorem Dev.shut_recovered {va vb : Nat} (h : d.shut) : (d.recovered va vb).shut := by
  unfold Dev.recovered
  lift_lets
  intro cleared reported resumed
  have hcleared : cleared.shut := Dev.shut_setF (by decide) (Dev.shut_setF (by decide) (Dev.shut_feeds h))
  have hresumed : resumed.shut := Dev.shut_modChgs (Dev.shut_supEvt hcleared)
  exact Dev.shut_ite h hresumed

theorem Dev.shut_feedLost {f va vb : Nat} (h : d.shut) : (d.feedLost f va vb).shut :=
  Dev.shut_ite (Dev.shut_supEvt (Dev.shut_setF (by decide) (Dev.shut_setF (by decide) (Dev.shut_feeds h)))) h

theorem Dev.shut_feedReturn {f va vb : Nat} (h : d.shut) : (d.feedReturn f va vb).shut :=
  Dev.shut_ite (Dev.shut_supEvt (Dev.shut_setF (by decide) (Dev.shut_feeds h))) h

theorem Dev.shut_overvoltage {f va vb : Nat} (h : d.shut) : (d.overvoltage f va vb).shut := by
  have hfed : (({ d with sup := { d.sup with ov := d.sup.ov ++ [f] } } : Dev).feeds va vb).shut := Dev.shut_feeds h
  exact Dev.shut_ite (Dev.shut_supEvt (Dev.shut_setF (by decide) (Dev.shut_setF (by decide) hfed))) h

theorem Dev.shut_ovReconnect {f va vb : Nat} (h : d.shut) : (d.ovReconnect f va vb).shut := by
  have hfed : (({ d with sup := { d.sup with ov := d.sup.ov.filter (· ≠ f) } } : Dev).feeds va vb).shut := Dev.shut_feeds h
  exact Dev.shut_ite (Dev.shut_setF (by decide) hfed) h

theorem Dev.shut_vbkupMeasure {mv : Nat} (h : d.shut) : (d.vbkupMeasure mv).shut :=
  Dev.shut_setF (d := { d with sup := _ }) (by decide) h

theorem Dev.shut_stormClear (h : d.shut) : d.stormClear.shut := Dev.shut_ite (Dev.shut_setF (by decide) h) h

/-- Only a fall of VIN_OR below the reset level ends the shutdown. -/
theorem Dev.shut_porAssert {va vb : Nat} (hvin : 5500 ≤ d.vin va vb) (h : d.shut) : (d.porAssert va vb).shut := by
  unfold Dev.porAssert
  rw [if_pos hvin]
  exact h

/-- A rail fault sets the bit again in the registers that a loss of power leaves. -/
theorem Dev.shut_railFault {r : Nat} (h : d.shut) : (d.railFault r).shut := by
  unfold Dev.railFault
  lift_lets
  intro shut off
  have hshut : shut = true := h
  have hoff : off.shut := by
    simp only [off, hshut, Dev.when, if_true]
    exact Dev.shut_setF (by decide) Dev.shut_setSelf
  exact Dev.shut_ite h (Dev.shut_wr (by decide) hoff)

/-! ## The temperature samples -/

theorem thmStat_ne_of_lt {a : Nat} (h : THM_STAT < a) : THM_STAT ≠ a := Nat.ne_of_lt h

theorem thmStat_ne_die (i : Nat) : THM_STAT ≠ THM_DIE i :=
  thmStat_ne_of_lt (Nat.lt_of_lt_of_le (by decide) (Nat.le_add_right _ _))

theorem thmStat_ne_reg (r : Nat) : THM_STAT ≠ THM_REG r :=
  thmStat_ne_of_lt (Nat.lt_of_lt_of_le (by decide) (Nat.le_add_right _ _))

theorem thmStat_ne_ntct (n : Nat) : THM_STAT ≠ THM_NTCT n :=
  thmStat_ne_of_lt (Nat.lt_of_lt_of_le (by decide) (Nat.le_add_right _ _))

theorem thmStat_ne_k (f : Nat) : THM_STAT ≠ THM_K f :=
  thmStat_ne_of_lt (Nat.lt_of_lt_of_le (by decide) (Nat.le_add_right _ _))

theorem Dev.shut_putBit {a i : Nat} {x : Bool} (ha : THM_STAT ≠ a) (h : d.shut) : (d.putBit a i x).shut := Dev.shut_wr ha h

theorem Dev.shut_sensorState {reg name : Nat} {s : Sensor} {split : Bool} (hreg : THM_STAT ≠ reg) (h : d.shut) :
    (d.sensorState reg name s split).2.shut := by
  unfold Dev.sensorState
  lift_lets
  intro bad temp body shown was flagged
  have hshown : shown.shut := Dev.shut_setF hreg h
  have hflagged : flagged.shut := Dev.shut_putBit hreg hshown
  split
  · refine Dev.shut_when (op := fun d => (d.setF THM_FLT THM_FLT_BROKEN 1).evt EV_THM_SENSOR_BROKEN body) (fun _ h => ?_) hflagged
    exact Dev.shut_evt (Dev.shut_setF (by decide) h)
  · split
    · split
      · exact hshown
      · split
        · exact Dev.shut_evt (Dev.shut_putBit hreg hshown)
        · exact hshown
    · exact hshown

theorem Dev.shut_dieTake {rs : List (Option (Nat × Int))} (h : d.shut) : (d.dieTake rs).shut := by
  unfold Dev.dieTake
  lift_lets
  intro _ begun taken judged regions
  have htaken : taken.shut := Dev.shut_forEach (d := begun) (fun _ _ h => h) h
  have hjudged : judged.shut := Dev.shut_forEach (fun i _ h => Dev.shut_sensorState (thmStat_ne_die i) h) htaken
  have hregions : regions.shut := Dev.shut_forEach (fun r _ => Dev.shut_setF (thmStat_ne_reg r)) hjudged
  exact Dev.shut_setF_field (by decide) (Dev.shut_setF_field (by decide) hregions)

theorem Dev.shut_dieSample {rs : List (Option (Nat × Int))} (h : d.shut) : (d.dieSample rs).shut := by
  unfold Dev.dieSample
  dsimp only
  have htaken : (d.dieTake rs).shut := Dev.shut_dieTake h
  split
  · exact h
  · rw [show (d.dieTake rs).isSet THM_STAT THM_STAT_SHUT = true from htaken, if_pos rfl]
    exact htaken

theorem Dev.shut_ntcTake {n : Nat} {r : Option Int} (h : d.shut) : (d.ntcTake n r).shut := by
  unfold Dev.ntcTake
  lift_lets
  intro measured reading _ taken pair split
  have hmeasured : measured.shut := Dev.shut_whenSome (fun _ _ h => h) h
  exact Dev.shut_sensorState (d := taken) (thmStat_ne_ntct n) hmeasured

theorem Dev.shut_ntcLevel {n : Nat} (h : d.shut) : (d.ntcLevel n).shut := by
  unfold Dev.ntcLevel
  lift_lets
  intro temp der old new _ marked
  exact Dev.shut_ite (Dev.shut_evt (Dev.shut_setF (d := marked) (by decide) h)) (b := marked) h

theorem Dev.shut_kUpdate (h : d.shut) : d.kUpdate.shut :=
  Dev.shut_forEach (fun f d h => Dev.shut_ite
    (Dev.shut_wr (d := { d with thm := _ }) (thmStat_ne_k f) h) (b := { d with thm := _ }) h) h

theorem Dev.shut_ntcSample {n : Nat} {r : Option Int} (h : d.shut) : (d.ntcSample n r).shut :=
  Dev.shut_ite h (Dev.shut_kUpdate (Dev.shut_ntcLevel (Dev.shut_ntcTake h)))

/-! ## The idle tick -/

theorem Dev.shut_reqServed {kind target : Nat} {pass : Bool} (h : d.shut) : (d.reqServed kind target pass).shut :=
  Dev.shut_forEach (fun _ _ => Dev.shut_when (fun _ h => Dev.shut_wrOwn (Dev.shut_wrOwn h))) h

theorem thmStat_ne_scrub (m : Nat) : THM_STAT ≠ BKG_SCRUB m :=
  thmStat_ne_of_lt (Nat.lt_of_lt_of_le (by decide) (Nat.le_add_right _ _))

theorem Dev.shut_scrubTick (h : d.shut) : d.scrubTick.shut :=
  Dev.shut_ite h (Dev.shut_forEach (fun m _ h => Dev.shut_reqServed (d := { Dev.setF _ _ _ _ with bkg := _ })
    (Dev.shut_setF (thmStat_ne_scrub m) (Dev.shut_setF (thmStat_ne_scrub m) h))) (d := { d with asked := _ }) h)

theorem Dev.shut_idle (h : d.shut) : d.idle.shut := Dev.shut_scrubTick (Dev.shut_at h)

end

/-! ## Every command -/

theorem exec_onAny_shut {i : Instr} {s : State} {T : Time} {f : Dev → Dev} (hi : exec i s = s.onAny T f)
    (hf : ∀ d, Dev.shut d → (f d).shut) (h : s.dev.shut) : ∃ u, exec i s = .next u ∧ u.dev.shut :=
  ⟨_, hi, hf _ (Dev.shut_at h)⟩

/-- A command that does nothing while power-on reset is asserted. -/
theorem exec_powered_shut {i : Instr} {s : State} {T : Time} {f : Dev → Dev}
    (hi : exec i s = s.onAny T (fun d => if d.por then d else f d))
    (hf : ∀ d, Dev.shut d → (f d).shut) (h : s.dev.shut) : ∃ u, exec i s = .next u ∧ u.dev.shut :=
  exec_onAny_shut hi (fun d h => Dev.shut_ite h (hf d h)) h

theorem exec_shut (c : Instr) (s : State) (h : s.dev.shut) (hpor : ∀ t va vb, c = .porAssert t va vb → 5500 ≤ s.dev.vin va vb) :
    ∃ u, exec c s = .next u ∧ u.dev.shut := by
  by_cases hc : servesStopped c = false
  · rcases exec_stopped c s hc (Dev.shut_stopped h) with he | ⟨T, he⟩
    · exact ⟨s, he, h⟩
    · exact ⟨_, he, Dev.shut_at h⟩
  cases c
  case rtcOscFail => exact exec_powered_shut rfl (fun _ => Dev.shut_rtcOscFail) h
  case vbkupLoss => exact exec_onAny_shut rfl (fun _ => Dev.shut_vbkupLoss) h
  case rtcLoad => exact exec_powered_shut rfl (fun _ => Dev.shut_rtcLoad) h
  case rtcCaptureDone => exact exec_powered_shut rfl (fun _ => Dev.shut_rtcCapDone) h
  case feedWired => exact exec_onAny_shut rfl (fun _ => Dev.shut_feedWired) h
  case feedsValid => exact exec_onAny_shut rfl (fun _ => Dev.shut_feedsValid) h
  case feedMissing => exact exec_onAny_shut rfl (fun _ => Dev.shut_feedMissing) h
  case porRelease => exact exec_onAny_shut rfl (fun _ => Dev.shut_porRelease) h
  case supWarning => exact exec_powered_shut rfl (fun _ => Dev.shut_supWarning) h
  case supRecoveryStart => exact exec_powered_shut rfl (fun _ => Dev.shut_recoveryStart) h
  case supRecoveryAbort => exact exec_powered_shut rfl (fun _ => Dev.shut_recoveryAbort) h
  case supRecovered => exact exec_powered_shut rfl (fun _ => Dev.shut_recovered) h
  case feedLost => exact exec_powered_shut rfl (fun _ => Dev.shut_feedLost) h
  case feedReturn => exact exec_powered_shut rfl (fun _ => Dev.shut_feedReturn) h
  case overvoltage => exact exec_powered_shut rfl (fun _ => Dev.shut_overvoltage) h
  case ovReconnect => exact exec_powered_shut rfl (fun _ => Dev.shut_ovReconnect) h
  case porAssert t va vb =>
    have hvin : 5500 ≤ (s.dev.at t).vin va vb := by
      rw [Dev.vin, Dev.at_sup, ← Dev.vin]
      exact hpor t va vb rfl
    exact ⟨_, rfl, Dev.shut_porAssert hvin (Dev.shut_at h)⟩
  case railFault => exact exec_onAny_shut rfl (fun _ => Dev.shut_railFault) h
  case vbkupMeasure => exact exec_powered_shut rfl (fun _ => Dev.shut_vbkupMeasure) h
  case stormClear => exact exec_powered_shut rfl (fun _ => Dev.shut_stormClear) h
  case thmDieSample => exact exec_onAny_shut rfl (fun _ => Dev.shut_dieSample) h
  case thmNtcSample => exact exec_onAny_shut rfl (fun _ => Dev.shut_ntcSample) h
  all_goals exact absurd rfl hc

/-- Settles O8: a step is an idle tick or the command in front, and each leaves the bit. -/
theorem shutdownStaysLatched : Obligations.ShutdownStaysLatched := by
  unfold Obligations.ShutdownStaysLatched
  rintro ⟨pending, d⟩ hshut hpor
  cases pending with
  | nil => exact ⟨_, rfl, Dev.shut_idle hshut⟩
  | cons c rest => exact exec_shut c ⟨rest, d⟩ hshut (fun t va vb hc => hpor t va vb (congrArg some hc))

end Sys2Proof.Machine
end

section
/-! PROOFS. The logs and lists: the event log (R72), the safety queue (R371), the cullet list (R277), the audit log (R421), and the
OPEN that finds no room (R410). -/

namespace Sys2Proof.Machine

/-! ## The event log -/

theorem Dev.rd_cnt_logEvent (d : Dev) (cls code src : Nat) (data : List Byte) :
    (d.logEvent cls code src data).rd SYS_EVT_CNT = d.rd SYS_EVT_CNT + 1 := by
  unfold Dev.logEvent
  rw [Dev.raiseWhere_rd _ _ _ (by decide), Dev.rd_inc32_self, Dev.setF, Dev.rd_wr_ne _ _ _ _ (by decide)]
  rfl

theorem Dev.logEvent_gales (d : Dev) (cls code src : Nat) (data : List Byte) : (d.logEvent cls code src data).gales =
    if cls = clsGale then keepGale ⟨d.now, d.rd RTC_SEC, code, src, cls, data⟩ d.gales else d.gales := by
  unfold Dev.logEvent
  rw [Dev.raiseWhere_gales]
  rfl

/-- Settles O17. -/
theorem eventLogRing : Obligations.EventLogRing := by
  unfold Obligations.EventLogRing
  intro d cls code src data e h
  have hrec : Tab.getD default e.log h = ⟨d.now, d.rd RTC_SEC, code, src, cls, data⟩ := record_logEvent d cls code src data
  have hcalm : d.calm e := Dev.calm_logEvent cls code src data d
  refine ⟨d.head_lt, Dev.head_logEvent d cls code src data, Dev.rd_cnt_logEvent d cls code src data, hrec, fun k hk => ?_, ?_,
    onlyRegs_calm hcalm, sameMem_calm hcalm⟩
  · rw [Dev.logEvent_log, Tab.getD_set_ne _ _ _ _ _ hk]
  · rw [hrec]
    exact Dev.logEvent_gales d cls code src data

/-! ## The safety queue -/

theorem Dev.logEvent_safeq (d : Dev) (cls code src : Nat) (data : List Byte) : (d.logEvent cls code src data).safeq = d.safeq := by
  unfold Dev.logEvent
  rw [Dev.raiseWhere_safeq]
  rfl

theorem Dev.rated_safeq (d : Dev) (cls code inst gap : Nat) (mk : Nat → List Byte) :
    (d.rated cls code inst gap mk).safeq = d.safeq := by
  unfold Dev.rated
  lift_lets
  intro key r n due
  split
  · exact Dev.logEvent_safeq _ _ _ _ _
  · rfl

theorem Dev.raiseLine_safeq (d : Dev) (t l : Nat) : (d.raiseLine t l).safeq = d.safeq := by
  unfold Dev.raiseLine
  split <;> rfl

theorem Dev.dropLine_safeq (d : Dev) (t l : Nat) : (d.dropLine t l).safeq = d.safeq := by
  unfold Dev.dropLine
  split <;> rfl

theorem Dev.toSafeq_room (d : Dev) (code : Nat) (h : d.safeq.length < 256) :
    d.toSafeq code = ({ d with safeq := d.safeq ++ [code] } : Dev).raiseLine 0 8 := if_pos h

theorem Dev.bit_raiseLine_low (d : Dev) (t l : Nat) (h : l < 32) : (d.raiseLine t l).bit (COR_EVPEND0 t) l = true := by
  rw [Dev.raiseLine, if_pos h, Dev.bit_putBit _ _ _ _ _ h, if_pos rfl]

theorem Dev.bit_dropLine_low (d : Dev) (t l : Nat) (h : l < 32) : (d.dropLine t l).bit (COR_EVPEND0 t) l = false := by
  rw [Dev.dropLine, if_pos h, Dev.bit_putBit _ _ _ _ _ h, if_pos rfl]

theorem Dev.regShown_safeq (d : Dev) (t : Nat) : d.regShown t (COR_SAFEQ 0) = d.safeqPop.1 := rfl

theorem Dev.loadReg_safeq (d : Dev) (t : Nat) : (d.loadReg t (COR_SAFEQ 0)).1 = d.safeqPop.1 := rfl

theorem Dev.safeqPop_word {d : Dev} {x : Nat} {r : List Nat} (h : d.safeq = x :: r) :
    d.safeqPop.1 = BitVec.ofNat 32 (0x80000000 + r.length * 0x10000 + x % 0x10000) := by
  rw [Dev.safeqPop, h]

theorem Dev.safeqPop_last {d : Dev} {x : Nat} (h : d.safeq = [x]) :
    d.safeqPop.2 = ({ d with safeq := [] } : Dev).dropLine 0 8 := by
  rw [Dev.safeqPop, h]
  rfl

theorem Dev.safeqPop_more {d : Dev} {x y : Nat} {r : List Nat} (h : d.safeq = x :: y :: r) :
    d.safeqPop.2 = { d with safeq := y :: r } := by
  rw [Dev.safeqPop, h]
  rfl

/-- Settles O18. -/
theorem safetyQueueFifo : Obligations.SafetyQueueFifo := by
  unfold Obligations.SafetyQueueFifo
  refine ⟨fun d code h => ?_, fun d code h => ?_, ?_⟩
  · rw [Dev.toSafeq_room d code h]
    exact ⟨Dev.raiseLine_safeq _ _ _, Dev.bit_raiseLine_low _ _ _ (by decide)⟩
  · rw [Dev.toSafeq, if_neg (Nat.not_lt.2 h), Dev.rated_safeq]
  · intro S T x r d hs hq
    refine ⟨by rw [Dev.loadReg_safeq, Dev.safeqPop_word hq], runsTo_of_on (f := fun d => d.safeqPop.2) rfl hs ?_⟩
    show d.safeqPop.2.safeq = r ∧ (r = [] → d.safeqPop.2.bit (COR_EVPEND0 0) 8 = false) ∧ (r ≠ [] → d.safeqPop.2.regs = d.regs)
    cases r with
    | nil =>
      rw [Dev.safeqPop_last hq]
      exact ⟨Dev.dropLine_safeq _ _ _, fun _ => Dev.bit_dropLine_low _ _ _ (by decide), fun hr => absurd rfl hr⟩
    | cons y r =>
      rw [Dev.safeqPop_more hq]
      exact ⟨rfl, nofun, fun _ => rfl⟩

/-! ## The record of an event of a later device -/

/-- A device that differs in neither the head of the event log nor the time gives the record of the event the same place and the
same content. -/
theorem record_evt_of {d d' : Dev} (hhead : d'.fld SYS_EVT_HEAD SYS_EVT_HEAD_HEAD = d.fld SYS_EVT_HEAD SYS_EVT_HEAD_HEAD)
    (hnow : d'.now = d.now) (hsec : d'.rd RTC_SEC = d.rd RTC_SEC) (code : Nat) (data : List Nat) :
    record d (d'.evt code data) = eventRec d (evClass code) code srcHw data := by
  have h : record d' (d'.evt code data) = eventRec d' (evClass code) code srcHw data := record_evtC d' _ _ _ _
  rwa [record, hhead, ← record, eventRec, hnow, hsec] at h

/-! ## The cullet list -/

theorem redGust_range (kind : Fin 8) (i : Fin 64) : 0x40251000 ≤ RED_GUST kind i ∧ RED_GUST kind i < 0x40252000 := by
  unfold RED_GUST
  omega

/-- The registers of the event log lie in the pages of SYS and of COR. -/
theorem isEvtReg_mid {a : Nat} (h : 0x40020000 ≤ a) (h' : a < 0x40300000) : isEvtReg a = false := by
  rw [Bool.eq_false_iff]
  intro hb
  simp only [isEvtReg, Bool.or_eq_true, decide_eq_true_eq, List.any_eq_true] at hb
  unfold SYS_EVT_HEAD SYS_EVT_CNT COR_EVPEND0 COR_EVPEND1 at hb
  rcases hb with (hb | hb) | ⟨t, -, hb | hb⟩ <;> omega

/-- A resource enters the cullet list, once, while there is room. -/
def Dev.listCullet (res reason : Nat) (d : Dev) : Dev :=
  if d.red.cull.any (fun c => c.res = res) then d
  else if d.red.cull.length < 256 then
    ({ d with red := { d.red with cull := d.red.cull ++ [Cull.mk res reason false false (d.rd RTC_SEC) d.now] } }).setF
      RED_STAT RED_STAT_CULLCNT (d.red.cull.length + 1)
  else (d.setF RED_STAT RED_STAT_CULLFULL 1).setF RED_FLT RED_FLT_CULLFULL 1

/-- A resource is marked retired. -/
def Dev.markRetired (kind i : Nat) (d : Dev) : Dev := (d.setF (RED_GUST kind i) RED_GUST_RETIRED 1).setF RED_FLT RED_FLT_GALE 1

theorem Dev.cullAdd_eq (d : Dev) (kind i reason : Nat) : d.cullAdd kind i reason =
    ((d.markRetired kind i).listCullet (resId kind i) reason).evt EV_RED_GALE (le2 (resId kind i) ++ [reason]) := by
  unfold Dev.cullAdd Dev.listCullet
  simp only [List.length_append, List.length_singleton]
  rfl

section
variable {d : Dev} {res reason : Nat}

theorem Dev.listCullet_listed (h : res ∈ d.red.cull.map (·.res)) : d.listCullet res reason = d :=
  if_pos (by simpa [List.any_eq_true] using h)

theorem Dev.listCullet_room (h : res ∉ d.red.cull.map (·.res)) (hroom : d.red.cull.length < 256) : d.listCullet res reason =
    ({ d with red := { d.red with cull := d.red.cull ++ [Cull.mk res reason false false (d.rd RTC_SEC) d.now] } } : Dev).setF
      RED_STAT RED_STAT_CULLCNT (d.red.cull.length + 1) :=
  (if_neg (by simpa [List.any_eq_true] using h)).trans (if_pos hroom)

theorem Dev.listCullet_full (h : res ∉ d.red.cull.map (·.res)) (hfull : 256 ≤ d.red.cull.length) : d.listCullet res reason =
    (d.setF RED_STAT RED_STAT_CULLFULL 1).setF RED_FLT RED_FLT_CULLFULL 1 :=
  (if_neg (by simpa [List.any_eq_true] using h)).trans (if_neg (Nat.not_lt.2 hfull))

/-- The cullet list writes no register but the status and the flags of RED. -/
theorem Dev.rd_listCullet {a : Nat} (hs : a ≠ RED_STAT) (hf : a ≠ RED_FLT) : (d.listCullet res reason).rd a = d.rd a := by
  by_cases h : res ∈ d.red.cull.map (·.res)
  · rw [Dev.listCullet_listed h]
  · rcases Nat.lt_or_ge d.red.cull.length 256 with hroom | hfull
    · rw [Dev.listCullet_room h hroom, Dev.rd_setF_ne _ _ _ _ _ hs]
      rfl
    · rw [Dev.listCullet_full h hfull, Dev.rd_setF_ne _ _ _ _ _ hf, Dev.rd_setF_ne _ _ _ _ _ hs]

theorem Dev.listCullet_now : (d.listCullet res reason).now = d.now := by
  by_cases h : res ∈ d.red.cull.map (·.res)
  · rw [Dev.listCullet_listed h]
  · rcases Nat.lt_or_ge d.red.cull.length 256 with hroom | hfull
    · rw [Dev.listCullet_room h hroom]; rfl
    · rw [Dev.listCullet_full h hfull]; rfl

theorem Dev.isSet_markRetired {kind i : Nat} (hf : RED_GUST kind i ≠ RED_FLT) :
    (d.markRetired kind i).isSet (RED_GUST kind i) RED_GUST_RETIRED = true := by
  rw [Dev.markRetired, Dev.isSet_setF_ne _ _ _ _ _ _ hf, Dev.isSet_setF_self _ _ _ _ (by decide)]
  rfl

end

/-- Settles O22: the resource is marked, listed and recorded, one after the other. -/
theorem galeEntersCulletList : Obligations.GaleEntersCulletList := by
  unfold Obligations.GaleEntersCulletList
  intro d kind i reason e res
  obtain ⟨hlo, hhi⟩ := redGust_range kind i
  obtain ⟨m, hm⟩ : ∃ m, m = d.markRetired kind i := ⟨_, rfl⟩
  have he : e = (m.listCullet res reason).evt EV_RED_GALE (le2 res ++ [reason.val]) := by rw [hm]; exact Dev.cullAdd_eq d kind i reason
  have hmred : m.red = d.red := by rw [hm]; rfl
  have hmnow : m.now = d.now := by rw [hm]; rfl
  have hmrd : ∀ a, a < 0x40250000 → m.rd a = d.rd a := fun a ha => by
    rw [hm, Dev.markRetired, Dev.rd_setF_ne _ _ _ _ _ (Nat.ne_of_lt (Nat.lt_trans ha (by decide))), Dev.rd_setF_ne _ _ _ _ _ (by omega)]
  have hrd : ∀ a, a < 0x40250000 → (m.listCullet res reason).rd a = d.rd a := fun a ha => by
    rw [Dev.rd_listCullet (Nat.ne_of_lt (Nat.lt_trans ha (by decide))) (Nat.ne_of_lt (Nat.lt_trans ha (by decide))), hmrd a ha]
  have hs : RED_GUST kind i ≠ RED_STAT := Nat.ne_of_gt (Nat.lt_of_lt_of_le (by decide) hlo)
  have hf : RED_GUST kind i ≠ RED_FLT := Nat.ne_of_gt (Nat.lt_of_lt_of_le (by decide) hlo)
  rw [he]
  refine ⟨?_, ?_, fun hin => ?_, fun hout hroom => ⟨?_, ?_⟩, fun hout hfull => ⟨?_, ?_⟩⟩
  · rw [Dev.isSet_evt _ _ _ _ _ (isEvtReg_mid (by omega) (by omega)), Dev.isSet, Dev.fld, Dev.rd_listCullet hs hf, ← Dev.fld,
      ← Dev.isSet, hm, Dev.isSet_markRetired hf]
  · exact record_evt_of (by rw [Dev.fld, hrd _ (by decide), Dev.fld]) (Dev.listCullet_now.trans hmnow) (hrd _ (by decide)) _ _
  · rw [Dev.evt_red, Dev.listCullet_listed (by rwa [hmred]), hmred]
  all_goals rw [← hmred] at hout
  · rw [← hmred] at hroom
    rw [Dev.evt_red, Dev.listCullet_room hout hroom, Dev.setF_red, hmred, hmnow, hmrd _ (by decide)]
  · rw [← hmred] at hroom
    rw [Dev.fld_evt _ _ _ _ _ (by decide), Dev.listCullet_room hout hroom, Dev.fld_setF_self _ _ _ _ (by decide), hmred]
    exact Nat.mod_eq_of_lt (Nat.lt_of_le_of_lt (Nat.succ_le_of_lt (hmred ▸ hroom)) (by decide))
  · rw [← hmred] at hfull
    rw [Dev.evt_red, Dev.listCullet_full hout hfull, Dev.setF_red, Dev.setF_red, hmred]
  · rw [← hmred] at hfull
    rw [Dev.isSet_evt _ _ _ _ _ (by decide), Dev.listCullet_full hout hfull, Dev.isSet_setF_ne _ _ _ _ _ _ (by decide),
      Dev.isSet_setF_self _ _ _ _ (by decide)]
    rfl

/-! ## The audit log -/

theorem Dev.audit_mram (d : Dev) (action role port key session target : Nat) (before after : List Byte) (x : Nat) :
    Mem.get 0 (d.audit action role port key session target before after).mram x =
      if auditBase + 64 * (d.sec.audHead % 16384) ≤ x ∧ x < auditBase + 64 * (d.sec.audHead % 16384) + 64 then
        (d.auditBytes action role port key session target before after).getD (x - (auditBase + 64 * (d.sec.audHead % 16384))) 0
      else Mem.get 0 d.mram x := by
  have h := Mem.get_putN 0 (d.auditBytes action role port key session target before after) d.mram
    (auditBase + 64 * (d.sec.audHead % 16384)) x
  rwa [Dev.auditBytes_length] at h

theorem getD_of_take {bs cs : List Byte} {n i : Nat} (h : bs.take n = cs) (hi : i < n) : bs.getD i 0 = cs.getD i 0 := by
  rw [← h, List.getD_eq_getElem?_getD, List.getD_eq_getElem?_getD, List.getElem?_take_of_lt hi]

/-- The first four bytes of a record are its index. -/
theorem Dev.audit_index (d : Dev) (action role port key session target : Nat) (before after : List Byte) :
    Mem.getN 0 (d.audit action role port key session target before after).mram (auditBase + 64 * (d.sec.audHead % 16384)) 4 =
      leBytes 4 d.sec.audHead := by
  refine List.ext_getElem (by simp [Mem.getN, leBytes_length]) (fun i hi hi' => ?_)
  have hi4 : i < 4 := by rwa [leBytes_length] at hi'
  have hget := getD_of_take (Dev.auditBytes_index d action role port key session target before after) hi4
  simp only [Mem.getN, List.getElem_map, List.getElem_range]
  rw [Dev.audit_mram, if_pos ⟨Nat.le_add_right _ _, by omega⟩, Nat.add_sub_cancel_left, hget]
  exact List.getD_eq_getElem _ _ hi'

/-- Settles O24. -/
theorem auditLogRing : Obligations.AuditLogRing := by
  unfold Obligations.AuditLogRing
  intro d action role port key session target before after i e hi
  refine ⟨rfl, ?_, fun x hx => ?_, fun h => if_pos h, fun h => if_neg (Nat.not_le.2 h), rfl⟩
  · rw [Mem.num, Dev.audit_index, leNat_leBytes]
    exact Nat.mod_eq_of_lt hi
  · rw [Dev.audit_mram, if_neg (fun h => by rcases hx with hx | hx <;> omega)]

/-! ## An OPEN that finds no room -/

theorem Dev.linkSend_sec (m : LinkMsg) (d : Dev) : (d.linkSend m).sec = d.sec := by
  unfold Dev.linkSend
  split <;> rfl

theorem Dev.foldl_linkSend_sec {α : Type} (m : α → LinkMsg) (xs : List α) (d : Dev) :
    (xs.foldl (fun d s => d.linkSend (m s)) d).sec = d.sec := by
  induction xs generalizing d with
  | nil => rfl
  | cons x r ih => rw [List.foldl_cons, ih, Dev.linkSend_sec]

/-- An answer opens no session and issues no challenge. -/
theorem Dev.answer_sec (port ctag : Nat) (msg : List Byte) (d : Dev) :
    (d.answer port ctag msg).sec.sessions = d.sec.sessions ∧ (d.answer port ctag msg).sec.chals = d.sec.chals := by
  unfold Dev.answer
  split
  · rw [Dev.foldl_linkSend_sec LinkMsg.session]
    exact ⟨rfl, rfl⟩
  · exact ⟨rfl, rfl⟩

theorem Dev.secBusy_iff (d : Dev) (port ctag : Nat) : d.secBusy port ctag = true ↔
    4 ≤ d.sec.sessions.length ∨ ∃ x ∈ d.sec.sessions, x.port = port ∧ x.ctag = ctag := by
  simp [Dev.secBusy, List.any_eq_true]

/-- Settles O23. -/
theorem fifthSessionIsBusy : Obligations.FifthSessionIsBusy := by
  unfold Obligations.FifthSessionIsBusy
  intro S T port ctag role key cnonce d hs hopen hrole hon hlock hbusy
  have hdenied : d.openDenied port ctag role key = some dnBusy := by
    have h0 : ¬ (decide (role = 0) || decide (3 < role)) = true := by simp; omega
    rw [Dev.openDenied, if_neg h0, hon, hlock, (Dev.secBusy_iff d port ctag).2 hbusy]
    rfl
  refine runsTo_of_on (f := fun d => d.secOpenMsg port ctag role key cnonce) rfl hs ?_
  rw [does_open_denied d port ctag role key cnonce dnBusy hopen hdenied]
  exact ⟨rfl, Dev.answer_sec port ctag _ d⟩

end Sys2Proof.Machine
end

section
/-! PROOFS. The trip groups (R141–R145): a group latches and captures its first source, and no function whose group is asserted is
enabled. -/

namespace Sys2Proof.Machine

/-! ## An enable while the group is asserted -/

/-- An event that does not reach the Gaffer leaves the record of an earlier event in its place. -/
theorem record_keep {d e : Dev} (h : e.fld SYS_EVT_HEAD SYS_EVT_HEAD_HEAD ≠ d.fld SYS_EVT_HEAD SYS_EVT_HEAD_HEAD) {code : Nat}
    (hcode : toGaffer (evClass code) code = false) (data : List Nat) : record d (e.evt code data) = record d e := by
  rw [Dev.evt_plain code data e hcode, record, Dev.logEvent_log, Tab.getD_set_ne _ _ _ _ _ h.symm, record]

theorem Dev.head_evt_plain (d : Dev) {code : Nat} (hcode : toGaffer (evClass code) code = false) (data : List Nat) :
    (d.evt code data).fld SYS_EVT_HEAD SYS_EVT_HEAD_HEAD ≠ d.fld SYS_EVT_HEAD SYS_EVT_HEAD_HEAD := by
  rw [Dev.evt_plain code data d hcode]
  exact Dev.head_moves d _ _ _ _

/-- The request to enable a function is no longer held. -/
def Dev.dropEnable (f : Nat) (d : Dev) : Dev := { d with red := { d.red with reqEnable := withBits d.red.reqEnable f 1 0 } }

/-- The refusal of a request that is held is an event. -/
theorem Dev.enableOutcome_refused (d : Dev) (f : Nat) (h : d.red.reqEnable.testBit f = true) :
    d.enableOutcome f false = (d.dropEnable f).evt EV_RED_FN_REQUEST (le2 f ++ [0, 2]) := by
  rw [Dev.enableOutcome, h]
  rfl

theorem sameMem_trans {d e f : Dev} (h : sameMem d e) (h' : sameMem e f) : sameMem d f := by
  obtain ⟨h₁, h₂, h₃, h₄, h₅, h₆⟩ := h
  obtain ⟨h₁', h₂', h₃', h₄', h₅', h₆'⟩ := h'
  exact ⟨h₁'.trans h₁, h₂'.trans h₂, h₃'.trans h₃, h₄'.trans h₄, h₅'.trans h₅, h₆'.trans h₆⟩

/-- Settles O21: the refused enable is an event, and so is the outcome of the request. -/
theorem noEnableWhileTripped : Obligations.NoEnableWhileTripped := by
  unfold Obligations.NoEnableWhileTripped
  intro S T f d hs hgroup hen hfunc henabling hreq
  refine runsTo_of_on rfl hs ?_
  rw [does_fncmdEnable_tripped d 0 false f rfl rfl hfunc hen henabling hreq hgroup]
  obtain ⟨m, hm⟩ : ∃ m, m = d.evt EV_TRP_ENABLE_REFUSED [d.fnGroup f, f.val] := ⟨_, rfl⟩
  have hcalm : d.calm m := hm ▸ Dev.calm_evt _ _ _
  have hmred : m.red = d.red := by rw [hm, Dev.evt_red]
  have hmrecord : record d m = eventRec d (evClass EV_TRP_ENABLE_REFUSED) EV_TRP_ENABLE_REFUSED srcHw [d.fnGroup f, f.val] :=
    hm ▸ record_evtC d _ _ _ _
  have hhead : m.fld SYS_EVT_HEAD SYS_EVT_HEAD_HEAD ≠ d.fld SYS_EVT_HEAD SYS_EVT_HEAD_HEAD := hm ▸ Dev.head_evt_plain d (by decide) _
  rw [← hm, Dev.enableOutcome_refused m f (hmred ▸ hreq)]
  have hkeep : onlyRegs [] d ((m.dropEnable f).evt EV_RED_FN_REQUEST (le2 f ++ [0, 2])) := fun a _ ha =>
    (Dev.rd_evt _ _ _ _ ha).trans (hcalm.2 a ha)
  have hdrop : sameMem m (m.dropEnable f) := ⟨rfl, rfl, rfl, rfl, rfl, rfl⟩
  refine ⟨?_, ?_, ?_, ?_, hkeep, ?_⟩
  · rw [Dev.enabled, Dev.isSet, Dev.fld, hkeep _ (List.not_mem_nil) (isEvtReg_fnstate f)]
    exact hen
  · rw [Dev.evt_legs, Dev.dropEnable, hcalm.1]
  · rw [Dev.evt_red, Dev.dropEnable, hmred]
  · exact (record_keep (e := m.dropEnable f) hhead (by decide) _).trans hmrecord
  · exact sameMem_trans (sameMem_calm hcalm) (sameMem_trans hdrop (sameMem_calm (Dev.calm_evt _ _ _)))

/-! ## Operations on each of a list -/

theorem Dev.forEach_establishes {P : Nat → Dev → Prop} {op : Nat → Dev → Dev} (hset : ∀ n d, P n (op n d))
    (hkeep : ∀ m n d, P n d → P n (op m d)) {xs : List Nat} {n : Nat} (hn : n ∈ xs) (d : Dev) : P n (d.forEach xs op) := by
  have hrest : ∀ (ys : List Nat) (d : Dev), P n d → P n (d.forEach ys op) := by
    intro ys
    induction ys with
    | nil => exact fun d h => h
    | cons y ys ih => exact fun d h => ih _ (hkeep y n d h)
  induction xs generalizing d with
  | nil => exact nomatch hn
  | cons x xs ih =>
    rcases List.mem_cons.1 hn with rfl | hn
    · exact hrest xs _ (hset n d)
    · exact ih hn _

/-! ## The trip response -/

/-- The windows of the legs and of the axes. -/
def inLegs (a : Nat) : Bool := 0x40100000 ≤ a && a < 0x40110000
def inAxes (a : Nat) : Bool := 0x40110000 ≤ a && a < 0x40120000

theorem inLegs_stat (n : Nat) (h : n < 48) : inLegs (LEG_STAT n) = true := by
  simp only [inLegs, LEG_STAT, Bool.and_eq_true, decide_eq_true_eq]
  omega

theorem inAxes_posstat (u : Nat) (h : u < 16) : inAxes (AXU_POSSTAT u) = true := by
  simp only [inAxes, AXU_POSSTAT, Bool.and_eq_true, decide_eq_true_eq]
  omega

theorem inAxes_stat (n : Nat) (h : n < 48) : inAxes (LEG_STAT n) = false := by
  simp only [inAxes, LEG_STAT, Bool.and_eq_false_iff, decide_eq_false_iff_not]
  omega

/-- One leg takes its trip response. -/
def Dev.tripLeg (n : Nat) (d : Dev) : Dev := (d.setF (LEG_STAT n) LEG_STAT_TRIPPED 1).legRefresh n

theorem Dev.isSet_tripLeg (d : Dev) (n : Nat) : (d.tripLeg n).isSet (LEG_STAT n) LEG_STAT_TRIPPED = true := by
  rw [Dev.tripLeg, Dev.legRefresh, Dev.isSet_setF_field _ _ _ _ _ (by decide) (by decide), Dev.isSet_setF_self _ _ _ _ (by decide)]
  rfl

theorem Dev.isSet_tripLeg_keep (d : Dev) (m n : Nat) (h : d.isSet (LEG_STAT n) LEG_STAT_TRIPPED = true) :
    (d.tripLeg m).isSet (LEG_STAT n) LEG_STAT_TRIPPED = true := by
  by_cases hmn : n = m
  · subst hmn
    exact Dev.isSet_tripLeg d n
  · have hne : LEG_STAT n ≠ LEG_STAT m := by unfold LEG_STAT; omega
    rw [Dev.tripLeg, Dev.legRefresh, Dev.isSet_setF_ne _ _ _ _ _ _ hne, Dev.isSet_setF_ne _ _ _ _ _ _ hne]
    exact h

theorem Dev.quiet_tripLegs (d : Dev) (f : Nat) (h : FuncRec.units (d.funcD f)) : d.quiet inLegs (d.tripLegs f) := by
  obtain ⟨hlegs, -⟩ := h
  refine Dev.quiet_forEach _ _ _ (fun n hn d => ?_)
  have hin := inLegs_stat n (hlegs n hn)
  exact Dev.quiet_trans (Dev.quiet_setF _ _ _ _ hin) (Dev.quiet_setF _ _ _ _ hin)

theorem Dev.quiet_posIdle_axes (d : Dev) (f : Nat) (h : FuncRec.units (d.funcD f)) : d.quiet inAxes (d.posIdle f) := by
  obtain ⟨-, -, haxes, -⟩ := h
  refine Dev.quiet_forEach _ _ _ (fun u hu d => ?_)
  have hin := inAxes_posstat u (haxes u (by simpa [Dev.fnAxus] using hu))
  split
  · exact Dev.quiet_refl d
  · exact Dev.quiet_trans (Dev.quiet_trans (Dev.quiet_setF _ _ _ _ hin) (Dev.quiet_setF _ _ _ _ hin)) (Dev.quiet_modAxu _ _ _)

/-- What the assertion of its group does to a function. -/
def Dev.tripFn (f : Nat) (d : Dev) : Dev :=
  let d := (d.tripLegs f).posIdle f
  { d with bkg := { d.bkg with assertions := Tab.set f (Tab.getD 0 d.bkg.assertions f + 1) d.bkg.assertions } }

theorem Dev.tripFn_tk (d : Dev) (f : Nat) : (d.tripFn f).tk = d.tk := by
  have hidle : ∀ d : Dev, (d.posIdle f).tk = d.tk := fun d => by
    refine Dev.forEach_tk _ _ (fun u d => ?_) d
    split <;> rfl
  exact (hidle _).trans (Dev.forEach_tk (d.fnLegs f) Dev.tripLeg (fun _ _ => rfl) d)

/-- The response of a function changes registers of its legs and of its axes. -/
theorem Dev.tripFn_frame {d : Dev} {f : Nat} (h : FuncRec.units (d.funcD f)) :
    (d.tripFn f).log = d.log ∧ ∀ a, inLegs a = false → inAxes a = false → (d.tripFn f).rd a = d.rd a := by
  obtain ⟨hlog, himg, hrd⟩ := Dev.quiet_tripLegs d f h
  obtain ⟨hlog', -, hrd'⟩ := Dev.quiet_posIdle_axes (d.tripLegs f) f (by rwa [Dev.funcD, himg])
  exact ⟨hlog'.trans hlog, fun a hl ha => (hrd' a ha).trans (hrd a hl)⟩

theorem Dev.tripFn_legs {d : Dev} {f n : Nat} (h : FuncRec.units (d.funcD f)) (hn : n ∈ (d.funcD f).legs) :
    (d.tripFn f).isSet (LEG_STAT n) LEG_STAT_TRIPPED = true := by
  have himg : (d.tripLegs f).img = d.img := (Dev.quiet_tripLegs d f h).2.1
  obtain ⟨-, -, hrd⟩ := Dev.quiet_posIdle_axes (d.tripLegs f) f (by rwa [Dev.funcD, himg])
  have hset : (d.tripLegs f).isSet (LEG_STAT n) LEG_STAT_TRIPPED = true :=
    Dev.forEach_establishes (P := fun n d => Dev.isSet d (LEG_STAT n) LEG_STAT_TRIPPED = true) (fun n d => Dev.isSet_tripLeg d n)
      (fun m n d => Dev.isSet_tripLeg_keep d m n) hn d
  show ((d.tripLegs f).posIdle f).isSet _ _ = true
  rw [Dev.isSet, Dev.fld, hrd _ (inAxes_stat n (h.1 n hn))]
  exact hset

/-! ## The assertion of a group -/

/-- The source and the instant of an assertion are captured. -/
def Dev.capture (g x : Nat) (d : Dev) : Dev :=
  (((d.putBit TRP_STAT g true).wr (TRP_GFIRST g) (BitVec.ofNat 32 (0x80000000 + x))).wr64 (TRP_GSTAMP_LO g) (TRP_GSTAMP_HI g) d.now).incSat
    (TRP_GCNT g) TRP_GCNT_TRIPS

theorem Dev.assertGroup_eq (d : Dev) (g x : Nat) :
    d.assertGroup g x = ((d.capture g x).whenSome (d.groupFn g) Dev.tripFn).evt EV_TRP_GROUP_TRIP [g, x] := rfl

section
variable (d : Dev) (g : Fin 16) (x : Nat)

theorem Dev.rd_capture (a : Nat) (h : a < 0x40160000) : (d.capture g x).rd a = d.rd a := by
  have hne : ∀ b, 0x40160000 ≤ b → a ≠ b := fun b hb => Nat.ne_of_lt (Nat.lt_of_lt_of_le h hb)
  rw [Dev.capture, Dev.rd_incSat_ne _ _ _ _ (hne _ (by unfold TRP_GCNT; omega)), Dev.wr64,
    Dev.rd_wr_ne _ _ _ _ (hne _ (by unfold TRP_GSTAMP_HI; omega)), Dev.rd_wr_ne _ _ _ _ (hne _ (by unfold TRP_GSTAMP_LO; omega)),
    Dev.rd_wr_ne _ _ _ _ (hne _ (by unfold TRP_GFIRST; omega)), Dev.rd_putBit_ne _ _ _ _ _ (hne _ (by decide))]

theorem Dev.asserted_capture : (d.capture g x).asserted g = true := by
  rw [Dev.asserted, Dev.capture, Dev.bit_incSat_ne _ _ _ _ _ (by unfold TRP_STAT TRP_GCNT; omega), Dev.wr64,
    Dev.bit_wr_ne _ _ _ _ _ (by unfold TRP_STAT TRP_GSTAMP_HI; omega), Dev.bit_wr_ne _ _ _ _ _ (by unfold TRP_STAT TRP_GSTAMP_LO; omega),
    Dev.bit_wr_ne _ _ _ _ _ (by unfold TRP_STAT TRP_GFIRST; omega), Dev.bit_putBit _ _ _ _ _ (by omega), if_pos rfl]

theorem Dev.gfirst_capture : (d.capture g x).rd (TRP_GFIRST g) = BitVec.ofNat 32 (0x80000000 + x) := by
  rw [Dev.capture, Dev.rd_incSat_ne _ _ _ _ (by unfold TRP_GFIRST TRP_GCNT; omega), Dev.wr64,
    Dev.rd_wr_ne _ _ _ _ (by unfold TRP_GFIRST TRP_GSTAMP_HI; omega), Dev.rd_wr_ne _ _ _ _ (by unfold TRP_GFIRST TRP_GSTAMP_LO; omega),
    Dev.rd_wr_self]

theorem Dev.gstamp_capture : (d.capture g x).rd (TRP_GSTAMP_LO g) = d.now.setWidth 32 ∧
    (d.capture g x).rd (TRP_GSTAMP_HI g) = (d.now >>> 32).setWidth 32 := by
  constructor
  · rw [Dev.capture, Dev.rd_incSat_ne _ _ _ _ (by unfold TRP_GSTAMP_LO TRP_GCNT; omega), Dev.wr64,
      Dev.rd_wr_ne _ _ _ _ (by unfold TRP_GSTAMP_LO TRP_GSTAMP_HI; omega), Dev.rd_wr_self]
  · rw [Dev.capture, Dev.rd_incSat_ne _ _ _ _ (by unfold TRP_GSTAMP_HI TRP_GCNT; omega), Dev.wr64, Dev.rd_wr_self]

/-- The function that names the group responds, and nothing but its legs and axes changes. -/
theorem Dev.respond_frame (hu : ∀ f, d.groupFn g = some f → FuncRec.units (d.funcD f)) {m : Dev} (hm : m.img = d.img) :
    (m.whenSome (d.groupFn g) Dev.tripFn).tk = m.tk ∧ (m.whenSome (d.groupFn g) Dev.tripFn).log = m.log ∧
      (∀ a, inLegs a = false → inAxes a = false → (m.whenSome (d.groupFn g) Dev.tripFn).rd a = m.rd a) ∧
      ∀ f n, d.groupFn g = some f → n ∈ (d.funcD f).legs →
        (m.whenSome (d.groupFn g) Dev.tripFn).isSet (LEG_STAT n) LEG_STAT_TRIPPED = true := by
  cases hg : d.groupFn g with
  | none => exact ⟨rfl, rfl, fun _ _ _ => rfl, nofun⟩
  | some f =>
    have hfn : m.funcD f = d.funcD f := by rw [Dev.funcD, hm, ← Dev.funcD]
    have hum : FuncRec.units (m.funcD f) := hfn ▸ hu f hg
    obtain ⟨hlog, hrd⟩ := Dev.tripFn_frame hum
    refine ⟨Dev.tripFn_tk m f, hlog, hrd, fun f' n hf hn => ?_⟩
    obtain rfl : f = f' := Option.some.inj hf
    exact Dev.tripFn_legs hum (hfn ▸ hn)

end

theorem isEvtReg_leg (n : Nat) (h : n < 48) : isEvtReg (LEG_STAT n) = false :=
  isEvtReg_mid (by unfold LEG_STAT; omega) (by unfold LEG_STAT; omega)

/-- A group that becomes asserted (R143). -/
theorem Dev.assertGroup_holds (d : Dev) (g : Fin 16) (x : Nat) (hu : ∀ f, d.groupFn g = some f → FuncRec.units (d.funcD f)) :
    (d.assertGroup g x).asserted g = true ∧ (d.assertGroup g x).rd (TRP_GFIRST g) = BitVec.ofNat 32 (0x80000000 + x) ∧
      (d.assertGroup g x).rd (TRP_GSTAMP_LO g) = d.now.setWidth 32 ∧
      (d.assertGroup g x).rd (TRP_GSTAMP_HI g) = (d.now >>> 32).setWidth 32 ∧
      record d (d.assertGroup g x) = eventRec d (evClass EV_TRP_GROUP_TRIP) EV_TRP_GROUP_TRIP srcHw [g.val, x] ∧
      ∀ f n, d.groupFn g = some f → n ∈ (d.funcD f).legs → (d.assertGroup g x).isSet (LEG_STAT n) LEG_STAT_TRIPPED = true := by
  obtain ⟨htk, -, hrd, hlegs⟩ := Dev.respond_frame d g hu (m := d.capture g x) rfl
  obtain ⟨hlo, hhi⟩ := Dev.gstamp_capture d g x
  have htrip : ∀ a, 0x40160000 ≤ a → a < 0x40170000 → (d.assertGroup g x).rd a = (d.capture g x).rd a := fun a h h' => by
    rw [Dev.assertGroup_eq, Dev.rd_evt _ _ _ _ (isEvtReg_mid (by omega) (by omega)),
      hrd a (by simp [inLegs]; omega) (by simp [inAxes]; omega)]
  have hlow : ∀ a, a < 0x40100000 → ((d.capture g x).whenSome (d.groupFn g) Dev.tripFn).rd a = d.rd a := fun a h => by
    rw [hrd a (by simp [inLegs]; omega) (by simp [inAxes]; omega), Dev.rd_capture d g x a (by omega)]
  refine ⟨?_, ?_, ?_, ?_, ?_, fun f n hf hn => ?_⟩
  · rw [Dev.asserted, Dev.bit, htrip _ (by decide) (by decide)]
    exact Dev.asserted_capture d g x
  · rw [htrip _ (by unfold TRP_GFIRST; omega) (by unfold TRP_GFIRST; omega), Dev.gfirst_capture]
  · rw [htrip _ (by unfold TRP_GSTAMP_LO; omega) (by unfold TRP_GSTAMP_LO; omega), hlo]
  · rw [htrip _ (by unfold TRP_GSTAMP_HI; omega) (by unfold TRP_GSTAMP_HI; omega), hhi]
  · rw [Dev.assertGroup_eq]
    exact record_evt_of (by rw [Dev.fld, hlow _ (by decide), Dev.fld]) (by rw [Dev.now, htk]; rfl) (hlow _ (by decide)) _ _
  · obtain ⟨h48, -⟩ := hu f hf
    rw [Dev.assertGroup_eq, Dev.isSet_evt _ _ _ _ _ (isEvtReg_leg n (h48 n hn))]
    exact hlegs f n hf hn

/-! ## The matrix looks at a group -/

/-- What the matrix notes of a group that latches. -/
def Dev.noteGroup (g : Nat) (d : Dev) : Dev :=
  let xs := d.trueSources g
  d.modTrp g (fun s =>
    { s with hardSrc := s.hardSrc || xs.any (fun x => 96 ≤ x)
             falseSince := if xs.isEmpty then (if s.falseSince.isSome then s.falseSince else some d.now) else none })

section
variable {d : Dev} {g : Nat}

theorem Dev.evalGroup_follows (hl : d.latching = false) : d.evalGroup g = d.putBit TRP_STAT g (!(d.trueSources g).isEmpty) := by
  rw [Dev.evalGroup, hl]
  rfl

theorem Dev.evalGroup_quiet (hl : d.latching = true) (hx : d.trueSources g = []) : d.evalGroup g = d.noteGroup g := by
  rw [Dev.evalGroup, Dev.noteGroup, hl, hx]
  rfl

theorem Dev.evalGroup_source {x : Nat} {r : List Nat} (hl : d.latching = true) (hx : d.trueSources g = x :: r) :
    d.evalGroup g = if d.asserted g then d.noteGroup g else (d.noteGroup g).assertGroup g x := by
  rw [Dev.evalGroup, Dev.noteGroup, hl, hx]
  rfl

theorem Dev.evalGroup_asserted (hl : d.latching = true) (ha : d.asserted g = true) : d.evalGroup g = d.noteGroup g := by
  cases hx : d.trueSources g with
  | nil => exact Dev.evalGroup_quiet hl hx
  | cons x r => rw [Dev.evalGroup_source hl hx, ha, if_pos rfl]

end

/-- Settles O20. -/
theorem tripGroupLatches : Obligations.TripGroupLatches := by
  unfold Obligations.TripGroupLatches
  intro d g e
  refine ⟨fun hl ha => ?_, fun hl ha hx => ?_, fun x r hl ha hx hu => ?_, fun hl => ?_⟩
  · have he : e = d.noteGroup g := Dev.evalGroup_asserted hl ha
    rw [he]
    exact ⟨ha, rfl, rfl⟩
  · have he : e = d.noteGroup g := Dev.evalGroup_quiet hl hx
    rw [he]
    exact ⟨ha, rfl, rfl⟩
  · have he : e = (d.noteGroup g).assertGroup g x := by
      show d.evalGroup g = _
      rw [Dev.evalGroup_source hl hx, ha, if_neg Bool.false_ne_true]
    rw [he]
    exact Dev.assertGroup_holds (d.noteGroup g) g x hu
  · have he : e = d.putBit TRP_STAT g (!(d.trueSources g).isEmpty) := Dev.evalGroup_follows hl
    rw [he]
    refine ⟨?_, fun a ha _ => Dev.rd_putBit_ne _ _ _ _ _ (fun h => ha (h ▸ List.mem_singleton.2 rfl)), rfl⟩
    rw [Dev.asserted, Dev.bit_putBit _ _ _ _ _ (by omega), if_pos rfl]
    cases d.trueSources g <;> rfl

end Sys2Proof.Machine
end

section
/-! PROOFS. A word stored to local SRAM and loaded again (chapter 16). -/

namespace Sys2Proof.Machine

/-! ## Bytes of a memory -/

theorem Mem.getN_putN (dflt : Byte) (m : Mem) (a : Nat) (bs : List Byte) :
    Mem.getN dflt (Mem.putN dflt a bs m) a bs.length = bs := by
  refine List.ext_getElem (by simp [Mem.getN]) (fun i hi hi' => ?_)
  simp only [Mem.getN, List.getElem_map, List.getElem_range]
  rw [Mem.get_putN, if_pos ⟨Nat.le_add_right _ _, Nat.add_lt_add_left hi' a⟩, Nat.add_sub_cancel_left]
  exact List.getD_eq_getElem _ _ hi'

theorem Mem.num_putN_leBytes (m : Mem) (a n v : Nat) : Mem.num (Mem.putN 0 a (leBytes n v) m) a n = v % 256 ^ n := by
  have h := Mem.getN_putN 0 m a (leBytes n v)
  rw [leBytes_length] at h
  rw [Mem.num, h, leNat_leBytes]

theorem leBytes_getD {n i : Nat} (v : Nat) (h : i < n) : (leBytes n v).getD i 0 = BitVec.ofNat 8 (v / 256 ^ i) := by
  have hpow : (256 : Nat) ^ i = 2 ^ (8 * i) := by rw [Nat.pow_mul]
  rw [List.getD_eq_getElem _ _ (by rwa [leBytes_length]), hpow, ← Nat.shiftRight_eq_div_pow]
  simp [leBytes]

/-! ## The triad after its store -/

section
variable {d : Dev} {t : Nat}

/-- What an access may do depends on the protection registers and on the mode. -/
theorem Dev.accessFault_putTriad {x : Triad} (h : x.core.sup = (d.triad t).core.sup) (kind a n align : Nat) :
    (d.putTriad t x).accessFault t kind a n align = d.accessFault t kind a n align := by
  have hsup : ((d.putTriad t x).triad t).core.sup = (d.triad t).core.sup := by
    rw [← h]
    exact congrArg (fun y : Triad => y.core.sup) (Tab.getD_set_self _ _ _ _)
  unfold Dev.accessFault Dev.permitted
  rw [hsup]
  rfl

theorem Dev.finish_wait (f : Core → Core) (h : d.triadLive t = true) : ((d.finish t f).triad t).wait = .none := by
  rw [Dev.finish, if_pos h, Dev.triad_modTriad]

theorem Dev.triadLive_modTriad (g : Triad → Triad) (hg : ∀ x, (g x).wait = x.wait) : (d.modTriad t g).triadLive t = d.triadLive t := by
  unfold Dev.triadLive
  rw [Dev.triad_modTriad, hg]

/-- A store with nothing to replay is voted, stores its bytes, and completes. -/
theorem Dev.store_fresh {ra n : Nat} {disp : BitVec 16} {val : Core → W} (h : d.ready t) (hr : (d.triad t).replay = [])
    (ha : d.accessFault t ecStore ((d.triad t).core.memAddr ra disp) n n = none) : d.store t ra n disp val =
      ((d.acted t ⟨ekStore + 16 * n, (d.triad t).core.memAddr ra disp, leNat (leBytes n (val (d.triad t).core).toNat)⟩).storeN t
        ((d.triad t).core.memAddr ra disp) (leBytes n (val (d.triad t).core).toNat)).finish t Core.next := by
  unfold Dev.store
  rw [Dev.instr_ready d t _ h]
  dsimp only
  rw [ha]
  unfold Dev.vote
  rw [hr]
  rfl

theorem Dev.storeWord_wait {ra : Nat} {disp : BitVec 16} {val : Core → W} (h : d.ready t) (hr : (d.triad t).replay = [])
    (ha : d.accessFault t ecStore ((d.triad t).core.memAddr ra disp) 4 4 = none)
    (hl : inLocal ((d.triad t).core.memAddr ra disp) = true) : ((d.store t ra 4 disp val).triad t).wait = .none := by
  obtain ⟨halign, -, -⟩ := Dev.accessFault_none ha
  rw [Dev.store_fresh h hr ha]
  refine Dev.finish_wait _ ?_
  rw [Dev.storeN_local _ _ _ _ (List.ne_nil_of_length_pos (by rw [leBytes_length]; decide)) (by rw [leBytes_length, halign]) hl,
    Dev.triadLive_modTriad, Dev.acted, Dev.triadLive_modTriad]
  · exact d.ready_live t h
  all_goals exact fun _ => rfl

/-- The triad that has stored a word executes its next instruction. -/
theorem Dev.storeWord_ready {ra : Nat} {disp : BitVec 16} {val : Core → W} (h : d.ready t) (hr : (d.triad t).replay = [])
    (ha : d.accessFault t ecStore ((d.triad t).core.memAddr ra disp) 4 4 = none)
    (hl : inLocal ((d.triad t).core.memAddr ra disp) = true)
    (hf : d.accessFault t ecFetch (d.triad t).core.next.pc.toNat 4 4 = none) : (d.store t ra 4 disp val).ready t ∧
      ∀ kind a n align, (d.store t ra 4 disp val).accessFault t kind a n align = d.accessFault t kind a n align := by
  obtain ⟨-, hcore, x, hx⟩ := Dev.store_local d t ra 4 disp val h hr (by decide) ha hl
  have hwait := Dev.storeWord_wait (val := val) h hr ha hl
  rw [hx] at hcore hwait ⊢
  have hput : (d.putTriad t x).triad t = x := Tab.getD_set_self _ _ _ _
  have hfault := Dev.accessFault_putTriad (d := d) (t := t) (x := x) (by rw [← hput, hcore]; rfl)
  exact ⟨⟨h.1, hwait, by rw [hcore, hfault, hf]⟩, hfault⟩

end

/-- Settles O28. -/
theorem storeThenLoad : Obligations.StoreThenLoad := by
  unfold Obligations.StoreThenLoad
  intro S k rs ra rd disp d c a hready hreplay hlocal hstore hload hfetch
  obtain ⟨hlram, hcore, hother⟩ := does_stw d k rs ra disp hready hreplay hstore hlocal
  obtain ⟨hready', hfault⟩ := Dev.storeWord_ready (val := fun c => c.getW rs) hready hreplay hstore hlocal hfetch
  refine runsTo_of_onNow (f := fun d => d.store k ra 4 disp (fun c => c.getW rs)) rfl ?_
  obtain ⟨e, he⟩ : ∃ e, e = d.store k ra 4 disp (fun c => c.getW rs) := ⟨_, rfl⟩
  rw [← he] at hlram hcore hother hready' hfault
  change (e.triad k).lram = Mem.putN 0 a (leBytes 4 (c.getW rs).toNat) (d.triad k).lram at hlram
  change (e.triad k).core = c.next at hcore
  show (∀ x, _ → Mem.get 0 ((Dev.store _ _ _ _ _ _).triad k).lram x = _) ∧ _
  rw [← he]
  refine ⟨fun x hx => ?_, fun i hi => ?_, fun rest => ?_⟩
  · rw [hlram, Mem.get_putN, if_neg (by rw [leBytes_length]; omega)]
  · rw [hlram, Mem.get_putN, if_pos (by rw [leBytes_length]; omega), Nat.add_sub_cancel_left, leBytes_getD _ hi]
  · have haddr : (e.triad k).core.memAddr ra disp = a := by rw [hcore]; rfl
    have hword : BitVec.ofNat 32 (Mem.num (e.triad k).lram a 4) = c.getW rs := by
      rw [hlram, Mem.num_putN_leBytes, Nat.mod_eq_of_lt (show _ < 256 ^ 4 from (c.getW rs).isLt), BitVec.ofNat_toNat, BitVec.setWidth_eq]
    have hload' : e.load k ra 4 disp (fun v c => c.setW rd (BitVec.ofNat 32 v)) = _ :=
      does_ldw e k rd ra disp hready' (by rw [haddr, hfault, hload]) (by rw [haddr, hlocal])
    rw [haddr, hword, hcore] at hload'
    obtain ⟨x, hx⟩ := hother
    refine runsTo_of_onNow (f := fun d => d.load k ra 4 disp (fun v c => c.setW rd (BitVec.ofNat 32 v))) rfl ?_
    show ((Dev.load _ _ _ _ _ _).triad k).core = _ ∧ (Dev.load _ _ _ _ _ _).sram = _ ∧ (Dev.load _ _ _ _ _ _).regs = _
    rw [hload', Dev.triad_modTriad, hx]
    exact ⟨rfl, rfl, rfl⟩

end Sys2Proof.Machine
end
